-- ==== Sys2Proof/Word.lean ====
section
/-!
DEFINITION. The word types of the hub and the plain data that State is built from.
Every multi-byte field of the hub is little-endian (R4); bit 0 is the least significant bit.
-/

namespace Sys2Proof

/-- A byte of a frame, a buffer or a table. -/
abbrev Byte := BitVec 8
/-- A 4-byte word of the set-up space. -/
abbrev Word := BitVec 32
/-- An 8-byte word: a VALUE, a fabric address, a TIMESTAMP. -/
abbrev DWord := BitVec 64

/-- Sparse data by number: pairs of a key and a value in ONE canonical form, keys strictly rising and no entry equal to
what an unlisted key reads as. What an unlisted key reads as is given with each map. -/
abbrev NMap (α : Type) := List (Nat × α)

end Sys2Proof
end

