-- ==== Sys2Proof/Syntax.lean ====
section
/-!
DEFINITION. The commands of the hub: one constructor of `Instr` for each row of spec/opcode_table.json, with the operands that
come from outside the hub (a frame that arrives, data a host returns, a measured value, the address and value of a register
write). Numbers that the manual gives as bit fields (node IDs, tags, offsets) are carried as the numbers they spell;
`WellFormed.lean` bounds them. A command is an event: what it does is in `Machine/`.
-/

namespace Sys2Proof

/-- How a receiver finds the tag of a frame or slice (R148, R149): valid, the poison marker, another tag, or the unit was
cut short. -/
inductive Mark where
  | valid | poisoned | tagFail | cut
deriving DecidableEq, Repr

/-- One slot of a SWEEP frame (Table 06-2): the station, the flags, the cycle, and its OUT and IN parts. `rsv` are the header's reserved bits
(01[7:5], then 0C to 0F); `rxTag` is the tag that arrived, which the receiver compares (R149), and none where the command says how the
comparison comes out. `outMiss` and `inMiss` count the bytes of the parts that its header announces and that did not come, in a slice cut short. -/
structure Slice where
  station : Nat := 0
  written : Bool := false
  fresh : Bool := false
  outSet : Bool := true
  safe : Bool := false
  degraded : Bool := false
  cycle : Nat := 0
  outPart : List Byte := []
  inPart : List Byte := []
  mark : Mark := .valid
  rsv : Nat := 0
  rxTag : Option (BitVec 128) := none
  outMiss : Nat := 0
  inMiss : Nat := 0
deriving DecidableEq, Repr

/-- A ring frame (Tables 05-4 to 05-6). `typ` is TYPE; `ext` the 32-byte extension of REQ and RSP; `mark` is how the receiver
finds the frame's tag (`valid` or `poisoned` in a frame the hub sends). LEN is the payload's length, with the `missing` bytes of a frame
that was cut short, or the slice count, with the `missing` slices of a copy cut short. `rsv` are the reserved header bits in the order of Table 05-5: 02[15:14], 04[31:18], 08[31:22],
0E[15:12] and 10[15]. `rxTag` is the tag that arrived, which the receiver compares (R149), and none where the command says how the
comparison comes out. -/
structure Frame where
  typ : Nat := 0
  ver : Nat := 1
  ceEcho : Bool := false
  wrap : Nat := 0
  epoch : Bool := false
  ce : Bool := false
  tc : Nat := 0
  xcnt : Nat := 0
  hops : Nat := 0
  dst : Nat := 0
  tn : Nat := 0
  src : Nat := 0
  gen : Nat := 0
  tag : Nat := 0
  lseq : Nat := 0
  td : Nat := 0
  op : Nat := 0
  sub : Nat := 0
  fcnt : Nat := 0
  arg : Nat := 0
  ext : List Byte := []
  payload : List Byte := []
  slices : List Slice := []
  mark : Mark := .valid
  rsv : Nat := 0
  missing : Nat := 0
  rxTag : Option (BitVec 128) := none
deriving DecidableEq, Repr

/-- A 66-bit block of a lane (R135, R136): a control block (sync header 0b10) or a data block (0b01), and its eight bytes, of which a control
block's first is its type. -/
structure Block where
  ctl : Bool
  body : List Byte
deriving DecidableEq, Repr

/-- Two consecutive blocks that a lane receives between frames (R137). -/
structure SetPair where
  a : Block
  b : Block
deriving DecidableEq, Repr

/-- Where a request was built: by this hub for the transaction of tag `tag` (it completes here), or by another hub. -/
inductive Origin where
  | here (tag : Nat) | ring
deriving DecidableEq, Repr

/-- A request, as a descriptor (Table 04-1) or a REQ frame (Tables 05-5 and 05-7) carries it. `src` and `tn` name the issuing
hub and tenant, `node`, `space` and `off` are the fields of FA (Table 01-2), `operand` is descriptor bytes 0x20 to 0x2F and
`data` the WRITE, SEND, TABLE_LOAD or UPDATE data. `late` is set when a timed operation arrived after its TIME (R124). -/
structure Req where
  origin : Origin := .ring
  src : Nat := 0
  tn : Nat := 0
  tag : Nat := 0
  gen : Nat := 0
  op : Nat := 0
  opx : Nat := 0
  node : Nat := 0
  space : Nat := 0
  off : Nat := 0
  len : Nat := 0
  tc : Nat := 0
  ce : Bool := false
  timed : Bool := false
  idemp : Bool := false
  locked : Bool := false
  inlined : Bool := false
  reissue : Bool := false
  late : Bool := false
  lockId : Nat := 0
  time : Nat := 0
  td : Nat := 0
  operand : List Byte := []
  data : List Byte := []
deriving DecidableEq, Repr

/-- What a read of host memory gives (R91): the data, or a failure (Unsupported Request, Completer Abort, completion timeout,
poisoned TLP, or for kind RING a response other than OK). -/
inductive HostData where
  | data (bytes : List Byte) | failed
deriving DecidableEq, Repr

/-- Who makes a set-up access (R522): PF0, the virtual function of slot `t`, or a ring REQ. -/
inductive Requester where
  | pf0 | vf (t : Nat) | ring (src tn : Nat)
deriving DecidableEq, Repr

/-- An entry of a function's MSI-X table (R83). -/
structure MsixEntry where
  vec : Fin 128
  addr : BitVec 64 := 0
  data : BitVec 32 := 0
  masked : Bool := true
deriving DecidableEq, Repr

/-- A response that reaches the issuing hub (RSP_RECEIVE): the RSP frame of a transaction, or the outcome of one of the hub's
own writes to the memory of a slot of kind RING: of a completion entry (R91, R83), of the data of the transaction of tag `k` (R92), or of the zero that
clears the summary byte of a pair (R91). -/
inductive RspIn where
  | frame (port : Nat) (f : Frame)
  | cqWrite (pair : Nat) (ok : Bool)
  | dataWrite (k : Nat) (ok : Bool)
  | sumWrite (pair : Nat) (ok : Bool)
deriving DecidableEq, Repr

/-- An error in the queue manager's memories (R94): corrected, uncorrectable in the state of one pair or of one of its transactions,
or uncorrectable in shared state. -/
inductive QmError where
  | corrected | pair (p : Nat) | shared
deriving DecidableEq, Repr

/-- An error in the reflex engine's memories (R393): corrected; in the active copy of a row, a machine, a curve or a format table; or
in the state of a row or a machine. -/
inductive RfxError where
  | corrected | row (r : Fin 4096) | machine (m : Fin 256) | curve (k : Fin 1024) | format (t : Fin 512)
  | rowState (r : Fin 4096) | machineState (m : Fin 256)
deriving DecidableEq, Repr

/-- What happens at a pin (R235, R237): the glitch filter accepts a level of the comparator, before INV, or a raw edge that it has not
accepted. -/
inductive PinEvent where
  | accepted (level : Bool) | raw (rising : Bool)
deriving DecidableEq, Repr

/-- A sample of a channel in the window of a capture instant (R267): its raw code, and how many ns before C_k it ended. -/
structure MeasSample where
  code : Int
  ago : Nat
deriving DecidableEq, Repr

/-- The samples of every channel that ended in the window, oldest first; channel c = 4 × port + pin. -/
abbrev Measured := List (Nat × List MeasSample)

/-- A response of a Modbus station (R292, R293), without its CRC: the register bytes (none for a write), an exception code, or a frame with
a CRC or framing error, or discarded for a gap (R294). -/
inductive ModbusRsp where
  | data (b : List Byte) | exception (code : Nat) | bad
deriving DecidableEq, Repr

/-- What auto-detection does next (R298): controller `i` of kind `k` tries its next candidate rate, or the decoders that watch a pair of port `i`
report what they recognise: 0 nothing, 1 silence for 1 s, 2 CAN, 3 UART, 4 SPE. -/
inductive AutoStep where
  | rate (k : Fin 5) | bus (pair : Fin 2) (seen : Fin 5)
deriving DecidableEq, Repr

/-- An ISDU response (R293): data (none for a write), or ErrorCode and AdditionalCode. -/
inductive IsduRsp where
  | data (b : List Byte) | error (code : Nat)
deriving DecidableEq, Repr

/-- A field-bus frame that ends at its receiver: its bytes, and how long ago, in 2^-16 ns, the instant of Table 12-3 was. -/
structure BusFrame where
  bytes : List Byte
  ago : Nat := 0
deriving DecidableEq, Repr

/-- An error in the bridge (R355, R341): corrected; uncorrectable in a port's queue, in a tunnel's queue; or a parity error in the line of
the read cache at a place in the order of use. -/
inductive BrgError where
  | corrected | request (p : Fin 64) (n : Nat) | tunnel (t : Fin 64) (n : Nat) | line (n : Nat)
deriving DecidableEq, Repr

/-- A rule row's state: whether it is loaded with EN 1, whether it has run since its load, its result (64 bits) and whether that is raw
(FMT_ENC), its reason; for time-based rows the output level, the logical A of the last run, the S of the run at which that level began,
the S at which a pulse began; the PI integrator, the S of the last run, and RAMP's last finite result. Times are nanoseconds of TD0. -/
structure RowSt where
  en : Bool := false
  ran : Bool := false
  res : Nat := 0
  raw : Bool := false
  reason : Nat := 0
  out : Bool := false
  prev : Bool := false
  since : Nat := 0
  start : Nat := 0
  integ : Nat := 0
  lastS : Nat := 0
  finite : Option Nat := none
deriving DecidableEq, Repr

/-- A Briar channel (Table 11-1): STATE (0 HALTED, 1 RUN, 2 STALLED, 3 WAIT_START), PC and bank, registers, shift counts, PINS and PINDIRS,
FLAGS, the FIFOs (an RX word with the local time at which it entered), the delay cycles of its last instruction; a swap pending (R327);
the start time and its domain while in WAIT_START; and for a stalled instruction its word, the target of a TIMEWAIT as a nanosecond
count, and whether the cycle interrupt that a WAIT IRQ waits for has occurred. -/
structure Chan where
  st : Nat := 0
  pc : Nat := 0
  bank : Nat := 0
  x : Nat := 0
  y : Nat := 0
  isr : Nat := 0
  isrCnt : Nat := 0
  osr : Nat := 0
  osrCnt : Nat := 0
  pins : Nat := 0
  dirs : Nat := 0
  flags : Nat := 0
  tx : List Nat := []
  rx : List (Nat × Nat) := []
  delay : Nat := 0
  pend : Bool := false
  startT : Nat := 0
  startTd : Nat := 0
  insn : Nat := 0
  target : Nat := 0
  irq : Bool := false
deriving DecidableEq, Repr

/-- An error in an engine's memories (R328): corrected, or uncorrectable in a FIFO word or in the program word that a channel fetches. -/
inductive BriarError where
  | corrected | fifo | program
deriving DecidableEq, Repr

/-- A point in a state delta (R400): its record, and for the rules R51 and R53 its kept value with its timestamp and the quality supplied with it, and how long ago, in ns, its
last delivery came. -/
structure DeltaPoint where
  n : Nat
  record : List Byte
  kept : Option (Nat × Nat × Option Nat) := none
  ago : Nat := 0
deriving DecidableEq, Repr

/-- A state delta, or a part of a full resynchronisation (R400, R401): the cycle, its points, channel contexts (by 16 × engine + channel),
rows, and machines with their state and how long ago they entered it (ns); whether it belongs to a resynchronisation, and whether it
completed within its window (R402). -/
structure Delta where
  k : Nat
  points : List DeltaPoint := []
  chans : List (Nat × Chan) := []
  rows : List (Nat × RowSt) := []
  machines : List (Nat × Nat × Nat) := []
  resync : Bool := false
  inTime : Bool := true
deriving DecidableEq, Repr

/-- What makes a standby take over (Table 15-1): a SWITCHOVER of the active at its next output deadline, the relinquish message, the twin
lane and the ring port toward the twin both DOWN, or at an exchange close no slot of the active with the lane DOWN. -/
inductive TakeCause where
  | switchover | relinquish | lanesDown | slotMissing
deriving DecidableEq, Repr

/-- Fault classes (R459): corrected, uncorrected but contained, fatal. -/
inductive FClass where
  | C | U | F
deriving DecidableEq, Repr
/-- What a write of CLOCK_GATE_WRITE names (R512): REFCLK_EN, PLL_B_EN, or CLK_ISL[i].EN. -/
inductive Gate where
  | refclk | pllB | island (i : Fin 41)
deriving DecidableEq, Repr

/-- What an SPDM request brings about beside its answer (R418, R425): nothing; a session opens on the function, with or without mutual
authentication, and the SHA-384 of the requester's leaf public key; or, by IDE_KM on PF0, the selective stream of a function (0 to 15), or the
link stream (16), enters or leaves the Secure state. -/
inductive SpdmEffect where
  | none | session (mutual_ : Bool) (leaf : BitVec 384) | ide (t : Fin 17) (secure : Bool)
deriving DecidableEq, Repr/-- What a boot finds (R443): the known-answer tests and the PUF; the DRBG's start-up test; the RECOVERY pin; Kaolin read errors of the two
firmware and the two bundle slots; the frequencies counted of IOSC, RES and REFCLK in Hz and of VRES in mHz; which PLLs lock; SerDes lanes that fail (0 to 3 the ring ports, 4 the
twin lane) and a PCIe lane that does; channels whose gain is off and whether the analog references disagree; an F fault of another source
before READY; and the µs from rails good to READY. -/
structure BootObs where
  tests : Bool := true
  drbg : Bool := true
  recovery : Bool := false
  badFw : List Nat := []
  badBnd : List Nat := []
  iosc : Nat := 400000000
  res : Nat := 50000000
  vres : Nat := 32768000
  refclk : Nat := 0
  pllA : Bool := true
  pllB : Bool := true
  lanes : List Nat := []
  pcieLane : Bool := false
  gains : List Nat := []
  refs : Bool := false
  fatal : Option (Fin 49) := none
  us : Nat := 0
deriving DecidableEq, Repr

/-- The conditions of R450 that the world decides: VBAT below 2.6 V, a present logic feed below 20.0 V. -/
structure StopEnv where
  vbatLow : Bool := false
  feedLow : Bool := false
deriving DecidableEq, Repr

/-- The commands of the hub: one constructor per row of spec/opcode_table.json. -/
inductive Instr where
  /-- POWER_PATH_START: A logic feed becomes present and the power path runs its start sequence up to rails good. -/
  | powerPathStart
  /-- SEATING_CONFIRMED: SEAT_A and SEAT_B have both been low for DB ms, so seating is confirmed and soft-start may proceed. -/
  | seatingConfirmed
  /-- RAILS_GOOD: Every rail that RUN needs has been in its window for 100 µs, so the boot sequence starts. -/
  | railsGood
  /-- BOOT: The start-up sequence runs from ROM start to READY: tests, firmware and bundle check, load, scrub and calibration.
  -/
  | boot (o : BootObs)
  /-- BOOT_RESET: ID_BOOT_CMD RESET restarts the hub when R450 permits. -/
  | bootReset (e : StopEnv)
  /-- BOOT_RECOVER: ID_BOOT_CMD RECOVER enters recovery mode when R450 permits. -/
  | bootRecover (e : StopEnv)
  /-- RCV_CHUNK_GO: ID_RCV_CMD GO takes one recovery chunk from ID_RCV_BUF and stages it. -/
  | rcvChunkGo (len : Fin 32768) (last err : Bool)
  /-- RCV_SERVE_START: ID_RCV_SERVE START takes a port down and serves a firmware image to the peer. -/
  | rcvServeStart (i : Fin 5) (fw : Fin 2)
  /-- RCV_TRANSFER_DONE: The private recovery transfer ends and the port starts a normal bring-up. -/
  | rcvTransferDone (i : Fin 5) (ok : Bool) (peer : Nat) (image : List Byte)
  /-- COMMIT: A COMMIT applies the cross-field rules, recomputes GUAR, locks RWL fields, computes block 7 and logs an audit
  record. -/
  | commit
  /-- REGISTER_WRITE: A write to a set-up register with no behaviour of its own is stored under the clamp rule, and dependent
  fields are re-stored. -/
  | registerWrite (q : Requester) (off : BitVec 22) (wide : Bool) (v : BitVec 64)
  /-- PCIE_RESET: A conventional reset, hot reset or link-down returns the functions to their PCIe reset state and resets the
  PF0 and VF pairs. -/
  | pcieReset (down : Bool)
  /-- FUNCTION_LEVEL_RESET: A function-level reset resets every pair of the function's slot. -/
  | functionLevelReset (t : Fin 16)
  /-- SUMMARY_ENABLE: Setting HIF_SUM_ADDR.EN starts polling of the slot's summary line at an 8 µs interval. -/
  | summaryEnable (t : Fin 16) (addr : BitVec 64)
  /-- SLOT_DISABLE: Clearing HIF_TEN.EN before COMMIT resets the slot's pairs, ends its subscriptions and closes its region. -/
  | slotDisable (t : Fin 16)
  /-- REGION_DISABLE: Clearing HIF_RGN_BASE.EN closes the host region to later requests. -/
  | regionDisable (t : Fin 16)
  /-- Q_ENABLE: A write of 1 to Q_CTRL.EN moves an IDLE pair to RUN when its slot is enabled and polled. -/
  | qEnable (p : Fin 512)
  /-- Q_RESET: Q_CTRL.RESET, or EN written 0 in RUN, stops fetching, detaches transactions and returns the pair to IDLE. -/
  | qReset (p : Fin 512) (enZero : Bool)
  /-- SUMMARY_POLL: The poll interval of a slot expires and the hub issues a read of the summary line. -/
  | summaryPoll (t : Fin 16)
  /-- SUMMARY_READ_DONE: Summary-line data arrives. -/
  | summaryReadDone (t : Fin 16) (d : HostData)
  /-- DOORBELL_READ_DONE: A doorbell word arrives. -/
  | doorbellReadDone (p : Fin 512) (d : HostData)
  /-- DESCRIPTOR_ARRIVAL: A fetched descriptor arrives, takes a tag, passes the issuing checks and is routed, or it completes
  with an error. -/
  | descriptorArrival (p : Fin 512) (d buf : HostData)
  /-- COALESCE_TIMER: Q_COAL.TIME has passed since the first counted entry, so the interrupt is sent. -/
  | coalesceTimer (p : Fin 512)
  /-- QUARANTINE_END: A quarantined tag's quarantine ends and the tag returns to the free pool. -/
  | quarantineEnd (k : Fin 8192)
  /-- TRANSACTION_TIMEOUT: A transaction's timeout expires, so it completes with TIMEOUT and its tag retires abnormally. -/
  | transactionTimeout (k : Fin 8192)
  /-- RSP_RECEIVE: A RSP frame reaches the issuing hub and completes its transaction, or is discarded by the generation check.
  -/
  | rspReceive (x : RspIn)
  /-- PATH_LOSS: A PATH_LOSS notice or a HOPS loss reissues a reissuable read or completes the transaction with
  PATH_LOST_OUTCOME_UNKNOWN. -/
  | pathLoss (k : Fin 8192) (g : Fin 8)
  /-- QUEUE_MANAGER_ERROR: An uncorrectable error in the queue manager stops one pair or resets every pair. -/
  | queueManagerError (e : QmError)
  /-- PCIE_LINK_LOSS: The trained PCIe link is lost, or its controller fails, and a U fault is raised on bit 13. -/
  | pcieLinkLoss (lost : Bool)
  /-- REQ_RECEIVE: A request reaches its target, which applies the target checks before the opcode runs. -/
  | reqReceive (f : Frame)
  /-- READ: A READ moves LEN bytes from the fabric address to the tenant's buffer or inline result. -/
  | read (r : Req) (d : HostData)
  /-- WRITE: A WRITE stores LEN bytes at the fabric address and completes at the point its space sets. -/
  | write (r : Req)
  /-- RMW_SWAP: An RMW SWAP writes A and returns the value read. -/
  | rmwSwap (r : Req)
  /-- RMW_CAS: An RMW CAS writes A only when the value read equals B. -/
  | rmwCas (r : Req)
  /-- RMW_ADD: An RMW ADD writes the value read plus A, wrapping. -/
  | rmwAdd (r : Req)
  /-- RMW_AND: An RMW AND writes the value read AND A. -/
  | rmwAnd (r : Req)
  /-- RMW_OR: An RMW OR writes the value read OR A. -/
  | rmwOr (r : Req)
  /-- RMW_XOR: An RMW XOR writes the value read XOR A. -/
  | rmwXor (r : Req)
  /-- RMW_MASKED: An RMW MASKED writes the bits of A selected by B into the value read. -/
  | rmwMasked (r : Req)
  /-- LOCK: A LOCK opens a lock sequence or adds a field bus to one. -/
  | lock (r : Req)
  /-- UNLOCK: An UNLOCK sends releases to every bus of the sequence and closes it. -/
  | unlock (r : Req)
  /-- SEND: A SEND delivers a message to a slot's mailbox, or a raw frame to a port controller. -/
  | send (r : Req)
  /-- RECV: A RECV posts a buffer that waits for a matching message or raw frame. -/
  | recv (r : Req)
  /-- SUBSCRIBE_CYCLIC: A SUBSCRIBE with OPX 0x00 creates or replaces a cyclic subscription. -/
  | subscribeCyclic (r : Req)
  /-- SUBSCRIBE_ON_CHANGE: A SUBSCRIBE with OPX 0x01 creates or replaces an on-change subscription with a deadband. -/
  | subscribeOnChange (r : Req)
  /-- UNSUBSCRIBE: An UNSUBSCRIBE ends the named subscription. -/
  | unsubscribe (r : Req)
  /-- TABLE_LOAD: A TABLE_LOAD with OPX 0x00 writes data into the staging copy of table space. -/
  | tableLoad (r : Req)
  /-- TABLE_LOAD_ACTIVATE: A TABLE_LOAD with ACTIVATE writes, then arms a table switch or a Briar bank swap. -/
  | tableLoadActivate (r : Req)
  /-- FENCE_SQ: A FENCE with OPX 0x00 holds fetching from its SQ until earlier descriptors of that SQ complete. -/
  | fenceSq (r : Req)
  /-- FENCE_SLOT: A FENCE with OPX 0x01 holds fetching from every SQ of its slot until earlier descriptors complete. -/
  | fenceSlot (r : Req)
  /-- FENCE_DONE: The last earlier descriptor in scope completes, so the FENCE completes and fetching resumes. -/
  | fenceDone (k : Fin 8192)
  /-- QUERY_TIME: A QUERY TIME returns the target's domain time. -/
  | queryTime (r : Req)
  /-- QUERY_TOPOLOGY: A QUERY TOPOLOGY returns the target's RING_TOPO and RING_NODE_STATE. -/
  | queryTopology (r : Req)
  /-- QUERY_IDENTITY: A QUERY IDENTITY writes the 256-byte identity record to HADDR. -/
  | queryIdentity (r : Req)
  /-- QUERY_TAGS: A QUERY TAGS returns the slot's tags held, GUAR and QUOTA. -/
  | queryTags (r : Req)
  /-- POWER_RUN: A POWER RUN requests the RUN state at OP0. -/
  | powerRun (r : Req)
  /-- POWER_TRIM: A POWER TRIM requests TRIM at operating point 1 or 2. -/
  | powerTrim (r : Req)
  /-- POWER_DOZE: A POWER DOZE is refused or completes, and then DOZE entry begins. -/
  | powerDoze (r : Req)
  /-- POWER_DORMANT: A POWER DORMANT is refused or completes, and then DORMANT entry begins. -/
  | powerDormant (r : Req)
  /-- UPDATE_FIRMWARE: An UPDATE with OPX 0x00 stores a firmware chunk and checks the header or the last chunk. -/
  | updateFirmware (r : Req) (e : StopEnv) (err : Bool)
  /-- UPDATE_BUNDLE: An UPDATE with OPX 0x01 stores an owner-bundle chunk. -/
  | updateBundle (r : Req) (e : StopEnv) (err : Bool)
  /-- TIMED_OP_DUE: A held timed operation's TIME arrives in its domain, and the operation starts. -/
  | timedOpDue (r : Req)
  /-- STATION_ASSIGNMENT: A broadcast station assignment write reaches a hub, which takes the station if it is unassigned and
  the serial number matches. -/
  | stationAssignment (i : Fin 4) (f : Frame)
  /-- FRAME_FORWARD: A frame arrives on a ring port and is forwarded cut-through with HOPS incremented and a new tag, or is
  removed. -/
  | frameForward (i : Fin 4) (f : Frame) (seqRead : Bool)
  /-- JUNCTION_ROUTE: A junction routes a frame to its other ring by RING_RT and increments XCNT, or discards it. -/
  | junctionRoute (i : Fin 4) (f : Frame) (seqRead : Bool)
  /-- ACK_RECEIVE: An ACK releases replay FIFO frames and moves the mark. `q` are the two consecutive blocks that arrived. -/
  | ackReceive (i : Fin 5) (q : SetPair)
  /-- NAK_RECEIVE: A NAK rewinds the replay FIFO to the named LSEQ. -/
  | nakReceive (i : Fin 5) (q : SetPair)
  /-- ACK_TIMER: The 1 µs ACK interval expires and the receiver sends ACK naming NEXT − 1. -/
  | ackTimer (i : Fin 5)
  /-- REPLAY_TIMER_EXPIRY: The replay timer expires before the marked frame is acknowledged, so the sender rewinds. -/
  | replayTimerExpiry (i : Fin 5)
  /-- SILENT_TIMEOUT: No valid ACK pair for 8 µs takes the port DOWN with cause SILENT. -/
  | silentTimeout (i : Fin 5)
  /-- SIGNAL_LOSS: Loss of signal or block lock for 1 µs takes the port DOWN with cause SIGNAL_LOST. -/
  | signalLoss (i : Fin 5)
  /-- LINK_RESTART_TIMER: 1 ms after DOWN the port clears its FIFO and starts bring-up again. -/
  | linkRestartTimer (i : Fin 5)
  /-- LINK_RETRY_TIMER: 100 ms after a failed bring-up the port restarts at SIGNAL. -/
  | linkRetryTimer (i : Fin 5)
  /-- BRINGUP_TIMEOUT: A bring-up state exceeds its maximum time, and the port returns to DOWN with that state's cause. -/
  | bringupTimeout (i : Fin 5)
  /-- SIGNAL_LOCKED: The port detects signal and locks its CDR, and moves to TRAIN. -/
  | signalLocked (i : Fin 5)
  /-- TRAIN_BLOCK_LOCK_HELD: Block lock has held for 1 ms without an invalid block, and the port sends READY. -/
  | trainBlockLockHeld (i : Fin 5)
  /-- READY_SET_RECEIVE: A READY ordered set is received during TRAIN. -/
  | readySetReceive (i : Fin 5 × SetPair)
  /-- PROBE_RECEIVE: A PROBE is received, and the port answers with an ECHO. -/
  | probeReceive (i : Fin 5)
  /-- ECHO_RECEIVE: An ECHO arrives and the prober computes RING_PORT_RTT. -/
  | echoReceive (i : Fin 5) (t : Nat)
  /-- PROBE_RETRY: No ECHO arrives within 100 µs, and another PROBE is sent. -/
  | probeRetry (i : Fin 5)
  /-- LINK_STATE_RECEIVE: A LINK_STATE frame marks the stations beyond a break unreachable in the topology record. -/
  | linkStateReceive (i : Fin 4) (f : Frame)
  /-- UPLINK_FRAME_RECEIVE: An Ethernet frame on an uplink is stamped and passed to PTP or a tunnel, or discarded. -/
  | uplinkFrameReceive (j : Fin 2) (fcsOk : Bool) (b : List Byte)
  /-- UPLINK_LOCK_LOSS: An uplink loses block lock for 1 ms and goes DOWN with SIGNAL_LOST. -/
  | uplinkLockLoss (i : Fin 2)
  /-- JOIN_TIMER_EXPIRY: 2 ms pass after the hub's announce with no conflict, so it sets JOINED. -/
  | joinTimerExpiry (n : Fin 2)
  /-- ANNOUNCE_RECEIVE: An announce updates the topology record and GEN, and may reveal a node-ID conflict. -/
  | announceReceive (i : Fin 4) (f : Frame)
  /-- ANNOUNCE_TIMER: A second passes, and a joined hub sends its periodic announce. -/
  | announceTimer (n : Fin 2)
  /-- STATION_AGE_OUT: A station's AGE reaches 3,000 ms, and its PRESENT is cleared. -/
  | stationAgeOut (n : Fin 2) (st : Fin 256)
  /-- MASTER_CLAIM_TIMER: A candidate hears no higher-ranked master for its claim time and becomes cycle master. -/
  | masterClaimTimer (n : Fin 2)
  /-- CYCLE_START: At S_k the master builds the sweep from its slot table and sends both copies. -/
  | cycleStart (n : Fin 2) (k : Nat)
  /-- SWEEP_SLICE_RECEIVE: A hub takes or writes each slot of an arriving sweep copy and forwards it re-tagged. -/
  | sweepSliceReceive (i : Fin 4) (f : Frame)
  /-- CAPTURE_INSTANT: At C_k inputs latch, input points update, armed tables switch and junction relays are written. -/
  | captureInstant (n : Fin 2) (k : Nat) (m : Measured) (cj : List (Fin 64 × Int))
  /-- EXCHANGE_CLOSE: At E_k slice-bound points take the fields held for the cycle. -/
  | exchangeClose (n : Fin 2) (k : Nat)
  /-- REMOTE_FETCH_DEADLINE: E_k + REM_WAIT passes without a response, so the entry gives NO_RESPONSE and REM_MISS counts it.
  -/
  | remoteFetchDeadline
  /-- REFLEX_OVERRUN: Rows still waiting 500 ns before D_k are skipped and the output freeze takes place at once. -/
  | reflexOverrun
  /-- OUTPUT_FREEZE: After the rows end, output points freeze and the twin delta starts. -/
  | outputFreeze
  /-- OUTPUT_DEADLINE: At D_k outputs change at the pins, TX frames are pushed, and transmit objects and polls are sent. -/
  | outputDeadline
  /-- SYNC_SEND: After a sweep tail in a sync interval, the master sends SYNC in each direction. -/
  | syncSend (n : Fin 2)
  /-- SYNC_RECEIVE: A SYNC updates CORR and is forwarded, and the follower measures its TD0 offset for that path. -/
  | syncReceive (i : Fin 4) (f : Frame) (res : Nat)
  /-- SYNC_PATH_TIMEOUT: Three sync intervals pass without a valid SYNC, so that path becomes unavailable. -/
  | syncPathTimeout (n dir : Fin 2)
  /-- HOLDOVER_EXPIRY: HOLD × 100 ms passes in holdover, the domain goes FREE and a U fault is raised. -/
  | holdoverExpiry (d : Fin 9)
  /-- PDELAY_TIMER: Every 125 ms an UP port sends PDELAY_REQ. -/
  | pdelayTimer (i : Fin 5)
  /-- PDELAY_REQ_RECEIVE: A peer answers a PDELAY_REQ with PDELAY_RESP carrying T2 and T3. -/
  | pdelayReqReceive (i : Fin 5) (f : Frame)
  /-- PDELAY_RESP_RECEIVE: The requester computes the link delay and averages it into TD_LINK_DLY. -/
  | pdelayRespReceive (i : Fin 5) (f : Frame)
  /-- PTP_SYNC_RECEIVE: A PTP Sync on an uplink updates a PTP-sourced domain. -/
  | ptpSyncReceive (j : Fin 2) (t : Nat)
  /-- PTP_SYNC_TIMEOUT: Three Sync intervals pass without a Sync, so the PTP source becomes unavailable. -/
  | ptpSyncTimeout (j : Fin 2)
  /-- PTP_GRANDMASTER_SEND: A grandmaster uplink sends its two-step Sync and its Announce at their intervals. -/
  | ptpGrandmasterSend (j : Fin 2) (announce : Bool)
  /-- PPS_EDGE: An accepted PPS_IN edge gives PPS-sourced domains their offset. -/
  | ppsEdge (rising : Bool)
  /-- PPS_TIMEOUT: 1.5 s pass without a PPS edge, so the source becomes unavailable. -/
  | ppsTimeout
  /-- DOMAIN_SAMPLE: Every 1 ms a DOMAIN-sourced domain samples the domain it follows. -/
  | domainSample (d : Fin 8)
  /-- TD_CMD_SET: A SET command sets the domain to TD_SET. -/
  | tdCmdSet (d : Fin 8)
  /-- TD_CMD_STEP: A STEP command adds the signed offset in TD_SET to the domain. -/
  | tdCmdStep (d : Fin 8)
  /-- TD_CMD_SLEW: A SLEW command runs the domain 10 ppm fast or slow until the offset is gone. -/
  | tdCmdSlew (d : Fin 8)
  /-- SLEW_DONE: The slew has removed its offset, and the domain returns to its normal rate. -/
  | slewDone (d : Fin 8)
  /-- TD_SNAP_LATCH: TD_SNAP.LATCH copies all eight domains into TD_NOW at one instant. -/
  | tdSnapLatch
  /-- PPS_OUT_PULSE: At each whole second of its domain, PPS_OUT goes high. -/
  | ppsOutPulse
  /-- PPS_OUT_END: WIDTH µs after the pulse starts, PPS_OUT goes low. -/
  | ppsOutEnd
  /-- SCHEDULED_EDGE_DUE: A queued scheduled edge reaches its time, and the pin takes LEVEL. -/
  | scheduledEdgeDue (p : Fin 64) (x : Fin 4)
  /-- PIN_EDGE: The glitch filter accepts a new pin level, which is stamped and counted. -/
  | pinEdge (p : Fin 64) (x : Fin 4) (e : PinEvent)
  /-- CHATTER_END: The raw input is stable for 8 × FILT, so chatter ends and the filter accepts the level. -/
  | chatterEnd (p : Fin 64) (x : Fin 4) (level : Bool)
  /-- STUCK_TIMEOUT: An active level held beyond STUCK ms reports STUCK, and bound points take STALE. -/
  | stuckTimeout (p : Fin 64) (x : Fin 4)
  /-- DO_CURRENT_LIMIT_LATCH: A DO pin in current limit for 1 ms turns off, latches and reports SHORT. -/
  | doCurrentLimitLatch (p : Fin 64) (x : Fin 4) (hot : Bool)
  /-- DO_RETRY: The DO latch retry time passes and the latch clears. -/
  | doRetry (p : Fin 64) (x : Fin 4)
  /-- DRIVER_OVERHEAT: A driver enters thermal shutdown, sets OTEMP and raises a C fault. -/
  | driverOverheat (p : Fin 64) (d : Fin 3)
  /-- DRIVER_COOLED: A driver in thermal shutdown has cooled and turns back on. -/
  | driverCooled (p : Fin 64) (d : Fin 3)
  /-- FP_BREAKER_TRIP: The FP breaker trips, FP turns off, FP_TRIP sets and the FP point takes SHORT. -/
  | fpBreakerTrip (p : Fin 64)
  /-- FP_TRIP_CLEAR: A write of 1 to FP_TRIP clears the trip latch, subject to re-arming. -/
  | fpTripClear (p : Fin 64)
  /-- FIELD_CONDITION_DETECT: An open wire or short has held, or has been absent, for its detection time, so it is reported or
  ended. -/
  | fieldConditionDetect (p : Fin 64) (x : Fin 5) (short on : Bool)
  /-- FIELD_POWER_LOSS: Field power falls below its threshold, so field-powered outputs turn off and their points take FAULT.
  -/
  | fieldPowerLoss
  /-- FIELD_POWER_RETURN: Field power returns within limits, and outputs resume at the next deadline. -/
  | fieldPowerReturn
  /-- DERATE_STEP: While the derating condition holds, one more function is derated every 100 ms. -/
  | derateStep
  /-- RESTORE_STEP: After 10 s within limits, the last derated function is restored. -/
  | restoreStep
  /-- TJ_MAX_REACHED: A die reaches Tj_max, and an F fault is raised on bit 4. -/
  | tjMaxReached
  /-- AI_CONDITION_DETECT: An AI open-wire or short condition has held or been absent for 10 ms. -/
  | aiConditionDetect (c : Fin 256) (short on : Bool)
  /-- I20_SHUNT_RECLOSE: 1 s after an I20 short opened the shunt, the shunt closes again. -/
  | i20ShuntReclose (c : Fin 256)
  /-- BG_CAL_VISIT: The calibration modulator visits the next AI channel and updates its internal coefficients. -/
  | bgCalVisit (c : Fin 256) (g o : BitVec 64)
  /-- SCAL_ZERO: The system-calibration ZERO command averages 16 samples into MEAS_SYS_OFS. -/
  | scalZero (c : Fin 256)
  /-- SCAL_SPAN: The system-calibration SPAN command averages 16 samples and computes MEAS_SYS_GAIN. -/
  | scalSpan (c : Fin 256)
  /-- SCAL_DONE: A system-calibration command finishes as DONE or FAILED. -/
  | scalDone (codes : List (Int × Int × Int))
  /-- AO_SHORT_LATCH: A voltage output in current limit for 1 ms turns off and reports SHORT. -/
  | aoShortLatch (p : Fin 64)
  /-- AO_RETRY: 1 s after an AO short, the output retries. -/
  | aoRetry (p : Fin 64)
  /-- AO_OPEN_DETECT: A current output cannot reach its set current for 10 ms and reports OPEN_WIRE. -/
  | aoOpenDetect (p : Fin 64) (on : Bool)
  /-- CAN_FRAME_RECEIVE: A received CAN frame is taken by the lowest matching receive object, or becomes a raw item. -/
  | canFrameReceive (i : Fin 32) (item : BusFrame) (ok : Bool) (tec rec : Nat)
  /-- SPE_FRAME_RECEIVE: A received SPE frame is taken by a matching receive object, or becomes a raw item. -/
  | speFrameReceive (i : Fin 16) (b : BusFrame) (fcsOk : Bool)
  /-- UART_BLOCK_END: GAP character times of idle, or 256 bytes, end a raw UART block. -/
  | uartBlockEnd (i : Fin 64) (item : BusFrame)
  /-- MODBUS_RESPONSE: A Modbus response ends after t3.5 and delivers signals or completes a bridge transaction. -/
  | modbusResponse (i : Fin 64) (x : ModbusRsp)
  /-- MODBUS_RSP_TIMEOUT: RSP_TMO passes without a valid response, so the signals take NO_RESPONSE or the request completes
  with BUS_NAK. -/
  | modbusRspTimeout (i : Fin 64)
  /-- IOL_PD_RECEIVE: IO-Link process data in is decoded by FMT_IN, or becomes a raw item. -/
  | iolPdReceive (p : Fin 64) (valid : Bool) (data : List Byte)
  /-- IOL_EVENT_RECEIVE: An IO-Link event is received and counted, and becomes a raw item in host-assisted mode. -/
  | iolEventReceive (p : Fin 64) (data : List Byte)
  /-- RAW_SEND_DONE: A raw SEND's frame has been sent, or has failed, and the SEND completes. -/
  | rawSendDone (k : Fin 5) (i : Fin 64) (ok : Bool)
  /-- AUTO_RATE_STEP: Auto-detection moves on to the next candidate rate. -/
  | autoRateStep (k : AutoStep) (i : Fin 64)
  /-- IOL_WAKEUP: An IO-Link master runs a wake-up and tries COM3, COM2, then COM1. -/
  | iolWakeup (p : Fin 64) (com : Option (Nat × Nat × Nat))
  /-- IOL_POWER_RETRY: After three failed wake-ups L+ turns off for 1 s, and then the master tries again. -/
  | iolPowerRetry (p : Fin 64)
  /-- CAN_BUS_OFF: A CAN controller enters bus-off, and its points take FAULT. -/
  | canBusOff (i : Fin 32)
  /-- CAN_AUTO_RECOVER: 128 occurrences of 11 recessive bits end bus-off when AUTO_REC is 1. -/
  | canAutoRecover (i : Fin 32)
  /-- CAN_RECOVER: PCTL_CMD RECOVER takes a CAN controller out of bus-off. -/
  | canRecover (i : Fin 32)
  /-- IOL_RESTART: PCTL_CMD IO-Link restart restarts the port's IO-Link master. -/
  | iolRestart (p : Fin 64)
  /-- CONTROLLER_ERROR: An uncorrectable buffer error restarts the controller and loses its queued items. -/
  | controllerError (k : Fin 5) (i : Fin 64) (uncorrectable : Bool)
  /-- BRIDGE_SERVE: The bus frees, and the bridge starts the next queued request or locked operation on it. -/
  | bridgeServe (p : Fin 64)
  /-- CACHE_FLUSH: BRG_CMD.FLUSH invalidates every cache line. -/
  | cacheFlush
  /-- LOCK_WINDOW_CLOSE: The 1 µs arbitration window closes, and the bus is granted to the lowest node ID while the others get
  LOCK_CONFLICT. -/
  | lockWindowClose (p : Fin 64)
  /-- LOCK_GRANT: The bus transaction in progress ends, the grant takes effect, the lock time starts and the LOCK's RSP is
  returned. -/
  | lockGrant (p : Fin 64)
  /-- LOCK_EXPIRY: A lock time expires, and the bus is released. -/
  | lockExpiry (p : Fin 64)
  /-- LOCK_RELEASE: A release from an UNLOCK frees a held bus. -/
  | lockRelease (p : Fin 64) (src tn id : Nat)
  /-- TUN_RECEIVE: A TUN frame reaches its egress entry and is queued or discarded. -/
  | tunReceive (i : Fin 4) (f : Frame)
  /-- TUN_REPLAY_DUE: INGRESS + LATENCY is reached, and the held tunnel frame is sent. -/
  | tunReplayDue (t : Fin 64)
  /-- BRIDGE_QUEUE_ERROR: An uncorrectable error in a bridge or tunnel queue ends a request or drops a frame. -/
  | bridgeQueueError (e : BrgError)
  /-- HELD_FRAME_ADMIT: Room appears, and a frame held at its source is admitted. -/
  | heldFrameAdmit (i o : Fin 32) (c : Fin 8)
  /-- BANK_RETIRE: An uncorrectable buffer error retires a bank, discards its frames and moves the switch to DRAIN. -/
  | bankRetire (b : Fin 16) (hit : List Nat)
  /-- DRAIN_COMPLETE: No shared-buffer queue holds a cell any more, and the mode becomes VOQ. -/
  | drainComplete
  /-- BUFFER_AUDIT: The 100 ms audit reclaims orphaned cells and rebuilds cross-linked lists. -/
  | bufferAudit (lost cross : List (Nat × Nat))
  /-- SCHEDULER_ERROR: A VOQ reserve error discards a frame, or a scheduler parity error resets the pointers. -/
  | schedulerError (at_ : Option Nat)
  /-- TABLE_SYNC_DONE: The copy of the new active table into staging finishes, and SYNCING clears. -/
  | tableSyncDone (r : Fin 4)
  /-- REFLEX_MEMORY_ERROR: An uncorrectable reflex memory error disables a row, invalidates a table, or restarts a row or
  machine. -/
  | reflexMemoryError (e : RfxError)
  /-- JMP: A Briar JMP jumps when its condition holds. -/
  | briarJmp (e c : Fin 16) (lv : Fin 16)
  /-- WAIT: A Briar WAIT stalls until a pin, flag or cycle interrupt condition holds. -/
  | briarWait (e c : Fin 16) (lv : Fin 16)
  /-- IN: A Briar IN shifts bits into ISR, possibly with an automatic push. -/
  | briarIn (e c : Fin 16) (lv : Fin 16)
  /-- OUT: A Briar OUT shifts bits from OSR to a destination, possibly with an automatic pull. -/
  | briarOut (e c : Fin 16)
  /-- PUSH: A Briar PUSH writes ISR to the RX FIFO, stalling or overrunning when it is full. -/
  | briarPush (e c : Fin 16)
  /-- PULL: A Briar PULL loads OSR from the TX FIFO, stalling or loading the idle word when it is empty. -/
  | briarPull (e c : Fin 16)
  /-- MOV: A Briar MOV copies a source to a destination with an optional operation. -/
  | briarMov (e c : Fin 16) (lv : Fin 16)
  /-- SET: A Briar SET writes an immediate to X, Y, PINS or PINDIRS. -/
  | briarSet (e c : Fin 16)
  /-- IRQ: A Briar IRQ sets, clears or posts a channel flag, and a post may raise a PF0 vector. -/
  | briarIrq (e c : Fin 16)
  /-- TIMEWAIT: A Briar TIMEWAIT stalls until a register or grid time in a domain. -/
  | briarTimewait (e c : Fin 16)
  /-- CNT: A Briar CNT adds to a register or loads a pin's edge count. -/
  | briarCnt (e c : Fin 16)
  /-- NOP: A Briar NOP applies only SIDE and DELAY. -/
  | briarNop (e c : Fin 16)
  /-- CHANNEL_STALL_RESUME: A stalled instruction's condition now holds, so it completes and the channel returns to RUN. -/
  | channelStallResume (e c : Fin 16) (lv : Fin 16)
  /-- SWAP_DEADLINE: ENG_SWAP_TMO passes with the channel still pending, so it is forced to the new bank with ABORTED_SHIFT. -/
  | swapDeadline (e c : Fin 16)
  /-- FIFO_ECC_ERROR: An uncorrectable FIFO word halts its channel with a U fault. -/
  | fifoEccError (e c : Fin 16) (err : BriarError)
  /-- ENG_STOP: ENG_CTRL STOP halts the named channels at once. -/
  | engStop (e : Fin 16) (mask : BitVec 16)
  /-- ENG_RESTART: ENG_CTRL RESTART restarts the named enabled channels in their next slot. -/
  | engRestart (e : Fin 16) (mask : BitVec 16)
  /-- ENG_START_T_WRITE: A write of ENG_START_T arms a timed start of the masked halted channels. -/
  | engStartTWrite (e : Fin 16) (t : BitVec 64)
  /-- CHANNEL_TIMED_START: Time T arrives, and the channels in WAIT_START start. -/
  | channelTimedStart (e : Fin 16)
  /-- TWIN_FORM: The twin lane reaches UP, digests are exchanged, roles are chosen, and a full resynchronisation starts. -/
  | twinForm (digest : BitVec 384) (peerActive : Bool)
  /-- FORM_TIMEOUT: FORM_TMO passes without the twin lane UP, so each hub joins the ring as if alone. -/
  | formTimeout
  /-- PEER_ANNOUNCE_ABSENCE: The second hub has heard no announce from its peer for 3,000 ms and becomes active alone. -/
  | peerAnnounceAbsence
  /-- DELTA_RECEIVE: The standby receives a complete, verified delta, compares its shadow results and applies the delta. -/
  | deltaReceive (d : Delta)
  /-- DELTA_WINDOW_EXPIRY: A delta misses its window, so LAGGING sets and LAGGED counts it. -/
  | deltaWindowExpiry
  /-- RESYNC: TWIN_CMD RESYNC starts a full resynchronisation on the active. -/
  | resync
  /-- SWITCHOVER: TWIN_CMD SWITCHOVER makes the eligible standby take over at the next deadline. -/
  | switchover
  /-- TAKEOVER: The standby becomes active, applies its outputs, writes the slot and announces. -/
  | takeover (c : TakeCause)
  /-- TEST_PULSE: TWIN_PULSE START runs a test pulse in which the standby drives a point at D_j. -/
  | testPulse (peer : Option (Fin 65536))
  /-- TEST_PULSE_END: DUR µs after D_j the active drives again, and RESULT is set. -/
  | testPulseEnd (pass : Bool)
  /-- RELINQUISH_CONFIRM: The new active's confirmation arrives, and the failing hub releases its drivers. -/
  | relinquishConfirm
  /-- RELINQUISH_TIMEOUT: 10 µs pass without confirmation, so the hub enters the safe state as active. -/
  | relinquishTimeout
  /-- HELLO: The initiator's HELLO starts link authentication. -/
  | hello (i : Fin 5) (fs : List Frame)
  /-- REPLY: The responder's REPLY carries its nonce and key shares. -/
  | reply (i : Fin 5) (fs : List Frame)
  /-- CERT: A peer's CERT message delivers its certificate chain for checking. -/
  | cert (i : Fin 5) (fs : List Frame)
  /-- PROOF: A peer's PROOF is checked against its alias keys and the policy checks. -/
  | proof (i : Fin 5) (fs : List Frame)
  /-- FINISH: A valid peer FINISH completes authentication, and the port enters UP. -/
  | finish (i : Fin 5) (fs : List Frame)
  /-- REKEY: The initiator's REKEY starts a key renewal. -/
  | rekey (i : Fin 5) (fs : List Frame)
  /-- REKEY_REPLY: The responder answers a REKEY. -/
  | rekeyReply (i : Fin 5) (fs : List Frame)
  /-- REKEY_FINISH: A verified REKEY_FINISH switches the sending key and inverts EPOCH. -/
  | rekeyFinish (i : Fin 5) (fs : List Frame)
  /-- REKEY_REQ: The responder's REKEY_REQ makes the initiator start a rekey. -/
  | rekeyReq (i : Fin 5) (fs : List Frame)
  /-- REJECT: A received REJECT takes the port DOWN with AUTH_FAIL. -/
  | reject (i : Fin 5) (fs : List Frame)
  /-- AUTH_STEP_TIMEOUT: No expected AUTH message arrives within 20 ms, so REJECT TIMEOUT is sent. -/
  | authStepTimeout (i : Fin 5)
  /-- REKEY_TIMER: REKEY_MIN minutes pass, or FCNT reaches its threshold, and the initiator starts a rekey. -/
  | rekeyTimer (i : Fin 5)
  /-- REKEY_STEP_TIMEOUT: A rekey step has no answer within 10 ms, so the rekey restarts. -/
  | rekeyStepTimeout (i : Fin 5)
  /-- SPDM_REQUEST: An SPDM request over DOE is answered by the function's responder. -/
  | spdmRequest (t : Fin 16) (b : List Byte) (e : SpdmEffect)
  /-- SPDM_SESSION_END: An SPDM session ends, and a proven slot becomes unproven and its pairs reset. -/
  | spdmSessionEnd (t : Fin 16)
  /-- GET_CHALLENGE: The mailbox returns a fresh 48-byte challenge. -/
  | getChallenge
  /-- SUBMIT_TOKEN: The mailbox checks an owner token and applies it, spending the challenge. -/
  | submitToken (len : Fin 16385)
  /-- GET_CERT: The mailbox returns the P-384 or ML-DSA-87 certificate chain. -/
  | getCert (len : Fin 16385)
  /-- ATTEST: The mailbox returns the measurement blocks and nonce, signed with both alias keys. -/
  | attest (len : Fin 16385)
  /-- RANDOM: The mailbox returns DRBG output. -/
  | random (len : Fin 16385)
  /-- DBG_READ: In a debug boot, the mailbox reads internal Loam memory. -/
  | dbgRead (len : Fin 16385)
  /-- DBG_WRITE: In a debug boot, the mailbox writes internal Loam memory. -/
  | dbgWrite (len : Fin 16385)
  /-- CHALLENGE_EXPIRY: An unspent challenge expires after 10 minutes. -/
  | challengeExpiry
  /-- TAMPER_DETECT: A tamper source fires, so keys are zeroised, the latch sets, an F fault is raised and the hub enters the
  safe state. -/
  | tamperDetect (src : Fin 4)
  /-- DRBG_HEALTH_FAIL: An entropy health test fails, so DRBG_OK clears and output stops. -/
  | drbgHealthFail
  /-- DRBG_RETEST: Every 1 s the start-up test is repeated until it passes. -/
  | drbgRetest (pass : Bool)
  /-- DRBG_RESEED: After 2^16 requests or 60 s, the DRBG reseeds. -/
  | drbgReseed
  /-- FAULT_OCCURRENCE: A source reports an occurrence, which is recorded, logged and may enter the safe state. -/
  | faultOccurrence (b : Fin 49) (c : FClass) (detail : BitVec 32)
  /-- FAULT_CLEAR: A write of 1 to an FLT_STATUS bit clears its record and logs CLEARED. -/
  | faultClear (b : Fin 49)
  /-- COLLECTOR_SELF_FAULT: A parity failure in the collector enters the safe state permanently until reset. -/
  | collectorSelfFault
  /-- SAFE_ENTER: FLT_SAFE ENTER by slot 0 enters the safe state. -/
  | safeEnter
  /-- SAFE_EXIT: FLT_SAFE EXIT leaves the safe state when no blocking fault remains, or sets EXIT_REFUSED. -/
  | safeExit
  /-- LOG_FLUSH: Buffered log records are moved from SRAM to Kaolin. -/
  | logFlush (l : Fin 2) (ok : Bool)
  /-- LOG_WRITE_RETRY: After a Kaolin write error, the log write is retried every 100 ms. -/
  | logWriteRetry (ok : Bool)
  /-- LOG_READ: FLT_LOG_RD GO starts a copy of log records into FLT_LOG_BUF. -/
  | logRead (l : Fin 2) (seq : Option (BitVec 32))
  /-- LOG_COPY_DONE: The log copy ends, and FLT_LOG_RDSTAT reports DONE. -/
  | logCopyDone (ok : Bool)
  /-- FEED_PRESENT: An input has been above 17.0 V for 1 ms and becomes present. -/
  | feedPresent (n : Fin 4)
  /-- FEED_ABSENT: An input has been below 16.0 V for 10 µs and becomes absent. -/
  | feedAbsent (n : Fin 4)
  /-- FEED_OV: An input above 38.5 V turns its path off with CAUSE OV. -/
  | feedOv (n : Fin 4)
  /-- OV_RECOVER: The input has been below 37.5 V for 1 ms, and the path soft-starts again. -/
  | ovRecover (n : Fin 4)
  /-- BOARD_UNSEATED: A seat pin high for 20 µs turns off field power, cancels the trip latches and raises a fault. -/
  | boardUnseated
  /-- PATH_TRIP: A power-path breaker trips by TIMER, FAST, TEMP or MODEL. -/
  | pathTrip (n : Fin 4) (cause : Fin 4)
  /-- BREAKER_REARM: The breaker's temperature and model fall below 100 °C, so it re-arms and may clear its latch. -/
  | breakerRearm (b : Fin 68)
  /-- BREAKER_RETRY: The retry time expires as a clearing event for the trip latch. -/
  | breakerRetry (b : Fin 68)
  /-- TRIP_CLEAR: A write of 1 to PWR_BRK_STAT.TRIP is a clearing event for the trip latch. -/
  | tripClear (n : Fin 4)
  /-- RAIL_WARNING: A rail outside its warning window for 10 µs raises U on bit 3. -/
  | railWarning (r : Fin 12)
  /-- RAIL_REGULATION_FAIL: A rail outside its regulation window for 1 µs raises F on bit 3. -/
  | railRegulationFail (r : Fin 12)
  /-- RAIL_RESTART: A rail still out after 1 ms removes all rails but VVAULT, and the start restarts after 100 ms. -/
  | railRestart
  /-- FEEDS_LOST: VAON leaves its window with both feeds absent, and the hub falls to DORMANT or OFF. -/
  | feedsLost (vbat : Bool)
  /-- DOZE_ENTRY: After the POWER completion is confirmed, fetching stops, transactions drain, pins go OFF, banks are signed
  and rails are removed. -/
  | dozeEntry
  /-- WAKE_EVENT: A wake source fires in DOZE and is latched in PWR_WAKE_SRC. -/
  | wakeEvent (src : Fin 5)
  /-- DOZE_EXIT: Rails return, clamps release, signatures are checked and service resumes on IOSC. -/
  | dozeExit (failed : List (Fin 8)) (banks : List (Fin 16))
  /-- RETENTION_RELOAD_DONE: A failed bank's reload completes, and its dependent functions become ready. -/
  | retentionReloadDone (b : Fin 8)
  /-- PLL_LOCK: The PLLs lock, and switchable islands move to them. -/
  | pllLock (a b : Bool)
  /-- DORMANT_ENTRY: After the POWER completion, every rail but VVAULT is removed. -/
  | dormantEntry
  /-- DORMANT_WAKE: WAKE_N, the vault alarm or a feed wakes the hub from DORMANT into a full start. -/
  | dormantWake (src : Fin 5)
  /-- VLT_TIMER_ALARM: VLT_TIMER reaches VLT_WAKE_T and raises a wake. -/
  | vltTimerAlarm
  /-- CLOCK_FAIL: The monitor finds a source failed and forces its islands onto IOSC, with a fault on bit 0. -/
  | clockFail (n : Fin 7)
  /-- ISLAND_SWITCH: A write of CLK_ISL.SEL starts a glitch-free switch of the island's clock, or is refused. -/
  | islandSwitch (i : Fin 41) (sel : Bool)
  /-- ISLAND_SWITCH_DONE: The island is released on its new clock, and PENDING clears. -/
  | islandSwitchDone (i : Fin 41)
  /-- CLOCK_GATE_WRITE: A write to CLK_GATE or CLK_ISL.EN gates a clock, or is refused while a child is in use. -/
  | clockGateWrite (g : Gate) (on words : Bool)
  /-- FCNT_GO: CLK_FCNT_CFG GO starts a frequency count. -/
  | fcntGo
  /-- FCNT_DONE: The count window ends with DONE or FAILED. -/
  | fcntDone (tgt ref : BitVec 32) (edges : Bool)
  /-- CORE_ERROR: An uncorrectable application-core error restarts the cores from the running image. -/
  | coreError (uncorrectable : Bool)
  /-- D2D_CRC_FAIL: A die-to-die transfer fails its CRC and is resent. -/
  | d2dCrcFail (d : Fin 3)
  /-- D2D_RETRAIN: Resends fail, so the link retrains and loses that interval's transfers. -/
  | d2dRetrain (d : Fin 3) (ok : Bool) (lost : List (Fin 65536))
  /-- VMOD_OVERLOAD: A VMOD supply overloads, turns off and raises a C fault. -/
  | vmodOverload (i : Fin 5)
  /-- VMOD_RETRY: 100 ms after an overload the VMOD supply turns on again. -/
  | vmodRetry (i : Fin 5)
  /-- MSG_DELIVERY_RECEIVE: A DELIVERY MSG reaches the subscriber's issuing hub, which writes or holds the entry. -/
  | msgDeliveryReceive (f : Frame)
  /-- MSG_INTERRUPT_RECEIVE: An INTERRUPT MSG makes HOST_NODE raise the tenant's vector when the sender is a valid peer. -/
  | msgInterruptReceive (f : Frame)
  /-- MSG_MESSAGE_RECEIVE: A message reaches a slot and fills a matching RECV, or is refused. -/
  | msgMessageReceive (f : Frame)
  /-- UPLINK_LINK_UP: An uplink gains block lock and enters UPLINK_UP. -/
  | uplinkLinkUp (i : Fin 2)
  /-- PCIE_LINK_UP: The PCIe link trains and comes up, or retrains after a loss. -/
  | pcieLinkUp (bme : List (Fin 16 × List MsixEntry)) (ide : List (Fin 17))
  /-- REVERSE_TURN_OFF: A power path whose current reverses turns off within 300 ns and raises a C fault. -/
  | reverseTurnOff (n : Fin 4)
  /-- ISDU_RESPONSE: An IO-Link ISDU Read or Write response arrives and completes the device-space request. -/
  | isduResponse (p : Fin 64) (x : IsduRsp)
  /-- ISDU_TIMEOUT: 5 s pass without an ISDU response, so the request completes with BUS_NAK and RESULT 0. -/
  | isduTimeout (p : Fin 64)
  /-- OBJECT_FRAME_SENT: A CAN frame is acknowledged, or an SPE frame is transmitted, for a device-space write to a transmit
  object, and the write completes. -/
  | objectFrameSent (k : Fin 5) (i : Fin 64)
  /-- CAN_BUS_DOMINANT: A CAN bus held dominant for 10 ms sets reason SHORT in the points it feeds. -/
  | canBusDominant (i : Fin 32) (on : Bool)
  /-- SPE_LINK_DOWN: A T1L link goes down, or has no signal for 50 ms, and the points it feeds take OPEN_WIRE. -/
  | speLinkDown (i : Fin 16)
  /-- SPE_LINK_UP: An SPE PHY link comes up, or a T1S PLCA beacon is seen, and LINK sets. -/
  | speLinkUp (i : Fin 16)
  /-- IOL_DEVICE_LOST: An IO-Link device stops answering, DEV_LOST increments and the points take NO_RESPONSE. -/
  | iolDeviceLost (p : Fin 64)
  /-- PTP_DELAY_REQ_TIMER: At log interval 0, an uplink sends Delay_Req or Pdelay_Req for its PTP delay measurement. -/
  | ptpDelayReqTimer (j : Fin 2)
  /-- TWIN_SAFE_NOTICE: The active receives its standby's safe-state notice and shows PAIR DETACHED until the standby leaves
  the safe state. -/
  | twinSafeNotice (on : Bool)
  /-- DVFS_DONE: The VCORE ramp and clock switch of an operating-point change end, DVFS_BUSY clears and the POWER completes. -/
  | dvfsDone
  /-- SWITCH_CELL_TIME: In each cell time the scheduler matches inputs to outputs and moves one cell per match. -/
  | switchCellTime
  /-- RING_OUTPUT_FREE: A ring output finishes a frame and starts the next waiting frame in the order of R134 and R364. -/
  | ringOutputFree (i : Fin 5)
  /-- LATCHED_REGISTER_READ: A read that starts at the first byte of an L register copies the whole register into its latch. -/
  | latchedRegisterRead (q : Requester) (off : BitVec 22) (wide : Bool)
deriving DecidableEq, Repr

end Sys2Proof
end

