-- ==== Sys2Proof/Decode.lean ====
section
/-!
DEFINITION. Words of the opcode table. The table gives no row any bits: a command is an event at the hub and is no word of a program.
-/

namespace Sys2Proof

/-- The command that a word of `nbits` bits spells by the opcode table's bits: none, for every word. -/
def decodeTableWord (_nbits _w : Nat) : Option Instr := none

end Sys2Proof
end

