-- ==== Sys2Proof/Config.lean ====
section
/-!
DEFINITION. What a part or the outside world fixes and the spec does not: values at manufacture, the cryptographic functions
whose definitions are standards outside the spec, formats the spec names without giving, and the FREE VALUES. Every constant
here is opaque, so nothing can be proved about its value and a claim holds whatever it is.
-/

namespace Sys2Proof.Config

/-- A free value, fresh for each number `n` the machine draws (`State.drawn` counts the draws). Log entry 1. -/
opaque freeValue : Nat → DWord

/-- ID_PART.GRADE, fixed at manufacture (R524). -/
opaque partGrade : BitVec 8
/-- ID_SERIAL.SERIAL, the serial number of the DeviceID certificate, fixed at manufacture (R416, R524). -/
opaque partSerial : BitVec 128

/-- SHA-384 over a byte string. The digest is a function of the bytes; its definition is a standard outside the spec. -/
opaque sha384 : List Byte → BitVec 384
/-- Verification of a signature by a public key over a message, ECDSA P-384 (key, message, signature). -/
opaque ecdsaOk : List Byte → List Byte → List Byte → Bool
/-- Verification of a signature by a public key over a message, ML-DSA-87 (key, message, signature). -/
opaque mldsaOk : List Byte → List Byte → List Byte → Bool
/-- A signature by the alias key of algorithm `0` (P-384) or `1` (ML-DSA-87) over a message, drawn `n`-th. -/
opaque sign : Nat → Nat → List Byte → List Byte
/-- HKDF-SHA-384 (RFC 5869): Extract of a salt and input keying material (R423). -/
opaque hkdfExtract : List Byte → List Byte → BitVec 384
/-- HKDF-SHA-384: Expand of a PRK under an info string to a number of bytes (R423). -/
opaque hkdfExpand : BitVec 384 → List Byte → Nat → List Byte
/-- HMAC-SHA-384 of a message under a key (R421, R424). -/
opaque hmac : List Byte → List Byte → List Byte
/-- Byte `n` of the AES-256-GCM key stream of a key and an IV, with which the plaintext is XORed, and the tag of a key, an IV, the AAD and the
plaintext (R146). -/
opaque gcmStream : List Byte → List Byte → Nat → Byte
opaque gcmTag : List Byte → List Byte → List Byte → List Byte → BitVec 128
/-- Byte `i` of the DRBG's `n`-th output (R434, R435). -/
opaque drbgByte : Nat → Nat → Byte
/-- The `n`-th ephemeral ML-KEM-1024 encapsulation key and ECDH P-384 public key of this hub (Table 16-4). -/
opaque kemKey : Nat → List Byte
opaque ecdhKey : Nat → List Byte
/-- The ML-KEM-1024 ciphertext that the hub's `n`-th draw makes to a peer's key. -/
opaque kemCipher : Nat → List Byte → List Byte
/-- The ECDH x-coordinate, and the ML-KEM shared secret, of the hub's `n`-th key pair with a peer's share (R423). -/
opaque ecdhSecret : Nat → List Byte → List Byte
opaque kemSecret : Nat → List Byte → List Byte
/-- The certificate chain of algorithm `0` (P-384) or `1` (ML-DSA-87): intermediate, DeviceID, and the alias of a boot with this firmware
digest, SVN and debug state (R416). -/
opaque certChain : Nat → Nat → Nat → Bool → List Byte
/-- Both issues of a peer's chain verify up to a vendor root whose digest the ROM holds (R417). -/
opaque chainOk : List Byte → Bool
/-- From a peer's certificates: the alias key of an algorithm, the certificate serial number, and the SVN and debug flag of its
DiceTcbInfo (R416). -/
opaque aliasKey : Nat → List Byte → List Byte
opaque chainSerial : List Byte → Nat
opaque chainSvn : List Byte → Nat
opaque chainDebug : List Byte → Bool
/-- The debug public keys that a firmware image carries, by algorithm (R429). -/
opaque debugKey : Nat → List Byte → List Byte
/-- The ROM digest of Blackthorn's boot ROM (measurement block 1), and the digests of the two vendor roots in it (R417). -/
opaque romDigest : BitVec 384
opaque vendorRoots : List (BitVec 384)
/-- The answer of a function's SPDM responder to a request (R418): DMTF SPDM 1.3 over PCIe DOE, a standard outside the spec; the `n`-th
draw of the DRBG enters it. -/
opaque spdmAnswer : Nat → List Byte → List Byte
/-- The configuration that the body of an owner bundle spells (R526): its set-up writes in order, as offset and value; the bytes of the table
regions; the program words of the Briar engines; and the point records. The spec does not give the body's layout. -/
opaque bundleWrites : List Byte → List (Nat × Nat)
opaque bundleTables : List Byte → List (Nat × List Byte)
opaque bundleProgram : List Byte → List (Nat × Nat)
opaque bundlePoints : List Byte → List (Nat × List Byte)

end Sys2Proof.Config
end

