-- ==== Sys2Proof/Machine/RegMap.lean ====
section
/-!
DEFINITION. The set-up register map: every register that Tables 01-7 to 21-4 list, with the base and strides of its
home chapter and, for each field, its word, lowest bit, width, access code (Table 00-4), reset value and legal set
(R519, R524, R530, R535). The rows follow the tables of spec/ one to one; reserved bits have no row and read as zero (R7).
-/

namespace Sys2Proof

/-- The access codes of Table 00-4 (R6). -/
inductive Acc where
  | rw | ro | wo | w1c | rs | rwl
deriving DecidableEq, Repr

/-- Fields whose legal set depends on other fields or on the register's own index (R530: the set is computed from the
stored values of the fields that it names). Each is decided in `Machine/Operands.lean`. -/
inductive Dep where
  | asetValid | tenKind | tenHost | rgnValid | portMode | portFec | excl | outdl | inlen | smapWidth | srcP | srcS
  | chat | fpLimit | sysGain | sysOfs | canFrames | canDbr | mobjAddr2 | mobjAddr3 | wrapBot | phase | rngHi | ceThr
  | brkLimit
deriving DecidableEq, Repr

/-- The legal set of a field (R530). -/
inductive Legal where
  /-- Every value of the field's width. -/
  | all
  /-- The values `lo` to `hi`; another value stores the nearer end. -/
  | range (lo hi : Nat)
  /-- An enumeration whose codes `0` to `max` are defined; a reserved code stores `fallback`. -/
  | enum (max fallback : Nat)
  /-- A signed field of the values `lo` to `hi`. -/
  | srange (lo hi : Int)
  /-- Decided from other fields. -/
  | dep (d : Dep)
deriving DecidableEq, Repr

/-- One field of one 32-bit word of a register. -/
structure FRow where
  word : Nat
  lo : Nat
  width : Nat
  acc : Acc
  reset : Nat
  legal : Legal
deriving DecidableEq, Repr

/-- Where the instances of a register lie: a base offset, the strides and counts of its indices (outermost first), its
size in 4-byte words, and the row of Table 21-5 whose counter counts its clamps. -/
structure RShape where
  base : Nat
  dims : List (Nat × Nat)
  words : Nat
  clampRow : Nat
deriving DecidableEq, Repr

/-- The set-up registers, by the manual's names (Table 21-6). -/
inductive Reg where
  | RING_NODE_ID | RING_NODE_ID1 | RING_NODE_STATE | RING_TOPO | RING_NOROUTE_CNT | RING_RT
  | RFX_ASET | RFX_ASET_R | RFX_PT_CLAMP_CNT | RFX_SUB_USED | RFX_SUB_QUOTA | RFX_SUB_LOST
  | HIF_TEN | HIF_ALIAS | HIF_WIN_ID | HIF_SUM_ADDR | HIF_ERR_VEC | HIF_TEN_STAT
  | HIF_RGN_BASE | HIF_RGN_LEN | HIF_RGN_PEER | Q_SQ_BASE | Q_CQ_BASE | Q_DB_ADDR
  | Q_CFG | Q_COAL | Q_CTRL | Q_STATUS | Q_DROP | HIF_QUOTA
  | HIF_TAG_STATE | HIF_LATE_RSP | HIF_CLAMP_CNT | HIF_TMO | RING_PORT_CFG | RING_PORT_STAT
  | RING_PORT_RTT | RING_PORT_ERR | RING_PORT_DISC | RING_PORT_WRAP | RING_CE_CNT | RING_CYC_CFG
  | RING_CYC_CAP | RING_CYC_EXCL | RING_CYC_OUT | RING_SUBRATE | RING_CYC_STAT | RING_CYC_TCIRC
  | RING_CYC_TSWEEP | RING_SLOT | RING_SMAP | RING_XMAP | RING_XIN | TD_SNAP
  | TD_EDGE_CNT | TD_NOW | TD_SYNC_CFG | TD_PPS_IN | TD_PPS_OUT | TD_PTP
  | TD_LAT_TRIM | TD_LINK_DLY | TD_CFG | TD_PARAM | TD_STAT | TD_RATE
  | TD_OFS | TD_ADJ | TD_CMD | TD_SET | PORT_FN | PORT_PAIR
  | PORT_DIF | PORT_DIL | PORT_DIT | PORT_DO | PORT_FP_CFG | PORT_FP_RTY
  | PORT_STAT | PORT_DIAG | PORT_EDGE | PORT_CUR | PORT_CLAMP_CNT | PWR_TBM_BUDGET
  | PWR_TBM_STAT | PWR_TBM_CNT | MEAS_CFG | MEAS_STAT | MEAS_SYS_GAIN | MEAS_SYS_OFS
  | MEAS_LEAD | MEAS_CJ | MEAS_AO | MEAS_BG | MEAS_SCAL_CMD | MEAS_SCAL_REF
  | MEAS_SCAL_STAT | MEAS_CLAMP_CNT | PCTL_CAN_CFG | PCTL_CAN_DT | PCTL_SPE_CFG | PCTL_SPE_MAC
  | PCTL_UART_CFG | PCTL_UART_RSP | PCTL_IOL_CFG | PCTL_IOL_FMT | PCTL_IOL_ID | PCTL_CAN_STAT
  | PCTL_SPE_STAT | PCTL_UART_STAT | PCTL_IOL_STAT | PCTL_PORT | PCTL_CLAMP_CNT | PCTL_CMD
  | PCTL_MOBJ | ENG_CTRL | ENG_STAT | ENG_SLOTEN | ENG_SLOTMAP | ENG_SWAP_TMO
  | ENG_START_CFG | ENG_START_T | ENG_EVT | ENG_CLAMP_CNT | ENG_CH_CFG | ENG_CH_PINS
  | ENG_CH_PROG | ENG_CH_IDLE | ENG_CH_FLAG | ENG_CH_GRID | ENG_CH_STAT | ENG_CH_ERR
  | ENG_CH_CNT | BRG_RNG_CFG | BRG_RNG_LO | BRG_RNG_HI | BRG_LOCK_CFG | BRG_CMD
  | BRG_PF_CNT | BRG_POST_CNT | BRG_POST_FAIL | BRG_LOCK_CNT | BRG_CLAMP_CNT | BRG_LOCK_STAT
  | BRG_TUN_CFG | BRG_TUN_NODE | BRG_TUN_MATCH | BRG_TUN_MASK | BRG_TUN_LAT | BRG_TUN_CNT
  | BRG_TUN_SEQ | SW_STAT | SW_FREE | SW_AUDIT | SW_CLAMP_CNT | SW_IN_CNT
  | SW_OQ_CFG | SW_OQ_LIM | SW_OQ_STAT | SW_OQ_CNT | RFX_CFG | RFX_STAT
  | RFX_CNT | RFX_CLAMP_CNT | RFX_TBL_STAT | RFX_SM_STATE | RFX_ROP | TWIN_CFG
  | TWIN_PEER | TWIN_STAT | TWIN_DELTA | TWIN_DELTA_T | TWIN_CNT | TWIN_CMP_CNT
  | TWIN_CMD | TWIN_PULSE | TWIN_PULSE_STAT | SEC_CFG | SEC_STAT | SEC_MBX_CMD
  | SEC_MBX_STAT | SEC_MGMT | SEC_TEN | SEC_TEN_KEY | SEC_PEER_OWNER | VLT_TAMPER_CFG
  | VLT_TAMPER_STAT | VLT_TAMPER_TIME | ID_BOOT_STAT | ID_BOOT_TIME | ID_BOOT_CMD | ID_UPD_CFG
  | ID_UPD_STAT | ID_RCV_CMD | ID_RCV_OFS | ID_RCV_TOTAL | ID_RCV_STAT | ID_RCV_SERVE
  | VLT_FW_CTR | VLT_BND_CTR | VLT_RCV_PEER | FLT_STATUS | FLT_MASK | FLT_ESC
  | FLT_SAFE | FLT_SRC | FLT_LOG_RD | FLT_LOG_RDSTAT | FLT_LOG_SEQ | FLT_LOG_LOST
  | PWR_STAT | PWR_CFG | PWR_SEAT_CFG | PWR_FEED_V | PWR_FPIN_V | PWR_FEED_I
  | PWR_FPIN_I | PWR_BRK_CFG | PWR_BRK_STAT | PWR_WAKE_EN | PWR_WAKE_SRC | PWR_RET_STAT
  | PWR_CLAMP_CNT | VLT_TIMER | VLT_WAKE_T | CLK_CFG | CLK_STATUS | CLK_GATE
  | CLK_ISL | CLK_FCNT_CFG | CLK_FCNT_WIN | CLK_FCNT_STAT | CLK_FCNT_TGT | CLK_FCNT_REF
  | CLK_CNT | CLK_CLAMP_CNT | ID_PART | ID_CAP | ID_SERIAL | ID_FW_SVN
  | ID_BND_SVN | ID_FW_DIGEST | ID_BND_DIGEST | ID_OWNER_DIGEST | ID_STATE | ID_BOOTS
  | ID_UPTIME | ID_COMMIT | ID_CLAMP_SUM | ID_CLAMP_CNT | TD_CLAMP_CNT | RING_CLAMP_CNT
  | TWIN_CLAMP_CNT | SEC_CLAMP_CNT
deriving DecidableEq, Repr

/-- The place of each register (Table 21-6 and the home chapters). -/
def Reg.shape : Reg → RShape
  | .RING_NODE_ID => ⟨0x50010, [], 1, 4⟩
  | .RING_NODE_ID1 => ⟨0x50014, [], 1, 4⟩
  | .RING_NODE_STATE => ⟨0x50018, [], 1, 4⟩
  | .RING_TOPO => ⟨0x50020, [], 1, 4⟩
  | .RING_NOROUTE_CNT => ⟨0x50024, [], 1, 4⟩
  | .RING_RT => ⟨0x51000, [(0x4, 1024)], 1, 4⟩
  | .RFX_ASET => ⟨0xa4000, [(0x40, 256)], 1, 10⟩
  | .RFX_ASET_R => ⟨0xa4000, [(0x40, 256), (0x4, 16)], 1, 10⟩
  | .RFX_PT_CLAMP_CNT => ⟨0xa0040, [], 1, 10⟩
  | .RFX_SUB_USED => ⟨0xa0044, [], 1, 10⟩
  | .RFX_SUB_QUOTA => ⟨0xa0080, [(0x4, 16)], 1, 10⟩
  | .RFX_SUB_LOST => ⟨0xa00c0, [(0x4, 16)], 1, 10⟩
  | .HIF_TEN => ⟨0x70c00, [(0x4, 16)], 1, 6⟩
  | .HIF_ALIAS => ⟨0x70c40, [(0x4, 16)], 1, 6⟩
  | .HIF_WIN_ID => ⟨0x70000, [(0x1000, 16)], 1, 6⟩
  | .HIF_SUM_ADDR => ⟨0x70008, [(0x1000, 16)], 2, 6⟩
  | .HIF_ERR_VEC => ⟨0x70010, [(0x1000, 16)], 1, 6⟩
  | .HIF_TEN_STAT => ⟨0x70014, [(0x1000, 16)], 1, 6⟩
  | .HIF_RGN_BASE => ⟨0x70018, [(0x1000, 16)], 2, 6⟩
  | .HIF_RGN_LEN => ⟨0x70020, [(0x1000, 16)], 1, 6⟩
  | .HIF_RGN_PEER => ⟨0x70028, [(0x1000, 16), (0x4, 8)], 1, 6⟩
  | .Q_SQ_BASE => ⟨0x70100, [(0x1000, 16), (0x40, 32)], 2, 6⟩
  | .Q_CQ_BASE => ⟨0x70108, [(0x1000, 16), (0x40, 32)], 2, 6⟩
  | .Q_DB_ADDR => ⟨0x70110, [(0x1000, 16), (0x40, 32)], 2, 6⟩
  | .Q_CFG => ⟨0x70118, [(0x1000, 16), (0x40, 32)], 1, 6⟩
  | .Q_COAL => ⟨0x7011c, [(0x1000, 16), (0x40, 32)], 1, 6⟩
  | .Q_CTRL => ⟨0x70120, [(0x1000, 16), (0x40, 32)], 1, 6⟩
  | .Q_STATUS => ⟨0x70124, [(0x1000, 16), (0x40, 32)], 1, 6⟩
  | .Q_DROP => ⟨0x70128, [(0x1000, 16), (0x40, 32)], 1, 6⟩
  | .HIF_QUOTA => ⟨0x70c80, [(0x4, 16)], 1, 6⟩
  | .HIF_TAG_STATE => ⟨0x70cc0, [], 1, 6⟩
  | .HIF_LATE_RSP => ⟨0x70cc4, [], 1, 6⟩
  | .HIF_CLAMP_CNT => ⟨0x70cc8, [], 1, 6⟩
  | .HIF_TMO => ⟨0x70d00, [(0x4, 16)], 1, 6⟩
  | .RING_PORT_CFG => ⟨0x50100, [(0x40, 4)], 1, 4⟩
  | .RING_PORT_STAT => ⟨0x50104, [(0x40, 5)], 1, 4⟩
  | .RING_PORT_RTT => ⟨0x50108, [(0x40, 5)], 1, 4⟩
  | .RING_PORT_ERR => ⟨0x5010c, [(0x40, 5)], 1, 4⟩
  | .RING_PORT_DISC => ⟨0x50110, [(0x40, 5)], 1, 4⟩
  | .RING_PORT_WRAP => ⟨0x50114, [(0x40, 5)], 1, 4⟩
  | .RING_CE_CNT => ⟨0x50028, [], 1, 4⟩
  | .RING_CYC_CFG => ⟨0x50040, [(0x20, 2)], 1, 4⟩
  | .RING_CYC_CAP => ⟨0x50044, [(0x20, 2)], 1, 4⟩
  | .RING_CYC_EXCL => ⟨0x50048, [(0x20, 2)], 1, 4⟩
  | .RING_CYC_OUT => ⟨0x5004c, [(0x20, 2)], 1, 4⟩
  | .RING_SUBRATE => ⟨0x50050, [(0x20, 2)], 1, 4⟩
  | .RING_CYC_STAT => ⟨0x50054, [(0x20, 2)], 1, 4⟩
  | .RING_CYC_TCIRC => ⟨0x50058, [(0x20, 2)], 1, 4⟩
  | .RING_CYC_TSWEEP => ⟨0x5005c, [(0x20, 2)], 1, 4⟩
  | .RING_SLOT => ⟨0x50400, [(0x400, 2), (0x4, 254)], 1, 4⟩
  | .RING_SMAP => ⟨0x52000, [(0x8, 2048)], 2, 4⟩
  | .RING_XMAP => ⟨0x56000, [(0x4, 512)], 1, 4⟩
  | .RING_XIN => ⟨0x57000, [(0x8, 256)], 2, 4⟩
  | .TD_SNAP => ⟨0x40000, [], 1, 3⟩
  | .TD_EDGE_CNT => ⟨0x40004, [], 1, 3⟩
  | .TD_NOW => ⟨0x40010, [(0x10, 8)], 4, 3⟩
  | .TD_SYNC_CFG => ⟨0x40090, [(0x4, 2)], 1, 3⟩
  | .TD_PPS_IN => ⟨0x40098, [], 1, 3⟩
  | .TD_PPS_OUT => ⟨0x4009c, [], 1, 3⟩
  | .TD_PTP => ⟨0x400a0, [(0x4, 2)], 1, 3⟩
  | .TD_LAT_TRIM => ⟨0x400b0, [(0x4, 5)], 1, 3⟩
  | .TD_LINK_DLY => ⟨0x400d0, [(0x4, 5)], 1, 3⟩
  | .TD_CFG => ⟨0x40100, [(0x40, 8)], 1, 3⟩
  | .TD_PARAM => ⟨0x40104, [(0x40, 8)], 1, 3⟩
  | .TD_STAT => ⟨0x40108, [(0x40, 8)], 1, 3⟩
  | .TD_RATE => ⟨0x4010c, [(0x40, 8)], 1, 3⟩
  | .TD_OFS => ⟨0x40110, [(0x40, 8)], 2, 3⟩
  | .TD_ADJ => ⟨0x40118, [(0x40, 8)], 1, 3⟩
  | .TD_CMD => ⟨0x4011c, [(0x40, 8)], 1, 3⟩
  | .TD_SET => ⟨0x40120, [(0x40, 8)], 3, 3⟩
  | .PORT_FN => ⟨0xc0000, [(0x400, 64)], 1, 12⟩
  | .PORT_PAIR => ⟨0xc0004, [(0x400, 64)], 1, 12⟩
  | .PORT_DIF => ⟨0xc0010, [(0x400, 64), (0x10, 4)], 1, 12⟩
  | .PORT_DIL => ⟨0xc0014, [(0x400, 64), (0x10, 4)], 1, 12⟩
  | .PORT_DIT => ⟨0xc0018, [(0x400, 64), (0x10, 4)], 1, 12⟩
  | .PORT_DO => ⟨0xc001c, [(0x400, 64), (0x10, 4)], 1, 12⟩
  | .PORT_FP_CFG => ⟨0xc0050, [(0x400, 64)], 1, 12⟩
  | .PORT_FP_RTY => ⟨0xc0054, [(0x400, 64)], 1, 12⟩
  | .PORT_STAT => ⟨0xc0060, [(0x400, 64)], 1, 12⟩
  | .PORT_DIAG => ⟨0xc0064, [(0x400, 64)], 1, 12⟩
  | .PORT_EDGE => ⟨0xc0070, [(0x400, 64), (0x4, 4)], 1, 12⟩
  | .PORT_CUR => ⟨0xc0080, [(0x400, 64)], 1, 12⟩
  | .PORT_CLAMP_CNT => ⟨0xc00fc, [(0x400, 64)], 1, 12⟩
  | .PWR_TBM_BUDGET => ⟨0x20800, [], 1, 2⟩
  | .PWR_TBM_STAT => ⟨0x20804, [], 1, 2⟩
  | .PWR_TBM_CNT => ⟨0x20808, [], 1, 2⟩
  | .MEAS_CFG => ⟨0xd0000, [(0x20, 256)], 1, 13⟩
  | .MEAS_STAT => ⟨0xd0004, [(0x20, 256)], 1, 13⟩
  | .MEAS_SYS_GAIN => ⟨0xd0008, [(0x20, 256)], 1, 13⟩
  | .MEAS_SYS_OFS => ⟨0xd000c, [(0x20, 256)], 1, 13⟩
  | .MEAS_LEAD => ⟨0xd0010, [(0x20, 256)], 1, 13⟩
  | .MEAS_CJ => ⟨0xd2000, [(0x4, 64)], 1, 13⟩
  | .MEAS_AO => ⟨0xd2100, [(0x4, 64)], 1, 13⟩
  | .MEAS_BG => ⟨0xd2200, [], 1, 13⟩
  | .MEAS_SCAL_CMD => ⟨0xd2204, [], 1, 13⟩
  | .MEAS_SCAL_REF => ⟨0xd2208, [], 1, 13⟩
  | .MEAS_SCAL_STAT => ⟨0xd220c, [], 1, 13⟩
  | .MEAS_CLAMP_CNT => ⟨0xd2210, [], 1, 13⟩
  | .PCTL_CAN_CFG => ⟨0xe0000, [(0x10, 32)], 1, 14⟩
  | .PCTL_CAN_DT => ⟨0xe0004, [(0x10, 32)], 1, 14⟩
  | .PCTL_SPE_CFG => ⟨0xe0400, [(0x10, 16)], 1, 14⟩
  | .PCTL_SPE_MAC => ⟨0xe0408, [(0x10, 16)], 2, 14⟩
  | .PCTL_UART_CFG => ⟨0xe0800, [(0x10, 64)], 1, 14⟩
  | .PCTL_UART_RSP => ⟨0xe0804, [(0x10, 64)], 1, 14⟩
  | .PCTL_IOL_CFG => ⟨0xe1000, [(0x10, 64)], 1, 14⟩
  | .PCTL_IOL_FMT => ⟨0xe1004, [(0x10, 64)], 1, 14⟩
  | .PCTL_IOL_ID => ⟨0xe1008, [(0x10, 64)], 2, 14⟩
  | .PCTL_CAN_STAT => ⟨0xe0200, [(0x8, 32)], 2, 14⟩
  | .PCTL_SPE_STAT => ⟨0xe0500, [(0x8, 16)], 2, 14⟩
  | .PCTL_UART_STAT => ⟨0xe0c00, [(0x8, 64)], 2, 14⟩
  | .PCTL_IOL_STAT => ⟨0xe1400, [(0x8, 64)], 2, 14⟩
  | .PCTL_PORT => ⟨0xe1800, [(0x4, 64)], 1, 14⟩
  | .PCTL_CLAMP_CNT => ⟨0xe1900, [], 1, 14⟩
  | .PCTL_CMD => ⟨0xe1a00, [], 1, 14⟩
  | .PCTL_MOBJ => ⟨0xe8000, [(0x10, 2048)], 4, 14⟩
  | .ENG_CTRL => ⟨0xb0000, [(0x1000, 16)], 1, 11⟩
  | .ENG_STAT => ⟨0xb0004, [(0x1000, 16)], 1, 11⟩
  | .ENG_SLOTEN => ⟨0xb0008, [(0x1000, 16)], 1, 11⟩
  | .ENG_SLOTMAP => ⟨0xb0010, [(0x1000, 16)], 2, 11⟩
  | .ENG_SWAP_TMO => ⟨0xb0018, [(0x1000, 16)], 1, 11⟩
  | .ENG_START_CFG => ⟨0xb0020, [(0x1000, 16)], 1, 11⟩
  | .ENG_START_T => ⟨0xb0028, [(0x1000, 16)], 2, 11⟩
  | .ENG_EVT => ⟨0xb0030, [(0x1000, 16)], 1, 11⟩
  | .ENG_CLAMP_CNT => ⟨0xb003c, [(0x1000, 16)], 1, 11⟩
  | .ENG_CH_CFG => ⟨0xb0100, [(0x1000, 16), (0x40, 16)], 1, 11⟩
  | .ENG_CH_PINS => ⟨0xb0104, [(0x1000, 16), (0x40, 16)], 1, 11⟩
  | .ENG_CH_PROG => ⟨0xb0108, [(0x1000, 16), (0x40, 16), (0x4, 2)], 1, 11⟩
  | .ENG_CH_IDLE => ⟨0xb0110, [(0x1000, 16), (0x40, 16)], 1, 11⟩
  | .ENG_CH_FLAG => ⟨0xb0114, [(0x1000, 16), (0x40, 16)], 1, 11⟩
  | .ENG_CH_GRID => ⟨0xb0118, [(0x1000, 16), (0x40, 16)], 2, 11⟩
  | .ENG_CH_STAT => ⟨0xb0120, [(0x1000, 16), (0x40, 16)], 1, 11⟩
  | .ENG_CH_ERR => ⟨0xb0124, [(0x1000, 16), (0x40, 16)], 1, 11⟩
  | .ENG_CH_CNT => ⟨0xb0128, [(0x1000, 16), (0x40, 16)], 1, 11⟩
  | .BRG_RNG_CFG => ⟨0x91000, [(0x10, 256)], 1, 8⟩
  | .BRG_RNG_LO => ⟨0x91004, [(0x10, 256)], 1, 8⟩
  | .BRG_RNG_HI => ⟨0x91008, [(0x10, 256)], 1, 8⟩
  | .BRG_LOCK_CFG => ⟨0x90000, [], 1, 8⟩
  | .BRG_CMD => ⟨0x90004, [], 1, 8⟩
  | .BRG_PF_CNT => ⟨0x90008, [], 1, 8⟩
  | .BRG_POST_CNT => ⟨0x9000c, [], 1, 8⟩
  | .BRG_POST_FAIL => ⟨0x90010, [], 2, 8⟩
  | .BRG_LOCK_CNT => ⟨0x90018, [], 1, 8⟩
  | .BRG_CLAMP_CNT => ⟨0x9001c, [], 1, 8⟩
  | .BRG_LOCK_STAT => ⟨0x90100, [(0x8, 64)], 2, 8⟩
  | .BRG_TUN_CFG => ⟨0x93000, [(0x20, 64)], 1, 8⟩
  | .BRG_TUN_NODE => ⟨0x93004, [(0x20, 64)], 1, 8⟩
  | .BRG_TUN_MATCH => ⟨0x93008, [(0x20, 64)], 1, 8⟩
  | .BRG_TUN_MASK => ⟨0x9300c, [(0x20, 64)], 1, 8⟩
  | .BRG_TUN_LAT => ⟨0x93010, [(0x20, 64)], 1, 8⟩
  | .BRG_TUN_CNT => ⟨0x93014, [(0x20, 64)], 1, 8⟩
  | .BRG_TUN_SEQ => ⟨0x93018, [(0x20, 64)], 1, 8⟩
  | .SW_STAT => ⟨0x80000, [], 1, 7⟩
  | .SW_FREE => ⟨0x80004, [], 1, 7⟩
  | .SW_AUDIT => ⟨0x80008, [], 1, 7⟩
  | .SW_CLAMP_CNT => ⟨0x8000c, [], 1, 7⟩
  | .SW_IN_CNT => ⟨0x80100, [(0x4, 32)], 1, 7⟩
  | .SW_OQ_CFG => ⟨0x81000, [(0x10, 256)], 1, 7⟩
  | .SW_OQ_LIM => ⟨0x81004, [(0x10, 256)], 1, 7⟩
  | .SW_OQ_STAT => ⟨0x81008, [(0x10, 256)], 1, 7⟩
  | .SW_OQ_CNT => ⟨0x8100c, [(0x10, 256)], 1, 7⟩
  | .RFX_CFG => ⟨0xa0000, [], 1, 9⟩
  | .RFX_STAT => ⟨0xa0004, [], 1, 9⟩
  | .RFX_CNT => ⟨0xa0008, [], 1, 9⟩
  | .RFX_CLAMP_CNT => ⟨0xa000c, [], 1, 9⟩
  | .RFX_TBL_STAT => ⟨0xa0010, [], 1, 9⟩
  | .RFX_SM_STATE => ⟨0xa0400, [(0x4, 256)], 1, 9⟩
  | .RFX_ROP => ⟨0xa0800, [(0x8, 256)], 2, 9⟩
  | .TWIN_CFG => ⟨0x60000, [], 1, 5⟩
  | .TWIN_PEER => ⟨0x60010, [], 4, 5⟩
  | .TWIN_STAT => ⟨0x60020, [], 1, 5⟩
  | .TWIN_DELTA => ⟨0x60024, [], 1, 5⟩
  | .TWIN_DELTA_T => ⟨0x60028, [], 1, 5⟩
  | .TWIN_CNT => ⟨0x6002c, [], 1, 5⟩
  | .TWIN_CMP_CNT => ⟨0x60030, [], 1, 5⟩
  | .TWIN_CMD => ⟨0x60034, [], 1, 5⟩
  | .TWIN_PULSE => ⟨0x60040, [], 1, 5⟩
  | .TWIN_PULSE_STAT => ⟨0x60044, [], 1, 5⟩
  | .SEC_CFG => ⟨0xf0000, [], 1, 15⟩
  | .SEC_STAT => ⟨0xf0004, [], 1, 15⟩
  | .SEC_MBX_CMD => ⟨0xf0008, [], 1, 15⟩
  | .SEC_MBX_STAT => ⟨0xf000c, [], 1, 15⟩
  | .SEC_MGMT => ⟨0xf0010, [(0x4, 4)], 1, 15⟩
  | .SEC_TEN => ⟨0xf0040, [(0x4, 16)], 1, 15⟩
  | .SEC_TEN_KEY => ⟨0xf0100, [(0x40, 16)], 12, 15⟩
  | .SEC_PEER_OWNER => ⟨0xf0500, [(0x40, 4)], 12, 15⟩
  | .VLT_TAMPER_CFG => ⟨0x100000, [], 1, 0⟩
  | .VLT_TAMPER_STAT => ⟨0x100004, [], 1, 0⟩
  | .VLT_TAMPER_TIME => ⟨0x100008, [], 2, 0⟩
  | .ID_BOOT_STAT => ⟨0x100, [], 1, 0⟩
  | .ID_BOOT_TIME => ⟨0x104, [], 1, 0⟩
  | .ID_BOOT_CMD => ⟨0x108, [], 1, 0⟩
  | .ID_UPD_CFG => ⟨0x10c, [], 1, 0⟩
  | .ID_UPD_STAT => ⟨0x110, [], 1, 0⟩
  | .ID_RCV_CMD => ⟨0x120, [], 1, 0⟩
  | .ID_RCV_OFS => ⟨0x124, [], 1, 0⟩
  | .ID_RCV_TOTAL => ⟨0x128, [], 1, 0⟩
  | .ID_RCV_STAT => ⟨0x12c, [], 1, 0⟩
  | .ID_RCV_SERVE => ⟨0x130, [], 1, 0⟩
  | .VLT_FW_CTR => ⟨0x100010, [], 1, 0⟩
  | .VLT_BND_CTR => ⟨0x100014, [], 1, 0⟩
  | .VLT_RCV_PEER => ⟨0x100020, [(0x10, 2)], 4, 0⟩
  | .FLT_STATUS => ⟨0x30000, [], 2, 0⟩
  | .FLT_MASK => ⟨0x30008, [], 2, 0⟩
  | .FLT_ESC => ⟨0x30010, [], 2, 0⟩
  | .FLT_SAFE => ⟨0x30018, [], 1, 0⟩
  | .FLT_SRC => ⟨0x30100, [(0x10, 49)], 4, 0⟩
  | .FLT_LOG_RD => ⟨0x30020, [], 2, 0⟩
  | .FLT_LOG_RDSTAT => ⟨0x30028, [], 2, 0⟩
  | .FLT_LOG_SEQ => ⟨0x30030, [(0x8, 2)], 2, 0⟩
  | .FLT_LOG_LOST => ⟨0x30040, [], 1, 0⟩
  | .PWR_STAT => ⟨0x20000, [], 1, 2⟩
  | .PWR_CFG => ⟨0x20004, [], 1, 2⟩
  | .PWR_SEAT_CFG => ⟨0x20008, [], 1, 2⟩
  | .PWR_FEED_V => ⟨0x20010, [], 1, 2⟩
  | .PWR_FPIN_V => ⟨0x20014, [], 1, 2⟩
  | .PWR_FEED_I => ⟨0x20018, [], 1, 2⟩
  | .PWR_FPIN_I => ⟨0x2001c, [], 1, 2⟩
  | .PWR_BRK_CFG => ⟨0x20020, [(0x4, 4)], 1, 2⟩
  | .PWR_BRK_STAT => ⟨0x20030, [(0x4, 4)], 1, 2⟩
  | .PWR_WAKE_EN => ⟨0x20040, [], 1, 2⟩
  | .PWR_WAKE_SRC => ⟨0x20044, [], 1, 2⟩
  | .PWR_RET_STAT => ⟨0x20048, [], 1, 2⟩
  | .PWR_CLAMP_CNT => ⟨0x2004c, [], 1, 2⟩
  | .VLT_TIMER => ⟨0x100040, [], 2, 0⟩
  | .VLT_WAKE_T => ⟨0x100048, [], 2, 0⟩
  | .CLK_CFG => ⟨0x10000, [], 1, 1⟩
  | .CLK_STATUS => ⟨0x10004, [], 1, 1⟩
  | .CLK_GATE => ⟨0x10008, [], 1, 1⟩
  | .CLK_ISL => ⟨0x10100, [(0x4, 41)], 1, 1⟩
  | .CLK_FCNT_CFG => ⟨0x10020, [], 1, 1⟩
  | .CLK_FCNT_WIN => ⟨0x10024, [], 1, 1⟩
  | .CLK_FCNT_STAT => ⟨0x10028, [], 1, 1⟩
  | .CLK_FCNT_TGT => ⟨0x1002c, [], 1, 1⟩
  | .CLK_FCNT_REF => ⟨0x10030, [], 1, 1⟩
  | .CLK_CNT => ⟨0x10034, [], 1, 1⟩
  | .CLK_CLAMP_CNT => ⟨0x10038, [], 1, 1⟩
  | .ID_PART => ⟨0x0, [], 1, 0⟩
  | .ID_CAP => ⟨0x4, [], 1, 0⟩
  | .ID_SERIAL => ⟨0x8, [], 4, 0⟩
  | .ID_FW_SVN => ⟨0x18, [], 1, 0⟩
  | .ID_BND_SVN => ⟨0x1c, [], 1, 0⟩
  | .ID_FW_DIGEST => ⟨0x20, [], 12, 0⟩
  | .ID_BND_DIGEST => ⟨0x50, [], 12, 0⟩
  | .ID_OWNER_DIGEST => ⟨0x80, [], 12, 0⟩
  | .ID_STATE => ⟨0xb0, [], 1, 0⟩
  | .ID_BOOTS => ⟨0xb4, [], 1, 0⟩
  | .ID_UPTIME => ⟨0xb8, [], 2, 0⟩
  | .ID_COMMIT => ⟨0x200, [], 1, 0⟩
  | .ID_CLAMP_SUM => ⟨0x204, [], 1, 0⟩
  | .ID_CLAMP_CNT => ⟨0x208, [], 1, 0⟩
  | .TD_CLAMP_CNT => ⟨0x40008, [], 1, 3⟩
  | .RING_CLAMP_CNT => ⟨0x5002c, [], 1, 4⟩
  | .TWIN_CLAMP_CNT => ⟨0x60048, [], 1, 5⟩
  | .SEC_CLAMP_CNT => ⟨0xf0020, [], 1, 15⟩

/-- The fields of each register, most significant first (the tables of the home chapters). -/
def Reg.rows : Reg → List FRow
  | .RING_NODE_ID => [⟨0, 8, 10, .rwl, 1, .range 1 1023⟩,
      ⟨0, 0, 8, .rwl, 0, .range 0 254⟩]
  | .RING_NODE_ID1 => [⟨0, 31, 1, .rwl, 0, .all⟩,
      ⟨0, 8, 10, .rwl, 1, .range 1 1023⟩,
      ⟨0, 0, 8, .rwl, 0, .range 0 254⟩]
  | .RING_NODE_STATE => [⟨0, 31, 1, .ro, 0, .all⟩,
      ⟨0, 30, 1, .ro, 0, .all⟩,
      ⟨0, 29, 1, .ro, 0, .all⟩,
      ⟨0, 28, 1, .ro, 0, .all⟩,
      ⟨0, 8, 10, .ro, 0, .all⟩,
      ⟨0, 0, 8, .ro, 0, .all⟩]
  | .RING_TOPO => [⟨0, 16, 16, .ro, 0, .all⟩,
      ⟨0, 8, 8, .ro, 0, .all⟩,
      ⟨0, 0, 8, .ro, 0, .all⟩]
  | .RING_NOROUTE_CNT => [⟨0, 16, 16, .rs, 0, .all⟩,
      ⟨0, 0, 16, .rs, 0, .all⟩]
  | .RING_RT => [⟨0, 31, 1, .rwl, 0, .all⟩,
      ⟨0, 30, 1, .rwl, 0, .all⟩,
      ⟨0, 16, 8, .rwl, 0, .range 0 254⟩,
      ⟨0, 8, 4, .rwl, 1, .range 1 15⟩]
  | .RFX_ASET => [⟨0, 16, 1, .rwl, 0, .all⟩,
      ⟨0, 0, 16, .rwl, 0, .all⟩]
  | .RFX_ASET_R => [⟨0, 31, 1, .rwl, 0, .dep .asetValid⟩,
      ⟨0, 30, 1, .rwl, 0, .all⟩,
      ⟨0, 4, 18, .rwl, 0, .all⟩,
      ⟨0, 0, 4, .rwl, 0, .all⟩]
  | .RFX_PT_CLAMP_CNT => [⟨0, 0, 16, .rs, 0, .all⟩]
  | .RFX_SUB_USED => [⟨0, 0, 16, .ro, 0, .all⟩]
  | .RFX_SUB_QUOTA => [⟨0, 0, 16, .rwl, 0x800, .range 0 32768⟩]
  | .RFX_SUB_LOST => [⟨0, 0, 32, .rs, 0, .all⟩]
  | .HIF_TEN => [⟨0, 31, 1, .rwl, 0, .all⟩,
      ⟨0, 29, 2, .rwl, 2, .dep .tenKind⟩,
      ⟨0, 4, 18, .rwl, 0, .dep .tenHost⟩,
      ⟨0, 0, 4, .rwl, 0, .dep .tenHost⟩]
  | .HIF_ALIAS => [⟨0, 31, 1, .rwl, 0, .all⟩,
      ⟨0, 4, 18, .rwl, 0, .all⟩,
      ⟨0, 0, 4, .rwl, 0, .all⟩]
  | .HIF_WIN_ID => [⟨0, 16, 16, .ro, 0, .all⟩,
      ⟨0, 6, 1, .ro, 0, .all⟩,
      ⟨0, 4, 2, .ro, 2, .all⟩,
      ⟨0, 0, 4, .ro, 0, .all⟩]
  | .HIF_SUM_ADDR => [⟨1, 0, 32, .rw, 0, .all⟩,
      ⟨0, 6, 26, .rw, 0, .all⟩,
      ⟨0, 0, 1, .rw, 0, .all⟩]
  | .HIF_ERR_VEC => [⟨0, 31, 1, .rw, 0, .all⟩,
      ⟨0, 0, 7, .rw, 0, .all⟩]
  | .HIF_TEN_STAT => [⟨0, 17, 1, .ro, 0, .all⟩,
      ⟨0, 16, 1, .w1c, 0, .all⟩,
      ⟨0, 0, 14, .ro, 0, .all⟩]
  | .HIF_RGN_BASE => [⟨1, 0, 32, .rw, 0, .all⟩,
      ⟨0, 12, 20, .rw, 0, .all⟩,
      ⟨0, 0, 1, .rw, 0, .all⟩]
  | .HIF_RGN_LEN => [⟨0, 0, 17, .rw, 0, .range 0 65536⟩]
  | .HIF_RGN_PEER => [⟨0, 31, 1, .rw, 0, .dep .rgnValid⟩,
      ⟨0, 4, 18, .rw, 0, .all⟩,
      ⟨0, 0, 4, .rw, 0, .all⟩]
  | .Q_SQ_BASE => [⟨1, 0, 32, .rw, 0, .all⟩,
      ⟨0, 6, 26, .rw, 0, .all⟩]
  | .Q_CQ_BASE => [⟨1, 0, 32, .rw, 0, .all⟩,
      ⟨0, 6, 26, .rw, 0, .all⟩]
  | .Q_DB_ADDR => [⟨1, 0, 32, .rw, 0, .all⟩,
      ⟨0, 3, 29, .rw, 0, .all⟩]
  | .Q_CFG => [⟨0, 31, 1, .rw, 0, .all⟩,
      ⟨0, 24, 7, .rw, 0, .all⟩,
      ⟨0, 16, 4, .rw, 7, .all⟩,
      ⟨0, 8, 5, .rw, 4, .range 4 16⟩,
      ⟨0, 0, 5, .rw, 4, .range 4 16⟩]
  | .Q_COAL => [⟨0, 16, 10, .rw, 1, .range 1 1023⟩,
      ⟨0, 0, 8, .rw, 1, .range 1 255⟩]
  | .Q_CTRL => [⟨0, 1, 1, .wo, 0, .all⟩,
      ⟨0, 0, 1, .rw, 0, .all⟩]
  | .Q_STATUS => [⟨0, 16, 16, .ro, 0, .all⟩,
      ⟨0, 4, 4, .ro, 0, .all⟩,
      ⟨0, 0, 2, .ro, 0, .all⟩]
  | .Q_DROP => [⟨0, 0, 16, .rs, 0, .all⟩]
  | .HIF_QUOTA => [⟨0, 16, 14, .ro, 0, .all⟩,
      ⟨0, 0, 14, .rwl, 0x200, .range 16 8192⟩]
  | .HIF_TAG_STATE => [⟨0, 31, 1, .ro, 0, .all⟩,
      ⟨0, 16, 14, .ro, 0, .all⟩,
      ⟨0, 0, 14, .ro, 0, .all⟩]
  | .HIF_LATE_RSP => [⟨0, 0, 32, .rs, 0, .all⟩]
  | .HIF_CLAMP_CNT => [⟨0, 0, 16, .rs, 0, .all⟩]
  | .HIF_TMO => [⟨0, 0, 20, .rwl, 0xc8, .range 32 1000000⟩]
  | .RING_PORT_CFG => [⟨0, 31, 1, .rwl, 0, .all⟩,
      ⟨0, 24, 4, .rwl, 0, .dep .portMode⟩,
      ⟨0, 20, 2, .rwl, 0, .dep .portFec⟩,
      ⟨0, 16, 2, .rwl, 0, .enum 1 0⟩,
      ⟨0, 0, 12, .rwl, 0, .range 0 4094⟩]
  | .RING_PORT_STAT => [⟨0, 16, 16, .rs, 0, .all⟩,
      ⟨0, 8, 8, .ro, 0, .all⟩,
      ⟨0, 3, 1, .ro, 0, .all⟩,
      ⟨0, 0, 3, .ro, 0, .all⟩]
  | .RING_PORT_RTT => [⟨0, 0, 16, .ro, 0, .all⟩]
  | .RING_PORT_ERR => [⟨0, 16, 16, .rs, 0, .all⟩,
      ⟨0, 0, 16, .rs, 0, .all⟩]
  | .RING_PORT_DISC => [⟨0, 16, 16, .rs, 0, .all⟩,
      ⟨0, 0, 16, .rs, 0, .all⟩]
  | .RING_PORT_WRAP => [⟨0, 16, 16, .rs, 0, .all⟩,
      ⟨0, 0, 16, .rs, 0, .all⟩]
  | .RING_CE_CNT => [⟨0, 0, 32, .rs, 0, .all⟩]
  | .RING_CYC_CFG => [⟨0, 28, 4, .rwl, 0, .all⟩,
      ⟨0, 0, 27, .rwl, 0x7d, .range 125 125000000⟩]
  | .RING_CYC_CAP => [⟨0, 0, 27, .rwl, 0x96, .range 150 125000000⟩]
  | .RING_CYC_EXCL => [⟨0, 0, 28, .rwl, 0x7d, .dep .excl⟩]
  | .RING_CYC_OUT => [⟨0, 0, 28, .rwl, 0x177, .dep .outdl⟩]
  | .RING_SUBRATE => [⟨0, 31, 1, .rwl, 0, .all⟩,
      ⟨0, 24, 4, .rwl, 1, .range 1 15⟩,
      ⟨0, 23, 1, .rwl, 0, .all⟩,
      ⟨0, 16, 4, .rwl, 1, .range 1 15⟩,
      ⟨0, 15, 1, .rwl, 0, .all⟩,
      ⟨0, 8, 4, .rwl, 1, .range 1 15⟩,
      ⟨0, 7, 1, .rwl, 0, .all⟩,
      ⟨0, 0, 4, .rwl, 1, .range 1 15⟩]
  | .RING_CYC_STAT => [⟨0, 30, 2, .ro, 0, .all⟩,
      ⟨0, 29, 1, .ro, 0, .all⟩,
      ⟨0, 28, 1, .ro, 0, .all⟩,
      ⟨0, 16, 8, .rs, 0, .all⟩,
      ⟨0, 8, 8, .rs, 0, .all⟩,
      ⟨0, 0, 8, .rs, 0, .all⟩]
  | .RING_CYC_TCIRC => [⟨0, 0, 27, .ro, 0, .all⟩]
  | .RING_CYC_TSWEEP => [⟨0, 0, 27, .ro, 0, .all⟩]
  | .RING_SLOT => [⟨0, 24, 8, .rwl, 0, .range 0 254⟩,
      ⟨0, 10, 10, .rwl, 0, .range 0 992⟩,
      ⟨0, 0, 10, .rwl, 0, .dep .inlen⟩]
  | .RING_SMAP => [⟨1, 31, 1, .rwl, 0, .all⟩,
      ⟨1, 30, 1, .rwl, 0, .all⟩,
      ⟨1, 29, 1, .rwl, 0, .all⟩,
      ⟨1, 28, 1, .rwl, 0, .all⟩,
      ⟨1, 26, 2, .rwl, 0, .dep .smapWidth⟩,
      ⟨1, 8, 8, .rwl, 0, .all⟩,
      ⟨0, 16, 10, .rwl, 0, .all⟩,
      ⟨0, 0, 16, .rwl, 0, .all⟩]
  | .RING_XMAP => [⟨0, 31, 1, .rwl, 0, .all⟩,
      ⟨0, 30, 1, .rwl, 0, .all⟩,
      ⟨0, 28, 2, .rwl, 0, .all⟩,
      ⟨0, 20, 8, .rwl, 0, .all⟩,
      ⟨0, 10, 10, .rwl, 0, .all⟩,
      ⟨0, 0, 10, .rwl, 0, .all⟩]
  | .RING_XIN => [⟨1, 31, 1, .rwl, 0, .all⟩,
      ⟨1, 18, 10, .rwl, 0, .all⟩,
      ⟨1, 10, 8, .rwl, 0, .all⟩,
      ⟨1, 0, 10, .rwl, 0, .all⟩,
      ⟨0, 10, 8, .rwl, 0, .all⟩,
      ⟨0, 0, 10, .rwl, 0, .all⟩]
  | .TD_SNAP => [⟨0, 0, 1, .wo, 0, .all⟩]
  | .TD_EDGE_CNT => [⟨0, 16, 16, .rs, 0, .all⟩,
      ⟨0, 0, 16, .rs, 0, .all⟩]
  | .TD_NOW => [⟨3, 0, 3, .ro, 0, .all⟩,
      ⟨2, 0, 32, .ro, 0, .all⟩,
      ⟨1, 0, 32, .ro, 0, .all⟩,
      ⟨0, 0, 32, .ro, 0, .all⟩]
  | .TD_SYNC_CFG => [⟨0, 0, 4, .rwl, 0, .range 0 13⟩]
  | .TD_PPS_IN => [⟨0, 31, 1, .rwl, 0, .all⟩,
      ⟨0, 30, 1, .rwl, 0, .all⟩,
      ⟨0, 0, 16, .rwl, 0, .all⟩]
  | .TD_PPS_OUT => [⟨0, 31, 1, .rwl, 0, .all⟩,
      ⟨0, 28, 3, .rwl, 0, .all⟩,
      ⟨0, 0, 20, .rwl, 1, .range 1 999999⟩]
  | .TD_PTP => [⟨0, 31, 1, .rwl, 0, .all⟩,
      ⟨0, 29, 2, .rwl, 0, .enum 2 0⟩,
      ⟨0, 28, 1, .rwl, 0, .all⟩,
      ⟨0, 25, 3, .rwl, 0, .all⟩,
      ⟨0, 0, 8, .rwl, 0, .all⟩]
  | .TD_LAT_TRIM => [⟨0, 16, 16, .rwl, 0, .all⟩,
      ⟨0, 0, 16, .rwl, 0, .all⟩]
  | .TD_LINK_DLY => [⟨0, 0, 32, .ro, 0, .all⟩]
  | .TD_CFG => [⟨0, 31, 1, .rwl, 0, .all⟩,
      ⟨0, 30, 1, .rwl, 0, .all⟩,
      ⟨0, 29, 1, .rwl, 0, .all⟩,
      ⟨0, 28, 1, .rwl, 0, .all⟩,
      ⟨0, 20, 3, .rwl, 0, .all⟩,
      ⟨0, 8, 4, .rwl, 0, .dep .srcS⟩,
      ⟨0, 0, 4, .rwl, 1, .dep .srcP⟩]
  | .TD_PARAM => [⟨0, 24, 3, .rwl, 0, .all⟩,
      ⟨0, 16, 8, .rwl, 1, .range 1 255⟩,
      ⟨0, 8, 8, .rwl, 1, .range 1 255⟩,
      ⟨0, 0, 8, .rwl, 1, .range 1 255⟩]
  | .TD_STAT => [⟨0, 29, 3, .ro, 0, .all⟩,
      ⟨0, 28, 1, .ro, 0, .all⟩,
      ⟨0, 27, 1, .ro, 0, .all⟩,
      ⟨0, 26, 1, .ro, 0, .all⟩,
      ⟨0, 25, 1, .ro, 0, .all⟩,
      ⟨0, 24, 1, .ro, 0, .all⟩,
      ⟨0, 23, 1, .w1c, 0, .all⟩,
      ⟨0, 8, 8, .rs, 0, .all⟩,
      ⟨0, 0, 8, .rs, 0, .all⟩]
  | .TD_RATE => [⟨0, 0, 32, .ro, 0, .all⟩]
  | .TD_OFS => [⟨1, 0, 32, .ro, 0, .all⟩,
      ⟨0, 0, 32, .ro, 0, .all⟩]
  | .TD_ADJ => [⟨0, 0, 32, .rw, 0, .srange (-1638400000) 1638400000⟩]
  | .TD_CMD => [⟨0, 0, 2, .wo, 0, .all⟩]
  | .TD_SET => [⟨2, 0, 32, .rw, 0, .all⟩,
      ⟨1, 0, 32, .rw, 0, .all⟩,
      ⟨0, 0, 32, .rw, 0, .all⟩]
  | .PORT_FN => [⟨0, 24, 4, .rwl, 0, .all⟩,
      ⟨0, 20, 2, .rwl, 0, .all⟩,
      ⟨0, 16, 2, .rwl, 0, .all⟩,
      ⟨0, 12, 4, .rwl, 0, .enum 10 0⟩,
      ⟨0, 8, 4, .rwl, 0, .enum 10 0⟩,
      ⟨0, 4, 4, .rwl, 0, .enum 10 0⟩,
      ⟨0, 0, 4, .rwl, 0, .enum 10 0⟩]
  | .PORT_PAIR => [⟨0, 26, 6, .rwl, 0, .all⟩,
      ⟨0, 22, 3, .rwl, 0, .enum 4 0⟩,
      ⟨0, 21, 1, .rwl, 0, .all⟩,
      ⟨0, 20, 1, .rwl, 0, .all⟩,
      ⟨0, 19, 1, .rwl, 0, .all⟩,
      ⟨0, 16, 3, .rwl, 0, .all⟩,
      ⟨0, 10, 6, .rwl, 0, .all⟩,
      ⟨0, 6, 3, .rwl, 0, .enum 4 0⟩,
      ⟨0, 5, 1, .rwl, 0, .all⟩,
      ⟨0, 4, 1, .rwl, 0, .all⟩,
      ⟨0, 3, 1, .rwl, 0, .all⟩,
      ⟨0, 0, 3, .rwl, 0, .all⟩]
  | .PORT_DIF => [⟨0, 0, 23, .rwl, 1, .range 1 8125000⟩]
  | .PORT_DIL => [⟨0, 20, 2, .rwl, 0, .enum 2 0⟩,
      ⟨0, 19, 1, .rwl, 0, .all⟩,
      ⟨0, 18, 1, .rwl, 0, .all⟩,
      ⟨0, 17, 1, .rwl, 0, .all⟩,
      ⟨0, 12, 4, .rwl, 0, .range 0 15⟩,
      ⟨0, 0, 9, .rwl, 0xa, .range 10 300⟩]
  | .PORT_DIT => [⟨0, 16, 8, .rwl, 0, .dep .chat⟩,
      ⟨0, 0, 16, .rwl, 0, .all⟩]
  | .PORT_DO => [⟨0, 24, 8, .rwl, 0, .all⟩,
      ⟨0, 12, 1, .rwl, 0, .all⟩,
      ⟨0, 11, 1, .rwl, 0, .all⟩,
      ⟨0, 9, 2, .rwl, 0, .enum 2 2⟩,
      ⟨0, 8, 1, .rwl, 0, .all⟩,
      ⟨0, 0, 8, .rwl, 0xa, .range 10 250⟩]
  | .PORT_FP_CFG => [⟨0, 31, 1, .rwl, 0, .all⟩,
      ⟨0, 16, 14, .rwl, 1, .range 1 10000⟩,
      ⟨0, 0, 10, .rwl, 0xa, .dep .fpLimit⟩]
  | .PORT_FP_RTY => [⟨0, 0, 10, .rwl, 0, .range 0 600⟩]
  | .PORT_STAT => [⟨0, 23, 1, .w1c, 0, .all⟩,
      ⟨0, 22, 1, .ro, 0, .all⟩,
      ⟨0, 16, 2, .ro, 0, .all⟩,
      ⟨0, 12, 4, .ro, 0, .all⟩,
      ⟨0, 8, 2, .ro, 0, .all⟩,
      ⟨0, 4, 4, .ro, 0, .all⟩,
      ⟨0, 0, 4, .ro, 0, .all⟩]
  | .PORT_DIAG => [⟨0, 22, 2, .w1c, 0, .all⟩,
      ⟨0, 21, 1, .ro, 0, .all⟩,
      ⟨0, 20, 1, .ro, 0, .all⟩,
      ⟨0, 16, 4, .w1c, 0, .all⟩,
      ⟨0, 12, 4, .ro, 0, .all⟩,
      ⟨0, 8, 4, .ro, 0, .all⟩,
      ⟨0, 4, 4, .ro, 0, .all⟩,
      ⟨0, 0, 4, .ro, 0, .all⟩]
  | .PORT_EDGE => [⟨0, 0, 32, .ro, 0, .all⟩]
  | .PORT_CUR => [⟨0, 16, 16, .ro, 0, .all⟩,
      ⟨0, 0, 16, .ro, 0, .all⟩]
  | .PORT_CLAMP_CNT => [⟨0, 0, 16, .rs, 0, .all⟩]
  | .PWR_TBM_BUDGET => [⟨0, 0, 16, .rwl, 0x84d0, .range 10000 34000⟩]
  | .PWR_TBM_STAT => [⟨0, 16, 16, .ro, 0, .all⟩,
      ⟨0, 0, 16, .ro, 0x4c2c, .all⟩]
  | .PWR_TBM_CNT => [⟨0, 16, 16, .rs, 0, .all⟩,
      ⟨0, 0, 16, .rs, 0, .all⟩]
  | .MEAS_CFG => [⟨0, 31, 1, .rwl, 0, .all⟩,
      ⟨0, 30, 1, .rwl, 0, .all⟩,
      ⟨0, 29, 1, .rwl, 0, .all⟩,
      ⟨0, 26, 2, .rwl, 0, .all⟩,
      ⟨0, 24, 2, .rwl, 0, .enum 2 0⟩,
      ⟨0, 22, 2, .rwl, 0, .all⟩,
      ⟨0, 16, 4, .rwl, 0, .enum 12 12⟩,
      ⟨0, 12, 3, .rwl, 0, .enum 4 1⟩,
      ⟨0, 10, 1, .rwl, 0, .all⟩,
      ⟨0, 0, 10, .rwl, 0, .all⟩]
  | .MEAS_STAT => [⟨0, 31, 1, .ro, 0, .all⟩,
      ⟨0, 30, 1, .ro, 0, .all⟩,
      ⟨0, 29, 1, .ro, 0, .all⟩,
      ⟨0, 28, 1, .ro, 0, .all⟩,
      ⟨0, 27, 1, .ro, 0, .all⟩,
      ⟨0, 26, 1, .ro, 0, .all⟩,
      ⟨0, 0, 24, .ro, 0, .all⟩]
  | .MEAS_SYS_GAIN => [⟨0, 0, 32, .rw, 0x3f666666, .dep .sysGain⟩]
  | .MEAS_SYS_OFS => [⟨0, 0, 32, .rw, 0, .dep .sysOfs⟩]
  | .MEAS_LEAD => [⟨0, 0, 16, .rwl, 0, .all⟩]
  | .MEAS_CJ => [⟨0, 16, 16, .ro, 0, .all⟩,
      ⟨0, 0, 16, .rwl, 0, .srange (-2000) 2000⟩]
  | .MEAS_AO => [⟨0, 0, 2, .rwl, 0, .enum 2 0⟩]
  | .MEAS_BG => [⟨0, 0, 12, .rwl, 1, .range 1 3600⟩]
  | .MEAS_SCAL_CMD => [⟨0, 8, 2, .wo, 0, .all⟩,
      ⟨0, 0, 8, .wo, 0, .all⟩]
  | .MEAS_SCAL_REF => [⟨0, 0, 32, .rw, 0, .all⟩]
  | .MEAS_SCAL_STAT => [⟨0, 0, 2, .ro, 0, .all⟩]
  | .MEAS_CLAMP_CNT => [⟨0, 0, 16, .rs, 0, .all⟩]
  | .PCTL_CAN_CFG => [⟨0, 31, 1, .rwl, 0, .all⟩,
      ⟨0, 30, 1, .rwl, 0, .all⟩,
      ⟨0, 29, 1, .rwl, 0, .all⟩,
      ⟨0, 28, 1, .rwl, 0, .all⟩,
      ⟨0, 27, 1, .rwl, 0, .all⟩,
      ⟨0, 25, 2, .rwl, 0, .dep .canFrames⟩,
      ⟨0, 16, 8, .rwl, 0x32, .range 50 90⟩,
      ⟨0, 0, 16, .rwl, 0xa, .range 10 1000⟩]
  | .PCTL_CAN_DT => [⟨0, 16, 8, .rwl, 0x32, .range 50 90⟩,
      ⟨0, 0, 16, .rwl, 0x3e8, .dep .canDbr⟩]
  | .PCTL_SPE_CFG => [⟨0, 31, 1, .rwl, 0, .all⟩,
      ⟨0, 30, 1, .rwl, 0, .all⟩,
      ⟨0, 29, 1, .rwl, 0, .all⟩,
      ⟨0, 8, 8, .rwl, 1, .range 1 255⟩,
      ⟨0, 0, 8, .rwl, 0, .range 0 254⟩]
  | .PCTL_SPE_MAC => [⟨1, 0, 16, .rwl, 0, .all⟩,
      ⟨0, 0, 32, .rwl, 0, .all⟩]
  | .PCTL_UART_CFG => [⟨0, 31, 1, .rwl, 0, .all⟩,
      ⟨0, 30, 1, .rwl, 0, .all⟩,
      ⟨0, 29, 1, .rwl, 0, .all⟩,
      ⟨0, 26, 2, .rwl, 0, .enum 2 0⟩,
      ⟨0, 25, 1, .rwl, 0, .all⟩,
      ⟨0, 24, 1, .rwl, 0, .all⟩,
      ⟨0, 0, 22, .rwl, 0x1e, .range 30 4000000⟩]
  | .PCTL_UART_RSP => [⟨0, 24, 8, .rwl, 2, .range 2 255⟩,
      ⟨0, 0, 16, .rwl, 1, .range 1 10000⟩]
  | .PCTL_IOL_CFG => [⟨0, 31, 1, .rwl, 0, .all⟩,
      ⟨0, 30, 1, .rwl, 0, .all⟩,
      ⟨0, 25, 3, .rwl, 0, .enum 4 0⟩,
      ⟨0, 23, 2, .rwl, 0, .enum 1 1⟩,
      ⟨0, 16, 7, .rwl, 0, .all⟩]
  | .PCTL_IOL_FMT => [⟨0, 31, 1, .rwl, 0, .all⟩,
      ⟨0, 16, 9, .rwl, 0, .all⟩,
      ⟨0, 15, 1, .rwl, 0, .all⟩,
      ⟨0, 0, 9, .rwl, 0, .all⟩]
  | .PCTL_IOL_ID => [⟨1, 0, 8, .rwl, 0, .all⟩,
      ⟨0, 16, 16, .rwl, 0, .all⟩,
      ⟨0, 0, 16, .rwl, 0, .all⟩]
  | .PCTL_CAN_STAT => [⟨1, 16, 16, .rs, 0, .all⟩,
      ⟨1, 0, 16, .ro, 0, .all⟩,
      ⟨0, 24, 8, .ro, 0, .all⟩,
      ⟨0, 16, 8, .ro, 0, .all⟩,
      ⟨0, 14, 2, .ro, 0, .all⟩,
      ⟨0, 0, 14, .rs, 0, .all⟩]
  | .PCTL_SPE_STAT => [⟨1, 16, 16, .rs, 0, .all⟩,
      ⟨1, 0, 16, .rs, 0, .all⟩,
      ⟨0, 0, 1, .ro, 0, .all⟩]
  | .PCTL_UART_STAT => [⟨1, 16, 16, .rs, 0, .all⟩,
      ⟨1, 0, 16, .rs, 0, .all⟩,
      ⟨0, 0, 22, .ro, 0, .all⟩]
  | .PCTL_IOL_STAT => [⟨1, 16, 16, .rs, 0, .all⟩,
      ⟨1, 0, 16, .rs, 0, .all⟩,
      ⟨0, 29, 3, .ro, 0, .all⟩,
      ⟨0, 27, 2, .ro, 0, .all⟩]
  | .PCTL_PORT => [⟨0, 16, 16, .rs, 0, .all⟩,
      ⟨0, 12, 4, .ro, 0, .all⟩,
      ⟨0, 8, 4, .ro, 0, .all⟩,
      ⟨0, 4, 2, .rwl, 0, .enum 2 0⟩,
      ⟨0, 0, 4, .rwl, 0, .all⟩]
  | .PCTL_CLAMP_CNT => [⟨0, 0, 16, .rs, 0, .all⟩]
  | .PCTL_CMD => [⟨0, 30, 2, .wo, 0, .all⟩,
      ⟨0, 0, 6, .wo, 0, .all⟩]
  | .PCTL_MOBJ => [⟨3, 16, 16, .rwl, 0, .all⟩,
      ⟨3, 0, 16, .rwl, 0, .dep .mobjAddr3⟩,
      ⟨2, 0, 32, .rwl, 0, .dep .mobjAddr2⟩,
      ⟨1, 0, 32, .rwl, 0, .all⟩,
      ⟨0, 31, 1, .rwl, 0, .all⟩,
      ⟨0, 30, 1, .rwl, 0, .all⟩,
      ⟨0, 29, 1, .rwl, 0, .all⟩,
      ⟨0, 26, 3, .rwl, 0, .all⟩,
      ⟨0, 20, 6, .rwl, 0, .all⟩,
      ⟨0, 0, 9, .rwl, 0, .all⟩]
  | .ENG_CTRL => [⟨0, 30, 2, .wo, 0, .all⟩,
      ⟨0, 0, 16, .wo, 0, .all⟩]
  | .ENG_STAT => [⟨0, 31, 1, .ro, 0, .all⟩,
      ⟨0, 30, 1, .ro, 0, .all⟩,
      ⟨0, 0, 16, .ro, 0, .all⟩]
  | .ENG_SLOTEN => [⟨0, 0, 16, .rwl, 0, .all⟩]
  | .ENG_SLOTMAP => [⟨1, 0, 32, .rwl, 0, .all⟩,
      ⟨0, 0, 32, .rwl, 0, .all⟩]
  | .ENG_SWAP_TMO => [⟨0, 0, 17, .rwl, 0x3e8, .range 10 100000⟩]
  | .ENG_START_CFG => [⟨0, 16, 3, .rw, 0, .all⟩,
      ⟨0, 0, 16, .rw, 0, .all⟩]
  | .ENG_START_T => [⟨1, 0, 32, .wo, 0, .all⟩,
      ⟨0, 0, 32, .wo, 0, .all⟩]
  | .ENG_EVT => [⟨0, 31, 1, .rw, 0, .all⟩,
      ⟨0, 24, 7, .rw, 0, .all⟩,
      ⟨0, 0, 16, .w1c, 0, .all⟩]
  | .ENG_CLAMP_CNT => [⟨0, 0, 16, .rs, 0, .all⟩]
  | .ENG_CH_CFG => [⟨0, 31, 1, .rwl, 0, .all⟩,
      ⟨0, 30, 1, .rwl, 0, .all⟩,
      ⟨0, 29, 1, .rwl, 0, .all⟩,
      ⟨0, 22, 6, .rwl, 0, .all⟩,
      ⟨0, 20, 2, .rwl, 0, .all⟩,
      ⟨0, 16, 4, .rwl, 0, .all⟩,
      ⟨0, 15, 1, .rwl, 0, .all⟩,
      ⟨0, 14, 1, .rwl, 0, .all⟩,
      ⟨0, 13, 1, .rwl, 0, .all⟩,
      ⟨0, 12, 1, .rwl, 0, .all⟩,
      ⟨0, 5, 5, .rwl, 0, .all⟩,
      ⟨0, 0, 5, .rwl, 0, .all⟩]
  | .ENG_CH_PINS => [⟨0, 4, 4, .rwl, 0, .all⟩,
      ⟨0, 0, 4, .rwl, 0, .all⟩]
  | .ENG_CH_PROG => [⟨0, 20, 10, .rw, 0, .all⟩,
      ⟨0, 10, 10, .rw, 0, .all⟩,
      ⟨0, 0, 10, .rw, 0, .dep .wrapBot⟩]
  | .ENG_CH_IDLE => [⟨0, 0, 32, .rw, 0, .all⟩]
  | .ENG_CH_FLAG => [⟨0, 0, 8, .rw, 0, .all⟩]
  | .ENG_CH_GRID => [⟨1, 0, 32, .rw, 0, .dep .phase⟩,
      ⟨0, 0, 32, .rw, 0x3e8, .range 1000 4000000000⟩]
  | .ENG_CH_STAT => [⟨0, 22, 10, .ro, 0, .all⟩,
      ⟨0, 21, 1, .ro, 0, .all⟩,
      ⟨0, 19, 2, .ro, 0, .all⟩,
      ⟨0, 13, 6, .ro, 0, .all⟩,
      ⟨0, 7, 6, .ro, 0, .all⟩,
      ⟨0, 0, 4, .ro, 0, .all⟩]
  | .ENG_CH_ERR => [⟨0, 31, 1, .w1c, 0, .all⟩,
      ⟨0, 30, 1, .w1c, 0, .all⟩,
      ⟨0, 29, 1, .w1c, 0, .all⟩,
      ⟨0, 28, 1, .w1c, 0, .all⟩,
      ⟨0, 27, 1, .w1c, 0, .all⟩,
      ⟨0, 26, 1, .w1c, 0, .all⟩,
      ⟨0, 0, 10, .ro, 0, .all⟩]
  | .ENG_CH_CNT => [⟨0, 16, 16, .rs, 0, .all⟩,
      ⟨0, 0, 16, .rs, 0, .all⟩]
  | .BRG_RNG_CFG => [⟨0, 31, 1, .rwl, 0, .all⟩,
      ⟨0, 30, 1, .rwl, 0, .all⟩,
      ⟨0, 28, 2, .rwl, 0, .enum 2 1⟩,
      ⟨0, 27, 1, .rwl, 0, .all⟩,
      ⟨0, 22, 4, .rwl, 0, .all⟩,
      ⟨0, 14, 8, .rwl, 1, .range 1 255⟩,
      ⟨0, 0, 14, .rwl, 0, .all⟩]
  | .BRG_RNG_LO => [⟨0, 0, 32, .rwl, 0, .all⟩]
  | .BRG_RNG_HI => [⟨0, 0, 32, .rwl, 0, .dep .rngHi⟩]
  | .BRG_LOCK_CFG => [⟨0, 0, 17, .rwl, 0x3e8, .range 10 100000⟩]
  | .BRG_CMD => [⟨0, 0, 1, .wo, 0, .all⟩]
  | .BRG_PF_CNT => [⟨0, 16, 16, .rs, 0, .all⟩,
      ⟨0, 0, 16, .rs, 0, .all⟩]
  | .BRG_POST_CNT => [⟨0, 0, 16, .rs, 0, .all⟩]
  | .BRG_POST_FAIL => [⟨1, 0, 32, .ro, 0, .all⟩,
      ⟨0, 0, 32, .ro, 0, .all⟩]
  | .BRG_LOCK_CNT => [⟨0, 16, 16, .rs, 0, .all⟩,
      ⟨0, 0, 16, .rs, 0, .all⟩]
  | .BRG_CLAMP_CNT => [⟨0, 0, 16, .rs, 0, .all⟩]
  | .BRG_LOCK_STAT => [⟨1, 31, 1, .ro, 0, .all⟩,
      ⟨1, 12, 18, .ro, 0, .all⟩,
      ⟨1, 8, 4, .ro, 0, .all⟩,
      ⟨1, 0, 8, .ro, 0, .all⟩,
      ⟨0, 24, 8, .ro, 0, .all⟩,
      ⟨0, 0, 17, .ro, 0, .all⟩]
  | .BRG_TUN_CFG => [⟨0, 31, 1, .rwl, 0, .all⟩,
      ⟨0, 30, 1, .rwl, 0, .all⟩,
      ⟨0, 29, 1, .rwl, 0, .all⟩,
      ⟨0, 26, 3, .rwl, 0, .all⟩,
      ⟨0, 23, 3, .rwl, 0, .all⟩,
      ⟨0, 22, 1, .rwl, 0, .all⟩,
      ⟨0, 16, 6, .rwl, 0, .all⟩,
      ⟨0, 8, 8, .rwl, 0, .all⟩,
      ⟨0, 5, 3, .rwl, 0, .all⟩]
  | .BRG_TUN_NODE => [⟨0, 0, 18, .rwl, 0, .all⟩]
  | .BRG_TUN_MATCH => [⟨0, 0, 32, .rwl, 0, .all⟩]
  | .BRG_TUN_MASK => [⟨0, 0, 32, .rwl, 0, .all⟩]
  | .BRG_TUN_LAT => [⟨0, 0, 27, .rwl, 0x3e8, .range 1000 100000000⟩]
  | .BRG_TUN_CNT => [⟨0, 16, 16, .rs, 0, .all⟩,
      ⟨0, 0, 16, .rs, 0, .all⟩]
  | .BRG_TUN_SEQ => [⟨0, 16, 16, .rs, 0, .all⟩,
      ⟨0, 0, 16, .ro, 0, .all⟩]
  | .SW_STAT => [⟨0, 16, 16, .rs, 0, .all⟩,
      ⟨0, 0, 2, .ro, 0, .all⟩]
  | .SW_FREE => [⟨0, 0, 17, .ro, 0xef00, .all⟩]
  | .SW_AUDIT => [⟨0, 16, 16, .rs, 0, .all⟩,
      ⟨0, 0, 16, .rs, 0, .all⟩]
  | .SW_CLAMP_CNT => [⟨0, 0, 16, .rs, 0, .all⟩]
  | .SW_IN_CNT => [⟨0, 16, 16, .rs, 0, .all⟩,
      ⟨0, 0, 16, .rs, 0, .all⟩]
  | .SW_OQ_CFG => [⟨0, 24, 8, .rwl, 1, .all⟩,
      ⟨0, 0, 8, .rwl, 0x10, .range 0 128⟩]
  | .SW_OQ_LIM => [⟨0, 16, 16, .rwl, 0x400, .dep .ceThr⟩,
      ⟨0, 0, 16, .rwl, 0x2000, .range 16 61184⟩]
  | .SW_OQ_STAT => [⟨0, 16, 16, .rs, 0, .all⟩,
      ⟨0, 0, 16, .ro, 0, .all⟩]
  | .SW_OQ_CNT => [⟨0, 16, 16, .rs, 0, .all⟩,
      ⟨0, 0, 16, .rs, 0, .all⟩]
  | .RFX_CFG => [⟨0, 31, 1, .rwl, 0, .all⟩,
      ⟨0, 0, 10, .rwl, 1, .range 1 1000⟩]
  | .RFX_STAT => [⟨0, 16, 16, .ro, 0, .all⟩,
      ⟨0, 0, 13, .ro, 0, .all⟩]
  | .RFX_CNT => [⟨0, 16, 16, .rs, 0, .all⟩,
      ⟨0, 0, 16, .rs, 0, .all⟩]
  | .RFX_CLAMP_CNT => [⟨0, 0, 16, .rs, 0, .all⟩]
  | .RFX_TBL_STAT => [⟨0, 31, 1, .ro, 0, .all⟩,
      ⟨0, 30, 1, .ro, 0, .all⟩,
      ⟨0, 24, 6, .ro, 0, .all⟩,
      ⟨0, 23, 1, .ro, 0, .all⟩,
      ⟨0, 22, 1, .ro, 0, .all⟩,
      ⟨0, 16, 6, .ro, 0, .all⟩,
      ⟨0, 15, 1, .ro, 0, .all⟩,
      ⟨0, 14, 1, .ro, 0, .all⟩,
      ⟨0, 8, 6, .ro, 0, .all⟩,
      ⟨0, 7, 1, .ro, 0, .all⟩,
      ⟨0, 6, 1, .ro, 0, .all⟩,
      ⟨0, 0, 6, .ro, 0, .all⟩]
  | .RFX_SM_STATE => [⟨0, 16, 16, .rs, 0, .all⟩,
      ⟨0, 6, 1, .ro, 0, .all⟩,
      ⟨0, 0, 6, .ro, 0, .all⟩]
  | .RFX_ROP => [⟨1, 31, 1, .rwl, 0, .all⟩,
      ⟨1, 0, 18, .rwl, 0, .all⟩,
      ⟨0, 0, 16, .rwl, 0, .all⟩]
  | .TWIN_CFG => [⟨0, 31, 1, .rwl, 0, .all⟩,
      ⟨0, 0, 16, .rwl, 0x64, .range 100 10000⟩]
  | .TWIN_PEER => [⟨3, 0, 32, .rwl, 0, .all⟩,
      ⟨2, 0, 32, .rwl, 0, .all⟩,
      ⟨1, 0, 32, .rwl, 0, .all⟩,
      ⟨0, 0, 32, .rwl, 0, .all⟩]
  | .TWIN_STAT => [⟨0, 30, 2, .ro, 0, .all⟩,
      ⟨0, 27, 3, .ro, 0, .all⟩,
      ⟨0, 26, 1, .ro, 0, .all⟩,
      ⟨0, 25, 1, .ro, 0, .all⟩]
  | .TWIN_DELTA => [⟨0, 0, 32, .ro, 0, .all⟩]
  | .TWIN_DELTA_T => [⟨0, 0, 27, .ro, 0, .all⟩]
  | .TWIN_CNT => [⟨0, 16, 16, .rs, 0, .all⟩,
      ⟨0, 0, 16, .rs, 0, .all⟩]
  | .TWIN_CMP_CNT => [⟨0, 16, 16, .rs, 0, .all⟩,
      ⟨0, 8, 8, .rs, 0, .all⟩,
      ⟨0, 0, 8, .rs, 0, .all⟩]
  | .TWIN_CMD => [⟨0, 30, 2, .wo, 0, .all⟩]
  | .TWIN_PULSE => [⟨0, 31, 1, .wo, 0, .all⟩,
      ⟨0, 16, 8, .rw, 0x64, .range 1 100⟩,
      ⟨0, 0, 16, .rw, 0, .all⟩]
  | .TWIN_PULSE_STAT => [⟨0, 30, 2, .ro, 0, .all⟩,
      ⟨0, 29, 1, .ro, 0, .all⟩,
      ⟨0, 0, 16, .ro, 0, .all⟩]
  | .SEC_CFG => [⟨0, 31, 1, .rwl, 0, .all⟩,
      ⟨0, 30, 1, .rwl, 0, .all⟩,
      ⟨0, 16, 6, .rwl, 1, .range 1 60⟩,
      ⟨0, 0, 16, .rwl, 0, .all⟩]
  | .SEC_STAT => [⟨0, 31, 1, .ro, 0, .all⟩,
      ⟨0, 30, 1, .ro, 0, .all⟩,
      ⟨0, 29, 1, .ro, 0, .all⟩,
      ⟨0, 28, 1, .ro, 0, .all⟩,
      ⟨0, 27, 1, .ro, 0, .all⟩,
      ⟨0, 26, 1, .ro, 0, .all⟩,
      ⟨0, 0, 16, .ro, 0, .all⟩]
  | .SEC_MBX_CMD => [⟨0, 24, 8, .wo, 0, .all⟩,
      ⟨0, 0, 15, .wo, 0, .all⟩]
  | .SEC_MBX_STAT => [⟨0, 30, 2, .ro, 0, .all⟩,
      ⟨0, 16, 8, .ro, 0, .all⟩,
      ⟨0, 0, 15, .ro, 0, .all⟩]
  | .SEC_MGMT => [⟨0, 31, 1, .rwl, 0, .all⟩,
      ⟨0, 4, 18, .rwl, 0, .all⟩,
      ⟨0, 0, 4, .rwl, 0, .all⟩]
  | .SEC_TEN => [⟨0, 31, 1, .rwl, 0, .all⟩,
      ⟨0, 30, 1, .ro, 0, .all⟩]
  | .SEC_TEN_KEY => [⟨11, 0, 32, .rwl, 0, .all⟩,
      ⟨10, 0, 32, .rwl, 0, .all⟩,
      ⟨9, 0, 32, .rwl, 0, .all⟩,
      ⟨8, 0, 32, .rwl, 0, .all⟩,
      ⟨7, 0, 32, .rwl, 0, .all⟩,
      ⟨6, 0, 32, .rwl, 0, .all⟩,
      ⟨5, 0, 32, .rwl, 0, .all⟩,
      ⟨4, 0, 32, .rwl, 0, .all⟩,
      ⟨3, 0, 32, .rwl, 0, .all⟩,
      ⟨2, 0, 32, .rwl, 0, .all⟩,
      ⟨1, 0, 32, .rwl, 0, .all⟩,
      ⟨0, 0, 32, .rwl, 0, .all⟩]
  | .SEC_PEER_OWNER => [⟨11, 0, 32, .rwl, 0, .all⟩,
      ⟨10, 0, 32, .rwl, 0, .all⟩,
      ⟨9, 0, 32, .rwl, 0, .all⟩,
      ⟨8, 0, 32, .rwl, 0, .all⟩,
      ⟨7, 0, 32, .rwl, 0, .all⟩,
      ⟨6, 0, 32, .rwl, 0, .all⟩,
      ⟨5, 0, 32, .rwl, 0, .all⟩,
      ⟨4, 0, 32, .rwl, 0, .all⟩,
      ⟨3, 0, 32, .rwl, 0, .all⟩,
      ⟨2, 0, 32, .rwl, 0, .all⟩,
      ⟨1, 0, 32, .rwl, 0, .all⟩,
      ⟨0, 0, 32, .rwl, 0, .all⟩]
  | .VLT_TAMPER_CFG => [⟨0, 31, 1, .rwl, 0, .all⟩]
  | .VLT_TAMPER_STAT => [⟨0, 0, 4, .ro, 0, .all⟩]
  | .VLT_TAMPER_TIME => [⟨1, 0, 32, .ro, 0, .all⟩,
      ⟨0, 0, 32, .ro, 0, .all⟩]
  | .ID_BOOT_STAT => [⟨0, 30, 2, .ro, 0, .all⟩,
      ⟨0, 29, 1, .ro, 0, .all⟩,
      ⟨0, 28, 1, .ro, 0, .all⟩,
      ⟨0, 27, 1, .ro, 0, .all⟩,
      ⟨0, 26, 1, .ro, 0, .all⟩,
      ⟨0, 22, 2, .ro, 0, .all⟩,
      ⟨0, 20, 2, .ro, 0, .all⟩,
      ⟨0, 18, 2, .ro, 0, .all⟩,
      ⟨0, 16, 2, .ro, 0, .all⟩,
      ⟨0, 8, 8, .ro, 0, .all⟩]
  | .ID_BOOT_TIME => [⟨0, 0, 32, .ro, 0, .all⟩]
  | .ID_BOOT_CMD => [⟨0, 30, 2, .wo, 0, .all⟩]
  | .ID_UPD_CFG => [⟨0, 31, 1, .rwl, 0, .all⟩]
  | .ID_UPD_STAT => [⟨0, 30, 2, .ro, 0, .all⟩,
      ⟨0, 28, 2, .ro, 0, .all⟩,
      ⟨0, 24, 4, .ro, 0, .all⟩,
      ⟨0, 16, 8, .ro, 0, .all⟩]
  | .ID_RCV_CMD => [⟨0, 31, 1, .wo, 0, .all⟩,
      ⟨0, 30, 1, .wo, 0, .all⟩,
      ⟨0, 0, 15, .wo, 0, .all⟩]
  | .ID_RCV_OFS => [⟨0, 0, 32, .rw, 0, .all⟩]
  | .ID_RCV_TOTAL => [⟨0, 0, 32, .rw, 0, .all⟩]
  | .ID_RCV_STAT => [⟨0, 30, 2, .ro, 0, .all⟩,
      ⟨0, 16, 8, .ro, 0, .all⟩]
  | .ID_RCV_SERVE => [⟨0, 31, 1, .wo, 0, .all⟩,
      ⟨0, 28, 3, .rw, 0, .enum 4 4⟩,
      ⟨0, 27, 1, .rw, 0, .all⟩,
      ⟨0, 24, 2, .ro, 0, .all⟩]
  | .VLT_FW_CTR => [⟨0, 0, 32, .ro, 0, .all⟩]
  | .VLT_BND_CTR => [⟨0, 0, 32, .ro, 0, .all⟩]
  | .VLT_RCV_PEER => [⟨3, 0, 32, .rwl, 0, .all⟩,
      ⟨2, 0, 32, .rwl, 0, .all⟩,
      ⟨1, 0, 32, .rwl, 0, .all⟩,
      ⟨0, 0, 32, .rwl, 0, .all⟩]
  | .FLT_STATUS => [⟨1, 31, 1, .ro, 0, .all⟩,
      ⟨1, 0, 17, .w1c, 0, .all⟩,
      ⟨0, 0, 32, .w1c, 0, .all⟩]
  | .FLT_MASK => [⟨1, 0, 17, .rwl, 0, .all⟩,
      ⟨0, 0, 32, .rwl, 0, .all⟩]
  | .FLT_ESC => [⟨1, 0, 17, .rwl, 0, .all⟩,
      ⟨0, 0, 32, .rwl, 0, .all⟩]
  | .FLT_SAFE => [⟨0, 31, 1, .ro, 0, .all⟩,
      ⟨0, 30, 1, .w1c, 0, .all⟩,
      ⟨0, 28, 2, .wo, 0, .all⟩,
      ⟨0, 0, 8, .ro, 0xff, .all⟩]
  | .FLT_SRC => [⟨3, 0, 32, .ro, 0, .all⟩,
      ⟨2, 24, 2, .ro, 0, .all⟩,
      ⟨2, 0, 8, .ro, 0, .all⟩,
      ⟨1, 0, 32, .ro, 0, .all⟩,
      ⟨0, 0, 32, .ro, 0, .all⟩]
  | .FLT_LOG_RD => [⟨1, 31, 1, .wo, 0, .all⟩,
      ⟨1, 30, 1, .wo, 0, .all⟩,
      ⟨0, 0, 32, .wo, 0, .all⟩]
  | .FLT_LOG_RDSTAT => [⟨1, 30, 2, .ro, 0, .all⟩,
      ⟨1, 0, 8, .ro, 0, .all⟩,
      ⟨0, 0, 32, .ro, 0, .all⟩]
  | .FLT_LOG_SEQ => [⟨1, 0, 32, .ro, 0, .all⟩,
      ⟨0, 0, 32, .ro, 0, .all⟩]
  | .FLT_LOG_LOST => [⟨0, 16, 16, .rs, 0, .all⟩,
      ⟨0, 0, 16, .rs, 0, .all⟩]
  | .PWR_STAT => [⟨0, 30, 2, .ro, 0, .all⟩,
      ⟨0, 28, 2, .ro, 0, .all⟩,
      ⟨0, 27, 1, .ro, 0, .all⟩,
      ⟨0, 26, 1, .ro, 0, .all⟩,
      ⟨0, 25, 1, .ro, 0, .all⟩,
      ⟨0, 24, 1, .ro, 0, .all⟩,
      ⟨0, 23, 1, .ro, 0, .all⟩,
      ⟨0, 19, 4, .ro, 0, .all⟩,
      ⟨0, 15, 4, .ro, 0, .all⟩]
  | .PWR_CFG => [⟨0, 28, 4, .rwl, 0xf, .all⟩,
      ⟨0, 27, 1, .rwl, 1, .all⟩]
  | .PWR_SEAT_CFG => [⟨0, 0, 8, .rwl, 0x32, .range 1 255⟩]
  | .PWR_FEED_V => [⟨0, 16, 16, .ro, 0, .all⟩,
      ⟨0, 0, 16, .ro, 0, .all⟩]
  | .PWR_FPIN_V => [⟨0, 16, 16, .ro, 0, .all⟩,
      ⟨0, 0, 16, .ro, 0, .all⟩]
  | .PWR_FEED_I => [⟨0, 16, 16, .ro, 0, .all⟩,
      ⟨0, 0, 16, .ro, 0, .all⟩]
  | .PWR_FPIN_I => [⟨0, 16, 16, .ro, 0, .all⟩,
      ⟨0, 0, 16, .ro, 0, .all⟩]
  | .PWR_BRK_CFG => [⟨0, 22, 10, .rwl, 0xa, .range 0 600⟩,
      ⟨0, 8, 14, .rwl, 0x64, .range 1 10000⟩,
      ⟨0, 0, 7, .rwl, 0x23, .dep .brkLimit⟩]
  | .PWR_BRK_STAT => [⟨0, 31, 1, .w1c, 0, .all⟩,
      ⟨0, 30, 1, .ro, 0, .all⟩,
      ⟨0, 29, 1, .ro, 0, .all⟩,
      ⟨0, 26, 3, .ro, 0, .all⟩,
      ⟨0, 16, 8, .ro, 0, .all⟩,
      ⟨0, 0, 16, .rs, 0, .all⟩]
  | .PWR_WAKE_EN => [⟨0, 4, 1, .ro, 1, .all⟩,
      ⟨0, 3, 1, .rw, 1, .all⟩,
      ⟨0, 2, 1, .rw, 1, .all⟩,
      ⟨0, 1, 1, .rw, 1, .all⟩,
      ⟨0, 0, 1, .ro, 1, .all⟩]
  | .PWR_WAKE_SRC => [⟨0, 8, 1, .w1c, 0, .all⟩,
      ⟨0, 0, 5, .w1c, 0, .all⟩]
  | .PWR_RET_STAT => [⟨0, 16, 16, .rs, 0, .all⟩,
      ⟨0, 8, 8, .ro, 0, .all⟩,
      ⟨0, 0, 8, .w1c, 0, .all⟩]
  | .PWR_CLAMP_CNT => [⟨0, 0, 16, .rs, 0, .all⟩]
  | .VLT_TIMER => [⟨1, 0, 32, .ro, 0, .all⟩,
      ⟨0, 0, 32, .ro, 0, .all⟩]
  | .VLT_WAKE_T => [⟨1, 0, 32, .rw, 0, .all⟩,
      ⟨0, 0, 32, .rw, 0, .all⟩]
  | .CLK_CFG => [⟨0, 31, 1, .rwl, 0, .all⟩,
      ⟨0, 26, 2, .rwl, 0, .all⟩,
      ⟨0, 0, 10, .rwl, 1, .range 1 1000⟩]
  | .CLK_STATUS => [⟨0, 24, 1, .ro, 0, .all⟩,
      ⟨0, 16, 2, .ro, 0, .all⟩,
      ⟨0, 0, 7, .ro, 0, .all⟩]
  | .CLK_GATE => [⟨0, 1, 1, .rw, 1, .all⟩,
      ⟨0, 0, 1, .rw, 1, .all⟩]
  | .CLK_ISL => [⟨0, 31, 1, .rw, 1, .all⟩,
      ⟨0, 30, 1, .rw, 0, .all⟩,
      ⟨0, 29, 1, .ro, 0, .all⟩,
      ⟨0, 28, 1, .ro, 0, .all⟩,
      ⟨0, 0, 3, .ro, 0, .all⟩]
  | .CLK_FCNT_CFG => [⟨0, 31, 1, .wo, 0, .all⟩,
      ⟨0, 24, 6, .rw, 0, .range 0 47⟩,
      ⟨0, 18, 6, .rw, 1, .range 0 47⟩]
  | .CLK_FCNT_WIN => [⟨0, 0, 20, .rw, 0x3e8, .range 1 1000000⟩]
  | .CLK_FCNT_STAT => [⟨0, 30, 2, .ro, 0, .all⟩]
  | .CLK_FCNT_TGT => [⟨0, 0, 32, .ro, 0, .all⟩]
  | .CLK_FCNT_REF => [⟨0, 0, 32, .ro, 0, .all⟩]
  | .CLK_CNT => [⟨0, 16, 16, .rs, 0, .all⟩,
      ⟨0, 0, 16, .rs, 0, .all⟩]
  | .CLK_CLAMP_CNT => [⟨0, 0, 16, .rs, 0, .all⟩]
  | .ID_PART => [⟨0, 24, 8, .ro, 0, .all⟩,
      ⟨0, 16, 8, .ro, 3, .all⟩,
      ⟨0, 0, 16, .ro, 0x7640, .all⟩]
  | .ID_CAP => [⟨0, 24, 8, .ro, 4, .all⟩,
      ⟨0, 16, 8, .ro, 0x10, .all⟩,
      ⟨0, 8, 8, .ro, 0x10, .all⟩,
      ⟨0, 0, 8, .ro, 0x40, .all⟩]
  | .ID_SERIAL => [⟨3, 0, 32, .ro, 0, .all⟩,
      ⟨2, 0, 32, .ro, 0, .all⟩,
      ⟨1, 0, 32, .ro, 0, .all⟩,
      ⟨0, 0, 32, .ro, 0, .all⟩]
  | .ID_FW_SVN => [⟨0, 0, 32, .ro, 0, .all⟩]
  | .ID_BND_SVN => [⟨0, 0, 32, .ro, 0, .all⟩]
  | .ID_FW_DIGEST => [⟨11, 0, 32, .ro, 0, .all⟩,
      ⟨10, 0, 32, .ro, 0, .all⟩,
      ⟨9, 0, 32, .ro, 0, .all⟩,
      ⟨8, 0, 32, .ro, 0, .all⟩,
      ⟨7, 0, 32, .ro, 0, .all⟩,
      ⟨6, 0, 32, .ro, 0, .all⟩,
      ⟨5, 0, 32, .ro, 0, .all⟩,
      ⟨4, 0, 32, .ro, 0, .all⟩,
      ⟨3, 0, 32, .ro, 0, .all⟩,
      ⟨2, 0, 32, .ro, 0, .all⟩,
      ⟨1, 0, 32, .ro, 0, .all⟩,
      ⟨0, 0, 32, .ro, 0, .all⟩]
  | .ID_BND_DIGEST => [⟨11, 0, 32, .ro, 0, .all⟩,
      ⟨10, 0, 32, .ro, 0, .all⟩,
      ⟨9, 0, 32, .ro, 0, .all⟩,
      ⟨8, 0, 32, .ro, 0, .all⟩,
      ⟨7, 0, 32, .ro, 0, .all⟩,
      ⟨6, 0, 32, .ro, 0, .all⟩,
      ⟨5, 0, 32, .ro, 0, .all⟩,
      ⟨4, 0, 32, .ro, 0, .all⟩,
      ⟨3, 0, 32, .ro, 0, .all⟩,
      ⟨2, 0, 32, .ro, 0, .all⟩,
      ⟨1, 0, 32, .ro, 0, .all⟩,
      ⟨0, 0, 32, .ro, 0, .all⟩]
  | .ID_OWNER_DIGEST => [⟨11, 0, 32, .ro, 0, .all⟩,
      ⟨10, 0, 32, .ro, 0, .all⟩,
      ⟨9, 0, 32, .ro, 0, .all⟩,
      ⟨8, 0, 32, .ro, 0, .all⟩,
      ⟨7, 0, 32, .ro, 0, .all⟩,
      ⟨6, 0, 32, .ro, 0, .all⟩,
      ⟨5, 0, 32, .ro, 0, .all⟩,
      ⟨4, 0, 32, .ro, 0, .all⟩,
      ⟨3, 0, 32, .ro, 0, .all⟩,
      ⟨2, 0, 32, .ro, 0, .all⟩,
      ⟨1, 0, 32, .ro, 0, .all⟩,
      ⟨0, 0, 32, .ro, 0, .all⟩]
  | .ID_STATE => [⟨0, 11, 1, .ro, 0, .all⟩,
      ⟨0, 10, 1, .ro, 0, .all⟩,
      ⟨0, 8, 2, .ro, 0, .all⟩,
      ⟨0, 7, 1, .ro, 0, .all⟩,
      ⟨0, 6, 1, .ro, 0, .all⟩,
      ⟨0, 5, 1, .ro, 0, .all⟩,
      ⟨0, 4, 1, .ro, 0, .all⟩,
      ⟨0, 3, 1, .ro, 0, .all⟩,
      ⟨0, 2, 1, .ro, 0, .all⟩,
      ⟨0, 1, 1, .ro, 0, .all⟩,
      ⟨0, 0, 1, .ro, 0, .all⟩]
  | .ID_BOOTS => [⟨0, 0, 32, .ro, 0, .all⟩]
  | .ID_UPTIME => [⟨1, 0, 32, .ro, 0, .all⟩,
      ⟨0, 0, 32, .ro, 0, .all⟩]
  | .ID_COMMIT => [⟨0, 31, 1, .wo, 0, .all⟩,
      ⟨0, 30, 1, .ro, 0, .all⟩,
      ⟨0, 29, 1, .ro, 0, .all⟩,
      ⟨0, 0, 16, .rs, 0, .all⟩]
  | .ID_CLAMP_SUM => [⟨0, 0, 16, .ro, 0, .all⟩]
  | .ID_CLAMP_CNT => [⟨0, 0, 16, .rs, 0, .all⟩]
  | .TD_CLAMP_CNT => [⟨0, 0, 16, .rs, 0, .all⟩]
  | .RING_CLAMP_CNT => [⟨0, 0, 16, .rs, 0, .all⟩]
  | .TWIN_CLAMP_CNT => [⟨0, 0, 16, .rs, 0, .all⟩]
  | .SEC_CLAMP_CNT => [⟨0, 0, 16, .rs, 0, .all⟩]

/-- The registers whose base lies in a 64 KiB block of the map (Table 21-1). -/
def Reg.inBlock : Nat → List Reg
  | 0x0 => [.ID_BOOT_STAT, .ID_BOOT_TIME, .ID_BOOT_CMD, .ID_UPD_CFG, .ID_UPD_STAT, .ID_RCV_CMD, .ID_RCV_OFS, .ID_RCV_TOTAL, .ID_RCV_STAT, .ID_RCV_SERVE, .ID_PART, .ID_CAP, .ID_SERIAL, .ID_FW_SVN, .ID_BND_SVN, .ID_FW_DIGEST, .ID_BND_DIGEST, .ID_OWNER_DIGEST, .ID_STATE, .ID_BOOTS, .ID_UPTIME, .ID_COMMIT, .ID_CLAMP_SUM, .ID_CLAMP_CNT]
  | 0x1 => [.CLK_CFG, .CLK_STATUS, .CLK_GATE, .CLK_ISL, .CLK_FCNT_CFG, .CLK_FCNT_WIN, .CLK_FCNT_STAT, .CLK_FCNT_TGT, .CLK_FCNT_REF, .CLK_CNT, .CLK_CLAMP_CNT]
  | 0x2 => [.PWR_TBM_BUDGET, .PWR_TBM_STAT, .PWR_TBM_CNT, .PWR_STAT, .PWR_CFG, .PWR_SEAT_CFG, .PWR_FEED_V, .PWR_FPIN_V, .PWR_FEED_I, .PWR_FPIN_I, .PWR_BRK_CFG, .PWR_BRK_STAT, .PWR_WAKE_EN, .PWR_WAKE_SRC, .PWR_RET_STAT, .PWR_CLAMP_CNT]
  | 0x3 => [.FLT_STATUS, .FLT_MASK, .FLT_ESC, .FLT_SAFE, .FLT_SRC, .FLT_LOG_RD, .FLT_LOG_RDSTAT, .FLT_LOG_SEQ, .FLT_LOG_LOST]
  | 0x4 => [.TD_SNAP, .TD_EDGE_CNT, .TD_NOW, .TD_SYNC_CFG, .TD_PPS_IN, .TD_PPS_OUT, .TD_PTP, .TD_LAT_TRIM, .TD_LINK_DLY, .TD_CFG, .TD_PARAM, .TD_STAT, .TD_RATE, .TD_OFS, .TD_ADJ, .TD_CMD, .TD_SET, .TD_CLAMP_CNT]
  | 0x5 => [.RING_NODE_ID, .RING_NODE_ID1, .RING_NODE_STATE, .RING_TOPO, .RING_NOROUTE_CNT, .RING_RT, .RING_PORT_CFG, .RING_PORT_STAT, .RING_PORT_RTT, .RING_PORT_ERR, .RING_PORT_DISC, .RING_PORT_WRAP, .RING_CE_CNT, .RING_CYC_CFG, .RING_CYC_CAP, .RING_CYC_EXCL, .RING_CYC_OUT, .RING_SUBRATE, .RING_CYC_STAT, .RING_CYC_TCIRC, .RING_CYC_TSWEEP, .RING_SLOT, .RING_SMAP, .RING_XMAP, .RING_XIN, .RING_CLAMP_CNT]
  | 0x6 => [.TWIN_CFG, .TWIN_PEER, .TWIN_STAT, .TWIN_DELTA, .TWIN_DELTA_T, .TWIN_CNT, .TWIN_CMP_CNT, .TWIN_CMD, .TWIN_PULSE, .TWIN_PULSE_STAT, .TWIN_CLAMP_CNT]
  | 0x7 => [.HIF_TEN, .HIF_ALIAS, .HIF_WIN_ID, .HIF_SUM_ADDR, .HIF_ERR_VEC, .HIF_TEN_STAT, .HIF_RGN_BASE, .HIF_RGN_LEN, .HIF_RGN_PEER, .Q_SQ_BASE, .Q_CQ_BASE, .Q_DB_ADDR, .Q_CFG, .Q_COAL, .Q_CTRL, .Q_STATUS, .Q_DROP, .HIF_QUOTA, .HIF_TAG_STATE, .HIF_LATE_RSP, .HIF_CLAMP_CNT, .HIF_TMO]
  | 0x8 => [.SW_STAT, .SW_FREE, .SW_AUDIT, .SW_CLAMP_CNT, .SW_IN_CNT, .SW_OQ_CFG, .SW_OQ_LIM, .SW_OQ_STAT, .SW_OQ_CNT]
  | 0x9 => [.BRG_RNG_CFG, .BRG_RNG_LO, .BRG_RNG_HI, .BRG_LOCK_CFG, .BRG_CMD, .BRG_PF_CNT, .BRG_POST_CNT, .BRG_POST_FAIL, .BRG_LOCK_CNT, .BRG_CLAMP_CNT, .BRG_LOCK_STAT, .BRG_TUN_CFG, .BRG_TUN_NODE, .BRG_TUN_MATCH, .BRG_TUN_MASK, .BRG_TUN_LAT, .BRG_TUN_CNT, .BRG_TUN_SEQ]
  | 0xa => [.RFX_ASET, .RFX_ASET_R, .RFX_PT_CLAMP_CNT, .RFX_SUB_USED, .RFX_SUB_QUOTA, .RFX_SUB_LOST, .RFX_CFG, .RFX_STAT, .RFX_CNT, .RFX_CLAMP_CNT, .RFX_TBL_STAT, .RFX_SM_STATE, .RFX_ROP]
  | 0xb => [.ENG_CTRL, .ENG_STAT, .ENG_SLOTEN, .ENG_SLOTMAP, .ENG_SWAP_TMO, .ENG_START_CFG, .ENG_START_T, .ENG_EVT, .ENG_CLAMP_CNT, .ENG_CH_CFG, .ENG_CH_PINS, .ENG_CH_PROG, .ENG_CH_IDLE, .ENG_CH_FLAG, .ENG_CH_GRID, .ENG_CH_STAT, .ENG_CH_ERR, .ENG_CH_CNT]
  | 0xc => [.PORT_FN, .PORT_PAIR, .PORT_DIF, .PORT_DIL, .PORT_DIT, .PORT_DO, .PORT_FP_CFG, .PORT_FP_RTY, .PORT_STAT, .PORT_DIAG, .PORT_EDGE, .PORT_CUR, .PORT_CLAMP_CNT]
  | 0xd => [.MEAS_CFG, .MEAS_STAT, .MEAS_SYS_GAIN, .MEAS_SYS_OFS, .MEAS_LEAD, .MEAS_CJ, .MEAS_AO, .MEAS_BG, .MEAS_SCAL_CMD, .MEAS_SCAL_REF, .MEAS_SCAL_STAT, .MEAS_CLAMP_CNT]
  | 0xe => [.PCTL_CAN_CFG, .PCTL_CAN_DT, .PCTL_SPE_CFG, .PCTL_SPE_MAC, .PCTL_UART_CFG, .PCTL_UART_RSP, .PCTL_IOL_CFG, .PCTL_IOL_FMT, .PCTL_IOL_ID, .PCTL_CAN_STAT, .PCTL_SPE_STAT, .PCTL_UART_STAT, .PCTL_IOL_STAT, .PCTL_PORT, .PCTL_CLAMP_CNT, .PCTL_CMD, .PCTL_MOBJ]
  | 0xf => [.SEC_CFG, .SEC_STAT, .SEC_MBX_CMD, .SEC_MBX_STAT, .SEC_MGMT, .SEC_TEN, .SEC_TEN_KEY, .SEC_PEER_OWNER, .SEC_CLAMP_CNT]
  | 0x10 => [.VLT_TAMPER_CFG, .VLT_TAMPER_STAT, .VLT_TAMPER_TIME, .VLT_FW_CTR, .VLT_BND_CTR, .VLT_RCV_PEER, .VLT_TIMER, .VLT_WAKE_T]
  | _ => []

end Sys2Proof
end

