-- ==== Sys2Proof/Machine/Fields.lean ====
section
/-!
DEFINITION. Names for the fields of the set-up registers: `R.<REGISTER>_<FIELD>` with the register's indices is the place of
that field in the map (its word's offset, lowest bit and width), as the tables of the home chapters give it.
A field that spans several words has one name per word, ending in `_W<word>`.
-/

namespace Sys2Proof

/-- A field within one 32-bit word of the set-up space: the word's byte offset in BAR0, the lowest bit, the width. -/
structure Fld where
  off : Nat
  lo : Nat
  width : Nat
deriving DecidableEq, Repr

namespace R

def RING_NODE_ID_RING : Fld := ⟨0x50010, 8, 10⟩
def RING_NODE_ID_STATION : Fld := ⟨0x50010, 0, 8⟩
def RING_NODE_ID1_JUNCTION_EN : Fld := ⟨0x50014, 31, 1⟩
def RING_NODE_ID1_RING : Fld := ⟨0x50014, 8, 10⟩
def RING_NODE_ID1_STATION : Fld := ⟨0x50014, 0, 8⟩
def RING_NODE_STATE_JOINED : Fld := ⟨0x50018, 31, 1⟩
def RING_NODE_STATE_CONFLICT : Fld := ⟨0x50018, 30, 1⟩
def RING_NODE_STATE_JOINED1 : Fld := ⟨0x50018, 29, 1⟩
def RING_NODE_STATE_CONFLICT1 : Fld := ⟨0x50018, 28, 1⟩
def RING_NODE_STATE_RING : Fld := ⟨0x50018, 8, 10⟩
def RING_NODE_STATE_STATION : Fld := ⟨0x50018, 0, 8⟩
def RING_TOPO_GEN : Fld := ⟨0x50020, 16, 16⟩
def RING_TOPO_COUNT : Fld := ⟨0x50020, 8, 8⟩
def RING_TOPO_MASTER : Fld := ⟨0x50020, 0, 8⟩
def RING_NOROUTE_CNT_LOOP : Fld := ⟨0x50024, 16, 16⟩
def RING_NOROUTE_CNT_MISS : Fld := ⟨0x50024, 0, 16⟩
def RING_RT_VALID (i : Nat) : Fld := ⟨0x51000 + 0x4 * i, 31, 1⟩
def RING_RT_SIDE (i : Nat) : Fld := ⟨0x51000 + 0x4 * i, 30, 1⟩
def RING_RT_NEXT (i : Nat) : Fld := ⟨0x51000 + 0x4 * i, 16, 8⟩
def RING_RT_CROSS (i : Nat) : Fld := ⟨0x51000 + 0x4 * i, 8, 4⟩
def RFX_ASET_PUBLIC (i : Nat) : Fld := ⟨0xa4000 + 0x40 * i, 16, 1⟩
def RFX_ASET_LOCAL (i : Nat) : Fld := ⟨0xa4000 + 0x40 * i, 0, 16⟩
def RFX_ASET_R_VALID (i j : Nat) : Fld := ⟨0xa4000 + 0x40 * i + 0x4 * j, 31, 1⟩
def RFX_ASET_R_ALL_TENANTS (i j : Nat) : Fld := ⟨0xa4000 + 0x40 * i + 0x4 * j, 30, 1⟩
def RFX_ASET_R_NODE (i j : Nat) : Fld := ⟨0xa4000 + 0x40 * i + 0x4 * j, 4, 18⟩
def RFX_ASET_R_TENANT (i j : Nat) : Fld := ⟨0xa4000 + 0x40 * i + 0x4 * j, 0, 4⟩
def RFX_PT_CLAMP_CNT_COUNT : Fld := ⟨0xa0040, 0, 16⟩
def RFX_SUB_USED_COUNT : Fld := ⟨0xa0044, 0, 16⟩
def RFX_SUB_QUOTA_QUOTA (i : Nat) : Fld := ⟨0xa0080 + 0x4 * i, 0, 16⟩
def RFX_SUB_LOST_COUNT (i : Nat) : Fld := ⟨0xa00c0 + 0x4 * i, 0, 32⟩
def HIF_TEN_EN (i : Nat) : Fld := ⟨0x70c00 + 0x4 * i, 31, 1⟩
def HIF_TEN_KIND (i : Nat) : Fld := ⟨0x70c00 + 0x4 * i, 29, 2⟩
def HIF_TEN_HOST_NODE (i : Nat) : Fld := ⟨0x70c00 + 0x4 * i, 4, 18⟩
def HIF_TEN_HOST_TN (i : Nat) : Fld := ⟨0x70c00 + 0x4 * i, 0, 4⟩
def HIF_ALIAS_VALID (i : Nat) : Fld := ⟨0x70c40 + 0x4 * i, 31, 1⟩
def HIF_ALIAS_NODE (i : Nat) : Fld := ⟨0x70c40 + 0x4 * i, 4, 18⟩
def HIF_ALIAS_TENANT (i : Nat) : Fld := ⟨0x70c40 + 0x4 * i, 0, 4⟩
def HIF_WIN_ID_PAIR_BASE (i : Nat) : Fld := ⟨0x70000 + 0x1000 * i, 16, 16⟩
def HIF_WIN_ID_ENABLED (i : Nat) : Fld := ⟨0x70000 + 0x1000 * i, 6, 1⟩
def HIF_WIN_ID_KIND (i : Nat) : Fld := ⟨0x70000 + 0x1000 * i, 4, 2⟩
def HIF_WIN_ID_SLOT (i : Nat) : Fld := ⟨0x70000 + 0x1000 * i, 0, 4⟩
def HIF_SUM_ADDR_ADDR_W1 (i : Nat) : Fld := ⟨0x7000c + 0x1000 * i, 0, 32⟩
def HIF_SUM_ADDR_ADDR_W0 (i : Nat) : Fld := ⟨0x70008 + 0x1000 * i, 6, 26⟩
def HIF_SUM_ADDR_EN (i : Nat) : Fld := ⟨0x70008 + 0x1000 * i, 0, 1⟩
def HIF_ERR_VEC_EN (i : Nat) : Fld := ⟨0x70010 + 0x1000 * i, 31, 1⟩
def HIF_ERR_VEC_VEC (i : Nat) : Fld := ⟨0x70010 + 0x1000 * i, 0, 7⟩
def HIF_TEN_STAT_AT_QUOTA (i : Nat) : Fld := ⟨0x70014 + 0x1000 * i, 17, 1⟩
def HIF_TEN_STAT_SUM_ERR (i : Nat) : Fld := ⟨0x70014 + 0x1000 * i, 16, 1⟩
def HIF_TEN_STAT_TAGS (i : Nat) : Fld := ⟨0x70014 + 0x1000 * i, 0, 14⟩
def HIF_RGN_BASE_BASE_W1 (i : Nat) : Fld := ⟨0x7001c + 0x1000 * i, 0, 32⟩
def HIF_RGN_BASE_BASE_W0 (i : Nat) : Fld := ⟨0x70018 + 0x1000 * i, 12, 20⟩
def HIF_RGN_BASE_EN (i : Nat) : Fld := ⟨0x70018 + 0x1000 * i, 0, 1⟩
def HIF_RGN_LEN_PAGES (i : Nat) : Fld := ⟨0x70020 + 0x1000 * i, 0, 17⟩
def HIF_RGN_PEER_VALID (i j : Nat) : Fld := ⟨0x70028 + 0x1000 * i + 0x4 * j, 31, 1⟩
def HIF_RGN_PEER_NODE (i j : Nat) : Fld := ⟨0x70028 + 0x1000 * i + 0x4 * j, 4, 18⟩
def HIF_RGN_PEER_TENANT (i j : Nat) : Fld := ⟨0x70028 + 0x1000 * i + 0x4 * j, 0, 4⟩
def Q_SQ_BASE_ADDR_W1 (i j : Nat) : Fld := ⟨0x70104 + 0x1000 * i + 0x40 * j, 0, 32⟩
def Q_SQ_BASE_ADDR_W0 (i j : Nat) : Fld := ⟨0x70100 + 0x1000 * i + 0x40 * j, 6, 26⟩
def Q_CQ_BASE_ADDR_W1 (i j : Nat) : Fld := ⟨0x7010c + 0x1000 * i + 0x40 * j, 0, 32⟩
def Q_CQ_BASE_ADDR_W0 (i j : Nat) : Fld := ⟨0x70108 + 0x1000 * i + 0x40 * j, 6, 26⟩
def Q_DB_ADDR_ADDR_W1 (i j : Nat) : Fld := ⟨0x70114 + 0x1000 * i + 0x40 * j, 0, 32⟩
def Q_DB_ADDR_ADDR_W0 (i j : Nat) : Fld := ⟨0x70110 + 0x1000 * i + 0x40 * j, 3, 29⟩
def Q_CFG_VEC_EN (i j : Nat) : Fld := ⟨0x70118 + 0x1000 * i + 0x40 * j, 31, 1⟩
def Q_CFG_VEC (i j : Nat) : Fld := ⟨0x70118 + 0x1000 * i + 0x40 * j, 24, 7⟩
def Q_CFG_BURST (i j : Nat) : Fld := ⟨0x70118 + 0x1000 * i + 0x40 * j, 16, 4⟩
def Q_CFG_CQ_LOG2 (i j : Nat) : Fld := ⟨0x70118 + 0x1000 * i + 0x40 * j, 8, 5⟩
def Q_CFG_SQ_LOG2 (i j : Nat) : Fld := ⟨0x70118 + 0x1000 * i + 0x40 * j, 0, 5⟩
def Q_COAL_TIME (i j : Nat) : Fld := ⟨0x7011c + 0x1000 * i + 0x40 * j, 16, 10⟩
def Q_COAL_COUNT (i j : Nat) : Fld := ⟨0x7011c + 0x1000 * i + 0x40 * j, 0, 8⟩
def Q_CTRL_RESET (i j : Nat) : Fld := ⟨0x70120 + 0x1000 * i + 0x40 * j, 1, 1⟩
def Q_CTRL_EN (i j : Nat) : Fld := ⟨0x70120 + 0x1000 * i + 0x40 * j, 0, 1⟩
def Q_STATUS_SQ_HEAD (i j : Nat) : Fld := ⟨0x70124 + 0x1000 * i + 0x40 * j, 16, 16⟩
def Q_STATUS_REASON (i j : Nat) : Fld := ⟨0x70124 + 0x1000 * i + 0x40 * j, 4, 4⟩
def Q_STATUS_STATE (i j : Nat) : Fld := ⟨0x70124 + 0x1000 * i + 0x40 * j, 0, 2⟩
def Q_DROP_COUNT (i j : Nat) : Fld := ⟨0x70128 + 0x1000 * i + 0x40 * j, 0, 16⟩
def HIF_QUOTA_GUAR (i : Nat) : Fld := ⟨0x70c80 + 0x4 * i, 16, 14⟩
def HIF_QUOTA_QUOTA (i : Nat) : Fld := ⟨0x70c80 + 0x4 * i, 0, 14⟩
def HIF_TAG_STATE_OVERCOMMIT : Fld := ⟨0x70cc0, 31, 1⟩
def HIF_TAG_STATE_QUAR : Fld := ⟨0x70cc0, 16, 14⟩
def HIF_TAG_STATE_IN_USE : Fld := ⟨0x70cc0, 0, 14⟩
def HIF_LATE_RSP_COUNT : Fld := ⟨0x70cc4, 0, 32⟩
def HIF_CLAMP_CNT_COUNT : Fld := ⟨0x70cc8, 0, 16⟩
def HIF_TMO_TMO (i : Nat) : Fld := ⟨0x70d00 + 0x4 * i, 0, 20⟩
def RING_PORT_CFG_EN (i : Nat) : Fld := ⟨0x50100 + 0x40 * i, 31, 1⟩
def RING_PORT_CFG_MODE (i : Nat) : Fld := ⟨0x50100 + 0x40 * i, 24, 4⟩
def RING_PORT_CFG_FEC (i : Nat) : Fld := ⟨0x50100 + 0x40 * i, 20, 2⟩
def RING_PORT_CFG_MEDIA (i : Nat) : Fld := ⟨0x50100 + 0x40 * i, 16, 2⟩
def RING_PORT_CFG_VID (i : Nat) : Fld := ⟨0x50100 + 0x40 * i, 0, 12⟩
def RING_PORT_STAT_DOWN_CNT (i : Nat) : Fld := ⟨0x50104 + 0x40 * i, 16, 16⟩
def RING_PORT_STAT_CAUSE (i : Nat) : Fld := ⟨0x50104 + 0x40 * i, 8, 8⟩
def RING_PORT_STAT_EPOCH (i : Nat) : Fld := ⟨0x50104 + 0x40 * i, 3, 1⟩
def RING_PORT_STAT_STATE (i : Nat) : Fld := ⟨0x50104 + 0x40 * i, 0, 3⟩
def RING_PORT_RTT_RTT (i : Nat) : Fld := ⟨0x50108 + 0x40 * i, 0, 16⟩
def RING_PORT_ERR_REPLAY (i : Nat) : Fld := ⟨0x5010c + 0x40 * i, 16, 16⟩
def RING_PORT_ERR_TAG_FAIL (i : Nat) : Fld := ⟨0x5010c + 0x40 * i, 0, 16⟩
def RING_PORT_DISC_POISONED (i : Nat) : Fld := ⟨0x50110 + 0x40 * i, 16, 16⟩
def RING_PORT_DISC_DISCARD (i : Nat) : Fld := ⟨0x50110 + 0x40 * i, 0, 16⟩
def RING_PORT_WRAP_WRAPPED (i : Nat) : Fld := ⟨0x50114 + 0x40 * i, 16, 16⟩
def RING_PORT_WRAP_LOST (i : Nat) : Fld := ⟨0x50114 + 0x40 * i, 0, 16⟩
def RING_CE_CNT_COUNT : Fld := ⟨0x50028, 0, 32⟩
def RING_CYC_CFG_PRIO (i : Nat) : Fld := ⟨0x50040 + 0x20 * i, 28, 4⟩
def RING_CYC_CFG_BASE (i : Nat) : Fld := ⟨0x50040 + 0x20 * i, 0, 27⟩
def RING_CYC_CAP_CAPLEAD (i : Nat) : Fld := ⟨0x50044 + 0x20 * i, 0, 27⟩
def RING_CYC_EXCL_EXCL (i : Nat) : Fld := ⟨0x50048 + 0x20 * i, 0, 28⟩
def RING_CYC_OUT_OUTDL (i : Nat) : Fld := ⟨0x5004c + 0x20 * i, 0, 28⟩
def RING_SUBRATE_EN_3 (i : Nat) : Fld := ⟨0x50050 + 0x20 * i, 31, 1⟩
def RING_SUBRATE_EXP_3 (i : Nat) : Fld := ⟨0x50050 + 0x20 * i, 24, 4⟩
def RING_SUBRATE_EN_2 (i : Nat) : Fld := ⟨0x50050 + 0x20 * i, 23, 1⟩
def RING_SUBRATE_EXP_2 (i : Nat) : Fld := ⟨0x50050 + 0x20 * i, 16, 4⟩
def RING_SUBRATE_EN_1 (i : Nat) : Fld := ⟨0x50050 + 0x20 * i, 15, 1⟩
def RING_SUBRATE_EXP_1 (i : Nat) : Fld := ⟨0x50050 + 0x20 * i, 8, 4⟩
def RING_SUBRATE_EN_0 (i : Nat) : Fld := ⟨0x50050 + 0x20 * i, 7, 1⟩
def RING_SUBRATE_EXP_0 (i : Nat) : Fld := ⟨0x50050 + 0x20 * i, 0, 4⟩
def RING_CYC_STAT_ROLE (i : Nat) : Fld := ⟨0x50054 + 0x20 * i, 30, 2⟩
def RING_CYC_STAT_SYNC (i : Nat) : Fld := ⟨0x50054 + 0x20 * i, 29, 1⟩
def RING_CYC_STAT_BROKEN (i : Nat) : Fld := ⟨0x50054 + 0x20 * i, 28, 1⟩
def RING_CYC_STAT_SKIPPED (i : Nat) : Fld := ⟨0x50054 + 0x20 * i, 16, 8⟩
def RING_CYC_STAT_OVERRUN (i : Nat) : Fld := ⟨0x50054 + 0x20 * i, 8, 8⟩
def RING_CYC_STAT_LATE (i : Nat) : Fld := ⟨0x50054 + 0x20 * i, 0, 8⟩
def RING_CYC_TCIRC_TIME (i : Nat) : Fld := ⟨0x50058 + 0x20 * i, 0, 27⟩
def RING_CYC_TSWEEP_TIME (i : Nat) : Fld := ⟨0x5005c + 0x20 * i, 0, 27⟩
def RING_SLOT_STATION (i j : Nat) : Fld := ⟨0x50400 + 0x400 * i + 0x4 * j, 24, 8⟩
def RING_SLOT_OUTLEN (i j : Nat) : Fld := ⟨0x50400 + 0x400 * i + 0x4 * j, 10, 10⟩
def RING_SLOT_INLEN (i j : Nat) : Fld := ⟨0x50400 + 0x400 * i + 0x4 * j, 0, 10⟩
def RING_SMAP_VALID (i : Nat) : Fld := ⟨0x52004 + 0x8 * i, 31, 1⟩
def RING_SMAP_KIND (i : Nat) : Fld := ⟨0x52004 + 0x8 * i, 30, 1⟩
def RING_SMAP_FIELD (i : Nat) : Fld := ⟨0x52004 + 0x8 * i, 29, 1⟩
def RING_SMAP_RING (i : Nat) : Fld := ⟨0x52004 + 0x8 * i, 28, 1⟩
def RING_SMAP_WIDTH (i : Nat) : Fld := ⟨0x52004 + 0x8 * i, 26, 2⟩
def RING_SMAP_STATION (i : Nat) : Fld := ⟨0x52004 + 0x8 * i, 8, 8⟩
def RING_SMAP_OFFSET (i : Nat) : Fld := ⟨0x52000 + 0x8 * i, 16, 10⟩
def RING_SMAP_POINT (i : Nat) : Fld := ⟨0x52000 + 0x8 * i, 0, 16⟩
def RING_XMAP_VALID (i : Nat) : Fld := ⟨0x56000 + 0x4 * i, 31, 1⟩
def RING_XMAP_DIR (i : Nat) : Fld := ⟨0x56000 + 0x4 * i, 30, 1⟩
def RING_XMAP_WIDTH (i : Nat) : Fld := ⟨0x56000 + 0x4 * i, 28, 2⟩
def RING_XMAP_SRC_STATION (i : Nat) : Fld := ⟨0x56000 + 0x4 * i, 20, 8⟩
def RING_XMAP_SRC_OFFSET (i : Nat) : Fld := ⟨0x56000 + 0x4 * i, 10, 10⟩
def RING_XMAP_DST_OFFSET (i : Nat) : Fld := ⟨0x56000 + 0x4 * i, 0, 10⟩
def RING_XIN_VALID (i : Nat) : Fld := ⟨0x57004 + 0x8 * i, 31, 1⟩
def RING_XIN_SRC_RING (i : Nat) : Fld := ⟨0x57004 + 0x8 * i, 18, 10⟩
def RING_XIN_SRC_STATION (i : Nat) : Fld := ⟨0x57004 + 0x8 * i, 10, 8⟩
def RING_XIN_SRC_OFFSET (i : Nat) : Fld := ⟨0x57004 + 0x8 * i, 0, 10⟩
def RING_XIN_JSTATION (i : Nat) : Fld := ⟨0x57000 + 0x8 * i, 10, 8⟩
def RING_XIN_JOFFSET (i : Nat) : Fld := ⟨0x57000 + 0x8 * i, 0, 10⟩
def TD_SNAP_LATCH : Fld := ⟨0x40000, 0, 1⟩
def TD_EDGE_CNT_FULL : Fld := ⟨0x40004, 16, 16⟩
def TD_EDGE_CNT_LATE : Fld := ⟨0x40004, 0, 16⟩
def TD_NOW_STATE (i : Nat) : Fld := ⟨0x4001c + 0x10 * i, 0, 3⟩
def TD_NOW_TIME_W2 (i : Nat) : Fld := ⟨0x40018 + 0x10 * i, 0, 32⟩
def TD_NOW_TIME_W1 (i : Nat) : Fld := ⟨0x40014 + 0x10 * i, 0, 32⟩
def TD_NOW_TIME_W0 (i : Nat) : Fld := ⟨0x40010 + 0x10 * i, 0, 32⟩
def TD_SYNC_CFG_INTERVAL (i : Nat) : Fld := ⟨0x40090 + 0x4 * i, 0, 4⟩
def TD_PPS_IN_EN : Fld := ⟨0x40098, 31, 1⟩
def TD_PPS_IN_EDGE : Fld := ⟨0x40098, 30, 1⟩
def TD_PPS_IN_DELAY : Fld := ⟨0x40098, 0, 16⟩
def TD_PPS_OUT_EN : Fld := ⟨0x4009c, 31, 1⟩
def TD_PPS_OUT_TD : Fld := ⟨0x4009c, 28, 3⟩
def TD_PPS_OUT_WIDTH : Fld := ⟨0x4009c, 0, 20⟩
def TD_PTP_EN (i : Nat) : Fld := ⟨0x400a0 + 0x4 * i, 31, 1⟩
def TD_PTP_PROFILE (i : Nat) : Fld := ⟨0x400a0 + 0x4 * i, 29, 2⟩
def TD_PTP_ROLE (i : Nat) : Fld := ⟨0x400a0 + 0x4 * i, 28, 1⟩
def TD_PTP_MTD (i : Nat) : Fld := ⟨0x400a0 + 0x4 * i, 25, 3⟩
def TD_PTP_DOMNUM (i : Nat) : Fld := ⟨0x400a0 + 0x4 * i, 0, 8⟩
def TD_LAT_TRIM_TX (i : Nat) : Fld := ⟨0x400b0 + 0x4 * i, 16, 16⟩
def TD_LAT_TRIM_RX (i : Nat) : Fld := ⟨0x400b0 + 0x4 * i, 0, 16⟩
def TD_LINK_DLY_DELAY (i : Nat) : Fld := ⟨0x400d0 + 0x4 * i, 0, 32⟩
def TD_CFG_EN (i : Nat) : Fld := ⟨0x40100 + 0x40 * i, 31, 1⟩
def TD_CFG_PUBLISH (i : Nat) : Fld := ⟨0x40100 + 0x40 * i, 30, 1⟩
def TD_CFG_SERVO (i : Nat) : Fld := ⟨0x40100 + 0x40 * i, 29, 1⟩
def TD_CFG_SCALE (i : Nat) : Fld := ⟨0x40100 + 0x40 * i, 28, 1⟩
def TD_CFG_FOLLOW (i : Nat) : Fld := ⟨0x40100 + 0x40 * i, 20, 3⟩
def TD_CFG_SRC_S (i : Nat) : Fld := ⟨0x40100 + 0x40 * i, 8, 4⟩
def TD_CFG_SRC_P (i : Nat) : Fld := ⟨0x40100 + 0x40 * i, 0, 4⟩
def TD_PARAM_BW (i : Nat) : Fld := ⟨0x40104 + 0x40 * i, 24, 3⟩
def TD_PARAM_LOCK (i : Nat) : Fld := ⟨0x40104 + 0x40 * i, 16, 8⟩
def TD_PARAM_STEP (i : Nat) : Fld := ⟨0x40104 + 0x40 * i, 8, 8⟩
def TD_PARAM_HOLD (i : Nat) : Fld := ⟨0x40104 + 0x40 * i, 0, 8⟩
def TD_STAT_STATE (i : Nat) : Fld := ⟨0x40108 + 0x40 * i, 29, 3⟩
def TD_STAT_ACTIVE (i : Nat) : Fld := ⟨0x40108 + 0x40 * i, 28, 1⟩
def TD_STAT_P_OK (i : Nat) : Fld := ⟨0x40108 + 0x40 * i, 27, 1⟩
def TD_STAT_S_OK (i : Nat) : Fld := ⟨0x40108 + 0x40 * i, 26, 1⟩
def TD_STAT_SYNCED (i : Nat) : Fld := ⟨0x40108 + 0x40 * i, 25, 1⟩
def TD_STAT_ROOT (i : Nat) : Fld := ⟨0x40108 + 0x40 * i, 24, 1⟩
def TD_STAT_CMD_REFUSED (i : Nat) : Fld := ⟨0x40108 + 0x40 * i, 23, 1⟩
def TD_STAT_STEPS (i : Nat) : Fld := ⟨0x40108 + 0x40 * i, 8, 8⟩
def TD_STAT_SWITCHES (i : Nat) : Fld := ⟨0x40108 + 0x40 * i, 0, 8⟩
def TD_RATE_RATE (i : Nat) : Fld := ⟨0x4010c + 0x40 * i, 0, 32⟩
def TD_OFS_OFS_S (i : Nat) : Fld := ⟨0x40114 + 0x40 * i, 0, 32⟩
def TD_OFS_OFS_P (i : Nat) : Fld := ⟨0x40110 + 0x40 * i, 0, 32⟩
def TD_ADJ_RATE (i : Nat) : Fld := ⟨0x40118 + 0x40 * i, 0, 32⟩
def TD_CMD_OP (i : Nat) : Fld := ⟨0x4011c + 0x40 * i, 0, 2⟩
def TD_SET_VALUE_W2 (i : Nat) : Fld := ⟨0x40128 + 0x40 * i, 0, 32⟩
def TD_SET_VALUE_W1 (i : Nat) : Fld := ⟨0x40124 + 0x40 * i, 0, 32⟩
def TD_SET_VALUE_W0 (i : Nat) : Fld := ⟨0x40120 + 0x40 * i, 0, 32⟩
def PORT_FN_FP_DEP (i : Nat) : Fld := ⟨0xc0000 + 0x400 * i, 24, 4⟩
def PORT_FN_SHED (i : Nat) : Fld := ⟨0xc0000 + 0x400 * i, 20, 2⟩
def PORT_FN_FP_MODE (i : Nat) : Fld := ⟨0xc0000 + 0x400 * i, 16, 2⟩
def PORT_FN_FN_D (i : Nat) : Fld := ⟨0xc0000 + 0x400 * i, 12, 4⟩
def PORT_FN_FN_C (i : Nat) : Fld := ⟨0xc0000 + 0x400 * i, 8, 4⟩
def PORT_FN_FN_B (i : Nat) : Fld := ⟨0xc0000 + 0x400 * i, 4, 4⟩
def PORT_FN_FN_A (i : Nat) : Fld := ⟨0xc0000 + 0x400 * i, 0, 4⟩
def PORT_PAIR_IDX1 (i : Nat) : Fld := ⟨0xc0004 + 0x400 * i, 26, 6⟩
def PORT_PAIR_KIND1 (i : Nat) : Fld := ⟨0xc0004 + 0x400 * i, 22, 3⟩
def PORT_PAIR_LOAD1 (i : Nat) : Fld := ⟨0xc0004 + 0x400 * i, 21, 1⟩
def PORT_PAIR_BIAS1 (i : Nat) : Fld := ⟨0xc0004 + 0x400 * i, 20, 1⟩
def PORT_PAIR_TERM1 (i : Nat) : Fld := ⟨0xc0004 + 0x400 * i, 19, 1⟩
def PORT_PAIR_MODE1 (i : Nat) : Fld := ⟨0xc0004 + 0x400 * i, 16, 3⟩
def PORT_PAIR_IDX0 (i : Nat) : Fld := ⟨0xc0004 + 0x400 * i, 10, 6⟩
def PORT_PAIR_KIND0 (i : Nat) : Fld := ⟨0xc0004 + 0x400 * i, 6, 3⟩
def PORT_PAIR_LOAD0 (i : Nat) : Fld := ⟨0xc0004 + 0x400 * i, 5, 1⟩
def PORT_PAIR_BIAS0 (i : Nat) : Fld := ⟨0xc0004 + 0x400 * i, 4, 1⟩
def PORT_PAIR_TERM0 (i : Nat) : Fld := ⟨0xc0004 + 0x400 * i, 3, 1⟩
def PORT_PAIR_MODE0 (i : Nat) : Fld := ⟨0xc0004 + 0x400 * i, 0, 3⟩
def PORT_DIF_FILT (i j : Nat) : Fld := ⟨0xc0010 + 0x400 * i + 0x10 * j, 0, 23⟩
def PORT_DIL_EDGE (i j : Nat) : Fld := ⟨0xc0014 + 0x400 * i + 0x10 * j, 20, 2⟩
def PORT_DIL_WB_EN (i j : Nat) : Fld := ⟨0xc0014 + 0x400 * i + 0x10 * j, 19, 1⟩
def PORT_DIL_SINK (i j : Nat) : Fld := ⟨0xc0014 + 0x400 * i + 0x10 * j, 18, 1⟩
def PORT_DIL_INV (i j : Nat) : Fld := ⟨0xc0014 + 0x400 * i + 0x10 * j, 17, 1⟩
def PORT_DIL_HYS (i j : Nat) : Fld := ⟨0xc0014 + 0x400 * i + 0x10 * j, 12, 4⟩
def PORT_DIL_THR (i j : Nat) : Fld := ⟨0xc0014 + 0x400 * i + 0x10 * j, 0, 9⟩
def PORT_DIT_CHAT_N (i j : Nat) : Fld := ⟨0xc0018 + 0x400 * i + 0x10 * j, 16, 8⟩
def PORT_DIT_STUCK (i j : Nat) : Fld := ⟨0xc0018 + 0x400 * i + 0x10 * j, 0, 16⟩
def PORT_DO_RETRY (i j : Nat) : Fld := ⟨0xc001c + 0x400 * i + 0x10 * j, 24, 8⟩
def PORT_DO_SAFE (i j : Nat) : Fld := ⟨0xc001c + 0x400 * i + 0x10 * j, 12, 1⟩
def PORT_DO_OL_EN (i j : Nat) : Fld := ⟨0xc001c + 0x400 * i + 0x10 * j, 11, 1⟩
def PORT_DO_SLEW (i j : Nat) : Fld := ⟨0xc001c + 0x400 * i + 0x10 * j, 9, 2⟩
def PORT_DO_SRC (i j : Nat) : Fld := ⟨0xc001c + 0x400 * i + 0x10 * j, 8, 1⟩
def PORT_DO_LIMIT (i j : Nat) : Fld := ⟨0xc001c + 0x400 * i + 0x10 * j, 0, 8⟩
def PORT_FP_CFG_OL_EN (i : Nat) : Fld := ⟨0xc0050 + 0x400 * i, 31, 1⟩
def PORT_FP_CFG_FAULT_T (i : Nat) : Fld := ⟨0xc0050 + 0x400 * i, 16, 14⟩
def PORT_FP_CFG_LIMIT (i : Nat) : Fld := ⟨0xc0050 + 0x400 * i, 0, 10⟩
def PORT_FP_RTY_RETRY (i : Nat) : Fld := ⟨0xc0054 + 0x400 * i, 0, 10⟩
def PORT_STAT_FP_TRIP (i : Nat) : Fld := ⟨0xc0060 + 0x400 * i, 23, 1⟩
def PORT_STAT_FP_ON (i : Nat) : Fld := ⟨0xc0060 + 0x400 * i, 22, 1⟩
def PORT_STAT_DERATED_PAIR (i : Nat) : Fld := ⟨0xc0060 + 0x400 * i, 16, 2⟩
def PORT_STAT_DERATED (i : Nat) : Fld := ⟨0xc0060 + 0x400 * i, 12, 4⟩
def PORT_STAT_REFUSED_PAIR (i : Nat) : Fld := ⟨0xc0060 + 0x400 * i, 8, 2⟩
def PORT_STAT_REFUSED (i : Nat) : Fld := ⟨0xc0060 + 0x400 * i, 4, 4⟩
def PORT_STAT_LEVEL (i : Nat) : Fld := ⟨0xc0060 + 0x400 * i, 0, 4⟩
def PORT_DIAG_PAIR_OTEMP (i : Nat) : Fld := ⟨0xc0064 + 0x400 * i, 22, 2⟩
def PORT_DIAG_FP_SHORT (i : Nat) : Fld := ⟨0xc0064 + 0x400 * i, 21, 1⟩
def PORT_DIAG_FP_OPEN (i : Nat) : Fld := ⟨0xc0064 + 0x400 * i, 20, 1⟩
def PORT_DIAG_OTEMP (i : Nat) : Fld := ⟨0xc0064 + 0x400 * i, 16, 4⟩
def PORT_DIAG_STUCK (i : Nat) : Fld := ⟨0xc0064 + 0x400 * i, 12, 4⟩
def PORT_DIAG_CHAT (i : Nat) : Fld := ⟨0xc0064 + 0x400 * i, 8, 4⟩
def PORT_DIAG_SHORT (i : Nat) : Fld := ⟨0xc0064 + 0x400 * i, 4, 4⟩
def PORT_DIAG_OPEN (i : Nat) : Fld := ⟨0xc0064 + 0x400 * i, 0, 4⟩
def PORT_EDGE_COUNT (i j : Nat) : Fld := ⟨0xc0070 + 0x400 * i + 0x4 * j, 0, 32⟩
def PORT_CUR_PORT (i : Nat) : Fld := ⟨0xc0080 + 0x400 * i, 16, 16⟩
def PORT_CUR_FP (i : Nat) : Fld := ⟨0xc0080 + 0x400 * i, 0, 16⟩
def PORT_CLAMP_CNT_COUNT (i : Nat) : Fld := ⟨0xc00fc + 0x400 * i, 0, 16⟩
def PWR_TBM_BUDGET_BUDGET : Fld := ⟨0x20800, 0, 16⟩
def PWR_TBM_STAT_DISSIP : Fld := ⟨0x20804, 16, 16⟩
def PWR_TBM_STAT_COMMITTED : Fld := ⟨0x20804, 0, 16⟩
def PWR_TBM_CNT_DERATE : Fld := ⟨0x20808, 16, 16⟩
def PWR_TBM_CNT_REFUSED : Fld := ⟨0x20808, 0, 16⟩
def MEAS_CFG_ALIGN (i : Nat) : Fld := ⟨0xd0000 + 0x20 * i, 31, 1⟩
def MEAS_CFG_BG_EN (i : Nat) : Fld := ⟨0xd0000 + 0x20 * i, 30, 1⟩
def MEAS_CFG_OW_EN (i : Nat) : Fld := ⟨0xd0000 + 0x20 * i, 29, 1⟩
def MEAS_CFG_AGG (i : Nat) : Fld := ⟨0xd0000 + 0x20 * i, 26, 2⟩
def MEAS_CFG_WIRE (i : Nat) : Fld := ⟨0xd0000 + 0x20 * i, 24, 2⟩
def MEAS_CFG_EXC (i : Nat) : Fld := ⟨0xd0000 + 0x20 * i, 22, 2⟩
def MEAS_CFG_RATE (i : Nat) : Fld := ⟨0xd0000 + 0x20 * i, 16, 4⟩
def MEAS_CFG_RANGE (i : Nat) : Fld := ⟨0xd0000 + 0x20 * i, 12, 3⟩
def MEAS_CFG_CJ_EN (i : Nat) : Fld := ⟨0xd0000 + 0x20 * i, 10, 1⟩
def MEAS_CFG_CJ_CURVE (i : Nat) : Fld := ⟨0xd0000 + 0x20 * i, 0, 10⟩
def MEAS_STAT_CAL_FAULT (i : Nat) : Fld := ⟨0xd0004 + 0x20 * i, 31, 1⟩
def MEAS_STAT_CLIP (i : Nat) : Fld := ⟨0xd0004 + 0x20 * i, 30, 1⟩
def MEAS_STAT_OPEN (i : Nat) : Fld := ⟨0xd0004 + 0x20 * i, 29, 1⟩
def MEAS_STAT_SHORT (i : Nat) : Fld := ⟨0xd0004 + 0x20 * i, 28, 1⟩
def MEAS_STAT_SYSCAL (i : Nat) : Fld := ⟨0xd0004 + 0x20 * i, 27, 1⟩
def MEAS_STAT_SENSE (i : Nat) : Fld := ⟨0xd0004 + 0x20 * i, 26, 1⟩
def MEAS_STAT_CODE (i : Nat) : Fld := ⟨0xd0004 + 0x20 * i, 0, 24⟩
def MEAS_SYS_GAIN_GAIN (i : Nat) : Fld := ⟨0xd0008 + 0x20 * i, 0, 32⟩
def MEAS_SYS_OFS_OFS (i : Nat) : Fld := ⟨0xd000c + 0x20 * i, 0, 32⟩
def MEAS_LEAD_LEAD (i : Nat) : Fld := ⟨0xd0010 + 0x20 * i, 0, 16⟩
def MEAS_CJ_TEMP (i : Nat) : Fld := ⟨0xd2000 + 0x4 * i, 16, 16⟩
def MEAS_CJ_CJ_OFS (i : Nat) : Fld := ⟨0xd2000 + 0x4 * i, 0, 16⟩
def MEAS_AO_RANGE (i : Nat) : Fld := ⟨0xd2100 + 0x4 * i, 0, 2⟩
def MEAS_BG_INTERVAL : Fld := ⟨0xd2200, 0, 12⟩
def MEAS_SCAL_CMD_OP : Fld := ⟨0xd2204, 8, 2⟩
def MEAS_SCAL_CMD_CH : Fld := ⟨0xd2204, 0, 8⟩
def MEAS_SCAL_REF_REF : Fld := ⟨0xd2208, 0, 32⟩
def MEAS_SCAL_STAT_STATE : Fld := ⟨0xd220c, 0, 2⟩
def MEAS_CLAMP_CNT_COUNT : Fld := ⟨0xd2210, 0, 16⟩
def PCTL_CAN_CFG_EN (i : Nat) : Fld := ⟨0xe0000 + 0x10 * i, 31, 1⟩
def PCTL_CAN_CFG_RAW (i : Nat) : Fld := ⟨0xe0000 + 0x10 * i, 30, 1⟩
def PCTL_CAN_CFG_AUTO (i : Nat) : Fld := ⟨0xe0000 + 0x10 * i, 29, 1⟩
def PCTL_CAN_CFG_LISTEN (i : Nat) : Fld := ⟨0xe0000 + 0x10 * i, 28, 1⟩
def PCTL_CAN_CFG_AUTO_REC (i : Nat) : Fld := ⟨0xe0000 + 0x10 * i, 27, 1⟩
def PCTL_CAN_CFG_FRAMES (i : Nat) : Fld := ⟨0xe0000 + 0x10 * i, 25, 2⟩
def PCTL_CAN_CFG_NSP (i : Nat) : Fld := ⟨0xe0000 + 0x10 * i, 16, 8⟩
def PCTL_CAN_CFG_NBR (i : Nat) : Fld := ⟨0xe0000 + 0x10 * i, 0, 16⟩
def PCTL_CAN_DT_DSP (i : Nat) : Fld := ⟨0xe0004 + 0x10 * i, 16, 8⟩
def PCTL_CAN_DT_DBR (i : Nat) : Fld := ⟨0xe0004 + 0x10 * i, 0, 16⟩
def PCTL_SPE_CFG_EN (i : Nat) : Fld := ⟨0xe0400 + 0x10 * i, 31, 1⟩
def PCTL_SPE_CFG_RAW (i : Nat) : Fld := ⟨0xe0400 + 0x10 * i, 30, 1⟩
def PCTL_SPE_CFG_PLCA_EN (i : Nat) : Fld := ⟨0xe0400 + 0x10 * i, 29, 1⟩
def PCTL_SPE_CFG_PLCA_CNT (i : Nat) : Fld := ⟨0xe0400 + 0x10 * i, 8, 8⟩
def PCTL_SPE_CFG_PLCA_ID (i : Nat) : Fld := ⟨0xe0400 + 0x10 * i, 0, 8⟩
def PCTL_SPE_MAC_ADDR_W1 (i : Nat) : Fld := ⟨0xe040c + 0x10 * i, 0, 16⟩
def PCTL_SPE_MAC_ADDR_W0 (i : Nat) : Fld := ⟨0xe0408 + 0x10 * i, 0, 32⟩
def PCTL_UART_CFG_EN (i : Nat) : Fld := ⟨0xe0800 + 0x10 * i, 31, 1⟩
def PCTL_UART_CFG_RAW (i : Nat) : Fld := ⟨0xe0800 + 0x10 * i, 30, 1⟩
def PCTL_UART_CFG_AUTO (i : Nat) : Fld := ⟨0xe0800 + 0x10 * i, 29, 1⟩
def PCTL_UART_CFG_PARITY (i : Nat) : Fld := ⟨0xe0800 + 0x10 * i, 26, 2⟩
def PCTL_UART_CFG_STOP2 (i : Nat) : Fld := ⟨0xe0800 + 0x10 * i, 25, 1⟩
def PCTL_UART_CFG_DATA7 (i : Nat) : Fld := ⟨0xe0800 + 0x10 * i, 24, 1⟩
def PCTL_UART_CFG_BAUD (i : Nat) : Fld := ⟨0xe0800 + 0x10 * i, 0, 22⟩
def PCTL_UART_RSP_GAP (i : Nat) : Fld := ⟨0xe0804 + 0x10 * i, 24, 8⟩
def PCTL_UART_RSP_RSP_TMO (i : Nat) : Fld := ⟨0xe0804 + 0x10 * i, 0, 16⟩
def PCTL_IOL_CFG_EN (i : Nat) : Fld := ⟨0xe1000 + 0x10 * i, 31, 1⟩
def PCTL_IOL_CFG_RAW (i : Nat) : Fld := ⟨0xe1000 + 0x10 * i, 30, 1⟩
def PCTL_IOL_CFG_MODE (i : Nat) : Fld := ⟨0xe1000 + 0x10 * i, 25, 3⟩
def PCTL_IOL_CFG_CHECK (i : Nat) : Fld := ⟨0xe1000 + 0x10 * i, 23, 2⟩
def PCTL_IOL_CFG_CYCLE (i : Nat) : Fld := ⟨0xe1000 + 0x10 * i, 16, 7⟩
def PCTL_IOL_FMT_IN_EN (i : Nat) : Fld := ⟨0xe1004 + 0x10 * i, 31, 1⟩
def PCTL_IOL_FMT_FMT_IN (i : Nat) : Fld := ⟨0xe1004 + 0x10 * i, 16, 9⟩
def PCTL_IOL_FMT_OUT_EN (i : Nat) : Fld := ⟨0xe1004 + 0x10 * i, 15, 1⟩
def PCTL_IOL_FMT_FMT_OUT (i : Nat) : Fld := ⟨0xe1004 + 0x10 * i, 0, 9⟩
def PCTL_IOL_ID_DID_W1 (i : Nat) : Fld := ⟨0xe100c + 0x10 * i, 0, 8⟩
def PCTL_IOL_ID_DID_W0 (i : Nat) : Fld := ⟨0xe1008 + 0x10 * i, 16, 16⟩
def PCTL_IOL_ID_VID (i : Nat) : Fld := ⟨0xe1008 + 0x10 * i, 0, 16⟩
def PCTL_CAN_STAT_BUSOFF (i : Nat) : Fld := ⟨0xe0204 + 0x8 * i, 16, 16⟩
def PCTL_CAN_STAT_NBR_DET (i : Nat) : Fld := ⟨0xe0204 + 0x8 * i, 0, 16⟩
def PCTL_CAN_STAT_TEC (i : Nat) : Fld := ⟨0xe0200 + 0x8 * i, 24, 8⟩
def PCTL_CAN_STAT_REC (i : Nat) : Fld := ⟨0xe0200 + 0x8 * i, 16, 8⟩
def PCTL_CAN_STAT_STATE (i : Nat) : Fld := ⟨0xe0200 + 0x8 * i, 14, 2⟩
def PCTL_CAN_STAT_ERR (i : Nat) : Fld := ⟨0xe0200 + 0x8 * i, 0, 14⟩
def PCTL_SPE_STAT_LINK_DOWN (i : Nat) : Fld := ⟨0xe0504 + 0x8 * i, 16, 16⟩
def PCTL_SPE_STAT_FCS_ERR (i : Nat) : Fld := ⟨0xe0504 + 0x8 * i, 0, 16⟩
def PCTL_SPE_STAT_LINK (i : Nat) : Fld := ⟨0xe0500 + 0x8 * i, 0, 1⟩
def PCTL_UART_STAT_FRAMING (i : Nat) : Fld := ⟨0xe0c04 + 0x8 * i, 16, 16⟩
def PCTL_UART_STAT_NORSP (i : Nat) : Fld := ⟨0xe0c04 + 0x8 * i, 0, 16⟩
def PCTL_UART_STAT_BAUD_DET (i : Nat) : Fld := ⟨0xe0c00 + 0x8 * i, 0, 22⟩
def PCTL_IOL_STAT_DEV_LOST (i : Nat) : Fld := ⟨0xe1404 + 0x8 * i, 16, 16⟩
def PCTL_IOL_STAT_EVENTS (i : Nat) : Fld := ⟨0xe1404 + 0x8 * i, 0, 16⟩
def PCTL_IOL_STAT_STATE (i : Nat) : Fld := ⟨0xe1400 + 0x8 * i, 29, 3⟩
def PCTL_IOL_STAT_COM_DET (i : Nat) : Fld := ⟨0xe1400 + 0x8 * i, 27, 2⟩
def PCTL_PORT_DROP (i : Nat) : Fld := ⟨0xe1800 + 0x4 * i, 16, 16⟩
def PCTL_PORT_BUS1 (i : Nat) : Fld := ⟨0xe1800 + 0x4 * i, 12, 4⟩
def PCTL_PORT_BUS0 (i : Nat) : Fld := ⟨0xe1800 + 0x4 * i, 8, 4⟩
def PCTL_PORT_DEV_SEL (i : Nat) : Fld := ⟨0xe1800 + 0x4 * i, 4, 2⟩
def PCTL_PORT_RAW_OWN (i : Nat) : Fld := ⟨0xe1800 + 0x4 * i, 0, 4⟩
def PCTL_CLAMP_CNT_COUNT : Fld := ⟨0xe1900, 0, 16⟩
def PCTL_CMD_OP : Fld := ⟨0xe1a00, 30, 2⟩
def PCTL_CMD_IDX : Fld := ⟨0xe1a00, 0, 6⟩
def PCTL_MOBJ_PERIOD (i : Nat) : Fld := ⟨0xe800c + 0x10 * i, 16, 16⟩
def PCTL_MOBJ_ADDR_W3 (i : Nat) : Fld := ⟨0xe800c + 0x10 * i, 0, 16⟩
def PCTL_MOBJ_ADDR_W2 (i : Nat) : Fld := ⟨0xe8008 + 0x10 * i, 0, 32⟩
def PCTL_MOBJ_MATCH (i : Nat) : Fld := ⟨0xe8004 + 0x10 * i, 0, 32⟩
def PCTL_MOBJ_VALID (i : Nat) : Fld := ⟨0xe8000 + 0x10 * i, 31, 1⟩
def PCTL_MOBJ_DIR (i : Nat) : Fld := ⟨0xe8000 + 0x10 * i, 30, 1⟩
def PCTL_MOBJ_ONCHG (i : Nat) : Fld := ⟨0xe8000 + 0x10 * i, 29, 1⟩
def PCTL_MOBJ_KIND (i : Nat) : Fld := ⟨0xe8000 + 0x10 * i, 26, 3⟩
def PCTL_MOBJ_IDX (i : Nat) : Fld := ⟨0xe8000 + 0x10 * i, 20, 6⟩
def PCTL_MOBJ_FMT (i : Nat) : Fld := ⟨0xe8000 + 0x10 * i, 0, 9⟩
def ENG_CTRL_OP (i : Nat) : Fld := ⟨0xb0000 + 0x1000 * i, 30, 2⟩
def ENG_CTRL_MASK (i : Nat) : Fld := ⟨0xb0000 + 0x1000 * i, 0, 16⟩
def ENG_STAT_SWAP_PENDING (i : Nat) : Fld := ⟨0xb0004 + 0x1000 * i, 31, 1⟩
def ENG_STAT_ACTIVE_BANK (i : Nat) : Fld := ⟨0xb0004 + 0x1000 * i, 30, 1⟩
def ENG_STAT_RUN (i : Nat) : Fld := ⟨0xb0004 + 0x1000 * i, 0, 16⟩
def ENG_SLOTEN_EN (i : Nat) : Fld := ⟨0xb0008 + 0x1000 * i, 0, 16⟩
def ENG_SLOTMAP_CH_W1 (i : Nat) : Fld := ⟨0xb0014 + 0x1000 * i, 0, 32⟩
def ENG_SLOTMAP_CH_W0 (i : Nat) : Fld := ⟨0xb0010 + 0x1000 * i, 0, 32⟩
def ENG_SWAP_TMO_TMO (i : Nat) : Fld := ⟨0xb0018 + 0x1000 * i, 0, 17⟩
def ENG_START_CFG_TD (i : Nat) : Fld := ⟨0xb0020 + 0x1000 * i, 16, 3⟩
def ENG_START_CFG_MASK (i : Nat) : Fld := ⟨0xb0020 + 0x1000 * i, 0, 16⟩
def ENG_START_T_T_W1 (i : Nat) : Fld := ⟨0xb002c + 0x1000 * i, 0, 32⟩
def ENG_START_T_T_W0 (i : Nat) : Fld := ⟨0xb0028 + 0x1000 * i, 0, 32⟩
def ENG_EVT_VEC_EN (i : Nat) : Fld := ⟨0xb0030 + 0x1000 * i, 31, 1⟩
def ENG_EVT_VEC (i : Nat) : Fld := ⟨0xb0030 + 0x1000 * i, 24, 7⟩
def ENG_EVT_POSTED (i : Nat) : Fld := ⟨0xb0030 + 0x1000 * i, 0, 16⟩
def ENG_CLAMP_CNT_COUNT (i : Nat) : Fld := ⟨0xb003c + 0x1000 * i, 0, 16⟩
def ENG_CH_CFG_EN (i j : Nat) : Fld := ⟨0xb0100 + 0x1000 * i + 0x40 * j, 31, 1⟩
def ENG_CH_CFG_AUTOSTART (i j : Nat) : Fld := ⟨0xb0100 + 0x1000 * i + 0x40 * j, 30, 1⟩
def ENG_CH_CFG_PORT_EN (i j : Nat) : Fld := ⟨0xb0100 + 0x1000 * i + 0x40 * j, 29, 1⟩
def ENG_CH_CFG_PORT (i j : Nat) : Fld := ⟨0xb0100 + 0x1000 * i + 0x40 * j, 22, 6⟩
def ENG_CH_CFG_PIN_BASE (i j : Nat) : Fld := ⟨0xb0100 + 0x1000 * i + 0x40 * j, 20, 2⟩
def ENG_CH_CFG_SIDE_MASK (i j : Nat) : Fld := ⟨0xb0100 + 0x1000 * i + 0x40 * j, 16, 4⟩
def ENG_CH_CFG_IN_DIR (i j : Nat) : Fld := ⟨0xb0100 + 0x1000 * i + 0x40 * j, 15, 1⟩
def ENG_CH_CFG_OUT_DIR (i j : Nat) : Fld := ⟨0xb0100 + 0x1000 * i + 0x40 * j, 14, 1⟩
def ENG_CH_CFG_AUTOPUSH (i j : Nat) : Fld := ⟨0xb0100 + 0x1000 * i + 0x40 * j, 13, 1⟩
def ENG_CH_CFG_AUTOPULL (i j : Nat) : Fld := ⟨0xb0100 + 0x1000 * i + 0x40 * j, 12, 1⟩
def ENG_CH_CFG_PUSH_THR (i j : Nat) : Fld := ⟨0xb0100 + 0x1000 * i + 0x40 * j, 5, 5⟩
def ENG_CH_CFG_PULL_THR (i j : Nat) : Fld := ⟨0xb0100 + 0x1000 * i + 0x40 * j, 0, 5⟩
def ENG_CH_PINS_DIRS_INIT (i j : Nat) : Fld := ⟨0xb0104 + 0x1000 * i + 0x40 * j, 4, 4⟩
def ENG_CH_PINS_PINS_INIT (i j : Nat) : Fld := ⟨0xb0104 + 0x1000 * i + 0x40 * j, 0, 4⟩
def ENG_CH_PROG_ENTRY (i j k : Nat) : Fld := ⟨0xb0108 + 0x1000 * i + 0x40 * j + 0x4 * k, 20, 10⟩
def ENG_CH_PROG_WRAP_TOP (i j k : Nat) : Fld := ⟨0xb0108 + 0x1000 * i + 0x40 * j + 0x4 * k, 10, 10⟩
def ENG_CH_PROG_WRAP_BOT (i j k : Nat) : Fld := ⟨0xb0108 + 0x1000 * i + 0x40 * j + 0x4 * k, 0, 10⟩
def ENG_CH_IDLE_IDLE (i j : Nat) : Fld := ⟨0xb0110 + 0x1000 * i + 0x40 * j, 0, 32⟩
def ENG_CH_FLAG_FLAGS (i j : Nat) : Fld := ⟨0xb0114 + 0x1000 * i + 0x40 * j, 0, 8⟩
def ENG_CH_GRID_PHASE (i j : Nat) : Fld := ⟨0xb011c + 0x1000 * i + 0x40 * j, 0, 32⟩
def ENG_CH_GRID_PERIOD (i j : Nat) : Fld := ⟨0xb0118 + 0x1000 * i + 0x40 * j, 0, 32⟩
def ENG_CH_STAT_PC (i j : Nat) : Fld := ⟨0xb0120 + 0x1000 * i + 0x40 * j, 22, 10⟩
def ENG_CH_STAT_BANK (i j : Nat) : Fld := ⟨0xb0120 + 0x1000 * i + 0x40 * j, 21, 1⟩
def ENG_CH_STAT_STATE (i j : Nat) : Fld := ⟨0xb0120 + 0x1000 * i + 0x40 * j, 19, 2⟩
def ENG_CH_STAT_TX_LVL (i j : Nat) : Fld := ⟨0xb0120 + 0x1000 * i + 0x40 * j, 13, 6⟩
def ENG_CH_STAT_RX_LVL (i j : Nat) : Fld := ⟨0xb0120 + 0x1000 * i + 0x40 * j, 7, 6⟩
def ENG_CH_STAT_PINS (i j : Nat) : Fld := ⟨0xb0120 + 0x1000 * i + 0x40 * j, 0, 4⟩
def ENG_CH_ERR_TX_UNDERRUN (i j : Nat) : Fld := ⟨0xb0124 + 0x1000 * i + 0x40 * j, 31, 1⟩
def ENG_CH_ERR_RX_OVERRUN (i j : Nat) : Fld := ⟨0xb0124 + 0x1000 * i + 0x40 * j, 30, 1⟩
def ENG_CH_ERR_ABORTED_SHIFT (i j : Nat) : Fld := ⟨0xb0124 + 0x1000 * i + 0x40 * j, 29, 1⟩
def ENG_CH_ERR_BAD_INSN (i j : Nat) : Fld := ⟨0xb0124 + 0x1000 * i + 0x40 * j, 28, 1⟩
def ENG_CH_ERR_ECC (i j : Nat) : Fld := ⟨0xb0124 + 0x1000 * i + 0x40 * j, 27, 1⟩
def ENG_CH_ERR_TW_LATE (i j : Nat) : Fld := ⟨0xb0124 + 0x1000 * i + 0x40 * j, 26, 1⟩
def ENG_CH_ERR_BAD_PC (i j : Nat) : Fld := ⟨0xb0124 + 0x1000 * i + 0x40 * j, 0, 10⟩
def ENG_CH_CNT_TX_DROP (i j : Nat) : Fld := ⟨0xb0128 + 0x1000 * i + 0x40 * j, 16, 16⟩
def ENG_CH_CNT_RX_SKIP (i j : Nat) : Fld := ⟨0xb0128 + 0x1000 * i + 0x40 * j, 0, 16⟩
def BRG_RNG_CFG_VALID (i : Nat) : Fld := ⟨0x91000 + 0x10 * i, 31, 1⟩
def BRG_RNG_CFG_SE_FREE (i : Nat) : Fld := ⟨0x91000 + 0x10 * i, 30, 1⟩
def BRG_RNG_CFG_POLICY (i : Nat) : Fld := ⟨0x91000 + 0x10 * i, 28, 2⟩
def BRG_RNG_CFG_LOCK_OK (i : Nat) : Fld := ⟨0x91000 + 0x10 * i, 27, 1⟩
def BRG_RNG_CFG_PF_LINES (i : Nat) : Fld := ⟨0x91000 + 0x10 * i, 22, 4⟩
def BRG_RNG_CFG_AGE (i : Nat) : Fld := ⟨0x91000 + 0x10 * i, 14, 8⟩
def BRG_RNG_CFG_SPACE (i : Nat) : Fld := ⟨0x91000 + 0x10 * i, 0, 14⟩
def BRG_RNG_LO_LO (i : Nat) : Fld := ⟨0x91004 + 0x10 * i, 0, 32⟩
def BRG_RNG_HI_HI (i : Nat) : Fld := ⟨0x91008 + 0x10 * i, 0, 32⟩
def BRG_LOCK_CFG_BACKOFF : Fld := ⟨0x90000, 0, 17⟩
def BRG_CMD_FLUSH : Fld := ⟨0x90004, 0, 1⟩
def BRG_PF_CNT_HIT : Fld := ⟨0x90008, 16, 16⟩
def BRG_PF_CNT_DISC : Fld := ⟨0x90008, 0, 16⟩
def BRG_POST_CNT_FAIL : Fld := ⟨0x9000c, 0, 16⟩
def BRG_POST_FAIL_FA_W1 : Fld := ⟨0x90014, 0, 32⟩
def BRG_POST_FAIL_FA_W0 : Fld := ⟨0x90010, 0, 32⟩
def BRG_LOCK_CNT_CONFLICT : Fld := ⟨0x90018, 16, 16⟩
def BRG_LOCK_CNT_EXPIRED : Fld := ⟨0x90018, 0, 16⟩
def BRG_CLAMP_CNT_COUNT : Fld := ⟨0x9001c, 0, 16⟩
def BRG_LOCK_STAT_HELD (i : Nat) : Fld := ⟨0x90104 + 0x8 * i, 31, 1⟩
def BRG_LOCK_STAT_NODE (i : Nat) : Fld := ⟨0x90104 + 0x8 * i, 12, 18⟩
def BRG_LOCK_STAT_TN (i : Nat) : Fld := ⟨0x90104 + 0x8 * i, 8, 4⟩
def BRG_LOCK_STAT_LOCK_ID_W1 (i : Nat) : Fld := ⟨0x90104 + 0x8 * i, 0, 8⟩
def BRG_LOCK_STAT_LOCK_ID_W0 (i : Nat) : Fld := ⟨0x90100 + 0x8 * i, 24, 8⟩
def BRG_LOCK_STAT_REMAIN (i : Nat) : Fld := ⟨0x90100 + 0x8 * i, 0, 17⟩
def BRG_TUN_CFG_VALID (i : Nat) : Fld := ⟨0x93000 + 0x20 * i, 31, 1⟩
def BRG_TUN_CFG_DIR (i : Nat) : Fld := ⟨0x93000 + 0x20 * i, 30, 1⟩
def BRG_TUN_CFG_REPLAY (i : Nat) : Fld := ⟨0x93000 + 0x20 * i, 29, 1⟩
def BRG_TUN_CFG_TD (i : Nat) : Fld := ⟨0x93000 + 0x20 * i, 26, 3⟩
def BRG_TUN_CFG_KIND (i : Nat) : Fld := ⟨0x93000 + 0x20 * i, 23, 3⟩
def BRG_TUN_CFG_PAIR (i : Nat) : Fld := ⟨0x93000 + 0x20 * i, 22, 1⟩
def BRG_TUN_CFG_PORT (i : Nat) : Fld := ⟨0x93000 + 0x20 * i, 16, 6⟩
def BRG_TUN_CFG_TID (i : Nat) : Fld := ⟨0x93000 + 0x20 * i, 8, 8⟩
def BRG_TUN_CFG_TC (i : Nat) : Fld := ⟨0x93000 + 0x20 * i, 5, 3⟩
def BRG_TUN_NODE_NODE (i : Nat) : Fld := ⟨0x93004 + 0x20 * i, 0, 18⟩
def BRG_TUN_MATCH_MATCH (i : Nat) : Fld := ⟨0x93008 + 0x20 * i, 0, 32⟩
def BRG_TUN_MASK_MASK (i : Nat) : Fld := ⟨0x9300c + 0x20 * i, 0, 32⟩
def BRG_TUN_LAT_LATENCY (i : Nat) : Fld := ⟨0x93010 + 0x20 * i, 0, 27⟩
def BRG_TUN_CNT_LATE (i : Nat) : Fld := ⟨0x93014 + 0x20 * i, 16, 16⟩
def BRG_TUN_CNT_DROP (i : Nat) : Fld := ⟨0x93014 + 0x20 * i, 0, 16⟩
def BRG_TUN_SEQ_GAPS (i : Nat) : Fld := ⟨0x93018 + 0x20 * i, 16, 16⟩
def BRG_TUN_SEQ_NEXT (i : Nat) : Fld := ⟨0x93018 + 0x20 * i, 0, 16⟩
def SW_STAT_RETIRED : Fld := ⟨0x80000, 16, 16⟩
def SW_STAT_MODE : Fld := ⟨0x80000, 0, 2⟩
def SW_FREE_FREE : Fld := ⟨0x80004, 0, 17⟩
def SW_AUDIT_RECLAIMED : Fld := ⟨0x80008, 16, 16⟩
def SW_AUDIT_CROSSLINK : Fld := ⟨0x80008, 0, 16⟩
def SW_CLAMP_CNT_COUNT : Fld := ⟨0x8000c, 0, 16⟩
def SW_IN_CNT_DROP (i : Nat) : Fld := ⟨0x80100 + 0x4 * i, 16, 16⟩
def SW_IN_CNT_HOLD (i : Nat) : Fld := ⟨0x80100 + 0x4 * i, 0, 16⟩
def SW_OQ_CFG_WEIGHT (i : Nat) : Fld := ⟨0x81000 + 0x10 * i, 24, 8⟩
def SW_OQ_CFG_MIN (i : Nat) : Fld := ⟨0x81000 + 0x10 * i, 0, 8⟩
def SW_OQ_LIM_CE_THR (i : Nat) : Fld := ⟨0x81004 + 0x10 * i, 16, 16⟩
def SW_OQ_LIM_MAX (i : Nat) : Fld := ⟨0x81004 + 0x10 * i, 0, 16⟩
def SW_OQ_STAT_PEAK (i : Nat) : Fld := ⟨0x81008 + 0x10 * i, 16, 16⟩
def SW_OQ_STAT_DEPTH (i : Nat) : Fld := ⟨0x81008 + 0x10 * i, 0, 16⟩
def SW_OQ_CNT_MARKED (i : Nat) : Fld := ⟨0x8100c + 0x10 * i, 16, 16⟩
def SW_OQ_CNT_REFUSED (i : Nat) : Fld := ⟨0x8100c + 0x10 * i, 0, 16⟩
def RFX_CFG_EN : Fld := ⟨0xa0000, 31, 1⟩
def RFX_CFG_REM_WAIT : Fld := ⟨0xa0000, 0, 10⟩
def RFX_STAT_LAST_NS : Fld := ⟨0xa0004, 16, 16⟩
def RFX_STAT_ROWS : Fld := ⟨0xa0004, 0, 13⟩
def RFX_CNT_OVERRUN : Fld := ⟨0xa0008, 16, 16⟩
def RFX_CNT_REM_MISS : Fld := ⟨0xa0008, 0, 16⟩
def RFX_CLAMP_CNT_COUNT : Fld := ⟨0xa000c, 0, 16⟩
def RFX_TBL_STAT_ARMED3 : Fld := ⟨0xa0010, 31, 1⟩
def RFX_TBL_STAT_SYNCING3 : Fld := ⟨0xa0010, 30, 1⟩
def RFX_TBL_STAT_GEN3 : Fld := ⟨0xa0010, 24, 6⟩
def RFX_TBL_STAT_ARMED2 : Fld := ⟨0xa0010, 23, 1⟩
def RFX_TBL_STAT_SYNCING2 : Fld := ⟨0xa0010, 22, 1⟩
def RFX_TBL_STAT_GEN2 : Fld := ⟨0xa0010, 16, 6⟩
def RFX_TBL_STAT_ARMED1 : Fld := ⟨0xa0010, 15, 1⟩
def RFX_TBL_STAT_SYNCING1 : Fld := ⟨0xa0010, 14, 1⟩
def RFX_TBL_STAT_GEN1 : Fld := ⟨0xa0010, 8, 6⟩
def RFX_TBL_STAT_ARMED0 : Fld := ⟨0xa0010, 7, 1⟩
def RFX_TBL_STAT_SYNCING0 : Fld := ⟨0xa0010, 6, 1⟩
def RFX_TBL_STAT_GEN0 : Fld := ⟨0xa0010, 0, 6⟩
def RFX_SM_STATE_STEPS (i : Nat) : Fld := ⟨0xa0400 + 0x4 * i, 16, 16⟩
def RFX_SM_STATE_VALID (i : Nat) : Fld := ⟨0xa0400 + 0x4 * i, 6, 1⟩
def RFX_SM_STATE_STATE (i : Nat) : Fld := ⟨0xa0400 + 0x4 * i, 0, 6⟩
def RFX_ROP_VALID (i : Nat) : Fld := ⟨0xa0804 + 0x8 * i, 31, 1⟩
def RFX_ROP_NODE (i : Nat) : Fld := ⟨0xa0804 + 0x8 * i, 0, 18⟩
def RFX_ROP_POINT (i : Nat) : Fld := ⟨0xa0800 + 0x8 * i, 0, 16⟩
def TWIN_CFG_EN : Fld := ⟨0x60000, 31, 1⟩
def TWIN_CFG_FORM_TMO : Fld := ⟨0x60000, 0, 16⟩
def TWIN_PEER_SERIAL_W3 : Fld := ⟨0x6001c, 0, 32⟩
def TWIN_PEER_SERIAL_W2 : Fld := ⟨0x60018, 0, 32⟩
def TWIN_PEER_SERIAL_W1 : Fld := ⟨0x60014, 0, 32⟩
def TWIN_PEER_SERIAL_W0 : Fld := ⟨0x60010, 0, 32⟩
def TWIN_STAT_ROLE : Fld := ⟨0x60020, 30, 2⟩
def TWIN_STAT_PAIR : Fld := ⟨0x60020, 27, 3⟩
def TWIN_STAT_LAGGING : Fld := ⟨0x60020, 26, 1⟩
def TWIN_STAT_DEGRADED : Fld := ⟨0x60020, 25, 1⟩
def TWIN_DELTA_BYTES : Fld := ⟨0x60024, 0, 32⟩
def TWIN_DELTA_T_TIME : Fld := ⟨0x60028, 0, 27⟩
def TWIN_CNT_TAKEOVERS : Fld := ⟨0x6002c, 16, 16⟩
def TWIN_CNT_LAGGED : Fld := ⟨0x6002c, 0, 16⟩
def TWIN_CMP_CNT_ROW : Fld := ⟨0x60030, 16, 16⟩
def TWIN_CMP_CNT_CHANNEL : Fld := ⟨0x60030, 8, 8⟩
def TWIN_CMP_CNT_INPUT : Fld := ⟨0x60030, 0, 8⟩
def TWIN_CMD_OP : Fld := ⟨0x60034, 30, 2⟩
def TWIN_PULSE_START : Fld := ⟨0x60040, 31, 1⟩
def TWIN_PULSE_DUR : Fld := ⟨0x60040, 16, 8⟩
def TWIN_PULSE_POINT : Fld := ⟨0x60040, 0, 16⟩
def TWIN_PULSE_STAT_RESULT : Fld := ⟨0x60044, 30, 2⟩
def TWIN_PULSE_STAT_BUSY : Fld := ⟨0x60044, 29, 1⟩
def TWIN_PULSE_STAT_POINT : Fld := ⟨0x60044, 0, 16⟩
def SEC_CFG_IDE_REQ : Fld := ⟨0xf0000, 31, 1⟩
def SEC_CFG_DEBUG_PEER_OK : Fld := ⟨0xf0000, 30, 1⟩
def SEC_CFG_REKEY_MIN : Fld := ⟨0xf0000, 16, 6⟩
def SEC_CFG_MIN_SVN : Fld := ⟨0xf0000, 0, 16⟩
def SEC_STAT_OWNED : Fld := ⟨0xf0004, 31, 1⟩
def SEC_STAT_OWNER_LOCK : Fld := ⟨0xf0004, 30, 1⟩
def SEC_STAT_DEBUG : Fld := ⟨0xf0004, 29, 1⟩
def SEC_STAT_DEBUG_NEXT : Fld := ⟨0xf0004, 28, 1⟩
def SEC_STAT_TAMPER : Fld := ⟨0xf0004, 27, 1⟩
def SEC_STAT_DRBG_OK : Fld := ⟨0xf0004, 26, 1⟩
def SEC_STAT_FW_SVN : Fld := ⟨0xf0004, 0, 16⟩
def SEC_MBX_CMD_OP : Fld := ⟨0xf0008, 24, 8⟩
def SEC_MBX_CMD_LEN : Fld := ⟨0xf0008, 0, 15⟩
def SEC_MBX_STAT_STATE : Fld := ⟨0xf000c, 30, 2⟩
def SEC_MBX_STAT_RESULT : Fld := ⟨0xf000c, 16, 8⟩
def SEC_MBX_STAT_LEN : Fld := ⟨0xf000c, 0, 15⟩
def SEC_MGMT_VALID (i : Nat) : Fld := ⟨0xf0010 + 0x4 * i, 31, 1⟩
def SEC_MGMT_NODE (i : Nat) : Fld := ⟨0xf0010 + 0x4 * i, 4, 18⟩
def SEC_MGMT_TENANT (i : Nat) : Fld := ⟨0xf0010 + 0x4 * i, 0, 4⟩
def SEC_TEN_TKEY_REQ (i : Nat) : Fld := ⟨0xf0040 + 0x4 * i, 31, 1⟩
def SEC_TEN_PROVEN (i : Nat) : Fld := ⟨0xf0040 + 0x4 * i, 30, 1⟩
def SEC_TEN_KEY_DIGEST_W11 (i : Nat) : Fld := ⟨0xf012c + 0x40 * i, 0, 32⟩
def SEC_TEN_KEY_DIGEST_W10 (i : Nat) : Fld := ⟨0xf0128 + 0x40 * i, 0, 32⟩
def SEC_TEN_KEY_DIGEST_W9 (i : Nat) : Fld := ⟨0xf0124 + 0x40 * i, 0, 32⟩
def SEC_TEN_KEY_DIGEST_W8 (i : Nat) : Fld := ⟨0xf0120 + 0x40 * i, 0, 32⟩
def SEC_TEN_KEY_DIGEST_W7 (i : Nat) : Fld := ⟨0xf011c + 0x40 * i, 0, 32⟩
def SEC_TEN_KEY_DIGEST_W6 (i : Nat) : Fld := ⟨0xf0118 + 0x40 * i, 0, 32⟩
def SEC_TEN_KEY_DIGEST_W5 (i : Nat) : Fld := ⟨0xf0114 + 0x40 * i, 0, 32⟩
def SEC_TEN_KEY_DIGEST_W4 (i : Nat) : Fld := ⟨0xf0110 + 0x40 * i, 0, 32⟩
def SEC_TEN_KEY_DIGEST_W3 (i : Nat) : Fld := ⟨0xf010c + 0x40 * i, 0, 32⟩
def SEC_TEN_KEY_DIGEST_W2 (i : Nat) : Fld := ⟨0xf0108 + 0x40 * i, 0, 32⟩
def SEC_TEN_KEY_DIGEST_W1 (i : Nat) : Fld := ⟨0xf0104 + 0x40 * i, 0, 32⟩
def SEC_TEN_KEY_DIGEST_W0 (i : Nat) : Fld := ⟨0xf0100 + 0x40 * i, 0, 32⟩
def SEC_PEER_OWNER_DIGEST_W11 (i : Nat) : Fld := ⟨0xf052c + 0x40 * i, 0, 32⟩
def SEC_PEER_OWNER_DIGEST_W10 (i : Nat) : Fld := ⟨0xf0528 + 0x40 * i, 0, 32⟩
def SEC_PEER_OWNER_DIGEST_W9 (i : Nat) : Fld := ⟨0xf0524 + 0x40 * i, 0, 32⟩
def SEC_PEER_OWNER_DIGEST_W8 (i : Nat) : Fld := ⟨0xf0520 + 0x40 * i, 0, 32⟩
def SEC_PEER_OWNER_DIGEST_W7 (i : Nat) : Fld := ⟨0xf051c + 0x40 * i, 0, 32⟩
def SEC_PEER_OWNER_DIGEST_W6 (i : Nat) : Fld := ⟨0xf0518 + 0x40 * i, 0, 32⟩
def SEC_PEER_OWNER_DIGEST_W5 (i : Nat) : Fld := ⟨0xf0514 + 0x40 * i, 0, 32⟩
def SEC_PEER_OWNER_DIGEST_W4 (i : Nat) : Fld := ⟨0xf0510 + 0x40 * i, 0, 32⟩
def SEC_PEER_OWNER_DIGEST_W3 (i : Nat) : Fld := ⟨0xf050c + 0x40 * i, 0, 32⟩
def SEC_PEER_OWNER_DIGEST_W2 (i : Nat) : Fld := ⟨0xf0508 + 0x40 * i, 0, 32⟩
def SEC_PEER_OWNER_DIGEST_W1 (i : Nat) : Fld := ⟨0xf0504 + 0x40 * i, 0, 32⟩
def SEC_PEER_OWNER_DIGEST_W0 (i : Nat) : Fld := ⟨0xf0500 + 0x40 * i, 0, 32⟩
def VLT_TAMPER_CFG_LID_EN : Fld := ⟨0x100000, 31, 1⟩
def VLT_TAMPER_STAT_SOURCE : Fld := ⟨0x100004, 0, 4⟩
def VLT_TAMPER_TIME_TIME_W1 : Fld := ⟨0x10000c, 0, 32⟩
def VLT_TAMPER_TIME_TIME_W0 : Fld := ⟨0x100008, 0, 32⟩
def ID_BOOT_STAT_MODE : Fld := ⟨0x100, 30, 2⟩
def ID_BOOT_STAT_FW_SLOT : Fld := ⟨0x100, 29, 1⟩
def ID_BOOT_STAT_BND_SLOT : Fld := ⟨0x100, 28, 1⟩
def ID_BOOT_STAT_BND_ZERO : Fld := ⟨0x100, 27, 1⟩
def ID_BOOT_STAT_READY : Fld := ⟨0x100, 26, 1⟩
def ID_BOOT_STAT_FW0 : Fld := ⟨0x100, 22, 2⟩
def ID_BOOT_STAT_FW1 : Fld := ⟨0x100, 20, 2⟩
def ID_BOOT_STAT_BND0 : Fld := ⟨0x100, 18, 2⟩
def ID_BOOT_STAT_BND1 : Fld := ⟨0x100, 16, 2⟩
def ID_BOOT_STAT_CAUSE : Fld := ⟨0x100, 8, 8⟩
def ID_BOOT_TIME_TIME : Fld := ⟨0x104, 0, 32⟩
def ID_BOOT_CMD_OP : Fld := ⟨0x108, 30, 2⟩
def ID_UPD_CFG_VBAT_CHK : Fld := ⟨0x10c, 31, 1⟩
def ID_UPD_STAT_FW_STG : Fld := ⟨0x110, 30, 2⟩
def ID_UPD_STAT_BND_STG : Fld := ⟨0x110, 28, 2⟩
def ID_UPD_STAT_REFUSE : Fld := ⟨0x110, 24, 4⟩
def ID_UPD_STAT_REASON : Fld := ⟨0x110, 16, 8⟩
def ID_RCV_CMD_GO : Fld := ⟨0x120, 31, 1⟩
def ID_RCV_CMD_LAST : Fld := ⟨0x120, 30, 1⟩
def ID_RCV_CMD_LEN : Fld := ⟨0x120, 0, 15⟩
def ID_RCV_OFS_OFS : Fld := ⟨0x124, 0, 32⟩
def ID_RCV_TOTAL_TOTAL : Fld := ⟨0x128, 0, 32⟩
def ID_RCV_STAT_STATE : Fld := ⟨0x12c, 30, 2⟩
def ID_RCV_STAT_REASON : Fld := ⟨0x12c, 16, 8⟩
def ID_RCV_SERVE_START : Fld := ⟨0x130, 31, 1⟩
def ID_RCV_SERVE_PORT : Fld := ⟨0x130, 28, 3⟩
def ID_RCV_SERVE_SLOT : Fld := ⟨0x130, 27, 1⟩
def ID_RCV_SERVE_STATE : Fld := ⟨0x130, 24, 2⟩
def VLT_FW_CTR_CTR : Fld := ⟨0x100010, 0, 32⟩
def VLT_BND_CTR_CTR : Fld := ⟨0x100014, 0, 32⟩
def VLT_RCV_PEER_SERIAL_W3 (i : Nat) : Fld := ⟨0x10002c + 0x10 * i, 0, 32⟩
def VLT_RCV_PEER_SERIAL_W2 (i : Nat) : Fld := ⟨0x100028 + 0x10 * i, 0, 32⟩
def VLT_RCV_PEER_SERIAL_W1 (i : Nat) : Fld := ⟨0x100024 + 0x10 * i, 0, 32⟩
def VLT_RCV_PEER_SERIAL_W0 (i : Nat) : Fld := ⟨0x100020 + 0x10 * i, 0, 32⟩
def FLT_STATUS_REPEAT : Fld := ⟨0x30004, 31, 1⟩
def FLT_STATUS_SRC_W1 : Fld := ⟨0x30004, 0, 17⟩
def FLT_STATUS_SRC_W0 : Fld := ⟨0x30000, 0, 32⟩
def FLT_MASK_C_ERR_W1 : Fld := ⟨0x3000c, 0, 17⟩
def FLT_MASK_C_ERR_W0 : Fld := ⟨0x30008, 0, 32⟩
def FLT_ESC_U_ESC_W1 : Fld := ⟨0x30014, 0, 17⟩
def FLT_ESC_U_ESC_W0 : Fld := ⟨0x30010, 0, 32⟩
def FLT_SAFE_SAFE : Fld := ⟨0x30018, 31, 1⟩
def FLT_SAFE_EXIT_REFUSED : Fld := ⟨0x30018, 30, 1⟩
def FLT_SAFE_CMD : Fld := ⟨0x30018, 28, 2⟩
def FLT_SAFE_CAUSE : Fld := ⟨0x30018, 0, 8⟩
def FLT_SRC_DETAIL (i : Nat) : Fld := ⟨0x3010c + 0x10 * i, 0, 32⟩
def FLT_SRC_CLASS (i : Nat) : Fld := ⟨0x30108 + 0x10 * i, 24, 2⟩
def FLT_SRC_REPEAT (i : Nat) : Fld := ⟨0x30108 + 0x10 * i, 0, 8⟩
def FLT_SRC_FIRST_W1 (i : Nat) : Fld := ⟨0x30104 + 0x10 * i, 0, 32⟩
def FLT_SRC_FIRST_W0 (i : Nat) : Fld := ⟨0x30100 + 0x10 * i, 0, 32⟩
def FLT_LOG_RD_GO : Fld := ⟨0x30024, 31, 1⟩
def FLT_LOG_RD_LOG : Fld := ⟨0x30024, 30, 1⟩
def FLT_LOG_RD_SEQ : Fld := ⟨0x30020, 0, 32⟩
def FLT_LOG_RDSTAT_STATE : Fld := ⟨0x3002c, 30, 2⟩
def FLT_LOG_RDSTAT_COUNT : Fld := ⟨0x3002c, 0, 8⟩
def FLT_LOG_RDSTAT_FIRST : Fld := ⟨0x30028, 0, 32⟩
def FLT_LOG_SEQ_NEXT (i : Nat) : Fld := ⟨0x30034 + 0x8 * i, 0, 32⟩
def FLT_LOG_SEQ_OLDEST (i : Nat) : Fld := ⟨0x30030 + 0x8 * i, 0, 32⟩
def FLT_LOG_LOST_AUDIT : Fld := ⟨0x30040, 16, 16⟩
def FLT_LOG_LOST_FAULT : Fld := ⟨0x30040, 0, 16⟩
def PWR_STAT_STATE : Fld := ⟨0x20000, 30, 2⟩
def PWR_STAT_OP : Fld := ⟨0x20000, 28, 2⟩
def PWR_STAT_DVFS_BUSY : Fld := ⟨0x20000, 27, 1⟩
def PWR_STAT_ON_OSC : Fld := ⟨0x20000, 26, 1⟩
def PWR_STAT_RAILS_GOOD : Fld := ⟨0x20000, 25, 1⟩
def PWR_STAT_SEATED : Fld := ⟨0x20000, 24, 1⟩
def PWR_STAT_FIELD_OK : Fld := ⟨0x20000, 23, 1⟩
def PWR_STAT_ON : Fld := ⟨0x20000, 19, 4⟩
def PWR_STAT_PRES : Fld := ⟨0x20000, 15, 4⟩
def PWR_CFG_EXPECT : Fld := ⟨0x20004, 28, 4⟩
def PWR_CFG_AUTO_PLL : Fld := ⟨0x20004, 27, 1⟩
def PWR_SEAT_CFG_DB : Fld := ⟨0x20008, 0, 8⟩
def PWR_FEED_V_B : Fld := ⟨0x20010, 16, 16⟩
def PWR_FEED_V_A : Fld := ⟨0x20010, 0, 16⟩
def PWR_FPIN_V_B : Fld := ⟨0x20014, 16, 16⟩
def PWR_FPIN_V_A : Fld := ⟨0x20014, 0, 16⟩
def PWR_FEED_I_B : Fld := ⟨0x20018, 16, 16⟩
def PWR_FEED_I_A : Fld := ⟨0x20018, 0, 16⟩
def PWR_FPIN_I_B : Fld := ⟨0x2001c, 16, 16⟩
def PWR_FPIN_I_A : Fld := ⟨0x2001c, 0, 16⟩
def PWR_BRK_CFG_RETRY (i : Nat) : Fld := ⟨0x20020 + 0x4 * i, 22, 10⟩
def PWR_BRK_CFG_FAULT_T (i : Nat) : Fld := ⟨0x20020 + 0x4 * i, 8, 14⟩
def PWR_BRK_CFG_LIMIT (i : Nat) : Fld := ⟨0x20020 + 0x4 * i, 0, 7⟩
def PWR_BRK_STAT_TRIP (i : Nat) : Fld := ⟨0x20030 + 0x4 * i, 31, 1⟩
def PWR_BRK_STAT_ARMED (i : Nat) : Fld := ⟨0x20030 + 0x4 * i, 30, 1⟩
def PWR_BRK_STAT_ON (i : Nat) : Fld := ⟨0x20030 + 0x4 * i, 29, 1⟩
def PWR_BRK_STAT_CAUSE (i : Nat) : Fld := ⟨0x20030 + 0x4 * i, 26, 3⟩
def PWR_BRK_STAT_TEMP (i : Nat) : Fld := ⟨0x20030 + 0x4 * i, 16, 8⟩
def PWR_BRK_STAT_TRIPS (i : Nat) : Fld := ⟨0x20030 + 0x4 * i, 0, 16⟩
def PWR_WAKE_EN_FEED : Fld := ⟨0x20040, 4, 1⟩
def PWR_WAKE_EN_TIMER : Fld := ⟨0x20040, 3, 1⟩
def PWR_WAKE_EN_RING : Fld := ⟨0x20040, 2, 1⟩
def PWR_WAKE_EN_PCIE : Fld := ⟨0x20040, 1, 1⟩
def PWR_WAKE_EN_WAKE_N : Fld := ⟨0x20040, 0, 1⟩
def PWR_WAKE_SRC_DURING_ENTRY : Fld := ⟨0x20044, 8, 1⟩
def PWR_WAKE_SRC_SRC : Fld := ⟨0x20044, 0, 5⟩
def PWR_RET_STAT_COUNT : Fld := ⟨0x20048, 16, 16⟩
def PWR_RET_STAT_RELOAD : Fld := ⟨0x20048, 8, 8⟩
def PWR_RET_STAT_FAILED : Fld := ⟨0x20048, 0, 8⟩
def PWR_CLAMP_CNT_COUNT : Fld := ⟨0x2004c, 0, 16⟩
def VLT_TIMER_TICKS_W1 : Fld := ⟨0x100044, 0, 32⟩
def VLT_TIMER_TICKS_W0 : Fld := ⟨0x100040, 0, 32⟩
def VLT_WAKE_T_ALARM_W1 : Fld := ⟨0x10004c, 0, 32⟩
def VLT_WAKE_T_ALARM_W0 : Fld := ⟨0x100048, 0, 32⟩
def CLK_CFG_REF_SEL : Fld := ⟨0x10000, 31, 1⟩
def CLK_CFG_FREQ : Fld := ⟨0x10000, 26, 2⟩
def CLK_CFG_OSC_START_DLY : Fld := ⟨0x10000, 0, 10⟩
def CLK_STATUS_REF_ACT : Fld := ⟨0x10004, 24, 1⟩
def CLK_STATUS_LOCK : Fld := ⟨0x10004, 16, 2⟩
def CLK_STATUS_RUN : Fld := ⟨0x10004, 0, 7⟩
def CLK_GATE_PLL_B_EN : Fld := ⟨0x10008, 1, 1⟩
def CLK_GATE_REFCLK_EN : Fld := ⟨0x10008, 0, 1⟩
def CLK_ISL_EN (i : Nat) : Fld := ⟨0x10100 + 0x4 * i, 31, 1⟩
def CLK_ISL_SEL (i : Nat) : Fld := ⟨0x10100 + 0x4 * i, 30, 1⟩
def CLK_ISL_PENDING (i : Nat) : Fld := ⟨0x10100 + 0x4 * i, 29, 1⟩
def CLK_ISL_FORCED (i : Nat) : Fld := ⟨0x10100 + 0x4 * i, 28, 1⟩
def CLK_ISL_CUR (i : Nat) : Fld := ⟨0x10100 + 0x4 * i, 0, 3⟩
def CLK_FCNT_CFG_GO : Fld := ⟨0x10020, 31, 1⟩
def CLK_FCNT_CFG_TGT : Fld := ⟨0x10020, 24, 6⟩
def CLK_FCNT_CFG_REF : Fld := ⟨0x10020, 18, 6⟩
def CLK_FCNT_WIN_WINDOW : Fld := ⟨0x10024, 0, 20⟩
def CLK_FCNT_STAT_STATE : Fld := ⟨0x10028, 30, 2⟩
def CLK_FCNT_TGT_COUNT : Fld := ⟨0x1002c, 0, 32⟩
def CLK_FCNT_REF_COUNT : Fld := ⟨0x10030, 0, 32⟩
def CLK_CNT_FORCED : Fld := ⟨0x10034, 16, 16⟩
def CLK_CNT_REFUSED : Fld := ⟨0x10034, 0, 16⟩
def CLK_CLAMP_CNT_COUNT : Fld := ⟨0x10038, 0, 16⟩
def ID_PART_GRADE : Fld := ⟨0x0, 24, 8⟩
def ID_PART_STEP : Fld := ⟨0x0, 16, 8⟩
def ID_PART_PART : Fld := ⟨0x0, 0, 16⟩
def ID_CAP_RING_PORTS : Fld := ⟨0x4, 24, 8⟩
def ID_CAP_TENANTS : Fld := ⟨0x4, 16, 8⟩
def ID_CAP_ENGINES : Fld := ⟨0x4, 8, 8⟩
def ID_CAP_PORTS : Fld := ⟨0x4, 0, 8⟩
def ID_SERIAL_SERIAL_W3 : Fld := ⟨0x14, 0, 32⟩
def ID_SERIAL_SERIAL_W2 : Fld := ⟨0x10, 0, 32⟩
def ID_SERIAL_SERIAL_W1 : Fld := ⟨0xc, 0, 32⟩
def ID_SERIAL_SERIAL_W0 : Fld := ⟨0x8, 0, 32⟩
def ID_FW_SVN_SVN : Fld := ⟨0x18, 0, 32⟩
def ID_BND_SVN_SVN : Fld := ⟨0x1c, 0, 32⟩
def ID_FW_DIGEST_DIGEST_W11 : Fld := ⟨0x4c, 0, 32⟩
def ID_FW_DIGEST_DIGEST_W10 : Fld := ⟨0x48, 0, 32⟩
def ID_FW_DIGEST_DIGEST_W9 : Fld := ⟨0x44, 0, 32⟩
def ID_FW_DIGEST_DIGEST_W8 : Fld := ⟨0x40, 0, 32⟩
def ID_FW_DIGEST_DIGEST_W7 : Fld := ⟨0x3c, 0, 32⟩
def ID_FW_DIGEST_DIGEST_W6 : Fld := ⟨0x38, 0, 32⟩
def ID_FW_DIGEST_DIGEST_W5 : Fld := ⟨0x34, 0, 32⟩
def ID_FW_DIGEST_DIGEST_W4 : Fld := ⟨0x30, 0, 32⟩
def ID_FW_DIGEST_DIGEST_W3 : Fld := ⟨0x2c, 0, 32⟩
def ID_FW_DIGEST_DIGEST_W2 : Fld := ⟨0x28, 0, 32⟩
def ID_FW_DIGEST_DIGEST_W1 : Fld := ⟨0x24, 0, 32⟩
def ID_FW_DIGEST_DIGEST_W0 : Fld := ⟨0x20, 0, 32⟩
def ID_BND_DIGEST_DIGEST_W11 : Fld := ⟨0x7c, 0, 32⟩
def ID_BND_DIGEST_DIGEST_W10 : Fld := ⟨0x78, 0, 32⟩
def ID_BND_DIGEST_DIGEST_W9 : Fld := ⟨0x74, 0, 32⟩
def ID_BND_DIGEST_DIGEST_W8 : Fld := ⟨0x70, 0, 32⟩
def ID_BND_DIGEST_DIGEST_W7 : Fld := ⟨0x6c, 0, 32⟩
def ID_BND_DIGEST_DIGEST_W6 : Fld := ⟨0x68, 0, 32⟩
def ID_BND_DIGEST_DIGEST_W5 : Fld := ⟨0x64, 0, 32⟩
def ID_BND_DIGEST_DIGEST_W4 : Fld := ⟨0x60, 0, 32⟩
def ID_BND_DIGEST_DIGEST_W3 : Fld := ⟨0x5c, 0, 32⟩
def ID_BND_DIGEST_DIGEST_W2 : Fld := ⟨0x58, 0, 32⟩
def ID_BND_DIGEST_DIGEST_W1 : Fld := ⟨0x54, 0, 32⟩
def ID_BND_DIGEST_DIGEST_W0 : Fld := ⟨0x50, 0, 32⟩
def ID_OWNER_DIGEST_DIGEST_W11 : Fld := ⟨0xac, 0, 32⟩
def ID_OWNER_DIGEST_DIGEST_W10 : Fld := ⟨0xa8, 0, 32⟩
def ID_OWNER_DIGEST_DIGEST_W9 : Fld := ⟨0xa4, 0, 32⟩
def ID_OWNER_DIGEST_DIGEST_W8 : Fld := ⟨0xa0, 0, 32⟩
def ID_OWNER_DIGEST_DIGEST_W7 : Fld := ⟨0x9c, 0, 32⟩
def ID_OWNER_DIGEST_DIGEST_W6 : Fld := ⟨0x98, 0, 32⟩
def ID_OWNER_DIGEST_DIGEST_W5 : Fld := ⟨0x94, 0, 32⟩
def ID_OWNER_DIGEST_DIGEST_W4 : Fld := ⟨0x90, 0, 32⟩
def ID_OWNER_DIGEST_DIGEST_W3 : Fld := ⟨0x8c, 0, 32⟩
def ID_OWNER_DIGEST_DIGEST_W2 : Fld := ⟨0x88, 0, 32⟩
def ID_OWNER_DIGEST_DIGEST_W1 : Fld := ⟨0x84, 0, 32⟩
def ID_OWNER_DIGEST_DIGEST_W0 : Fld := ⟨0x80, 0, 32⟩
def ID_STATE_MASTER : Fld := ⟨0xb0, 11, 1⟩
def ID_STATE_JUNCTION : Fld := ⟨0xb0, 10, 1⟩
def ID_STATE_TWIN_ROLE : Fld := ⟨0xb0, 8, 2⟩
def ID_STATE_RECOVERY : Fld := ⟨0xb0, 7, 1⟩
def ID_STATE_TAMPER : Fld := ⟨0xb0, 6, 1⟩
def ID_STATE_DEBUG : Fld := ⟨0xb0, 5, 1⟩
def ID_STATE_OWNER_LOCK : Fld := ⟨0xb0, 4, 1⟩
def ID_STATE_OWNED : Fld := ⟨0xb0, 3, 1⟩
def ID_STATE_COMMITTED : Fld := ⟨0xb0, 2, 1⟩
def ID_STATE_SAFE : Fld := ⟨0xb0, 1, 1⟩
def ID_STATE_READY : Fld := ⟨0xb0, 0, 1⟩
def ID_BOOTS_BOOTS : Fld := ⟨0xb4, 0, 32⟩
def ID_UPTIME_US_W1 : Fld := ⟨0xbc, 0, 32⟩
def ID_UPTIME_US_W0 : Fld := ⟨0xb8, 0, 32⟩
def ID_COMMIT_COMMIT : Fld := ⟨0x200, 31, 1⟩
def ID_COMMIT_COMMITTED : Fld := ⟨0x200, 30, 1⟩
def ID_COMMIT_UNLOCKED : Fld := ⟨0x200, 29, 1⟩
def ID_COMMIT_COUNT : Fld := ⟨0x200, 0, 16⟩
def ID_CLAMP_SUM_NONZERO : Fld := ⟨0x204, 0, 16⟩
def ID_CLAMP_CNT_COUNT : Fld := ⟨0x208, 0, 16⟩
def TD_CLAMP_CNT_COUNT : Fld := ⟨0x40008, 0, 16⟩
def RING_CLAMP_CNT_COUNT : Fld := ⟨0x5002c, 0, 16⟩
def TWIN_CLAMP_CNT_COUNT : Fld := ⟨0x60048, 0, 16⟩
def SEC_CLAMP_CNT_COUNT : Fld := ⟨0xf0020, 0, 16⟩

end R

end Sys2Proof
end

