-- ==== Sys2Proof/Machine/Maps.lean ====
section
/-!
DEFINITION. Operations on sparse maps and on bits and bytes, shared by the whole model. A map's `dflt` says what an unlisted
key reads as; writing that value removes the entry, so equal maps are equal data. Bytes are little-endian (R4).
-/

namespace Sys2Proof

/-- The value at key `k`; an unlisted key reads as `dflt k`. -/
def NMap.get {α : Type} (dflt : Nat → α) (m : NMap α) (k : Nat) : α :=
  match m with
  | [] => dflt k
  | (a, x) :: r => if a = k then x else NMap.get dflt r k

/-- Remove key `k`. -/
def NMap.erase {α : Type} (m : NMap α) (k : Nat) : NMap α :=
  match m with
  | [] => []
  | (a, x) :: r => if a = k then NMap.erase r k else (a, x) :: NMap.erase r k

/-- Put `v` at key `k`, keeping the keys strictly rising. -/
def NMap.insert {α : Type} (m : NMap α) (k : Nat) (v : α) : NMap α :=
  match m with
  | [] => [(k, v)]
  | (a, x) :: r =>
    if k < a then (k, v) :: (a, x) :: r else if a = k then (k, v) :: r else (a, x) :: NMap.insert r k v

/-- Write `v` at key `k`; writing what an unlisted key reads as removes the entry. -/
def NMap.set {α : Type} [DecidableEq α] (dflt : Nat → α) (m : NMap α) (k : Nat) (v : α) : NMap α :=
  if v = dflt k then m.erase k else m.insert k v

/-- Every key of the map is above `lo`, the keys rise strictly, and no entry is what an unlisted key reads as. -/
def NMap.wfFrom {α : Type} [DecidableEq α] (dflt : Nat → α) : Option Nat → NMap α → Bool
  | _, [] => true
  | lo, (a, x) :: r =>
    (match lo with | none => true | some b => decide (b < a)) && decide (x ≠ dflt a) && NMap.wfFrom dflt (some a) r

/-- The canonical form of a map. -/
def NMap.wf {α : Type} [DecidableEq α] (dflt : Nat → α) (m : NMap α) : Bool := NMap.wfFrom dflt none m

/-- The keys listed. -/
def NMap.keys {α : Type} (m : NMap α) : List Nat := m.map Prod.fst

/-- A field of `n` bits at bit `lo` of a number. -/
def bits (x lo n : Nat) : Nat := x / 2 ^ lo % 2 ^ n

/-- One bit of a number. -/
def bit (x i : Nat) : Bool := x / 2 ^ i % 2 = 1

/-- The number `x` with its `n` bits at bit `lo` replaced by those of `v`. -/
def setBits (x lo n v : Nat) : Nat := x - bits x lo n * 2 ^ lo + v % 2 ^ n * 2 ^ lo

/-- A Bool as a bit. -/
def bnat (b : Bool) : Nat := if b then 1 else 0

/-- The signed value of the low `n` bits. -/
def sext (n x : Nat) : Int := if x % 2 ^ n < 2 ^ (n - 1) then (x % 2 ^ n : Nat) else (x % 2 ^ n : Nat) - (2 ^ n : Nat)

/-- The low `n` bits of a signed value. -/
def toBits (n : Nat) (v : Int) : Nat := (v % (2 ^ n : Nat)).toNat

/-- The number that little-endian bytes spell (R4). -/
def leNat : List Byte → Nat
  | [] => 0
  | b :: r => b.toNat + 256 * leNat r

/-- The number that bytes spell with the most significant one first. -/
def beNat (b : List Byte) : Nat := leNat b.reverse

/-- `n` little-endian bytes of a number (R4). -/
def leBytes : Nat → Nat → List Byte
  | 0, _ => []
  | n + 1, x => BitVec.ofNat 8 x :: leBytes n (x / 256)

/-- `n` bytes from position `i`; bytes past the end read zero. -/
def slice (bs : List Byte) (i n : Nat) : List Byte :=
  (bs.drop i).take n ++ List.replicate (n - ((bs.drop i).take n).length) 0

/-- The little-endian number in `n` bytes from position `i`. -/
def leAt (bs : List Byte) (i n : Nat) : Nat := leNat (slice bs i n)

/-- `bs` with the bytes `v` laid over it from position `i`; bytes past the end are discarded. -/
def overlay (bs : List Byte) (i : Nat) (v : List Byte) : List Byte :=
  bs.take i ++ v.take (bs.length - i) ++ bs.drop (i + v.length)

/-- Bytes of a sparse byte memory from address `a`; an unlisted byte reads zero. -/
def memRead (m : NMap Byte) (a n : Nat) : List Byte :=
  match n with
  | 0 => []
  | n + 1 => NMap.get (fun _ => 0) m a :: memRead m (a + 1) n

/-- Bytes written to a sparse byte memory from address `a`, lowest address first. -/
def memWrite (m : NMap Byte) (a : Nat) : List Byte → NMap Byte
  | [] => m
  | b :: r => memWrite (NMap.set (fun _ => 0) m a b) (a + 1) r

/-- A counter of `w` bits stepped by `k`, saturating at its largest value. -/
def satAdd (w x k : Nat) : Nat := min (x + k) (2 ^ w - 1)

end Sys2Proof
end

