-- ==== Sys2Proof/Machine/State.lean ====
section
/-!
DEFINITION. The state of the hub, as plain data: the queue of waiting commands, the set-up registers, and what each block holds
beside its registers. Indexed things are sparse maps (`NMap`) whose unlisted keys read as the initial value of their type.
-/

namespace Sys2Proof.Machine

/-! ### What the hub sends out -/

/-- One thing that leaves the hub, in the order in which it leaves. -/
inductive Emit where
  /-- A memory write over PCIe with the requester ID of the function of slot `slot`, of kind PF0 or VF (R63). -/
  | hostWrite (slot addr : Nat) (bytes : List Byte)
  /-- A memory read over PCIe with a function's requester ID: `what` names the line or descriptor read. -/
  | hostRead (slot addr len : Nat) (what : String)
  /-- MSI-X vector `vec` of function `fn` is sent, with the address and data of its table entry (R83). -/
  | msix (fn vec addr data : Nat)
  /-- A frame starts on lane `port` (0 to 3 the ring ports, 4 the twin lane), as the blocks that carry it (R135). -/
  | frame (port : Nat) (f : Frame) (blocks : List Block)
  /-- An idle block between two frames on lane `port` (R135). -/
  | idle (port : Nat) (b : Block)
  /-- The frame in progress on lane `port` is cut short: it ends with zero padding and the poison marker (R148). -/
  | cut (port : Nat)
  /-- A ring ordered set on lane `port`, as its two identical blocks (R136, R137). -/
  | orderedSet (port : Nat) (q : SetPair)
  /-- PROBE or ECHO blocks on lane `port` (R208). -/
  | probe (port : Nat) (echo : Bool)
  /-- The switch core hands a frame to the block at output `out` (Table 13-1). -/
  | toBlock (out : Nat) (f : Frame)
  /-- An Ethernet frame on uplink `j` (0 E1, 1 W1), with the PCP and VID of its C-tag where it has one (R162). -/
  | ethernet (j : Nat) (what : String) (tag : Option (Nat × Nat)) (bytes : List Byte)
  /-- A frame or transaction on a field bus: port, pair (2: IO-Link), and its bytes. -/
  | bus (port pair : Nat) (what : String) (bytes : List Byte)
  /-- A message on the twin lane that is not a ring frame. -/
  | twin (what : String) (bytes : List Byte)
  /-- A state delta, or a full resynchronisation, on the twin lane (R400, R401). -/
  | delta (d : Delta)
  /-- A reply to a local access: the words or bytes that a read returned. -/
  | reply (what : String) (bytes : List Byte)
deriving DecidableEq, Repr

/-! ### Host queues (chapters 03 and 04) -/

/-- STATE of a queue pair (Table 03-18). -/
inductive PairSt where
  | idle | run | stopped
deriving DecidableEq, Repr

/-- A completion entry without the fields that its write adds (SQ_HEAD, PHASE): Tables 04-3 to 04-5. `tag` is the tag that
the entry's write retires, abnormally when `abn` is set (a TIMEOUT or path loss, R88). -/
structure CqEntry where
  kind : Nat := 0
  body : List Byte := []
  status : Nat := 0
  overrun : Bool := false
  late : Bool := false
  reissued : Bool := false
  trunc : Bool := false
  node : Nat := 0
  tag : Option Nat := none
  abn : Bool := false
deriving DecidableEq, Repr

/-- A queue pair (R70 to R77, R84, R91). `sqTail` and `cqHead` are the doorbell word as last read; `asked` counts descriptor
reads issued and not yet arrived; `waiting` holds completions that found the CQ full (R75); `stopDue` a PAIR_STOPPED entry
still to be written; `coalAt` the time of the first counted entry (R84);
`unconf` entry writes of a RING slot not yet confirmed, and `irqDue` how many of them each INTERRUPT MSG that is owed still waits for
(R83). -/
structure Pair where
  st : PairSt := .idle
  reason : Nat := 0
  head : Nat := 0
  tail : Nat := 0
  phase : Bool := true
  sqTail : Nat := 0
  cqHead : Nat := 0
  asked : Nat := 0
  coal : Nat := 0
  coalAt : Nat := 0
  waiting : List CqEntry := []
  stopDue : Bool := false
  unconf : Nat := 0
  irqDue : List Nat := []
deriving DecidableEq, Repr

/-- A tenant slot (R80, R87): the poll interval in ns, the local time of the last poll's data, and whether a poll is out. -/
structure Slot where
  interval : Nat := 8000
  polledAt : Nat := 0
  asked : Bool := false
deriving DecidableEq, Repr

/-- A transaction (R86, R126 to R129). `seq` is its fetch order; `dir` is the direction its request took (0 ring A, 1 ring B), `ring` the ring (0 or
1) and `via` the station routed to (the destination or the next junction); `tmo` the timeout in force at its tag's assignment; `done` says that it has
ended and its entry waits for the CQ (R75); `rop` the remote operand that a reflex fetch serves, with no entry (R377); `need` the releases of an
UNLOCK still unanswered, and `aborted` that a lock time had expired before it (R113); `confirm` the entry of an ended transaction whose data has still
to be confirmed by the memory of a slot of kind RING (R92). `pair` is 512 for a transaction of the hub's own, which belongs to no pair; `waits` are
the releases to other hubs that an UNLOCK awaits: node, ring, station routed to and direction (R127). -/
structure Tx where
  slot : Nat
  pair : Nat
  cid : Nat
  req : Req
  haddr : Nat := 0
  seq : Nat := 0
  startAt : Nat := 0
  tmo : Nat := 0
  remote : Bool := false
  dir : Nat := 0
  ring : Nat := 0
  via : Nat := 0
  reissued : Bool := false
  detached : Bool := false
  rop : Option Nat := none
  need : Nat := 0
  aborted : Bool := false
  done : Bool := false
  confirm : Option CqEntry := none
  waits : List (Nat × Nat × Nat × Nat) := []
deriving DecidableEq, Repr

/-- A tag of the in-flight bound (R86 to R88): its generation, and whether it is free, in flight or quarantined for a slot. -/
inductive TagUse where
  | free | flight (t : Tx) | quarantine (slot : Nat)
deriving DecidableEq, Repr

structure Tag where
  gen : Nat := 0
  use : TagUse := .free
deriving DecidableEq, Repr

/-- An open lock sequence of this hub as issuing hub (R111 to R113). `buses` are (node, port) in rising order; `closing` says that
a reset of its pair closes it once the pair's detached transactions have ended; `ends` the local times, in ns, at which the lock times of its
buses end; `sent` are the buses for which it sent a LOCK, whatever became of it (R348). -/
structure LockSeq where
  id : Nat
  slot : Nat
  pair : Nat
  buses : List (Nat × Nat) := []
  expired : Bool := false
  closing : Bool := false
  ends : List Nat := []
  sent : List (Nat × Nat) := []
deriving DecidableEq, Repr

/-- Host queues, tags and lock sequences. `seq` counts fetched descriptors; `rrSlot` and `rrPair` are the round-robin positions of R89; `pcieUp` says
that the PCIe link is up, `busMaster` and `ideSecure` for which functions Bus Master Enable is set and an IDE stream is Secure, `ideLost` whose stream
has left the Secure state (R425); `fetchHold` that the queue manager fetches and polls nothing (DOZE, chapter 19); `rebuilding` that the free-tag pool
is rebuilt once every detached transaction has ended (R94). `msixTab` is the MSI-X table: address and data of each vector (128 × function + vector);
`msixOpen` are the vectors that it does not mask, and `msixPend` those set in the PBA (R83). -/
structure Hif where
  slots : NMap Slot := []
  pairs : NMap Pair := []
  tags : NMap Tag := []
  locks : List LockSeq := []
  seq : Nat := 0
  rrSlot : Nat := 0
  rrPair : NMap Nat := []
  pcieUp : Bool := false
  pcieWasUp : Bool := false
  ideSecure : List Nat := []
  ideLost : List Nat := []
  busMaster : List Nat := []
  fetchHold : Bool := false
  rebuilding : Bool := false
  msixTab : NMap (Nat × Nat) := []
  msixOpen : List Nat := []
  msixPend : List Nat := []
deriving DecidableEq, Repr

/-! ### Requests at the target (chapters 01, 04) -/

/-- Requests accepted by the checks of R30 and not yet carried out, and timed operations held (R124), each with the number of
this hub's step that admitted it. -/
structure Tgt where
  accepted : List Req := []
  held : List Req := []
deriving DecidableEq, Repr

/-! ### Points (chapter 02) -/

/-- A value delivered to a point: VALUE, its TIMESTAMP, and the quality supplied with it (R55). -/
structure Delivered where
  value : Nat
  ts : Nat
  quality : Option Nat := none
deriving DecidableEq, Repr

/-- A point: the fields of its record (Table 02-1), and what the hub keeps beside the record: the kept value of R51, the time of
the last delivery (R53, local timebase), a value delivered and not yet taken (R47, R52), the forced value, the conditions its
source reports (reasons of Table 02-3), the supplied condition in force (R55), and whether it is still NOT_READY (R56). -/
structure Point where
  value : Nat := 0
  ts : Nat := 0
  quality : Nat := 0
  type : Nat := 0
  flags : Nat := 0
  low : Nat := 0
  high : Nat := 0
  safe : Nat := 0
  ageTmo : Nat := 0
  writer : Nat := 0
  aset : Nat := 0
  binding : List Byte := []
  kept : Option Delivered := none
  fresh : Option Delivered := none
  forced : Nat := 0
  deliveredAt : Nat := 0
  conds : List Nat := []
  supplied : Option Nat := none
  notReady : Bool := true
  rowReason : Nat := 0
deriving DecidableEq, Repr

/-- One delivery of a subscription (Table 04-5, with the status and the point's node). -/
structure Dlv where
  value : Nat
  ts : Nat
  quality : Nat
  td : Nat
  point : Nat
  status : Nat := 0
deriving DecidableEq, Repr

/-- A subscription (R58 to R61, R117). `slot` is the slot of this hub whose pair receives, or none for a tenant of another hub; `node` and `tn` name
the subscriber; `pend` is the pending entry, `overrun` its OVERRUN, `pendSeq` the order in which it became pending. -/
structure Sub where
  num : Nat
  point : Nat
  slot : Option Nat
  node : Nat
  tn : Nat
  pair : Nat
  onChange : Bool
  deadband : Nat := 0
  last : Option (Nat × Nat) := none
  pend : Option Dlv := none
  overrun : Bool := false
  pendSeq : Nat := 0
deriving DecidableEq, Repr

/-- A subscription of this hub's tenants at another hub, as this hub must know it to discard later deliveries (R118). -/
structure RemSub where
  node : Nat
  slot : Nat
  num : Nat
  point : Nat
  pair : Nat
  pend : Option Dlv := none
  overrun : Bool := false
  pendSeq : Nat := 0
deriving DecidableEq, Repr

structure Pts where
  recs : NMap Point := []
  subs : List Sub := []
  remote : List RemSub := []
  pendSeq : Nat := 0
deriving DecidableEq, Repr

/-! ### Ring links and the fabric (chapters 01 and 05) -/

/-- STATE of a lane (Tables 05-14 and 05-18). -/
inductive PortSt where
  | down | signal | train | auth | up | uplinkUp
deriving DecidableEq, Repr

/-- A ring lane: E0, W0, E1, W1 (0 to 3) and the twin lane (4). The counters are those of Tables 05-18 to 05-22. `fifo` is
the replay FIFO, oldest first (R150); `rewind` the frames a rewind sends again (R152); `sweep` the SWEEP copies waiting for the
output (R180); `busy` says that the output is sending a frame; `transit` are frames in the transit store that DOZE uses (R494); `setsDue`
the ordered sets, code and ARG, that wait for the frame in progress to end (R137), and `sync` a SYNC that follows the sweep copy (R203). -/
structure Port where
  st : PortSt := .down
  cause : Nat := 0
  epoch : Bool := false
  rxEpoch : Bool := false
  prevKey : Bool := false
  downCnt : Nat := 0
  rtt : Nat := 0
  replay : Nat := 0
  tagFail : Nat := 0
  poisoned : Nat := 0
  discard : Nat := 0
  wrapped : Nat := 0
  lost : Nat := 0
  fcnt : Nat := 0
  lseq : Nat := 0
  next : Nat := 0
  nakFor : Option Nat := none
  discarding : Bool := false
  fifo : List Frame := []
  rewind : List Frame := []
  failed : Nat := 0
  sweep : List Frame := []
  busy : Bool := false
  readySent : Bool := false
  readySeen : Bool := false
  waitRetry : Bool := false
  transit : List Frame := []
  setsDue : List (Nat × Nat) := []
  sync : List Frame := []
  probeAt : Option Nat := none
deriving DecidableEq, Repr

/-- A topology record entry (Table 01-6) with the time of the last announce (AGE counts from it), the OTHER that it gave, the time of the
announce that made the station PRESENT, and, for each direction, the
hop counts of the members that announced it (R33), by certificate serial number. -/
structure Topo where
  since : Nat := 0
  hopsA : Nat := 0xFF
  hopsB : Nat := 0xFF
  heardAt : Nat := 0
  master : Bool := false
  junction : Bool := false
  twin : Bool := false
  present : Bool := false
  other : Nat := 0
  memA : List (Nat × Nat) := []
  memB : List (Nat × Nat) := []
deriving DecidableEq, Repr

/-- Where a join stands (R31): the step reached, 1 to 5, and whether the hub's own announce is out. -/
structure Join where
  step : Nat := 1
  announcedAt : Nat := 0
deriving DecidableEq, Repr

/-- The ring side of the hub. `topo` is keyed by ring × 256 + station (ring 0 or 1). `ring1` and `station1` are the E1/W1
counterparts of RING_NODE_STATE.RING and STATION. `bcast` are the last 64 broadcasts acted on (R158). -/
structure RingSt where
  ports : NMap Port := []
  topo : NMap Topo := []
  join0 : Join := {}
  join1 : Join := {}
  ring1 : Nat := 0
  station1 : Nat := 0
  bcast : List (Nat × Nat × Nat) := []
deriving DecidableEq, Repr

/-! ### Switch core (chapter 13) -/

/-- A frame in the switch core: input, output, class, cells in all, cells moved to the output, the bank of each cell where the
world has told it, and whether the output has started it. -/
structure QFrame where
  inp : Nat
  out : Nat
  cls : Nat
  cells : Nat
  moved : Nat := 0
  started : Bool := false
  voq : Bool := false
  frame : Frame
deriving DecidableEq, Repr

structure Switch where
  /-- Admitted frames in admission order. -/
  queue : List QFrame := []
  /-- Frames refused admission and held at their source (R361), in order. -/
  held : List QFrame := []
  gptr : NMap Nat := []
  aptr : NMap Nat := []
  deficit : NMap Nat := []
  rr : NMap Nat := []
  /-- Cells that the last audit found in no place, each with the count of its allocations (R369). -/
  orphans : List (Nat × Nat) := []
deriving DecidableEq, Repr

/-! ### Fault collection (chapter 18) -/

/-- A log record of 32 bytes with its sequence number. -/
structure LogRec where
  seq : Nat
  bytes : List Byte
deriving DecidableEq, Repr

/-- One log (R468): the next number, the records in Kaolin and those still in the SRAM buffer, oldest first. -/
structure Log where
  next : Nat := 0
  stored : List LogRec := []
  buffer : List LogRec := []
deriving DecidableEq, Repr

/-- The collector beside its registers: the self-fault, the held SEQ of R471, the copy in progress (log, SEQ) and FLT_LOG_BUF,
the conditions that persist (source bit and the class of the persisting condition, R461), and a Kaolin write error. -/
structure Flt where
  selfFault : Bool := false
  heldSeq : Nat := 0
  copy : Option (Nat × Nat) := none
  logBuf : NMap Byte := []
  fault : Log := {}
  audit : Log := {}
  persist : List (Nat × FClass × Nat) := []
  writeError : Bool := false
  started : Bool := false
deriving DecidableEq, Repr

/-! ### Time (chapter 07). Times are counts of 2^-16 ns; a time value in a register or record is its 96-bit form. -/

/-- A time domain (R191, R196 to R200): its value at local time `at_`, its rate against the local timebase in units of 2^-14 ppb,
STATE and ACTIVE (`second`) of Table 07-23, the availability and offset (2^-16 ns) of its two sources, the counts of consecutive
updates that R196 to R198 name, the state that HOLDOVER began in, and the offset that a SLEW still has to remove; the measured rates of the two
sources against the local timebase, and their last measured values with the local times (R198); and whether a SET has come since SRC_P became HOST
(R196). -/
structure Domain where
  base : Nat := 0
  at_ : Nat := 0
  rate : Int := 0
  st : Nat := 0
  second : Bool := false
  pOk : Bool := false
  sOk : Bool := false
  ofsP : Int := 0
  ofsS : Int := 0
  inLock : Nat := 0
  outLock : Nat := 0
  overStep : Nat := 0
  primRun : Nat := 0
  holdLeft : Nat := 0
  slew : Int := 0
  rateP : Int := 0
  rateS : Int := 0
  seenP : Option (Int × Nat) := none
  seenS : Option (Int × Nat) := none
  setHost : Bool := false
deriving DecidableEq, Repr

/-- A SYNC path of a ring in one direction (R206): the HOPS of its last SYNC, the offset measured, and whether it is available. -/
structure SyncPath where
  avail : Bool := false
  hops : Nat := 0
  offset : Int := 0
deriving DecidableEq, Repr

/-- A scheduled edge waiting at a pin (R217): due time (nanosecond count of domain `td`), level, and the point. -/
structure Edge where
  due : Nat
  level : Bool
  point : Nat
  td : Nat
deriving DecidableEq, Repr

/-- A PTP port on an uplink (R212): whether its source is available, the sequence numbers of its Sync and Announce and of its delay
requests, the master that it has selected (the rank of its Announce and its port identity) and until when, in local ns, its last Announce holds, and
the stamps of the last frame received and of
the last event message sent (R163). -/
structure PtpPort where
  avail : Bool := false
  seq : Nat := 0
  delaySeq : Nat := 0
  best : Option (Nat × Nat) := none
  annEnd : Nat := 0
  rxStamp : Nat := 0
  txStamp : Nat := 0
deriving DecidableEq, Repr

/-- What the local timebase takes its frequency from (R194): the resonator or REFCLK, the clock recovered from a ring port, or the resonator
corrected by the last measured ratio (units of 2^-14 ppb). -/
inductive ClkRef where
  | own | port (i : Nat) | held (ratio : Int)
deriving DecidableEq, Repr

structure TimeSt where
  /-- Domains TD0 to TD7, and 8: the ring-1 time of a junction follower (R202). -/
  dom : NMap Domain := []
  /-- SYNC paths, keyed by ring × 2 + direction, and which of the two is the primary per ring (0 ring A, 1 ring B). -/
  paths : NMap SyncPath := []
  primary0 : Nat := 0
  primary1 : Nat := 0
  /-- Outstanding PDELAY_REQ per port: its sequence number and departure stamp t1 (R207). -/
  pdelay : NMap (Nat × Nat) := []
  pdelaySeq : Nat := 0
  /-- Ports with a result since UP. -/
  pdelayHave : List Nat := []
  ptp : NMap PtpPort := []
  ppsAt : Option Nat := none
  ppsOk : Bool := false
  /-- Scheduled edges per pin, keyed by 4 × port + pin, in time order (R217). -/
  edges : NMap (List Edge) := []
  /-- The reference of the local timebase (R194). -/
  ref : ClkRef := .own
  /-- PPS_OUT level. -/
  ppsOut : Bool := false
  /-- Ring ports whose last SYNC was sent before TD0 stepped (STEPPED, Table 07-5). -/
  stepped : List Nat := []
deriving DecidableEq, Repr

/-! ### Bridging and tunnels (chapter 12) -/

/-- The lock of a field bus (R344 to R347): the holder's node, tenant and sequence, when its lock time ends (local ns), the LOCKs
received in an open arbitration window in arrival order, and a winner that waits for the bus transaction in progress, and an
expiry that does. -/
structure BusLock where
  holder : Option (Nat × Nat × Nat) := none
  until_ : Nat := 0
  windowOpen : Bool := false
  contenders : List Req := []
  winner : Option Req := none
  expired : Bool := false
deriving DecidableEq, Repr

/-- A line of the read cache (R338): the port (64 for set-up space), the offset of its first register or byte, the local time (2^-16 ns)
of its fill, its data, whether it has served any byte, and the prefetching read that filled it beyond its request (0: none). The lines'
order in the list is from the most recently used. -/
structure CacheLine where
  port : Nat
  base : Nat
  filledAt : Nat
  data : List Byte
  served : Bool
  read : Nat
deriving DecidableEq, Repr

/-- A prefetching read whose lines beyond its request are still accounted (R342): its number, the range entry, TD0 at the read (96-bit
form), the space, the requester, unused lines so far and the lowest offset among them, and lines still in the cache. -/
structure Prefetch where
  id : Nat
  range : Nat
  space : Nat
  time : Nat
  node : Nat
  tn : Nat
  unused : Nat := 0
  firstOff : Nat := 0
  left : Nat := 0
deriving DecidableEq, Repr

/-- A request of the bridge: the phase of its bus transaction (0 the operation itself, 1 the write after an RMW's read, 2 the read-back of
VERIFIED), the value that an RMW read, whether a POSTED write has already been answered, and the registers that the bus read covers,
which R339 may have widened, under range entry `range`. -/
structure BusOp where
  req : Req
  phase : Nat := 0
  value : Nat := 0
  posted : Bool := false
  first : Nat := 0
  count : Nat := 0
  range : Option Nat := none
deriving DecidableEq, Repr

/-- A frame held at a tunnel's egress (R352, R353): SEQ, the time of domain `td` at which it is due (0: at once), its traffic class and its bytes. -/
structure TunFrame where
  seq : Nat
  td : Nat
  due : Nat
  bytes : List Byte
  tc : Nat := 0
deriving DecidableEq, Repr

/-- Bus locks, bridge queues, the read cache and tunnels. -/
structure Brg where
  locks : NMap BusLock := []
  /-- Requests waiting in a port's bridge queue, oldest first (R336). -/
  queue : NMap (List BusOp) := []
  /-- Locked operations of the holder, served ahead of the queue (R346). -/
  lockedOps : NMap (List BusOp) := []
  /-- The bridge transaction in progress on a port's bus. -/
  active : NMap (Option BusOp) := []
  cache : List CacheLine := []
  prefetches : List Prefetch := []
  readId : Nat := 0
  /-- Frames held at each egress entry, in order; egress entries that have seen a SEQ; ingress entries that owe a GAP (R351, R352). -/
  tun : NMap (List TunFrame) := []
  seqSeen : List Nat := []
  gap : List Nat := []
deriving DecidableEq, Repr

/-! ### The cycle (chapter 06) -/

/-- A cycle master that this hub has heard (R167, R168). -/
structure Master where
  prio : Nat
  serial : Nat
  node : Nat
  heardAt : Nat
deriving DecidableEq, Repr

/-- The sweep window of a ring output (R184): how long after S_k, in ns, the head of the first copy came in the last cycle, and that cycle; the
cycles counted since the join or a change of master (up to 2), and the cycle whose window has closed. -/
structure Win where
  head : Nat := 0
  headK : Option Nat := none
  cycles : Nat := 0
  passed : Option Nat := none
deriving DecidableEq, Repr

/-- The cycle of one ring. `caps` are the captures from the last cycle on: the cycle and, for each slice-map and relay entry, the target station (0
the own IN part), the offset and the bytes (R175, R177, R187). `taken` and `outs` are the slots and own OUT parts taken in a cycle (R176), `closed`
the first cycle not yet closed, `captured` the first not yet captured, `gone` the spans of cycles that steps passed over, each the cycle before it and
its last one (R201), `newest` the OUT and IN parts last taken from each station (R187). `sentK` is the cycle last started as master and `prevK` the
one before it, `syncK` the last one with a SYNC (R203), `leftE` and `leftW` when its last copies left the two ports and `sentNs` their lane time;
`copies` are the copies sent and not yet returned, the newest first and at most 64: the cycle, DIR, when the copy left, in local ns, and its lane time
(R186). `winE` and `winW` are the sweep windows of its two outputs (R184). -/
structure Cyc where
  masters : List Master := []
  caps : List (Nat × List (Nat × Nat × List Byte)) := []
  taken : List (Nat × Slice) := []
  outs : List (Nat × Slice) := []
  closed : Nat := 0
  captured : Nat := 0
  gone : List (Nat × Nat) := []
  newest : NMap (List Byte) := []
  sentK : Option Nat := none
  prevK : Option Nat := none
  syncK : Option Nat := none
  leftE : Nat := 0
  leftW : Nat := 0
  sentNs : Nat := 0
  copies : List (Nat × Nat × Nat × Nat) := []
  winE : Win := {}
  winW : Win := {}
deriving DecidableEq, Repr

/-- An output freeze whose deadline has not come: its cycle, the output points with their values, those that took a newly delivered value
(R324), and the frames that transmit objects encoded (object and data, R291). -/
structure Freeze where
  k : Nat
  vals : List (Nat × Nat) := []
  took : List Nat := []
  objs : List (Nat × List Byte) := []
deriving DecidableEq, Repr

/-- The cycles of the two rings, the output freezes whose deadlines are still to come, oldest first, and the values of the last one. -/
structure CycSt where
  c0 : Cyc := {}
  c1 : Cyc := {}
  freezes : List Freeze := []
  last : List (Nat × Nat) := []
deriving DecidableEq, Repr

/-! ### Field ports (chapter 08) -/

/-- A universal pin: the level or value last applied to it, whether its output stage drives, the DO latch (R240), thermal shutdown, the
64-bit edge counter, the nanosecond counts of the eight domains at the last accepted rising and falling edges (R215), raw edges since the last
accepted change (R237), and whether the output stage would drive but for field power, derating, thermal shutdown or the standby role (`held`),
so that it resumes at an output deadline (R224, R253). -/
structure Pin where
  applied : Nat := 0
  driving : Bool := false
  latched : Bool := false
  hot : Bool := false
  held : Bool := false
  edges : Nat := 0
  rise : Option (List Nat) := none
  fall : Option (List Nat) := none
  raw : Nat := 0
deriving DecidableEq, Repr

/-- Field ports: pins keyed by 4 × port + pin; pair drivers in thermal shutdown (2 × port + pair); whether field power is within limits;
the functions derated, the last one first; whether field power has returned, and which functions have been restored, since the last output deadline;
and the cost of each admitted function (R250, R252), keyed by 8 × port + item (items 0 to 3
the pins, 4 and 5 the pairs). -/
structure FieldSt where
  pins : NMap Pin := []
  pairHot : List Nat := []
  power : Bool := false
  derated : List Nat := []
  powerBack : Bool := false
  restored : List Nat := []
  admitted : NMap Nat := []
deriving DecidableEq, Repr

/-! ### Measurement (chapter 09) -/

/-- A channel's internal gain and offset for its configured range, as binary64 (self-calibration and background calibration, R270), the
coefficients that take effect at the next capture instant, whether an I20 shunt is open after a short (R273), and the local time, in ns, from which
on its samples are settled after a takeover (R280). -/
structure MeasCh where
  gain : Nat := 0x3FF0000000000000
  ofs : Nat := 0
  next : Option (Nat × Nat) := none
  shuntOpen : Bool := false
  settleAt : Nat := 0
deriving DecidableEq, Repr

/-- Channels, the cold-junction sensor of each port (0.01 °C, without CJ_OFS), the system calibration in progress (channel and OP), and the curves
named by CJ_CURVE that were not valid at the last capture instant. -/
structure MeasSt where
  ch : NMap MeasCh := []
  ball : NMap Int := []
  scal : Option (Nat × Nat) := none
  badCj : List Nat := []
deriving DecidableEq, Repr

/-! ### Protocol controllers (chapter 10) -/

/-- A received raw item with its ingress time (local timebase, 2^-16 ns). -/
structure RawItem where
  at_ : Nat
  bytes : List Byte
deriving DecidableEq, Repr

/-- A frame that waits in a controller to be sent: a raw SEND or a device-space write to object `obj` (with the request to answer), a
transmit object's own frame, or a frame of egress entry `tun`. `item` is the frame as a raw item. -/
structure TxItem where
  req : Option Req := none
  obj : Option Nat := none
  tun : Option Nat := none
  item : List Byte
deriving DecidableEq, Repr

/-- Controllers are keyed by kind × 64 + index (1 UART, 2 CAN, 3 SPE, 4 IO-Link). -/
structure PctlSt where
  /-- Received raw items per port that no RECV has taken (R287). -/
  rx : NMap (List RawItem) := []
  /-- Frames pending per controller. -/
  tx : NMap (List TxItem) := []
  /-- Polls due and waiting per UART, and the poll in progress (R292). -/
  polls : NMap (List Nat) := []
  poll : NMap (Option Nat) := []
  /-- Data of the last frame that each receive object took. -/
  last : NMap (List Byte) := []
  /-- Automatic rate detection: the candidate tried, and frames or characters received without error at it (R298). -/
  auto : NMap (Nat × Nat) := []
  /-- The data rate in kbit/s that AUTO has taken from the first frame with BRS; 0 before it (R298). -/
  dbr : NMap Nat := []
  /-- Points whose poll has failed since their last update (R292). -/
  missed : List Nat := []
  /-- Failed wake-ups of an IO-Link master, and whether L+ is off for its retry (R299). -/
  tries : NMap Nat := []
  lplusOff : List Nat := []
  /-- Process data out that an IO-Link master sends, and its valid flag. -/
  pdOut : NMap (List Byte × Bool) := []
  /-- Frames of transmit objects encoded at the last output freeze, sent at the output deadline: the object and its data (R291). -/
  due : List (Nat × List Byte) := []
  /-- Bus conditions that hold, by the format table whose points they concern (R300). -/
  tabConds : NMap (List Nat) := []
deriving DecidableEq, Repr

/-! ### Reflex engine (chapter 14) -/

/-- A remote operand: the last OK value as a binary64 pattern and raw bits, its reason, whether one has ever come, the fetch that is
out (the number of its transaction), its answer (status and data) not yet taken, and whether this cycle's value is settled and was missed (R377). -/
structure Rop where
  value : Nat := 0
  raw : Nat := 0
  reason : Nat := 0
  have_ : Bool := false
  out : Option Nat := none
  resp : Option (Nat × List Byte) := none
  settled : Bool := false
  missed : Bool := false
deriving DecidableEq, Repr

/-- The reflex engine: the bytes of the active and staging copies, keyed by region × 2^22 + offset (regions 0 rows, 1 state machines, 2 curves, 3
formats); entries made invalid by a memory error until the next switch (region, index); rows, the time at which each machine entered its state (none
before its first run in it), remote operands; the rows of the present cycle that have still to run; and the copies and invalid entries that rows of an
earlier cycle finish on after a switch, with the rows that the check at the switch has passed (R388). -/
structure Rfx where
  act : NMap Byte := []
  stg : NMap Byte := []
  bad : List (Nat × Nat) := []
  old : Option (NMap Byte × List (Nat × Nat) × List Nat) := none
  rows : NMap RowSt := []
  smSince : NMap (Option Nat) := []
  rops : NMap Rop := []
  todo : List Nat := []
  cycK : Nat := 0
  cycS : Nat := 0
  running : Bool := false
deriving DecidableEq, Repr


/-! ### Briar engines (chapter 11) and the twin (chapter 15) -/

/-- Channels by 16 × engine + channel, program words by 2,048 × engine + 1,024 × bank + address, and whether the channels with AUTOSTART have
had their first capture instant after READY (R308). -/
structure EngSt where
  chans : NMap Chan := []
  prog : NMap Word := []
  started : Bool := false
  asked : List Nat := []
deriving DecidableEq, Repr

/-- The shadow results of a cycle at a standby's output freeze (R403): rows, channels, and the values of BOOL input points of kind 0x01. -/
structure Shadow where
  k : Nat
  rows : NMap RowSt := []
  chans : NMap Chan := []
  inputs : List (Nat × Nat) := []
deriving DecidableEq, Repr

/-- The twin beside its registers: a relinquish or a SWITCHOVER that waits for the new active's confirmation (R409, R410), the point of a
test pulse that waits for an output deadline and of one in progress (R405). Of the lane (R400 to R402): a full resynchronisation still to be sent,
the state as the last delta started, what is being sent (0 nothing, 1 a resynchronisation, 2 a delta), the local time at which its lane time ends,
whether it has missed its window, and the cycle of a delta that is due and held back, with whether that has missed its own. The last shadow
results (R403) and the deltas that wait for the switch core (R361) of a standby; whether the standby's safe-state notice holds (R465); a second hub
that waits for its peer's announces (R398); and the ports at which an announce of the twin has come over one link, toward the twin (R406). -/
structure TwinSt where
  relinquish : Bool := false
  handover : Bool := false
  pulseAsked : Option Nat := none
  pulse : Option Nat := none
  resync : Bool := false
  sentPoints : NMap Point := []
  sentRows : NMap RowSt := []
  sentSteps : NMap (Option Nat) := []
  out : Nat := 0
  endAt : Nat := 0
  lateNow : Bool := false
  due : Option (Nat × Bool) := none
  shadows : List Shadow := []
  inbox : List Delta := []
  noticed : Bool := false
  waitPeer : Bool := false
  near : List Nat := []
deriving DecidableEq, Repr


/-! ### Power (chapter 19) -/

/-- The power states of R488. -/
inductive PState where
  | off | dormant | doze | run
deriving DecidableEq, Repr

/-- How far the power path has come (Table 19-1): waiting for a feed, for seating, for its breakers and converters, or rails good. -/
inductive PathSt where
  | none | feed | seated | good
deriving DecidableEq, Repr

/-- Power. Breakers: 0 FEED_A, 1 FEED_B, 2 FPIN_A, 3 FPIN_B, and 4 + p the FP switch of port p. `brkHot` are those that are not re-armed, `brkEvt`
those whose trip latch has had its clearing event and waits for re-arming (R481); `present`, `overV` and `reversed` the inputs that are present, above
their overvoltage limit, and turned off by a reversed current; `seated` and `held` whether seating is confirmed, and whether it has been held since
the last start (R503). `opReq` is a POWER that waits for its operating point (R491), `opWait` the POWERs behind it, `entry` a DOZE (false) or DORMANT
(true) whose completion has been given (R495), `asleep` whether CORE is off in DOZE, `early` the wake sources that came during entry (R498). `vmodOff`
are the module supplies turned off by an overload (R551); `kaolinLost` and `d2dFails` belong to the die-to-die links (R552); `autoOsc` is set from a
DOZE exit until both PLLs have locked, while AUTO_PLL acts (R497, R515). -/
structure PwrSt where
  brkHot : List Nat := []
  arrived : Bool := false
  unseatCode : Nat := 0
  brkEvt : List Nat := []
  present : List Nat := []
  overV : List Nat := []
  reversed : List Nat := []
  path : PathSt := .none
  state : PState := .off
  seated : Bool := false
  held : Bool := false
  vbat : Bool := false
  opReq : Option (Req × Nat) := none
  opWait : List Req := []
  entry : Option Bool := none
  asleep : Bool := false
  early : Nat := 0
  vmodOff : List Nat := []
  d2dFails : NMap Nat := []
  kaolinLost : Bool := false
  autoOsc : Bool := false
deriving DecidableEq, Repr


/-! ### Security (chapter 16) -/

/-- A link authentication or rekey in progress (R421, R424): the message that is expected, the transcript so far, the number of this end's key
shares, the peer's certificates, and the key schedule's PRK. -/
structure Hand where
  want : Nat
  script : List Byte := []
  eph : Nat := 0
  cert : List Byte := []
  prk : BitVec 384 := 0
deriving DecidableEq, Repr

/-- The security of a lane: its authentication, its rekey and how often that has restarted, the keys in force with their salts (sending,
receiving), the receiving key before the last switch (R147), and NEXT (R423). -/
structure Lane where
  auth : Option Hand := none
  rekey : Option Hand := none
  restarts : Nat := 0
  txKey : List Byte := []
  rxKey : List Byte := []
  oldKey : List Byte := []
  next : List Byte := []
deriving DecidableEq, Repr

/-- An SPDM session of a slot's function (R418, R427): whether the requester is authenticated, and its leaf public key digest. -/
structure Session where
  slot : Nat
  mutual_ : Bool
  leaf : Nat
deriving DecidableEq, Repr

/-- What the vault holds on a feed or VBAT: digests are 0 where none is held. -/
structure Vault where
  owner : Nat := 0
  transfer : Nat := 0
  lock : Bool := false
  debugNext : Bool := false
  tamperSrc : Nat := 0
  tamperTime : Nat := 0
  latch : Bool := false
  fwCtr : Nat := 0
  bndCtr : Nat := 0
  keys : List Byte := []
  rcv0 : Nat := 0
  rcv1 : Nat := 0
  db : Option Nat := none
  clk : Option (Nat × Nat × Nat) := none
  ticks : Nat := 0
deriving DecidableEq, Repr

/-- Blackthorn beside its registers: lanes, the outstanding challenge, SEC_MBX_DATA, DRBG outputs drawn and requests since the last reseed,
SPDM sessions, measurement block 7, Loam memory written by DBG_WRITE, and the vault. -/
structure SecSt where
  lanes : NMap Lane := []
  challenge : Option (List Byte) := none
  mbx : NMap Byte := []
  drbg : Nat := 0
  requests : Nat := 0
  sessions : List Session := []
  block7 : Nat := 0
  dbg : NMap (Option Byte) := []
  vault : Vault := {}
deriving DecidableEq, Repr

/-! ### Boot and update (chapter 17) -/

/-- A firmware or bundle slot of Kaolin (R438): its state (0 EMPTY, 1 STAGED, 2 GOOD, 3 BAD) and the object it holds. -/
structure Obj where
  st : Nat := 0
  bytes : List Byte := []
deriving DecidableEq, Repr

/-- An open staging: the bytes stored so far, and the object's total size. -/
structure Staging where
  bytes : List Byte
  total : Nat
deriving DecidableEq, Repr

/-- Where the boot stands: no rails, the ROM about to run, running, stopped by a fault (R446), or in recovery mode. -/
inductive BootStage where
  | off | rom | run | stopped | recovery
deriving DecidableEq, Repr

/-- Boot and Kaolin's slots: LAST_GOOD, the last active bundle slot, boots since manufacture and the counter mirrors lie in the device area. The
rest lasts until the next boot: the stagings, whether this boot is a TRIAL or brought in a STAGED bundle, READY's time, ID_RCV_BUF, and the
port and slot that recovery is being served on. -/
structure BootSt where
  fw0 : Obj := {}
  fw1 : Obj := {}
  bnd0 : Obj := {}
  bnd1 : Obj := {}
  lastGood : Nat := 0
  lastBnd : Nat := 0
  boots : Nat := 0
  fwMirror : Nat := 0
  bndMirror : Nat := 0
  stage : BootStage := .off
  fwStg : Option Staging := none
  bndStg : Option Staging := none
  newBnd : Bool := false
  fellBack : Bool := false
  readyAt : Nat := 0
  rcvBuf : NMap Byte := []
  serve : Option (Nat × Nat) := none
deriving DecidableEq, Repr


/-! ### Set-up space (chapter 21) -/

/-- A set-up access over PCIe: the requester, the offset in its BAR0, its size in bytes, and the value of a write. -/
structure Access where
  q : Requester
  off : Nat
  n : Nat
  v : Option Nat
deriving DecidableEq, Repr

/-- The latches of the L registers (R523): the words copied, by the offset of the register; and the accesses held in DOZE (R496). -/
structure SetSt where
  latch : NMap (List Nat) := []
  held : List Access := []
deriving DecidableEq, Repr


/-! ### Faults, refusals and the state -/

/-- Reasons for which a step would stop with a fault. The spec stops the hub for none: an event the present state does not allow
changes nothing, and every error the spec names is part of the next state. -/
inductive Fault where
  /-- Raised by no meaning: the spec gives no command that ends the hub's operation outside a next state. Safe. -/
  | none
deriving DecidableEq, Repr

/-- Reasons for which a command has no meaning in the model. -/
inductive Refusal where
  /-- A command whose meaning is not written yet, by its mnemonic in spec/opcode_table.json. Raised by the arms of
  `Machine/Dispatch.lean` alone. Safe: the run stops. -/
  | notModelled (mnemonic : String)
deriving DecidableEq, Repr

/-- The hub. -/
structure State where
  /-- The commands that wait, first in, first out. -/
  pending : List Instr := []
  /-- The set-up registers: 32-bit words by BAR0 offset; an unlisted word reads its reset value (R524, R530). -/
  regs : NMap Word := []
  /-- The local timebase, in units of 2^-16 ns since power-on reset (chapter 07). -/
  now : Nat := 0
  /-- MODEL'S OWN: how many free values have been drawn (log entry 1). -/
  drawn : Nat := 0
  /-- What the hub has sent out, oldest first. -/
  emitted : List Emit := []
  /-- Tenants, queues, tags and lock sequences (chapters 03, 04). -/
  hif : Hif := {}
  /-- Requests accepted at this target (chapter 04). -/
  tgt : Tgt := {}
  /-- The point store and subscriptions (chapter 02). -/
  pts : Pts := {}
  /-- Ring lanes, topology and join (chapters 01, 05). -/
  ring : RingSt := {}
  /-- The switch core (chapter 13). -/
  sw : Switch := {}
  /-- The fault collector and logs (chapter 18). -/
  flt : Flt := {}
  /-- Time domains and scheduled edges (chapter 07). -/
  td : TimeSt := {}
  /-- Bridge queues, locks, the read cache and tunnels (chapter 12). -/
  brg : Brg := {}
  /-- The cycles of rings 0 and 1 (chapter 06). -/
  cyc : CycSt := {}
  /-- Field ports and pins (chapter 08). -/
  fld : FieldSt := {}
  /-- Protocol controllers (chapter 10). -/
  pctl : PctlSt := {}
  /-- The reflex engine and its tables (chapter 14). -/
  rfx : Rfx := {}
  /-- Measurement channels (chapter 09). -/
  meas : MeasSt := {}
  /-- Power paths, breakers and power states (chapter 19). -/
  pwr : PwrSt := {}
  /-- Briar engines (chapter 11). -/
  eng : EngSt := {}
  /-- Twin pairing (chapter 15). -/
  twin : TwinSt := {}
  /-- Blackthorn and the vault (chapter 16). -/
  sec : SecSt := {}
  /-- Boot, Kaolin's slots and updates (chapter 17). -/
  boot : BootSt := {}
  /-- Latches of the set-up space (chapter 21). -/
  setup : SetSt := {}
deriving DecidableEq, Repr

/-- The hub at power-on reset (R525): no command waits, every register reads its Reset value, no feed is present, nothing is
listed in any map. -/
def State.reset : State := {}

end Sys2Proof.Machine
end

