-- ==== Sys2Proof/Machine/Regs.lean ====
section
/-!
DEFINITION. The set-up register file: finding a register by offset, its reset word, and the one way in which the model reads and
writes a field, sends something out, and draws a free value.
-/

namespace Sys2Proof.Machine

/-- A word of a register instance: the register, its indices (outermost first), and the word within it. -/
structure Hit where
  reg : Reg
  ix : List Nat
  word : Nat
deriving DecidableEq, Repr

/-- The indices that place an offset `r` (from a register's base) within the register's instances, and what is left over. -/
def findIx : List (Nat × Nat) → Nat → Option (List Nat × Nat)
  | [], r => some ([], r)
  | (stride, count) :: ds, r =>
    if r / stride < count then (findIx ds (r % stride)).map fun (is, q) => (r / stride :: is, q) else none

/-- The word of register `g` at BAR0 offset `off`, if it has one there. -/
def Reg.hit (g : Reg) (off : Nat) : Option Hit :=
  if off < g.shape.base then none else
    match findIx g.shape.dims (off - g.shape.base) with
    | none => none
    | some (ix, r) => if r < 4 * g.shape.words ∧ r % 4 = 0 then some ⟨g, ix, r / 4⟩ else none

/-- The first register of a list with a word at an offset. -/
def firstHit (off : Nat) : List Reg → Option Hit
  | [] => none
  | g :: r => match Reg.hit g off with
    | some h => some h
    | none => firstHit off r

/-- The register word at a BAR0 offset. An offset that no chapter lists has none (R519). -/
def findReg (off : Nat) : Option Hit := firstHit off (Reg.inBlock (off / 0x10000))

/-- Index `n` of a hit, 0 where it has fewer. -/
def Hit.i (h : Hit) (n : Nat) : Nat := h.ix.getD n 0

/-- The reset value of one field, with the values that depend on the register's index: HIF_TEN[0] and TD_CFG[0].EN are fixed
(R62, Table 07-18), RING_RT[0] reads 0, SW_OQ_CFG and PWR_BRK_CFG differ by index (Tables 13-6, 19-13). -/
def rowReset (h : Hit) (f : FRow) : Nat :=
  match h.reg with
  | .HIF_TEN => if h.i 0 = 0 then (if f.lo = 31 ∨ f.lo = 29 then 1 else 0) else f.reset
  | .TD_CFG => if h.i 0 = 0 ∧ f.lo = 31 then 1 else f.reset
  | .RING_RT => if h.i 0 = 0 then 0 else f.reset
  | .SW_OQ_CFG => if f.lo = 24 ∧ 6 ≤ h.i 0 % 8 then 0 else f.reset
  | .PWR_BRK_CFG => if f.lo = 0 ∧ 2 ≤ h.i 0 then 0x7D else f.reset
  | _ => f.reset

/-- A register word at power-on reset: each field at its reset value (R9, R525), reserved bits zero. -/
def regReset (off : Nat) : Word :=
  match findReg off with
  | none => 0
  | some h => BitVec.ofNat 32
      ((h.reg.rows.filter fun f => f.word = h.word).foldl (fun w f => w + rowReset h f * 2 ^ f.lo) 0)

/-- The stored word at a BAR0 offset. -/
def State.word (s : State) (off : Nat) : Nat := (NMap.get regReset s.regs off).toNat

/-- Store a word. -/
def State.setWord (s : State) (off v : Nat) : State :=
  { s with regs := NMap.set regReset s.regs off (BitVec.ofNat 32 v) }

/-- The value of a field. -/
def State.rd (s : State) (f : Fld) : Nat := bits (s.word f.off) f.lo f.width

/-- A field as a flag. -/
def State.flag (s : State) (f : Fld) : Bool := s.rd f ≠ 0

/-- Set a field. -/
def State.wr (s : State) (f : Fld) (v : Nat) : State := s.setWord f.off (setBits (s.word f.off) f.lo f.width v)

/-- Step a counter field by `k`; it saturates at its largest value (R166, R222, R260, R304, R334, R371). -/
def State.inc (s : State) (f : Fld) (k : Nat := 1) : State := s.wr f (satAdd f.width (s.rd f) k)

/-- Send something out. -/
def State.emit (s : State) (e : Emit) : State := { s with emitted := s.emitted ++ [e] }

/-- A free value of 64 bits, and the state that has drawn it (log entry 1). -/
def State.draw (s : State) : Nat × State := ((Config.freeValue s.drawn).toNat, { s with drawn := s.drawn + 1 })

/-- One bit of a register that holds a bit per item: bit `b` counted from the register's first word at `off`. -/
def bitFld (off b : Nat) : Fld := ⟨off + 4 * (b / 32), b % 32, 1⟩

/-- A little-endian number held in `n` words from `off` (R4). -/
def State.words (s : State) (off : Nat) : Nat → Nat
  | 0 => 0
  | n + 1 => s.word off + 2 ^ 32 * s.words (off + 4) n

/-- Store a little-endian number in `n` words from `off` (R4). -/
def State.setWords (s : State) (off : Nat) : Nat → Nat → State
  | 0, _ => s
  | n + 1, v => (s.setWord off (v % 2 ^ 32)).setWords (off + 4) n (v / 2 ^ 32)

/-- The local timebase in whole nanoseconds. -/
def State.ns (s : State) : Nat := s.now / 65536

end Sys2Proof.Machine
end

