-- ==== Sys2Proof/Machine/Clock.lean ====
section
/-!
DEFINITION. Time values and domains (R191 to R193): a time is counted in units of 2^-16 ns; its 96-bit form, its nanosecond
count, and the value a domain has at the present local time.
-/

namespace Sys2Proof.Machine

/-- The 96-bit form of a time (Table 07-1): FRAC in [15:0], NS in [47:16], SEC in [95:48]. -/
def timeEnc (u : Nat) : Nat :=
  u % 65536 + (u / 65536 % 1000000000) * 2 ^ 16 + (u / 65536 / 1000000000 % 2 ^ 48) * 2 ^ 48

/-- The time that a 96-bit form names. -/
def timeDec (v : Nat) : Nat := (v / 2 ^ 48 * 1000000000 + bits v 16 32) * 65536 + v % 65536

/-- The nanosecond count of a time (R193). -/
def nsCount (u : Nat) : Nat := u / 65536 % 2 ^ 64

/-- What `d` units of local time are in a domain of rate `rate` (units of 2^-14 ppb): `d` and its correction, towards minus infinity. -/
def scaled (d : Nat) (rate : Int) : Int := (d : Int) + ((d : Int) * rate).fdiv (2 ^ 14 * 1000000000)

/-- The value of a domain at local time `now`. -/
def Domain.value (m : Domain) (now : Nat) : Nat := ((m.base : Int) + scaled (now - m.at_) m.rate).toNat

def State.domain (s : State) (d : Nat) : Domain := NMap.get (fun _ => {}) s.td.dom d

def State.setDomain (s : State) (d : Nat) (m : Domain) : State :=
  { s with td := { s.td with dom := NMap.set (fun _ => {}) s.td.dom d m } }

/-- STATE codes of TD_STAT (Table 07-23). -/
abbrev dDisabled : Nat := 0
abbrev dFree : Nat := 1
abbrev dAcquiring : Nat := 2
abbrev dLocked : Nat := 3
abbrev dHoldover : Nat := 4

/-- Domain `d` now, in units of 2^-16 ns; a DISABLED domain reads zero (Table 07-3). -/
def State.tdNow (s : State) (d : Nat) : Nat :=
  if d < 8 ∧ ¬ s.flag (R.TD_CFG_EN d) then 0 else (s.domain d).value s.now

/-- The domain restarted at its present value, so that a change of rate or offset acts from now on. -/
def State.rebase (s : State) (d : Nat) : Domain :=
  { s.domain d with base := (s.domain d).value s.now, at_ := s.now }

/-- Domain `d` at a stamp of the local timebase, which may lie a little before or after now. -/
def State.tdStamp (s : State) (d t : Nat) : Nat :=
  let m := s.domain d
  ((s.tdNow d : Int) + (t - s.now) + (((t : Int) - s.now) * m.rate).fdiv (2 ^ 14 * 1000000000)).toNat

/-- The 96-bit form of domain `d` now. -/
def State.tdEnc (s : State) (d : Nat) : Nat := timeEnc (s.tdNow d)

/-- The 12 bytes of domain `d` now. -/
def State.tdBytes (s : State) (d : Nat) : List Byte := leBytes 12 (s.tdEnc d)

end Sys2Proof.Machine
end

