-- ==== Sys2Proof/Machine/Ops.lean ====
section
/-!
DEFINITION. Operations that several families share: node identity, logs, completion entries and tags, frames and the switch
core, responses.
-/

namespace Sys2Proof.Machine

/-! ### Accessors of the sparse maps -/

def State.pair (s : State) (p : Nat) : Pair := NMap.get (fun _ => {}) s.hif.pairs p
def State.setPair (s : State) (p : Nat) (x : Pair) : State :=
  { s with hif := { s.hif with pairs := NMap.set (fun _ => {}) s.hif.pairs p x } }
def State.slot (s : State) (t : Nat) : Slot := NMap.get (fun _ => {}) s.hif.slots t
def State.setSlot (s : State) (t : Nat) (x : Slot) : State :=
  { s with hif := { s.hif with slots := NMap.set (fun _ => {}) s.hif.slots t x } }
def State.tag (s : State) (k : Nat) : Tag := NMap.get (fun _ => {}) s.hif.tags k
def State.setTag (s : State) (k : Nat) (x : Tag) : State :=
  { s with hif := { s.hif with tags := NMap.set (fun _ => {}) s.hif.tags k x } }
def State.port (s : State) (i : Nat) : Port := NMap.get (fun _ => {}) s.ring.ports i
def State.setPort (s : State) (i : Nat) (x : Port) : State :=
  { s with ring := { s.ring with ports := NMap.set (fun _ => {}) s.ring.ports i x } }
def State.point (s : State) (n : Nat) : Point := NMap.get (fun _ => {}) s.pts.recs n
def State.setPoint (s : State) (n : Nat) (x : Point) : State :=
  { s with pts := { s.pts with recs := NMap.set (fun _ => {}) s.pts.recs n x } }
def State.topo (s : State) (ring st : Nat) : Topo := NMap.get (fun _ => {}) s.ring.topo (ring * 256 + st)
def State.setTopo (s : State) (ring st : Nat) (x : Topo) : State :=
  { s with ring := { s.ring with topo := NMap.set (fun _ => {}) s.ring.topo (ring * 256 + st) x } }

/-- Channel `c` of engine `e`. -/
def State.chan (s : State) (e c : Nat) : Chan := NMap.get (fun _ => {}) s.eng.chans (16 * e + c)
def State.setChan (s : State) (e c : Nat) (x : Chan) : State :=
  { s with eng := { s.eng with chans := NMap.set (fun _ => {}) s.eng.chans (16 * e + c) x } }

/-! ### Node identity (R13, R25) -/

/-- A node ID from ring and station (Table 01-1). -/
def nodeId (ring station : Nat) : Nat := ring * 256 + station

/-- The E1/W1 ports form a second ring (Table 01-8). -/
def State.junction (s : State) : Bool := s.flag R.RING_NODE_ID1_JUNCTION_EN

/-- The hub's node ID on its E0/W0 ring, as in effect. -/
def State.node0 (s : State) : Nat := nodeId (s.rd R.RING_NODE_STATE_RING) (s.rd R.RING_NODE_STATE_STATION)

/-- The hub's node ID on its E1/W1 ring, as in effect. -/
def State.node1 (s : State) : Nat := nodeId s.ring.ring1 s.ring.station1

/-- Ring `n`'s ring ID in effect. -/
def State.ringId (s : State) (n : Nat) : Nat := if n = 0 then s.rd R.RING_NODE_STATE_RING else s.ring.ring1

/-- The station in effect on ring `n`. -/
def State.station (s : State) (n : Nat) : Nat := if n = 0 then s.rd R.RING_NODE_STATE_STATION else s.ring.station1

/-- A destination is this hub under either of its node IDs (R13). -/
def State.isMine (s : State) (node : Nat) : Bool :=
  (node = s.node0 ∧ s.station 0 ≠ 0) ∨ (s.junction ∧ node = s.node1 ∧ s.station 1 ≠ 0)

/-- The hub is in the safe state. -/
def State.inSafe (s : State) : Bool := s.flag R.FLT_SAFE_SAFE

/-! ### Logs (R468 to R470) -/

/-- Add a record to a log: it takes the next number, unless the SRAM buffer of 256 records is full and the record is lost. -/
def Log.add (l : Log) (bytes : List Byte) : Log :=
  if 256 ≤ l.buffer.length then l else
    { l with next := (l.next + 1) % 2 ^ 32, buffer := l.buffer ++ [⟨l.next, bytes⟩] }

/-- Write a fault-log record (Table 18-4). -/
def State.logFault (s : State) (type bit cls rep detail : Nat) : State :=
  let bytes := leBytes 1 type ++ leBytes 1 bit ++ leBytes 1 cls ++ leBytes 1 rep ++ s.tdBytes 0
    ++ leBytes 4 (s.rd R.ID_BOOTS_BOOTS) ++ leBytes 4 detail ++ leBytes 8 0
  let s' := { s with flt := { s.flt with fault := s.flt.fault.add bytes } }
  if 256 ≤ s.flt.fault.buffer.length then s'.inc R.FLT_LOG_LOST_FAULT else s'

/-- Write an audit record (R470) with a given time: TYPE, bytes 0x01 to 0x03, the time, bytes 0x10 to 0x17, and the requester. -/
def State.logAuditAt (s : State) (time type b1 b2 : Nat) (arg : Nat) (node tn : Nat) : State :=
  let bytes := leBytes 1 type ++ leBytes 1 b1 ++ leBytes 1 b2 ++ leBytes 1 0 ++ leBytes 12 time
    ++ leBytes 8 arg ++ leBytes 4 (node % 2 ^ 18 + tn % 16 * 2 ^ 18) ++ leBytes 4 0
  let s' := { s with flt := { s.flt with audit := s.flt.audit.add bytes } }
  if 256 ≤ s.flt.audit.buffer.length then s'.inc R.FLT_LOG_LOST_AUDIT else s'

/-- Write an audit record stamped with TD0 now. -/
def State.logAudit (s : State) (type b1 b2 : Nat) (arg : Nat) (node tn : Nat) : State := s.logAuditAt (s.tdEnc 0) type b1 b2 arg node tn

/-! ### Slots and host memory (R62, R63, R67) -/

/-- KIND codes of HIF_TEN (Table 03-1). -/
abbrev kPf0 : Nat := 1
abbrev kVf : Nat := 2
abbrev kRing : Nat := 3

/-- A node ID names a station that a register entry may name: ring not 0, station not 0 or 255. An entry that names another loads as not
valid at COMMIT, and its block treats it so before (R531). -/
def nodeGood (n : Nat) : Bool := n / 256 ≠ 0 ∧ n % 256 ≠ 0 ∧ n % 256 ≠ 255

def State.kind (s : State) (t : Nat) : Nat := s.rd (R.HIF_TEN_KIND t)
/-- Slot `t` is enabled (Table 03-1). -/
def State.slotOn (s : State) (t : Nat) : Bool :=
  s.flag (R.HIF_TEN_EN t) ∧ (s.kind t = kRing → nodeGood (s.rd (R.HIF_TEN_HOST_NODE t)))
/-- Alias `t` is valid: it names a station, and no lower valid alias names the same tenant (R65). -/
def State.aliasBase (s : State) (t : Nat) : Bool := s.flag (R.HIF_ALIAS_VALID t) ∧ nodeGood (s.rd (R.HIF_ALIAS_NODE t))
def State.aliasOk (s : State) (t : Nat) : Bool :=
  s.aliasBase t ∧ ¬ (List.range t).any fun u => s.aliasBase u ∧ s.rd (R.HIF_ALIAS_NODE u) = s.rd (R.HIF_ALIAS_NODE t)
    ∧ s.rd (R.HIF_ALIAS_TENANT u) = s.rd (R.HIF_ALIAS_TENANT t)

/-- An IDE stream that protects function `t` is in the Secure state: its own, or the link's, number 16 (R425). -/
def State.ideSafe (s : State) (t : Nat) : Bool := t ∈ s.hif.ideSecure ∨ 16 ∈ s.hif.ideSecure
/-- The stream that accesses of function `t` go through has left the Secure state (R425): its own, or the link's where it has none of its own. -/
def State.ideGone (s : State) (t : Nat) : Bool := t ∈ s.hif.ideLost ∨ (16 ∈ s.hif.ideLost ∧ t ∉ s.hif.ideSecure)

/-- A write on behalf of slot `t` can be sent: always for kind RING; else the PCIe link is up, Bus Master Enable is set, the function's IDE
stream has not left the Secure state (R425), and with IDE_REQ a stream protecting the function is Secure (R91). -/
def State.canSend (s : State) (t : Nat) : Bool :=
  s.kind t = kRing ∨ (s.hif.pcieUp ∧ t ∈ s.hif.busMaster ∧ ¬ s.ideGone t ∧ (¬ s.flag R.SEC_CFG_IDE_REQ ∨ s.ideSafe t))

/-- A host address is usable by the slot: for kind RING bits [63:28] are zero (R67, R97). -/
def State.addrOk (s : State) (t a : Nat) : Bool := s.kind t ≠ kRing ∨ a < 2 ^ 28

end Sys2Proof.Machine

namespace Sys2Proof

/-! ### Frames and requests (Tables 05-4 to 05-8) -/

abbrev fSweep : Nat := 1
abbrev fReq : Nat := 2
abbrev fRsp : Nat := 3
abbrev fMsg : Nat := 4
abbrev fTun : Nat := 5
abbrev fTime : Nat := 6
abbrev fMgmt : Nat := 7

/-- REQ, RSP, MSG and TUN frames are replayed (Table 05-6). -/
def Frame.replayed (f : Frame) : Bool := f.typ = fReq ∨ f.typ = fRsp ∨ f.typ = fMsg ∨ f.typ = fTun

/-- The frame's bytes on the lane (Table 05-4), for cell and FIFO accounting. -/
def Frame.bytes (f : Frame) : Nat :=
  if f.typ = fSweep then
    32 + f.slices.foldl (fun n x => n + (32 + x.outPart.length + x.inPart.length + 7) / 8 * 8) 0
  else 32 + f.ext.length + f.payload.length + 16

/-- Cells of 256 bytes (R357). -/
def Frame.cells (f : Frame) : Nat := (f.bytes + 255) / 256

/-- The fabric address of a request (Table 01-2). -/
def Req.fa (r : Req) : Nat := r.node * 2 ^ 46 + r.space * 2 ^ 32 + r.off

/-- The REQ frame of a request (Tables 05-5 and 05-7). WRITE carries its data as payload and a zero OPERAND. -/
def Req.toFrame (r : Req) : Frame :=
  { typ := fReq, tc := r.tc, dst := r.node, tn := r.tn, src := r.src, gen := r.gen, tag := r.tag, td := r.td,
    op := r.op, sub := r.opx, arg := r.fa, payload := r.data,
    ext := (if r.op = 2 then leBytes 16 0 else slice r.operand 0 16) ++ leBytes 12 (if r.timed then r.time else 0)
      ++ leBytes 2 (bnat r.reissue * 2 ^ 15 + bnat r.idemp * 2 ^ 14 + bnat r.locked * 2 ^ 13 + bnat r.timed * 2 ^ 12
        + r.len % 2 ^ 12) ++ leBytes 2 r.lockId }

/-- The request that a REQ frame carries. -/
def Req.ofFrame (f : Frame) : Req :=
  let w := leAt f.ext 0x1C 2
  { origin := .ring, src := f.src, tn := f.tn, tag := f.tag, gen := f.gen, op := f.op, opx := f.sub,
    node := bits f.arg 46 18, space := bits f.arg 32 14, off := bits f.arg 0 32, len := bits w 0 12, tc := f.tc,
    ce := f.ce, timed := bit w 12, locked := bit w 13, idemp := bit w 14, reissue := bit w 15,
    lockId := leAt f.ext 0x1E 2, time := leAt f.ext 0x10 12, td := f.td, operand := slice f.ext 0 16,
    data := f.payload }

end Sys2Proof

namespace Sys2Proof.Machine

/-! ### The switch core's admission (R360, R361, R366, R368) -/

/-- MODE of SW_STAT. -/
abbrev mShared : Nat := 0
abbrev mDrain : Nat := 1
abbrev mVoq : Nat := 2

/-- Cells of queue `q` = 8 × output + class held in the shared buffer. -/
def State.depth (s : State) (q : Nat) : Nat :=
  (s.sw.queue.filter fun x => ¬ x.voq ∧ 8 * x.out + x.cls = q).foldl (fun n x => n + x.cells) 0

/-- Cells of the shared buffer in use outside the sweep reserve. -/
def State.cellsUsed (s : State) : Nat :=
  (s.sw.queue.filter fun x => ¬ x.voq).foldl (fun n x => n + x.cells) 0 + s.sw.orphans.length

/-- Reserved cells that queues have not used yet. -/
def State.reserved (s : State) : Nat :=
  (List.range 256).foldl (fun n q => n + (s.rd (R.SW_OQ_CFG_MIN q) - s.depth q)) 0

/-- Cells of input `i` in the VOQ reserve. -/
def State.voqUsed (s : State) (i : Nat) : Nat :=
  (s.sw.queue.filter fun x => x.voq ∧ x.inp = i).foldl (fun n x => n + x.cells) 0

/-- Cells of input `i`'s list for an output and class. -/
def State.voqList (s : State) (i o c : Nat) : Nat :=
  (s.sw.queue.filter fun x => x.voq ∧ x.inp = i ∧ x.out = o ∧ x.cls = c).foldl (fun n x => n + x.cells) 0

/-- The admission rule of R360, or of R368 outside SHARED. -/
def State.admits (s : State) (i o c n : Nat) : Bool :=
  let q := 8 * o + c
  if s.rd R.SW_STAT_MODE = mShared then
    let own := s.rd (R.SW_OQ_CFG_MIN q) - s.depth q
    s.depth q + n ≤ s.rd (R.SW_OQ_LIM_MAX q) ∧ n - own ≤ 61184 - (s.cellsUsed + s.reserved)
  else s.voqUsed i + n ≤ 512

/-- Admit a frame: it is marked CE when its queue exceeds CE_THR, or its list holds more than 128 cells (R366, R368). -/
def State.admitFrame (s : State) (i o c : Nat) (f : Frame) : State :=
  let q := 8 * o + c
  let shared := s.rd R.SW_STAT_MODE = mShared
  let thr := s.rd (R.SW_OQ_LIM_CE_THR q)
  let mark : Bool := f.typ ≠ fSweep ∧ (if shared then thr ≠ 0 ∧ thr < s.depth q else 128 < s.voqList i o c)
  let x : QFrame := ⟨i, o, c, f.cells, 0, false, !shared, if mark then { f with ce := true } else f⟩
  let s := { s with sw := { s.sw with queue := s.sw.queue ++ [x] } }
  let s := if mark then s.inc (R.SW_OQ_CNT_MARKED q) else s
  if s.rd (R.SW_OQ_STAT_PEAK q) < s.depth q then s.wr (R.SW_OQ_STAT_PEAK q) (s.depth q) else s

/-- In DOZE a frame for a ring output waits in the transit store of that output, which holds 288 KiB less what is kept for a SWEEP copy; one that
finds it full is discarded and counted at the port it came on (R494). -/
def State.toTransit (s : State) (i o : Nat) (f : Frame) : State :=
  let p := s.port o
  if p.transit.foldl (fun n x => n + x.bytes) 0 + f.bytes ≤ 288 * 1024 - 260128 then s.setPort o { p with transit := p.transit ++ [f] }
  else if i < 4 then s.setPort i { s.port i with discard := satAdd 16 (s.port i).discard 1 } else s

/-- A frame reaches input `i` for output `o`: it is admitted, or its input discards or holds it (R361). A held frame holds back
later frames of its input for the same output and class. In DOZE the switch core is off (R494). -/
def State.submit (s : State) (i o : Nat) (f : Frame) : State :=
  if s.pwr.asleep then (if o < 2 then s.toTransit i o f else s)
  else
  let c := f.tc
  let behind := s.sw.held.any fun x => x.inp = i ∧ x.out = o ∧ x.cls = c
  if s.admits i o c f.cells ∧ ¬ behind then s.admitFrame i o c f
  else
    let s := s.inc (R.SW_OQ_CNT_REFUSED (8 * o + c))
    if i < 4 then s.inc (R.SW_IN_CNT_DROP i)
    else
      let s := { s with sw := { s.sw with held := s.sw.held ++ [({ inp := i, out := o, cls := c, cells := f.cells, frame := f } : QFrame)] } }
      s.inc (R.SW_IN_CNT_HOLD i)

/-! ### Blocks of the hub as switch ports (Table 13-1) -/

abbrev bHost : Nat := 5
abbrev bPoints : Nat := 26
abbrev bTime : Nat := 27
abbrev bMgmt : Nat := 28
abbrev bBridge : Nat := 29

/-- The block that serves a request by its space. -/
def reqBlock (space off : Nat) : Nat :=
  if space < 64 then bBridge
  else if space = 0x100 then bPoints
  else if space = 0x300 then
    (if 0x10 ≤ off / 2 ^ 24 ∧ off / 2 ^ 24 ≤ 0x1F then 6 + off / 2 ^ 24 - 0x10 else bPoints)
  else if space = 0x400 then bHost else bMgmt

/-! ### Routing (R27, R28) -/

/-- A destination with ring 0 replaced by the hub's own ring ID (R16). -/
def State.absNode (s : State) (node : Nat) : Nat := if node / 256 = 0 then nodeId (s.ringId 0) (node % 256) else node

/-- The direction to a station of ring `n` (R28): 0 ring A, 1 ring B, none when it is unreachable. -/
def State.direction (s : State) (n st : Nat) : Option Nat :=
  let a := (s.topo n st).hopsA
  let b := (s.topo n st).hopsB
  if a = 0xFF ∧ b = 0xFF then none
  else if b = 0xFF ∨ (a ≠ 0xFF ∧ a ≤ b) then some 0 else some 1

/-- The lane of ring `n` in direction `d`: ring A leaves through E, ring B through W. -/
def lane (n d : Nat) : Nat := 2 * n + d

/-- JOINED of ring `n`. -/
def joinedFld (n : Nat) : Fld := if n = 0 then R.RING_NODE_STATE_JOINED else R.RING_NODE_STATE_JOINED1
def State.joined (s : State) (n : Nat) : Bool := s.flag (joinedFld n)

/-- Where a request goes (R27). -/
inductive Route where
  | here | noRoute | broadcast (ring : Nat) | to (ring station dir : Nat)
deriving DecidableEq, Repr

/-- A station on one of the hub's rings, by the direction rule; not PRESENT or unreachable gives NO_ROUTE (R27 step 4, R28). Before it has joined the
ring the hub emits no frame there but those of the join (R31), and finds no route (log 76). -/
def State.onRing (s : State) (n st : Nat) (check : Bool) : Route :=
  if ¬ s.joined n ∨ (check ∧ ¬ (s.topo n st).present) then .noRoute
  else match s.direction n st with
    | none => .noRoute
    | some d => .to n st d

/-- Step 5 of R27, which a junction also applies under R29: ring `r` by RING_RT. -/
def State.byTable (s : State) (r st : Nat) : Route :=
  if ¬ s.flag (R.RING_RT_VALID r) then .noRoute
  else
    let side := if s.junction then s.rd (R.RING_RT_SIDE r) else 0
    let next := s.rd (R.RING_RT_NEXT r)
    if next = 0 then (if r = s.ringId side then s.onRing side st true else .noRoute)
    else s.onRing side next false

/-- The issuing hub's routing of a destination node ID for a request that may (`bc`) or may not be a broadcast (R16, R18, R27). -/
def State.route (s : State) (node : Nat) (bc : Bool) : Route :=
  let r0 := node / 256
  let st := node % 256
  let r := if r0 = 0 then s.ringId 0 else r0
  if (r0 = 0 ∧ st = 0) ∨ s.isMine (nodeId r st) then .here
  else if st = 0 ∨ r = 0 then .noRoute
  else if st = 255 then
    if ¬ bc then .noRoute
    else if r = s.ringId 0 ∧ s.joined 0 then .broadcast 0
    else if s.junction ∧ r = s.ringId 1 ∧ s.joined 1 then .broadcast 1 else .noRoute
  else if r = s.ringId 0 then s.onRing 0 st true
  else if s.junction ∧ r = s.ringId 1 then s.onRing 1 st true
  else s.byTable r st

/-- Send a frame that block `inp` builds to a node: the destination gets its ring ID and the frame goes to the switch core for the
lane that the direction rule gives. A frame with no route is not sent. -/
def State.sendTo (s : State) (inp node : Nat) (f : Frame) : State :=
  match s.route node false with
  | .to n _ d => s.submit inp (lane n d) { f with dst := s.absNode node }
  | _ => s

/-! ### Completion entries (R73 to R75, R84, R91, R99 to R103) -/

/-- Depth of the pair's CQ and SQ (R70). -/
def State.cqDepth (s : State) (p : Nat) : Nat := 2 ^ s.rd (R.Q_CFG_CQ_LOG2 (p / 32) (p % 32))
def State.sqDepth (s : State) (p : Nat) : Nat := 2 ^ s.rd (R.Q_CFG_SQ_LOG2 (p / 32) (p % 32))

/-- Free CQ entries: (CQ_HEAD − tail − 1) mod depth (R73). -/
def State.cqFree (s : State) (p : Nat) : Nat :=
  let d := s.cqDepth p
  ((s.pair p).cqHead + 2 * d - (s.pair p).tail - 1) % d

/-- A 64-bit address held in two words, from the fields of its upper and lower word. -/
def State.rdAddr (s : State) (hi lo : Fld) : Nat := s.rd hi * 2 ^ 32 + s.rd lo * 2 ^ lo.lo

def State.cqBase (s : State) (p : Nat) : Nat :=
  s.rdAddr (R.Q_CQ_BASE_ADDR_W1 (p / 32) (p % 32)) (R.Q_CQ_BASE_ADDR_W0 (p / 32) (p % 32))
def State.sqBase (s : State) (p : Nat) : Nat :=
  s.rdAddr (R.Q_SQ_BASE_ADDR_W1 (p / 32) (p % 32)) (R.Q_SQ_BASE_ADDR_W0 (p / 32) (p % 32))
def State.dbAddr (s : State) (p : Nat) : Nat :=
  s.rdAddr (R.Q_DB_ADDR_ADDR_W1 (p / 32) (p % 32)) (R.Q_DB_ADDR_ADDR_W0 (p / 32) (p % 32))

/-- The 32 bytes of an entry (Tables 04-3 to 04-5) with the SQ head and phase of its write. -/
def CqEntry.bytes (e : CqEntry) (head : Nat) (phase : Bool) : List Byte :=
  slice e.body 0 24 ++ leBytes 2 head ++ leBytes 1 e.status ++ leBytes 1 e.kind
    ++ leBytes 4 (bnat phase * 2 ^ 31 + bnat e.overrun * 2 ^ 30 + bnat e.late * 2 ^ 29 + bnat e.reissued * 2 ^ 28
      + bnat e.trunc * 2 ^ 27 + e.node % 2 ^ 18)

/-- A request to space 0x0400 of HOST_NODE on behalf of slot `t` of kind RING, at a byte offset of the region of its HOST_TN (R62 to R64, R67).
Its TAG, GEN and traffic class are free values (log 50). Of an address whose bits [63:28] are not zero, which R67 forbids and gives no effect, bits
[27:0] count (DESIGN CHOICE, log 50). A request with no route is counted in MISS (R25). -/
def State.hostReq (s : State) (t op addr len : Nat) (data : List Byte) : State :=
  let (v, s) := s.draw
  let node := s.absNode (s.rd (R.HIF_TEN_HOST_NODE t))
  let r : Req :=
    { src := s.node0, tn := t, tag := v % 8192, gen := v / 8192 % 8, tc := v / 65536 % 8, op := op, node := node, space := 0x400
      off := s.rd (R.HIF_TEN_HOST_TN t) * 2 ^ 28 + addr % 2 ^ 28, len := len, data := data }
  if s.route node false = .noRoute then s.inc R.RING_NOROUTE_CNT_MISS else s.sendTo bHost node r.toFrame

/-- Read the memory of slot `t` (R63). -/
def State.hostRead (s : State) (t addr len : Nat) (what : String) : State :=
  if s.kind t = kRing then s.hostReq t 1 addr len [] else s.emit (.hostRead t addr len what)

/-- Write the memory of slot `t` (R63). -/
def State.hostWrite (s : State) (t addr : Nat) (b : List Byte) : State :=
  if s.kind t = kRing then s.hostReq t 2 addr b.length b else s.emit (.hostWrite t addr b)

/-- Raise MSI-X vector `vec` of function `t`: the interrupt is sent as its table entry says, or while the vector is masked or nothing can be sent its
PBA bit is set (R83; the PCIe rules are PRESUMED, log 51). -/
def State.raiseVector (s : State) (t vec : Nat) : State :=
  let k := 128 * t + vec % 128
  if k ∈ s.hif.msixOpen ∧ s.canSend t then
    let e := NMap.get (fun _ => (0, 0)) s.hif.msixTab k
    s.emit (.msix t (vec % 128) e.1 e.2)
  else if k ∈ s.hif.msixPend then s
  else { s with hif := { s.hif with msixPend := s.hif.msixPend ++ [k] } }

/-- Signal vector `vec` of slot `t`: MSI-X for PF0 and VF, an INTERRUPT MSG to HOST_NODE for RING (R83, Table 05-9). -/
def State.signal (s : State) (t vec : Nat) (err : Bool) : State :=
  if s.kind t = kRing then
    s.sendTo 5 (s.rd (R.HIF_TEN_HOST_NODE t))
      { typ := fMsg, tc := 6, tn := s.rd (R.HIF_TEN_HOST_TN t), src := s.node0, op := 2,
        payload := leBytes 1 (vec % 128 + bnat err * 128) ++ leBytes 3 0 }
  else s.raiseVector t vec

/-- Signal HIF_ERR_VEC of slot `t` when it is enabled (R85). -/
def State.signalErr (s : State) (t : Nat) : State :=
  if s.flag (R.HIF_ERR_VEC_EN t) then s.signal t (s.rd (R.HIF_ERR_VEC_VEC t)) true else s

/-- Retire a tag (R87, R88): its generation steps; a normal retirement frees it, an abnormal one quarantines it for its slot. -/
def State.retire (s : State) (k : Nat) (abnormal : Bool) : State :=
  match (s.tag k).use with
  | .flight t => s.setTag k ⟨((s.tag k).gen + 1) % 8, if abnormal then .quarantine t.slot else .free⟩
  | _ => s

/-- Send the interrupt of a CQ and restart its count. For a slot of kind RING the MSG waits until the entry writes sent so far are
confirmed (R83). DESIGN CHOICE (log 52): its VEC is the serving hub's Q_CFG.VEC, which Table 03-15 calls unused for kind RING. -/
def State.interrupt (s : State) (p : Nat) : State :=
  let x := s.pair p
  if s.kind (p / 32) = kRing ∧ x.unconf ≠ 0 then s.setPair p { x with coal := 0, irqDue := x.irqDue ++ [x.unconf] }
  else (s.setPair p { x with coal := 0 }).signal (p / 32) (s.rd (R.Q_CFG_VEC (p / 32) (p % 32))) false

/-- Count an entry written to a CQ whose VEC_EN is 1, and interrupt when COUNT is reached or the status is not OK (R84). -/
def State.coalesce (s : State) (p : Nat) (status : Nat) : State :=
  let i := p / 32
  let j := p % 32
  if ¬ s.flag (R.Q_CFG_VEC_EN i j) then s
  else
    let x := s.pair p
    let n := x.coal + 1
    if s.rd (R.Q_COAL_COUNT i j) ≤ n ∨ status ≠ 0 then s.interrupt p
    else s.setPair p { x with coal := n, coalAt := if x.coal = 0 then s.ns else x.coalAt }

/-- Write one entry into the CQ (R74, R99, R103): the write, then tail and phase, the poll interval (R80), the tag's retirement
(R88) and the interrupt. -/
def State.putEntry (s : State) (p : Nat) (e : CqEntry) : State :=
  let x := s.pair p
  let s := s.hostWrite (p / 32) (s.cqBase p + 32 * x.tail) (e.bytes x.head x.phase)
  let wrap := x.tail + 1 = s.cqDepth p
  let s := s.setPair p { x with
    tail := if wrap then 0 else x.tail + 1, phase := if wrap then !x.phase else x.phase
    unconf := if s.kind (p / 32) = kRing then x.unconf + 1 else x.unconf }
  let s := s.setSlot (p / 32) { s.slot (p / 32) with interval := 250 }
  let s := match e.tag with | some k => s.retire k e.abn | none => s
  s.coalesce p e.status

/-- The PAIR_STOPPED entry (R102). -/
def stoppedEntry (reason : Nat) : CqEntry := { kind := 2, body := leBytes 8 reason, status := 8 }

/-- A pair in RUN enters STOPPED with a reason (R91, R85), owing a PAIR_STOPPED entry or none. -/
def State.stopFor (s : State) (p reason : Nat) (entry : Bool) : State :=
  if (s.pair p).st = .run then
    (s.setPair p { s.pair p with st := .stopped, reason := reason, asked := 0, stopDue := entry }).signalErr (p / 32)
  else s

/-- A stop for a cause of Table 03-19: one for another cause than CQ_WRITE owes a PAIR_STOPPED entry. -/
def State.stop (s : State) (p reason : Nat) : State := s.stopFor p reason (reason ≠ 4)

/-- Write what waits for the pair's CQ while it has room and can be written: completions in order, then the PAIR_STOPPED entry
(R75, R91). `n` bounds the entries written. -/
def State.drainCq (s : State) (p : Nat) : Nat → State
  | 0 => s
  | n + 1 =>
    let x := s.pair p
    if x.st = .idle ∨ s.cqFree p = 0 then s
    else match x.waiting with
      | e :: r =>
        if ¬ s.canSend (p / 32) then s.stop p 4
        else ((s.setPair p { x with waiting := r }).putEntry p e).drainCq p n
      | [] =>
        if x.stopDue ∧ s.canSend (p / 32) then (s.setPair p { x with stopDue := false }).putEntry p (stoppedEntry x.reason)
        else s

/-- A completion entry for a pair: it is written now if the CQ has room, else it waits and keeps its tag (R75). -/
def State.post (s : State) (p : Nat) (e : CqEntry) : State :=
  let s := s.setPair p { s.pair p with waiting := (s.pair p).waiting ++ [e] }
  s.drainCq p ((s.pair p).waiting.length + 1)

/-! ### Transactions (R100, R126 to R129) -/

/-- The outcome of an operation, as a RSP or a TRANSACTION entry carries it (Tables 04-4, 05-8). `exec` is EXEC_TIME, 96 bits, and `node` the SRC
of the RSP. -/
structure Outc where
  status : Nat := 0
  result : Nat := 0
  xfer : Nat := 0
  exec : Nat := 0
  late : Bool := false
  trunc : Bool := false
  data : List Byte := []
  node : Option Nat := none
deriving DecidableEq, Repr

/-- Status codes (Table 04-6). -/
abbrev stOk : Nat := 0x00
abbrev stTimeout : Nat := 0x01
abbrev stNoRoute : Nat := 0x02
abbrev stDenied : Nat := 0x03
abbrev stBusNak : Nat := 0x04
abbrev stBusError : Nat := 0x05
abbrev stLockConflict : Nat := 0x06
abbrev stPathLost : Nat := 0x07
abbrev stAborted : Nat := 0x08
abbrev stSafe : Nat := 0x09
abbrev stDataBad : Nat := 0x0A
abbrev stUnsupported : Nat := 0x0B

/-- Opcodes (Table 04-8). -/
abbrev opRead : Nat := 1
abbrev opWrite : Nat := 2
abbrev opRmw : Nat := 3
abbrev opLock : Nat := 4
abbrev opUnlock : Nat := 5
abbrev opSend : Nat := 6
abbrev opRecv : Nat := 7
abbrev opSubscribe : Nat := 8
abbrev opUnsubscribe : Nat := 9
abbrev opTableLoad : Nat := 10
abbrev opFence : Nat := 11
abbrev opQuery : Nat := 12
abbrev opPower : Nat := 13
abbrev opUpdate : Nat := 14

/-- The TRANSACTION entry of a transaction (Table 04-4). -/
def Tx.entry (t : Tx) (k : Nat) (o : Outc) : CqEntry :=
  { kind := 0, status := o.status, late := o.late, reissued := t.reissued, trunc := o.trunc, tag := some k,
    body := leBytes 8 o.result ++ leBytes 2 t.cid ++ leBytes 2 o.xfer ++ leBytes 12 o.exec }

/-- The data of a READ, RECV or QUERY goes to HADDR, or inline into RESULT, before the entry (R84, R98, R107). A write that cannot be
sent ends the transaction with BUS_ERROR (R92). -/
def State.deliverData (s : State) (t : Tx) (o : Outc) : State × Outc :=
  if o.data = [] ∨ o.status ≠ stOk then (s, o)
  else if t.req.inlined ∧ t.req.op = opRead then (s, { o with result := leNat (o.data.take 8) })
  else if s.canSend t.slot then (s.hostWrite t.slot t.haddr o.data, o)
  else (s, { o with status := stBusError, xfer := 0, result := 0 })

/-- The entry of a transaction waits until the memory of a slot of kind RING has confirmed its data (R84, R92). -/
def State.confirms (s : State) (t : Tx) (o : Outc) : Bool :=
  s.kind t.slot = kRing ∧ o.data ≠ [] ∧ o.status = stOk ∧ ¬ (t.req.inlined ∧ t.req.op = opRead)

/-- The entry of a transaction whose data could not be written (R92). -/
def CqEntry.busError (e : CqEntry) : CqEntry :=
  { e with status := stBusError, body := leBytes 8 0 ++ slice e.body 8 2 ++ leBytes 2 0 ++ slice e.body 12 12 }

/-- The answer to fetch `seq` of remote operand `j` has come (R377); one to an earlier fetch, or after the deadline, is discarded. -/
def State.answerRop (s : State) (j seq status : Nat) (data : List Byte) : State :=
  let x := NMap.get (fun _ => {}) s.rfx.rops j
  if x.out ≠ some seq ∨ x.settled then s
  else { s with rfx := { s.rfx with rops := NMap.set (fun _ => {}) s.rfx.rops j { x with out := none, resp := some (status, data) } } }

/-- Change the open lock sequences. -/
def State.mapLocks (s : State) (f : List LockSeq → List LockSeq) : State := { s with hif := { s.hif with locks := f s.hif.locks } }

/-- What a LOCK's outcome does to its sequence (R111, R112): one without LOCKED that ends well opens a sequence; one with LOCKED that ends well
has its lock time counted, and any other leaves the buses of the sequence as they were before; the UNLOCK releases the bus all the same (R348). A
sequence opened for a reset pair is closed (R113). -/
def State.lockEnds (s : State) (t : Tx) (o : Outc) : State :=
  let r := t.req
  let until_ := s.ns + leAt r.operand 0 4 * 1000
  let mine := fun (q : LockSeq) => q.slot = t.slot ∧ q.id = r.lockId
  if ¬ r.locked then
    if o.status ≠ stOk then s
    else s.mapLocks (· ++ [{ id := o.result % 65536, slot := t.slot, pair := t.pair, buses := [(r.node, r.space)], sent := [(r.node, r.space)], closing := t.detached
                             ends := [until_] }])
  else if o.status = stOk then s.mapLocks fun l => l.map fun q => if mine q then { q with ends := q.ends ++ [until_] } else q
  else s.mapLocks fun l => l.map fun q => if mine q then { q with buses := q.buses.filter (· ≠ (r.node, r.space)) } else q

/-- What a response says of lock sequences and of subscriptions held at another hub, which send their deliveries from the node that answered (R13,
R111, R112, R117, R118). A SUBSCRIBE that replaces one leaves what is pending (R61); one to another point or pair that is given a number known here
has taken the place of a subscription that ended there unseen. -/
def State.noteEnd (s : State) (t : Tx) (o : Outc) : State :=
  let r := t.req
  let node := o.node.getD r.node
  let num := if r.op = opSubscribe then o.result % 32768 else leAt r.operand 0 2
  let same := fun (u : RemSub) => u.slot = t.slot ∧ u.node = node ∧ u.num = num
  let other := s.pts.remote.filter fun u => ¬ same u
  if r.op = opLock then s.lockEnds t o
  else if r.locked ∧ (r.op = opRead ∨ r.op = opWrite ∨ r.op = opRmw) ∧ o.status = stAborted then
    s.mapLocks fun l => l.map fun q => if q.slot = t.slot ∧ q.id = r.lockId then { q with expired := true } else q
  else if ¬ t.remote ∨ o.status ≠ stOk then s
  else if r.op = opSubscribe ∧ ¬ t.detached then
    let u : RemSub := { node := node, slot := t.slot, num := num, point := r.off / 64, pair := leAt r.operand 8 1 % 32 }
    if s.pts.remote.any fun v => same v ∧ v.point = u.point ∧ v.pair = u.pair then s
    else { s with pts := { s.pts with remote := other ++ [u] } }
  else if r.op = opUnsubscribe then { s with pts := { s.pts with remote := other } }
  else s

/-- A transaction ends with an outcome (R129): data and entry, or nothing when it is detached (R90). -/
def State.complete (s : State) (k : Nat) (t : Tx) (o : Outc) : State :=
  if t.detached then s.retire k false
  else match t.rop with
  | some j => (s.retire k false).answerRop j t.seq o.status o.data
  | none =>
    let wait := s.confirms t o
    let (s, o) := s.deliverData t o
    if wait then s.setTag k { s.tag k with use := .flight { t with done := true, confirm := some (t.entry k o) } }
    else (s.setTag k { s.tag k with use := .flight { t with done := true } }).post t.pair (t.entry k o)

/-- A response, or the transaction's own completion, ends it (R129). A response for a tag that is not in flight under generation `g`, or whose
transaction has ended, is discarded and counted (R87, R88). -/
def State.finish (s : State) (k g : Nat) (o : Outc) : State :=
  match (s.tag k).use with
  | .flight t =>
    if g ≠ (s.tag k).gen ∨ t.done then s.inc R.HIF_LATE_RSP_COUNT else (s.noteEnd t o).complete k t o
  | _ => s.inc R.HIF_LATE_RSP_COUNT

/-- A transaction ends by its timeout or by path loss (R129): its entry, and the tag retires abnormally when it is written; a detached
one retires at once (R88). DESIGN CHOICE (log 78): after an UNSUBSCRIBE to another hub that ends so, deliveries of its subscription, which may go on
there (R130), are still written. -/
def State.abort (s : State) (k status : Nat) : State :=
  match (s.tag k).use with
  | .flight t =>
    if t.detached then s.retire k true
    else match t.rop with
    | some j => (s.retire k true).answerRop j t.seq status []
    | none => (s.setTag k { s.tag k with use := .flight { t with done := true } }).post t.pair
      { t.entry k { status := status } with abn := true }
  | _ => s

/-- The RSP frame of an outcome (Table 05-8). -/
def rspFrame (s : State) (r : Req) (o : Outc) : Frame :=
  { typ := fRsp, tc := r.tc, ceEcho := r.ce, dst := r.src, tn := r.tn, src := s.node0, gen := r.gen, tag := r.tag,
    td := r.td, op := o.status, arg := r.fa, payload := o.data,
    ext := leBytes 8 o.result ++ leBytes 12 o.exec ++ leBytes 2 o.xfer ++ leBytes 1 (bnat o.late) ++ leBytes 9 0 }

/-- Answer a request: complete the local transaction, or return a RSP to the issuing hub. A broadcast is answered by nobody (R18). The standby's
request to its pair's node is answered along ring A (R399). -/
def State.respond (s : State) (r : Req) (o : Outc) : State :=
  let o := { o with late := r.late }
  match r.origin with
  | .here k => s.finish k r.gen o
  | .ring =>
    if r.node % 256 = 255 then s
    else if s.isMine r.src then s.submit (reqBlock r.space r.off) 0 (rspFrame s r o)
    else s.sendTo (reqBlock r.space r.off) r.src (rspFrame s r o)

/-- Answer with a status alone: nothing was carried out, so XFER, RESULT and EXEC_TIME are zero (R100, R107). -/
def State.refuse (s : State) (r : Req) (status : Nat) : State := s.respond r { status := status }

/-- A request for which this hub, as its target, decides NO_ROUTE, which MISS counts (R25). -/
def State.refuseRoute (s : State) (r : Req) : State := (s.inc R.RING_NOROUTE_CNT_MISS).refuse r stNoRoute

/-- Answer OK at the present time of the descriptor's domain. -/
def State.ok (s : State) (r : Req) (result xfer : Nat) (data : List Byte := []) : State :=
  s.respond r { status := stOk, result := result, xfer := xfer, exec := s.tdEnc r.td, data := data }

/-! ### The local slot of a requester (R42, R64) -/

/-- The slot that a tenant of another hub maps to by a valid alias of an enabled slot (R64). -/
def State.aliasSlot (s : State) (node tn : Nat) : Option Nat :=
  (List.range 16).find? fun t =>
    t ≠ 0 ∧ s.slotOn t ∧ s.aliasOk t ∧ s.rd (R.HIF_ALIAS_NODE t) = node ∧ s.rd (R.HIF_ALIAS_TENANT t) = tn

/-- The slot that a request's node and tenant map to, if it comes from a local tenant. -/
def State.slotOf (s : State) (r : Req) : Option Nat :=
  match r.origin with
  | .here _ => some r.tn
  | .ring => s.aliasSlot r.src r.tn

/-- The requester is slot 0 or holds the management right (R428): a valid SEC_MGMT entry names it. -/
def State.mayManage (s : State) (r : Req) : Bool :=
  s.slotOf r = some 0 ∨ (List.range 4).any fun k =>
    s.flag (R.SEC_MGMT_VALID k) ∧ nodeGood (s.rd (R.SEC_MGMT_NODE k)) ∧ s.rd (R.SEC_MGMT_NODE k) = r.src ∧ s.rd (R.SEC_MGMT_TENANT k) = r.tn

end Sys2Proof.Machine
end

