-- ==== Sys2Proof/Machine/Cache.lean ====
section
/-!
DEFINITION. Access ranges and the read cache of the bridge (R335, R338 to R342): hits, filling, and the accounting of lines that leave the
cache unused.
-/

namespace Sys2Proof.Machine

/-! ### Ranges (R335) -/

/-- The entry that covers an access to offsets `first` to `last` of a space: the lowest valid one. -/
def State.rngEntry (s : State) (space first last : Nat) : Option Nat :=
  (List.range 256).find? fun r =>
    s.flag (R.BRG_RNG_CFG_VALID r) ∧ s.rd (R.BRG_RNG_CFG_SPACE r) = space ∧ s.rd (R.BRG_RNG_LO_LO r) ≤ first ∧ last ≤ s.rd (R.BRG_RNG_HI_HI r)

/-- SE_FREE, POLICY (0b11 is NONPOSTED) and PF_LINES of an access; with no entry the defaults of R335. -/
def State.seFree (s : State) (r : Option Nat) : Bool := r.any fun r => s.flag (R.BRG_RNG_CFG_SE_FREE r)
abbrev polPosted : Nat := 0
abbrev polNonposted : Nat := 1
abbrev polVerified : Nat := 2
def State.policy (s : State) (r : Option Nat) : Nat :=
  match r with
  | some r => if s.rd (R.BRG_RNG_CFG_POLICY r) = 3 then polNonposted else s.rd (R.BRG_RNG_CFG_POLICY r)
  | none => polNonposted

/-! ### Lines leaving the cache (R342) -/

/-- Account a line that leaves the cache: unused if it was prefetched and has served nothing; the read's record is written when its last
line beyond the request has left. -/
def State.lineLeaves (s : State) (x : CacheLine) : State :=
  if x.read = 0 then s
  else
    let s := if x.served then s else s.inc R.BRG_PF_CNT_DISC
    match s.brg.prefetches.find? fun y => y.id = x.read with
    | none => s
    | some y =>
      let y := { y with
        left := y.left - 1, unused := if x.served then y.unused else y.unused + 1
        firstOff := if x.served then y.firstOff else if y.unused = 0 then x.base else min y.firstOff x.base }
      let rest := s.brg.prefetches.filter fun z => z.id ≠ y.id
      let s := { s with brg := { s.brg with prefetches := if y.left = 0 then rest else rest ++ [y] } }
      if y.left = 0 ∧ y.unused ≠ 0 then
        s.logAuditAt y.time 0x21 y.range y.unused (s.node0 * 2 ^ 46 + y.space * 2 ^ 32 + y.firstOff) y.node y.tn
      else s

/-- Remove the lines that `p` selects. -/
def State.dropLines (s : State) (p : CacheLine → Bool) : State :=
  let gone := s.brg.cache.filter p
  gone.foldl State.lineLeaves { s with brg := { s.brg with cache := s.brg.cache.filter fun x => !p x } }

/-- Units of a line: 32 registers, or 64 bytes of set-up space (R338). -/
def lineUnits (port : Nat) : Nat := if port = 64 then 64 else 32
/-- Bytes of a unit. -/
def unitBytes (port : Nat) : Nat := if port = 64 then 1 else 2

/-- Invalidate every line of a port that units `first` to `last` overlap (R341). -/
def State.invalidate (s : State) (port first last : Nat) : State :=
  s.dropLines fun x => x.port = port ∧ x.base ≤ last ∧ first < x.base + lineUnits port

/-- Invalidate what a Modbus broadcast (station 0) of a port writes: the lines of every station that hold one of its registers. -/
def State.invalidateAll (s : State) (port first last : Nat) : State :=
  s.dropLines fun x => x.port = port ∧ x.base % 2 ^ 24 ≤ last ∧ first < x.base % 2 ^ 24 + lineUnits port

/-- Invalidate every line of a port. -/
def State.invalidatePort (s : State) (port : Nat) : State := s.dropLines fun x => x.port = port

/-- CACHE_FLUSH (R341): BRG_CMD.FLUSH. -/
def execCacheFlush (s : State) : Host.Outcome State Fault Refusal := .next (s.dropLines fun _ => true)

/-! ### Hits and fills (R339) -/

/-- The first units of the lines that `n` units from `first` touch. -/
def lineBases (port first n : Nat) : List Nat :=
  let u := lineUnits port
  (List.range ((first + n - 1) / u - first / u + 1)).map fun i => (first / u + i) * u

/-- A line of the cache younger than AGE ms. -/
def State.freshLine (s : State) (port base age : Nat) : Option CacheLine :=
  s.brg.cache.find? fun x => x.port = port ∧ x.base = base ∧ s.now - x.filledAt < age * 1000000 * 65536

/-- The bytes of `n` units from the cache with the fill time of the oldest line used, if every line is valid and young enough; the lines
become the most recently used, and have served. -/
def State.cacheHit (s : State) (r : Nat) (port first n : Nat) : Option (List Byte × Nat × State) :=
  let age := s.rd (R.BRG_RNG_CFG_AGE r)
  let lines := (lineBases port first n).map fun b => s.freshLine port b age
  if lines.all Option.isSome then
    let ls := lines.filterMap id
    let bytes := ls.flatMap (·.data)
    let at_ := first % lineUnits port * unitBytes port
    let oldest := ls.foldl (fun m x => min m x.filledAt) s.now
    let used := ls.map fun (x : CacheLine) => { x with served := true }
    let s := { s with brg := { s.brg with cache := used ++ s.brg.cache.filter fun x => x ∉ ls } }
    some (slice bytes at_ (n * unitBytes port), oldest, s.inc R.BRG_PF_CNT_HIT)
  else none

/-- The extent that a prefetching read reads: whole lines from the request's first line, PF_LINES beyond its last, cut to what lies within
the range entry, within `most` units, and takes no line that `bars` refuses; none when it would not contain the request. -/
def State.extent (s : State) (r port first n most : Nat) (bars : Nat → Bool) : Option (Nat × Nat) :=
  let u := lineUnits port
  let lo := first / u * u
  let need := (first + n - 1) / u - first / u + 1
  let hi := s.rd (R.BRG_RNG_HI_HI r)
  let ok := fun k => lo + (k + 1) * u ≤ hi + 1 ∧ (k + 1) * u ≤ most ∧ ¬ bars (lo + k * u)
  let k := ((List.range (need + s.rd (R.BRG_RNG_CFG_PF_LINES r))).takeWhile ok).length
  if s.rd (R.BRG_RNG_LO_LO r) ≤ lo ∧ need ≤ k then some (lo, k * u) else none

/-- Fill one line: an older one of the same place leaves, and past 4,096 lines the least recently used does (R338). -/
def State.fillLine (s : State) (x : CacheLine) : State :=
  let s := s.dropLines fun y => y.port = x.port ∧ y.base = x.base
  let s := match s.brg.cache.getLast? with
    | some y => if 4096 ≤ s.brg.cache.length then s.dropLines fun z => z.port = y.port ∧ z.base = y.base else s
    | none => s
  { s with brg := { s.brg with cache := x :: s.brg.cache } }

/-- Fill every line of a prefetching read of `count` units from `base`, of which the request needed `n` from `first`. -/
def State.fill (s : State) (r port space base : Nat) (data : List Byte) (first n node tn : Nat) : State :=
  let u := lineUnits port
  let k := data.length / (u * unitBytes port)
  let bases := (List.range k).map fun i => base + i * u
  let beyond := bases.filter fun b => ¬ (b < first + n ∧ first < b + u)
  let id := s.brg.readId + 1
  let s := if beyond = [] then s
    else { s with brg := { s.brg with
      readId := id, prefetches := s.brg.prefetches ++ [⟨id, r, space, s.tdEnc 0, node, tn, 0, 0, beyond.length⟩] } }
  bases.foldl (fun s b =>
    let out := b ∈ beyond
    s.fillLine ⟨port, b, s.now, slice data ((b - base) * unitBytes port) (u * unitBytes port), !out, if out then id else 0⟩) s

end Sys2Proof.Machine
end

