-- ==== Sys2Proof/Machine/Float.lean ====
section
/-!
DEFINITION. IEEE 754 binary32 and binary64 numbers as their bits, with exact arithmetic and rounding to nearest, ties to even.
A finite number is sign, significand and exponent; every operation computes exactly and rounds once.
-/

namespace Sys2Proof

/-- A format: fraction bits and exponent bits. -/
structure Fmt where
  mb : Nat
  eb : Nat
deriving DecidableEq, Repr

def f32 : Fmt := ⟨23, 8⟩
def f64 : Fmt := ⟨52, 11⟩

/-- What the bits of a number stand for: NaN, an infinity, or ± m × 2^e. -/
inductive FV where
  | nan | inf (neg : Bool) | fin (neg : Bool) (m : Nat) (e : Int)
deriving DecidableEq, Repr

/-- Exponent of the least significant bit of a subnormal. -/
def Fmt.eLow (f : Fmt) : Int := 2 - (2 ^ (f.eb - 1) : Nat) - (f.mb : Int)

/-- The value that bits spell. -/
def Fmt.dec (f : Fmt) (x : Nat) : FV :=
  let neg := bit x (f.mb + f.eb)
  let e := bits x f.mb f.eb
  let m := bits x 0 f.mb
  if e = 2 ^ f.eb - 1 then (if m = 0 then .inf neg else .nan)
  else if e = 0 then .fin neg m f.eLow
  else .fin neg (2 ^ f.mb + m) (f.eLow + (e - 1 : Nat))

/-- The quiet NaN that an operation gives. -/
def Fmt.nan (f : Fmt) : Nat := (2 ^ f.eb - 1) * 2 ^ f.mb + 2 ^ (f.mb - 1)

/-- An infinity. -/
def Fmt.inf (f : Fmt) (neg : Bool) : Nat := bnat neg * 2 ^ (f.mb + f.eb) + (2 ^ f.eb - 1) * 2 ^ f.mb

/-- The bits of ± n / d rounded to nearest, ties to even; `neg` gives the sign of a zero. -/
def Fmt.round (f : Fmt) (neg : Bool) (n d : Nat) : Nat :=
  if n = 0 then bnat neg * 2 ^ (f.mb + f.eb)
  else
    let k : Int := (n.log2 : Int) - (d.log2 : Int)
    let below := if 0 ≤ k then n < d * 2 ^ k.toNat else n * 2 ^ (-k).toNat < d
    let q : Int := max ((if below then k - 1 else k) - (f.mb : Int)) f.eLow
    let nn := if q < 0 then n * 2 ^ (-q).toNat else n
    let dd := if q < 0 then d else d * 2 ^ q.toNat
    let m := nn / dd
    let r := nn % dd
    let m := if dd < 2 * r ∨ (2 * r = dd ∧ m % 2 = 1) then m + 1 else m
    let v := (q - f.eLow).toNat * 2 ^ f.mb + m
    if (2 ^ f.eb - 1) * 2 ^ f.mb ≤ v then f.inf neg else bnat neg * 2 ^ (f.mb + f.eb) + v

/-- The bits of the signed dyadic v × 2^e. -/
def Fmt.ofDy (f : Fmt) (neg0 : Bool) (v : Int) (e : Int) : Nat :=
  let neg := if v = 0 then neg0 else decide (v < 0)
  if 0 ≤ e then f.round neg (v.natAbs * 2 ^ e.toNat) 1 else f.round neg v.natAbs (2 ^ (-e).toNat)

/-- The bits of a value in a format. -/
def Fmt.enc (f : Fmt) : FV → Nat
  | .nan => f.nan
  | .inf s => f.inf s
  | .fin s m e => f.ofDy s (if s then -(m : Int) else m) e

/-- The signed significand. -/
def sgn (neg : Bool) (m : Nat) : Int := if neg then -(m : Int) else m

/-- Sum of two numbers of the format. -/
def Fmt.add (f : Fmt) (x y : Nat) : Nat :=
  match f.dec x, f.dec y with
  | .nan, _ => f.nan
  | _, .nan => f.nan
  | .inf a, .inf b => if a = b then f.inf a else f.nan
  | .inf a, _ => f.inf a
  | _, .inf b => f.inf b
  | .fin a m e, .fin b n g =>
    let l := min e g
    f.ofDy (a && b) (sgn a m * (2 ^ (e - l).toNat : Nat) + sgn b n * (2 ^ (g - l).toNat : Nat)) l

/-- The number with its sign inverted. -/
def Fmt.neg (f : Fmt) (x : Nat) : Nat :=
  let h := 2 ^ (f.mb + f.eb)
  if x / h % 2 = 1 then x % h else x % h + h

/-- Difference of two numbers. -/
def Fmt.sub (f : Fmt) (x y : Nat) : Nat := f.add x (f.neg y)

/-- Product of two numbers. -/
def Fmt.mul (f : Fmt) (x y : Nat) : Nat :=
  match f.dec x, f.dec y with
  | .nan, _ => f.nan
  | _, .nan => f.nan
  | .inf a, .inf b => f.inf (a != b)
  | .inf a, .fin b n _ => if n = 0 then f.nan else f.inf (a != b)
  | .fin a m _, .inf b => if m = 0 then f.nan else f.inf (a != b)
  | .fin a m e, .fin b n g => f.ofDy (a != b) (sgn a m * sgn b n) (e + g)

/-- Quotient of two numbers. -/
def Fmt.div (f : Fmt) (x y : Nat) : Nat :=
  match f.dec x, f.dec y with
  | .nan, _ => f.nan
  | _, .nan => f.nan
  | .inf _, .inf _ => f.nan
  | .inf a, .fin b _ _ => f.inf (a != b)
  | .fin a _ _, .inf b => f.round (a != b) 0 1
  | .fin a m e, .fin b n g =>
    if n = 0 then (if m = 0 then f.nan else f.inf (a != b))
    else if g ≤ e then f.round (a != b) (m * 2 ^ (e - g).toNat) n
    else f.round (a != b) m (n * 2 ^ (g - e).toNat)

/-- IEEE comparison: less than; false when either is NaN. -/
def FV.lt : FV → FV → Bool
  | .nan, _ => false
  | _, .nan => false
  | .inf a, .inf b => a && !b
  | .inf a, .fin _ _ _ => a
  | .fin _ _ _, .inf b => !b
  | .fin a m e, .fin b n g =>
    let l := min e g
    decide (sgn a m * (2 ^ (e - l).toNat : Nat) < sgn b n * (2 ^ (g - l).toNat : Nat))

/-- IEEE comparison: equal; false when either is NaN, and +0 equals −0. -/
def FV.eq : FV → FV → Bool
  | .nan, _ => false
  | _, .nan => false
  | x, y => !(x.lt y) && !(y.lt x)

/-- The integer nearest to a finite value, ties to even; none for NaN and infinities. -/
def FV.toInt? : FV → Option Int
  | .fin a m e =>
    if 0 ≤ e then some (sgn a (m * 2 ^ e.toNat))
    else
      let d := 2 ^ (-e).toNat
      let q := m / d
      let r := m % d
      some (sgn a (if d < 2 * r ∨ (2 * r = d ∧ q % 2 = 1) then q + 1 else q))
  | _ => none

/-- The integer towards zero. -/
def FV.trunc? : FV → Option Int
  | .fin a m e => some (sgn a (if 0 ≤ e then m * 2 ^ e.toNat else m / 2 ^ (-e).toNat))
  | _ => none

/-- The bits of an integer in a format. -/
def Fmt.ofInt (f : Fmt) (v : Int) : Nat := f.ofDy false v 0

/-- A NaN of the format. -/
def Fmt.isNan (f : Fmt) (x : Nat) : Bool := f.dec x = .nan

/-- A number of one format in another. -/
def Fmt.conv (f g : Fmt) (x : Nat) : Nat := g.enc (f.dec x)

end Sys2Proof
end

