-- ==== Sys2Proof/Machine/PointStore.lean ====
section
/-!
DEFINITION. The point store (chapter 02): record bytes, loading and its fallbacks, who may read and write, delivery of a value, the
update of a point with its quality rule (R54), and the subscriptions that an update serves.
-/

namespace Sys2Proof.Machine

/-! ### Fields of FLAGS, WRITER and BINDING (Tables 02-1, 02-4, 02-6) -/

def Point.isOutput (p : Point) : Bool := bit p.flags 8
def Point.limitEn (p : Point) : Bool := bit p.flags 7
def Point.substBad (p : Point) : Bool := bit p.flags 9
def Point.isForced (p : Point) : Bool := bit p.flags 10
def Point.motion (p : Point) : Bool := bit p.flags 11
def Point.pulseTol (p : Point) : Bool := bit p.flags 12
def Point.dom (p : Point) : Nat := bits p.flags 13 3
def Point.rateGroup (p : Point) : Nat := bits p.flags 4 3
def Point.hub (p : Point) : Bool := bit p.writer 7
def Point.writerSlot (p : Point) : Nat := p.writer % 16
def Point.bindKind (p : Point) : Nat := (p.binding.getD 0 0).toNat
/-- Byte `i` of BINDING. -/
def Point.bindByte (p : Point) (i : Nat) : Nat := (p.binding.getD i 0).toNat
/-- Bytes `i` and `i + 1` of BINDING as a number. -/
def Point.bind16 (p : Point) (i : Nat) : Nat := p.bindByte i + 256 * p.bindByte (i + 1)
/-- The point exists for requests (R37). -/
def Point.configured (p : Point) : Bool := p.type ≠ 0

/-! ### Types (Table 02-2) -/

abbrev tBool : Nat := 1
abbrev tInt32 : Nat := 2
abbrev tUint32 : Nat := 3
abbrev tInt64 : Nat := 4
abbrev tUint64 : Nat := 5
abbrev tFloat32 : Nat := 6
abbrev tFloat64 : Nat := 7
abbrev tBits64 : Nat := 8
abbrev tCounter : Nat := 9

/-- The type has limits. -/
def hasLimits (t : Nat) : Bool := 2 ≤ t ∧ t ≤ 7

/-- A FLOAT value that is NaN. -/
def isNaN (t v : Nat) : Bool := (t = tFloat32 ∧ f32.isNan v) ∨ (t = tFloat64 ∧ f64.isNan v)

/-- A value of a type is below another: signed, unsigned or as IEEE values (R54). -/
def ltBy (t a b : Nat) : Bool :=
  if t = tInt32 ∨ t = tInt64 then decide (sext 64 a < sext 64 b)
  else if t = tFloat32 then (f32.dec a).lt (f32.dec b)
  else if t = tFloat64 then (f64.dec a).lt (f64.dec b)
  else decide (a < b)

/-- A 64-bit pattern as its type encodes it (Table 02-2). -/
def encodeBy (t v : Nat) : Nat :=
  if t = tBool then v % 2
  else if t = tInt32 then toBits 64 (sext 32 v)
  else if t = tUint32 ∨ t = tFloat32 then v % 2 ^ 32
  else v % 2 ^ 64

/-! ### The record's bytes (Table 02-1) -/

/-- The 64 bytes of a record. -/
def Point.bytes (p : Point) : List Byte :=
  leBytes 8 p.value ++ leBytes 12 p.ts ++ leBytes 1 p.quality ++ leBytes 1 p.type ++ leBytes 2 p.flags
    ++ leBytes 8 p.low ++ leBytes 8 p.high ++ leBytes 8 p.safe ++ leBytes 4 p.ageTmo ++ leBytes 1 p.writer
    ++ leBytes 1 p.aset ++ slice p.binding 0 10

/-- The bytes of BINDING that Table 02-6 names for a kind; the rest are reserved. -/
def namedBytes (kind : Nat) : Nat := [1, 3, 3, 3, 2, 5, 3, 7, 3, 4].getD kind 10

/-- BINDING without its reserved bytes, which the hub ignores and shows as zero (R8, R41). -/
def clearBinding (b : List Byte) : List Byte := slice (b.take (namedBytes (b.getD 0 0).toNat)) 0 10

/-- A point with the configuration of 64 record bytes, without their reserved bits (R8). -/
def Point.ofBytes (b : List Byte) : Point :=
  { type := leAt b 0x15 1, flags := leAt b 0x16 2 / 16 * 16, low := leAt b 0x18 8, high := leAt b 0x20 8, safe := leAt b 0x28 8,
    ageTmo := leAt b 0x30 4, writer := setBits (leAt b 0x34 1) 4 3 0, aset := leAt b 0x35 1, binding := clearBinding (slice b 0x36 10) }

/-! ### Loading (R37, R38, R41, R43, R49, R56) -/

/-- A binding kind that R41 refuses: reserved, contradicting OUTPUT, or with a parameter out of range; and a measurement bound to a type that R269
does not name. -/
def Point.badBinding (p : Point) : Bool :=
  let k := p.bindKind
  let out := p.isOutput
  let pin := 63 < p.bindByte 1 ∨ 4 < p.bindByte 2
  if k = 0 then false
  else if k = 1 then out ∨ pin
  else if k = 2 then out ∨ pin ∨ ¬ (p.type = tInt32 ∨ p.type = tInt64 ∨ p.type = tFloat32 ∨ p.type = tFloat64)
  else if k = 3 then ¬ out ∨ pin
  else if k = 4 then ¬ out ∨ 63 < p.bindByte 1
  else if k = 5 then 511 < p.bind16 1
  else if k = 6 then 15 < p.bindByte 1 ∨ 15 < p.bindByte 2
  else if k = 7 then out ∨ 1023 < p.bind16 1 ∨ p.bindByte 3 = 0 ∨ 254 < p.bindByte 3 ∨ 1023 < p.bind16 4
    ∨ ¬ (p.bindByte 6 = 1 ∨ p.bindByte 6 = 2 ∨ p.bindByte 6 = 4 ∨ p.bindByte 6 = 8)
  else if k = 8 then 4095 < p.bind16 1
  else if k = 9 then out ∨ pin ∨ 2 < p.bindByte 3
  else true

/-- The record with its fallbacks, and how many fields fell back. A binding that delivers input values, a row's result among them, makes
the hub the writer (R43). -/
def Point.normal (p : Point) : Point × Nat :=
  let (p, n) := if 9 < p.type then ({ p with type := 0 }, 1) else (p, 0)
  let (p, n) := if 4 < p.rateGroup then ({ p with flags := setBits p.flags 4 3 0 }, n + 1) else (p, n)
  let (p, n) := if p.badBinding then ({ p with binding := leBytes 10 0 }, n + 1) else (p, n)
  let (p, n) := if ¬ p.hub ∧ p.bindKind ≠ 0 ∧ (¬ p.isOutput ∨ p.bindKind = 8) then ({ p with writer := p.writer % 128 + 128 }, n + 1) else (p, n)
  if p.type ≠ 0 ∧ ltBy p.type p.high p.low then ({ p with high := p.low }, n + 1) else (p, n)

/-- A configured point as at bundle load: VALUE = SAFE, QUALITY (0b11, NOT_READY), nothing kept (R56). The value that the record holds is the
forced value of a record that comes with FORCED 1 (R54). -/
def Point.restart (p : Point) : Point :=
  { p with value := p.safe, quality := 0xCC, forced := p.safe, kept := none, fresh := none, supplied := none, notReady := true,
           deliveredAt := 0 }

/-- The key of byte `off` of region `r` of table space. -/
def tblKey (r off : Nat) : Nat := r * 2 ^ 22 + off

/-- A point bound to a row of another rate group, which loads with no binding (R374); while the rows of a failed bank are reloaded, there is none to
hold it to. -/
def State.rowMisfit (s : State) (p : Point) : Bool :=
  let g := bits (leAt (memRead s.rfx.act (tblKey 0 (32 * p.bind16 1 + 1)) 1) 0 1) 4 3
  p.configured ∧ p.bindKind = 8 ∧ (if 4 < g then 0 else g) ≠ p.rateGroup ∧ ¬ bit (s.rd R.PWR_RET_STAT_RELOAD) 1

/-- A record as it is loaded, and how many of its fields fell back (R41, R43, R374). -/
def State.normalPoint (s : State) (p : Point) : Point × Nat :=
  let (p, k) := p.normal
  if s.rowMisfit p then ({ p with binding := leBytes 10 0 }, k + 1) else (p, k)

/-- Load a record into point `n` (R56); fallbacks count in RFX_PT_CLAMP_CNT. -/
def State.loadPoint (s : State) (n : Nat) (p : Point) : State :=
  let (p, k) := s.normalPoint p
  (s.setPoint n (if p.configured then p.restart else {})).inc R.RFX_PT_CLAMP_CNT_COUNT k

/-! ### Access (R42 to R44) -/

/-- Who reads: the local slot, if any, and the issuing node and tenant. -/
structure Who where
  slot : Option Nat
  node : Nat
  tn : Nat
deriving DecidableEq, Repr

def State.who (s : State) (r : Req) : Who := ⟨s.slotOf r, r.src, r.tn⟩

/-- A tenant may read a point (R44). -/
def State.mayRead (s : State) (w : Who) (p : Point) : Bool :=
  let a := p.aset
  (match w.slot with
    | some t => decide (t = 0 ∨ (¬ p.hub ∧ p.writerSlot = t)) || bit (s.rd (R.RFX_ASET_LOCAL a)) t
    | none => (List.range 16).any fun k =>
        k ≠ 0 ∧ s.flag (R.RFX_ASET_R_VALID a k) ∧ s.rd (R.RFX_ASET_R_NODE a k) = w.node
          ∧ (s.flag (R.RFX_ASET_R_ALL_TENANTS a k) ∨ s.rd (R.RFX_ASET_R_TENANT a k) = w.tn))
  || s.flag (R.RFX_ASET_PUBLIC a)

/-! ### Quality (Tables 02-3, R39, R40) -/

abbrev qNone : Nat := 0x00
abbrev qStale : Nat := 0x01
abbrev qChatter : Nat := 0x02
abbrev qLow : Nat := 0x03
abbrev qHigh : Nat := 0x04
abbrev qOpenWire : Nat := 0x05
abbrev qShort : Nat := 0x06
abbrev qNoResponse : Nat := 0x07
abbrev qFault : Nat := 0x08
abbrev qForced : Nat := 0x09
abbrev qSafeState : Nat := 0x0A
abbrev qClipped : Nat := 0x0B
abbrev qNotReady : Nat := 0x0C
abbrev qRule : Nat := 0x0D

/-- The reasons in precedence order, highest first. -/
def precedence : List Nat :=
  [qSafeState, qForced, qNotReady, qFault, qShort, qOpenWire, qNoResponse, qClipped, qStale, qChatter, qLow, qHigh, qRule]

/-- The class that Table 02-3 gives a reason on an input or output point. -/
def classOf (reason : Nat) (out : Bool) : Nat :=
  if reason = qSafeState ∨ reason = qForced ∨ reason = qNotReady ∨ reason = qRule then 3
  else if reason = qFault ∨ reason = qShort ∨ reason = qOpenWire ∨ reason = qNoResponse then 2
  else if reason = qClipped ∨ reason = qChatter then 1
  else if reason = qStale then (if out then 2 else 1)
  else if reason = qLow ∨ reason = qHigh then (if out then 1 else 2)
  else 0

/-- A supplied quality is a condition when its class is uncertain or bad and its reason is not NONE (R55). -/
def suppliedCond (q : Option Nat) : Option Nat :=
  match q with
  | some x => if (x / 64 = 1 ∨ x / 64 = 2) ∧ x % 64 ≠ 0 then some x else none
  | none => none

/-- The base cycles of ring `n` from one update of a rate group to the next: 1, or 2^EXP for sub-rate j = group − 1 while it is enabled
(R170). -/
def State.every (s : State) (n group : Nat) : Nat :=
  let of := fun (en exp : Fld) => if s.flag en then 2 ^ s.rd exp else 1
  match group with
  | 1 => of (R.RING_SUBRATE_EN_0 n) (R.RING_SUBRATE_EXP_0 n)
  | 2 => of (R.RING_SUBRATE_EN_1 n) (R.RING_SUBRATE_EXP_1 n)
  | 3 => of (R.RING_SUBRATE_EN_2 n) (R.RING_SUBRATE_EXP_2 n)
  | 4 => of (R.RING_SUBRATE_EN_3 n) (R.RING_SUBRATE_EXP_3 n)
  | _ => 1

/-- A rate group is due in cycle `k` of ring `n`: group 0 and a disabled sub-rate in every cycle (R170). -/
def State.groupDue (s : State) (n g k : Nat) : Bool := k % s.every n g = 0

/-- Period of a rate group in ns, from the base cycle of ring 0 (R53, R170). -/
def State.period (s : State) (group : Nat) : Nat := 8 * s.rd (R.RING_CYC_CFG_BASE 0) * s.every 0 group

/-- STALE: AGE_TMO is not 0 and the time since the last delivery exceeds the effective timeout (R53). -/
def State.isStale (s : State) (p : Point) : Bool :=
  p.ageTmo ≠ 0 ∧ max (p.ageTmo * 1000) (2 * s.period p.rateGroup) < s.ns - p.deliveredAt

/-- The range condition of a value (R54): a NaN is high whatever LIMIT_EN; else the check applies to types with limits. -/
def Point.rangeCond (p : Point) (v : Nat) : Option Nat :=
  if isNaN p.type v then some qHigh
  else if p.limitEn ∧ hasLimits p.type then
    (if ltBy p.type v p.low then some qLow else if ltBy p.type p.high v then some qHigh else none)
  else none

/-- Every condition that holds for a point at an update with value `v`. -/
def State.conditions (s : State) (p : Point) (v : Nat) : List Nat :=
  (if s.inSafe ∧ p.isOutput then [qSafeState] else []) ++ (if p.isForced then [qForced] else [])
    ++ (if p.notReady then [qNotReady] else []) ++ p.conds ++ (if s.isStale p then [qStale] else [])
    ++ (p.rangeCond v).toList ++ (if p.rowReason ≠ 0 then [p.rowReason] else []) ++ (p.supplied.map (· % 64)).toList

/-- The highest condition of Table 02-3 among those that hold. -/
def highest (cs : List Nat) : Nat := (precedence.find? (· ∈ cs)).getD qNone

/-- A value within LOW and HIGH. -/
def Point.clamp (p : Point) (v : Nat) : Nat :=
  if ltBy p.type v p.low then p.low else if ltBy p.type p.high v then p.high else v

/-- The rule of R54 for one update: `v` is the value delivered for it, if any. DESIGN CHOICE (log 49): where a detected and a supplied
condition have the same reason, the supplied class stands. -/
def State.qualityRule (s : State) (p : Point) (v : Option Delivered) : Point :=
  let last : Delivered := p.kept.getD ⟨p.value, p.ts, none⟩
  let d := v.getD last
  let cond := highest (s.conditions p d.value)
  let cls := match p.supplied with
    | some x => if x % 64 = cond then x / 64 else classOf cond p.isOutput
    | none => classOf cond p.isOutput
  if cond = qSafeState then { p with value := p.safe, quality := 0xC0 + qSafeState }
  else if cond = qForced then { p with value := p.forced, quality := 0xC0 + qForced }
  else if cond = qNotReady then { p with value := p.safe, quality := 0xC0 + qNotReady }
  else if cls = 2 ∧ p.substBad then { p with value := p.safe, quality := 0xC0 + cond }
  else if cond = qStale ∨ cond = qChatter then { p with value := last.value, ts := last.ts, quality := cls * 64 + cond }
  else if (cond = qLow ∨ cond = qHigh) ∧ p.isOutput then { p with value := p.clamp d.value, ts := d.ts, quality := 64 + cond }
  else { p with value := d.value, ts := d.ts, quality := cls * 64 + cond }

/-! ### Delivery and update (R47, R51 to R53) -/

/-- A source or writer delivers a value to a point: it is kept, its time is recorded, and the next update takes it. -/
def State.deliver (s : State) (n : Nat) (d : Delivered) : State :=
  let p := s.point n
  s.setPoint n { p with kept := some d, fresh := some d, deliveredAt := s.ns }

/-- Deliver a value stamped with the present time of the point's domain. -/
def State.deliverNow (s : State) (n v : Nat) : State :=
  s.deliver n ⟨encodeBy (s.point n).type v, s.tdEnc (s.point n).dom, none⟩

/-- Set or clear a condition that the source of a point reports. -/
def State.setCond (s : State) (n reason : Nat) (on : Bool) : State :=
  let p := s.point n
  s.setPoint n { p with conds := if on then (if reason ∈ p.conds then p.conds else reason :: p.conds) else p.conds.filter (· ≠ reason) }

/-! ### Subscription deliveries (R58 to R61) -/

/-- The DELIVERY entry of a delivery (Table 04-5). -/
def Dlv.entry (d : Dlv) (node : Nat) (overrun : Bool) : CqEntry :=
  { kind := 1, status := d.status, overrun := overrun, node := node,
    body := leBytes 8 d.value ++ leBytes 12 d.ts ++ leBytes 1 d.quality ++ leBytes 1 d.td ++ leBytes 2 d.point }

/-- Something is pending for a pair's CQ. -/
def State.pendingFor (s : State) (p : Nat) : Bool :=
  (s.pair p).waiting ≠ [] ∨ s.pts.subs.any (fun u => u.pend.isSome ∧ u.slot.any fun t => 32 * t + u.pair = p)
    ∨ s.pts.remote.any (fun u => u.pend.isSome ∧ 32 * u.slot + u.pair = p)

/-- Replace subscription `num`. -/
def State.setSub (s : State) (u : Sub) : State :=
  { s with pts := { s.pts with subs := s.pts.subs.map fun x => if x.num = u.num then u else x } }

/-- Replace or remove a subscription held at another hub. -/
def State.setRemSub (s : State) (u : RemSub) (v : Option RemSub) : State :=
  { s with pts := { s.pts with remote := s.pts.remote.flatMap fun (x : RemSub) =>
    if x.node = u.node ∧ x.slot = u.slot ∧ x.num = u.num then v.toList else [x] } }

/-- End subscription `num`. -/
def State.endSub (s : State) (num : Nat) : State :=
  let s := { s with pts := { s.pts with subs := s.pts.subs.filter fun x => x.num ≠ num } }
  s.wr R.RFX_SUB_USED_COUNT s.pts.subs.length

/-- A delivery can be written into a pair's CQ at once: nothing waits for it, it has room, and the write can be sent (R61). -/
def State.mayPut (s : State) (p : Nat) : Bool := ¬ s.pendingFor p ∧ s.cqFree p ≠ 0 ∧ s.canSend (p / 32)

/-- A delivery for a CQ with room whose write cannot be sent stops the pair (R91); it stays pending. -/
def State.stopUnsent (s : State) (p : Nat) : State := if ¬ s.pendingFor p ∧ s.cqFree p ≠ 0 then s.stop p 4 else s

/-- Hand one delivery to a subscription: to the CQ of a local tenant if nothing waits and it has room, else pending (R61); to the
issuing hub of a foreign tenant as a DELIVERY MSG (Table 05-9). -/
def State.handOver (s : State) (u : Sub) (d : Dlv) : State :=
  match u.slot with
  | some t =>
    let p := 32 * t + u.pair
    if (s.pair p).st = .idle then s
    else if s.mayPut p then s.putEntry p (d.entry s.node0 false)
    else
      let s := s.stopUnsent p
      if u.pend.isSome then
        (s.setSub { u with pend := some d, overrun := true }).inc (R.RFX_SUB_LOST_COUNT t)
      else
        let s := { s with pts := { s.pts with pendSeq := s.pts.pendSeq + 1 } }
        s.setSub { u with pend := some d, overrun := false, pendSeq := s.pts.pendSeq }
  | none =>
    s.sendTo 26 u.node
      { typ := fMsg, tc := 6, tn := u.tn, src := s.node0, op := 1,
        payload := (d.entry 0 false).body ++ leBytes 2 u.num ++ leBytes 1 u.pair ++ leBytes 1 d.status ++ leBytes 4 0 }

/-- The absolute difference of two values of a type exceeds the deadband (R59). DESIGN CHOICE (log 49): the difference of FLOAT values is
rounded in the point's own format, and one that is NaN exceeds when the bit patterns differ. -/
def exceeds (t a b db : Nat) : Bool :=
  if t = tInt32 ∨ t = tInt64 then decide (sext 64 db < (sext 64 a - sext 64 b).natAbs)
  else if t = tFloat32 then
    let d := f32.sub a b
    (f32.dec db).lt (f32.dec (d % 2 ^ 31)) ∨ (f32.isNan d ∧ a ≠ b)
  else if t = tFloat64 then
    let d := f64.sub a b
    (f64.dec db).lt (f64.dec (d % 2 ^ 63)) ∨ (f64.isNan d ∧ a ≠ b)
  else decide (db < (a : Int) - b) || decide (db < (b : Int) - a)

/-- An update of a point calls for a delivery (R59). -/
def Sub.due (u : Sub) (p : Point) : Bool :=
  if ¬ u.onChange then true
  else match u.last with
    | none => true
    | some (v, q) =>
      q ≠ p.quality ∨
        (if p.type = tBool ∨ p.type = tBits64 ∨ p.type = tCounter then v ≠ p.value else exceeds p.type p.value v u.deadband)

/-- The slot of the tenant that holds a subscription: a tenant of another hub has the one that its alias gives (R42, R64). -/
def State.subSlot (s : State) (u : Sub) : Option Nat := u.slot.orElse fun _ => s.aliasSlot u.node u.tn

/-- The final entry of a subscription waits for its CQ. -/
def Sub.final (u : Sub) : Bool := u.pend.any fun d => d.status ≠ stOk

/-- Serve one subscription after an update of its point that calls for a delivery: R44 is checked again; a refusal ends it with a final entry DENIED
(R58), for which it stays while that entry waits. -/
def State.serveSub (s : State) (p : Point) (u : Sub) : State :=
  if u.final ∨ ¬ u.due p then s
  else if ¬ s.mayRead ⟨s.subSlot u, u.node, u.tn⟩ p then
    let s := s.handOver u { value := 0, ts := 0, quality := 0, td := p.dom, point := u.point, status := stDenied }
    if s.pts.subs.any fun x => x.num = u.num ∧ x.final then s else s.endSub u.num
  else
    let u := { u with last := some (p.value, p.quality) }
    (s.setSub u).handOver u { value := p.value, ts := p.ts, quality := p.quality, td := p.dom, point := u.point }

/-- Serve every subscription of point `n`. -/
def State.serveSubs (s : State) (n : Nat) : State :=
  (s.pts.subs.filter fun u => u.point = n).foldl (fun s u => s.serveSub (s.point n) u) s

/-- One update of point `n` (R52 to R54): it takes what was delivered since the previous update, the rule sets VALUE, TIMESTAMP and
QUALITY, and its subscriptions are served. -/
def State.updatePoint (s : State) (n : Nat) : State :=
  let p := s.point n
  if ¬ p.configured then s
  else
    let p := match p.fresh with
      | some d => { p with fresh := none, notReady := false, supplied := suppliedCond d.quality }
      | none => p
    (s.setPoint n (s.qualityRule p (s.point n).fresh)).serveSubs n

/-- Update the points of a list in order. -/
def State.updatePoints (s : State) (ns : List Nat) : State := ns.foldl State.updatePoint s

/-- Write the pending deliveries of a pair's CQ, in the order in which they became pending, while it has room (R61). -/
def State.drainSubs (s : State) (p : Nat) : Nat → State
  | 0 => s
  | k + 1 =>
    if (s.pair p).st = .idle ∨ s.cqFree p = 0 ∨ (s.pair p).waiting ≠ [] then s
    else if ¬ s.canSend (p / 32) then (if s.pendingFor p then s.stop p 4 else s)
    else
      let loc := s.pts.subs.filter fun u => u.pend.isSome ∧ u.slot.any fun t => 32 * t + u.pair = p
      let rem := s.pts.remote.filter fun u => u.pend.isSome ∧ 32 * u.slot + u.pair = p
      let lo := loc.foldl (fun m u => min m u.pendSeq) (s.pts.pendSeq + 1)
      let ro := rem.foldl (fun m u => min m u.pendSeq) (s.pts.pendSeq + 1)
      if lo ≤ ro then
        match loc.find? (·.pendSeq = lo) with
        | some u =>
          match u.pend with
          | some d =>
            let s := (s.setSub { u with pend := none, overrun := false }).putEntry p (d.entry s.node0 u.overrun)
            (if u.final then s.endSub u.num else s).drainSubs p k
          | none => s
        | none => s
      else
        match rem.find? (·.pendSeq = ro) with
        | some u =>
          match u.pend with
          | some d =>
            let s := s.setRemSub u (if d.status = stOk then some { u with pend := none, overrun := false } else none)
            (s.putEntry p (d.entry u.node u.overrun)).drainSubs p k
          | none => s
        | none => s

/-- Room appears in a pair's CQ: completions first, then pending deliveries (R75, R61). -/
def State.drain (s : State) (p : Nat) : State :=
  let s := s.drainCq p ((s.pair p).waiting.length + 1)
  s.drainSubs p (s.pts.subs.length + s.pts.remote.length)

/-! ### Reads and writes of records (R46 to R50) -/

/-- Bytes of the point store from an offset. -/
def State.readPoints (s : State) (off len : Nat) : List Byte :=
  let n0 := off / 64
  let n1 := (off + len - 1) / 64
  let all := (List.range (n1 - n0 + 1)).foldl (fun bs i => bs ++ (s.point (n0 + i)).bytes) []
  slice all (off % 64) len

/-- A quality that a 24-byte write may not supply (R48, R55). -/
def badSupply (q : Nat) : Bool := q / 64 % 4 = 3 ∨ 0x0D < q % 64 ∨ q % 64 = qSafeState ∨ q % 64 = qForced ∨ q % 64 = qNotReady ∨ q % 64 = qRule

/-- Set FORCED: the forced value is the VALUE that the record held; clear it: the point takes its kept value and the
quality supplied with it at once (R51, R54). -/
def State.setForced (s : State) (n : Nat) (on : Bool) : State :=
  let p := s.point n
  if on = p.isForced then s
  else if on then s.setPoint n { p with flags := setBits p.flags 10 1 1, forced := p.value }
  else
    let p := { p with
      flags := setBits p.flags 10 1 0
      supplied := match p.kept with | some d => suppliedCond d.quality | none => p.supplied }
    s.setPoint n (s.qualityRule p none)

/-- LOW or HIGH written so that LOW exceeds HIGH stores the written limit equal to the other, whatever TYPE (R49). -/
def State.writeLimits (s : State) (n off : Nat) (data : List Byte) : State :=
  let p := s.point n
  let b := overlay p.bytes off data
  let q := { p with low := leAt b 0x18 8, high := leAt b 0x20 8, safe := leAt b 0x28 8, ageTmo := leAt b 0x30 4 }
  if ltBy p.type q.high q.low then
    (s.setPoint n (if off < 0x20 then { q with low := p.high } else { q with high := p.low })).inc R.RFX_PT_CLAMP_CNT_COUNT
  else s.setPoint n q

/-- A write of `len` bytes at byte `b` of a record is refused to `w` (Table 02-9, check 6 of Table 01-13): a tenant that is neither the
writer nor slot 0 may write nothing; of the two, each may write its own shapes, at their times. -/
def Point.refusesWrite (p : Point) (w : Who) (committed : Bool) (b len : Nat) : Bool :=
  let isWriter : Bool := ¬ p.hub ∧ w.slot = some p.writerSlot
  let owner : Bool := w.slot = some 0
  if ¬ isWriter ∧ ¬ owner then true
  else if b = 0 ∧ len = 8 then (if p.isForced then ¬ owner else ¬ isWriter)
  else if b = 0 ∧ len = 24 then ¬ isWriter ∨ p.isForced
  else if (len = 4 ∨ len = 8) ∧ b % len = 0 ∧ 0x18 ≤ b ∧ b + len ≤ 0x34 then ¬ owner
  else if b = 0x16 ∧ len = 2 then ¬ owner
  else if (b = 0x15 ∧ len = 1) ∨ (0x34 ≤ b ∧ b + len ≤ 0x40 ∧ 0 < len) then ¬ owner ∨ committed
  else false

/-- A write of `data` at byte `off` of the point store by `w` (Table 02-9): the status, and the state after. DESIGN CHOICE (log 49): VALUE
and the limits are stored as written, whatever bits TYPE allows (R37), and every length at every offset within 0x34 to 0x3F is a permitted
shape (R47). -/
def State.writePoint (s : State) (w : Who) (off : Nat) (data : List Byte) : Nat × State :=
  let n := off / 64
  let b := off % 64
  let len := data.length
  let p := s.point n
  let committed := s.flag R.ID_COMMIT_COMMITTED
  if p.refusesWrite w committed b len then (stDenied, s)
  else if b = 0 ∧ (len = 8 ∨ len = 24) then
      let v := leAt data 0 8
      let q := leAt data 0x14 1
      if isNaN p.type v ∧ (len = 24 ∨ p.isOutput) then (stDataBad, s)
      else if len = 24 ∧ badSupply q then (stDataBad, s)
      else if p.isForced then (stOk, s.setPoint n { p with forced := v })
      else if len = 8 then (stOk, s.deliver n ⟨v, s.tdEnc p.dom, none⟩)
      else (stOk, s.deliver n ⟨v, leAt data 8 12, some q⟩)
  else if (len = 4 ∨ len = 8) ∧ b % len = 0 ∧ 0x18 ≤ b ∧ b + len ≤ 0x34 then
    (stOk, s.writeLimits n b data)
  else if b = 0x16 ∧ len = 2 then
    let s1 := s.setForced n (bit (leNat data) 10)
    if committed then (stOk, s1)
    else
      let p1 := s1.point n
      let (p2, k) := s1.normalPoint { p1 with flags := leNat data / 16 * 16 }
      (stOk, (s1.setPoint n p2).inc R.RFX_PT_CLAMP_CNT_COUNT k)
  else if (b = 0x15 ∧ len = 1) ∨ (0x34 ≤ b ∧ b + len ≤ 0x40 ∧ 0 < len) then
    let q := Point.ofBytes (overlay p.bytes b data)
    if q.type = p.type ∧ q.writer = p.writer ∧ q.aset = p.aset ∧ q.binding = p.binding then (stOk, s)
    else
      let (q, k) := s.normalPoint { q with ts := p.ts, forced := p.forced, conds := [] }
      (stOk, (s.setPoint n (if q.configured then q.restart else q)).inc R.RFX_PT_CLAMP_CNT_COUNT k)
  else (stBusError, s)

/-! ### RMW on a point (R109, R110) -/

/-- The value that an RMW writes, from the value read and its operands, on `len` bytes; none when a CAS does not match (Table 04-9). -/
def rmwValue (opx len v a b : Nat) : Option Nat :=
  let m := 2 ^ (8 * len)
  match opx with
  | 0 => some a
  | 1 => if v = b then some a else none
  | 2 => some ((v + a) % m)
  | 3 => some (Nat.land v a)
  | 4 => some (Nat.lor v a)
  | 5 => some (Nat.xor v a)
  | _ => some (Nat.lor (Nat.land v (m - 1 - b)) (Nat.land a b))

/-- The sub-operation is allowed on a point of the type (R110). -/
def rmwAllowed (type opx len : Nat) : Bool :=
  (len = 8 ∨ type = tInt32 ∨ type = tUint32 ∨ type = tFloat32 ∨ type = tBool)
    ∧ (if type = tFloat32 ∨ type = tFloat64 then opx ≤ 1 else if type = tBool then opx ≠ 2 ∧ opx ≠ 6 else true)

/-- An RMW on a point is refused to `w` as the writer tenant's write is (R110). -/
def Point.refusesRmw (p : Point) (w : Who) : Bool := p.hub ∨ w.slot ≠ some p.writerSlot ∨ p.isForced

/-- An RMW at a point (R110): status, the value read, and the state after. DESIGN CHOICE (log 49): it reads the record's VALUE, which a write
already accepted has not changed before the point's next update (R47). -/
def State.rmwPoint (s : State) (w : Who) (off opx len a b : Nat) : Nat × Nat × State :=
  let n := off / 64
  let p := s.point n
  if p.refusesRmw w then (stDenied, 0, s)
  else if off % 64 ≠ 0 then (stBusError, 0, s)
  else if ¬ rmwAllowed p.type opx len then (stDataBad, 0, s)
  else
    let v := p.value % 2 ^ (8 * len)
    match rmwValue opx len v a b with
    | none => (stOk, v, s)
    | some x =>
      let (st, s') := s.writePoint w (64 * n) (leBytes 8 (if len = 4 then encodeBy p.type x else x))
      (st, if st = stOk then v else 0, s')

end Sys2Proof.Machine
end

