-- ==== Sys2Proof/Machine/Locks.lean ====
section
/-!
DEFINITION. Bus locks at the target and lock sequences at the issuing hub (R111 to R113, R344 to R348): holding and releasing a bus,
and closing a sequence with a release to every bus it named.
-/

namespace Sys2Proof.Machine

def State.busLock (s : State) (p : Nat) : BusLock := NMap.get (fun _ => {}) s.brg.locks p
def State.setBusLock (s : State) (p : Nat) (x : BusLock) : State :=
  { s with brg := { s.brg with locks := NMap.set (fun _ => {}) s.brg.locks p x } }

/-- The sequence named by a request holds port `p` (R346). -/
def State.holds (s : State) (p : Nat) (r : Req) : Bool := (s.busLock p).holder = some (r.src, r.tn, r.lockId)

/-- Free the bus of port `p`, whoever holds it (R347). -/
def State.freeBus (s : State) (p : Nat) : State := s.setBusLock p { s.busLock p with holder := none, until_ := 0, expired := false }

/-- A posted write has failed on the bus (Table 12-2). -/
def State.postFail (s : State) (r : Req) : State :=
  ((s.inc R.BRG_POST_CNT_FAIL).wr R.BRG_POST_FAIL_FA_W0 r.fa).wr R.BRG_POST_FAIL_FA_W1 (r.fa / 2 ^ 32)

/-- An operation that the bridge drops: a posted write has completed, and counts as failed; any other completes with a status. -/
def State.dropOp (s : State) (o : BusOp) (status : Nat) : State := if o.posted then s.postFail o.req else s.refuse o.req status

/-- A release for port `p` from a sequence: ignored unless that sequence holds the bus (R348). Its locked operations that still wait
complete with ABORTED (R347). -/
def State.releaseBus (s : State) (p src tn id : Nat) : State :=
  if (s.busLock p).holder = some (src, tn, id) then
    let ops := NMap.get (fun _ => []) s.brg.lockedOps p
    let s := { s.freeBus p with brg := { (s.freeBus p).brg with lockedOps := NMap.set (fun _ => []) s.brg.lockedOps p [] } }
    ops.foldl (fun s o => s.dropOp o stAborted) s
  else s

/-- A lock time of the sequence has expired: its target said so, or the time is over (R112). -/
def LockSeq.dead (q : LockSeq) (ns : Nat) : Bool := q.expired || q.ends.any fun e => e ≤ ns

/-- An open lock sequence of a slot. -/
def State.lockSeq (s : State) (slot id : Nat) : Option LockSeq :=
  s.hif.locks.find? fun q => q.slot = slot ∧ q.id = id

/-- Release one bus of a sequence: here, or by an UNLOCK request under tag `k` of generation `g`, with the traffic class and TD of its descriptor, to
the hub that holds it (R348, R358). One with no route is counted in MISS (R25), and nothing answers it. -/
def State.sendRelease (s : State) (slot id : Nat) (bus : Nat × Nat) (k g tc td : Nat) : State :=
  if s.isMine bus.1 then s.releaseBus bus.2 s.node0 slot id
  else
    let r : Req := { src := s.node0, tn := slot, tag := k, gen := g, op := opUnlock, node := bus.1, space := bus.2, tc := tc, td := td
                     locked := true, lockId := id }
    if s.route bus.1 false = .noRoute then s.inc R.RING_NOROUTE_CNT_MISS else s.sendTo bHost bus.1 r.toFrame

/-- The releases of a sequence that go to other hubs: node, ring, station routed to and direction. -/
def State.releaseWaits (s : State) (q : LockSeq) : List (Nat × Nat × Nat × Nat) :=
  (q.sent.filter fun b => ¬ s.isMine b.1).map fun b => match s.route b.1 false with
    | .to n via d => (b.1, n, via, d)
    | _ => (b.1, 0, 0, 0)

/-- Close a sequence: a release to every bus for which it sent a LOCK, and it is open no more (R113, R348). `k` and `g` name the transaction that the
releases belong to, and `tc` and `td` its traffic class and domain. -/
def State.closeSeq (s : State) (slot id k g tc td : Nat) : State :=
  match s.lockSeq slot id with
  | none => s
  | some q =>
    let s := q.sent.foldl (fun s b => s.sendRelease slot id b k g tc td) s
    { s with hif := { s.hif with locks := s.hif.locks.filter fun x => ¬ (x.slot = slot ∧ x.id = id) } }

/-- Mark a sequence as expired: every later operation of it completes with ABORTED (R112). -/
def State.expireSeq (s : State) (slot id : Nat) : State :=
  { s with hif := { s.hif with locks := s.hif.locks.map fun x =>
    if x.slot = slot ∧ x.id = id then { x with expired := true } else x } }

end Sys2Proof.Machine
end

