-- ==== Sys2Proof/Machine/PinOps.lean ====
section
/-!
DEFINITION. Pins as configured and as driven (chapter 08): the function a pin has in effect, the routing of pairs, applying a value to a
pin or to FP, and the conditions of the points bound to a port.
-/

namespace Sys2Proof.Machine

/-- The hub is the standby of a twin pair, or a member whose role the formation has not yet settled (R397). -/
def State.standby (s : State) : Bool := s.rd R.TWIN_STAT_ROLE = 2 ∨ (s.rd R.TWIN_STAT_ROLE = 0 ∧ s.rd R.TWIN_STAT_PAIR = 1)

/-- READY has risen, and the hub is not in DOZE: pins act, and the cycle runs (R229). -/
def State.ready (s : State) : Bool := s.flag R.ID_STATE_READY && !s.pwr.asleep

/-! ### Pin functions in effect (R227 to R231, R251) -/

abbrev fnOff : Nat := 0
abbrev fnDi24 : Nat := 1
abbrev fnLogicIn : Nat := 2
abbrev fnLogicOut : Nat := 3
abbrev fnLogicBriar : Nat := 4
abbrev fnDoHs : Nat := 5
abbrev fnDoPp : Nat := 6
abbrev fnAi : Nat := 7
abbrev fnPair : Nat := 8
abbrev fnAo : Nat := 9
abbrev fnIol : Nat := 10

/-- PORT_FN's field of pin `x` as stored. -/
def State.fnRaw (s : State) (p x : Nat) : Nat := s.rd ⟨0xC0000 + 0x400 * p, 4 * x, 4⟩

/-- Fields of PORT_PAIR for pair `i`. -/
def pairFld (p i lo w : Nat) : Fld := ⟨0xC0004 + 0x400 * p, 16 * i + lo, w⟩
def State.pairMode (s : State) (p i : Nat) : Nat :=
  let m := s.rd (pairFld p i 0 3)
  if i = 1 ∧ m = 1 then 0 else m
def State.pairKind (s : State) (p i : Nat) : Nat := s.rd (pairFld p i 6 3)
def State.pairIdx (s : State) (p i : Nat) : Nat := s.rd (pairFld p i 10 6)

/-- Kinds of routed controller (Table 08-9). -/
abbrev cUart : Nat := 1
abbrev cCan : Nat := 2
abbrev cSpe : Nat := 3
abbrev cBriar : Nat := 4
abbrev cIol : Nat := 4

/-- Both pins of a pair are PAIR. -/
def State.bothPair (s : State) (p i : Nat) : Bool := s.fnRaw p (2 * i) = fnPair ∧ s.fnRaw p (2 * i + 1) = fnPair

/-- Pair 0 of the port runs in mode RS422, with pair 1 as its receiver (Table 08-2): pair 1's own mode and routing have no effect. -/
def State.rs422 (s : State) (p : Nat) : Bool := s.bothPair p 0 ∧ s.bothPair p 1 ∧ s.pairMode p 0 = 1

/-- The controller kind of the pair that pin `x` belongs to: the receiver of an RS422 pair belongs to pair 0's (R233). -/
def State.lineKind (s : State) (p x : Nat) : Nat := if s.rs422 p then s.pairKind p 0 else s.pairKind p (x / 2)

/-- Every condition on a pair but that of one pair per controller (R228 rules 1, 4; R230; R231). -/
def State.pairBase (s : State) (p i : Nat) : Bool :=
  let m := s.pairMode p i
  let k := s.pairKind p i
  let x := s.pairIdx p i
  s.bothPair p i ∧ ¬ (i = 1 ∧ s.rs422 p) ∧ m ≤ 5 ∧ (m = 1 → s.bothPair p 1) ∧ (i = 1 → m ≤ 3)
    ∧ ((k = cUart ∧ m ≤ 1) ∨ (k = cCan ∧ (m = 2 ∨ m = 3) ∧ x < 32) ∨ (k = cSpe ∧ (m = 4 ∨ m = 5) ∧ x < 16) ∨ (k = cBriar ∧ m ≤ 1))

/-- The pair to which controller `x` of kind `k` is routed, as 2 × port + pair: the first in ascending order (R231). -/
def State.pairOf (s : State) (k x : Nat) : Option Nat :=
  (List.range 128).find? fun q => s.pairKind (q / 2) (q % 2) = k ∧ s.pairIdx (q / 2) (q % 2) = x ∧ s.pairBase (q / 2) (q % 2)

/-- The pair is routed to a controller that no pair before it names (R231). -/
def State.pairRouted (s : State) (p i : Nat) : Bool :=
  s.pairBase p i ∧ (s.pairKind p i = cBriar ∨ s.pairOf (s.pairKind p i) (s.pairIdx p i) = some (2 * p + i))

/-- The pair runs: it is routed, and its driver has not been refused (R251). -/
def State.pairOn (s : State) (p i : Nat) : Bool :=
  s.pairRouted p i ∧ ¬ bit (s.rd (R.PORT_STAT_REFUSED_PAIR p)) i

/-- The function of pin `x` as its pair loads it (R228 rules 1, 2, 4, 5; R230): PAIR on one pin only turns both off, and RS422 on pair 0
without PAIR on pair 1 turns all four off; with it, pair 1 follows pair 0. -/
def State.fnBase (s : State) (p x : Nat) : Nat :=
  let f := s.fnRaw p x
  let i := x / 2
  if 10 < f ∨ (s.bothPair p 0 ∧ s.pairMode p 0 = 1 ∧ ¬ s.bothPair p 1) then fnOff
  else if f = fnPair then
    (if s.pairRouted p (if s.rs422 p then 0 else i) then fnPair else fnOff)
  else if s.fnRaw p (2 * i + 1 - x % 2) = fnPair then fnOff
  else if (f = fnAo ∨ f = fnIol) ∧ x ≠ 2 then fnOff
  else f

/-- FP_MODE and pin C agree on IO-Link (R228 rule 3). -/
def State.iolPair (s : State) (p : Nat) : Bool := (s.rd (R.PORT_FN_FP_MODE p) = 3) = (s.fnBase p 2 = fnIol)

/-- The function that pin `x` loads with (R228). -/
def State.fnLoad (s : State) (p x : Nat) : Nat := if x = 2 ∧ ¬ s.iolPair p then fnOff else s.fnBase p x

/-- The FP_MODE that a port loads with (R228 rule 3): 0 OFF, 1 POINT, 2 ALWAYS, 3 IOL. -/
def State.fpLoad (s : State) (p : Nat) : Nat :=
  if s.iolPair p then s.rd (R.PORT_FN_FP_MODE p) else 0

/-- The function of pin `x` of port `p` in effect: OFF until READY and in DOZE (R229), and while the budget refuses it (R251). -/
def State.fn (s : State) (p x : Nat) : Nat :=
  let f := s.fnLoad p x
  if ¬ s.ready ∨ bit (s.rd (R.PORT_STAT_REFUSED p)) x ∨ (f = fnPair ∧ bit (s.rd (R.PORT_STAT_REFUSED_PAIR p)) (x / 2)) then fnOff else f

/-- FP_MODE in effect. -/
def State.fpMode (s : State) (p : Nat) : Nat := if s.ready then s.fpLoad p else 0

/-- A digital function, whose level binding kind 0x01 delivers (R238). -/
def isDigital (f : Nat) : Bool := 1 ≤ f ∧ f ≤ 6
/-- A digital output function. -/
def isDo (f : Nat) : Bool := f = fnDoHs ∨ f = fnDoPp ∨ f = fnLogicOut

/-- MODE of an IO-Link master; 5 to 7 fall back to DEACTIVATED. -/
def State.iolMode (s : State) (p : Nat) : Nat :=
  let m := s.rd (R.PCTL_IOL_CFG_MODE p)
  if 4 < m then 0 else m

/-- The C/Q line that an enabled IO-Link master runs in SIO (Tables 10-5, 10-11): 1 DI, 2 DQ, else 0. DEDUCED (log 79): its level is that of pin C. -/
def State.sio (s : State) (p x : Nat) : Nat :=
  if x = 2 ∧ s.fn p 2 = fnIol ∧ s.flag (R.PCTL_IOL_CFG_EN p) ∧ s.iolMode p ≤ 2 then s.iolMode p else 0

/-- Pin `x` has a level to read: a digital function, or C/Q in SIO. -/
def State.digital (s : State) (p x : Nat) : Bool := isDigital (s.fn p x) ∨ s.sio p x ≠ 0
/-- Pin `x` takes a level: a digital output function, or C/Q in SIO DQ. -/
def State.takesLevel (s : State) (p x : Nat) : Bool := isDo (s.fn p x) ∨ s.sio p x = 2
/-- A function that draws on field power (R224). -/
def onField (f : Nat) : Bool := f = fnDoHs ∨ f = fnDoPp ∨ f = fnAo

def State.pin (s : State) (p x : Nat) : Pin := NMap.get (fun _ => {}) s.fld.pins (4 * p + x)
def State.setPin (s : State) (p x : Nat) (v : Pin) : State :=
  { s with fld := { s.fld with pins := NMap.set (fun _ => {}) s.fld.pins (4 * p + x) v } }

/-- Set one bit of a register field that holds a bit per item. -/
def State.wrBit (s : State) (f : Fld) (i : Nat) (b : Bool) : State := s.wr f (setBits (s.rd f) i 1 (bnat b))

/-- An item of a port (0 to 3 pins, 4 and 5 pairs) is derated. -/
def State.isDerated (s : State) (p i : Nat) : Bool := (8 * p + i) ∈ s.fld.derated

/-! ### Points bound to a pin (Table 02-6) -/

/-- The point is bound to pin `x` (4: FP) of port `p`. -/
def Point.onPin (q : Point) (p x : Nat) : Bool :=
  ((q.bindKind = 1 ∨ q.bindKind = 2 ∨ q.bindKind = 3 ∨ q.bindKind = 9) ∧ q.bindByte 1 = p ∧ q.bindByte 2 = x)
    ∨ (q.bindKind = 4 ∧ q.bindByte 1 = p ∧ x = 2)

/-- A point configured on port `p`, at any pin. -/
def Point.onPort (q : Point) (p : Nat) : Bool :=
  (q.bindKind = 1 ∨ q.bindKind = 2 ∨ q.bindKind = 3 ∨ q.bindKind = 4 ∨ q.bindKind = 9) ∧ q.bindByte 1 = p

/-- The pin of a port that the point is bound to. -/
def Point.pinOf (q : Point) : Nat := if q.bindKind = 4 then 2 else q.bindByte 2

def State.pinPoints (s : State) (p x : Nat) : List Nat := s.pts.recs.keys.filter fun n => (s.point n).onPin p x

/-! ### Measurement channels as configured (R262, R263) -/

/-- Channel A of the port is a 4-wire RTD, for which B and C sense (R263). -/
def State.fourWire (s : State) (p : Nat) : Bool :=
  s.fnLoad p 0 = fnAi ∧ s.rd (R.MEAS_CFG_RANGE (4 * p)) = 4 ∧ s.rd (R.MEAS_CFG_WIRE (4 * p)) = 2 ∧ s.fnLoad p 1 = fnAi ∧ s.fnLoad p 2 = fnAi

/-- Channel `x` of the port is a 3-wire RTD, for which its pair partner senses (R263). -/
def State.threeWire (s : State) (p x : Nat) : Bool :=
  s.fnLoad p x = fnAi ∧ s.rd (R.MEAS_CFG_RANGE (4 * p + x)) = 4 ∧ s.rd (R.MEAS_CFG_WIRE (4 * p + x)) = 1 ∧ s.fnLoad p (x + 1) = fnAi

/-- Channel `c` senses for an RTD channel of its port, and its own MEAS_CFG is ignored (R263). -/
def State.sensed (s : State) (c : Nat) : Bool :=
  let p := c / 4
  match c % 4 with
  | 1 => s.fourWire p || s.threeWire p 0
  | 2 => s.fourWire p
  | 3 => !s.fourWire p && s.threeWire p 2
  | _ => false

/-- The RTD connection of channel `c` is legal: WIRE with its sense pins in AI (R263). What a sense channel's own MEAS_CFG says is ignored. -/
def State.rtdOk (s : State) (c : Nat) : Bool :=
  let p := c / 4
  let x := c % 4
  if s.sensed c then true
  else match s.rd (R.MEAS_CFG_WIRE c) with
  | 1 => (x = 0 ∨ x = 2) ∧ s.fnLoad p (x + 1) = fnAi
  | 2 => x = 0 ∧ s.fnLoad p 1 = fnAi ∧ s.fnLoad p 2 = fnAi
  | _ => true

/-- RANGE of a channel's own MEAS_CFG: a reserved code and an RTD connection that fails R263 are V24. -/
def State.rangeSet (s : State) (c : Nat) : Nat :=
  let r := s.rd (R.MEAS_CFG_RANGE c)
  if 4 < r ∨ (r = 4 ∧ ¬ s.rtdOk c) then 1 else r

/-- WIRE in effect: 0 to 2. -/
def State.wire (s : State) (c : Nat) : Nat := let w := s.rd (R.MEAS_CFG_WIRE c); if w = 3 then 0 else w

/-- The sense channels of an RTD channel. -/
def State.senses (s : State) (c : Nat) : List Nat :=
  if s.fn (c / 4) (c % 4) ≠ fnAi ∨ s.rangeSet c ≠ 4 ∨ s.sensed c then []
  else match s.wire c with | 1 => [c + 1] | 2 => [c + 1, c + 2] | _ => []

/-- Channel `c` is a sense channel of its port (R263). -/
def State.isSense (s : State) (c : Nat) : Bool := (List.range 4).any fun x => c ∈ s.senses (4 * (c / 4) + x)

/-- The channel whose MEAS_CFG applies to channel `c`: a sense channel measures for its RTD channel, whatever its own MEAS_CFG (R263). -/
def State.cfgOf (s : State) (c : Nat) : Nat :=
  (((List.range 4).map (4 * (c / 4) + ·)).find? fun d => c ∈ s.senses d).getD c

/-- RANGE in effect. The read-back of an AO pin is in the unit of its output: DESIGN CHOICE (log 80), a current output is read in I20, and a voltage
output in its channel's range where that is V10 or V24, else in V10. -/
def State.range (s : State) (c : Nat) : Nat :=
  let r := s.rangeSet (s.cfgOf c)
  if s.fn (c / 4) (c % 4) = fnAo then (if s.rd (R.MEAS_AO_RANGE (c / 4)) = 2 then 2 else if r ≤ 1 then r else 0) else r

/-- The conditions that the port reports for a point (R224, R236, R237, R245, R248, R252, R270, R274). -/
def State.portConds (s : State) (q : Point) : List Nat :=
  let p := q.bindByte 1
  let x := q.pinOf
  let c := 4 * p + x
  let inp := !q.isOutput
  let noPower := !s.fld.power && (if x = 4 then s.fpMode p ≠ 0 else onField (s.fn p x))
  let dep := inp && x < 4 && bit (s.rd (R.PORT_FN_FP_DEP p)) x && !s.flag (R.PORT_STAT_FP_ON p)
  let cal := q.bindKind = 2 ∧ x < 4 ∧ (s.flag (R.MEAS_STAT_CAL_FAULT c) ∨ c ∈ s.meas.badCj)
  (if noPower ∨ dep ∨ cal ∨ (x < 4 ∧ s.isDerated p x) then [qFault] else [])
    ++ (if (if x = 4 then s.flag (R.PORT_DIAG_FP_SHORT p) else bit (s.rd (R.PORT_DIAG_SHORT p)) x) then [qShort] else [])
    ++ (if (if x = 4 then s.flag (R.PORT_DIAG_FP_OPEN p) else bit (s.rd (R.PORT_DIAG_OPEN p)) x) then [qOpenWire] else [])
    ++ (if inp && x < 4 && bit (s.rd (R.PORT_DIAG_STUCK p)) x then [qStale] else [])
    ++ (if inp && x < 4 && bit (s.rd (R.PORT_DIAG_CHAT p)) x then [qChatter] else [])

/-- Take the conditions of point `n` anew from its port, or from its format table and poll (R292, R300); CLIPPED belongs to a delivery and stays.
A point of neither keeps its conditions. -/
def State.refreshPoint (s : State) (n : Nat) : State :=
  let q := s.point n
  if q.onPort (q.bindByte 1) then s.setPoint n { q with conds := s.portConds q ++ q.conds.filter (· = qClipped) }
  else if q.bindKind = 5 then
    let cs := if q.isOutput then [] else NMap.get (fun _ => []) s.pctl.tabConds (q.bind16 1)
    s.setPoint n { q with conds := cs ++ (if n ∈ s.pctl.missed then [qNoResponse] else []) ++ q.conds.filter (· = qClipped) }
  else s

/-- The polls that feed or read points `ns` fail, or (`on` false) have done so for an update that is over (R292). -/
def State.markMissed (s : State) (ns : List Nat) (on : Bool) : State :=
  let hit := if on then ns else ns.filter (· ∈ s.pctl.missed)
  let rest := s.pctl.missed.filter (· ∉ hit)
  hit.foldl State.refreshPoint { s with pctl := { s.pctl with missed := if on then rest ++ hit else rest } }

/-- Take the conditions of every point anew. -/
def State.refreshAll (s : State) : State := s.pts.recs.keys.foldl State.refreshPoint s

/-- Take the port's conditions anew for every point bound to it. -/
def State.refreshPort (s : State) (p : Nat) : State :=
  (s.pts.recs.keys.filter fun n => (s.point n).onPort p).foldl State.refreshPoint s

/-! ### Driving a pin (R239 to R241, R257) -/

/-! What a pin draws or loads is off on the standby (Table 08-6); its comparators and receivers go on. -/

/-- The type 3 current sink of a DI24 pin is connected (R234). -/
def State.sinkOn (s : State) (p x : Nat) : Bool := s.fn p x = fnDi24 ∧ s.flag (R.PORT_DIL_SINK p x) ∧ ¬ s.standby

/-- The pair is terminated (R232): an RS422 port across its receiving pair; T1L ignores TERM. -/
def State.termOn (s : State) (p i : Nat) : Bool :=
  let on := fun (j : Nat) => s.pairOn p j && s.rd (pairFld p j 3 1) == 1 && s.pairMode p j != 5 && !s.standby
  if s.rs422 p then i == 1 && on 0 else on i

/-- Failsafe bias is connected (R232): RS485 and RS422 alone. -/
def State.biasOn (s : State) (p i : Nat) : Bool :=
  let on := fun (j : Nat) => s.pairOn p j && s.rd (pairFld p j 4 1) == 1 && decide (s.pairMode p j ≤ 1) && !s.standby
  if s.rs422 p then i == 1 && on 0 else on i

/-- Field power is within limits, and an output deadline has come since it returned (R224). -/
def State.powered (s : State) : Bool := s.fld.power ∧ ¬ s.fld.powerBack

/-- An item of a port is derated, or has been restored and waits for its output deadline (R252, R253). -/
def State.shed (s : State) (p i : Nat) : Bool := s.isDerated p i ∨ (8 * p + i) ∈ s.fld.restored

/-- The output stage of pin `x` can drive: field power where it needs it, not derated, not in shutdown, not latched; after a loss of power or a
derating it drives from the next output deadline on. -/
def State.stageSound (s : State) (p x : Nat) : Bool :=
  let v := s.pin p x
  ¬ v.latched ∧ ¬ v.hot ∧ ¬ s.shed p x ∧ (s.powered ∨ ¬ onField (s.fn p x))

/-- The output stage of pin `x` may drive: it can, and the hub is not the standby. -/
def State.mayDrive (s : State) (p x : Nat) : Bool := s.stageSound p x ∧ ¬ s.standby

/-- The driver of a routed pair is enabled: not in shutdown, not derated, not the standby (R232, R252, R257). -/
def State.pairDrives (s : State) (p i : Nat) : Bool :=
  s.pairOn p i ∧ (2 * p + i) ∉ s.fld.pairHot ∧ ¬ s.shed p (4 + i) ∧ ¬ s.standby

/-- The output stage or pair driver of pin `x` may drive. -/
def State.stageOn (s : State) (p x : Nat) : Bool := if s.fn p x = fnPair then s.pairDrives p (x / 2) else s.mayDrive p x

/-- A pin's stage turns off, to drive again at an output deadline once it may (R224, R253). -/
def State.suspendPin (s : State) (p x : Nat) : State :=
  s.setPin p x { s.pin p x with driving := false, held := (s.pin p x).held || (s.pin p x).driving }

/-- A stage that has been held off drives again what was last applied. -/
def State.resumePin (s : State) (p x : Nat) : State :=
  if (s.pin p x).held ∧ s.stageOn p x then s.setPin p x { s.pin p x with driving := true, held := false } else s

/-- Apply a level to a digital output pin. -/
def State.setLevel (s : State) (p x : Nat) (b : Bool) : State :=
  let on := s.mayDrive p x
  s.setPin p x { s.pin p x with applied := bnat b, driving := on, held := !on && !(s.pin p x).latched }

/-- A 0 applied to a latched pin clears the latch and its SHORT (R240). -/
def State.unlatch (s : State) (p x : Nat) : State :=
  if (s.pin p x).latched then
    (((s.setPin p x { s.pin p x with latched := false }).wrBit (R.PORT_DIAG_SHORT p) x false)).refreshPort p
  else s

/-- An output deadline (or the port's channel) applies a level to a DO or LOGIC_OUT pin: a 0 clears the latch, but not in the safe state, where a
latched pin stays off whatever its safe value (R240). -/
def State.applyDo (s : State) (p x : Nat) (b : Bool) : State :=
  if ¬ (s.takesLevel p x ∨ s.fn p x = fnLogicBriar) then s
  else if b ∨ s.inSafe then s.setLevel p x b else (s.unlatch p x).setLevel p x false

/-- Turn a pin's output off. -/
def State.pinOff (s : State) (p x : Nat) : State := s.setPin p x { s.pin p x with driving := false, held := false }

/-- Turn FP on or off. Points on FP_DEP pins follow (R245). -/
def State.setFp (s : State) (p : Nat) (on : Bool) : State := (s.wr (R.PORT_STAT_FP_ON p) (bnat on)).refreshPort p

/-- The trip latch of the FP switch clears once it has had a clearing event and is re-armed (R244, R481). -/
def State.fpClearEvent (s : State) (p : Nat) : State :=
  if ¬ s.flag (R.PORT_STAT_FP_TRIP p) then s
  else if (4 + p) ∈ s.pwr.brkHot then
    { s with pwr := { s.pwr with brkEvt := if (4 + p) ∈ s.pwr.brkEvt then s.pwr.brkEvt else (4 + p) :: s.pwr.brkEvt } }
  else
    let s := { s with pwr := { s.pwr with brkEvt := s.pwr.brkEvt.filter (· ≠ 4 + p) } }
    ((s.wr (R.PORT_STAT_FP_TRIP p) 0).wr (R.PORT_DIAG_FP_SHORT p) 0).refreshPort p

/-- FP is demanded on or off; its breaker must be armed (R482). -/
def State.driveFp (s : State) (p : Nat) (on : Bool) : State :=
  s.setFp p (on && s.fpMode p ≠ 0 && !s.flag (R.PORT_STAT_FP_TRIP p) && (4 + p) ∉ s.pwr.brkHot && s.powered && !s.standby)

/-- An output deadline demands FP on or off (R243); in POINT mode a 0 is a clearing event (R244). -/
def State.applyFp (s : State) (p : Nat) (on : Bool) : State :=
  (if s.fpMode p = 1 ∧ ¬ on then s.fpClearEvent p else s).driveFp p on

/-- The code that an AO value drives (R277), saturated to the ends of its range; the applied value is the code in two's complement. -/
def State.aoCode (s : State) (p type v : Nat) : Nat :=
  let r := s.rd (R.MEAS_AO_RANGE p)
  let lo : Int := if r = 1 then -32768 else 0
  let hi : Int := if r = 1 then 32767 else 65535
  let sat := fun (i : Int) => toBits 32 (min hi (max lo i))
  if type = tInt32 ∨ type = tInt64 then sat (sext 64 v)
  else
    let x := if type = tFloat32 then f32.conv f64 v else v
    -- steps per unit: 65536 / 10 V, 65536 / 20 V, 65536 / 24 mA
    let k := if r = 0 then f64.div (f64.ofInt 65536) (f64.ofInt 10)
      else if r = 1 then f64.div (f64.ofInt 65536) (f64.ofInt 20) else f64.div (f64.ofInt 65536000) (f64.ofInt 24)
    match f64.dec (f64.mul x k) with
    | .inf n => sat (if n then lo else hi)
    | y => sat ((y.toInt?).getD lo)

/-- An output deadline applies a value to the analog output of a port. -/
def State.applyAo (s : State) (p type v : Nat) : State :=
  if s.fn p 2 ≠ fnAo then s
  else s.setPin p 2 { s.pin p 2 with applied := s.aoCode p type v, driving := s.mayDrive p 2 }

/-- A point is a scheduled-edge point (R216). -/
def Point.isEdge (q : Point) : Bool := q.type = tUint64 ∧ q.bindKind = 3 ∧ q.isOutput

/-- The level of pin `x` comes from the port's Briar channel (R241, Table 11-2): LOGIC_BRIAR, and DO_HS or DO_PP with SRC 1. -/
def State.byChannel (s : State) (p x : Nat) : Bool :=
  s.fn p x = fnLogicBriar ∨ ((s.fn p x = fnDoHs ∨ s.fn p x = fnDoPp) ∧ s.flag (R.PORT_DO_SRC p x))

/-- Apply value `v` of output point `q` at its pin. A pin whose level comes from a Briar channel takes nothing (R241). -/
def State.applyValue (s : State) (q : Point) (v : Nat) : State :=
  let p := q.bindByte 1
  let x := q.bindByte 2
  if q.bindKind = 4 then s.applyAo p q.type v
  else if q.bindKind ≠ 3 then s
  else if x = 4 then (if s.fpMode p = 1 then s.applyFp p (v ≠ 0) else s)
  else if s.byChannel p x then s
  else s.applyDo p x (if q.isEdge then bit v 63 else v ≠ 0)

/-- Output point `q` takes its safe value at entry to the safe state, which is no output deadline: FP is no more than driven (R244). -/
def State.applySafe (s : State) (q : Point) : State :=
  if q.bindKind = 3 ∧ q.bindByte 2 = 4 then (if s.fpMode (q.bindByte 1) = 1 then s.driveFp (q.bindByte 1) (q.safe ≠ 0) else s)
  else s.applyValue q q.safe

/-- Every output pin takes its safe value at once (Table 18-2 step 4, R241, R243, R330): the SAFE of the points bound to it, or PORT_DO.SAFE
where the level comes from a Briar channel; LOGIC_BRIAR pins and the drivers of BRIAR pairs are off. -/
def State.safeOutputs (s : State) : State :=
  let s := (s.pts.recs.keys.filter fun n => (s.point n).isOutput).foldl (fun s n => s.applySafe (s.point n)) s
  (List.range 256).foldl (fun s c =>
    let p := c / 4
    let x := c % 4
    if s.fn p x = fnLogicBriar ∨ (s.fn p x = fnPair ∧ s.lineKind p x = cBriar) then s.pinOff p x
    else if s.byChannel p x then s.applyDo p x (s.flag (R.PORT_DO_SAFE p x))
    else s) s

end Sys2Proof.Machine
end

