-- ==== Sys2Proof/Machine/SafeOps.lean ====
section
/-!
DEFINITION. What entry to the safe state does in each block (Table 18-2, R466): called by `State.enterSafe`, and by the twin when a
relinquish ends.
-/

namespace Sys2Proof.Machine

/-- The twin is told (R409, R465): an active with a READY standby relinquishes, and a standby sends its active a notice. -/
def State.safeTwin (s : State) : State :=
  if s.rd R.TWIN_STAT_ROLE = 1 ∧ s.rd R.TWIN_STAT_PAIR = 3 then
    ({ s with twin := { s.twin with relinquish := true } }).emit (.twin "relinquish" [])
  else if s.rd R.TWIN_STAT_ROLE = 2 then s.emit (.twin "safe notice" [])
  else s

/-- Scheduled-edge queues are cleared (R218). -/
def State.safeEdges (s : State) : State := { s with td := { s.td with edges := [] } }

/-- Every lock is released, and no LOCK waits (R347, Table 18-3). -/
def State.safeLocks (s : State) : State :=
  s.brg.locks.keys.foldl (fun s p =>
    let x := s.busLock p
    let s := match x.holder with
      | some (src, tn, id) => s.releaseBus p src tn id
      | none => s
    let waiting := x.contenders ++ x.winner.toList
    waiting.foldl (fun s r => s.refuse r stSafe) (s.setBusLock p {})) s

/-- A refused operation of a bridge queue completes with SAFE_STATE. -/
def State.safeBridgeOp (s : State) (o : BusOp) : State := s.dropOp o stSafe

/-- Table 18-3 refuses a request at its target. -/
def safeRefuses (r : Req) : Bool :=
  (r.op = opWrite ∧ r.space ≠ 0x200 ∧ r.space ≠ 0x3FFF) ∨ r.op = opRmw ∨ r.op = opLock ∨ r.op = opSend ∨ r.op = opTableLoad ∨ r.op = opPower

/-- Egress entries that name a field port discard the frames that they hold, and those of theirs that wait at a controller (R354). -/
def State.dropTunnelled (s : State) : State :=
  let s := s.brg.tun.foldl (fun (s : State) ((t, q) : Nat × List TunFrame) =>
    if 4 ≤ s.rd (R.BRG_TUN_CFG_KIND t) then s
    else ({ s with brg := { s.brg with tun := NMap.set (fun _ => []) s.brg.tun t [] } }).inc (R.BRG_TUN_CNT_DROP t) q.length) s
  s.pctl.tx.foldl (fun (s : State) ((c, q) : Nat × List TxItem) =>
    let s := { s with pctl := { s.pctl with tx := NMap.set (fun _ => []) s.pctl.tx c (q.filter fun x => x.tun.isNone) } }
    (q.filterMap (·.tun)).foldl (fun s t => s.inc (R.BRG_TUN_CNT_DROP t)) s) s

/-- Held and queued operations that Table 18-3 refuses end (R466): timed operations held here, writes that wait in a bridge queue, and raw
SENDs not yet sent. Process data out is marked invalid (R302), and tunnels to field ports drop what they hold (R354). -/
def State.safeQueued (s : State) : State :=
  let timed := s.tgt.held.filter fun r => safeRefuses r
  let s := timed.foldl (fun s r => s.refuse r stSafe) { s with tgt := { s.tgt with held := s.tgt.held.filter fun r => !safeRefuses r } }
  let s := s.brg.queue.foldl (fun s (p, q) =>
    let out := q.filter fun o => o.req.op = opWrite ∨ o.req.op = opRmw
    let s := { s with brg := { s.brg with queue := NMap.set (fun _ => []) s.brg.queue p (q.filter fun o => ¬ (o.req.op = opWrite ∨ o.req.op = opRmw)) } }
    out.foldl State.safeBridgeOp s) s
  let s := s.pctl.tx.foldl (fun s (c, q) =>
    let raw := q.filter fun x => x.req.isSome ∧ x.obj.isNone
    let s := { s with pctl := { s.pctl with tx := NMap.set (fun _ => []) s.pctl.tx c (q.filter fun x => ¬ (x.req.isSome ∧ x.obj.isNone)) } }
    raw.foldl (fun s x => x.req.elim s fun r => s.refuse r stSafe) s) s
  let pd := s.pctl.pdOut.foldl (fun m (x : Nat × List Byte × Bool) => NMap.set (fun _ => ([], false)) m x.1 (x.2.1, false)) s.pctl.pdOut
  let s := { s with pctl := { s.pctl with pdOut := pd } }
  s.dropTunnelled

/-- Steps 3 to 5 of Table 18-2. -/
def State.safeRest (s : State) : State := (((s.safeEdges).safeLocks).safeOutputs).safeQueued

end Sys2Proof.Machine
end

