-- ==== Sys2Proof/Machine/Flags.lean ====
section
/-!
DEFINITION. The fault flags: recording an occurrence (R460), clearing one (R461), ERR_N (R462), and entering the safe state (R464).
Every block raises its faults through `State.raise`.
-/

namespace Sys2Proof.Machine

/-- CLASS codes of FLT_SRC (Table 18-8). -/
def FClass.code : FClass → Nat
  | .C => 1
  | .U => 2
  | .F => 3

/-- The classes that Table 18-1 lists for a source: corrected, uncorrected, fatal. -/
def sourceClasses (b : Nat) : Bool × Bool × Bool :=
  if b = 0 ∨ b = 3 ∨ b = 4 then (false, true, true)
  else if b = 5 then (false, false, true)
  else if b = 6 ∨ b = 44 then (true, true, true)
  else if b = 7 ∨ b = 16 ∨ b = 46 then (false, true, false)
  else if b = 42 then (true, false, false)
  else if b ≤ 48 then (true, true, false)
  else (false, false, false)

/-- A source may raise a class (R459). -/
def mayRaise (b : Nat) (c : FClass) : Bool :=
  match c with
  | .C => (sourceClasses b).1
  | .U => (sourceClasses b).2.1
  | .F => (sourceClasses b).2.2

/-- STATUS bit `b` of FLT_STATUS. -/
def fltBit (b : Nat) : Fld := bitFld 0x30000 b
/-- FLT_MASK bit `b`. -/
def maskBit (b : Nat) : Fld := bitFld 0x30008 b
/-- FLT_ESC bit `b`. -/
def escBit (b : Nat) : Fld := bitFld 0x30010 b

/-- Enter the safe state with a cause (R464, Table 18-2): SAFE and CAUSE, one SAFE_ENTRY record, with the DETAIL of FLT_SRC where a source is the
cause (R469), the twin is told, edge queues and locks
are cleared, outputs go to their safe values, and held operations end. An active that relinquishes holds its pins until the relinquish
ends (R409). A later cause changes nothing. -/
def State.enterSafe (s : State) (cause cls rep : Nat) : State :=
  if s.inSafe then s
  else
    let s := (s.wr R.FLT_SAFE_SAFE 1).wr R.FLT_SAFE_CAUSE cause
    let s := s.logFault 0x10 (if cause = 0xFD then 0xFF else cause) cls rep (if cause < 49 then s.rd (R.FLT_SRC_DETAIL cause) else 0)
    let s := s.safeTwin
    if s.twin.relinquish then s else s.safeRest

/-- The first occurrence of source `b`: its record and a SET record in the log (R460). -/
def State.firstOccurrence (s : State) (b : Nat) (c : FClass) (detail : Nat) : State :=
  let t := s.tdNow 0 / 65536
  let s := (s.wr (fltBit b) 1).wr (R.FLT_SRC_CLASS b) (FClass.code c)
  let s := (s.wr (R.FLT_SRC_REPEAT b) 0).wr (R.FLT_SRC_DETAIL b) detail
  let s := (s.wr (R.FLT_SRC_FIRST_W0 b) (t % 1000000000)).wr (R.FLT_SRC_FIRST_W1 b) (t / 1000000000)
  s.logFault 0x01 b (FClass.code c) 0 detail

/-- A repeated occurrence: REPEAT saturates at 255 with one SATURATED record, and a higher class is kept with a RAISED record. -/
def State.repeatOccurrence (s : State) (b : Nat) (c : FClass) : State :=
  let r := s.rd (R.FLT_SRC_REPEAT b)
  let d := s.rd (R.FLT_SRC_DETAIL b)
  let s := if r < 255 then (s.wr (R.FLT_SRC_REPEAT b) (r + 1)).wr R.FLT_STATUS_REPEAT 1 else s
  let s := if r = 254 then s.logFault 0x03 b (max (s.rd (R.FLT_SRC_CLASS b)) (FClass.code c)) 255 d else s
  if s.rd (R.FLT_SRC_CLASS b) < FClass.code c then
    (s.wr (R.FLT_SRC_CLASS b) (FClass.code c)).logFault 0x02 b (FClass.code c) (s.rd (R.FLT_SRC_REPEAT b)) d
  else s

/-- An occurrence of source `b` in class `c` (R460). After a collector self-fault nothing is recorded (R463). -/
def State.raise (s : State) (b : Nat) (c : FClass) (detail : Nat := 0) : State :=
  if s.flt.selfFault then s
  else
    let s := if s.flag (fltBit b) then s.repeatOccurrence b c else s.firstOccurrence b c detail
    if c = .F ∨ (c = .U ∧ s.flag (escBit b)) then s.enterSafe b (FClass.code c) (s.rd (R.FLT_SRC_REPEAT b)) else s

/-- A condition of source `b` begins or ends to persist (R461); while it persists a clear sets the bit again in class `c`, with its DETAIL. -/
def State.persists (s : State) (b : Nat) (c : FClass) (on : Bool) (detail : Nat := 0) : State :=
  let rest := s.flt.persist.filter fun x => x.1 ≠ b ∨ x.2.1 ≠ c
  { s with flt := { s.flt with persist := if on then rest ++ [(b, c, detail)] else rest } }

/-- A write of 1 to bit `b` of FLT_STATUS (R461). A persisting cause is recorded again as a new first occurrence. -/
def State.clearFault (s : State) (b : Nat) : State :=
  if ¬ s.flag (fltBit b) then s
  else
    let s := s.logFault 0x04 b 0 (s.rd (R.FLT_SRC_REPEAT b)) (s.rd (R.FLT_SRC_DETAIL b))
    let s := (s.wr (fltBit b) 0).setWords (0x30100 + 0x10 * b) 4 0
    let s := s.wr R.FLT_STATUS_REPEAT (bnat ((List.range 49).any fun x => s.rd (R.FLT_SRC_REPEAT x) ≠ 0))
    match s.flt.persist.find? fun x => x.1 = b with
    | some (_, c, d) => s.raise b c d
    | none => s

/-- ERR_N is low (R462, R444): until the collector starts at step 5 of the boot; then on a U or F fault, or a C fault with its mask bit; in
the safe state; in recovery mode. -/
def State.errLow (s : State) : Bool :=
  !s.flt.started || s.inSafe || s.flt.selfFault || s.flag R.ID_STATE_RECOVERY || (List.range 49).any fun b =>
    s.flag (fltBit b) && (decide (2 ≤ s.rd (R.FLT_SRC_CLASS b)) || s.flag (maskBit b))

/-- What the hub presents on a digital output pin. -/
inductive PinOut where
  | low | high | highZ
deriving DecidableEq, Repr

/-- AON, which drives READY, ERR_N and PPS_OUT, is off in OFF and in DORMANT (Tables 19-5 and 22-12): the hub is unpowered for these pins (R548). -/
def State.unpowered (s : State) : Bool := s.pwr.state = .off ∨ s.pwr.state = .dormant

/-- The READY pin (R443 step 9, R548). -/
def State.readyPin (s : State) : PinOut :=
  if s.unpowered then .highZ else if s.flag R.ID_STATE_READY then .high else .low

/-- The ERR_N pin, an open drain (R462, R444, R548). -/
def State.errPin (s : State) : PinOut := if s.unpowered then .highZ else if s.errLow then .low else .high

/-- The PPS_OUT pin (R214, Table 22-12). -/
def State.ppsPin (s : State) : PinOut := if s.unpowered then .highZ else if s.td.ppsOut then .high else .low

end Sys2Proof.Machine
end

