-- ==== Sys2Proof/Machine/Queues.lean ====
section
/-!
DEFINITION. Tenants, queues and doorbells (chapter 03): the in-flight bound, fetching, queue reset, and the commands that poll,
read doorbells, time interrupts and end quarantines.
-/

namespace Sys2Proof.Machine

/-! ### The in-flight bound (R86, R87) -/

/-- Recompute GUAR and OVERCOMMIT (R86): at COMMIT and whenever EN or QUOTA changes before COMMIT. -/
def State.recomputeGuar (s : State) : State :=
  let sum := (List.range 16).foldl (fun n t => if s.slotOn t then n + s.rd (R.HIF_QUOTA_QUOTA t) else n) 0
  let guar := fun t => if ¬ s.slotOn t then 0
    else if sum ≤ 8192 then s.rd (R.HIF_QUOTA_QUOTA t) else 8192 * s.rd (R.HIF_QUOTA_QUOTA t) / sum
  ((List.range 16).foldl (fun s t => s.wr (R.HIF_QUOTA_GUAR t) (guar t)) s).wr R.HIF_TAG_STATE_OVERCOMMIT (bnat (8192 < sum))

/-- Tags held by slot `t`, quarantined ones included. -/
def State.held (s : State) (t : Nat) : Nat :=
  (s.hif.tags.filter fun (_, x) => match x.use with
    | .free => false | .flight y => y.slot = t | .quarantine u => u = t).length

/-- Tags that are not free. -/
def State.tagsUsed (s : State) : Nat := (s.hif.tags.filter fun (_, x) => x.use ≠ .free).length

/-- Descriptor reads of slot `t` issued and not yet arrived: each will take a tag. -/
def State.askedBy (s : State) (t : Nat) : Nat :=
  s.hif.pairs.foldl (fun n (p, x) => if p / 32 = t then n + x.asked else n) 0

/-- The rule `allocate` of R87, with `h u` the tags that slot `u` holds or has claimed by descriptor reads. -/
def State.mayAllocate (s : State) (h : Nat → Nat) (t : Nat) : Bool :=
  let free := 8192 - (List.range 16).foldl (fun n u => n + h u) 0
  let owed := (List.range 16).foldl (fun n u => if u = t then n else n + (s.rd (R.HIF_QUOTA_GUAR u) - h u)) 0
  h t < s.rd (R.HIF_QUOTA_QUOTA t) ∧ (h t < s.rd (R.HIF_QUOTA_GUAR t) ∨ owed < free)

/-- A transaction in flight under tag `k`. -/
def State.flight (s : State) (k : Nat) : Option Tx :=
  match (s.tag k).use with
  | .flight t => some t
  | _ => none

/-- The transactions in flight with their tags. -/
def State.flights (s : State) : List (Nat × Tx) :=
  s.hif.tags.filterMap fun (k, x) => match x.use with | .flight t => some (k, t) | _ => none

/-- A FENCE in flight holds fetching from pair `p` (R120). -/
def State.fenced (s : State) (p : Nat) : Bool :=
  s.flights.any fun (_, t) => t.req.op = opFence ∧ ¬ t.detached ∧ (t.pair = p ∨ (t.req.opx = 1 ∧ t.slot = p / 32))

/-- Descriptors that the pair's tail indicates and whose read has not been issued (R72). -/
def State.unasked (s : State) (p : Nat) : Nat :=
  let x := s.pair p
  (x.sqTail + s.sqDepth p - x.head) % s.sqDepth p - x.asked

/-- The pair has fetchable work. -/
def State.fetchable (s : State) (p : Nat) : Bool :=
  (s.pair p).st = .run ∧ s.unasked p ≠ 0 ∧ ¬ s.fenced p ∧ ¬ s.hif.fetchHold ∧ s.pwr.entry = none

/-- Tags held or claimed by slot `t`. -/
def State.claimed (s : State) (t : Nat) : Nat := s.held t + s.askedBy t

/-- Slot `t` may fetch one more descriptor. DESIGN CHOICE (log 78): between an error in the shared state and the rebuilding of the free pool no
descriptor is fetched, while reflex fetches and lock releases of the hub's own may take tags (R94). -/
def State.mayFetch (s : State) (t : Nat) : Bool :=
  s.mayAllocate s.claimed t ∧ ¬ (s.hif.rebuilding ∧ s.flights.any fun (_, t) => t.detached)

/-! ### Fetching (R72, R89) -/

/-- Issue the reads of up to `n` descriptors of one pair; the turn is cut short by the in-flight bound. -/
def State.fetchTurn (s : State) (p : Nat) : Nat → State
  | 0 => s
  | n + 1 =>
    if s.fetchable p ∧ s.mayFetch (p / 32) then
      let x := s.pair p
      let at_ := (x.head + x.asked) % s.sqDepth p
      let s := s.hostRead (p / 32) (s.sqBase p + 64 * at_) 64 "descriptor"
      (s.setPair p { x with asked := x.asked + 1 }).fetchTurn p n
    else s

/-- The next pair to serve: the first slot in round-robin order that has fetchable work within its bound, and in it the first such
pair in round-robin order. -/
def State.nextPair (s : State) : Option Nat :=
  let busy := s.hif.pairs.keys.filter fun p => s.fetchable p ∧ s.mayFetch (p / 32)
  let order := fun (n r x : Nat) => (x + n - r) % n
  let key := fun p => 32 * order 16 s.hif.rrSlot (p / 32) + order 32 (NMap.get (fun _ => 0) s.hif.rrPair (p / 32)) (p % 32)
  busy.foldl (fun b p => match b with
    | none => some p
    | some q => if key p < key q then some p else some q) none

/-- Round-robin turns until no slot can fetch; `n` bounds the turns. -/
def State.fetchTurns (s : State) : Nat → State
  | 0 => s
  | n + 1 =>
    match s.nextPair with
    | none => s
    | some p =>
      let s := s.fetchTurn p (s.rd (R.Q_CFG_BURST (p / 32) (p % 32)) + 1)
      let h := { s.hif with rrSlot := (p / 32 + 1) % 16, rrPair := NMap.set (fun _ => 0) s.hif.rrPair (p / 32) ((p + 1) % 32) }
      ({ s with hif := h }).fetchTurns n

/-- Issue every descriptor read that the queues, the fences and the in-flight bound allow. -/
def State.fetch (s : State) : State := s.fetchTurns 8192

/-- A free tag for slot `t`: which free tag is not defined (R86), so the search starts at a free value. -/
def State.pickTag (s : State) : Option Nat × State :=
  let (v, s) := s.draw
  ((List.range 8192).map (fun i => (v + i) % 8192) |>.find? fun k => (s.tag k).use = .free, s)

/-- Close a sequence whose pair was reset (R113). Its releases to other hubs go as a transaction of no pair, already detached, under a tag of
their own, which the slot's bound must allow (DESIGN CHOICE, log 53); until it does the sequence waits. With no descriptor behind them their traffic
class and TD are free values. -/
def State.closeReset (s : State) (q : LockSeq) : State :=
  let waits := s.releaseWaits q
  if waits = [] then s.closeSeq q.slot q.id 0 0 0 0
  else if ¬ s.mayAllocate s.claimed q.slot then s
  else
    let (v, s) := s.draw
    let (k?, s) := s.pickTag
    match k? with
    | none => s
    | some k =>
      let g := (s.tag k).gen
      let r : Req := { origin := .here k, src := s.node0, tn := q.slot, tag := k, gen := g, op := opUnlock, lockId := q.id }
      let t : Tx := { slot := q.slot, pair := 512, cid := 0, req := r, startAt := s.ns, tmo := s.rd (R.HIF_TMO_TMO q.slot)
                      detached := true, need := waits.length, waits := waits }
      (s.setTag k { s.tag k with use := .flight t }).closeSeq q.slot q.id k g (v % 8) (v / 8 % 8)

/-- Close the lock sequences whose pair was reset, once the pair's detached transactions have ended (R113). -/
def State.closeEnded (s : State) : State :=
  (s.hif.locks.filter (·.closing)).foldl (fun s q =>
    if s.flights.any fun (_, t) => t.pair = q.pair ∧ t.detached then s else s.closeReset q) s

/-- After transactions may have ended: sequences that were waiting close, the free pool is whole again, and fetching resumes. -/
def State.settle (s : State) : State :=
  let s := s.closeEnded
  let s := if s.hif.rebuilding ∧ ¬ s.flights.any (fun (_, t) => t.detached) then { s with hif := { s.hif with rebuilding := false } } else s
  s.fetch

/-! ### Reset of a pair (R90) -/

/-- Step 2 of R90 for one transaction of the pair: no entry is written for it and Q_DROP counts it. One that has already ended, a
RECV or a FENCE retires at once; `abn` retires it abnormally at once (R94). -/
def State.detach (s : State) (k : Nat) (t : Tx) (abn : Bool) : State :=
  let s := s.inc (R.Q_DROP_COUNT (t.pair / 32) (t.pair % 32))
  if abn then s.retire k true
  else if t.done then
    s.retire k ((s.pair t.pair).waiting.any fun e => e.tag = some k ∧ e.abn)
  else if t.req.op = opRecv ∨ t.req.op = opFence then s.retire k false
  else s.setTag k { s.tag k with use := .flight { t with detached := true } }

/-- Detach every transaction of a pair. -/
def State.detachAll (s : State) (p : Nat) (abn : Bool) : State :=
  (s.flights.filter fun (_, t) => t.pair = p ∧ ¬ t.detached).foldl (fun s (k, t) => s.detach k t abn) s

/-- End the subscriptions whose deliveries go to pair `p` (R117). -/
def State.endPairSubs (s : State) (p : Nat) : State :=
  let s := (s.pts.subs.filter fun u => u.slot = some (p / 32) ∧ u.pair = p % 32).foldl (fun s u => s.endSub u.num) s
  { s with pts := { s.pts with remote := s.pts.remote.filter fun u => ¬ (u.slot = p / 32 ∧ u.pair = p % 32) } }

/-- Reset a pair (R90): detach its transactions, end its subscriptions, mark its lock sequences for closing (R113), and return to IDLE
with REASON, head, tail and the coalescing count cleared. -/
def State.resetPair (s : State) (p : Nat) : State :=
  let s := (s.detachAll p false).endPairSubs p
  let s := { s with hif := { s.hif with locks := s.hif.locks.map fun (q : LockSeq) =>
    if q.slot = p / 32 ∧ q.pair = p then { q with closing := true } else q } }
  s.setPair p {}

/-- Reset every pair of slot `t`. -/
def State.resetSlot (s : State) (t : Nat) : State :=
  (List.range 32).foldl (fun s i => s.resetPair (32 * t + i)) s

/-! ### Commands on set-up registers -/

/-- HIF_SUM_ADDR of a slot. -/
def State.sumAddr (s : State) (t : Nat) : Nat := s.rdAddr (R.HIF_SUM_ADDR_ADDR_W1 t) (R.HIF_SUM_ADDR_ADDR_W0 t)

/-- The window of a VF whose slot is not enabled ignores writes (R66). -/
def State.windowOpen (s : State) (t : Nat) : Bool := s.kind t ≠ kVf ∨ s.slotOn t

def State.summaryEnable (s : State) (t : Nat) (addr : Nat) : State :=
  if s.flag (R.HIF_SUM_ADDR_EN t) ∨ ¬ s.windowOpen t then s
  else
    let s := (s.wr (R.HIF_SUM_ADDR_ADDR_W1 t) (addr / 2 ^ 32)).wr (R.HIF_SUM_ADDR_ADDR_W0 t) (addr / 64)
    (s.wr (R.HIF_SUM_ADDR_EN t) 1).setSlot t { interval := 8000, polledAt := s.ns }

/-- SUMMARY_ENABLE (R80): an 8-byte write of HIF_SUM_ADDR with EN 1. Writes to ADDR are ignored while EN is 1. -/
def execSummaryEnable (t : Fin 16) (addr : BitVec 64) (s : State) : Host.Outcome State Fault Refusal :=
  .next (s.summaryEnable t addr.toNat)

def State.slotDisable (s : State) (t : Nat) : State :=
  if t = 0 ∨ s.flag R.ID_COMMIT_COMMITTED ∨ ¬ s.slotOn t then s
  else
    let subs := s.pts.subs.filter fun u => s.subSlot u = some t
    let s := (s.wr (R.HIF_TEN_EN t) 0).resetSlot t
    let s := subs.foldl (fun s u => s.endSub u.num) s
    let s := { s with pts := { s.pts with remote := s.pts.remote.filter fun u => u.slot ≠ t } }
    (s.wr (R.HIF_RGN_BASE_EN t) 0).recomputeGuar

/-- SLOT_DISABLE (R66): the owner clears HIF_TEN[t].EN before COMMIT. Entry 0 is fixed (R62). -/
def execSlotDisable (t : Fin 16) (s : State) : Host.Outcome State Fault Refusal := .next (s.slotDisable t).settle

def State.regionDisable (s : State) (t : Nat) : State :=
  if s.windowOpen t then s.wr (R.HIF_RGN_BASE_EN t) 0 else s

/-- REGION_DISABLE (R69): later requests find the region closed; one already passed to PCIe completes. -/
def execRegionDisable (t : Fin 16) (s : State) : Host.Outcome State Fault Refusal := .next (s.regionDisable t)

/-- The pairs of slot `t` may leave IDLE: with IDE_REQ a stream that protects the slot's function is Secure (R425), and with TKEY_REQ the slot is proven
(R427). Neither acts on a slot of kind RING. -/
def State.mayRun (s : State) (t : Nat) : Bool :=
  s.kind t = kRing ∨ ((¬ s.flag R.SEC_CFG_IDE_REQ ∨ s.ideSafe t) ∧ (¬ s.flag (R.SEC_TEN_TKEY_REQ t) ∨ s.flag (R.SEC_TEN_PROVEN t)))

def State.qEnable (s : State) (p : Nat) : State :=
  let t := p / 32
  if (s.pair p).st = .idle ∧ s.slotOn t ∧ s.flag (R.HIF_SUM_ADDR_EN t) ∧ s.mayRun t then s.setPair p { st := .run } else s

/-- Q_ENABLE (R77, R74): an IDLE pair of an enabled, polled slot enters RUN with head and tail 0 and phase 1. -/
def execQEnable (p : Fin 512) (s : State) : Host.Outcome State Fault Refusal := .next (s.qEnable p)

/-- Q_RESET (R90): Q_CTRL.RESET (`enZero` false), or EN written 0, which acts only in RUN (R77). -/
def execQReset (p : Fin 512) (enZero : Bool) (s : State) : Host.Outcome State Fault Refusal :=
  if enZero ∧ (s.pair p).st ≠ .run then .next s else .next (s.resetPair p).settle

/-- A write of Q_CTRL (R77, R90). DESIGN CHOICE (log 56): with RESET 1 and EN 1 in one write the pair is reset and EN does nothing. -/
def State.qCtrl (s : State) (p : Nat) (reset en : Bool) : State :=
  if reset then s.resetPair p
  else if en then s.qEnable p
  else if (s.pair p).st = .run then s.resetPair p else s

/-- The slot whose tenant window holds an offset. -/
def windowSlot (off : Nat) : Option Nat :=
  if 0x70000 ≤ off ∧ off < 0x80000 ∧ off % 0x1000 < 0xA00 then some ((off - 0x70000) / 0x1000) else none

/-- The window of a slot of kind VF, in the view of PF0: read-only, except for Q_CTRL.RESET (R67). -/
def State.vfWindow (s : State) (off : Nat) : Bool := match windowSlot off with | some t => s.kind t = kVf | none => false

/-- SEC_TEN[t].PROVEN (R427): a session with mutual authentication is open on the function of slot `t`, and the requester's leaf key is the
slot's. A slot that TKEY_REQ asks to be proven and that becomes unproven has its pairs reset. -/
def State.reprove (s : State) (t : Nat) : State :=
  let now := s.kind t ≠ kRing ∧ s.sec.sessions.any fun x => x.slot = t ∧ x.mutual_ ∧ x.leaf = s.words (0xF0100 + 0x40 * t) 12
  let was := s.flag (R.SEC_TEN_PROVEN t)
  let s := s.wr (R.SEC_TEN_PROVEN t) (bnat now)
  if was ∧ ¬ now ∧ s.flag (R.SEC_TEN_TKEY_REQ t) then s.resetSlot t else s

/-- The SPDM sessions of a function end. -/
def State.endSessions (s : State) (t : Nat) : State :=
  ({ s with sec := { s.sec with sessions := s.sec.sessions.filter fun (x : Session) => x.slot ≠ t } }).reprove t

/-- FUNCTION_LEVEL_RESET (R90, R427): every pair of the slot of the function is reset, and its SPDM sessions end. -/
def execFunctionLevelReset (t : Fin 16) (s : State) : Host.Outcome State Fault Refusal :=
  if s.kind t = kRing then .next s
  else .next ((({ s with hif := { s.hif with
    busMaster := s.hif.busMaster.filter (· ≠ t.val), ideSecure := s.hif.ideSecure.filter (· ≠ t.val)
    ideLost := s.hif.ideLost.filter (· ≠ t.val)
    msixTab := s.hif.msixTab.filter fun x => x.1 / 128 ≠ t.val
    msixOpen := s.hif.msixOpen.filter (· / 128 ≠ t.val), msixPend := s.hif.msixPend.filter (· / 128 ≠ t.val) } }).endSessions t).resetSlot t).settle

/-- The functions return to their PCIe reset state and every pair of a slot of kind PF0 or VF is reset (R525). -/
def State.pcieReset (s : State) : State :=
  let s := { s with hif := { s.hif with busMaster := [], ideSecure := [], ideLost := [], msixTab := [], msixOpen := [], msixPend := [] } }
  (List.range 16).foldl (fun s t => if s.kind t = kRing then s else s.resetSlot t) s

/-- PCIE_RESET (R525): a conventional reset, a hot reset, or a link-down (`down`), which loses a trained link (R94). -/
def execPcieReset (down : Bool) (s : State) : Host.Outcome State Fault Refusal :=
  let s' := ({ s with hif := { s.hif with pcieUp := s.hif.pcieUp && !down } }).pcieReset
  .next (if s.hif.pcieUp && down then s'.raise 13 .U else s').settle

/-! ### Polling and doorbells (R72, R78 to R82) -/

/-- Read the doorbell word of a pair. -/
def State.readDoorbell (s : State) (p : Nat) : State := s.hostRead (p / 32) (s.dbAddr p) 8 "doorbell"

/-- SUMMARY_POLL (R80): the poll interval has passed, and the hub reads the summary line. -/
def execSummaryPoll (t : Fin 16) (s : State) : Host.Outcome State Fault Refusal :=
  if s.slotOn t ∧ s.flag (R.HIF_SUM_ADDR_EN t) ∧ ¬ (s.slot t).asked ∧ ¬ s.hif.fetchHold then
    .next ((s.setSlot t { s.slot t with asked := true }).hostRead t (s.sumAddr t) 64 "summary")
  else .next s

/-- Serve pair `32 t + i` after a poll: a pending byte of a pair in RUN is cleared and its doorbell read (R79); a full CQ has its doorbell
read in any case (R81). -/
def State.servePair (s : State) (t : Nat) (line : List Byte) (i : Nat) : State :=
  let p := 32 * t + i
  if (s.pair p).st ≠ .run then s
  else if line.getD i 0 ≠ 0 then (s.hostWrite t (s.sumAddr t + i) [0]).readDoorbell p
  else if s.cqFree p = 0 then s.readDoorbell p else s

/-- The pairs of a slot of kind RING in RUN stop when the read of its summary line fails (R91). Table 03-19 names no REASON for this cause, so it
is a free one (log 54). -/
def State.stopRing (s : State) (t : Nat) : State :=
  if s.kind t ≠ kRing then s
  else (List.range 32).foldl (fun s i =>
    let p := 32 * t + i
    if (s.pair p).st = .run then
      let (v, s) := s.draw
      (s.stopFor p (1 + v % 6) true).drain p
    else s) s

/-- The line of a poll has arrived, or its read has failed (R79 to R82). -/
def State.summaryDone (s : State) (t : Nat) (d : HostData) : State :=
  if ¬ (s.slot t).asked then s
  else
    let x := { s.slot t with asked := false, polledAt := s.ns }
    match d with
    | .failed =>
      let s := (((s.setSlot t { x with interval := 8000 }).wr (R.HIF_TEN_STAT_SUM_ERR t) 1).signalErr t).stopRing t
      (List.range 32).foldl (fun s i => s.servePair t [] i) s
    | .data line =>
      let found := (line.take 32).any (· ≠ 0)
      let s := s.setSlot t { x with interval := if found then 250 else min 8000 (2 * x.interval) }
      (List.range 32).foldl (fun s i => s.servePair t line i) s

/-- SUMMARY_READ_DONE (R79): the summary line arrives, or its read fails. -/
def execSummaryReadDone (t : Fin 16) (d : HostData) (s : State) : Host.Outcome State Fault Refusal := .next (s.summaryDone t d)

/-- A doorbell word has arrived, or its read has failed (R71 to R73, R91). -/
def State.doorbellDone (s : State) (p : Nat) (d : HostData) : State :=
  let x := s.pair p
  if x.st ≠ .run then s
  else match d with
    | .failed => (s.stop p 5).drain p
    | .data w =>
      let tail := leAt w 0 2
      let cq := leAt w 4 2
      if s.sqDepth p ≤ tail then (s.stop p 1).drain p
      else if s.cqDepth p ≤ cq then (s.stop p 2).drain p
      else (s.setPair p { x with sqTail := tail, cqHead := cq }).drain p

/-- DOORBELL_READ_DONE (R72): fields out of range stop the pair; else what waits for its CQ is written and descriptors are fetched. -/
def execDoorbellReadDone (p : Fin 512) (d : HostData) (s : State) : Host.Outcome State Fault Refusal :=
  .next (s.doorbellDone p d).settle

/-! ### Timers and errors -/

/-- COALESCE_TIMER (R84): Q_COAL.TIME has passed since the first counted entry. -/
def execCoalesceTimer (p : Fin 512) (s : State) : Host.Outcome State Fault Refusal :=
  if (s.pair p).coal = 0 then .next s else .next (s.interrupt p)

/-- QUARANTINE_END (R88): the tag returns to the free pool, and fetching held by the bound resumes (R87). -/
def execQuarantineEnd (k : Fin 8192) (s : State) : Host.Outcome State Fault Refusal :=
  match (s.tag k).use with
  | .quarantine _ => .next (s.setTag k { s.tag k with use := .free }).settle
  | _ => .next s

/-- An error in the queue manager (R94). -/
def State.queueManagerError (s : State) (e : QmError) : State :=
  match e with
  | .corrected => s.raise 14 .C
  | .pair p =>
    let p := p % 512
    let s := s.raise 14 .U p
    let s := s.detachAll p true
    ((s.setPair p { s.pair p with waiting := [] }).stop p 6).drain p
  | .shared =>
    let s := s.raise 14 .U 0xFFFF
    let s := (List.range 512).foldl (fun s p => s.resetPair p) s
    { s with hif := { s.hif with rebuilding := true } }

/-- QUEUE_MANAGER_ERROR (R94). -/
def execQueueManagerError (e : QmError) (s : State) : Host.Outcome State Fault Refusal := .next (s.queueManagerError e).settle

/-- PCIE_LINK_LOSS (R94): the trained link is lost, or (`lost` false) the PCIe controller has an uncorrectable internal error. -/
def execPcieLinkLoss (lost : Bool) (s : State) : Host.Outcome State Fault Refusal :=
  if lost ∧ ¬ s.hif.pcieUp then .next s
  else .next (({ s with hif := { s.hif with pcieUp := s.hif.pcieUp && !lost } }).raise 13 .U)

/-- The vectors set in the PBA that are no longer masked and can be sent are sent (R83). -/
def State.sendPending (s : State) : State :=
  let due := s.hif.msixPend
  due.foldl (fun s k => s.raiseVector (k / 128) (k % 128)) { s with hif := { s.hif with msixPend := [] } }

/-- What waits for the CQs of the pairs is written where it can be sent again (R91). -/
def State.resumeWrites (s : State) : State := s.hif.pairs.keys.foldl (fun s p => s.drain p) s

/-- PCIE_LINK_UP (R94): the link trains, and the host sets Bus Master Enable of the functions named, writes the MSI-X table entries listed with each
(R83), and sets IDE streams. DESIGN CHOICE (log 86): the table has no row for an access to BAR2, so a later change of an MSI-X table, or of a
function's configuration, comes as this command too, given while the link is up. -/
def execPcieLinkUp (bme : List (Fin 16 × List MsixEntry)) (ide : List (Fin 17)) (s : State) : Host.Outcome State Fault Refusal :=
  let es := bme.flatMap fun x => x.2.map fun (e : MsixEntry) => (128 * x.1.val + e.vec.val, e)
  let h : Hif := { s.hif with
    pcieUp := true, pcieWasUp := true, busMaster := bme.map (·.1.val), ideSecure := ide.map (·.val), ideLost := []
    msixTab := es.foldl (fun m x => NMap.set (fun _ => (0, 0)) m x.1 (x.2.addr.toNat, x.2.data.toNat)) []
    msixOpen := (es.filter fun x => ¬ x.2.masked).map (·.1) }
  .next ({ s with hif := h }).sendPending.resumeWrites.settle

end Sys2Proof.Machine
end

