-- ==== Sys2Proof/Machine/Domains.lean ====
section
/-!
DEFINITION. Time domains (R195 to R202): roots and followers, availability and switching of sources, the update of a domain by a source,
steps and what they move.
-/

namespace Sys2Proof.Machine

/-! ### Sources (R195, R202) -/

/-- The hub is cycle master of its E0/W0 ring, and so the ring's root. -/
def State.isRoot (s : State) : Bool := s.rd (R.RING_CYC_STAT_ROLE 0) = 1

/-- The domain follows the SYNC frames of a ring: TD0 of a hub that is not the root, and the ring-1 time of a junction follower (8). -/
def State.followsRing (s : State) (d : Nat) : Bool := (d = 0 ∧ ¬ s.isRoot) ∨ d = 8

/-- The configured source of a domain, primary or secondary; NONE as primary is FREE. -/
def State.source (s : State) (d : Nat) (second : Bool) : Nat :=
  if second then s.rd (R.TD_CFG_SRC_S d) else if s.rd (R.TD_CFG_SRC_P d) = 0 then 1 else s.rd (R.TD_CFG_SRC_P d)

/-- The domain is enabled. -/
def State.domainOn (s : State) (d : Nat) : Bool := d = 8 ∨ s.flag (R.TD_CFG_EN d)

/-- TD0 is synchronised, or is the root (R196). -/
def State.synced (s : State) : Bool := s.isRoot ∨ (s.domain 0).st = dLocked ∨ (s.domain 0).st = dHoldover

/-- The ring time of ring `n` is synchronised: a junction's ring-1 time takes the place of TD0 unless it masters that ring (R202). -/
def State.ringSynced (s : State) (n : Nat) : Bool :=
  if n = 1 ∧ s.rd (R.RING_CYC_STAT_ROLE 1) ≠ 1 then (s.domain 8).st = dLocked ∨ (s.domain 8).st = dHoldover else s.synced

/-- Ring time of ring `n`, in whole ns (R169, R202). -/
def State.ringNs (s : State) (n : Nat) : Nat :=
  nsCount (s.tdNow (if n = 1 ∧ s.rd (R.RING_CYC_STAT_ROLE 1) ≠ 1 then 8 else 0))

/-! ### The cycle's registers (R169) -/

def State.cycOf (s : State) (n : Nat) : Cyc := if n = 0 then s.cyc.c0 else s.cyc.c1
def State.setCyc (s : State) (n : Nat) (c : Cyc) : State :=
  { s with cyc := if n = 0 then { s.cyc with c0 := c } else { s.cyc with c1 := c } }

/-- The base cycle of ring `n` in ns. -/
def State.baseNs (s : State) (n : Nat) : Nat := 8 * s.rd (R.RING_CYC_CFG_BASE n)

/-! ### Availability (R196, R198) -/

/-- The state that follows from which sources are available (Table 07-3). -/
def Domain.availState (m : Domain) : Domain :=
  let any := m.pOk || m.sOk
  if any then
    if m.st = dFree then { m with st := dAcquiring, inLock := 0 }
    else if m.st = dHoldover then { m with st := m.holdLeft }
    else m
  else if m.st = dAcquiring ∨ m.st = dLocked then { m with st := dHoldover, holdLeft := m.st } else m

/-- The source that should be active: the primary while it is available, the secondary when it is not, and the primary again after 16
consecutive updates or when the secondary is lost. -/
def Domain.wantSecond (m : Domain) : Bool :=
  if ¬ m.pOk then (m.sOk || m.second)
  else if m.second then (m.sOk && decide (m.primRun < 16)) else false

/-- A domain whose primary source is HOST and that a SET has put in LOCKED stays there (R196). -/
def State.hostHeld (s : State) (d : Nat) : Bool :=
  d < 8 ∧ ¬ s.followsRing d ∧ s.source d false = 6 ∧ (s.domain d).setHost ∧ (s.domain d).st = dLocked

/-- The availability of a domain's sources has changed: its state follows, and a switch of the active source is counted. -/
def State.settleDomain (s : State) (d : Nat) : State :=
  let m := if s.hostHeld d then s.domain d else (s.domain d).availState
  let want := m.wantSecond
  let s' := s.setDomain d { m with second := want, outLock := 0, overStep := 0 }
  if want = m.second then s.setDomain d m else if d < 8 then s'.inc (R.TD_STAT_SWITCHES d) else s'

/-- A source of a domain becomes available, or ceases to be. -/
def State.setAvail (s : State) (d : Nat) (second on : Bool) : State :=
  let m := s.domain d
  let m := if second then { m with sOk := on, ofsS := if on then m.ofsS else 0 }
    else { m with pOk := on, ofsP := if on then m.ofsP else 0, primRun := if on then m.primRun else 0 }
  if ¬ s.domainOn d then s else (s.setDomain d m).settleDomain d

/-! ### Rates (R195, R200) -/

/-- The rate that the host gives a domain: TD_ADJ in host-assisted mode (R200). -/
def State.hostRate (s : State) (d : Nat) : Int := if d < 8 ∧ s.flag (R.TD_CFG_SERVO d) then sext 32 (s.rd (R.TD_ADJ_RATE d)) else 0

/-- What a SLEW adds to a domain's rate: 10 ppm until its offset is gone (R200). -/
def slewRate (o : Int) : Int := if o < 0 then -163840000 else if 0 < o then 163840000 else 0

/-- The domain runs at the host's rate, or at that of the local timebase, from now on; a SLEW in progress goes on. -/
def State.freeRun (s : State) (d : Nat) : State :=
  s.setDomain d { s.rebase d with rate := s.hostRate d + slewRate (s.domain d).slew }

/-- A domain that is enabled starts FREE at zero (R193). TD0 has run since reset, and reads zero at READY. -/
def State.domainStart (s : State) (d : Nat) : State :=
  s.setDomain d (if d = 0 then { s.domain 0 with st := dFree, rate := s.hostRate 0, setHost := false }
    else { base := 0, at_ := s.now, st := dFree, rate := s.hostRate d })

/-! ### Steps (R197, R200, R201) -/

/-- A scheduled edge acts at its pin. -/
def State.fireEdge (s : State) (c : Nat) (e : Edge) : State := s.applyDo (c / 4) (c % 4) e.level

/-- The edges of domain `d` whose time a forward step has passed act at once and count in LATE (R201). -/
def State.passEdges (s : State) (d t : Nat) : State :=
  s.td.edges.foldl (fun s (c, es) =>
    let go := es.filter fun e => e.td = d ∧ e.due ≤ t
    let s := { s with td := { s.td with edges := NMap.set (fun _ => []) s.td.edges c (es.filter fun e => ¬ (e.td = d ∧ e.due ≤ t)) } }
    go.foldl (fun s e => (s.fireEdge c e).inc R.TD_EDGE_CNT_LATE) s) s

/-- The held timed operations of domain `d` whose time a forward step has passed act at once and carry LATE (R201). -/
def State.passTimed (s : State) (d t : Nat) : State :=
  let due := fun (r : Req) => r.td = d ∧ timeDec r.time ≤ t
  let go := (s.tgt.held.filter fun r => due r).map fun (r : Req) => { r with late := true }
  { s with tgt := { accepted := s.tgt.accepted ++ go, held := s.tgt.held.filter fun r => ¬ due r } }

/-- STATE codes of a Briar channel (Table 11-9). -/
abbrev chHalted : Nat := 0
abbrev chRun : Nat := 1
abbrev chStalled : Nat := 2
abbrev chWaitStart : Nat := 3

/-- A channel is stalled in a TIMEWAIT on domain `d` (R322). -/
def chanTimeWaits (x : Chan) (d : Nat) : Bool := x.st = chStalled ∧ x.insn / 2 ^ 28 = 9 ∧ bits x.insn 13 3 = d

/-- The first instant after nanosecond count `t` that is congruent to `phase` modulo `period`. -/
def gridAfter (t phase period : Nat) : Nat :=
  if period = 0 then t else t + (period - (t + period - phase % period) % period)

/-- TIMEWAITs of domain `d` at a jump to count `t` (R201, R322): one in X or Y mode whose target a forward jump has passed is late, and after
a backward jump one in GRID mode waits for the first grid instant after the new time. -/
def State.stepWaits (s : State) (d old t : Nat) : State :=
  s.eng.chans.foldl (fun s (k, x) =>
    if ¬ chanTimeWaits x d then s
    else if bits x.insn 16 2 = 2 then
      (if t < old then s.setChan (k / 16) (k % 16)
        { x with target := gridAfter t (s.rd (R.ENG_CH_GRID_PHASE (k / 16) (k % 16))) (s.rd (R.ENG_CH_GRID_PERIOD (k / 16) (k % 16))) } else s)
    else if old < t ∧ x.target ≤ t then s.wr (R.ENG_CH_ERR_TW_LATE (k / 16) (k % 16)) 1 else s) s

/-- Cycle `k` is one that a forward step passed over, and is not run (R201). -/
def Cyc.passed (c : Cyc) (k : Nat) : Bool := c.gone.any fun x => x.1 < k ∧ k ≤ x.2

/-- The domain that is the time of ring `n` (R202). -/
def State.ringTime (s : State) (n : Nat) : Nat := if n = 1 ∧ s.rd (R.RING_CYC_STAT_ROLE 1) ≠ 1 then 8 else 0

/-- A forward step of ring time from count `old` to `t` leaves out the cycles whose start it passes: the next one starts after it (R201). -/
def State.passCycles (s : State) (d old t : Nat) : State :=
  [0, 1].foldl (fun s n =>
    let c := s.cycOf n
    let a := old / s.baseNs n
    let k := t / s.baseNs n
    if d = s.ringTime n ∧ a < k then s.setCyc n { c with gone := (c.gone.filter fun x => c.closed ≤ x.2) ++ [(a, k)] } else s) s

/-- A domain that its first update has set back is no stepped one: a ring's cycles are captured and closed by their new numbers. DESIGN CHOICE
(log 87). -/
def State.renumber (s : State) (d : Nat) : State :=
  [0, 1].foldl (fun s n => if d = s.ringTime n then s.setCyc n { s.cycOf n with captured := 0, closed := 0, gone := [] } else s) s

/-- Put domain `d` at time `t`; what waits on it and has been passed acts now, and nothing acts twice after a backward step. -/
def State.jumpTo (s : State) (d t : Nat) : State :=
  let old := s.tdNow d
  let s := s.setDomain d { s.domain d with base := t, at_ := s.now }
  let s := if d = 0 then { s with td := { s.td with stepped := [0, 1, 2, 3] } } else s
  let s := if d < 8 then s.stepWaits d (nsCount old) (nsCount t) else s
  let s := if old < t then s.passCycles d (nsCount old) (nsCount t) else s
  if d < 8 ∧ old < t then (s.passEdges d (nsCount t)).passTimed d t else s

/-- A step of the domain by `ofs` (2^-16 ns): STEPS counts it, with a C fault on bit 20. -/
def State.stepDomain (s : State) (d : Nat) (ofs : Int) : State :=
  let s := s.jumpTo d ((s.tdNow d : Int) + ofs).toNat
  (if d < 8 then s.inc (R.TD_STAT_STEPS d) else s).raise 20 .C

/-! ### Updates (R196, R197, R198) -/

/-- LOCK and STEP thresholds in units of 2^-16 ns; the ring-1 time uses those of TD0. -/
def State.lockThr (s : State) (d : Nat) : Nat := 65536 * s.rd (R.TD_PARAM_LOCK (d % 8))
def State.stepThr (s : State) (d : Nat) : Nat := 65536 * 1000 * s.rd (R.TD_PARAM_STEP (d % 8))

/-- The hardware servo slews the domain: its rate is a free value within ±100 ppm, since the manual gives the servo's bandwidth alone; a SLEW in
progress goes on beside it. -/
def State.servo (s : State) (d : Nat) : State :=
  let (v, s) := s.draw
  s.setDomain d { s.rebase d with rate := ((v % (2 * 1638400000 + 1) : Nat) : Int) - 1638400000 + slewRate (s.domain d).slew }

/-- Lock counting of the active source's update with offset `a` in magnitude (Table 07-3). -/
def Domain.lockCount (m : Domain) (a lock : Nat) : Domain :=
  if m.st = dAcquiring then
    let n := if a ≤ lock then m.inLock + 1 else 0
    if n = 8 then { m with st := dLocked, inLock := 0, outLock := 0, overStep := 0 } else { m with inLock := n }
  else if m.st = dLocked then
    let n := if 4 * lock < a then m.outLock + 1 else 0
    if n = 3 then { m with st := dAcquiring, inLock := 0, outLock := 0 } else { m with outLock := n }
  else m

/-- An update of the active source with offset `ofs`; `first` says that it is the first after FREE or DISABLED. -/
def State.correct (s : State) (d : Nat) (ofs : Int) (first : Bool) : State :=
  let a := ofs.natAbs
  let was := s.domain d
  let held := s.hostHeld d
  let run := if s.stepThr d < a then was.overStep + 1 else 0
  let s := s.setDomain d { (if held then was else was.lockCount a (s.lockThr d)) with overStep := run }
  if d < 8 ∧ s.flag (R.TD_CFG_SERVO d) then s
  else if first then
    let s := s.jumpTo d ((s.tdNow d : Int) + ofs).toNat
    if ofs < 0 then s.renumber d else s
  else if (was.st = dAcquiring ∧ s.stepThr d < a) ∨ (was.st = dLocked ∧ 3 ≤ run) then
    let s := s.stepDomain d ofs
    s.setDomain d { s.domain d with overStep := 0 }
  else s.servo d

/-- The rate of a source that read `a` at local time `t` and reads `b` now, against the local timebase, in units of 2^-14 ppb. -/
def sourceRate (a : Int) (t : Nat) (b : Int) (now : Nat) : Int :=
  let d : Int := now - t
  if d ≤ 0 then 0 else ((b - a - d) * (2 ^ 14 * 1000000000)).fdiv d

/-- A source's value now, and with its last one its rate (R198). -/
def Domain.measure (m : Domain) (second : Bool) (v : Int) (now : Nat) : Domain :=
  let rate := fun (old : Option (Int × Nat)) (r : Int) => match old with | some (a, t) => sourceRate a t v now | none => r
  if second then { m with rateS := rate m.seenS m.rateS, seenS := some (v, now) } else { m with rateP := rate m.seenP m.rateP, seenP := some (v, now) }

/-- An update of a domain by its primary or secondary source, with offset `ofs` of the source from the domain. In DOZE no domain tracks its
source (R221). -/
def State.sourceUpdate (s : State) (d : Nat) (second : Bool) (ofs : Int) : State :=
  if ¬ s.domainOn d ∨ s.pwr.asleep then s
  else
    let m := s.domain d
    let first := m.st = dFree ∨ m.st = dDisabled
    let m := m.measure second ((s.tdNow d : Int) + ofs) s.now
    let m := if second then { m with sOk := true, ofsS := ofs } else { m with pOk := true, ofsP := ofs, primRun := min 16 (m.primRun + 1) }
    let s := (s.setDomain d { m with st := if m.st = dDisabled then dFree else m.st }).settleDomain d
    if (s.domain d).second = second then s.correct d ofs first else s

/-- An update of every domain that names source code `src`, as primary or secondary; `ofs` gives its offset from a domain. A TD0 that
follows its ring ignores its sources. -/
def State.updateFrom (s : State) (src : Nat) (ofs : State → Nat → Int) : State :=
  (List.range 8).foldl (fun s d =>
    if s.followsRing d then s
    else
      let s := if s.source d false = src then s.sourceUpdate d false (ofs s d) else s
      if s.source d true = src then s.sourceUpdate d true (ofs s d) else s) s

/-- Every domain that names source code `src` loses it. -/
def State.loseSource (s : State) (src : Nat) : State :=
  (List.range 8).foldl (fun s d =>
    if s.followsRing d then s
    else
      let s := if s.source d false = src then s.setAvail d false false else s
      if s.source d true = src then s.setAvail d true false else s) s

/-! ### SYNC paths (R206) -/

def State.path (s : State) (n dir : Nat) : SyncPath := NMap.get (fun _ => {}) s.td.paths (2 * n + dir)
def State.setPath (s : State) (n dir : Nat) (x : SyncPath) : State :=
  { s with td := { s.td with paths := NMap.set (fun _ => {}) s.td.paths (2 * n + dir) x } }
/-- The direction of the primary path of ring `n`. -/
def State.primary (s : State) (n : Nat) : Nat := if n = 0 then s.td.primary0 else s.td.primary1
/-- The domain that ring `n` disciplines in a follower. -/
def ringDomain (n : Nat) : Nat := if n = 0 then 0 else 8

/-- The clock of a ring port can be recovered: the port is UP. -/
def State.clockOf (s : State) (j : Nat) : Bool := (NMap.get (fun _ => {}) s.ring.ports j : Port).st = .up

/-- The resonator has failed and REFCLK is not the active reference: before the boot has checked the sources, none has (R443, R514). -/
def State.ownFailed (s : State) : Bool :=
  decide (s.rd R.CLK_STATUS_RUN ≠ 0) && !bit (s.rd R.CLK_STATUS_RUN) 1 && !s.flag R.CLK_STATUS_REF_ACT

/-- The reference of the local timebase chosen anew (R194): in a follower the clock recovered from the port on which the active path of TD0
arrives, and with that port lost from the other port of the ring; with neither the resonator with the last ratio, which is a free value. In the
root, and before any path, the hub's own, or in a root without it the recovered clock (R514). In DOZE the timebase stays on the resonator (R221). -/
def State.chooseRef (s : State) : State :=
  let set := fun (s : State) (r : ClkRef) => ({ s with td := { s.td with ref := r } } : State)
  let i := if (s.primary 0 = 0) = (s.domain 0).second then 0 else 1
  let up := s.clockOf
  if s.pwr.asleep then s
  else if s.isRoot then set s (if ¬ s.ownFailed then .own else if up 0 then .port 0 else if up 1 then .port 1 else .own)
  else if up i ∧ (s.path 0 (1 - i)).avail then set s (.port i)
  else match s.td.ref with
    | .port j =>
      if up j then s
      else if up (1 - j) then set s (.port (1 - j))
      else
        let (v, s) := s.draw
        set s (.held v)
    | .held r => if up i then set s (.port i) else if up (1 - i) then set s (.port (1 - i)) else set s (.held r)
    | .own => s

/-- CLK_STATUS shows REC, the recovered clock of E0 or W0 (Table 20-1), while one of these ports is UP. -/
def State.showRec (s : State) : State :=
  s.wr R.CLK_STATUS_RUN (setBits (s.rd R.CLK_STATUS_RUN) 4 1 (bnat (s.clockOf 0 || s.clockOf 1)))

/-- REC fails (R513): the hub moves to the clock of the other port, and without it REC does not run (R194). -/
def State.recFails (s : State) : State :=
  let none := s.wr R.CLK_STATUS_RUN (setBits (s.rd R.CLK_STATUS_RUN) 4 1 0)
  match s.td.ref with
  | .port j =>
    if s.clockOf (1 - j) then { s with td := { s.td with ref := .port (1 - j) } }
    else
      let (v, s) := none.draw
      { s with td := { s.td with ref := .held v } }
  | _ => none

/-- A path of ring `n` becomes unavailable. -/
def State.losePath (s : State) (n dir : Nat) : State :=
  let s := (s.setPath n dir { s.path n dir with avail := false, offset := 0 }).chooseRef
  if s.followsRing (ringDomain n) then s.setAvail (ringDomain n) (dir ≠ s.primary n) false else s

end Sys2Proof.Machine
end

