-- ==== Sys2Proof/Machine/Formats.lean ====
section
/-!
DEFINITION. Table space's four regions, curves, format tables and their signals, and the conversion of values to and from binary64
(chapter 14: R374, R382, R385 to R389).
-/

namespace Sys2Proof.Machine

/-! ### Tables -/

/-- Bytes of the active copy. -/
def State.tbl (s : State) (r off n : Nat) : List Byte := memRead s.rfx.act (tblKey r off) n

/-- Extent of a region (R387). -/
def tblExtent (r : Nat) : Nat :=
  match r with
  | 0 => 0x20000
  | 1 => 0x100000
  | 2 => 0x400000
  | _ => 0x80000

/-- ARMED, SYNCING and GEN of region `r` (Table 14-8). -/
def armedFld (r : Nat) : Fld := ⟨0xA0010, 8 * r + 7, 1⟩
def syncingFld (r : Nat) : Fld := ⟨0xA0010, 8 * r + 6, 1⟩
def genFld (r : Nat) : Fld := ⟨0xA0010, 8 * r, 6⟩

/-- The entries of region `r`, each `size` bytes, that hold any byte other than zero. -/
def tblEntries (m : NMap Byte) (r size : Nat) : List Nat :=
  ((m.keys.filter fun k => k / 2 ^ 22 = r).map fun k => k % 2 ^ 22 / size).dedup

/-- The bytes of one region of a copy replaced by those of another. -/
def copyRegion (src dst : NMap Byte) (r : Nat) : NMap Byte :=
  dst.filter (fun x => x.1 / 2 ^ 22 < r) ++ src.filter (fun x => x.1 / 2 ^ 22 = r) ++ dst.filter (fun x => r < x.1 / 2 ^ 22)

/-- An entry that a memory error has made invalid until the next switch of its region (R393). -/
def State.tblBad (s : State) (r i : Nat) : Bool := (r, i) ∈ s.rfx.bad

/-! ### Values as binary64 (R374) -/

/-- A point's value in binary64. -/
def toF64 (type v : Nat) : Nat :=
  if type = tBool then f64.ofInt (bnat (v ≠ 0))
  else if type = tInt32 ∨ type = tInt64 then f64.ofInt (sext 64 v)
  else if type = tFloat32 then f32.conv f64 v
  else if type = tFloat64 then v
  else f64.ofInt v

/-- A number is not zero. -/
def f64True (x : Nat) : Bool := ¬ (f64.dec x).eq (.fin false 0 0)

/-- The number rounded to nearest, ties to even, and saturated to `lo` and `hi`; NaN gives `lo`. -/
def saturate (x : Nat) (lo hi : Int) : Int :=
  match f64.dec x with
  | .inf n => if n then lo else hi
  | v => min hi (max lo ((v.toInt?).getD lo))

/-- A binary64 value as a value of a point's type. -/
def fromF64 (type x : Nat) : Nat :=
  if type = tBool then bnat (f64True x)
  else if type = tInt32 then toBits 64 (saturate x (-2 ^ 31) (2 ^ 31 - 1))
  else if type = tInt64 then toBits 64 (saturate x (-2 ^ 63) (2 ^ 63 - 1))
  else if type = tUint32 then (saturate x 0 (2 ^ 32 - 1)).toNat
  else if type = tFloat32 then f64.conv f32 x
  else if type = tFloat64 then x
  else (saturate x 0 (2 ^ 64 - 1)).toNat

/-! ### Curves (R382) -/

/-- Curve `k`: its points, and EXTRAP with the fallback of code 3. -/
structure Curve where
  pts : List (Nat × Nat)
  extrap : Nat
deriving DecidableEq, Repr

/-- A number is finite. -/
def f64Finite (x : Nat) : Bool := match f64.dec x with | .fin _ _ _ => true | _ => false

/-- The x values rise strictly and every number is finite. -/
def curveRises : List (Nat × Nat) → Bool
  | (x, y) :: (x', y') :: r => f64Finite x ∧ f64Finite y ∧ (f64.dec x).lt (f64.dec x') ∧ curveRises ((x', y') :: r)
  | [(x, y)] => f64Finite x ∧ f64Finite y
  | [] => true

/-- A valid curve of the active copy. -/
def State.curve (s : State) (k : Nat) : Option Curve :=
  let h := s.tbl 2 (4096 * k) 4
  let n := leAt h 0 2
  if n < 2 ∨ 256 < n ∨ s.tblBad 2 k then none
  else
    let pts := (List.range n).map fun i =>
      let b := s.tbl 2 (4096 * k + 0x10 + 8 * i) 8
      (f32.conv f64 (leAt b 0 4), f32.conv f64 (leAt b 4 4))
    let e := leAt h 2 1 % 4
    if curveRises pts then some ⟨pts, if e = 3 then 0 else e⟩ else none

/-- The line through two points, at `a`: y0 + (y1 − y0) × (a − x0) / (x1 − x0) in binary64. -/
def lineAt (p q : Nat × Nat) (a : Nat) : Nat :=
  f64.add p.2 (f64.div (f64.mul (f64.sub q.2 p.2) (f64.sub a p.1)) (f64.sub q.1 p.1))

/-- The segment of a curve that holds `a`, from its second point on. -/
def segment (a : Nat) : List (Nat × Nat) → Nat
  | p :: q :: r => if (f64.dec a).lt (f64.dec q.1) then lineAt p q a else segment a (q :: r)
  | [p] => p.2
  | [] => f64.nan

/-- A curve at `a`: the result and its reason (qNone, OUT_OF_RANGE_LOW or OUT_OF_RANGE_HIGH). -/
def Curve.at_ (c : Curve) (a : Nat) : Nat × Nat :=
  let first := c.pts.headD (0, 0)
  let last := c.pts.getLastD (0, 0)
  if (f64.dec a).lt (f64.dec first.1) then
    (if c.extrap = 1 then lineAt first (c.pts.getD 1 (0, 0)) a else first.2, if c.extrap = 2 then qLow else qNone)
  else if (f64.dec last.1).lt (f64.dec a) then
    (if c.extrap = 1 then lineAt (c.pts.getD (c.pts.length - 2) (0, 0)) last a else last.2, if c.extrap = 2 then qHigh else qNone)
  else (segment a c.pts, qNone)

/-- A curve evaluated for a row or a channel: none when the curve is invalid or the operand NaN. -/
def State.curveAt (s : State) (k a : Nat) : Option (Nat × Nat) :=
  if f64.isNan a then none else (s.curve k).map (·.at_ a)

/-! ### Format tables (R385, R386) -/

/-- A signal with its fallbacks (Table 14-5): KIND 0 unsigned, 1 signed, 2 float; `scale` and `offset` are binary32. -/
structure Sig where
  start : Nat
  len : Nat
  kind : Nat
  msb : Bool
  scale : Nat
  offset : Nat
deriving DecidableEq, Repr

/-- The number of fields of a signal entry that fall back (R556). -/
def sigFallbacks (b : List Byte) : Nat :=
  bnat (bits (leAt b 3 1) 1 2 = 3)
    + bnat (¬ f64Finite (f32.conv f64 (leAt b 4 4)) ∨ leAt b 4 4 % 2 ^ 31 = 0) + bnat (¬ f64Finite (f32.conv f64 (leAt b 8 4)))

def Sig.ofBytes (b : List Byte) : Sig :=
  let k := bits (leAt b 3 1) 1 2
  let sc := leAt b 4 4
  let of := leAt b 8 4
  { start := leAt b 0 2, len := leAt b 2 1, kind := if k = 3 then 0 else k, msb := bit (leAt b 3 1) 0,
    scale := if ¬ f64Finite (f32.conv f64 sc) ∨ sc % 2 ^ 31 = 0 then 0x3F800000 else sc,
    offset := if f64Finite (f32.conv f64 of) then of else 0 }

/-- Frame bit positions of a signal, least significant bit first. -/
def Sig.places (g : Sig) : List Nat :=
  if g.msb then
    ((List.range (g.len - 1)).foldl (fun (ps : List Nat) _ =>
      let p := ps.headD 0
      (if p % 8 = 0 then p + 15 else p - 1) :: ps) [g.start])
  else (List.range g.len).map (g.start + ·)

/-- FLEN and NSIG of format table `t`. -/
def State.fmtLen (s : State) (t : Nat) : Nat := leAt (s.tbl 3 (1024 * t) 4) 2 2
def State.fmtSigs (s : State) (t : Nat) : Nat := leAt (s.tbl 3 (1024 * t) 1) 0 1

/-- Signal `i` of table `t`, when the table and the signal are valid (R385, R386). -/
def State.signal? (s : State) (t i : Nat) : Option Sig :=
  let n := s.fmtSigs t
  let fl := s.fmtLen t
  if n = 0 ∨ 63 < n ∨ fl = 0 ∨ 2032 < fl ∨ s.tblBad 3 t ∨ n ≤ i then none
  else
    let g := Sig.ofBytes (s.tbl 3 (1024 * t + 0x10 + 16 * i) 16)
    if g.len = 0 ∨ 64 < g.len ∨ (g.kind = 2 ∧ g.len ≠ 32 ∧ g.len ≠ 64) ∨ g.places.any (8 * fl ≤ ·) then none else some g

/-- A bit of a frame. -/
def frameBit (f : List Byte) (p : Nat) : Bool := bit (f.getD (p / 8) 0).toNat (p % 8)

/-- The raw bits of a signal in a frame; none when the frame is too short. -/
def Sig.read (g : Sig) (f : List Byte) : Option Nat :=
  if g.places.any (8 * f.length ≤ ·) then none
  else some (g.places.foldr (fun p n => 2 * n + bnat (frameBit f p)) 0)

/-- Set bit `p` of a frame. -/
def setFrameBit (f : List Byte) (p : Nat) (b : Bool) : List Byte :=
  f.set (p / 8) (BitVec.ofNat 8 (setBits (f.getD (p / 8) 0).toNat (p % 8) 1 (bnat b)))

/-- A frame with the raw bits of a signal written into it. -/
def Sig.write (g : Sig) (f : List Byte) (raw : Nat) : List Byte :=
  (g.places.zip (List.range g.places.length)).foldl (fun f (p, j) => setFrameBit f p (bit raw j)) f

/-- Decoding (R386): raw × SCALE + OFFSET in binary64. -/
def Sig.decode (g : Sig) (raw : Nat) : Nat :=
  let x := if g.kind = 2 then (if g.len = 32 then f32.conv f64 raw else raw)
    else f64.ofInt (if g.kind = 1 then sext g.len raw else raw)
  f64.add (f64.mul x (f32.conv f64 g.scale)) (f32.conv f64 g.offset)

/-- Encoding (R386): (value − OFFSET) / SCALE, rounded and saturated to the signal. -/
def Sig.encode (g : Sig) (x : Nat) : Nat :=
  let y := f64.div (f64.sub x (f32.conv f64 g.offset)) (f32.conv f64 g.scale)
  if g.kind = 2 then (if g.len = 32 then f64.conv f32 y else y)
  else if g.kind = 1 then toBits g.len (saturate y (-2 ^ (g.len - 1)) (2 ^ (g.len - 1) - 1))
  else (saturate y 0 (2 ^ g.len - 1)).toNat

/-- The points that a signal of a format table feeds (inputs) or is fed by (outputs). -/
def State.sigPoints (s : State) (t : Nat) (out : Bool) : List Nat :=
  s.pts.recs.keys.filter fun n => (s.point n).bindKind = 5 ∧ (s.point n).bind16 1 = t ∧ (s.point n).isOutput = out

/-- A condition begins or ends for every point that a format table feeds (R300). -/
def State.condTable (s : State) (t reason : Nat) (on : Bool) : State :=
  let others := (NMap.get (fun _ => []) s.pctl.tabConds t).filter (· ≠ reason)
  let s := { s with pctl := { s.pctl with tabConds := NMap.set (fun _ => []) s.pctl.tabConds t (if on then reason :: others else others) } }
  (s.sigPoints t false).foldl (fun s n => s.setCond n reason on) s

/-- A received frame of table `t` reaches the points of its signals as the newest value (R52 step 2), and ends a NO_RESPONSE of the table. A NaN
delivers nothing to a non-FLOAT type. -/
def State.decodeFrame (s : State) (t : Nat) (f : List Byte) : State :=
  let s := s.condTable t qNoResponse false
  (s.sigPoints t false).foldl (fun s n =>
    match s.signal? t ((s.point n).bind16 3) with
    | none => s
    | some g => match g.read f with
      | none => s
      | some raw =>
        let p := s.point n
        if f64.isNan (g.decode raw) ∧ p.type ≠ tFloat32 ∧ p.type ≠ tFloat64 then s
        else s.deliver n ⟨fromF64 p.type (g.decode raw), s.tdEnc p.dom, none⟩) s

/-- The frame of table `t` encoded from the points of its signals (R386): FLEN bytes, the higher signal index winning. -/
def State.encodeFrame (s : State) (t : Nat) : List Byte :=
  (List.range (s.fmtSigs t)).foldl (fun f i =>
    match s.signal? t i with
    | none => f
    | some g =>
      ((s.sigPoints t true).filter fun n => (s.point n).bind16 3 = i).foldl
        (fun f n => g.write f (g.encode (toF64 (s.point n).type (s.point n).value))) f)
    (List.replicate (s.fmtLen t) 0)

end Sys2Proof.Machine
end

