-- ==== Sys2Proof/Machine/Keys.lean ====
section
/-!
DEFINITION. The DRBG's outputs, digests and the key schedule of a link (R423, R434), and the switch to new keys (R147, R424).
-/

namespace Sys2Proof.Machine

/-- The bytes of a text label. -/
def label (t : String) : List Byte := t.toList.map fun c => BitVec.ofNat 8 c.toNat

/-- SHA-384 as 48 bytes. -/
def digest (b : List Byte) : List Byte := leBytes 48 (Config.sha384 b).toNat

/-- `n` bytes of the DRBG's next output; each output is a request of it (R434). -/
def State.random (s : State) (n : Nat) : List Byte × State :=
  ((List.range n).map fun i => Config.drbgByte s.sec.drbg i,
    { s with sec := { s.sec with drbg := s.sec.drbg + 1, requests := s.sec.requests + 1 } })

/-- The entropy source is healthy (R434). -/
def State.drbgOk (s : State) : Bool := s.flag R.SEC_STAT_DRBG_OK

/-- The security of lane `i`. -/
def State.sec_ (s : State) (i : Nat) : Lane := NMap.get (fun _ => {}) s.sec.lanes i
def State.setSec (s : State) (i : Nat) (x : Lane) : State :=
  { s with sec := { s.sec with lanes := NMap.set (fun _ => {}) s.sec.lanes i x } }

/-- FK of a PRK (R423). -/
def finishKey (prk : BitVec 384) : List Byte := Config.hkdfExpand prk (label "dvl fin") 48

/-- A key and its salt for a direction, `ir` from initiator to responder, under a PRK and the digest of a transcript (R423). -/
def trafficKey (prk : BitVec 384) (script : List Byte) (ir : Bool) : List Byte :=
  Config.hkdfExpand prk (label (if ir then "dvl k ir" else "dvl k ri") ++ digest script) 32
    ++ Config.hkdfExpand prk (label (if ir then "dvl s ir" else "dvl s ri") ++ digest script) 4

/-- A lane's traffic keys and NEXT (R423); `init` says that this end is the initiator. -/
def trafficKeys (prk : BitVec 384) (script : List Byte) (init : Bool) : Lane :=
  { txKey := trafficKey prk script init, rxKey := trafficKey prk script (!init)
    next := Config.hkdfExpand prk (label "dvl next" ++ digest script) 48 }

/-- `want` of a rekey whose new key is confirmed once this end's REKEY_FINISH has been sent. -/
abbrev wSend : Nat := 0x80

/-- `want` of a lane whose REJECT waits to be sent, after which its port goes DOWN. -/
abbrev wReject : Nat := 0x81

/-- The sending key is switched (R147): EPOCH inverts, FCNT restarts, and the receiver keeps the previous key until a frame of the new epoch. -/
def State.switchKeys (s : State) (i : Nat) (x : Lane) : State :=
  let p := s.port i
  (s.setSec i { x with oldKey := (s.sec_ i).rxKey }).setPort i { p with epoch := !p.epoch, fcnt := 0, prevKey := true }

/-- A frame that has just left on lane `i` is the responder's REKEY_FINISH, and the initiator's has been verified: the key is switched (R424). -/
def State.afterSend (s : State) (i : Nat) (f : Frame) : State :=
  match (s.sec_ i).rekey with
  | some h =>
    if h.want = wSend ∧ f.typ = fMgmt ∧ f.op = 4 ∧ leAt f.payload 0 1 = 0x08 then s.switchKeys i (trafficKeys h.prk h.script false)
    else s
  | none => s

end Sys2Proof.Machine
end

