-- ==== Sys2Proof/Machine/Wire.lean ====
section
/-!
DEFINITION. Frames on a lane (chapters 00, 05 and 06): the bytes of headers and slices, their encryption and tags under the keys of the lane,
the 66-bit blocks that carry them and the order of their bits, ring ordered sets, and the check of a received tag.
-/

namespace Sys2Proof

/-! ### Headers (R4, Tables 05-5 and 06-2) -/

/-- LEN: the payload bytes that the frame announces, or the slices of a SWEEP. -/
def Frame.len (f : Frame) : Nat := (if f.typ = fSweep then f.slices.length else f.payload.length) + f.missing

/-- The 32 bytes of a frame's header (Table 05-5). -/
def Frame.header (f : Frame) : List Byte :=
  leBytes 1 (f.ver * 16 + f.typ)
    ++ leBytes 1 (bnat f.ceEcho * 128 + f.wrap * 32 + bnat f.epoch * 16 + bnat f.ce * 8 + f.tc)
    ++ leBytes 2 (bits f.rsv 0 2 * 2 ^ 14 + f.xcnt * 2 ^ 10 + f.hops)
    ++ leBytes 4 (bits f.rsv 2 14 * 2 ^ 18 + f.dst)
    ++ leBytes 4 (bits f.rsv 16 10 * 2 ^ 22 + f.tn * 2 ^ 18 + f.src)
    ++ leBytes 2 (f.gen * 2 ^ 13 + f.tag)
    ++ leBytes 2 (bits f.rsv 26 4 * 2 ^ 12 + f.lseq)
    ++ leBytes 2 (bits f.rsv 30 1 * 2 ^ 15 + f.td * 2 ^ 12 + f.len)
    ++ leBytes 1 f.op ++ leBytes 1 f.sub ++ leBytes 4 f.fcnt ++ leBytes 8 f.arg

/-- A slice cut short goes on with zeros in place of the bytes that did not come (R148). -/
def Slice.pad (x : Slice) : Slice :=
  { x with
    outPart := x.outPart ++ List.replicate x.outMiss 0, inPart := x.inPart ++ List.replicate x.inMiss 0, outMiss := 0, inMiss := 0 }

/-- LENGTH of a slice (R173). -/
def Slice.length (x : Slice) : Nat := (32 + x.outPart.length + x.inPart.length + 7) / 8 * 8

/-- The 16 bytes of a slice header (Table 06-2). -/
def Slice.header (x : Slice) : List Byte :=
  leBytes 1 x.station
    ++ leBytes 1 (bits x.rsv 0 3 * 32 + bnat x.degraded * 16 + bnat x.safe * 8 + bnat x.outSet * 4 + bnat x.fresh * 2 + bnat x.written)
    ++ leBytes 2 x.length ++ leBytes 2 x.outPart.length ++ leBytes 2 x.inPart.length ++ leBytes 4 x.cycle ++ leBytes 4 (bits x.rsv 3 32)

/-- OUT, IN and Pad, the plaintext of a slice (R174). -/
def Slice.plain (x : Slice) : List Byte :=
  x.outPart ++ x.inPart ++ List.replicate (x.length - 32 - x.outPart.length - x.inPart.length) 0

/-- The extension and the payload, the plaintext of a non-sweep frame (R146). -/
def Frame.plain (f : Frame) : List Byte := f.ext ++ f.payload

/-- A frame cut short goes on with zeros in place of the bytes that did not come (R148). -/
def Frame.pad (f : Frame) : Frame :=
  let lack := if f.typ = fReq ∨ f.typ = fRsp then 32 - f.ext.length else 0
  { f with ext := f.ext ++ List.replicate lack 0, payload := f.payload ++ List.replicate f.missing 0, missing := 0 }

/-- A frame as a hub sends it on: HOPS counts the hub, and a unit that is not valid leaves with the poison marker (R142, R148). -/
def Frame.leaves (f : Frame) : Frame :=
  { f.pad with hops := f.hops + 1, mark := if f.mark = .valid then .valid else .poisoned }

/-! ### Encryption and tags (R146 to R149, R154, R174) -/

/-- The 96-bit IV: the link salt, which follows the key, FCNT, and a slice's position plus 1 or 0. -/
def gcmIv (key : List Byte) (fcnt pos : Nat) : List Byte := (key.drop 32).take 4 ++ leBytes 4 fcnt ++ leBytes 4 pos

/-- Bytes under the key stream. -/
def gcmCipher (key iv plain : List Byte) : List Byte := plain.zipIdx.map fun (b, n) => b ^^^ Config.gcmStream (key.take 32) iv n

/-- The tag of a non-sweep frame under a key: its AAD is the header. -/
def Frame.gcmTag (f : Frame) (key : List Byte) : BitVec 128 := Config.gcmTag (key.take 32) (gcmIv key f.fcnt 0) f.header f.plain

/-- The tag of the slice at a position of a SWEEP frame: its AAD is the frame header and the slice header. -/
def Frame.sliceTag (f : Frame) (key : List Byte) (x : Slice) (pos : Nat) : BitVec 128 :=
  Config.gcmTag (key.take 32) (gcmIv key f.fcnt (pos + 1)) (f.header ++ x.header) x.plain

/-- The tag that leaves: the computed one, or the poison marker, which is that tag with every bit inverted (R148). -/
def tagBytes (m : Mark) (t : BitVec 128) : List Byte := leBytes 16 (if m = .valid then t else ~~~t).toNat

/-- What a received tag says beside the computed one (R149). -/
def markOf (computed received : BitVec 128) : Mark :=
  if received = computed then .valid else if received = ~~~computed then .poisoned else .tagFail

/-- One byte of CRC-32C, reflected; `n` counts its bits. -/
def crcBits (c : BitVec 32) : Nat → BitVec 32
  | 0 => c
  | n + 1 => crcBits (if c.getLsbD 0 then (c >>> 1) ^^^ 0x82F63B78 else c >>> 1) n

/-- CRC-32C of bytes. PRESUMED: the reflected form with polynomial 0x1EDC6F41, all ones at the start and inverted at the end. -/
def crc32c (b : List Byte) : BitVec 32 := ~~~(b.foldl (fun c x => crcBits (c ^^^ x.setWidth 32) 8) (BitVec.allOnes 32))

/-- What stands in place of the tag in AUTH: CRC-32C of header and payload in bytes 0 to 3, and zeros (R154). -/
def Frame.crcTag (f : Frame) : BitVec 128 := (crc32c (f.header ++ f.payload)).setWidth 128

/-- The bytes of a frame on a lane: under a key (R146), or in clear with the CRC in AUTH (R154). -/
def Frame.wire (f : Frame) (key : Option (List Byte)) : List Byte :=
  match key with
  | none => f.header ++ f.plain ++ leBytes 16 f.crcTag.toNat
  | some k =>
    if f.typ = fSweep then
      f.header ++ f.slices.zipIdx.flatMap fun (x, n) =>
        x.header ++ gcmCipher k (gcmIv k f.fcnt (n + 1)) x.plain ++ tagBytes x.mark (f.sliceTag k x n)
    else f.header ++ gcmCipher k (gcmIv k f.fcnt 0) f.plain ++ tagBytes f.mark (f.gcmTag k)

/-! ### Blocks (R5, R135 to R137) -/

/-- The bits of a byte as they leave, bit 0 first (R5). -/
def byteBits (b : Byte) : List Bool := (List.range 8).map b.getLsbD

/-- The 66 bits of a block in transmit order: the sync header, then the bytes in ascending order, as they are before the scrambler. -/
def Block.bits (b : Block) : List Bool := (if b.ctl then [true, false] else [false, true]) ++ b.body.flatMap byteBits

/-- A control block of a type, its bytes filled up with zeros. -/
def ctlBlock (type : Byte) (b : List Byte) : Block := ⟨true, type :: (b ++ List.replicate (7 - b.length) 0)⟩

/-- An idle block. -/
def idleBlock : Block := ctlBlock 0x1E []

/-- The terminate blocks' types, by the bytes that they carry. PRESUMED from Clause 49, of which R135 names the first and the last. -/
def endTypes : List Byte := [0x87, 0x99, 0xAA, 0xB4, 0xCC, 0xD2, 0xE1, 0xFF]

/-- The blocks of a frame (R135): a start block with bytes 0 to 6, data blocks, and a terminate block with the bytes left. -/
def blocksOf (b : List Byte) : List Block :=
  let n := (b.length - 7) / 8
  ctlBlock 0x78 (slice b 0 7) :: ((List.range n).map fun j => ⟨false, slice b (7 + 8 * j) 8⟩)
    ++ [ctlBlock (endTypes.getD ((b.length - 7) % 8) 0x87) (b.drop (7 + 8 * n))]

/-- The block of a ring ordered set (Table 05-2): O0 lies in the low half of the byte after ARG. -/
def setBlock (code arg : Nat) : Block := ctlBlock 0x4B (leBytes 1 code ++ leBytes 2 arg ++ [0x05])

/-- A ring ordered set as it is sent, twice (R137). -/
def twinSets (code arg : Nat) : SetPair := ⟨setBlock code arg, setBlock code arg⟩

/-- The code and ARG of two consecutive blocks that form an ordered set (R137): both are blocks of type 0x4B with O0 0x5 and identical, and
the code is none that is reserved. -/
def setOf (q : SetPair) : Option (Nat × Nat) :=
  let a := q.a
  let code := leAt a.body 1 1
  if a = q.b ∧ a.ctl ∧ leAt a.body 0 1 = 0x4B ∧ leAt a.body 4 1 % 16 = 5 ∧ code ∈ [1, 2, 3] then some (code, leAt a.body 2 2) else none

end Sys2Proof

namespace Sys2Proof.Machine

/-- The key under which lane `i` sends: none in AUTH. -/
def State.sendKey (s : State) (i : Nat) : Option (List Byte) := if (s.port i).st = .auth then none else some (s.sec_ i).txKey

/-- A frame starts on lane `i`, as its blocks. -/
def State.emitFrame (s : State) (i : Nat) (f : Frame) : State := s.emit (.frame i f (blocksOf (f.wire (s.sendKey i))))

/-- A ring ordered set leaves on lane `i` as two identical blocks: now, or after the frame in progress (R137). -/
def State.sendSet (s : State) (i code arg : Nat) : State :=
  let p := s.port i
  if p.busy then s.setPort i { p with setsDue := p.setsDue ++ [(code, arg)] }
  else s.emit (.orderedSet i (twinSets code arg))

/-- Between two frames (R135, R137): the ordered sets that wait, or an idle block. -/
def State.gap (s : State) (i : Nat) : State :=
  let p := s.port i
  if p.setsDue = [] then s.emit (.idle i idleBlock)
  else p.setsDue.foldl (fun s (c, a) => s.sendSet i c a) (s.setPort i { p with setsDue := [] })

/-- The receiving key that a frame's EPOCH selects (R147): the current one, or the previous one while it is kept. -/
def State.keyFor (s : State) (i : Nat) (epoch : Bool) : Option (List Byte) :=
  let p := s.port i
  let x := s.sec_ i
  if epoch = p.rxEpoch then some (if p.prevKey then x.oldKey else x.rxKey) else if p.prevKey then some x.rxKey else none

/-- A slice with its received tag compared (R149). -/
def Slice.read (f : Frame) (key : Option (List Byte)) (x : Slice) (pos : Nat) : Slice :=
  match x.rxTag with
  | none => x
  | some t => { x with
      rxTag := none
      mark := if x.mark = .cut then .cut else match key with | some k => markOf (f.sliceTag k x pos) t | none => .tagFail }

/-- A frame as lane `i` receives it, with each received tag compared with the tag that the receiver computes (R149, R154). -/
def State.readTag (s : State) (i : Nat) (f : Frame) : Frame :=
  let key := s.keyFor i f.epoch
  let f := { f with slices := f.slices.zipIdx.map fun (x, n) => Slice.read f key x n }
  match f.rxTag with
  | none => f
  | some t => { f with
      rxTag := none
      mark := if f.mark = .cut then .cut
        else if (s.port i).st = .auth then (if t = f.crcTag then .valid else .tagFail)
        else match key with | some k => markOf (f.gcmTag k) t | none => .tagFail }

end Sys2Proof.Machine
end

