-- ==== Sys2Proof/Machine/Fabric.lean ====
section
/-!
DEFINITION. What the ring families share: path loss (R127 to R129), the topology record and what follows a change of it (R34, R35,
R182), ring ports as configured (R131), and the sweep window (R184).
-/

namespace Sys2Proof.Machine

/-! ### Blocks, rings and broadcasts -/

/-- The block that a frame consumed by this hub goes to. -/
def frameBlock (f : Frame) : Nat :=
  if f.typ = fReq then reqBlock (bits f.arg 32 14) (bits f.arg 0 32)
  else if f.typ = fRsp ∨ f.typ = fMsg then bHost
  else if f.typ = fTun then bBridge
  else if f.typ = fTime then bTime
  else bMgmt

/-- The configured ring ID and station of ring `n`. -/
def State.cfgRing (s : State) (n : Nat) : Nat := if n = 0 then s.rd R.RING_NODE_ID_RING else s.rd R.RING_NODE_ID1_RING
def State.cfgStation (s : State) (n : Nat) : Nat := if n = 0 then s.rd R.RING_NODE_ID_STATION else s.rd R.RING_NODE_ID1_STATION

/-- The ring ID that the hub's frames to its neighbours on ring `n` name: the one in effect, and before the join puts one in effect the
configured one, since no frame carries ring 0 (R16; log entry 46). -/
def State.ringOut (s : State) (n : Nat) : Nat := if s.ringId n = 0 then s.cfgRing n else s.ringId n

/-- The frame is a broadcast on a ring (Table 01-1). -/
def isBc (f : Frame) : Bool := f.dst % 256 = 255

/-! ### Path loss (R127 to R129) -/

/-- A read that may be sent again (R128). -/
def reissuable (r : Req) : Bool :=
  (r.op = opRead ∨ r.op = opQuery) ∧ ¬ r.locked
    ∧ (r.op = opQuery ∨ r.space = 0x100 ∨ r.space = 0x300 ∨ r.space = 0x400 ∨ r.space = 0x3FFF ∨ r.idemp)

/-- HOPS of a station of ring `n` in direction `d`. -/
def State.hops (s : State) (n st d : Nat) : Nat := if d = 0 then (s.topo n st).hopsA else (s.topo n st).hopsB

/-- The transaction of tag `k` is path-lost: it is sent again on the other direction, once, or it ends (R129). An UNLOCK that awaits releases of other
hubs is one (R127). -/
def State.pathLost (s : State) (k : Nat) : State :=
  match s.flight k with
  | none => s
  | some t =>
    if (¬ t.remote ∧ t.waits = []) ∨ t.done then s
    else if t.remote ∧ reissuable t.req ∧ ¬ t.reissued ∧ s.hops t.ring t.via (1 - t.dir) ≠ 0xFF then
      let r := { t.req with reissue := true }
      let s := s.setTag k { s.tag k with use := .flight { t with req := r, dir := 1 - t.dir, reissued := true } }
      s.submit bHost (lane t.ring (1 - t.dir)) { r.toFrame with dst := r.node }
    else s.abort k stPathLost

/-- Every transaction whose destination or next junction has become unreachable in the direction its request took (R127). -/
def State.checkPaths (s : State) : State :=
  (s.flights.filter fun (_, t) => ¬ t.done ∧ ((t.remote ∧ s.hops t.ring t.via t.dir = 0xFF)
    ∨ t.waits.any fun w => s.hops w.2.1 w.2.2.1 w.2.2.2 = 0xFF)).foldl (fun s (k, _) => s.pathLost k) s

/-- A path-loss notice for tag `k` of generation `g`; one for a tag already retired is discarded (R127, R129). -/
def State.pathNotice (s : State) (k g : Nat) : State := if (s.tag k).gen = g then s.pathLost k else s

/-! ### The topology record (R33 to R35, R182) -/

/-- The fields of an entry whose changes count, in which two entries differ (R35). -/
def Topo.changes (t u : Topo) : Nat :=
  bnat (t.hopsA ≠ u.hopsA) + bnat (t.hopsB ≠ u.hopsB) + bnat (t.present ≠ u.present) + bnat (t.master ≠ u.master)
    + bnat (t.junction ≠ u.junction) + bnat (t.twin ≠ u.twin)

/-- The changed fields between two records, one for each (R35). -/
def topoChanges (m m' : NMap Topo) : Nat :=
  ((m.keys ++ m'.keys).dedup).foldl (fun n k => n + (NMap.get (fun _ => {}) m k).changes (NMap.get (fun _ => {}) m' k)) 0

/-- BROKEN of ring `n`: a PRESENT station is unreachable in one direction (R182). -/
def State.broken (s : State) (n : Nat) : Bool :=
  s.ring.topo.any fun (k, t) => k / 256 = n ∧ t.present ∧ (t.hopsA = 0xFF ∨ t.hopsB = 0xFF)

/-- The cycle masters of ring `n` heard within the last 4 × BASE + 1 ms, and of them the one of the highest rank: higher PRIO, then the
lower serial number (R167, R168). -/
def State.accepted (s : State) (n : Nat) : Option Master :=
  let c := if n = 0 then s.cyc.c0 else s.cyc.c1
  let now := c.masters.filter fun m => s.ns ≤ m.heardAt + 32 * s.rd (R.RING_CYC_CFG_BASE n) + 1000000
  now.foldl (fun b m => match b with
    | none => some m
    | some x => if x.prio < m.prio ∨ (x.prio = m.prio ∧ m.serial < x.serial) then some m else some x) none

/-- The station of ring `n` that a SRC names: a junction's frames carry its E0/W0 node ID on both rings (R13), which its announces give
as OTHER on its second ring. 0 when the record does not name it. -/
def State.stationOf (s : State) (n node : Nat) : Nat :=
  if node / 256 = s.ringId n then node % 256
  else match s.ring.topo.find? fun (k, t) => k / 256 = n ∧ t.other = node with
    | some (k, _) => k % 256
    | none => 0

/-- A SYNC path is unavailable at once when HOPS becomes 0xFF for the master against the direction of its SYNC (R206): the SYNC that
travels ring A arrives on W, and the links back to the master lie in the ring B direction (R33). -/
def State.dropPaths (s : State) : State :=
  [0, 1].foldl (fun s n =>
    match s.accepted n with
    | none => s
    | some m =>
      let t := s.topo n (s.stationOf n m.node)
      let s := if t.hopsB = 0xFF ∧ (s.path n 0).avail then s.losePath n 0 else s
      if t.hopsA = 0xFF ∧ (s.path n 1).avail then s.losePath n 1 else s) s

/-- What follows a change of the topology records from `old`: GEN, which counts each changed field, BROKEN and path loss. -/
def State.afterTopo (s : State) (old : NMap Topo) : State :=
  let n := topoChanges old s.ring.topo
  if n = 0 then s
  else
    let s := s.wr R.RING_TOPO_GEN ((s.rd R.RING_TOPO_GEN + n) % 65536)
    let s := (s.wr (R.RING_CYC_STAT_BROKEN 0) (bnat (s.broken 0))).wr (R.RING_CYC_STAT_BROKEN 1) (bnat (s.broken 1))
    s.dropPaths.checkPaths

/-- HOPS of every other station of ring `n` that direction `d` reaches and `p` selects become 0xFF (R34, R159). -/
def State.cutHops (s : State) (n d : Nat) (p : Topo → Bool) : State :=
  let old := s.ring.topo
  let cut := fun (t : Topo) => if d = 0 then { t with hopsA := 0xFF, memA := [] } else { t with hopsB := 0xFF, memB := [] }
  let s := (old.keys.filter fun k => k / 256 = n ∧ k % 256 ≠ s.station n).foldl (fun s k =>
    let t := s.topo n (k % 256)
    if p t then s.setTopo n (k % 256) (cut t) else s) s
  s.afterTopo old

/-! ### Serial numbers (R32, R411) -/

/-- The serial number of the hub's device certificate. -/
def State.serial (_ : State) : Nat := Config.partSerial.toNat

/-- TWIN_PEER.SERIAL. -/
def State.peerSerial (s : State) : Nat := s.words 0x60010 4

/-- The serial number that a cycle master's frames carry: of a twin pair the lower one (R411). -/
def State.masterSerial (s : State) : Nat := if s.flag R.TWIN_CFG_EN then min s.serial s.peerSerial else s.serial

/-! ### Ring ports (R131) -/

/-- The port runs in RING mode and may carry ring frames; 4 is the twin lane. -/
def State.ringMode (s : State) (i : Nat) : Bool := i < 2 ∨ (i < 4 ∧ s.junction) ∨ (i = 4 ∧ s.flag R.TWIN_CFG_EN)

/-- E1 or W1 runs as an uplink. -/
def State.uplink (s : State) (i : Nat) : Bool :=
  (i = 2 ∨ i = 3) ∧ ¬ s.junction ∧ (s.rd (R.RING_PORT_CFG_MODE i) = 1 ∨ s.rd (R.RING_PORT_CFG_MODE i) = 2)

/-- The port is enabled; the twin lane is while TWIN_CFG.EN is 1. -/
def State.portEn (s : State) (i : Nat) : Bool := i = 4 ∨ s.flag (R.RING_PORT_CFG_EN i)

/-- The port carries ring frames. -/
def State.isUp (s : State) (i : Nat) : Bool := s.ringMode i ∧ (s.port i).st = .up

/-- The other port of the same ring. -/
def mate (i : Nat) : Nat := if i % 2 = 0 then i + 1 else i - 1

/-- The FLT_STATUS bit of a port: 8 to 11 for E0 to W1, 12 for the twin lane (R156, R397). -/
def portBit (i : Nat) : Nat := 8 + i

/-- A frame that this hub has sent has come back to it: SRC names it. In a twin pair, whose members share a node ID, one that comes straight
from the twin (HOPS 0) goes on, and so does a broadcast that is none of this member's own transactions (R14; log entry 47). -/
def State.isOwn (s : State) (f : Frame) : Bool :=
  s.isMine f.src ∧ (s.flag R.TWIN_CFG_EN →
    (if isBc f ∧ (f.typ = fReq ∨ f.typ = fMsg) then (s.flight f.tag).isSome ∧ (s.tag f.tag).gen = f.gen else f.hops ≠ 0))

/-- Step a saturating 16-bit counter of a port. -/
def State.stepPort (s : State) (i : Nat) (f : Port → Port) : State := s.setPort i (f (s.port i))

/-! ### Stamps and TIME frames (R203 to R207, R211) -/

/-- The TX and RX latencies of Table 07-6 in 2^-16 ns, rounded, by the mode of port `i`: 4 is the twin lane. -/
def State.latency (s : State) (i : Nat) (rx : Bool) : Nat :=
  if s.uplink i then
    if s.rd (R.RING_PORT_CFG_MODE i) = 2 then (if rx then 4068475 else 2732851)
    else if s.rd (R.RING_PORT_CFG_FEC i) = 1 then (if rx then 16210330 else 2035548)
    else if rx then 1931346 else 1450967
  else if rx then 1627259 else 1220280

/-- The stamp of a block that leaves port `i` now, or that has arrived there now, corrected to the balls by the latency and the signed trim of
TD_LAT_TRIM (R211), on the local timebase. -/
def State.txStamp (s : State) (i : Nat) : Nat := ((s.now : Int) + s.latency i false + 256 * sext 16 (s.rd (R.TD_LAT_TRIM_TX i))).toNat
def State.rxStamp (s : State) (i : Nat) : Nat := ((s.now : Int) - s.latency i true - 256 * sext 16 (s.rd (R.TD_LAT_TRIM_RX i))).toNat

/-- Link delay of port `i` in 2^-16 ns: the average, or half of RTT until the first result since UP (R207). -/
def State.linkDelay (s : State) (i : Nat) : Nat :=
  if i ∈ s.td.pdelayHave then s.rd (R.TD_LINK_DLY_DELAY i) else (s.port i).rtt * 32768

/-- The domains that a master publishes (R209); NPUB has room for seven, and TD0 is the SYNC's own time. -/
def State.published (s : State) : List Nat := [1, 2, 3, 4, 5, 6, 7].filter fun d => s.flag (R.TD_CFG_PUBLISH d) ∧ s.flag (R.TD_CFG_EN d)

/-- The payload of a SYNC that leaves port `i` (Table 07-5), with its ORIGIN at stamp `t`. -/
def State.syncPayload (s : State) (i t : Nat) : List Byte :=
  let n := i / 2
  let st := (s.domain 0).st
  leBytes 12 (timeEnc (s.tdStamp 0 t)) ++ leBytes 8 0 ++ leBytes 2 (s.rd (R.RING_CYC_CFG_PRIO n) * 4096 + s.ringId n)
    ++ leBytes 1 (bnat (i ∈ s.td.stepped) * 16 + bnat (st = dHoldover) * 8 + bnat (s.flag (R.TD_CFG_SCALE 0)) * 4
      + bnat (st = dLocked) * 2)
    ++ leBytes 1 s.published.length ++ leBytes 16 s.masterSerial ++ leBytes 1 (s.rd (R.TD_SYNC_CFG_INTERVAL n)) ++ leBytes 7 0
    ++ s.published.flatMap fun d =>
      leBytes 1 d ++ leBytes 1 (bnat ((s.domain d).st = dLocked) + bnat (s.flag (R.TD_CFG_SCALE d)) * 2) ++ leBytes 2 0 ++ leBytes 12 (timeEnc (s.tdStamp d t))

/-- A TIME frame of this hub's own as it leaves lane `i`: a SYNC takes its ORIGIN and entries, a PDELAY_RESP its T3 (Table 07-5). -/
def State.stampFrame (s : State) (i : Nat) (f : Frame) : Frame :=
  if f.typ ≠ fTime ∨ f.hops ≠ 0 then f
  else if f.op = 1 then { f with payload := s.syncPayload i (s.txStamp i) }
  else if f.op = 3 then { f with payload := overlay f.payload 12 (leBytes 12 (timeEnc (s.txStamp i))) }
  else f

/-- The departure of a PDELAY_REQ from lane `i` is stamped t1, and a SYNC has told of the steps before it (R204, R207). -/
def State.noteStamp (s : State) (i : Nat) (f : Frame) : State :=
  if f.typ ≠ fTime ∨ f.hops ≠ 0 then s
  else if f.op = 1 then { s with td := { s.td with stepped := s.td.stepped.filter (· ≠ i) } }
  else if f.op = 2 then { s with td := { s.td with pdelay := NMap.set (fun _ => (0, 0)) s.td.pdelay i (f.arg + 1, s.txStamp i) } }
  else s

/-! ### The sweep window (R134, R184) -/

/-- The window of output `i`. -/
def State.win (s : State) (i : Nat) : Win := if i % 2 = 0 then (s.cycOf (i / 2)).winE else (s.cycOf (i / 2)).winW
def State.setWin (s : State) (i : Nat) (w : Win) : State :=
  s.setCyc (i / 2) (if i % 2 = 0 then { s.cycOf (i / 2) with winE := w } else { s.cycOf (i / 2) with winW := w })

/-- Ring time `t` falls in the window of cycle `k` at output `i`: from 200 ns before the head of the last cycle's first copy (before S_k
in the first two cycles) until that copy has passed, and in any case until S_k + 8 × BASE − 400 ns. DESIGN CHOICE (log 77): where the previous cycle
brought no copy to the output, the head of the last one that did stands in. -/
def State.windowOf (s : State) (i k t : Nat) : Bool :=
  let w := s.win i
  let b := s.baseNs (i / 2)
  let sk := k * b
  w.passed ≠ some k ∧ sk + (if w.cycles < 2 then 0 else w.head) ≤ t + 200 ∧ t + 400 ≤ sk + b

/-- Lane time of a frame in ns, rounded up: 66-bit blocks of 2.56 ns from its start block to its terminate block (R131, R135). -/
def laneNs (f : Frame) : Nat := ((f.bytes + 9) / 8 * 256 + 99) / 100

/-- A non-sweep frame started now at output `i` would end inside the sweep window. The window is kept from the join on. -/
def State.windowHolds (s : State) (i : Nat) (f : Frame) : Bool :=
  let n := i / 2
  let joined := if n = 0 then s.flag R.RING_NODE_STATE_JOINED else s.flag R.RING_NODE_STATE_JOINED1
  let b := s.baseNs n
  let t := s.ringNs n + laneNs f
  i < 4 ∧ joined ∧ b ≠ 0 ∧ (s.windowOf i (t / b) t ∨ s.windowOf i (t / b + 1) t)

end Sys2Proof.Machine
end

