-- ==== Sys2Proof/Machine/RingLink.lean ====
section
/-!
DEFINITION. Ring links (chapter 05): a port going DOWN and the frames it leaves, starting and replaying frames, receiving and
forwarding them, acknowledgement, bring-up, and the switch core's choice of the next frame of an output (R364).
-/

namespace Sys2Proof.Machine

/-! ### Frames at a failed port (R156, R157) -/

/-- Report a discarded REQ to its issuing hub (Table 05-10), which may be this one. In DOZE the link sends no such notice (R494). -/
def State.reportLoss (s : State) (f : Frame) : State :=
  if s.isMine f.src then s.pathNotice f.tag f.gen
  else if s.pwr.asleep then s
  else s.sendTo bMgmt f.src { typ := fMgmt, tc := 6, src := s.node0, tn := f.tn, tag := f.tag, gen := f.gen, op := 3 }

/-- Discard a frame and count it in LOST. -/
def State.loseFrame (s : State) (i : Nat) : State := s.stepPort i fun p => { p with lost := satAdd 16 p.lost 1 }

/-- Count a frame wrapped at port `i`. -/
def State.countWrap (s : State) (i : Nat) : State := s.stepPort i fun p => { p with wrapped := satAdd 16 p.wrapped 1 }

/-- Send a frame on the other port of the ring with WRAP incremented. Where that port is not UP either, the switch core treats it there; in DOZE,
with the switch core off, it is treated at once: a broadcast may be wrapped once more, back to `i`, and any other is lost (Table 05-16). -/
def State.wrapFrame (s : State) (i inp : Nat) (f : Frame) : State :=
  let s := s.countWrap i
  let m := mate i
  if ¬ s.pwr.asleep ∨ s.isUp m then s.submit inp m { f with wrap := f.wrap + 1 }
  else if isBc f then (if f.wrap = 0 then (s.countWrap m).loseFrame i else s.loseFrame m)
  else if f.typ = fReq then (s.loseFrame m).reportLoss f
  else s.loseFrame m

/-- Table 05-16: what becomes of a frame bound for failed port `i`, or `sent` on it and not acknowledged. -/
def State.failFrame (s : State) (i inp : Nat) (f : Frame) (sent : Bool) : State :=
  if f.typ = fSweep ∨ f.typ = fTime ∨ f.typ = fMgmt then s
  else if isBc f then (if f.wrap ≤ 1 then s.wrapFrame i inp f else s.loseFrame i)
  else if sent ∧ f.typ = fReq then s.reportLoss f
  else if f.wrap ≠ 0 then (if f.typ = fReq then (s.loseFrame i).reportLoss f else s.loseFrame i)
  else if sent ∧ f.typ ≠ fRsp then s.loseFrame i
  else s.wrapFrame i inp f

/-- The frames in the switch core for output `i`, in queue order: those whose first cell has joined a queue, then those that still wait at their
inputs. -/
def State.failQueued (s : State) (i : Nat) : State :=
  let out := fun (x : QFrame) => x.out = i ∧ ¬ x.started
  let frames := (s.sw.queue.filter fun x => out x ∧ x.moved ≠ 0) ++ s.sw.queue.filter fun x => out x ∧ x.moved = 0
  let s := { s with sw := { s.sw with queue := s.sw.queue.filter fun x => ¬ x.out = i } }
  frames.foldl (fun s x => s.failFrame i x.inp x.frame false) s

/-- Announce the failed side on the other port of the ring (R156 step 2, Table 05-10). -/
def State.sendLinkState (s : State) (i : Nat) : State :=
  s.submit bMgmt (mate i)
    { typ := fMgmt, tc := 6, dst := nodeId (s.ringOut (i / 2)) 255, src := s.node0, op := 2, payload := leBytes 4 (i % 2) }

/-- A port that leaves UP or AUTH discards all its keys (R424). -/
def State.dropKeys (s : State) (i : Nat) : State :=
  { s with sec := { s.sec with lanes := NMap.set (fun _ => {}) s.sec.lanes i {} } }

/-- The twin lane goes DOWN: an active shows FORMING while its twin is absent (Table 15-5). -/
def State.twinAbsent (s : State) : State :=
  if s.rd R.TWIN_STAT_ROLE = 1 ∧ s.rd R.TWIN_STAT_PAIR ∈ [2, 3, 4] then
    ({ s with twin := { s.twin with out := 0, due := none, resync := false, noticed := false } }).wr R.TWIN_STAT_PAIR 1
  else s

/-- A port leaves UP for DOWN with a cause (R155, R156). Its frames are treated under R157: those of the FIFO, those of the transit store of
DOZE, then those of the switch core. -/
def State.linkDown (s : State) (i cause : Nat) : State :=
  let p := s.port i
  let s := (if i = 4 then s.twinAbsent else s).dropKeys i
  let s := s.setPort i { p with
    st := .down, cause := cause, downCnt := satAdd 16 p.downCnt 1, rtt := 0, fifo := [], rewind := [], failed := 0, sweep := [], transit := []
    setsDue := [], sync := [], busy := false, nakFor := none, discarding := false, readySent := false, readySeen := false, waitRetry := false, probeAt := none }
  let s := if i < 2 then s.chooseRef.showRec else s
  let s := if i < 4 then ((s.cutHops (i / 2) (i % 2) fun _ => true).sendLinkState i) else s
  let s := p.fifo.foldl (fun s f => s.failFrame i i f true) s
  let s := p.transit.foldl (fun s f => s.failFrame i i f false) s
  (s.failQueued i).raise (portBit i) .U

/-- A bring-up step fails: DOWN with a cause, a C fault, and 100 ms until the next try (R153, R165). -/
def State.bringupFail (s : State) (i cause : Nat) : State :=
  ((s.dropKeys i).stepPort i fun p => { p with
    st := .down, cause := cause, readySent := false, readySeen := false, rtt := 0, waitRetry := true, probeAt := none }).raise (portBit i) .C

/-- A port that is held DOWN: EN is 0 or its mode has changed (R155, Table 05-17). -/
def State.disablePort (s : State) (i : Nat) : State :=
  match (s.port i).st with
  | .down => s
  | .up => s.linkDown i 1
  | .uplinkUp => s.stepPort i fun p => { p with st := .down, cause := 1, downCnt := satAdd 16 p.downCnt 1 }
  | _ => (s.dropKeys i).stepPort i fun p => { p with st := .down, cause := 1, readySent := false, readySeen := false, waitRetry := false }

/-- Bring-up starts at SIGNAL (R153), in DOZE at E0 and W0 only (R493). -/
def State.startPort (s : State) (i : Nat) : State :=
  if (s.port i).st = .down ∧ s.ringMode i ∧ s.portEn i ∧ (s.pwr.asleep → i < 2) then
    s.stepPort i fun p => { p with st := .signal, waitRetry := false, readySent := false, readySeen := false }
  else s

/-! ### Starting frames (R134, R147, R150, R161) -/

/-- The replay FIFO of 64 KiB can hold the frame and fewer than 2,047 frames are unacknowledged. -/
def fifoRoom (p : Port) (f : Frame) : Bool :=
  p.fifo.length < 2047 ∧ p.fifo.foldl (fun n x => n + x.bytes) 0 + f.bytes ≤ 65536

/-- The frame may start on output `i`: outside the sweep window, and with room in the replay FIFO. -/
def State.mayStart (s : State) (i : Nat) (f : Frame) : Bool :=
  (f.typ = fSweep ∨ ¬ s.windowHolds i f) ∧ (¬ f.replayed ∨ fifoRoom (s.port i) f)

/-- More than CE_THR cells wait in the frame's queue (R161, R366). -/
def State.overThr (s : State) (i : Nat) (f : Frame) : Bool :=
  let thr := s.rd (R.SW_OQ_LIM_CE_THR (8 * i + f.tc))
  f.typ ≠ fSweep ∧ thr ≠ 0 ∧ thr < s.depth (8 * i + f.tc)

/-- A SWEEP copy of this hub's own leaves output `i`: the time is kept for R185 and R186. -/
def State.noteLeft (s : State) (i : Nat) (f : Frame) : State :=
  if f.typ = fSweep ∧ f.hops = 0 ∧ i < 4 then
    let c := s.cycOf (i / 2)
    let c := { c with copies := ((f.arg, f.sub % 2, s.ns, laneNs f) :: c.copies).take 64 }
    s.setCyc (i / 2) (if i % 2 = 0 then { c with leftE := s.ns } else { c with leftW := s.ns })
  else s

/-- Start a frame on output `i`. A new replayed frame takes the next LSEQ and is kept, unless it ends with the poison marker; `again`
marks one that a rewind sends. A frame counter that would pass its limit takes the link down, and the frame is one for a failed port (R147,
R157). A REJECT that has been sent in UP takes the link down as well (R422). -/
def State.transmit (s : State) (i : Nat) (f : Frame) (again : Bool) : State :=
  let p := s.port i
  if 2 ^ 32 ≤ p.fcnt then (if again then s.linkDown i 7 else (s.linkDown i 7).failFrame i i f false)
  else
    let seq := if again then f.lseq else if f.replayed then p.lseq else 0
    let f := s.stampFrame i { f with epoch := p.epoch, fcnt := p.fcnt, lseq := seq, ce := f.ce || s.overThr i f }
    let keep := f.replayed ∧ f.mark = .valid ∧ ¬ again
    let out := (s.sec_ i).rekey.any fun h => h.want = wReject
    let s := ((((s.noteLeft i f).noteStamp i f).emitFrame i f).setPort i { p with
      fcnt := p.fcnt + 1, busy := true, lseq := if keep then (p.lseq + 1) % 4096 else p.lseq
      fifo := if keep then p.fifo ++ [f] else p.fifo }).afterSend i f
    if out ∧ f.typ = fMgmt ∧ f.op = 4 ∧ leAt f.payload 0 1 = 0x0F then s.linkDown i 4 else s

/-! ### The order of an output (R134, R359, R364, R368) -/

/-- The frame may leave output `o`: from a lane once its first cell has been queued, from a block once all have; in the VOQ reserve its
cells have been queued at admission. -/
def QFrame.canLeave (x : QFrame) : Bool :=
  ¬ x.started ∧ 0 < x.moved ∧ (x.inp ≤ 4 ∨ x.voq ∨ x.moved = x.cells)

/-- The first frame of class `c` for output `o` that may leave, in the order in which they joined the queue: frames of the shared buffer come before
those of the reserve. A frame of another input that may not leave yet holds none back (R359, R365). -/
def State.headOf (s : State) (o c : Nat) : Option QFrame :=
  let shared := s.sw.queue.any fun x => x.out = o ∧ ¬ x.voq
  match s.sw.queue.find? fun x => x.out = o ∧ x.cls = c ∧ x.canLeave ∧ (shared → ¬ x.voq) with
  | some x => if 4 < o ∨ s.mayStart o x.frame then some x else none
  | none => none

def State.weight (s : State) (o c : Nat) : Nat := s.rd (R.SW_OQ_CFG_WEIGHT (8 * o + c))
def State.deficitOf (s : State) (q : Nat) : Nat := NMap.get (fun _ => 0) s.sw.deficit q
def State.setDeficit (s : State) (q v : Nat) : State :=
  { s with sw := { s.sw with deficit := NMap.set (fun _ => 0) s.sw.deficit q v } }

/-- Deficit round robin over the classes of output `o` with a nonzero WEIGHT: the class in turn sends while its deficit covers its first
frame; each new turn adds WEIGHT × 256 bytes. `n` bounds the turns. -/
def State.drr (s : State) (o : Nat) : Nat → Option QFrame × State
  | 0 => (none, s)
  | n + 1 =>
    let c := NMap.get (fun _ => 0) s.sw.rr o
    let q := 8 * o + c
    let next := fun (s : State) =>
      let c' := (c + 1) % 8
      let s := { s with sw := { s.sw with rr := NMap.set (fun _ => 0) s.sw.rr o c' } }
      s.setDeficit (8 * o + c') (s.deficitOf (8 * o + c') + s.weight o c' * 256)
    match (if s.weight o c = 0 then none else s.headOf o c) with
    | none => (next (s.setDeficit q 0)).drr o n
    | some x =>
      if x.frame.bytes ≤ s.deficitOf q then (some x, s.setDeficit q (s.deficitOf q - x.frame.bytes))
      else (next s).drr o n

/-- The next frame that the switch core gives output `o` (R364): strict classes first, the highest first, then deficit round robin; outside
SHARED mode a frame of the reserve goes by class alone (R368). -/
def State.pickOut (s : State) (o : Nat) : Option QFrame × State :=
  let classes := [7, 6, 5, 4, 3, 2, 1, 0]
  let shared := s.sw.queue.any fun x => x.out = o ∧ ¬ x.voq
  let strict := classes.filter fun c => s.weight o c = 0 ∨ ¬ shared
  match strict.findSome? fun c => s.headOf o c with
  | some x => (some x, s)
  | none => if classes.any fun c => (s.headOf o c).isSome then s.drr o 128 else (none, s)

/-- The list with the first `x` replaced by `y`. -/
def swapFirst {α : Type} [DecidableEq α] (x y : α) : List α → List α
  | [] => []
  | a :: r => if a = x then y :: r else a :: swapFirst x y r

/-- Mark a frame of the switch core as started. -/
def State.markStarted (s : State) (x : QFrame) : State :=
  { s with sw := { s.sw with queue := swapFirst x { x with started := true } s.sw.queue } }

/-- Start the next frame of a free lane output: a waiting SWEEP copy and the SYNC that follows it, then replays, then the switch core's order
(R134, R203). -/
def State.startNext (s : State) (i : Nat) : State :=
  let p := s.port i
  if ¬ s.isUp i ∨ p.busy then s
  else match p.sweep with
  | f :: r => (s.setPort i { p with sweep := r }).transmit i f false
  | [] =>
    match p.sync.find? fun f => ¬ s.windowHolds i f with
    | some f => (s.setPort i { p with sync := p.sync.erase f }).transmit i f false
    | none =>
    match p.rewind with
    | f :: r => if s.windowHolds i f then s else (s.setPort i { p with rewind := r }).transmit i f true
    | [] =>
      match p.transit with
      | f :: r =>
        if ¬ s.mayStart i f then s
        else if 2 ^ 32 ≤ p.fcnt then s.linkDown i 7
        else (s.setPort i { p with transit := r }).transmit i f false
      | [] =>
        match s.pickOut i with
        | (some x, t) => if 2 ^ 32 ≤ p.fcnt then s.linkDown i 7 else (t.markStarted x).transmit i x.frame false
        | (none, s) => s

/-- RING_OUTPUT_FREE (R134): output `i` finishes its frame, whose cells are freed; the ordered sets that wait follow it, or an idle block (R135,
R137), and the next frame starts. -/
def State.outputFree (s : State) (i : Nat) : State :=
  let s := { s with sw := { s.sw with queue := s.sw.queue.filter fun x => ¬ (x.out = i ∧ x.started) } }
  let s := s.stepPort i fun p => { p with busy := false }
  (if s.isUp i then s.gap i else s).startNext i

def execRingOutputFree (i : Fin 5) (s : State) : Host.Outcome State Fault Refusal := .next (s.outputFree i).settle

/-! ### Receiving (R148, R149, R151) -/

/-- A NAK naming NEXT, at most once for each value of NEXT until the sender's replay timer has had time to expire (R151). -/
def State.sendNak (s : State) (i : Nat) : State :=
  let p := s.port i
  let may := match p.nakFor with | none => true | some t => decide (t + p.rtt + 1500 ≤ s.ns)
  let s := s.setPort i { p with discarding := true, nakFor := if may then some s.ns else p.nakFor }
  if may then s.sendSet i 2 p.next else s

/-- Count a unit by its mark (R149, R165). -/
def State.countMark (s : State) (i : Nat) (m : Mark) : State :=
  match m with
  | .valid | .cut => s
  | .poisoned => s.stepPort i fun p => { p with poisoned := satAdd 16 p.poisoned 1 }
  | .tagFail => (s.stepPort i fun p => { p with tagFail := satAdd 16 p.tagFail 1 }).raise (portBit i) .C

/-- Count a discarded frame of a port. -/
def State.countDiscard (s : State) (i : Nat) : State := s.stepPort i fun p => { p with discard := satAdd 16 p.discard 1 }

/-- A valid frame under a new epoch: the receiver drops the previous key (R147). -/
def State.noteEpoch (s : State) (i : Nat) (f : Frame) : State :=
  if f.mark = .valid ∧ f.epoch ≠ (s.port i).rxEpoch then
    (s.setSec i { s.sec_ i with oldKey := [] }).stepPort i fun p => { p with rxEpoch := f.epoch, prevKey := false }
  else s

/-- The link-level checks of a frame at port `i`: whether it goes on, and the state after. `seqRead` says that its LSEQ could be read. -/
def State.linkCheck (s : State) (i : Nat) (f : Frame) (seqRead : Bool) : Bool × State :=
  let s := (s.countMark i f.mark).noteEpoch i f
  let p := s.port i
  if ¬ f.replayed then (true, s)
  else if ¬ seqRead then (false, s.sendNak i)
  else if f.lseq ≠ p.next then (false, s.countDiscard i)
  else match f.mark with
    | .valid => (true, s.setPort i { p with next := (p.next + 1) % 4096, nakFor := none, discarding := false })
    | .poisoned => (true, s)
    | _ => (true, s.sendNak i)

/-- The standby takes a RSP to a transaction of its own tenants, a path-loss notice for one, and a delivery to a subscription of theirs. It forwards
the others, TUN frames and other notices among them, to the active (R14, R399). -/
def State.takesAsStandby (s : State) (f : Frame) : Bool :=
  if f.typ = fRsp ∨ f.typ = fMgmt then (s.flight f.tag).isSome ∧ f.gen = (s.tag f.tag).gen
  else if f.typ = fTun then false
  else if f.typ = fMsg then
    f.op = 1 ∧ s.pts.remote.any fun (u : RemSub) => u.node = f.src ∧ u.slot = f.tn ∧ u.num = leAt f.payload 0x18 2 % 32768
  else true

/-- This hub carries out a unicast frame that arrives for its node ID: the standby of a twin pair takes only requests to node management
space with TWIN_SEL 1 (R14, R22), and the active leaves those to it. -/
def State.consumes (s : State) (f : Frame) : Bool :=
  s.isMine f.dst ∧
    (let sel : Bool := f.typ = fReq ∧ bits f.arg 32 14 = 0x3FFF ∧ bit f.arg 31
     if s.standby then (if f.typ = fReq then sel else s.takesAsStandby f) else ¬ (sel ∧ s.rd R.TWIN_STAT_ROLE = 1))

/-- A broadcast has been acted on (R158): TIME and MGMT frames are never wrapped and have no tag, so they are not remembered. -/
def State.actedOn (s : State) (f : Frame) : Bool := f.replayed ∧ (f.src, f.tag, f.gen) ∈ s.ring.bcast

/-- Remember a broadcast among the last 64. -/
def State.noteBroadcast (s : State) (f : Frame) : State :=
  if f.replayed then
    { s with ring := { s.ring with bcast := ((f.src, f.tag, f.gen) :: s.ring.bcast).take 64 } }
  else s

/-- A frame in transit leaves for output `o`: at once when the output is idle and nothing is ahead of it, else through the switch core
(R133, R359), or in DOZE through the transit store (R494). A frame that is not valid leaves with the poison marker, and one cut short with
zeros for what did not come (R148). -/
def State.onward (s : State) (i o : Nat) (f : Frame) : State :=
  if f.hops = 1023 then s.countDiscard i
  else
    let f := f.leaves
    let p := s.port o
    let idle := s.isUp o ∧ ¬ p.busy ∧ p.sweep = [] ∧ p.rewind = [] ∧ p.transit = [] ∧ ¬ s.sw.queue.any fun x => x.out = o
    if idle ∧ s.mayStart o f then s.transmit o f false
    else if s.pwr.asleep ∧ ¬ s.isUp o then s.failFrame o i f false
    else s.submit i o f

/-- A type or header version that the destination discards (R141). -/
def unknownFrame (f : Frame) : Bool := f.ver ≠ 1 ∨ f.typ = 0 ∨ 7 < f.typ

/-- A wake of source `src`, if it is enabled: latched during entry, or in DOZE shown as the last wake's sources. -/
def State.wake (s : State) (src : Nat) : State :=
  let early := setBits s.pwr.early src 1 1
  if ¬ bit (s.word 0x20040) src then s
  else if s.pwr.entry.isSome then { s with pwr := { s.pwr with early := early } }
  else if s.pwr.asleep then ({ s with pwr := { s.pwr with early := early } }).wr R.PWR_WAKE_SRC_SRC early
  else s

/-- This hub consumes a valid frame: it enters the switch core for its block. In DOZE it is discarded, but for announces, LINK_STATE and AUTH,
which have commands of their own (R493, R494), and a unicast REQ wakes the hub (R496). -/
def State.consume (s : State) (i : Nat) (f : Frame) : State :=
  if f.mark ≠ .valid then s
  else if unknownFrame f then s.countDiscard i
  else if s.pwr.asleep then
    if f.typ = fMgmt ∧ f.op ∈ [1, 2, 4] then s
    else if f.typ = fReq ∧ ¬ isBc f then (s.countDiscard i).wake 2 else s.countDiscard i
  else s.submit i (frameBlock f) f

/-- A broadcast at port `i` (R142, R158). -/
def State.broadcastIn (s : State) (i : Nat) (f : Frame) : State :=
  if s.isOwn f then
    if f.wrap = 1 then s.onward i (mate i) f
    else if f.mark ≠ .valid then s
    else if f.typ = fReq ∨ f.typ = fMsg then (s.finish f.tag f.gen { exec := s.tdEnc f.td, xfer := f.payload.length }).settle
    else s
  else
    let act := f.mark = .valid ∧ ¬ s.actedOn f
    let s := if act then (s.noteBroadcast f).consume i f else s
    s.onward i (mate i) f

/-- Frames of a junction's other rings are routed by RING_RT; a hub that is no junction, and every broadcast, stays on its ring (R29). Before a ring
ID is in effect on the ring of port `i` its frames are forwarded along it (R31). -/
def State.crosses (s : State) (i : Nat) (f : Frame) : Bool :=
  s.junction ∧ i < 4 ∧ ¬ isBc f ∧ s.ringId (i / 2) ≠ 0 ∧ f.dst / 256 ≠ s.ringId (i / 2) ∧ ¬ s.isMine f.dst

/-- A frame that stays on the ring of port `i` (R142). -/
def State.frameIn (s : State) (i : Nat) (f : Frame) (seqRead : Bool) : State :=
  let (go, s) := s.linkCheck i f seqRead
  if ¬ go then s
  else if isBc f then s.broadcastIn i f
  else if s.consumes f then s.consume i f
  else if s.isOwn f ∧ f.wrap = 0 then s.countDiscard i
  else s.onward i (mate i) f

/-- A frame that a command of its own takes: a SWEEP, a SYNC or PDELAY frame, or an AUTH frame of the link peer. One of another version is
forwarded as any frame (R141), but for the slices of a SWEEP. -/
def ownCommand (f : Frame) : Bool :=
  f.typ = fSweep ∨ (f.ver = 1 ∧ ((f.typ = fTime ∧ f.op ∈ [1, 2, 3]) ∨ (f.typ = fMgmt ∧ f.op = 4)))

/-- FRAME_FORWARD (R133): a non-sweep frame arrives on port `i` in UP, and its tag is compared (R149). -/
def execFrameForward (i : Fin 4) (f : Frame) (seqRead : Bool) (s : State) : Host.Outcome State Fault Refusal :=
  let f := s.readTag i f
  if s.isUp i ∧ ¬ s.crosses i f ∧ ¬ ownCommand f then .next (s.frameIn i f seqRead).settle else .next s

/-- A junction sends NO_ROUTE back for a REQ and counts it in MISS, or a frame of any type in LOOP; other frames are discarded (R25, R29). The
answer to a request of its own completes here. -/
def State.noRouteBack (s : State) (f : Frame) (loop : Bool) : State :=
  let s := if loop then s.inc R.RING_NOROUTE_CNT_LOOP else if f.typ = fReq then s.inc R.RING_NOROUTE_CNT_MISS else s
  if f.typ ≠ fReq then s
  else if s.isMine f.src then s.finish f.tag f.gen { status := stNoRoute }
  else s.sendTo bMgmt f.src (rspFrame s (.ofFrame f) { status := stNoRoute })

/-- Route a frame to another ring (R29, R27 step 5). One that is not valid goes on poisoned (R148), and nothing answers it. -/
def State.crossFrame (s : State) (i : Nat) (f : Frame) : State :=
  let valid := f.mark = .valid
  if f.xcnt = 15 then (if valid then s.noRouteBack f true else s)
  else
    match s.byTable (f.dst / 256) (f.dst % 256) with
    | .to n _ d => s.submit i (lane n d) { f.leaves with xcnt := f.xcnt + 1 }
    | _ => if valid then s.noRouteBack f false else s

/-- JUNCTION_ROUTE (R29): a frame for another ring arrives on a junction's port `i`. -/
def execJunctionRoute (i : Fin 4) (f : Frame) (seqRead : Bool) (s : State) : Host.Outcome State Fault Refusal :=
  let f := s.readTag i f
  if s.isUp i ∧ s.crosses i f ∧ ¬ ownCommand f then
    let (go, s) := s.linkCheck i f seqRead
    if ¬ go then .next s
    else if f.hops = 1023 ∨ (s.isOwn f ∧ f.wrap = 0) then .next (s.countDiscard i)
    else .next (s.crossFrame i f).settle
  else .next s

/-! ### Acknowledgement and replay (R151, R152) -/

/-- Frames up to and including LSEQ `q` are acknowledged; an ACK that names no frame of the FIFO releases nothing. -/
def State.ackIn (s : State) (i q : Nat) : State :=
  let p := s.port i
  if p.fifo.any fun f => f.lseq = q then
    let rest := (p.fifo.dropWhile fun f => f.lseq ≠ q).drop 1
    let gone := p.fifo.take (p.fifo.length - rest.length)
    (s.setPort i { p with fifo := rest, failed := 0, rewind := p.rewind.filter fun f => ¬ gone.any fun g => g.lseq = f.lseq }).startNext i
  else s

/-- ACK_RECEIVE (R137, R152): two consecutive blocks that form an ACK set. -/
def execAckReceive (i : Fin 5) (q : SetPair) (s : State) : Host.Outcome State Fault Refusal :=
  match setOf q with
  | some (1, q) => if s.isUp i then .next (s.ackIn i (q % 4096)).settle else .next s
  | _ => .next s

/-- Send again every frame from LSEQ `q` onward before any new frame. -/
def State.rewindTo (s : State) (i q : Nat) : State :=
  let p := s.port i
  (s.setPort i { p with rewind := p.fifo.dropWhile (fun f => f.lseq ≠ q), replay := satAdd 16 p.replay 1 }).startNext i

/-- The marked frame is NAKed or its timer expires: `failed` counts the rewinds of this mark, and after the third of them has failed too
the link goes DOWN with cause REPLAY_FAIL. -/
def State.rewindMark (s : State) (i : Nat) : State :=
  match (s.port i).fifo with
  | [] => s
  | f :: _ =>
    if (s.port i).failed = 3 then s.linkDown i 6
    else (s.stepPort i fun p => { p with failed := p.failed + 1 }).rewindTo i f.lseq

/-- A NAK names LSEQ `q`: one that the FIFO does not hold causes no rewind. -/
def State.nakIn (s : State) (i q : Nat) : State :=
  let p := s.port i
  if ¬ p.fifo.any (fun f => f.lseq = q) then s
  else if p.fifo.head?.any (fun f => f.lseq = q) then s.rewindMark i
  else s.rewindTo i q

/-- NAK_RECEIVE (R137, R152): two consecutive blocks that form a NAK set. -/
def execNakReceive (i : Fin 5) (q : SetPair) (s : State) : Host.Outcome State Fault Refusal :=
  match setOf q with
  | some (2, q) => if s.isUp i then .next (s.nakIn i (q % 4096)).settle else .next s
  | _ => .next s

/-- ACK_TIMER (R151): ACK naming NEXT − 1. -/
def execAckTimer (i : Fin 5) (s : State) : Host.Outcome State Fault Refusal :=
  if s.isUp i then .next (s.sendSet i 1 (((s.port i).next + 4095) % 4096)) else .next s

/-- REPLAY_TIMER_EXPIRY (R152): no ACK has covered the marked frame in time. -/
def execReplayTimerExpiry (i : Fin 5) (s : State) : Host.Outcome State Fault Refusal :=
  if s.isUp i then .next (s.rewindMark i).settle else .next s

/-! ### Link loss and bring-up (R153 to R156, R164) -/

/-- SILENT_TIMEOUT (R155): no valid ACK pair for 8 µs. -/
def execSilentTimeout (i : Fin 5) (s : State) : Host.Outcome State Fault Refusal :=
  if s.isUp i then .next (s.linkDown i 5).settle else .next s

/-- SIGNAL_LOSS (R155): signal or block lock lost for 1 µs. -/
def execSignalLoss (i : Fin 5) (s : State) : Host.Outcome State Fault Refusal :=
  if s.isUp i then .next (s.linkDown i 2).settle else .next s

/-- LINK_RESTART_TIMER (R156): 1 ms after DOWN, bring-up starts again. -/
def execLinkRestartTimer (i : Fin 5) (s : State) : Host.Outcome State Fault Refusal :=
  if (s.port i).waitRetry then .next s else .next (s.startPort i)

/-- LINK_RETRY_TIMER (R153): 100 ms after a failed step, the port starts again. -/
def execLinkRetryTimer (i : Fin 5) (s : State) : Host.Outcome State Fault Refusal :=
  if (s.port i).waitRetry then .next (s.startPort i) else .next s

/-- BRINGUP_TIMEOUT (R153): the state has lasted longer than Table 05-14 allows. -/
def execBringupTimeout (i : Fin 5) (s : State) : Host.Outcome State Fault Refusal :=
  match (s.port i).st with
  | .signal => .next (s.bringupFail i 2)
  | .train => .next (s.bringupFail i 3)
  | .auth => .next (s.bringupFail i 4)
  | _ => .next s

/-- SIGNAL_LOCKED (R153): clock and data recovery has locked. -/
def execSignalLocked (i : Fin 5) (s : State) : Host.Outcome State Fault Refusal :=
  if (s.port i).st = .signal then .next (s.stepPort i fun p => { p with st := .train }) else .next s

/-- Both ends are ready: the hub measures RTT by PROBE (R153, R208). -/
def State.probeNow (s : State) (i : Nat) : State :=
  let p := s.port i
  if p.st = .train ∧ p.readySent ∧ p.readySeen then
    (s.setPort i { p with probeAt := some s.ns }).emit (.probe i false)
  else s

/-- TRAIN_BLOCK_LOCK_HELD (R153): block lock has held for 1 ms; the port sends READY. -/
def execTrainBlockLockHeld (i : Fin 5) (s : State) : Host.Outcome State Fault Refusal :=
  if (s.port i).st = .train ∧ ¬ (s.port i).readySent then
    .next (((s.stepPort i fun p => { p with readySent := true }).sendSet i 3 0).probeNow i)
  else .next s

/-- READY_SET_RECEIVE (R137, R153): two consecutive blocks that form a READY set. -/
def execReadySetReceive (x : Fin 5 × SetPair) (s : State) : Host.Outcome State Fault Refusal :=
  let i := x.1
  if (setOf x.2).any (fun y => y.1 = 3) ∧ (s.port i).st = .train ∧ ¬ (s.port i).readySeen then
    .next ((s.stepPort i fun p => { p with readySeen := true }).probeNow i)
  else .next s

/-- UPLINK_LOCK_LOSS (R164): block lock lost for 1 ms. -/
def execUplinkLockLoss (i : Fin 2) (s : State) : Host.Outcome State Fault Refusal :=
  let j := 2 + i.val
  if (s.port j).st = .uplinkUp then
    .next ((s.stepPort j fun p => { p with st := .down, cause := 2, downCnt := satAdd 16 p.downCnt 1 }).raise (portBit j) .U)
  else .next s

/-- UPLINK_LINK_UP (R164): block lock gained, outside DOZE (R493). -/
def execUplinkLinkUp (i : Fin 2) (s : State) : Host.Outcome State Fault Refusal :=
  let j := 2 + i.val
  if s.uplink j ∧ s.portEn j ∧ (s.port j).st = .down ∧ ¬ s.pwr.asleep then .next (s.stepPort j fun p => { p with st := .uplinkUp }) else .next s

end Sys2Proof.Machine
end

