-- ==== Sys2Proof/Machine/Switch.lean ====
section
/-!
DEFINITION. The switch core (chapter 13): matching inputs to outputs and moving cells (R363), admitting held frames, retiring a bank
and the VOQ fallback (R367, R368), and the leaked-buffer audit (R369). The cell time itself and what the blocks take are in `Target.lean`.
-/

namespace Sys2Proof.Machine

/-! ### The scheduler (R363) -/

/-- A request of input `i` for output `o` in class `c`. -/
structure Rq where
  i : Nat
  o : Nat
  c : Nat
deriving DecidableEq, Repr

/-- Cells of the VOQ reserve that output `o`'s transmit FIFO holds. -/
def State.fifoCells (s : State) (o : Nat) : Nat :=
  (s.sw.queue.filter fun x => x.out = o ∧ x.voq ∧ ¬ x.started).foldl (fun n x => n + x.moved) 0

/-- Output `o` can take a cell of the frame: always in the shared buffer; from the reserve only once its shared-buffer queues are empty
and its FIFO of 8 cells has room (R367, R368). -/
def State.canTake (s : State) (x : QFrame) : Bool :=
  ¬ x.voq ∨ ((¬ s.sw.queue.any fun y => y.out = x.out ∧ ¬ y.voq) ∧ (x.started ∨ s.fifoCells x.out < 8))

/-- The requests of unmatched inputs for unmatched outputs, each for its highest class. -/
def State.requests (s : State) (done : List Rq) : List Rq :=
  let all := ((s.sw.queue.filter fun x => x.moved < x.cells ∧ s.canTake x).map fun x => (⟨x.inp, x.out, x.cls⟩ : Rq)).dedup
  all.filter fun r => ¬ (all.any fun q => q.i = r.i ∧ q.o = r.o ∧ r.c < q.c) ∧ ¬ done.any fun d => d.i = r.i ∨ d.o = r.o

/-- The request of the highest class, ties broken by the first at or after pointer `p` in rotating order of `key`. -/
def choose (rs : List Rq) (key : Rq → Nat) (p : Nat) : Option Rq :=
  rs.foldl (fun b r => match b with
    | none => some r
    | some q =>
      if q.c < r.c ∨ (q.c = r.c ∧ (key r + 32 - p) % 32 < (key q + 32 - p) % 32) then some r else some q) none

def State.gptr (s : State) (o : Nat) : Nat := NMap.get (fun _ => 0) s.sw.gptr o
def State.aptr (s : State) (i : Nat) : Nat := NMap.get (fun _ => 0) s.sw.aptr i

/-- One iteration of request, grant and accept. -/
def State.iteration (s : State) (done : List Rq) : List Rq :=
  let rs := s.requests done
  let grants := (List.range 32).filterMap fun o => choose (rs.filter fun r => r.o = o) (·.i) (s.gptr o)
  (List.range 32).filterMap fun i => choose (grants.filter fun r => r.i = i) (·.o) (s.aptr i)

/-- Move the oldest admitted cell of the request: of the frame whose cells are moving, else of the oldest that waits. A frame whose first cell moves
joins the tail of its output queue. -/
def State.moveCell (s : State) (r : Rq) : State :=
  let mine := fun (x : QFrame) => x.inp = r.i ∧ x.out = r.o ∧ x.cls = r.c ∧ x.moved < x.cells
  match (s.sw.queue.find? fun x => mine x ∧ x.moved ≠ 0).or (s.sw.queue.find? fun x => mine x) with
  | none => s
  | some x =>
    let y := { x with moved := x.moved + 1 }
    let q := if x.moved = 0 then s.sw.queue.erase x ++ [y] else swapFirst x y s.sw.queue
    { s with sw := { s.sw with queue := q } }

/-! ### Admission of held frames (R361) -/

/-- Room appears for the oldest frame held at input `i` for output `o` in class `c`. -/
def State.admitHeld (s : State) (i o c : Nat) : State :=
  match s.sw.held.find? fun x => x.inp = i ∧ x.out = o ∧ x.cls = c with
  | none => s
  | some x =>
    if s.admits i o c x.cells then ({ s with sw := { s.sw with held := s.sw.held.erase x } }).admitFrame i o c x.frame else s

/-! ### Buffer faults (R367, R368) -/

/-- Discard a queued frame: REFUSED counts it; one that a lane has started ends with the poison marker and leaves the replay FIFO, and the
next replayed frame takes its LSEQ (R148, R150). -/
def State.dropQueued (s : State) (x : QFrame) (count : Bool) : State :=
  let s := { s with sw := { s.sw with queue := s.sw.queue.erase x } }
  let s := if count then s.inc (R.SW_OQ_CNT_REFUSED (8 * x.out + x.cls)) else s
  if x.started ∧ x.out ≤ 4 then
    let p := s.port x.out
    let kept := x.frame.replayed ∧ x.frame.mark = .valid ∧ p.fifo ≠ []
    (s.setPort x.out { p with
      fifo := if kept then p.fifo.dropLast else p.fifo, lseq := if kept then (p.lseq + 4095) % 4096 else p.lseq }).emit (.cut x.out)
  else s

/-- The frames of the shared buffer at the positions named. -/
def State.queuedAt (s : State) (ps : List Nat) (voq : Bool) : List QFrame :=
  (ps.dedup.filterMap fun k => s.sw.queue[k]?).filter fun x => x.voq = voq

/-- Healthy cells of the sweep reserve of one ring output (R362, R367). -/
def State.sweepRoom (s : State) : Nat :=
  1088 - 68 * ((List.range 16).filter fun b => bit (s.rd R.SW_STAT_RETIRED) b).length

/-- The first of the waiting SWEEP copies, as many as `room` cells hold; a copy that needs more than remain is discarded. -/
def fitSweeps (room : Nat) : List Frame → List Frame
  | [] => []
  | f :: r => if f.cells ≤ room then f :: fitSweeps (room - f.cells) r else fitSweeps room r

/-- The waiting SWEEP copies after a retirement. -/
def State.trimSweeps (s : State) : State :=
  [0, 1, 2, 3].foldl (fun s i => s.stepPort i fun p => { p with sweep := fitSweeps s.sweepRoom p.sweep }) s

/-- The SWEEP copies that wait at the ring outputs, with their output, in order. -/
def State.waitingSweeps (s : State) : List (Nat × Frame) := [0, 1, 2, 3].flatMap fun i => (s.port i).sweep.map fun f => (i, f)

/-- Discard a SWEEP copy that waits at output `i`, and count it in REFUSED of its class there. -/
def State.dropSweep (s : State) (x : Nat × Frame) : State :=
  (s.stepPort x.1 fun p => { p with sweep := p.sweep.erase x.2 }).inc (R.SW_OQ_CNT_REFUSED (8 * x.1 + 7))

/-- BANK_RETIRE (R367): bank `b` of the buffer has an uncorrectable error; `hit` are the frames that had a cell in it, by their places in the queue
of the switch core, which count on through the SWEEP copies that wait at the ring outputs. -/
def State.retireBank (s : State) (b : Nat) (hit : List Nat) : State :=
  let n := s.sw.queue.length
  let copies := ((hit.dedup.filter fun k => n ≤ k).filterMap fun k => s.waitingSweeps[k - n]?)
  let s := (s.queuedAt hit false).foldl (fun s x => s.dropQueued x true) s
  let s := copies.foldl State.dropSweep s
  let s := s.wr ⟨0x80000, 16 + b, 1⟩ 1
  ((if s.rd R.SW_STAT_MODE = mShared then s.wr R.SW_STAT_MODE mDrain else s).raise 15 .U).trimSweeps

def execBankRetire (b : Fin 16) (hit : List Nat) (s : State) : Host.Outcome State Fault Refusal := .next (s.retireBank b hit)

/-- DRAIN_COMPLETE (R367): no shared-buffer queue holds a cell any more. -/
def execDrainComplete (s : State) : Host.Outcome State Fault Refusal :=
  if s.rd R.SW_STAT_MODE = mDrain ∧ ¬ s.sw.queue.any (fun x => ¬ x.voq) then .next (s.wr R.SW_STAT_MODE mVoq) else .next s

/-- SCHEDULER_ERROR (R368): an uncorrectable error in the reserve under queued frame `at_`, or a parity error in the scheduler (none). -/
def execSchedulerError (at_ : Option Nat) (s : State) : Host.Outcome State Fault Refusal :=
  match at_ with
  | some k => .next (((s.queuedAt [k] true).foldl (fun s x => s.dropQueued x false) s).raise 16 .U)
  | none => .next (({ s with sw := { s.sw with gptr := [], aptr := [] } }).raise 16 .U)

/-! ### The leaked-buffer audit (R369) -/

/-- The list of the buffer that holds a queued frame, by number: queue 8 × output + class of the shared buffer, or from 256 on the list of an input
for an output and class in the VOQ reserve. -/
def QFrame.listOf (x : QFrame) : Nat := if x.voq then 256 + 256 * x.inp + 8 * x.out + x.cls else 8 * x.out + x.cls

/-- BUFFER_AUDIT (R369): the audit finds the cells `lost` in no place, each given with the count of its allocations, of which those that the audit
before found as well are reclaimed; each entry of `cross` is a cell found in two lists, given as the lists involved (twice the same for one that is
on the free list too). -/
def State.audit (s : State) (lost cross : List (Nat × Nat)) : State :=
  let back := lost.dedup.filter fun x => x ∈ s.sw.orphans
  let s := { s with sw := { s.sw with orphans := lost.dedup.filter fun x => x ∉ s.sw.orphans } }
  let s := if back = [] then s else (s.inc R.SW_AUDIT_RECLAIMED back.length).raise 17 .C
  if cross = [] then s
  else
    let ls := cross.flatMap fun (a, b) => [a, b]
    let s := (s.sw.queue.filter fun x => x.listOf ∈ ls).foldl (fun s x => s.dropQueued x false) s
    (s.inc R.SW_AUDIT_CROSSLINK cross.length).raise 17 .U

def execBufferAudit (lost cross : List (Nat × Nat)) (s : State) : Host.Outcome State Fault Refusal :=
  .next (s.audit lost cross)

end Sys2Proof.Machine
end

