-- ==== Sys2Proof/Machine/Join.lean ====
section
/-!
DEFINITION. Joining a ring and the topology record (chapter 01): announces and what they change, conflicts of node IDs, the steps of a
join, station assignment, and link-state frames.
-/

namespace Sys2Proof.Machine

/-! ### The hub as it announces itself (R32, R33, R411) -/

def State.joinOf (s : State) (n : Nat) : Join := if n = 0 then s.ring.join0 else s.ring.join1
def State.setJoin (s : State) (n : Nat) (j : Join) : State :=
  { s with ring := if n = 0 then { s.ring with join0 := j } else { s.ring with join1 := j } }

/-- CONFLICT of ring `n`. -/
def conflictFld (n : Nat) : Fld := if n = 0 then R.RING_NODE_STATE_CONFLICT else R.RING_NODE_STATE_CONFLICT1

/-- Put ring ID and station in effect on ring `n`. -/
def State.takeNode (s : State) (n ring st : Nat) : State :=
  if n = 0 then (s.wr R.RING_NODE_STATE_RING ring).wr R.RING_NODE_STATE_STATION st
  else { s with ring := { s.ring with ring1 := ring, station1 := st } }

/-- The hub is cycle master of ring `n`. -/
def State.isMaster (s : State) (n : Nat) : Bool := s.rd (R.RING_CYC_STAT_ROLE n) = 1

/-- The announce payload (Table 05-11). -/
def State.announcePayload (s : State) (n : Nat) (unassigned : Bool) : List Byte :=
  let node := nodeId (s.ringId n) (if unassigned then 0 else s.station n)
  leBytes 4 node ++ leBytes 4 (if s.junction then (if n = 0 then s.node1 else s.node0) else 0)
    ++ leBytes 1 (bnat unassigned * 8 + bnat (s.isMaster n) * 4 + bnat s.junction * 2 + bnat (s.flag R.TWIN_CFG_EN))
    ++ leBytes 7 0 ++ leBytes 16 s.serial

/-- The record's own entry shows the hub and its role (R23, R24). -/
def State.showSelf (s : State) (n : Nat) : State :=
  let old := s.ring.topo
  (s.setTopo n (s.station n)
    { hopsA := 0, hopsB := 0, heardAt := s.ns, master := s.isMaster n, junction := s.junction, twin := s.flag R.TWIN_CFG_EN, present := true
      other := if s.junction then (if n = 0 then s.node1 else s.node0) else 0 }).afterTopo old

/-- Send an announce on both directions of ring `n`; the own entry shows the hub from the first announce that carries its station (R23). -/
def State.announce (s : State) (n : Nat) : State :=
  let un := s.station n = 0
  let s := if un then s else s.showSelf n
  let f : Frame := { typ := fMgmt, tc := 6, dst := nodeId (s.ringOut n) 255, src := s.node0, op := 1, payload := s.announcePayload n un }
  [0, 1].foldl (fun s d => if s.isUp (lane n d) then s.submit bMgmt (lane n d) f else s) s

/-! ### The steps of a join (R31) -/

/-- The ring belongs to the hub: ring 0, or ring 1 of a junction. -/
def State.hasRing (s : State) (n : Nat) : Bool := n = 0 ∨ s.junction

/-- Steps 3 and 4: with a station the hub announces itself and waits 2 ms for a conflict, without one it announces itself unassigned. -/
def State.putStation (s : State) (n st : Nat) : State :=
  let s := s.takeNode n (s.cfgRing n) st
  (s.setJoin n ⟨if st = 0 then 3 else 5, s.ns⟩).announce n

/-- The hub gives up its station on ring `n` because of an announce that came in on port `i` (R32), and waits at step 3. The record's entry of the
station is the rival's, `t`, from here on (R33). -/
def State.withdraw (s : State) (i : Nat) (t : Topo) : State :=
  let n := i / 2
  let old := s.ring.topo
  let s := (s.setTopo n (s.station n) t).afterTopo old
  let s := ((s.wr (conflictFld n) 1).wr (joinedFld n) 0).raise (portBit i) .U
  s.putStation n 0

/-- Every hub that announced an entry is this hub's configured twin and names itself a twin (R32). -/
def State.onlyTwin (s : State) (t : Topo) : Bool :=
  s.flag R.TWIN_CFG_EN ∧ t.twin ∧ (t.memA ++ t.memB).all fun x => x.1 = s.peerSerial

/-- The hub takes a station. The announce does not say whether its sender has joined (Table 05-11), so R32 leaves open how a hub learns that. DESIGN
CHOICE (log 75): a station of that number other than the configured twin that has been PRESENT for 2 ms has joined already, and keeps it; one whose
first announce came within the last 2 ms has not, and the lower serial number decides. -/
def State.takeStation (s : State) (n st : Nat) : State :=
  let t := s.topo n st
  let rival := st ≠ 0 ∧ t.present ∧ ¬ s.onlyTwin t
  let keeps := s.ns < t.since + 2000000 ∧ (t.memA ++ t.memB).all fun x => s.serial < x.1
  let s := s.putStation n st
  if rival ∧ ¬ keeps then s.withdraw (if t.hopsA ≠ 0xFF then 2 * n else 2 * n + 1) t else s

/-- Step 1: a port of the ring has come up (R31, R160). At step 2 the hub has no announce to send yet. A candidate that is master does not wait
for a TIME frame (R168). While the tamper latch is set the hub stops here (R433). -/
def State.joinLink (s : State) (n : Nat) : State :=
  if ¬ s.ready ∨ ¬ s.hasRing n ∨ s.sec.vault.latch then s
  else if (s.joinOf n).step = 1 then
    let s := s.setJoin n ⟨2, 0⟩
    if s.isMaster n then s.takeStation n (s.cfgStation n) else s
  else if (s.joinOf n).step = 2 then s
  else s.announce n

/-- The hub's role flags have changed (R23, R33): the own entries show it, and a joined hub announces it. -/
def State.roleChanged (s : State) : State :=
  [0, 1].foldl (fun s n =>
    if ¬ s.hasRing n ∨ s.station n = 0 ∨ ¬ (s.topo n (s.station n)).present then s
    else if s.joined n then s.announce n else s.showSelf n) s

/-- Step 2: a TIME frame of the cycle master arrives at port `i` with a ring ID. -/
def State.joinTime (s : State) (i ring : Nat) : State :=
  let n := i / 2
  if ¬ s.ready ∨ ¬ s.hasRing n ∨ (s.joinOf n).step ≠ 2 then s
  else if ring ≠ s.cfgRing n then
    if s.flag (conflictFld n) then s else (s.wr (conflictFld n) 1).raise (portBit i) .U
  else s.takeStation n (s.cfgStation n)

/-- JOIN_TIMER_EXPIRY (R31 step 5): 2 ms after its announce, with no conflict, the hub has joined. -/
def execJoinTimerExpiry (n : Fin 2) (s : State) : Host.Outcome State Fault Refusal :=
  if (s.joinOf n).step = 5 ∧ ¬ s.joined n then
    let s := (s.wr (joinedFld n) 1).wr (conflictFld n) 0
    .next (s.setCyc n { s.cycOf n with winE := {}, winW := {} })
  else .next s

/-- STATION_ASSIGNMENT (R23): a broadcast WRITE of 20 bytes to offset 0x3004 of node management space arrives at port `i`. A hub without a
station whose serial number it names takes the station; every other hub ignores it. -/
def State.assignStation (s : State) (i : Nat) (f : Frame) : State :=
  let n := i / 2
  let r := Req.ofFrame f
  let st := leAt r.data 0 1
  let fits := f.mark = .valid ∧ f.ver = 1 ∧ f.typ = fReq ∧ isBc f ∧ r.op = opWrite ∧ r.space = 0x3FFF ∧ r.off = 0x3004 ∧ r.data.length = 20
  if fits ∧ s.station n = 0 ∧ (s.joinOf n).step = 3 ∧ leAt r.data 4 16 = s.serial ∧ st ≠ 0 ∧ st ≠ 255 ∧ s.mayManage r then
    s.takeStation n st
  else s

def execStationAssignment (i : Fin 4) (f : Frame) (s : State) : Host.Outcome State Fault Refusal := .next (s.assignStation i f)

/-! ### Announces (R32 to R35) -/

/-- The lower of the members' hop counts; of each member its latest announce in the direction counts (R33). DESIGN CHOICE (log 75): HOPS is a field of
10 bits and a hop count one of 8, and HOPS + 1 above 254 is held as 0xFF, unreachable. -/
def memberHops (m : List (Nat × Nat)) : Nat := m.foldl (fun h x => min h x.2) 0xFF

/-- An announce gives the hop counts of station `st` in one direction: one that came in on W travelled ring A, so its way back is ring B. -/
def Topo.heard (t : Topo) (west : Bool) (hops serial now flags other : Nat) : Topo :=
  let keep := fun (m : List (Nat × Nat)) => (serial, hops) :: (if bit flags 0 then m.filter (fun x => x.1 ≠ serial) else [])
  let t := if west then { t with memB := keep t.memB, hopsB := memberHops (keep t.memB) }
    else { t with memA := keep t.memA, hopsA := memberHops (keep t.memA) }
  { t with since := if t.present then t.since else now, heardAt := now, master := bit flags 2, junction := bit flags 1, twin := bit flags 0
           present := true, other := other }

/-- An announce at port `i` (R32, R33), which the record takes from the first one after power-on, before the join as well. A hub that names this hub's
station is in conflict with it unless it is the configured twin: a joined hub keeps the station, and of two that have not joined the one of the lower
serial number. DESIGN CHOICE (log 75): the sender of such an announce has not joined, since one that had would have stood in the record when this hub
took the station. -/
def State.announceIn (s : State) (i : Nat) (f : Frame) : State :=
  let n := i / 2
  let node := leAt f.payload 0 4 % 2 ^ 18
  let st := node % 256
  let flags := leAt f.payload 8 1
  let serial := leAt f.payload 16 16
  if bit flags 3 ∨ st = 0 ∨ st = 255 ∨ serial = s.serial then s
  else
    let mine := s.station n ≠ 0 ∧ node = nodeId (s.ringId n) (s.station n)
    let twin := s.flag R.TWIN_CFG_EN ∧ bit flags 0 ∧ serial = s.peerSerial
    let heard := fun (t : Topo) => t.heard (i % 2 = 1) (f.hops + 1) serial s.ns flags (leAt f.payload 4 4 % 2 ^ 18)
    let s := if twin ∧ f.hops = 0 then { s with twin := { s.twin with near := i :: s.twin.near.filter (· ≠ i) } } else s
    if mine ∧ ¬ twin then (if s.joined n ∨ s.serial < serial then s else s.withdraw i (heard {}))
    else if mine then s
    else
      let old := s.ring.topo
      (s.setTopo n st (heard (s.topo n st))).afterTopo old

/-- ANNOUNCE_RECEIVE (R33): a valid announce reaches port `i`. -/
def execAnnounceReceive (i : Fin 4) (f : Frame) (s : State) : Host.Outcome State Fault Refusal :=
  if s.isUp i ∧ f.mark = .valid ∧ f.ver = 1 ∧ f.typ = fMgmt ∧ f.op = 1 then .next (s.announceIn i f).settle else .next s

/-- ANNOUNCE_TIMER (R33): a second has passed since the joined hub's last announce. -/
def execAnnounceTimer (n : Fin 2) (s : State) : Host.Outcome State Fault Refusal :=
  if s.hasRing n ∧ s.joined n then .next (s.announce n) else .next s

/-- STATION_AGE_OUT (R33): 3,000 ms since the last announce from a station. -/
def execStationAgeOut (n : Fin 2) (st : Fin 256) (s : State) : Host.Outcome State Fault Refusal :=
  if (s.topo n st).present ∧ st.val ≠ s.station n then
    let old := s.ring.topo
    .next ((s.setTopo n st { s.topo n st with present := false }).afterTopo old).settle
  else .next s

/-! ### Link state (R159) -/

/-- A LINK_STATE from station X: every station farther than X in the named direction is unreachable there. -/
def State.linkStateIn (s : State) (i : Nat) (f : Frame) : State :=
  let n := i / 2
  let x := s.stationOf n f.src
  let d := leAt f.payload 0 1 % 2
  let h := s.hops n x d
  if x = 0 ∨ h = 0xFF then s
  else s.cutHops n d fun t => h < (if d = 0 then t.hopsA else t.hopsB)

/-- LINK_STATE_RECEIVE (R159). -/
def execLinkStateReceive (i : Fin 4) (f : Frame) (s : State) : Host.Outcome State Fault Refusal :=
  if s.isUp i ∧ f.mark = .valid ∧ f.ver = 1 ∧ f.typ = fMgmt ∧ f.op = 2 then .next (s.linkStateIn i f).settle else .next s

/-! ### Becoming master (R168) -/

/-- TD0 at a change of the root (R202): it goes on without a step. A new root steers it to its own sources, of which none is available before its
next update; a follower takes the ring's paths as its sources. -/
def State.rootChanged (s : State) (on : Bool) : State :=
  let m := s.domain 0
  let p := s.path 0 s.td.primary0
  let q := s.path 0 (1 - s.td.primary0)
  let m := { m with
    pOk := !on && p.avail, sOk := !on && q.avail, ofsP := if on then 0 else p.offset, ofsS := if on then 0 else q.offset, primRun := 0, second := false
    seenP := none, seenS := none }
  ((s.setDomain 0 m).settleDomain 0).chooseRef

/-- The hub becomes cycle master of ring `n` or ceases to be: the own entry and the announces show it (R23, R33), and a follower reads TCIRC and
TSWEEP as 0 (Table 06-11). -/
def State.setMaster (s : State) (n : Nat) (on : Bool) : State :=
  let s := s.wr (R.RING_CYC_STAT_ROLE n) (bnat on)
  let s := if on then s else (s.wr (R.RING_CYC_TCIRC_TIME n) 0).wr (R.RING_CYC_TSWEEP_TIME n) 0
  let s := s.setCyc n { s.cycOf n with winE := {}, winW := {} }
  (if n = 0 then s.rootChanged on else s).roleChanged

/-- The hub is a candidate that is to claim the role (R168): it has heard no master of equal or higher rank for its claim time. -/
def State.claimOpen (s : State) (n : Nat) : Bool :=
  let prio := s.rd (R.RING_CYC_CFG_PRIO n)
  ¬ (s.cycOf n).masters.any fun m => (prio < m.prio ∨ (prio = m.prio ∧ m.serial ≤ s.masterSerial))
    ∧ s.ns < m.heardAt + 32 * s.rd (R.RING_CYC_CFG_BASE n) + (16 - prio) * 1000000

/-- ROLE of RING_CYC_STAT as it reads (Table 06-10): a candidate waits while it accepts no master of equal or higher rank. -/
def State.roleShown (s : State) (n : Nat) : Nat :=
  let prio := s.rd (R.RING_CYC_CFG_PRIO n)
  if s.isMaster n then 1
  else if s.hasRing n ∧ prio ≠ 0 ∧ ¬ s.standby ∧ ¬ (s.accepted n).any (fun m => prio < m.prio ∨ (prio = m.prio ∧ m.serial ≤ s.masterSerial)) then 2
  else 0

/-- MASTER_CLAIM_TIMER (R168): a candidate with a port UP has heard no master of equal or higher rank for its claim time. The standby of a twin
pair claims nothing while its active is present (R399). -/
def execMasterClaimTimer (n : Fin 2) (s : State) : Host.Outcome State Fault Refusal :=
  if s.ready ∧ s.hasRing n ∧ s.rd (R.RING_CYC_CFG_PRIO n) ≠ 0 ∧ ¬ s.isMaster n ∧ (s.isUp (2 * n) ∨ s.isUp (2 * n + 1)) ∧ s.claimOpen n
      ∧ ¬ s.standby then
    let s := s.setMaster n true
    .next (if (s.joinOf n).step = 2 then s.takeStation n (s.cfgStation n) else s)
  else .next s

end Sys2Proof.Machine
end

