-- ==== Sys2Proof/Machine/Time.lean ====
section
/-!
DEFINITION. The time unit's commands (chapter 07): SYNC and PDELAY frames, plant PTP, PPS, the 1 ms sample of DOMAIN sources, host
commands, the snapshot, and scheduled edges.
-/

namespace Sys2Proof.Machine

/-! ### SYNC (R203 to R206, R209) -/

/-- The cycle of ring `n` that ring time is in (R169). -/
def State.cycleNow (s : State) (n : Nat) : Nat := s.ringNs n / s.baseNs n

/-- The sync interval of ring `n` in ns. -/
def State.syncNs (s : State) (n : Nat) : Nat := 125000 * 2 ^ s.rd (R.TD_SYNC_CFG_INTERVAL n)

/-- Cycle `k` carries a SYNC: it is the first that starts at or after a multiple of the sync interval, which lies after the start of the cycle that
ran before it (R203). -/
def State.syncCycle (s : State) (n k : Nat) : Bool :=
  ¬ (s.cycOf n).prevK.any fun j => (k * s.baseNs n) / s.syncNs n = (j * s.baseNs n) / s.syncNs n

/-- SYNC_SEND (R203): the master of ring `n` sends a SYNC of cycle `k` on each port of the ring that is UP, right after the sweep copy. With a port
UP, a port that is not UP has no SYNC to tell of a step before this one (R204). -/
def State.sendSync (s : State) (n k : Nat) : State :=
  let f := fun (d : Nat) => ({ typ := fTime, tc := 7, dst := nodeId (s.ringId n) 255, src := s.node0, op := 1, sub := d, arg := k } : Frame)
  let s := s.setCyc n { s.cycOf n with syncK := some k }
  let s := [0, 1].foldl (fun s d =>
    let i := lane n d
    if s.isUp i then (s.stepPort i fun p => { p with sync := p.sync ++ [f d] }).startNext i else s) s
  if s.isUp (lane n 0) ∨ s.isUp (lane n 1) then { s with td := { s.td with stepped := s.td.stepped.filter fun i => i / 2 ≠ n ∨ s.isUp i } } else s

def execSyncSend (n : Fin 2) (s : State) : Host.Outcome State Fault Refusal :=
  let c := s.cycOf n
  let k := s.cycleNow n
  if s.isMaster n ∧ s.hasRing n ∧ c.sentK = some k ∧ c.syncK ≠ some k ∧ s.syncCycle n k then .next (s.sendSync n k) else .next s

/-- Remember a master that is heard on ring `n`. -/
def State.hearMaster (s : State) (n : Nat) (m : Master) : State :=
  let c := s.cycOf n
  let before := s.accepted n
  let s := s.setCyc n { c with masters := m :: c.masters.filter fun x => x.node ≠ m.node ∨ x.serial ≠ m.serial }
  if (s.accepted n).map (·.serial) = before.map (·.serial) then s
  else s.setCyc n { s.cycOf n with winE := {}, winW := {} }

/-- A master that hears a higher-ranked one becomes a follower (R168). -/
def State.demote (s : State) (n : Nat) (m : Master) : State :=
  let p := s.rd (R.RING_CYC_CFG_PRIO n)
  if s.isMaster n ∧ (p < m.prio ∨ (p = m.prio ∧ m.serial < s.masterSerial)) then s.setMaster n false else s

/-- Choose primary and secondary path anew, while both are available and the primary's HOPS exceeds the secondary's; the first path heard
of a ring with none available is primary if it is the shorter, ring A on a tie (R206). -/
def State.choosePrimary (s : State) (n : Nat) : State :=
  let a := s.path n 0
  let b := s.path n 1
  let d := ringDomain n
  let set := fun (s : State) (p : Nat) => { s with td := if n = 0 then { s.td with primary0 := p } else { s.td with primary1 := p } }
  let now := s.primary n
  let better := if now = 0 then b.hops < a.hops else a.hops < b.hops
  if a.avail ∧ b.avail ∧ better then
    let m := s.domain d
    let s := set s (1 - now)
    let s := s.setDomain d { m with
      pOk := m.sOk, sOk := m.pOk, ofsP := m.ofsS, ofsS := m.ofsP, second := false
      rateP := m.rateS, rateS := m.rateP, seenP := m.seenS, seenS := m.seenP }
    if d < 8 ∧ ¬ m.second then s.inc (R.TD_STAT_SWITCHES d) else s
  else s

/-- A follower takes a SYNC of its accepted master, which came over path `dir` of ring `n` and names the master's TD0 `t` now (R206); in DOZE it
tracks none (R221). -/
def State.followSync (s : State) (n dir hops : Nat) (t : Int) : State :=
  let d := ringDomain n
  let ofs := t - (s.tdNow d : Int)
  if s.pwr.asleep then s else
  let s := (s.setPath n dir ⟨true, hops, ofs⟩).choosePrimary n
  (s.sourceUpdate d (dir ≠ s.primary n) ofs).chooseRef

/-- The published entry of domain `d` in a SYNC payload, as PTIME less ORIGIN. -/
def syncEntry (b : List Byte) (d : Nat) : Option Int :=
  ((List.range (leAt b 0x17 1 % 8)).find? fun m => leAt b (0x30 + 16 * m) 1 % 8 = d).map fun m =>
    (timeDec (leAt b (0x34 + 16 * m) 12) : Int) - timeDec (leAt b 0 12)

/-- The domains whose source is PUBLISHED take their entries, or lose the source for this update (R209). -/
def State.takePublished (s : State) (b : List Byte) : State :=
  [1, 2, 3, 4, 5, 6, 7].foldl (fun s d =>
    [false, true].foldl (fun s second =>
      if s.source d second ≠ 5 then s
      else match syncEntry b d with
        | some x => s.sourceUpdate d second ((s.tdNow 0 : Int) + x - s.tdNow d)
        | none => s.setAvail d second false) s) s

/-- Bits of a time value whose NS field is not below 10^9 (R192). -/
def badTime (v : Nat) : Bool := 1000000000 ≤ bits v 16 32

/-- A valid SYNC at port `i`. The master's TD0 at the receive stamp is carried to now by the domain's own count. -/
def State.syncActs (s : State) (i : Nat) (f : Frame) : State :=
  let n := i / 2
  let b := f.payload
  let m : Master := ⟨leAt b 0x14 2 / 4096, leAt b 0x18 16, f.src, s.ns⟩
  let s := (s.hearMaster n m).demote n m
  let s := s.joinTime i (leAt b 0x14 2 % 1024)
  if s.isMaster n ∨ ¬ (s.accepted n).any (fun x => x.node = m.node ∧ x.serial = m.serial) then s
  else
    let t : Int := (timeDec (leAt b 0 12) : Int) + sext 64 (leAt b 0x0C 8) + s.linkDelay i + (s.tdNow (ringDomain n) - s.tdStamp (ringDomain n) (s.rxStamp i))
    let dir := 1 - i % 2
    let s := s.followSync n dir f.hops t
    if n = 0 ∧ (dir ≠ s.primary 0) = (s.domain 0).second then s.takePublished b else s

/-- A SYNC that goes on carries the delay of the link it came over and its residence time `res`, scaled by the rate of TD0 (R205). -/
def State.corrected (s : State) (i : Nat) (f : Frame) (res : Nat) : Frame :=
  let c := sext 64 (leAt f.payload 0x0C 8) + s.linkDelay i + scaled res (s.domain 0).rate
  { f with payload := overlay f.payload 0x0C (leBytes 8 (toBits 64 c)) }

/-- SYNC_RECEIVE (R205, R206): a SYNC arrives at port `i`; `res` is its residence time in the hub, in 2^-16 ns. -/
def State.syncIn (s : State) (i : Nat) (f : Frame) (res : Nat) : State :=
  let s := (s.countMark i f.mark).noteEpoch i f
  let bad := badTime (leAt f.payload 0 12) ∨ (List.range (leAt f.payload 0x17 1 % 8)).any fun m => badTime (leAt f.payload (0x34 + 16 * m) 12)
  if f.mark = .valid ∧ bad then s.countDiscard i
  else if s.isMine f.src ∧ ¬ s.standby then s
  else
    let g := s.corrected i f res
    let s := if f.mark = .valid then s.syncActs i f else s
    s.onward i (mate i) (if f.mark = .valid then g else f)

def execSyncReceive (i : Fin 4) (f : Frame) (res : Nat) (s : State) : Host.Outcome State Fault Refusal :=
  let f := s.readTag i f
  if s.isUp i ∧ f.ver = 1 ∧ f.typ = fTime ∧ f.op = 1 then .next (s.syncIn i f res).settle else .next s

/-- SYNC_PATH_TIMEOUT (R206): three intervals without a valid SYNC on path `dir` of ring `n`. -/
def execSyncPathTimeout (n dir : Fin 2) (s : State) : Host.Outcome State Fault Refusal :=
  if (s.path n dir).avail then .next (s.losePath n dir) else .next s

/-- HOLDOVER_EXPIRY (R196): HOLD × 100 ms in HOLDOVER. A domain whose primary source is FREE, as that of a new root may be, then runs at the rate of
the local timebase, or at the host's (Table 07-2, R202). -/
def execHoldoverExpiry (d : Fin 9) (s : State) : Host.Outcome State Fault Refusal :=
  if (s.domain d).st = dHoldover then
    let s := s.setDomain d { s.domain d with st := dFree }
    .next ((if ¬ s.followsRing d ∧ s.source d false = 1 then s.freeRun d else s).raise 20 .U)
  else .next s

/-! ### Link delay (R207, R208) -/

/-- A TIME frame to the link peer of port `i`. -/
def State.peerFrame (s : State) (i op arg : Nat) (payload : List Byte) : State :=
  s.submit bTime i { typ := fTime, tc := 7, dst := nodeId (s.ringOut (i / 2 % 2)) 255, src := s.node0, op := op, arg := arg, payload := payload }

/-- PDELAY_TIMER (R207): every 125 ms on a port in UP; t1 is taken as the frame leaves. -/
def execPdelayTimer (i : Fin 5) (s : State) : Host.Outcome State Fault Refusal :=
  if s.isUp i then
    let q := s.td.pdelaySeq
    let td := { s.td with pdelaySeq := (q + 1) % 65536, pdelay := NMap.set (fun _ => (0, 0)) s.td.pdelay i (q + 1, s.now) }
    .next (({ s with td := td }).peerFrame i 2 q [])
  else .next s

/-- PDELAY_REQ_RECEIVE (R207): the answer carries T2 on the local timebase, and T3 once it leaves. -/
def execPdelayReqReceive (i : Fin 5) (f : Frame) (s : State) : Host.Outcome State Fault Refusal :=
  let f := s.readTag i f
  if s.isUp i ∧ f.ver = 1 ∧ f.typ = fTime ∧ f.op = 2 then
    let s := (s.countMark i f.mark).noteEpoch i f
    if f.mark = .valid then .next (s.peerFrame i 3 f.arg (leBytes 12 (timeEnc (s.rxStamp i)) ++ leBytes 12 0)) else .next s
  else .next s

/-- The link delay d of a response (R207): outside 20 ns of RTT / 2 it is discarded, else the average takes it with weight 1/16; the first
one since UP begins the average. -/
def State.pdelayResp (s : State) (i : Nat) (f : Frame) : State :=
  let (q, t1) := NMap.get (fun _ => (0, 0)) s.td.pdelay i
  if q = 0 ∨ f.arg ≠ q - 1 then s
  else
    let s := { s with td := { s.td with pdelay := NMap.set (fun _ => (0, 0)) s.td.pdelay i (0, 0) } }
    let d : Int := (((s.rxStamp i : Int) - t1) - ((timeDec (leAt f.payload 12 12) : Int) - timeDec (leAt f.payload 0 12))) / 2
    if 20 * 65536 < (d - ((s.port i).rtt * 32768 : Nat)).natAbs then s
    else
      let avg := if i ∈ s.td.pdelayHave then ((s.rd (R.TD_LINK_DLY_DELAY i) : Int) * 15 + d) / 16 else d
      let s := s.wr (R.TD_LINK_DLY_DELAY i) avg.toNat
      { s with td := { s.td with pdelayHave := if i ∈ s.td.pdelayHave then s.td.pdelayHave else i :: s.td.pdelayHave } }

/-- PDELAY_RESP_RECEIVE (R207). -/
def execPdelayRespReceive (i : Fin 5) (f : Frame) (s : State) : Host.Outcome State Fault Refusal :=
  let f := s.readTag i f
  if s.isUp i ∧ f.ver = 1 ∧ f.typ = fTime ∧ f.op = 3 then
    let s := (s.countMark i f.mark).noteEpoch i f
    if f.mark = .valid ∧ ¬ badTime (leAt f.payload 0 12) ∧ ¬ badTime (leAt f.payload 12 12) then .next (s.pdelayResp i f)
    else if f.mark = .valid then .next (s.countDiscard i) else .next s
  else .next s

/-- PROBE_RECEIVE (R208): every PROBE is answered with an ECHO. -/
def execProbeReceive (i : Fin 5) (s : State) : Host.Outcome State Fault Refusal :=
  if (s.port i).st = .train then .next (s.emit (.probe i true)) else .next s

/-- ECHO_RECEIVE (R208): RTT from the stamps of the PROBE and the ECHO, `t` units of 2^-16 ns apart, less 17 blocks of 2.56 ns; with it the
port leaves TRAIN for AUTH, where LSEQ and NEXT start at 0 (R153). -/
def execEchoReceive (i : Fin 5) (t : Nat) (s : State) : Host.Outcome State Fault Refusal :=
  let p := s.port i
  if p.st = .train ∧ p.probeAt.isSome then
    let rtt := (t * 100 - 17 * 256 * 65536 + 50 * 65536) / (100 * 65536)
    .next (s.setPort i { p with st := .auth, rtt := min rtt 65535, probeAt := none, lseq := 0, next := 0 })
  else .next s

/-- PROBE_RETRY (R208): no ECHO within 100 µs. -/
def execProbeRetry (i : Fin 5) (s : State) : Host.Outcome State Fault Refusal :=
  if (s.port i).probeAt.isSome then .next (s.probeNow i) else .next s

/-! ### Plant time (R212) -/

def State.ptpPort (s : State) (j : Nat) : PtpPort := NMap.get (fun _ => {}) s.td.ptp j
def State.setPtpPort (s : State) (j : Nat) (x : PtpPort) : State :=
  { s with td := { s.td with ptp := NMap.set (fun _ => {}) s.td.ptp j x } }

/-- The C-tag of a frame of class `tc` that uplink `j` sends: its traffic class as PCP, with VID, or none while VID is 0 (R162). The hub's own
PTP messages go in class 7, as its TIME frames do (log entry 48). -/
def State.ethTag (s : State) (j tc : Nat) : Option (Nat × Nat) :=
  let v := s.rd (R.RING_PORT_CFG_VID (2 + j))
  if v = 0 then none else some (tc, v)

/-- A PTP event message leaves uplink `j` and is stamped (R163). -/
def State.ptpSent (s : State) (j : Nat) : State := s.setPtpPort j { s.ptpPort j with txStamp := s.txStamp (2 + j) }

/-- PTP runs on uplink `j` in a role. -/
def State.ptpOn (s : State) (j : Nat) (role : Bool) : Bool :=
  (s.port (2 + j)).st = .uplinkUp ∧ s.flag (R.TD_PTP_EN j) ∧ s.flag (R.TD_PTP_ROLE j) = role

/-- The master that port `j` has selected, until its announce receipt timeout. -/
def State.ptpMaster (s : State) (j : Nat) : Option (Nat × Nat) := (s.ptpPort j).best.filter fun _ => s.ns < (s.ptpPort j).annEnd

/-- PTP_SYNC_RECEIVE (R212): a Sync of the master that the port has selected, with the master's time `t` (2^-16 ns) at this instant. -/
def execPtpSyncReceive (j : Fin 2) (t : Nat) (s : State) : Host.Outcome State Fault Refusal :=
  if s.ptpOn j false ∧ (s.ptpMaster j).isSome then
    .next ((s.setPtpPort j { s.ptpPort j with avail := true }).updateFrom (2 + j) fun s d => (t : Int) - s.tdNow d)
  else .next s

/-- PTP_SYNC_TIMEOUT (R212): three Sync intervals without a Sync. The source is lost; the master stays selected until its announce receipt timeout. -/
def execPtpSyncTimeout (j : Fin 2) (s : State) : Host.Outcome State Fault Refusal :=
  if (s.ptpPort j).avail then
    .next ((s.setPtpPort j { s.ptpPort j with avail := false, best := s.ptpMaster j }).loseSource (2 + j))
  else .next s

/-- The state of a domain as TD_STAT shows it. -/
def State.domainSt (s : State) (d : Nat) : Nat := if s.flag (R.TD_CFG_EN d) then (s.domain d).st else dDisabled

/-- clockClass of a grandmaster port: 6 locked on the PTP timescale, 7 in holdover, 248 otherwise. -/
def State.clockClass (s : State) (d : Nat) : Nat :=
  if s.domainSt d = dLocked ∧ s.flag (R.TD_CFG_SCALE d) then 6 else if s.domainSt d = dHoldover then 7 else 248

/-- PTP_GRANDMASTER_SEND (R212): a two-step Sync with its Follow_Up, or an Announce. -/
def execPtpGrandmasterSend (j : Fin 2) (announce : Bool) (s : State) : Host.Outcome State Fault Refusal :=
  if s.ptpOn j true then
    let d := s.rd (R.TD_PTP_MTD j)
    let x := s.ptpPort j
    let head := leBytes 1 (s.rd (R.TD_PTP_DOMNUM j)) ++ leBytes 2 x.seq
    let s := s.setPtpPort j { x with seq := (x.seq + 1) % 65536 }
    if announce then .next (s.emit (.ethernet j "Announce" (s.ethTag j 7) (head ++ [128, 128] ++ leBytes 1 (s.clockClass d))))
    else
      let s := (s.emit (.ethernet j "Sync" (s.ethTag j 7) head)).ptpSent j
      .next (s.emit (.ethernet j "Follow_Up" (s.ethTag j 7) (head ++ leBytes 12 (timeEnc (s.tdStamp d (s.txStamp (2 + j)))))))
  else .next s

/-- PTP_DELAY_REQ_TIMER (R212): Delay_Req of the request-response profile, Pdelay_Req of the others. -/
def execPtpDelayReqTimer (j : Fin 2) (s : State) : Host.Outcome State Fault Refusal :=
  let profile := s.rd (R.TD_PTP_PROFILE j)
  let x := s.ptpPort j
  if s.ptpOn j false ∨ (s.ptpOn j true ∧ profile ≠ 0) then
    .next (((s.setPtpPort j { x with delaySeq := (x.delaySeq + 1) % 65536 }).emit
      (.ethernet j (if profile = 0 then "Delay_Req" else "Pdelay_Req") (s.ethTag j 7) (leBytes 1 (s.rd (R.TD_PTP_DOMNUM j)) ++ leBytes 2 x.delaySeq))).ptpSent j)
  else .next s

/-! ### PPS (R213, R214) -/

/-- The offset of the nearest whole second from `v`, both in 2^-16 ns. -/
def toSecond (v : Nat) : Int :=
  let sec := 65536 * 1000000000
  let r := v % sec
  if 2 * r < sec then -(r : Int) else (sec : Int) - r

/-- The best master clock algorithm over an Announce: its rank, the lower the better, is the number that priority1, clockQuality, priority2,
the grandmaster's identity, stepsRemoved and the sender's port identity spell, in that order. PRESUMED from IEEE 1588-2019, as are the places
of these fields in the message `b`, counted from its first byte. -/
def announceRank (b : List Byte) : Nat × Nat :=
  let src := beNat (slice b 20 10)
  (beNat (slice b 47 1 ++ slice b 48 4 ++ slice b 52 1 ++ slice b 53 8 ++ slice b 61 2 ++ slice b 20 10), src)

/-- The announce receipt timeout that an Announce starts, in ns: three of the intervals that it names. PRESUMED from IEEE 1588-2019, as is the place
of logMessageInterval in the message. -/
def announceNs (b : List Byte) : Nat :=
  let e := sext 8 (leAt b 33 1)
  if e < 0 then 3000000000 / 2 ^ (-e).toNat else 3000000000 * 2 ^ e.toNat

/-- A PTP message on uplink `j` (R163, R212), of the port's own domainNumber: a slave port selects its master by Announces, the grandmaster
answers a Delay_Req, and under the peer-to-peer profiles a port answers a Pdelay_Req in two steps. The arrival is stamped. -/
def State.ptpIn (s : State) (j : Nat) (b : List Byte) : State :=
  let t := s.rxStamp (2 + j)
  let x := { s.ptpPort j with rxStamp := t }
  let s := s.setPtpPort j x
  let msg := leAt b 0 1 % 16
  let head := leBytes 1 (s.rd (R.TD_PTP_DOMNUM j)) ++ slice b 30 2
  if leAt b 4 1 ≠ s.rd (R.TD_PTP_DOMNUM j) then s
  else if msg = 0xB ∧ s.ptpOn j false then
    let r := announceRank b
    if (s.ptpMaster j).all fun m => r.1 ≤ m.1 ∨ r.2 = m.2 then s.setPtpPort j { x with best := some r, annEnd := s.ns + announceNs b } else s
  else if msg = 1 ∧ s.ptpOn j true ∧ s.rd (R.TD_PTP_PROFILE j) = 0 then
    s.emit (.ethernet j "Delay_Resp" (s.ethTag j 7) (head ++ leBytes 12 (timeEnc (s.tdStamp (s.rd (R.TD_PTP_MTD j)) t)) ++ slice b 20 10))
  else if msg = 2 ∧ (s.ptpOn j false ∨ s.ptpOn j true) ∧ s.rd (R.TD_PTP_PROFILE j) ≠ 0 then
    let s := (s.emit (.ethernet j "Pdelay_Resp" (s.ethTag j 7) (head ++ leBytes 12 (timeEnc t) ++ slice b 20 10))).ptpSent j
    s.emit (.ethernet j "Pdelay_Resp_Follow_Up" (s.ethTag j 7) (head ++ leBytes 12 (timeEnc (s.txStamp (2 + j))) ++ slice b 20 10))
  else s

/-- PPS_EDGE (R213): an edge on PPS_IN. -/
def execPpsEdge (rising : Bool) (s : State) : Host.Outcome State Fault Refusal :=
  let early := s.td.ppsAt.any fun t => s.now < t + 65536 * 500000000
  if s.flag R.TD_PPS_IN_EN ∧ s.flag R.TD_PPS_IN_EDGE = !rising ∧ ¬ early then
    let s := { s with td := { s.td with ppsAt := some s.now, ppsOk := true } }
    .next (s.updateFrom 4 fun s d => toSecond (s.tdNow d - 65536 * s.rd R.TD_PPS_IN_DELAY))
  else .next s

/-- PPS_TIMEOUT (R213): 1.5 s without an edge. -/
def execPpsTimeout (s : State) : Host.Outcome State Fault Refusal :=
  if s.td.ppsOk then .next (({ s with td := { s.td with ppsOk := false } }).loseSource 4) else .next s

/-- PPS_OUT_PULSE (R214): a whole second of domain TD. -/
def execPpsOutPulse (s : State) : Host.Outcome State Fault Refusal :=
  if s.flag R.TD_PPS_OUT_EN ∧ s.flag (R.TD_CFG_EN (s.rd R.TD_PPS_OUT_TD)) then .next { s with td := { s.td with ppsOut := true } }
  else .next s

/-- PPS_OUT_END (R214): WIDTH µs after the pulse started. -/
def execPpsOutEnd (s : State) : Host.Outcome State Fault Refusal := .next { s with td := { s.td with ppsOut := false } }

/-! ### The host and the other domains (R195, R200, R219) -/

/-- DOMAIN_SAMPLE (R195): every 1 ms a domain whose source is DOMAIN measures its offset from the domain that it follows. -/
def execDomainSample (d : Fin 8) (s : State) : Host.Outcome State Fault Refusal :=
  let f := s.rd (R.TD_CFG_FOLLOW d)
  .next ([false, true].foldl (fun s second =>
    if s.source d second ≠ 7 ∨ s.followsRing d then s
    else if s.flag (R.TD_CFG_EN f) then s.sourceUpdate d second ((s.tdNow f : Int) - s.tdNow d)
    else s.setAvail d second false) s)

/-- A command on a domain is accepted (R200). -/
def State.tdAccepts (s : State) (d : Nat) : Bool :=
  (s.flag (R.TD_CFG_SERVO d) ∨ s.source d false = 1 ∨ s.source d false = 6) ∧ (d = 0 → s.isRoot)

/-- A command that is refused sets CMD_REFUSED and changes nothing else. -/
def State.tdRefuse (s : State) (d : Nat) : State := s.wr (R.TD_STAT_CMD_REFUSED d) 1

/-- TD_SET[d][63:0] as a signed offset in 2^-16 ns. -/
def State.tdSetOfs (s : State) (d : Nat) : Int := sext 64 (s.words (0x40120 + 0x40 * d) 2)

/-- SET (R200): the domain takes TD_SET[d]; a domain whose primary source is HOST enters LOCKED at its first SET (R196). The NS value is clamped here
and not at the write of TD_SET, which also holds the signed offsets of STEP and SLEW (R192, Table 07-24, log 17). -/
def State.tdSet (s : State) (d : Nat) : State :=
  if ¬ s.tdAccepts d then s.tdRefuse d
  else
    let v := s.words (0x40120 + 0x40 * d) 3
    let s := if badTime v then (s.setWords (0x40120 + 0x40 * d) 3 (setBits v 16 32 999999999)).inc R.TD_CLAMP_CNT_COUNT else s
    let s := (s.jumpTo d (timeDec (s.words (0x40120 + 0x40 * d) 3))).inc (R.TD_STAT_STEPS d)
    if s.source d false = 6 ∧ s.flag (R.TD_CFG_EN d) then s.setDomain d { s.domain d with st := dLocked, setHost := true } else s

/-- TD_CMD_SET (R200). -/
def execTdCmdSet (d : Fin 8) (s : State) : Host.Outcome State Fault Refusal := .next (s.tdSet d)

/-- STEP (R200): the domain is moved by the signed offset. -/
def State.tdStep (s : State) (d : Nat) : State := if s.tdAccepts d then s.stepDomain d (s.tdSetOfs d) else s.tdRefuse d

/-- TD_CMD_STEP (R200). -/
def execTdCmdStep (d : Fin 8) (s : State) : Host.Outcome State Fault Refusal := .next (s.tdStep d)

/-- SLEW (R200): the domain runs 10 ppm fast or slow of its rate until the offset is gone; a second SLEW takes the place of the first. -/
def State.tdSlew (s : State) (d : Nat) : State :=
  if ¬ s.tdAccepts d then s.tdRefuse d
  else
    let o := s.tdSetOfs d
    s.setDomain d { s.rebase d with rate := (s.domain d).rate - slewRate (s.domain d).slew + slewRate o, slew := o }

/-- TD_CMD_SLEW (R200). -/
def execTdCmdSlew (d : Fin 8) (s : State) : Host.Outcome State Fault Refusal := .next (s.tdSlew d)

/-- SLEW_DONE (R200): the offset has been removed, and the domain returns to its rate. -/
def execSlewDone (d : Fin 8) (s : State) : Host.Outcome State Fault Refusal :=
  if (s.domain d).slew = 0 then .next s
  else .next (s.setDomain d { s.rebase d with rate := (s.domain d).rate - slewRate (s.domain d).slew, slew := 0 })

/-- Copy every domain and its state into TD_NOW (R219). -/
def State.snap (s : State) : State :=
  (List.range 8).foldl (fun t d => (t.setWords (0x40010 + 0x10 * d) 3 (s.tdEnc d)).wr (R.TD_NOW_STATE d) (s.domainSt d)) s

/-- TD_SNAP_LATCH (R219). -/
def execTdSnapLatch (s : State) : Host.Outcome State Fault Refusal := .next s.snap

/-! ### Scheduled edges (R217) -/

/-- SCHEDULED_EDGE_DUE (R217): the first queued edge of pin `x` of port `p` reaches its time. -/
def State.edgeDue (s : State) (c : Nat) : State :=
  match NMap.get (fun _ => []) s.td.edges c with
  | [] => s
  | e :: r => ({ s with td := { s.td with edges := NMap.set (fun _ => []) s.td.edges c r } }).fireEdge c e

def execScheduledEdgeDue (p : Fin 64) (x : Fin 4) (s : State) : Host.Outcome State Fault Refusal := .next (s.edgeDue (4 * p + x))

end Sys2Proof.Machine
end

