-- ==== Sys2Proof/Machine/Tunnel.lean ====
section
/-!
DEFINITION. The tunnel unit (R350 to R355): copies of received foreign frames into TUN frames, and their egress with or without
fixed-latency replay; frames that reach an uplink (R162, R163).
-/

namespace Sys2Proof.Machine

/-! ### Controllers of field buses (chapter 10) -/

/-- Controllers by kind and index: 1 UART, 2 CAN, 3 SPE, and 4 the IO-Link master of a port. -/
def ctlKey (k i : Nat) : Nat := 64 * k + i

/-- Frames pending at a controller (R287, R288). -/
def State.txq (s : State) (c : Nat) : List TxItem := NMap.get (fun _ => []) s.pctl.tx c
def State.setTxq (s : State) (c : Nat) (q : List TxItem) : State :=
  { s with pctl := { s.pctl with tx := NMap.set (fun _ => []) s.pctl.tx c q } }

/-- The controller of pair `i` of port `p`, when the pair runs and belongs to a protocol controller (R231). -/
def State.pairCtl (s : State) (p i : Nat) : Option (Nat × Nat) :=
  if s.pairKind p i = cBriar ∨ s.fn p (2 * i) ≠ fnPair then none
  else if s.pairOn p i then some (s.pairKind p i, s.pairIdx p i) else none

/-! ### Ingress (R350, R351) -/

/-- The EtherType of an Ethernet frame; behind a C-tag it is the inner one. -/
def etherType (b : List Byte) : Nat :=
  let at_ := fun i => (b.getD i 0).toNat * 256 + (b.getD (i + 1) 0).toNat
  if at_ 12 = 0x8100 then at_ 16 else at_ 12

/-- A frame without its C-tag. -/
def untagged (b : List Byte) : List Byte :=
  if (b.getD 12 0).toNat * 256 + (b.getD 13 0).toNat = 0x8100 then b.take 12 ++ b.drop 16 else b

/-- The PTP message of a frame: what follows its EtherType. -/
def ptpMsg (b : List Byte) : List Byte := (untagged b).drop 14

/-- A received item passes an entry's filter (R350). -/
def State.tunPasses (s : State) (t : Nat) (item : List Byte) : Bool :=
  let mask := s.rd (R.BRG_TUN_MASK_MASK t)
  let want := s.rd (R.BRG_TUN_MATCH_MATCH t)
  match s.rd (R.BRG_TUN_CFG_KIND t) with
  | 1 => Nat.land (leAt item 4 4 % 2 ^ 30) mask = Nat.land want mask
  | 3 => true
  | _ => Nat.land (etherType (item.drop 16)) (mask % 65536) = Nat.land (want % 65536) (mask % 65536)

/-- Entry `t` takes a copy of an item stamped `at_` on the local timebase (Table 12-3): a TUN frame, or a drop that the tunnel's next frame reports
(R351). -/
def State.tunnelCopy (s : State) (t at_ : Nat) (item : List Byte) : State :=
  if 2032 < item.length then
    { s with brg := { s.brg with gap := if t ∈ s.brg.gap then s.brg.gap else t :: s.brg.gap } }.inc (R.BRG_TUN_CNT_DROP t)
  else
    let seq := s.rd (R.BRG_TUN_SEQ_NEXT t)
    let td := s.rd (R.BRG_TUN_CFG_TD t)
    let node := s.rd (R.BRG_TUN_NODE_NODE t)
    let gap := t ∈ s.brg.gap
    let s1 := ({ s with brg := { s.brg with gap := s.brg.gap.filter (· ≠ t) } }).wr (R.BRG_TUN_SEQ_NEXT t) ((seq + 1) % 65536)
    s1.sendTo bBridge node
      { typ := fTun, tc := s.rd (R.BRG_TUN_CFG_TC t), src := s.node0, op := 1, arg := s.rd (R.BRG_TUN_CFG_TID t) + seq * 256
        payload := leBytes 12 (timeEnc (s.tdStamp td at_)) ++ leBytes 1 td ++ leBytes 1 (bnat gap * 2 + s.rd (R.BRG_TUN_CFG_REPLAY t)) ++ leBytes 2 0 ++ item }

/-- Tunnel entry `t` is in use: NODE names a station, KIND is 1 CAN, 2 SPE, 3 UART, 4 or 5 an uplink, and the source of an ingress entry
matches it (R350, Table 12-9). -/
def State.tunOk (s : State) (t : Nat) : Bool :=
  let k := s.rd (R.BRG_TUN_CFG_KIND t)
  s.flag (R.BRG_TUN_CFG_VALID t) ∧ nodeGood (s.rd (R.BRG_TUN_NODE_NODE t)) ∧ 1 ≤ k ∧ k ≤ 5
    ∧ (s.flag (R.BRG_TUN_CFG_DIR t) ∨ 4 ≤ k
      ∨ (s.pairCtl (s.rd (R.BRG_TUN_CFG_PORT t)) (s.rd (R.BRG_TUN_CFG_PAIR t))).any fun x => x.1 = (if k = 3 then cUart else k + 1))

/-- A received frame, stamped `at_`, is offered to every ingress entry of its source: a pair of a port, or an uplink. The standby of a twin pair sends
no TUN frame (R354). -/
def State.tunnelIn (s : State) (kind : Nat) (src : Option (Nat × Nat)) (at_ : Nat) (item : List Byte) : State :=
  if s.standby then s
  else
    ((List.range 64).filter fun t =>
      s.tunOk t ∧ ¬ s.flag (R.BRG_TUN_CFG_DIR t) ∧ s.rd (R.BRG_TUN_CFG_KIND t) = kind
        ∧ src.all (fun x => s.rd (R.BRG_TUN_CFG_PORT t) = x.1 ∧ s.rd (R.BRG_TUN_CFG_PAIR t) = x.2)
        ∧ s.tunPasses t item).foldl (fun s t => s.tunnelCopy t at_ item) s

/-! ### Egress (R352 to R354) -/

def State.tunq (s : State) (t : Nat) : List TunFrame := NMap.get (fun _ => []) s.brg.tun t
def State.setTunq (s : State) (t : Nat) (q : List TunFrame) : State :=
  { s with brg := { s.brg with tun := NMap.set (fun _ => []) s.brg.tun t q } }

/-- The raw-item KIND that an entry's egress sends (Table 10-2). -/
def tunItemKind (kind : Nat) : Nat := if kind = 1 then 1 else if kind = 3 then 3 else 2

/-- Entry `t` names an uplink. -/
def State.tunUplink (s : State) (t : Nat) : Bool := 4 ≤ s.rd (R.BRG_TUN_CFG_KIND t)

/-- The egress controller of an entry that names a pair, when its kind matches. -/
def State.tunCtl (s : State) (t : Nat) : Option (Nat × Nat) :=
  match s.pairCtl (s.rd (R.BRG_TUN_CFG_PORT t)) (s.rd (R.BRG_TUN_CFG_PAIR t)) with
  | some (k, i) =>
    let want := s.rd (R.BRG_TUN_CFG_KIND t)
    if (want = 1 ∧ k = cCan) ∨ (want = 2 ∧ k = cSpe) ∨ (want = 3 ∧ k = cUart) then some (k, i) else none
  | none => none

/-- An item with the PAIR of its egress entry. -/
def withPair (item : List Byte) (i : Nat) : List Byte :=
  item.set 1 (BitVec.ofNat 8 (setBits (item.getD 1 0).toNat 0 1 i))

/-- A frame leaves its egress entry: to the controller's pending frames, or out of the uplink, whose own tag takes the place of the frame's
(R162). One whose uplink is down, or whose pair has no controller of its kind, is dropped (log 64). -/
def State.tunSend (s : State) (t tc : Nat) (item : List Byte) : State :=
  if s.tunUplink t then
    let j := s.rd (R.BRG_TUN_CFG_KIND t) - 4
    if (s.port (2 + j)).st ≠ .uplinkUp then s.inc (R.BRG_TUN_CNT_DROP t)
    else s.emit (.ethernet j "tunnel" (s.ethTag j tc) (untagged (item.drop 16)))
  else match s.tunCtl t with
    | none => s.inc (R.BRG_TUN_CNT_DROP t)
    | some (k, i) =>
      let c := ctlKey k i
      s.setTxq c (s.txq c ++ [{ tun := some t, item := withPair item (s.rd (R.BRG_TUN_CFG_PAIR t)) }])

/-- Send what the head of the entry's queue allows: a frame without replay waits for the controller to be free, a held one for its time.
`n` bounds the frames. -/
def State.pumpTun (s : State) (t : Nat) : Nat → State
  | 0 => s
  | n + 1 =>
    match s.tunq t with
    | [] => s
    | x :: r =>
      let busy : Bool := match s.tunCtl t with
        | some (k, i) => !s.tunUplink t && (s.txq (ctlKey k i)).any (·.tun.isSome)
        | none => false
      if x.due ≠ 0 ∨ busy then s else ((s.setTunq t r).tunSend t x.tc x.bytes).pumpTun t n

/-- Every egress entry of a controller sends what it can. -/
def State.pumpCtl (s : State) (k i : Nat) : State :=
  ((List.range 64).filter fun t => s.tunq t ≠ [] ∧ s.tunCtl t = some (k, i)).foldl (fun s t => s.pumpTun t 64) s

/-- SEQ `a` comes before `b`, modulo 65,536. -/
def seqBefore (a b : Nat) : Bool := a ≠ b ∧ (b + 65536 - a) % 65536 < 32768

/-- Put a frame into a queue that leaves in SEQ order (R353). -/
def insertSeq (x : TunFrame) : List TunFrame → List TunFrame
  | [] => [x]
  | y :: r => if seqBefore x.seq y.seq then x :: y :: r else y :: insertSeq x r

/-- A frame for egress entry `t`. -/
def State.tunEgress (s : State) (t : Nat) (f : Frame) : State :=
  let seq := bits f.arg 8 16
  let item := f.payload.drop 16
  let s := if t ∈ s.brg.seqSeen ∧ seq ≠ s.rd (R.BRG_TUN_SEQ_NEXT t) then s.inc (R.BRG_TUN_SEQ_GAPS t) else s
  let s := ({ s with brg := { s.brg with seqSeen := if t ∈ s.brg.seqSeen then s.brg.seqSeen else t :: s.brg.seqSeen } }).wr
    (R.BRG_TUN_SEQ_NEXT t) ((seq + 1) % 65536)
  let drop := s.inc (R.BRG_TUN_CNT_DROP t)
  if ¬ s.tunUplink t ∧ (s.inSafe ∨ s.standby) then drop
  else if leAt item 0 1 ≠ tunItemKind (s.rd (R.BRG_TUN_CFG_KIND t)) ∨ (¬ s.tunUplink t ∧ s.tunCtl t = none) then drop
  else if 64 ≤ (s.tunq t).length then drop
  else
    let replay := bit (leAt f.payload 13 1) 0 ∧ s.flag (R.BRG_TUN_CFG_REPLAY t)
    let ingress := timeDec (leAt f.payload 0 12)
    let due := ingress + s.rd (R.BRG_TUN_LAT_LATENCY t) * 65536
    let late := due < s.tdNow (leAt f.payload 12 1 % 8)
    let s := if replay ∧ late then s.inc (R.BRG_TUN_CNT_LATE t) else s
    let x : TunFrame := ⟨seq, leAt f.payload 12 1 % 8, if replay ∧ ¬ late then due else 0, item, f.tc⟩
    (s.setTunq t (if replay then insertSeq x (s.tunq t) else s.tunq t ++ [x])).pumpTun t 64

/-- TUN_RECEIVE (R352): a TUN frame for this hub reaches the tunnel unit from port `i`. -/
def execTunReceive (i : Fin 4) (f : Frame) (s : State) : Host.Outcome State Fault Refusal :=
  if f.typ ≠ fTun ∨ f.mark ≠ .valid ∨ ¬ s.isMine f.dst then .next s
  else
    match (List.range 64).find? fun t =>
      s.tunOk t ∧ s.flag (R.BRG_TUN_CFG_DIR t) ∧ s.rd (R.BRG_TUN_NODE_NODE t) = f.src
        ∧ s.rd (R.BRG_TUN_CFG_TID t) = f.arg % 256 ∧ f.op = 1 with
    | none => .next (s.countDiscard i)
    | some t => .next (s.tunEgress t f).settle

/-- TUN_REPLAY_DUE (R353): domain TD reads INGRESS + LATENCY for the head of entry `t`, which is sent. -/
def execTunReplayDue (t : Fin 64) (s : State) : Host.Outcome State Fault Refusal :=
  match s.tunq t with
  | x :: r => if x.due ≤ s.tdNow x.td then .next ((s.setTunq t ({ x with due := 0 } :: r)).pumpTun t 64) else .next s
  | [] => .next s

/-! ### Uplinks (R162, R163) -/

/-- EtherTypes that an uplink sorts out: MAC control (PAUSE, PFC), the S-tag and PTP. -/
abbrev etControl : Nat := 0x8808
abbrev etSTag : Nat := 0x88A8
abbrev etPtp : Nat := 0x88F7

/-- A frame of Ethernet as a raw item of KIND ETH (Table 10-3). -/
def ethItem (pair : Nat) (b : List Byte) : List Byte := leBytes 1 2 ++ leBytes 1 pair ++ leBytes 2 b.length ++ leBytes 12 0 ++ b

/-- UPLINK_FRAME_RECEIVE (R163): a frame, given without its FCS, on uplink `j`. PTP messages go to the time unit, whose commands say what
they do there; a frame that a tunnel takes is carried; every other is discarded. -/
def execUplinkFrameReceive (j : Fin 2) (fcsOk : Bool) (b : List Byte) (s : State) : Host.Outcome State Fault Refusal :=
  let i := 2 + j.val
  if (s.port i).st ≠ .uplinkUp then .next s
  else
    let outer := (b.getD 12 0).toNat * 256 + (b.getD 13 0).toNat
    let bad : Bool := !fcsOk || decide (b.length + 4 < 64) || decide (2000 < b.length + 4)
      || outer == etSTag || outer == etControl || (outer == 0x8100 && etherType b == 0x8100)
    if bad then .next (s.countDiscard i)
    else if etherType b = etPtp then .next (s.ptpIn j (ptpMsg b))
    else
      let item := ethItem 0 b
      let taken := (List.range 64).any fun t => s.tunOk t ∧ ¬ s.flag (R.BRG_TUN_CFG_DIR t)
        ∧ s.rd (R.BRG_TUN_CFG_KIND t) = 4 + j.val ∧ s.tunPasses t item
      if taken then .next (s.tunnelIn (4 + j.val) none (s.rxStamp i) item).settle else .next (s.countDiscard i)

end Sys2Proof.Machine
end

