-- ==== Sys2Proof/Machine/Pctl.lean ====
section
/-!
DEFINITION. Fixed protocol controllers (chapter 10): raw items, message objects, Modbus polls, IO-Link masters, rate detection and bus
conditions. Device-space requests are in `Bridge.lean`.
-/

namespace Sys2Proof.Machine

/-! ### Filling RECVs (R115, R116) -/

/-- The RECV of slot `t` that an item of source `src` and selector `sel` fills: the first in fetch order that accepts it. A RECV of
messages may accept only the sender named in its operand. -/
def State.recvFor (s : State) (t src sel : Nat) (sender : Option (Nat × Nat)) : Option (Nat × Tx) :=
  let ok := fun (x : Tx) =>
    let w := leAt x.req.operand 4 4
    x.req.op = opRecv ∧ x.slot = t ∧ ¬ x.detached ∧ ¬ x.done ∧ leAt x.req.operand 0 1 = src ∧ leAt x.req.operand 1 1 = sel
      ∧ (src = 0 → bit w 31 → sender = some (bits w 4 18, bits w 0 4))
  (s.flights.filter fun x => ok x.2 ∧ ¬ s.tgt.accepted.any fun r => r.origin = .here x.1).foldl (fun b x => match b with
    | none => some x
    | some y => if x.2.seq < y.2.seq then some x else some y) none

/-- The present time of a descriptor's domain less the local time passed since `at_`. -/
def State.timeOf (s : State) (td at_ : Nat) : Nat := timeEnc (s.tdNow td - (s.now - at_))

/-- Fill the RECV under tag `k` with an item that came at local time `at_`. -/
def State.fillRecv (s : State) (k : Nat) (t : Tx) (item : List Byte) (at_ result : Nat) : State :=
  s.finish k (s.tag k).gen
    { status := stOk, result := result, xfer := min item.length t.req.len, exec := s.timeOf t.req.td at_
      trunc := decide (t.req.len < item.length), data := item.take t.req.len }

/-! ### Controllers as configured (R282, R283) -/

/-- EN of a controller. -/
def State.ctlEn (s : State) (k i : Nat) : Bool :=
  match k with
  | 1 => s.flag (R.PCTL_UART_CFG_EN i)
  | 2 => s.flag (R.PCTL_CAN_CFG_EN i)
  | 3 => s.flag (R.PCTL_SPE_CFG_EN i)
  | _ => s.flag (R.PCTL_IOL_CFG_EN i)

/-- A controller runs in host-assisted mode. -/
def State.ctlRaw (s : State) (k i : Nat) : Bool :=
  match k with
  | 1 => s.flag (R.PCTL_UART_CFG_RAW i)
  | 2 => s.flag (R.PCTL_CAN_CFG_RAW i)
  | 3 => s.flag (R.PCTL_SPE_CFG_RAW i)
  | _ => s.flag (R.PCTL_IOL_CFG_RAW i)

/-- The port and pair (2: IO-Link) of a controller that is routed. -/
def State.ctlPlace (s : State) (k i : Nat) : Option (Nat × Nat) :=
  if k = cIol then (if s.fn i 2 = fnIol then some (i, 2) else none)
  else match s.pairOf k i with
    | some q => if s.pairCtl (q / 2) (q % 2) = some (k, i) then some (q / 2, q % 2) else none
    | none => none

/-- The controller receives and may send: it is enabled and its pair or pin runs. -/
def State.ctlOn (s : State) (k i : Nat) : Bool :=
  s.ctlEn k i ∧ (s.ctlPlace k i).isSome ∧ (k = cIol → s.iolMode i ≠ 0)

/-- The controller that DEV_SEL of port `p` names, when it is on (R283). -/
def State.devTarget (s : State) (p : Nat) : Option (Nat × Nat) :=
  let sel := s.rd (R.PCTL_PORT_DEV_SEL p)
  let c := if sel = 2 then some (cIol, p) else s.pairCtl p (if sel = 1 then 1 else 0)
  c.filter fun x => s.ctlOn x.1 x.2

/-- The bus of a controller is held by a lock sequence (R346), or has been won by a LOCK whose grant waits for the transaction in progress (R344). -/
def State.ctlHeld (s : State) (k i : Nat) : Bool :=
  match s.ctlPlace k i with
  | some (p, _) => s.devTarget p = some (k, i) ∧ ((s.busLock p).holder.isSome ∨ (s.busLock p).winner.isSome)
  | none => false

/-- The bridge transaction in progress on the bus of port `p`. -/
def State.busOp (s : State) (p : Nat) : Option BusOp := NMap.get (fun _ => none) s.brg.active p
def State.setBusOp (s : State) (p : Nat) (x : Option BusOp) : State :=
  { s with brg := { s.brg with active := NMap.set (fun _ => none) s.brg.active p x } }

/-! ### Message objects (R289 to R291) -/

/-- An active message object of controller `i` of kind `k`: the object kinds 1 CAN, 2 SPE, 3 UART. -/
def State.mobjOn (s : State) (m : Nat) (k : Nat) (i : Nat) : Bool :=
  let kind := if k = cCan then 1 else if k = cSpe then 2 else 3
  s.flag (R.PCTL_MOBJ_VALID m) ∧ s.rd (R.PCTL_MOBJ_KIND m) = kind ∧ s.rd (R.PCTL_MOBJ_IDX m) = i ∧ s.ctlOn k i ∧ ¬ s.ctlRaw k i

/-- The objects of a controller in ascending order, of direction `dir` (ignored for UART). -/
def State.mobjs (s : State) (k i : Nat) (dir : Bool) : List Nat :=
  (List.range 2048).filter fun m => s.mobjOn m k i ∧ (k = cUart ∨ s.flag (R.PCTL_MOBJ_DIR m) = dir)

/-- Function code and number of registers of a UART object; a code other than 0x03, 0x04 and 0x10 makes it inactive. -/
def State.pollCode (s : State) (m : Nat) : Nat := bits (s.rd (R.PCTL_MOBJ_MATCH m)) 8 8
def State.pollRegs (s : State) (m : Nat) : Nat := s.rd (R.PCTL_MOBJ_ADDR_W2 m) % 256

/-- FDF and XLF of a CAN controller's frames, from FRAMES (Table 10-8). -/
def State.canFlags (s : State) (i : Nat) : Nat :=
  match s.rd (R.PCTL_CAN_CFG_FRAMES i) with
  | 0 => 0
  | 2 => 2
  | _ => 1

/-- The lowest receive object that takes a CAN item (R290). -/
def State.canMatch (s : State) (i : Nat) (item : List Byte) : Option Nat :=
  let w := leAt item 4 4
  let n := if bit w 29 then 29 else 11
  (s.mobjs cCan i false).find? fun m =>
    let x := s.rd (R.PCTL_MOBJ_MATCH m)
    bits x 0 n = bits w 0 n ∧ bit x 29 = bit w 29 ∧ leAt item 8 1 % 4 = s.canFlags i

/-- A number of two bytes in bus order, high byte first. -/
def be16 (b : List Byte) (i : Nat) : Nat := (b.getD i 0).toNat * 256 + (b.getD (i + 1) 0).toNat

/-- The payload of an Ethernet frame, after its EtherType. -/
def etherPayload (b : List Byte) : List Byte := if be16 b 12 = 0x8100 then b.drop 18 else b.drop 14

/-- The lowest receive object that takes an Ethernet frame (R290). -/
def State.speMatch (s : State) (i : Nat) (b : List Byte) : Option Nat :=
  (s.mobjs cSpe i false).find? fun m =>
    let x := s.rd (R.PCTL_MOBJ_MATCH m)
    bits x 0 16 = etherType b ∧ bits x 16 16 = be16 (etherPayload b) 0

/-- Object `m` takes the data of a frame. -/
def State.objectTakes (s : State) (m : Nat) (data : List Byte) : State :=
  ({ s with pctl := { s.pctl with last := NMap.set (fun _ => []) s.pctl.last m data } }).decodeFrame (s.rd (R.PCTL_MOBJ_FMT m)) data

/-- The tables that a controller's frames feed. -/
def State.ctlTables (s : State) (k i : Nat) : List Nat :=
  if k = cIol then (if s.flag (R.PCTL_IOL_FMT_IN_EN i) then [s.rd (R.PCTL_IOL_FMT_FMT_IN i)] else [])
  else ((s.mobjs k i false).filter fun m => k ≠ cUart ∨ s.pollCode m ≠ 0x10).map fun m => s.rd (R.PCTL_MOBJ_FMT m)

/-- A bus condition begins or ends for every point that the controller's tables feed (R300). -/
def State.condCtl (s : State) (k i reason : Nat) (on : Bool) : State :=
  (s.ctlTables k i).foldl (fun s t => s.condTable t reason on) s

/-! ### Received raw items (R285 to R287) -/

def State.rxq (s : State) (p : Nat) : List RawItem := NMap.get (fun _ => []) s.pctl.rx p
def State.setRxq (s : State) (p : Nat) (q : List RawItem) : State :=
  { s with pctl := { s.pctl with rx := NMap.set (fun _ => []) s.pctl.rx p q } }

/-- A raw item of port `p` goes to the next matching RECV of the owning slot, or is queued, or discarded. The standby of a twin pair keeps
and delivers none (R303). -/
def State.rawIn (s : State) (p : Nat) (item : List Byte) : State :=
  if s.standby then s
  else if 2048 < item.length ∨ (leAt item 0 1 = 2 ∧ 1518 < leAt item 2 2) then s.inc (R.PCTL_PORT_DROP p)
  else match s.recvFor (s.rd (R.PCTL_PORT_RAW_OWN p)) 1 p none with
    | some (k, t) => s.fillRecv k t item s.now p
    | none => if 64 ≤ (s.rxq p).length then s.inc (R.PCTL_PORT_DROP p) else s.setRxq p (s.rxq p ++ [⟨s.now, item⟩])

/-- What a pair's decoders recognise (R298): 2 CAN, 3 UART, 4 SPE. -/
def State.recognise (s : State) (p i v : Nat) : State := s.wr (if i = 0 then R.PCTL_PORT_BUS0 p else R.PCTL_PORT_BUS1 p) v

/-! ### Automatic rates (R298) -/

def canRates : List Nat := [1000, 800, 500, 250, 125, 100, 50, 20, 10]
/-- In units of 10 bit/s. -/
def uartRates : List Nat := [100000, 92160, 46080, 23040, 11520, 5760, 3840, 1920, 960, 480, 240, 120]

/-- The candidate tried and the count at it. -/
def State.autoOf (s : State) (c : Nat) : Nat × Nat := NMap.get (fun _ => (0, 0)) s.pctl.auto c
def State.setAuto (s : State) (c : Nat) (x : Nat × Nat) : State :=
  { s with pctl := { s.pctl with auto := NMap.set (fun _ => (0, 0)) s.pctl.auto c x } }

/-- A controller whose automatic detection has not yet found its rate. -/
def State.searching (s : State) (k i : Nat) : Bool :=
  if k = cCan then s.flag (R.PCTL_CAN_CFG_AUTO i) ∧ s.rd (R.PCTL_CAN_STAT_NBR_DET i) = 0
  else k = cUart ∧ s.flag (R.PCTL_UART_CFG_AUTO i) ∧ s.rd (R.PCTL_UART_STAT_BAUD_DET i) = 0

/-- `n` frames or characters came without error at the candidate, of which `need` accept it. -/
def State.autoHit (s : State) (k i n need : Nat) : State :=
  if ¬ s.searching k i then s
  else
    let (c, m) := s.autoOf (ctlKey k i)
    if m + n < need then s.setAuto (ctlKey k i) (c, m + n)
    else
      let s := s.setAuto (ctlKey k i) (0, 0)
      if k = cCan then s.wr (R.PCTL_CAN_STAT_NBR_DET i) (canRates.getD c 0) else s.wr (R.PCTL_UART_STAT_BAUD_DET i) (uartRates.getD c 0)

/-! ### CAN (R290, R298, R301) -/

/-- STATE of a CAN controller outside bus-off: 3 searching or listen-only, 1 error passive from a counter of 128, else 0. The standby of a
twin pair listens only (R303). -/
def State.canState (s : State) (i tec rec : Nat) : Nat :=
  if s.searching cCan i ∨ s.flag (R.PCTL_CAN_CFG_LISTEN i) ∨ s.standby then 3 else if 128 ≤ tec ∨ 128 ≤ rec then 1 else 0

/-- Note the error counters that the controller keeps (ISO 11898-1). -/
def State.canCounters (s : State) (i tec rec : Nat) : State :=
  ((s.wr (R.PCTL_CAN_STAT_TEC i) (min 255 tec)).wr (R.PCTL_CAN_STAT_REC i) (min 255 rec)).wr (R.PCTL_CAN_STAT_STATE i) (s.canState i tec rec)

/-- A frame of CAN controller `i` has been sent, or has had no acknowledgement after 128 attempts: TEC counts down by 1, or has come to the error
passive bound in steps of 8. PRESUMED from ISO 11898-1 (log 83). -/
def State.canSent (s : State) (i : Nat) (ok : Bool) : State :=
  let t := s.rd (R.PCTL_CAN_STAT_TEC i)
  s.canCounters i (if ok then t - 1 else if t < 128 then t + (135 - t) / 8 * 8 else t) (s.rd (R.PCTL_CAN_STAT_REC i))

/-- With AUTO the data rate is taken from the first frame with BRS (R298): one that FRAMES allows, which no command gives, and so a free value. -/
def State.autoData (s : State) (i : Nat) (item : List Byte) : State :=
  if ¬ s.flag (R.PCTL_CAN_CFG_AUTO i) ∨ ¬ bit (leAt item 8 1) 2 ∨ NMap.get (fun _ => 0) s.pctl.dbr i ≠ 0 then s
  else
    let (v, s) := s.draw
    let top := if s.rd (R.PCTL_CAN_CFG_FRAMES i) = 2 then 20000 else 8000
    { s with pctl := { s.pctl with dbr := NMap.set (fun _ => 0) s.pctl.dbr i (1000 + v % (top - 999)) } }

/-- CAN_FRAME_RECEIVE (R290): a frame ends on the bus of controller `i`, without error when `ok`; `tec` and `rec` are its error counters. -/
def execCanFrameReceive (i : Fin 32) (f : BusFrame) (ok : Bool) (tec rec : Nat) (s : State) : Host.Outcome State Fault Refusal :=
  match s.ctlPlace cCan i with
  | none => .next s
  | some (p, x) =>
    if ¬ s.ctlOn cCan i ∨ s.rd (R.PCTL_CAN_STAT_STATE i) = 2 then .next s
    else if ¬ ok then
      .next (((s.setAuto (ctlKey cCan i) ((s.autoOf (ctlKey cCan i)).1, 0)).canCounters i tec rec).inc (R.PCTL_CAN_STAT_ERR i))
    else
      let item := withPair f.bytes x
      let s := (((s.recognise p x 2).autoHit cCan i 1 2).autoData i item).canCounters i tec rec
      let s := if s.ctlRaw cCan i then s.rawIn p item
        else match s.canMatch i item with
          | some m => s.objectTakes m (item.drop 16)
          | none => s
      .next (s.tunnelIn 1 (some (p, x)) (s.now - f.ago) item).settle

/-- CAN_BUS_OFF (R300, R301): TEC has passed 255, at which the field saturates. -/
def execCanBusOff (i : Fin 32) (s : State) : Host.Outcome State Fault Refusal :=
  if ¬ s.ctlOn cCan i ∨ s.rd (R.PCTL_CAN_STAT_STATE i) = 2 then .next s
  else .next ((((s.wr (R.PCTL_CAN_STAT_STATE i) 2).wr (R.PCTL_CAN_STAT_TEC i) 255).inc (R.PCTL_CAN_STAT_BUSOFF i)).condCtl cCan i qFault true)

/-- A controller rejoins its bus. -/
def State.canRejoin (s : State) (i : Nat) : State :=
  if s.rd (R.PCTL_CAN_STAT_STATE i) = 2 then (s.canCounters i 0 0).condCtl cCan i qFault false else s

/-- CAN_AUTO_RECOVER (R301): 128 occurrences of 11 recessive bits, with AUTO_REC 1. -/
def execCanAutoRecover (i : Fin 32) (s : State) : Host.Outcome State Fault Refusal :=
  if s.flag (R.PCTL_CAN_CFG_AUTO_REC i) then .next (s.canRejoin i) else .next s

/-- CAN_RECOVER (R301): PCTL_CMD with OP RECOVER. -/
def execCanRecover (i : Fin 32) (s : State) : Host.Outcome State Fault Refusal := .next (s.canRejoin i)

/-- CAN_BUS_DOMINANT (R300): the bus has been dominant for 10 ms, or (`on` false) is no longer. -/
def execCanBusDominant (i : Fin 32) (on : Bool) (s : State) : Host.Outcome State Fault Refusal :=
  if s.ctlOn cCan i then .next (s.condCtl cCan i qShort on) else .next s

/-! ### SPE (R290, R296, R300) -/

/-- The MAC accepts a frame: to ADDR, broadcast or multicast (Table 10-5). -/
def State.speAccepts (s : State) (i : Nat) (b : List Byte) : Bool :=
  bit (b.getD 0 0).toNat 0 ∨ leAt b 0 6 = s.rdAddr (R.PCTL_SPE_MAC_ADDR_W1 i) (R.PCTL_SPE_MAC_ADDR_W0 i)

/-- SPE_FRAME_RECEIVE (R290): a frame, given without its FCS, reaches MAC `i`. -/
def execSpeFrameReceive (i : Fin 16) (f : BusFrame) (fcsOk : Bool) (s : State) : Host.Outcome State Fault Refusal :=
  let b := f.bytes
  match s.ctlPlace cSpe i with
  | none => .next s
  | some (p, x) =>
    if ¬ s.ctlOn cSpe i then .next s
    else if ¬ fcsOk then .next (s.inc (R.PCTL_SPE_STAT_FCS_ERR i))
    else if ¬ s.speAccepts i b then .next s
    else
      let item := ethItem x b
      let s := s.recognise p x 4
      let s := if s.ctlRaw cSpe i then s.rawIn p item
        else match s.speMatch i b with
          | some m => s.objectTakes m (etherPayload b)
          | none => s
      .next (s.tunnelIn 2 (some (p, x)) (s.now - f.ago) item).settle

/-- The pair of MAC `i` is a T1L link. -/
def State.speT1L (s : State) (i : Nat) : Bool :=
  match s.ctlPlace cSpe i with
  | some (p, x) => s.pairMode p x = 5
  | none => false

/-- SPE_LINK_DOWN (R300): a link goes down, or a T1L link has no signal for 50 ms. -/
def execSpeLinkDown (i : Fin 16) (s : State) : Host.Outcome State Fault Refusal :=
  if ¬ s.ctlOn cSpe i then .next s
  else
    let s1 := if s.flag (R.PCTL_SPE_STAT_LINK i) then (s.wr (R.PCTL_SPE_STAT_LINK i) 0).inc (R.PCTL_SPE_STAT_LINK_DOWN i) else s
    .next (if s.speT1L i then s1.condCtl cSpe i qOpenWire true else s1)

/-- SPE_LINK_UP (R303, Table 10-12). -/
def execSpeLinkUp (i : Fin 16) (s : State) : Host.Outcome State Fault Refusal :=
  if s.ctlOn cSpe i then .next ((s.wr (R.PCTL_SPE_STAT_LINK i) 1).condCtl cSpe i qOpenWire false) else .next s

/-! ### Frames to send (R287, R288, R291, R343) -/

/-- The arbitration field of a CAN item as it stands on the bus (ISO 11898-1), the lowest of which wins: the base identifier, RTR (SRR, recessive,
where the identifier is extended), IDE, the rest of an extended identifier, and its RTR. -/
def canKey (item : List Byte) : Nat :=
  let w := leAt item 4 4
  let rtr := bnat (bit w 30)
  if bit w 29 then bits w 18 11 * 2 ^ 21 + 2 ^ 20 + 2 ^ 19 + bits w 0 18 * 2 + rtr else bits w 0 11 * 2 ^ 21 + rtr * 2 ^ 20

/-- The pending frame that a controller sends next: CAN in arbitration order, the others in order of arrival. -/
def State.nextTx (s : State) (k i : Nat) : Option TxItem :=
  match s.txq (ctlKey k i) with
  | [] => none
  | x :: r => some (if k = cCan then r.foldl (fun b y => if canKey y.item < canKey b.item then y else b) x else x)

/-- The frame leaves the controller's pending frames, and tunnels may follow. -/
def State.dropTx (s : State) (k i : Nat) (x : TxItem) : State :=
  (s.setTxq (ctlKey k i) ((s.txq (ctlKey k i)).erase x)).pumpCtl k i

/-- The controller may put frames on its bus: it is on, its bus is not locked, the hub is not the standby, and a CAN controller is neither
listen-only nor in bus-off. -/
def State.maySendBus (s : State) (k i : Nat) : Bool :=
  s.ctlOn k i ∧ ¬ s.ctlHeld k i ∧ ¬ s.standby
    ∧ (k = cCan → ¬ s.flag (R.PCTL_CAN_CFG_LISTEN i) ∧ s.rd (R.PCTL_CAN_STAT_STATE i) ≠ 2 ∧ ¬ s.searching cCan i)

/-- DLEN fits the kind of an item that is sent (Table 10-3). -/
def dlenFits (item : List Byte) : Bool :=
  let n := leAt item 2 2
  match leAt item 0 1 with
  | 1 =>
    let f := leAt item 8 1
    if bit f 1 then 1 ≤ n ∧ n ≤ 2032 else if bit f 0 then n ≤ 8 ∨ n ∈ [12, 16, 20, 24, 32, 48, 64] else n ≤ 8
  | 2 => 14 ≤ n ∧ n ≤ 1518
  | 3 => 1 ≤ n ∧ n ≤ 2032
  | 4 => n ≤ 32
  | _ => false

/-- The controller of a port that a raw item of a SEND names: its pair's, if of the item's kind, or the IO-Link master. -/
def State.rawTarget (s : State) (p : Nat) (item : List Byte) : Option (Nat × Nat) :=
  let kind := leAt item 0 1
  let c := if kind = 4 then some (cIol, p) else
    (s.pairCtl p (leAt item 1 1 % 2)).filter fun x => x.1 = (if kind = 1 then cCan else if kind = 2 then cSpe else cUart)
  c.filter fun x => s.ctlOn x.1 x.2

/-- A controller of port `p` is on (Table 01-13, check 3). -/
def State.portBus (s : State) (p : Nat) : Bool :=
  ((s.pairCtl p 0).toList ++ (s.pairCtl p 1).toList ++ [(cIol, p)]).any fun x => s.ctlOn x.1 x.2

/-- A raw SEND at port `p` (R114, R285, R287): one not sent at entry to the safe state is refused there (R466). -/
def State.rawSend (s : State) (p : Nat) (r : Req) : State :=
  if s.inSafe then s.refuse r stSafe
  else if s.slotOf r ≠ some (s.rd (R.PCTL_PORT_RAW_OWN p)) then s.refuse r stDenied
  else if ¬ dlenFits r.data ∨ leAt r.data 2 2 + 16 ≠ r.len then s.refuse r stDataBad
  else match s.rawTarget p r.data with
    | none => s.refuseRoute r
    | some (k, i) =>
      if ¬ s.ctlRaw k i then s.refuse r stUnsupported
      else if k = cCan ∧ s.flag (R.PCTL_CAN_CFG_LISTEN i) then s.refuse r stBusNak
      else if 16 ≤ ((s.txq (ctlKey k i)).filter fun x => x.req.isSome ∧ x.obj.isNone).length then s.refuse r stDenied
      else s.setTxq (ctlKey k i) (s.txq (ctlKey k i) ++ [{ req := some r, item := r.data }])

/-- The process data out of an IO-Link master and its valid flag. -/
def State.setPdOut (s : State) (p : Nat) (x : List Byte × Bool) : State :=
  { s with pctl := { s.pctl with pdOut := NMap.set (fun _ => ([], false)) s.pctl.pdOut p x } }

/-- An item as it is sent: an Ethernet frame shorter than 60 bytes is padded with zeros (Table 10-3). -/
def onWire (item : List Byte) : List Byte :=
  if leAt item 0 1 = 2 then item ++ List.replicate (76 - item.length) 0 else item

/-- What goes out on the bus: nothing while the pair's driver, or on the standby that of C/Q, is off (R232, R252, R257). -/
def State.busOut (s : State) (k i : Nat) (what : String) (b : List Byte) : State :=
  match s.ctlPlace k i with
  | some (p, x) => if if x = 2 then ¬ s.standby else s.pairDrives p x then s.emit (.bus p x what b) else s
  | none => s

/-- RAW_SEND_DONE (R287): the next frame of controller `i` of kind `k`, a raw SEND's or a tunnel's, has been sent, or (`ok` false, CAN alone) has
not been acknowledged after 128 attempts. -/
def execRawSendDone (k : Fin 5) (i : Fin 64) (ok : Bool) (s : State) : Host.Outcome State Fault Refusal :=
  match s.nextTx k i with
  | none => .next s
  | some x =>
    if x.obj.isSome ∨ ¬ s.maySendBus k i ∨ (¬ ok ∧ k.val ≠ cCan) then .next s
    else
      let s := if ok then s.busOut k i "frame" (onWire x.item) else s
      let s := if ok ∧ k.val = cIol then
          s.setPdOut i (x.item.drop 16, bit (leAt x.item 4 1) 0 && !s.inSafe)
        else s
      let s := if k.val = cCan then s.canSent i ok else s
      let s := s.dropTx k i x
      match x.req with
      | none => .next s.settle
      | some r => .next (if ok then s.ok r 0 r.len else s.refuse r stBusNak).settle

/-! ### Transmit objects (R291) -/

/-- The item that transmit object `m` sends with `data` (R291): a CAN frame with the identifier and flags of MATCH, or an Ethernet frame to
ADDR with the EtherType and first payload bytes of MATCH. -/
def State.objectItem (s : State) (m : Nat) (data : List Byte) : List Byte :=
  let i := s.rd (R.PCTL_MOBJ_IDX m)
  let x := s.rd (R.PCTL_MOBJ_MATCH m)
  if s.rd (R.PCTL_MOBJ_KIND m) = 1 then
    leBytes 1 1 ++ leBytes 1 0 ++ leBytes 2 data.length ++ leBytes 4 x ++ leBytes 1 (s.canFlags i) ++ leBytes 7 0 ++ data
  else
    let be := fun v => leBytes 1 (v / 256) ++ leBytes 1 v
    ethItem 0 (leBytes 4 (s.rd (R.PCTL_MOBJ_ADDR_W2 m)) ++ leBytes 2 (s.rd (R.PCTL_MOBJ_ADDR_W3 m))
      ++ leBytes 6 (s.rdAddr (R.PCTL_SPE_MAC_ADDR_W1 i) (R.PCTL_SPE_MAC_ADDR_W0 i)) ++ be (bits x 0 16) ++ be (bits x 16 16) ++ data.drop 2)

/-- The controller of an object. -/
def State.mobjCtl (s : State) (m : Nat) : Nat × Nat :=
  let k := s.rd (R.PCTL_MOBJ_KIND m)
  (if k = 1 then cCan else if k = 2 then cSpe else cUart, s.rd (R.PCTL_MOBJ_IDX m))

/-- Object `m` is due in cycle `k`, given the points whose VALUE changed at its freeze. -/
def State.objectDue (s : State) (m k : Nat) (changed : List Nat) : Bool :=
  let per := s.rd (R.PCTL_MOBJ_PERIOD m)
  (per ≠ 0 ∧ k % per = 0)
    ∨ (s.flag (R.PCTL_MOBJ_ONCHG m) ∧ (s.sigPoints (s.rd (R.PCTL_MOBJ_FMT m)) true).any (· ∈ changed))

/-- At the output freeze of cycle `k` the transmit objects that are due encode their signals (R291), and the IO-Link masters their process
data out (R299), marked invalid in the safe state (R302). -/
def State.freezeObjects (s : State) (k : Nat) (changed : List Nat) : State :=
  if s.standby then s
  else
    let ms := (List.range 2048).filter fun m =>
      let c := s.mobjCtl m
      c.1 ≠ cUart ∧ s.mobjOn m c.1 c.2 ∧ s.flag (R.PCTL_MOBJ_DIR m) ∧ s.objectDue m k changed
    let s := { s with pctl := { s.pctl with due := ms.map (fun (m : Nat) => (m, s.encodeFrame (s.rd (R.PCTL_MOBJ_FMT m)))) } }
    ((List.range 64).filter fun p => s.ctlOn cIol p ∧ ¬ s.ctlRaw cIol p ∧ s.flag (R.PCTL_IOL_FMT_OUT_EN p)).foldl (fun s p =>
      s.setPdOut p (s.encodeFrame (s.rd (R.PCTL_IOL_FMT_FMT_OUT p)), !s.inSafe)) s

/-- After the output deadline the frames encoded at the freeze are pending at their controllers. -/
def State.sendObjects (s : State) : State :=
  let due := s.pctl.due
  due.foldl (fun s (m, data) =>
    let c := s.mobjCtl m
    if (c.1 = cCan ∧ s.flag (R.PCTL_CAN_CFG_LISTEN c.2)) ∨ s.standby then s
    else s.setTxq (ctlKey c.1 c.2) (s.txq (ctlKey c.1 c.2) ++ [{ obj := some m, item := s.objectItem m data }]))
    { s with pctl := { s.pctl with due := [] } }

/-! ### Modbus polls (R292) -/

def State.polls (s : State) (i : Nat) : List Nat := NMap.get (fun _ => []) s.pctl.polls i
def State.setPolls (s : State) (i : Nat) (q : List Nat) : State :=
  { s with pctl := { s.pctl with polls := NMap.set (fun _ => []) s.pctl.polls i q } }
def State.poll (s : State) (i : Nat) : Option Nat := NMap.get (fun _ => none) s.pctl.poll i
def State.setPoll (s : State) (i : Nat) (m : Option Nat) : State :=
  { s with pctl := { s.pctl with poll := NMap.set (fun _ => none) s.pctl.poll i m } }

/-- The CRC of a Modbus RTU frame: polynomial 0xA001 in reflected form, from 0xFFFF. PRESUMED from the Modbus serial line specification, which R294
names (log 84). -/
def modbusCrc (b : List Byte) : Nat :=
  b.foldl (fun c x => (List.range 8).foldl (fun c _ => if c % 2 = 1 then Nat.xor (c / 2) 0xA001 else c / 2) (Nat.xor c x.toNat)) 0xFFFF

/-- A Modbus RTU request, followed by its CRC, low byte first (R294, Table 10-14). -/
def modbusPdu (station code addr regs : Nat) (data : List Byte) : List Byte :=
  let be := fun v => leBytes 1 (v / 256) ++ leBytes 1 v
  let b := leBytes 1 station ++ leBytes 1 code ++ be addr ++ be regs ++ (if code = 0x10 then leBytes 1 (2 * regs) ++ data else [])
  b ++ leBytes 2 (modbusCrc b)

/-- The request of the poll of object `m`. -/
def State.pollPdu (s : State) (m : Nat) : List Byte :=
  let x := s.rd (R.PCTL_MOBJ_MATCH m)
  let n := s.pollRegs m
  modbusPdu (bits x 0 8) (s.pollCode m) (bits x 16 16) n (slice (s.encodeFrame (s.rd (R.PCTL_MOBJ_FMT m))) 0 (2 * n))

/-- UART `i` is on and in hardware mode, and its bus is free for a poll: no poll and no bridge transaction is in progress, and no sequence holds or
has won it (R282, R344, R346). -/
def State.uartIdle (s : State) (i : Nat) : Bool :=
  s.ctlOn cUart i && !s.ctlRaw cUart i && (s.poll i).isNone && !s.ctlHeld cUart i && (match s.ctlPlace cUart i with
    | some (p, _) => !(decide (s.devTarget p = some (cUart, i)) && (s.busOp p).isSome)
    | none => false)

/-- Start the lowest waiting poll of UART `i`. -/
def State.startPoll (s : State) (i : Nat) : State :=
  match s.polls i with
  | [] => s
  | m :: r =>
    if ¬ s.uartIdle i ∨ s.searching cUart i then s
    else
      let m := r.foldl min m
      ((s.setPolls i ((s.polls i).erase m)).setPoll i (some m)).busOut cUart i "modbus" (s.pollPdu m)

/-- Requests wait in the bridge queue of UART `i`'s port. -/
def State.uartQueued (s : State) (i : Nat) : Bool :=
  match s.ctlPlace cUart i with
  | some (p, _) => s.devTarget p = some (cUart, i) ∧ NMap.get (fun _ => []) s.brg.queue p ≠ []
  | none => false

/-- A poll ends. A device-space request that waits goes next (R292). -/
def State.pollEnd (s : State) (i : Nat) : State :=
  let s := s.setPoll i none
  if s.uartQueued i then s else s.startPoll i

/-- At the output deadline of cycle `k` polls fall due; one that still waits is skipped. -/
def State.pollsDue (s : State) (k : Nat) : State :=
  if s.standby then s
  else
    let ms := (List.range 2048).filter fun m =>
      let per := s.rd (R.PCTL_MOBJ_PERIOD m)
      s.rd (R.PCTL_MOBJ_KIND m) = 3 ∧ s.mobjOn m cUart (s.rd (R.PCTL_MOBJ_IDX m)) ∧ s.pollCode m ∈ [3, 4, 0x10] ∧ per ≠ 0 ∧ k % per = 0
    let s := ms.foldl (fun s m =>
      let i := s.rd (R.PCTL_MOBJ_IDX m)
      if m ∈ s.polls i then s.inc (R.PCTL_UART_STAT_NORSP i) else s.setPolls i (s.polls i ++ [m])) s
    (List.range 64).foldl (fun s i => if s.polls i ≠ [] ∧ ¬ s.uartQueued i then s.startPoll i else s) s

/-- How a poll ends: with its data, with an exception response, or with no valid response within RSP_TMO. -/
inductive PollEnd where
  | data (b : List Byte) | exception | timeout
deriving DecidableEq, Repr

/-- The signals of the poll of object `m`: the points that its table feeds, or for function code 0x10 those that it reads. -/
def State.pollPoints (s : State) (m : Nat) : List Nat := s.sigPoints (s.rd (R.PCTL_MOBJ_FMT m)) (s.pollCode m = 0x10)

/-- The poll of object `m` ends: its signals are delivered, or take NO_RESPONSE in the update that follows (R292). -/
def State.pollAnswer (s : State) (i m : Nat) (e : PollEnd) : State :=
  let fails := fun (s : State) => s.markMissed (s.pollPoints m) true
  match e with
  | .data b =>
    let s := (s.markMissed (s.pollPoints m) false).autoHit cUart i 1 1
    (if s.pollCode m = 0x10 then s else s.objectTakes m b).pollEnd i
  | .exception => ((fails s).autoHit cUart i 1 1).pollEnd i
  | .timeout => ((fails s).inc (R.PCTL_UART_STAT_NORSP i)).pollEnd i

/-! ### UART blocks and rates (R286, R298) -/

/-- UART_BLOCK_END (R286): a block of received characters has ended. -/
def execUartBlockEnd (i : Fin 64) (f : BusFrame) (s : State) : Host.Outcome State Fault Refusal :=
  match s.ctlPlace cUart i with
  | none => .next s
  | some (p, x) =>
    if ¬ s.ctlOn cUart i then .next s
    else
      let item := withPair f.bytes x
      let err := bit (leAt item 4 1) 1
      let s := s.recognise p x 3
      let s := if err then s.inc (R.PCTL_UART_STAT_FRAMING i) else s
      let s := if ¬ s.ctlRaw cUart i then s
        else if err then s.setAuto (ctlKey cUart i) ((s.autoOf (ctlKey cUart i)).1, 0)
        else s.autoHit cUart i (leAt item 2 2) 4
      let s := if s.ctlRaw cUart i then s.rawIn p item else s
      .next (s.tunnelIn 3 (some (p, x)) (s.now - f.ago) item).settle

/-- A controller that searches moves to the next candidate rate, a UART in hardware mode while its bus is free for a poll (R346). A UART in hardware
mode sends the poll of its lowest active object at it, the first step at the first candidate: its count is 1 once it has sent one. -/
def State.nextRate (s : State) (k i : Nat) : State :=
  if ¬ s.searching k i ∨ ¬ s.ctlOn k i ∨ (k = cUart ∧ ¬ s.ctlRaw k i ∧ ¬ s.uartIdle i) then s
  else
    let polls := k = cUart ∧ ¬ s.ctlRaw cUart i
    let n := if k = cCan then canRates.length else uartRates.length
    let (c, m) := s.autoOf (ctlKey k i)
    let c := if polls ∧ m = 0 then c else (c + 1) % n
    let s := s.setAuto (ctlKey k i) (c, if polls ∧ ¬ s.standby then 1 else 0)
    if ¬ polls ∨ s.standby then s
    else match (s.mobjs cUart i false).find? fun m => s.pollCode m ∈ [3, 4, 0x10] ∧ s.rd (R.PCTL_MOBJ_PERIOD m) ≠ 0 with
      | none => s
      | some m => (s.setPoll i (some m)).busOut cUart i "modbus" (s.pollPdu m)

/-- AUTO_RATE_STEP (R298): the next candidate rate of a controller that searches, or what the decoders recognise on a pair of a port, which watch it
while its pins are in PAIR, whatever its mode. -/
def execAutoRateStep (k : AutoStep) (i : Fin 64) (s : State) : Host.Outcome State Fault Refusal :=
  match k with
  | .rate k => .next (s.nextRate k i)
  | .bus q seen => if s.fn i (2 * q) = fnPair then .next (s.recognise i q seen) else .next s

/-! ### IO-Link (R299, R300) -/

/-- STATE codes of PCTL_IOL_STAT. -/
abbrev iolSio : Nat := 1
abbrev iolStartup : Nat := 2
abbrev iolOperate : Nat := 4
abbrev iolFault : Nat := 5

/-- The master communicates with a device. -/
def State.iolComm (s : State) (p : Nat) : Bool := s.ctlOn cIol p ∧ (s.iolMode p = 3 ∨ s.iolMode p = 4)

/-- The result of a wake-up: COM mode 1 to 3, and the device's VendorID and DeviceID. -/
structure IolDevice where
  com : Nat
  vid : Nat
  did : Nat
deriving DecidableEq, Repr

def State.iolTries (s : State) (p : Nat) : Nat := NMap.get (fun _ => 0) s.pctl.tries p
def State.setTries (s : State) (p n : Nat) : State :=
  { s with pctl := { s.pctl with tries := NMap.set (fun _ => 0) s.pctl.tries p n } }

/-- The device passes the inspection of CHECK. -/
def State.iolInspect (s : State) (p : Nat) (d : IolDevice) : Bool :=
  s.rd (R.PCTL_IOL_CFG_CHECK p) = 0
    ∨ (d.vid = s.rd (R.PCTL_IOL_ID_VID p) ∧ d.did = s.rd (R.PCTL_IOL_ID_DID_W0 p) + s.rd (R.PCTL_IOL_ID_DID_W1 p) * 2 ^ 16)

/-- IOL_WAKEUP (R299): a wake-up sequence of port `p` ends, with the device found at COM3, COM2 or COM1, or with none. After the third that
fails L+ turns off. A standby, which drives nothing, hears its active's device answer (R303). -/
def State.iolWakeup (s : State) (p : Nat) (com : Option (Nat × Nat × Nat)) : State :=
  if ¬ s.iolComm p ∨ ¬ (s.standby ∨ s.flag (R.PORT_STAT_FP_ON p)) then s
  else match com with
  | some (c, v, d) =>
    let ok := s.iolInspect p ⟨c, v, d⟩
    let s := ((s.setTries p 0).wr (R.PCTL_IOL_STAT_COM_DET p) c).wr (R.PCTL_IOL_STAT_STATE p) (if ok then iolOperate else iolFault)
    (s.condCtl cIol p qNoResponse false).condCtl cIol p qFault (!ok)
  | none =>
    let n := s.iolTries p + 1
    let s := ((s.wr (R.PCTL_IOL_STAT_STATE p) iolStartup).wr (R.PCTL_IOL_STAT_COM_DET p) 0).condCtl cIol p qNoResponse true
    if n < 3 ∨ s.standby then s.setTries p (min n 2)
    else ({ s.setTries p 0 with pctl := { (s.setTries p 0).pctl with lplusOff := p :: s.pctl.lplusOff.filter (· ≠ p) } }).setFp p false

def execIolWakeup (p : Fin 64) (com : Option (Nat × Nat × Nat)) (s : State) : Host.Outcome State Fault Refusal := .next (s.iolWakeup p com)

/-- L+ of an IO-Link port is on at an output deadline: from the first one after READY, unless the master is deactivated or waits out its 1 s
(R299). -/
def State.iolPower (s : State) (p : Nat) : State :=
  if s.fpMode p ≠ 3 then s
  else
    let on := s.ctlOn cIol p ∧ p ∉ s.pctl.lplusOff ∧ ¬ s.flag (R.PORT_STAT_FP_TRIP p) ∧ s.powered ∧ ¬ s.standby
    let s := if s.flag (R.PORT_STAT_FP_ON p) = decide on then s else s.setFp p on
    if s.ctlOn cIol p ∧ (s.iolMode p = 1 ∨ s.iolMode p = 2) then s.wr (R.PCTL_IOL_STAT_STATE p) iolSio else s

/-- IOL_POWER_RETRY (R299): L+ has been off for 1 s. -/
def execIolPowerRetry (p : Fin 64) (s : State) : Host.Outcome State Fault Refusal :=
  if p.val ∈ s.pctl.lplusOff then
    .next (({ s with pctl := { s.pctl with lplusOff := s.pctl.lplusOff.filter (· ≠ p.val) } }).iolPower p)
  else .next s

/-- IOL_RESTART (Table 10-12): PCTL_CMD restarts the master, which wakes its device again. One that is disabled or deactivated is inactive. -/
def State.iolRestart (s : State) (p : Nat) : State :=
  ((s.setTries p 0).wr (R.PCTL_IOL_STAT_COM_DET p) 0).wr (R.PCTL_IOL_STAT_STATE p)
    (if ¬ s.ctlOn cIol p then 0 else if s.iolComm p then iolStartup else iolSio)

def execIolRestart (p : Fin 64) (s : State) : Host.Outcome State Fault Refusal := .next (s.iolRestart p)

/-- IOL_DEVICE_LOST (R300). -/
def execIolDeviceLost (p : Fin 64) (s : State) : Host.Outcome State Fault Refusal :=
  if s.iolComm p ∧ s.rd (R.PCTL_IOL_STAT_COM_DET p) ≠ 0 then
    .next ((((s.wr (R.PCTL_IOL_STAT_COM_DET p) 0).wr (R.PCTL_IOL_STAT_STATE p) iolStartup).inc (R.PCTL_IOL_STAT_DEV_LOST p)).condCtl
      cIol p qNoResponse true)
  else .next s

/-- IOL_PD_RECEIVE (R299): process data in, with its valid flag. -/
def execIolPdReceive (p : Fin 64) (valid : Bool) (data : List Byte) (s : State) : Host.Outcome State Fault Refusal :=
  if ¬ s.iolComm p ∨ s.rd (R.PCTL_IOL_STAT_STATE p) ≠ iolOperate then .next s
  else if s.ctlRaw cIol p then
    .next (s.rawIn p (leBytes 1 4 ++ leBytes 1 0 ++ leBytes 2 data.length ++ leBytes 1 (bnat valid) ++ leBytes 11 0 ++ data)).settle
  else if ¬ s.flag (R.PCTL_IOL_FMT_IN_EN p) then .next s
  else if valid then .next ((s.condCtl cIol p qFault false).decodeFrame (s.rd (R.PCTL_IOL_FMT_FMT_IN p)) data)
  else .next (s.condCtl cIol p qFault true)

/-- IOL_EVENT_RECEIVE (R285): EventQualifier and EventCode. -/
def execIolEventReceive (p : Fin 64) (data : List Byte) (s : State) : Host.Outcome State Fault Refusal :=
  if ¬ s.iolComm p ∨ s.rd (R.PCTL_IOL_STAT_COM_DET p) = 0 then .next s
  else
    let s := s.inc (R.PCTL_IOL_STAT_EVENTS p)
    .next (if s.ctlRaw cIol p then s.rawIn p (leBytes 1 5 ++ leBytes 1 0 ++ leBytes 2 3 ++ leBytes 12 0 ++ slice data 0 3) else s).settle

/-! ### Errors (R300) -/

/-- The FLT_STATUS bit of a cluster (Table 10-1). -/
def clusterBit (k : Nat) : Nat := if k = cCan then 37 else if k = cSpe then 38 else if k = cUart then 39 else 40

/-- A controller loses what it holds: its transmit queue, its received items, and the bus operation in progress on its device target (R300). -/
def State.dropItems (s : State) (k i : Nat) : State :=
  let s := s.setTxq (ctlKey k i) []
  match s.ctlPlace k i with
  | some (p, x) =>
    let s := s.setRxq p ((s.rxq p).filter fun (y : RawItem) =>
      if x = 2 then leAt y.bytes 0 1 < 4 else 4 ≤ leAt y.bytes 0 1 ∨ leAt y.bytes 1 1 % 2 ≠ x)
    if s.devTarget p = some (k, i) then s.setBusOp p none else s
  | none => s

/-- The restart of a controller after an uncorrectable error (R300). -/
def State.restartController (s : State) (k i : Nat) : State :=
  let s := s.dropItems k i
  let s := if k = cUart then ((s.setPolls i []).setPoll i none).wr (R.PCTL_UART_STAT_BAUD_DET i) 0 else s
  let s := if k = cCan then
      (({ s with pctl := { s.pctl with dbr := NMap.set (fun _ => 0) s.pctl.dbr i 0 } }.wr (R.PCTL_CAN_STAT_NBR_DET i) 0).canRejoin i).canCounters i 0 0
    else s
  let s := if k = cIol then s.iolRestart i else s
  s.setAuto (ctlKey k i) (0, 0)

/-- CONTROLLER_ERROR (R300): an error in a controller's buffers. Uncorrectable, it restarts the controller, which loses its queued items. -/
def execControllerError (k : Fin 5) (i : Fin 64) (uncorrectable : Bool) (s : State) : Host.Outcome State Fault Refusal :=
  if k.val = 0 then .next s
  else if uncorrectable then .next ((s.restartController k i).raise (clusterBit k) .U)
  else .next (s.raise (clusterBit k) .C)

end Sys2Proof.Machine
end

