-- ==== Sys2Proof/Machine/Pins.lean ====
section
/-!
DEFINITION. Field ports and universal pins (chapter 08): accepted and raw edges, chatter and stuck inputs, output latches, drivers, FP
switches, open wires and shorts, field power, and the thermal budget manager.
-/

namespace Sys2Proof.Machine

/-! ### Inputs (R235 to R238) -/

/-- The edge is of the kind that EDGE selects. -/
def State.edgeCounts (s : State) (p x : Nat) (rising : Bool) : Bool :=
  let e := s.rd (R.PORT_DIL_EDGE p x)
  e = 2 ∨ (e = 1) = !rising

/-- Count an edge; PORT_EDGE shows the low 32 bits. -/
def State.countEdge (s : State) (p x : Nat) (rising : Bool) : State :=
  if s.edgeCounts p x rising then
    let n := ((s.pin p x).edges + 1) % 2 ^ 64
    (s.setPin p x { s.pin p x with edges := n }).wr (R.PORT_EDGE_COUNT p x) (n % 2 ^ 32)
  else s

/-- A level of the comparator, or the direction of an edge of it, as INV makes it (R234). -/
def State.invert (s : State) (p x : Nat) (level : Bool) : Bool := level != s.flag (R.PORT_DIL_INV p x)

/-- The nanosecond counts of the eight domains when the raw input crossed its threshold, `n` filter times ago (R215). -/
def State.crossing (s : State) (p x n : Nat) : List Nat :=
  let t := s.now - n * (s.rd (R.PORT_DIF_FILT p x) * 8 * 65536)
  (List.range 8).map fun d => nsCount (s.tdStamp d t)

/-- The filter accepts a level, after INV, that the raw input has held for `n` filter times: LEVEL, the stamp of a change, the raw count
restarts, and STUCK ends. -/
def State.acceptLevel (s : State) (p x n : Nat) (level count : Bool) : State :=
  let old := bit (s.rd (R.PORT_STAT_LEVEL p)) x
  let v := s.pin p x
  if old = level then s.setPin p x { v with raw := 0 }
  else
    let t := some (s.crossing p x n)
    let s := s.setPin p x (if level then { v with raw := 0, rise := t } else { v with raw := 0, fall := t })
    let s := s.wrBit (R.PORT_STAT_LEVEL p) x level
    let s := if count then s.countEdge p x level else s
    (s.wrBit (R.PORT_DIAG_STUCK p) x false).refreshPort p

/-- A raw edge (R237): it counts toward CHAT_N, and in the edge counter while the pin is chattering. -/
def State.rawEdge (s : State) (p x : Nat) (rising : Bool) : State :=
  let v := s.pin p x
  let s := s.setPin p x { v with raw := v.raw + 1 }
  if bit (s.rd (R.PORT_DIAG_CHAT p)) x then s.countEdge p x rising
  else if s.rd (R.PORT_DIT_CHAT_N p x) ≠ 0 ∧ s.rd (R.PORT_DIT_CHAT_N p x) ≤ v.raw + 1 then
    (s.wrBit (R.PORT_DIAG_CHAT p) x true).refreshPort p
  else s

/-- PIN_EDGE (R235, R237): the glitch filter accepts a level of the comparator, which the raw input has held for FILT × 8 ns, or a raw edge occurs
that it has not accepted. -/
def execPinEdge (p : Fin 64) (x : Fin 4) (e : PinEvent) (s : State) : Host.Outcome State Fault Refusal :=
  if ¬ s.digital p x then .next s
  else match e with
    | .accepted level => if bit (s.rd (R.PORT_DIAG_CHAT p)) x then .next s else .next (s.acceptLevel p x 1 (s.invert p x level) true)
    | .raw rising => .next (s.rawEdge p x (s.invert p x rising))

/-- CHATTER_END (R237): the raw input has been stable for 8 × FILT; the filter accepts the level, whose raw edges have been counted. -/
def execChatterEnd (p : Fin 64) (x : Fin 4) (level : Bool) (s : State) : Host.Outcome State Fault Refusal :=
  if bit (s.rd (R.PORT_DIAG_CHAT p)) x then
    .next (((s.acceptLevel p x 8 (s.invert p x level) false).wrBit (R.PORT_DIAG_CHAT p) x false).refreshPort p)
  else .next s

/-- STUCK_TIMEOUT (R236): an active level has been held beyond STUCK ms. -/
def execStuckTimeout (p : Fin 64) (x : Fin 4) (s : State) : Host.Outcome State Fault Refusal :=
  if s.digital p x ∧ bit (s.rd (R.PORT_STAT_LEVEL p)) x ∧ s.rd (R.PORT_DIT_STUCK p x) ≠ 0 then
    .next ((s.wrBit (R.PORT_DIAG_STUCK p) x true).refreshPort p)
  else .next s

/-! ### Outputs (R240) -/

/-- DO_CURRENT_LIMIT_LATCH (R240): current limit for 1 ms, or an overheated driver, turns the pin off and latches it; overheating sets OTEMP
and raises a C fault on bit 43. -/
def execDoCurrentLimitLatch (p : Fin 64) (x : Fin 4) (hot : Bool) (s : State) : Host.Outcome State Fault Refusal :=
  if ¬ (s.fn p x = fnDoHs ∨ s.fn p x = fnDoPp) ∨ ¬ (s.pin p x).driving then .next s
  else
    let s := s.setPin p x { s.pin p x with latched := true, driving := false, held := false }
    let s := (s.wrBit (R.PORT_DIAG_SHORT p) x true).refreshPort p
    .next (if hot then (s.wrBit (R.PORT_DIAG_OTEMP p) x true).raise 43 .C else s)

/-- DO_RETRY (R240): RETRY × 100 ms have passed; the latch clears, and the pin waits for the next deadline that applies 1. -/
def execDoRetry (p : Fin 64) (x : Fin 4) (s : State) : Host.Outcome State Fault Refusal :=
  if s.rd (R.PORT_DO_RETRY p x) ≠ 0 ∧ ¬ (x.val = 2 ∧ s.fn p x = fnAo) then .next (s.unlatch p x) else .next s

/-! ### Drivers (R232, R278) -/

/-- DRIVER_OVERHEAT: a pair driver (`d` 0 or 1) enters thermal shutdown and turns off (C fault on bit 42), or the AO stage of pin C (`d` 2) overheats
(C fault on bit 41). The drivers of a standby are held off (R257). -/
def execDriverOverheat (p : Fin 64) (d : Fin 3) (s : State) : Host.Outcome State Fault Refusal :=
  if s.standby then .next s
  else if d.val = 2 then
    if s.fn p 2 ≠ fnAo then .next s
    else .next (((s.setPin p 2 { s.pin p 2 with hot := true, driving := false }).wrBit (R.PORT_DIAG_OTEMP p) 2 true).raise 41 .C)
  else if ¬ s.pairOn p d then .next s
  else
    let k := 2 * p.val + d.val
    let s := { s with fld := { s.fld with pairHot := if k ∈ s.fld.pairHot then s.fld.pairHot else k :: s.fld.pairHot } }
    .next (((s.suspendPin p (2 * d.val)).wrBit (R.PORT_DIAG_PAIR_OTEMP p) d true).raise 42 .C)

/-- DRIVER_COOLED: the driver turns back on; an AO stage drives again what was last applied. -/
def execDriverCooled (p : Fin 64) (d : Fin 3) (s : State) : Host.Outcome State Fault Refusal :=
  if d.val = 2 then
    if (s.pin p 2).hot then
      let s := s.setPin p 2 { s.pin p 2 with hot := false }
      .next (s.setPin p 2 { s.pin p 2 with driving := s.mayDrive p 2 })
    else .next s
  else .next ({ s with fld := { s.fld with pairHot := s.fld.pairHot.filter (· ≠ 2 * p.val + d.val) } }.resumePin p (2 * d.val))

/-! ### FP switches (R244, R481) -/

/-- FP_BREAKER_TRIP (R244, R479). -/
def execFpBreakerTrip (p : Fin 64) (s : State) : Host.Outcome State Fault Refusal :=
  if ¬ s.flag (R.PORT_STAT_FP_ON p) then .next s
  else
    let h := (4 + p.val) :: s.pwr.brkHot.filter (· ≠ 4 + p.val)
    let s := { s with pwr := { s.pwr with brkHot := h } }
    .next (((s.wr (R.PORT_STAT_FP_TRIP p) 1).wr (R.PORT_DIAG_FP_SHORT p) 1).setFp p false)

/-- FP_TRIP_CLEAR (R244): a write of 1 to FP_TRIP is a clearing event. -/
def execFpTripClear (p : Fin 64) (s : State) : Host.Outcome State Fault Refusal := .next (s.fpClearEvent p)

/-! ### Open wires and shorts (R247, R248, Table 08-3) -/

/-- Table 08-3 gives a method for the condition on the pin (4: FP) in its present function. -/
def State.detects (s : State) (p x : Nat) (short : Bool) : Bool :=
  if x = 4 then ¬ short ∧ s.flag (R.PORT_FP_CFG_OL_EN p) ∧ s.fpMode p ≠ 0
  else
    let f := s.fn p x
    (f = fnDi24 ∧ ¬ short ∧ s.flag (R.PORT_DIL_WB_EN p x)) ∨ (f = fnDoHs ∧ s.flag (R.PORT_DO_OL_EN p x))
      ∨ (f = fnDoPp ∧ ¬ short ∧ s.flag (R.PORT_DO_OL_EN p x))

/-- The pin (4: FP) is in a function of Table 08-3 whose conditions the port itself finds: a condition ends there once it has been absent, also where
its detection has been turned off since (R247). -/
def State.ends (s : State) (p x : Nat) : Bool := x = 4 ∨ s.fn p x = fnDi24 ∨ s.fn p x = fnDoHs ∨ s.fn p x = fnDoPp

/-- FIELD_CONDITION_DETECT (R247): an open wire or a short has held (`on`), or been absent, for its detection time. The SHORT latches of R240 and R244
end by their own rules. -/
def execFieldConditionDetect (p : Fin 64) (x : Fin 5) (short on : Bool) (s : State) : Host.Outcome State Fault Refusal :=
  if ¬ (if on then s.detects p x short else s.ends p x) ∨ (short ∧ ((s.pin p x).latched ∨ x.val = 4)) then .next s
  else
    let s := if x.val = 4 then s.wr (R.PORT_DIAG_FP_OPEN p) (bnat on)
      else if short then s.wrBit (R.PORT_DIAG_SHORT p) x on else s.wrBit (R.PORT_DIAG_OPEN p) x on
    .next (s.refreshPort p)

/-! ### Field power (R224) -/

/-- FIELD_POWER_LOSS: every output that draws on field power turns off, and its points take FAULT. -/
def State.fieldPowerLoss (s : State) : State :=
  let s := { s with fld := { s.fld with power := false, powerBack := false } }
  (List.range 64).foldl (fun s p =>
    let s := (List.range 4).foldl (fun s x => if onField (s.fn p x) then s.suspendPin p x else s) s
    (s.wr (R.PORT_STAT_FP_ON p) 0).refreshPort p) s

def execFieldPowerLoss (s : State) : Host.Outcome State Fault Refusal := .next s.fieldPowerLoss

/-- FIELD_POWER_RETURN: the outputs resume at the next output deadline. -/
def execFieldPowerReturn (s : State) : Host.Outcome State Fault Refusal :=
  let s := { s with fld := { s.fld with power := true, powerBack := !s.fld.power || s.fld.powerBack } }
  .next ((List.range 64).foldl (fun s p => s.refreshPort p) s)

/-! ### Thermal budget (R249 to R254) -/

/-- The budget cost of an item of a port as configured (Table 08-4): pins 0 to 3, pairs 4 and 5; 0 where it has none. -/
def State.cost (s : State) (p i : Nat) : Nat :=
  if i < 4 then
    let f := s.fnLoad p i
    if f = fnAo ∧ i = 2 then (if s.rd (R.MEAS_AO_RANGE p) = 2 then 650 else 0)
    else if (f = fnDoHs ∨ f = fnDoPp) ∧ 100 < s.rd (R.PORT_DO_LIMIT p i) then s.rd (R.PORT_DO_LIMIT p i) ^ 2 / 500
    else 0
  else if s.fnLoad p (2 * (i - 4)) = fnPair ∧ s.pairMode p (i - 4) ≤ 1 ∧ s.flag (pairFld p (i - 4) 5 1)
      ∧ ¬ (i = 5 ∧ s.rs422 p) then 320 else 0

/-- Mark an item refused or not. -/
def State.setRefused (s : State) (p i : Nat) (b : Bool) : State :=
  if i < 4 then s.wrBit (R.PORT_STAT_REFUSED p) i b else s.wrBit (R.PORT_STAT_REFUSED_PAIR p) (i - 4) b

/-- Check one item for admission (R250, R251): its cost replaces what it was admitted with, unless that would exceed BUDGET. -/
def State.admitItem (s : State) (p i : Nat) : State :=
  let k := 8 * p + i
  let old := NMap.get (fun _ => 0) s.fld.admitted k
  let c := s.cost p i
  if c = old then (if c = 0 then s.setRefused p i false else s)
  else
    let rest := s.rd R.PWR_TBM_STAT_COMMITTED - old
    let ok : Bool := c = 0 ∨ rest + c ≤ s.rd R.PWR_TBM_BUDGET_BUDGET
    let now := if ok then c else 0
    let s := { s with fld := { s.fld with admitted := NMap.set (fun _ => 0) s.fld.admitted k now } }
    let s := (s.wr R.PWR_TBM_STAT_COMMITTED (rest + now)).setRefused p i (!ok)
    if ok then s
    else
      let s := s.inc R.PWR_TBM_CNT_REFUSED
      let pins := if i < 4 then [i] else [2 * (i - 4), 2 * (i - 4) + 1]
      let s := pins.foldl (fun s x => s.pinOff p x) s
      (pins.flatMap fun x => s.pinPoints p x).foldl (fun s n => s.setPoint n { s.point n with notReady := true, value := (s.point n).safe, quality := 0xCC }) s

/-- Admission at bundle load (R250): SHED class 3 first, then by port, pins A to D, pair 0, pair 1. -/
def State.admitAll (s : State) : State :=
  [3, 2, 1, 0].foldl (fun s cls => (List.range 64).foldl (fun s p =>
    if s.rd (R.PORT_FN_SHED p) = cls then (List.range 6).foldl (fun s i => s.admitItem p i) s else s) s) s

/-- The kind of a costed item in the derating order: 0 DO pin, 1 AO pin, 2 pair (R252). -/
def State.shedKind (s : State) (k : Nat) : Nat :=
  if 4 ≤ k % 8 then 2 else if s.fnRaw (k / 8) (k % 8) = fnAo then 1 else 0

/-- The function to derate next: SHED 0 first, DO pins, then AO pins, then pairs, from the highest port and item down (R252). -/
def State.nextDerate (s : State) : Option Nat :=
  let cand := s.fld.admitted.keys.filter fun k => k ∉ s.fld.derated ∧ s.rd (R.PORT_FN_SHED (k / 8)) ≠ 3
  let rank := fun k => (s.rd (R.PORT_FN_SHED (k / 8)) * 4 + s.shedKind k) * 512 + (511 - k)
  cand.foldl (fun b k => match b with
    | none => some k
    | some q => if rank k < rank q then some k else some q) none

/-- Set the DERATED bit of an item and take its port's conditions anew. -/
def State.setDerated (s : State) (k : Nat) (b : Bool) : State :=
  let p := k / 8
  let i := k % 8
  (if i < 4 then s.wrBit (R.PORT_STAT_DERATED p) i b else s.wrBit (R.PORT_STAT_DERATED_PAIR p) (i - 4) b).refreshPort p

/-- A die is at or above the maximum junction temperature minus 5 °C, or no longer (R487): U on bit 4 when it begins, and its cause persists. -/
def State.dieHot (s : State) (hot : Bool) : State :=
  let was := s.flt.persist.any fun x => x.1 = 4
  let s := s.persists 4 .U hot
  if hot ∧ ¬ was then s.raise 4 .U else s

/-- Derate one more function (R252): a pin or pair driver turns off; a derated pair keeps its receiver. -/
def State.derate (s : State) : State :=
  match s.nextDerate with
  | none => s
  | some k =>
    let s := { s with fld := { s.fld with derated := k :: s.fld.derated, restored := s.fld.restored.filter (· ≠ k) } }
    let s := s.suspendPin (k / 8) (if k % 8 < 4 then k % 8 else 2 * (k % 8 - 4))
    (s.setDerated k true).inc R.PWR_TBM_CNT_DERATE

/-- DERATE_STEP (R252). Which of the two conditions holds, DISSIP or a hot die, the command does not say: a free value does (log 68). -/
def execDerateStep (s : State) : Host.Outcome State Fault Refusal :=
  let (v, s) := s.draw
  .next (s.derate.dieHot (decide (v % 2 = 1)))

/-- RESTORE_STEP (R253): every die is cool, and the function derated last is restored; its output resumes at the next output deadline. -/
def execRestoreStep (s : State) : Host.Outcome State Fault Refusal :=
  let s := s.dieHot false
  match s.fld.derated with
  | [] => .next s
  | k :: r => .next (({ s with fld := { s.fld with derated := r, restored := k :: s.fld.restored } }).setDerated k false)

/-- TJ_MAX_REACHED (R254): an F fault on bit 4. -/
def execTjMaxReached (s : State) : Host.Outcome State Fault Refusal := .next (s.raise 4 .F)

end Sys2Proof.Machine
end

