-- ==== Sys2Proof/Machine/Briar.lean ====
section
/-!
DEFINITION. Briar engines (chapter 11): one channel cycle of each opcode, stalls, pins, starts and halts, bank swaps, and the frames that
points exchange with the FIFOs.
-/

namespace Sys2Proof.Machine

/-! ### Binding and pins (R307, R310, R311, R329, R233) -/

/-- The channel bound to a port: the first of those that name it, in ascending order of engine and channel. -/
def State.portChan (s : State) (p : Nat) : Option Nat :=
  (List.range 256).find? fun k => s.flag (R.ENG_CH_CFG_PORT_EN (k / 16) (k % 16)) ∧ s.rd (R.ENG_CH_CFG_PORT (k / 16) (k % 16)) = p

/-- The port that channel `c` of engine `e` is bound to. -/
def State.chanPort (s : State) (e c : Nat) : Option Nat :=
  let p := s.rd (R.ENG_CH_CFG_PORT e c)
  if s.portChan p = some (16 * e + c) then some p else none

/-- The channel executes. -/
def chanLive (x : Chan) : Bool := x.st = chRun ∨ x.st = chStalled

/-- Drive a pin or a pair from a channel that asks for it (`on`), while its stage may drive. -/
def State.chanDrive (s : State) (p x : Nat) (level on : Bool) : State :=
  let may := s.stageOn p x
  s.setPin p x { s.pin p x with applied := bnat level, driving := on && may && !s.inSafe, held := on && !may && !s.inSafe }

/-- The pins of port `p` follow its bound channel; they are released while none is bound, or while it is HALTED or in WAIT_START. In the
safe state they keep what entry gave them (R330). -/
def State.applyChan (s : State) (p : Nat) : State :=
  let y : Chan := match s.portChan p with
    | some k => s.chan (k / 16) (k % 16)
    | none => {}
  let live := chanLive y
  let lv := fun x => bit y.pins x
  let s := (List.range 4).foldl (fun s x =>
    if s.fn p x = fnLogicBriar then s.chanDrive p x (lv x) (live && bit y.dirs x)
    else if (s.fn p x = fnDoHs ∨ s.fn p x = fnDoPp) ∧ s.flag (R.PORT_DO_SRC p x) ∧ ¬ s.inSafe then s.applyDo p x (live && lv x)
    else s) s
  (List.range 2).foldl (fun s i =>
    if s.pairKind p i = cBriar ∧ s.pairOn p i then
      (if s.pairMode p i = 1 then (if i = 0 then s.chanDrive p 0 (lv 0) live else s)
       else s.chanDrive p (2 * i) (lv (2 * i)) (live && lv (2 * i + 1)))
    else s) s

/-- The level at which a channel reads pin `x` of its port (R311): `lv` gives the synchronised levels of LOGIC_BRIAR pins and of the
receivers of BRIAR pairs. -/
def State.pinRead (s : State) (port : Option Nat) (lv x : Nat) : Bool :=
  match port with
  | none => false
  | some p =>
    let f := s.fn p x
    if f = fnLogicBriar ∨ (f = fnPair ∧ s.lineKind p x = cBriar) then bit lv x
    else if isDigital f then bit (s.rd (R.PORT_STAT_LEVEL p)) x else false

/-- The four levels rotated by PIN_BASE, bit i for pin (PIN_BASE + i) mod 4 (R314). -/
def State.pinsRead (s : State) (e c lv : Nat) : Nat :=
  let b := s.rd (R.ENG_CH_CFG_PIN_BASE e c)
  let port := s.chanPort e c
  (List.range 4).foldl (fun n i => n + bnat (s.pinRead port lv ((b + i) % 4)) * 2 ^ i) 0

/-- PINS or PINDIRS with its `n` bits from PIN_BASE on replaced by those of `v` (R314, R317). -/
def rotWrite (old base n v : Nat) : Nat :=
  (List.range (min 4 n)).foldl (fun w i => setBits w ((base + i) % 4) 1 (bits v i 1)) old

/-! ### Fields of an instruction word (R313, R314) -/

def opcodeOf (w : Nat) : Nat := bits w 28 4
def delayOf (w : Nat) : Nat := bits w 23 5

/-- An instruction that a channel does not execute (R314). -/
def badInsn (w : Nat) : Bool :=
  match opcodeOf w with
  | 0 => 12 ≤ bits w 14 4
  | 1 => bits w 15 2 = 3 ∨ (bits w 15 2 ≠ 1 ∧ 4 ≤ bits w 12 3)
  | 2 => bits w 15 3 = 7
  | 3 => bits w 15 3 = 7
  | 6 => bits w 15 3 = 7 ∨ bits w 13 2 = 3 ∨ bits w 10 3 = 7
  | 7 => 4 ≤ bits w 15 3
  | 8 => bits w 16 2 = 3
  | 9 => bits w 16 2 = 3
  | 10 => bits w 15 2 = 3
  | n => 12 ≤ n

/-- The program word at address `a` of a bank. -/
def State.progWord (s : State) (e b a : Nat) : Nat := (NMap.get (fun _ => (0 : Word)) s.eng.prog (2048 * e + 1024 * b + a)).toNat

/-- COUNT: 0 means 32. -/
def countOf (n : Nat) : Nat := if n = 0 then 32 else n
def State.pushThr (s : State) (e c : Nat) : Nat := countOf (s.rd (R.ENG_CH_CFG_PUSH_THR e c))
def State.pullThr (s : State) (e c : Nat) : Nat := countOf (s.rd (R.ENG_CH_CFG_PULL_THR e c))

/-! ### What one cycle does -/

/-- The outcome of an instruction in one cycle: the state (its sticky bits and events), the channel, whether it wrote PC, and whether it
cannot complete now. -/
structure BRes where
  s : State
  x : Chan
  jumped : Bool := false
  stall : Bool := false

/-- A push of ISR (R319): `block` stalls on a full RX FIFO. -/
def State.bPush (s : State) (e c : Nat) (x : Chan) (block : Bool) : BRes :=
  if 32 ≤ x.rx.length then
    if block then ⟨s, x, false, true⟩
    else ⟨s.wr (R.ENG_CH_ERR_RX_OVERRUN e c) 1, { x with isr := 0, isrCnt := 0 }, false, false⟩
  else ⟨s, { x with rx := x.rx ++ [(x.isr, s.now)], isr := 0, isrCnt := 0 }, false, false⟩

/-- A pull into OSR (R319): on an empty TX FIFO it stalls with `block`, else it loads the idle word. -/
def State.bPull (s : State) (e c : Nat) (x : Chan) (block : Bool) : BRes :=
  match x.tx with
  | w :: r => ⟨s, { x with osr := w, osrCnt := 0, tx := r }, false, false⟩
  | [] =>
    if block then ⟨s, x, false, true⟩
    else ⟨s.wr (R.ENG_CH_ERR_TX_UNDERRUN e c) 1, { x with osr := s.rd (R.ENG_CH_IDLE_IDLE e c), osrCnt := 0 }, false, false⟩

/-- JMP (R319). -/
def State.bJmp (s : State) (e c lv w : Nat) (x : Chan) : BRes :=
  let y := bit w 13
  let reg := if y then x.y else x.x
  let other := if y then x.x else x.y
  let cond := bits w 14 4
  let dec := (reg + 2 ^ 32 - 1) % 2 ^ 32
  let pin := s.pinRead (s.chanPort e c) lv (bits w 11 2)
  let x := if cond = 3 then (if y then { x with y := dec } else { x with x := dec }) else x
  let take : Bool := match cond with
    | 0 => true
    | 1 => reg == 0
    | 2 => reg != 0
    | 3 => dec != 0
    | 4 => x.x == x.y
    | 5 => decide (reg < other)
    | 6 => pin
    | 7 => !pin
    | 8 => x.tx.isEmpty
    | 9 => decide (32 ≤ x.rx.length)
    | 10 => decide (s.pullThr e c ≤ x.osrCnt)
    | _ => decide (s.pushThr e c ≤ x.isrCnt)
  if take then ⟨s, { x with pc := bits w 0 10 }, true, false⟩ else ⟨s, x, false, false⟩

/-- WAIT (R321): `again` re-evaluates a stalled one. A WAIT IRQ waits for an occurrence after its own cycle. -/
def State.bWait (s : State) (e c lv w : Nat) (again : Bool) (x : Chan) : BRes :=
  let i := bits w 12 3
  let pol := bit w 17
  match bits w 15 2 with
  | 0 => ⟨s, x, false, s.pinRead (s.chanPort e c) lv i != pol⟩
  | 1 =>
    if bit x.flags i = pol then ⟨s, if pol && bit w 11 then { x with flags := setBits x.flags i 1 0 } else x, false, false⟩
    else ⟨s, x, false, true⟩
  | _ => if again then ⟨s, x, false, !x.irq⟩ else ⟨s, { x with irq := false }, false, true⟩

/-- IN (R317, R319), with its automatic push. -/
def State.bIn (s : State) (e c lv w : Nat) (x : Chan) : BRes :=
  let n := countOf (bits w 0 5)
  let src := match bits w 15 3 with
    | 0 => s.pinsRead e c lv
    | 1 => x.x
    | 2 => x.y
    | 3 => 0
    | 4 => x.isr
    | 5 => x.osr
    | _ => nsCount (s.tdNow (bits w 12 3)) % 2 ^ 32
  let v := src % 2 ^ n
  let isr := if s.flag (R.ENG_CH_CFG_IN_DIR e c) then x.isr / 2 ^ n + v * 2 ^ (32 - n) else (x.isr * 2 ^ n + v) % 2 ^ 32
  let x := { x with isr := isr, isrCnt := min 32 (x.isrCnt + n) }
  if s.flag (R.ENG_CH_CFG_AUTOPUSH e c) ∧ s.pushThr e c ≤ x.isrCnt then s.bPush e c x false else ⟨s, x, false, false⟩

/-- OUT (R317, R319), with its automatic pull. -/
def State.bOut (s : State) (e c w : Nat) (x : Chan) : BRes :=
  let n := countOf (bits w 0 5)
  let right := s.flag (R.ENG_CH_CFG_OUT_DIR e c)
  let v := if right then x.osr % 2 ^ n else x.osr / 2 ^ (32 - n)
  let x := { x with osr := if right then x.osr / 2 ^ n else x.osr * 2 ^ n % 2 ^ 32, osrCnt := min 32 (x.osrCnt + n) }
  let b := s.rd (R.ENG_CH_CFG_PIN_BASE e c)
  let dst := bits w 15 3
  let x := match dst with
    | 0 => { x with pins := rotWrite x.pins b n v }
    | 1 => { x with x := v }
    | 2 => { x with y := v }
    | 4 => { x with dirs := rotWrite x.dirs b n v }
    | 5 => { x with pc := v % 1024 }
    | 6 => { x with isr := v, isrCnt := n }
    | _ => x
  let r : BRes := if s.flag (R.ENG_CH_CFG_AUTOPULL e c) ∧ s.pullThr e c ≤ x.osrCnt then s.bPull e c x false else ⟨s, x, false, false⟩
  { r with jumped := dst == 5 }

/-- PUSH (R319). -/
def State.bPushInsn (s : State) (e c w : Nat) (x : Chan) : BRes :=
  if bit w 17 ∧ x.isrCnt < s.pushThr e c then ⟨s, x, false, false⟩ else s.bPush e c x (bit w 16)

/-- PULL (R319). -/
def State.bPullInsn (s : State) (e c w : Nat) (x : Chan) : BRes :=
  if bit w 17 ∧ x.osrCnt < s.pullThr e c then ⟨s, x, false, false⟩ else s.bPull e c x (bit w 16)

/-- The low `n` bits of a number in reverse order. -/
def bitReverse (n v : Nat) : Nat := (List.range n).foldl (fun w i => w + bits v i 1 * 2 ^ (n - 1 - i)) 0

/-- MOV (R319). -/
def State.bMov (s : State) (e c lv w : Nat) (x : Chan) : BRes :=
  let src := match bits w 10 3 with
    | 0 => s.pinsRead e c lv
    | 1 => x.x
    | 2 => x.y
    | 3 => 0
    | 4 => x.tx.length + x.rx.length * 2 ^ 8 + x.flags * 2 ^ 16
    | 5 => x.isr
    | _ => x.osr
  let v := match bits w 13 2 with
    | 1 => 2 ^ 32 - 1 - src
    | 2 => bitReverse 32 src
    | _ => src
  let b := s.rd (R.ENG_CH_CFG_PIN_BASE e c)
  match bits w 15 3 with
  | 0 => ⟨s, { x with pins := rotWrite x.pins b 4 v }, false, false⟩
  | 1 => ⟨s, { x with x := v }, false, false⟩
  | 2 => ⟨s, { x with y := v }, false, false⟩
  | 3 => ⟨s, { x with dirs := rotWrite x.dirs b 4 v }, false, false⟩
  | 4 => ⟨s, { x with pc := v % 1024 }, true, false⟩
  | 5 => ⟨s, { x with isr := v, isrCnt := 0 }, false, false⟩
  | _ => ⟨s, { x with osr := v, osrCnt := 0 }, false, false⟩

/-- SET (R319). -/
def State.bSet (s : State) (e c w : Nat) (x : Chan) : BRes :=
  let v := bits w 0 15
  let b := s.rd (R.ENG_CH_CFG_PIN_BASE e c)
  match bits w 15 3 with
  | 0 => ⟨s, { x with pins := rotWrite x.pins b 4 v }, false, false⟩
  | 1 => ⟨s, { x with x := v }, false, false⟩
  | 2 => ⟨s, { x with y := v }, false, false⟩
  | _ => ⟨s, { x with dirs := rotWrite x.dirs b 4 v }, false, false⟩

/-- IRQ (R319): POST also sets POSTED and raises the PF0 vector. -/
def State.bIrq (s : State) (e c w : Nat) (x : Chan) : BRes :=
  let f := bits w 12 3
  match bits w 16 2 with
  | 0 => ⟨s, { x with flags := setBits x.flags f 1 1 }, false, false⟩
  | 1 => ⟨s, { x with flags := setBits x.flags f 1 0 }, false, false⟩
  | _ =>
    let s := s.wrBit (R.ENG_EVT_POSTED e) c true
    ⟨if s.flag (R.ENG_EVT_VEC_EN e) then s.raiseVector 0 (s.rd (R.ENG_EVT_VEC e)) else s,
      { x with flags := setBits x.flags f 1 1 }, false, false⟩

/-- TIMEWAIT (R322) in its first cycle: a target already reached in X or Y mode, or a DISABLED domain, completes it late. -/
def State.bTimewait (s : State) (e c w : Nat) (x : Chan) : BRes :=
  let d := bits w 13 3
  let now := nsCount (s.tdNow d)
  let late : BRes := ⟨s.wr (R.ENG_CH_ERR_TW_LATE e c) 1, x, false, false⟩
  if ¬ s.flag (R.TD_CFG_EN d) then late
  else if bits w 16 2 = 2 then
    ⟨s, { x with target := gridAfter now (s.rd (R.ENG_CH_GRID_PHASE e c)) (s.rd (R.ENG_CH_GRID_PERIOD e c)) }, false, true⟩
  else
    let reg := if bits w 16 2 = 1 then x.y else x.x
    let ahead := (reg + 2 ^ 32 - now % 2 ^ 32) % 2 ^ 32
    -- now32 − reg below 2^31 is a target that has been reached
    if (now % 2 ^ 32 + 2 ^ 32 - reg) % 2 ^ 32 < 2 ^ 31 then late else ⟨s, { x with target := now + ahead }, false, true⟩

/-- CNT (R319). -/
def State.bCnt (s : State) (e c w : Nat) (x : Chan) : BRes :=
  let y := bit w 17
  let reg := if y then x.y else x.x
  let v := match bits w 15 2 with
    | 0 => (reg + toBits 32 (sext 15 (bits w 0 15))) % 2 ^ 32
    | 1 => (reg + if y then x.x else x.y) % 2 ^ 32
    | _ => match s.chanPort e c with
      | some p => (s.pin p (bits w 0 2)).edges % 2 ^ 32
      | none => 0
  ⟨s, if y then { x with y := v } else { x with x := v }, false, false⟩

/-! ### The cycle (R315, R316) -/

/-- SIDE sets the bits of PINS in SIDE_MASK. -/
def State.side (s : State) (e c w : Nat) (x : Chan) : Chan :=
  if bit w 22 then
    let m := s.rd (R.ENG_CH_CFG_SIDE_MASK e c)
    { x with pins := Nat.lor (Nat.land x.pins (15 - m)) (Nat.land (bits w 18 4) m) }
  else x

/-- Fields of ENG_CH_PROG for the bank a channel uses. -/
def State.entry (s : State) (e c b : Nat) : Nat := s.rd (R.ENG_CH_PROG_ENTRY e c b)

/-- No channel of engine `e` is pending: the swap is complete (R327). -/
def State.swapDone (s : State) (e : Nat) : State :=
  if s.flag (R.ENG_STAT_SWAP_PENDING e) ∧ ¬ (List.range 16).any (fun c => (s.chan e c).pend) then
    (s.wr (R.ENG_STAT_SWAP_PENDING e) 0).wr (R.ENG_STAT_ACTIVE_BANK e) (1 - s.rd (R.ENG_STAT_ACTIVE_BANK e))
  else s

/-- Store a channel and let its pins follow. -/
def State.putChan (s : State) (e c : Nat) (x : Chan) : State :=
  let s := s.setChan e c x
  match s.chanPort e c with
  | some p => s.applyChan p
  | none => s

/-- The instruction completes: PC goes on, wraps, or moves to the new bank at the wrap transition with a swap pending. -/
def State.finishInsn (s : State) (e c w pc : Nat) (r : BRes) : State :=
  let x := { r.x with st := chRun, delay := delayOf w }
  let x :=
    if r.jumped then x
    else if pc = s.rd (R.ENG_CH_PROG_WRAP_TOP e c x.bank) then
      (if x.pend then { x with bank := 1 - x.bank, pc := s.entry e c (1 - x.bank), pend := false }
       else { x with pc := s.rd (R.ENG_CH_PROG_WRAP_BOT e c x.bank) })
    else { x with pc := (pc + 1) % 1024 }
  (r.s.putChan e c x).swapDone e

/-- A channel halts (R328, R329): its stall and remaining delay are cancelled and its pins released. -/
def State.haltChan (s : State) (e c : Nat) : State :=
  s.putChan e c { s.chan e c with st := chHalted, delay := 0, insn := 0 }

/-- The slots of engine `e` that channel `c` holds (R305). -/
def State.slots (s : State) (e c : Nat) : Nat :=
  ((List.range 16).filter fun k => bit (s.rd (R.ENG_SLOTEN_EN e)) k ∧
    bits (s.rdAddr (R.ENG_SLOTMAP_CH_W1 e) (R.ENG_SLOTMAP_CH_W0 e)) (4 * k) 4 = c).length

/-- The bank that a channel starts in: the bank in use, or for a channel that has already moved in a pending swap the new one. -/
def State.startBank (s : State) (e c : Nat) : Nat :=
  let b := s.rd (R.ENG_STAT_ACTIVE_BANK e)
  if s.flag (R.ENG_STAT_SWAP_PENDING e) ∧ ¬ (s.chan e c).pend then 1 - b else b

/-- A start of channel `c` of engine `e` waits for its next slot, or no longer. -/
def State.askStart (s : State) (e c : Nat) (on : Bool) : State :=
  let rest := s.eng.asked.filter (· ≠ 16 * e + c)
  { s with eng := { s.eng with asked := if on then (16 * e + c) :: rest else rest } }

/-- Start a channel with EN 1 from the values of Table 11-1, in its next slot (R308): one that holds no enabled slot keeps its state and its STATE
until it is granted one (R306). -/
def State.startChan (s : State) (e c : Nat) : State :=
  if ¬ s.flag (R.ENG_CH_CFG_EN e c) then s
  else if s.slots e c = 0 then s.askStart e c true
  else
    let b := s.startBank e c
    (s.askStart e c false).putChan e c
      { st := chRun, pc := s.entry e c b, bank := b, osrCnt := 32, pins := s.rd (R.ENG_CH_PINS_PINS_INIT e c)
        dirs := s.rd (R.ENG_CH_PINS_DIRS_INIT e c), pend := (s.chan e c).pend }

/-- A start that has waited for a slot takes place as one is granted. -/
def State.slotStart (s : State) (e c : Nat) : State := if (16 * e + c) ∈ s.eng.asked then s.startChan e c else s

/-- A slot is granted to channel `c` of engine `e` (R315): it uses up a cycle of a DELAY that is left, else it fetches an instruction, of opcode
`op`; `f` says what that does. An undefined instruction halts the channel (R314, R328). With ON_OSC, no engine runs before it is on its PLL (R497). -/
def State.chanCycle (s : State) (e c op : Nat) (f : State → Nat → Chan → BRes) : State :=
  let s := s.slotStart e c
  let x := s.chan e c
  if x.st ≠ chRun ∨ s.slots e c = 0 ∨ (s.flag R.PWR_STAT_ON_OSC ∧ s.rd (R.CLK_ISL_CUR (13 + e)) = 0) then s
  else if x.delay ≠ 0 then s.putChan e c { x with delay := x.delay - 1 }
  else
    let w := s.progWord e x.bank x.pc
    if badInsn w then
      (((s.wr (R.ENG_CH_ERR_BAD_INSN e c) 1).wr (R.ENG_CH_ERR_BAD_PC e c) x.pc).haltChan e c).raise (21 + e) .U
    else if opcodeOf w ≠ op then s
    else
      let r := f s w (s.side e c w x)
      let y := s.side e c w r.x
      if r.stall then r.s.putChan e c { y with st := chStalled, insn := w }
      else s.finishInsn e c w x.pc { r with x := y }

/-- JMP. -/
def execBriarJmp (e c : Fin 16) (lv : Fin 16) (s : State) : Host.Outcome State Fault Refusal :=
  .next (s.chanCycle e c 0x0 fun s w x => s.bJmp e c lv w x)
/-- WAIT. -/
def execBriarWait (e c : Fin 16) (lv : Fin 16) (s : State) : Host.Outcome State Fault Refusal :=
  .next (s.chanCycle e c 0x1 fun s w x => s.bWait e c lv w false x)
/-- IN. -/
def execBriarIn (e c : Fin 16) (lv : Fin 16) (s : State) : Host.Outcome State Fault Refusal :=
  .next (s.chanCycle e c 0x2 fun s w x => s.bIn e c lv w x)
/-- OUT. -/
def execBriarOut (e c : Fin 16) (s : State) : Host.Outcome State Fault Refusal :=
  .next (s.chanCycle e c 0x3 fun s w x => s.bOut e c w x)
/-- PUSH. -/
def execBriarPush (e c : Fin 16) (s : State) : Host.Outcome State Fault Refusal :=
  .next (s.chanCycle e c 0x4 fun s w x => s.bPushInsn e c w x)
/-- PULL. -/
def execBriarPull (e c : Fin 16) (s : State) : Host.Outcome State Fault Refusal :=
  .next (s.chanCycle e c 0x5 fun s w x => s.bPullInsn e c w x)
/-- MOV. -/
def execBriarMov (e c : Fin 16) (lv : Fin 16) (s : State) : Host.Outcome State Fault Refusal :=
  .next (s.chanCycle e c 0x6 fun s w x => s.bMov e c lv w x)
/-- SET. -/
def execBriarSet (e c : Fin 16) (s : State) : Host.Outcome State Fault Refusal :=
  .next (s.chanCycle e c 0x7 fun s w x => s.bSet e c w x)
/-- IRQ. -/
def execBriarIrq (e c : Fin 16) (s : State) : Host.Outcome State Fault Refusal :=
  .next (s.chanCycle e c 0x8 fun s w x => s.bIrq e c w x)
/-- TIMEWAIT. -/
def execBriarTimewait (e c : Fin 16) (s : State) : Host.Outcome State Fault Refusal :=
  .next (s.chanCycle e c 0x9 fun s w x => s.bTimewait e c w x)
/-- CNT. -/
def execBriarCnt (e c : Fin 16) (s : State) : Host.Outcome State Fault Refusal :=
  .next (s.chanCycle e c 0xA fun s w x => s.bCnt e c w x)
/-- NOP. -/
def execBriarNop (e c : Fin 16) (s : State) : Host.Outcome State Fault Refusal :=
  .next (s.chanCycle e c 0xB fun s _ x => ⟨s, x, false, false⟩)

/-- A stalled TIMEWAIT in a slot (R322): it completes at or after its target, and late while its domain is DISABLED. -/
def State.bTimeAgain (s : State) (e c w : Nat) (x : Chan) : BRes :=
  let d := bits w 13 3
  if ¬ s.flag (R.TD_CFG_EN d) then ⟨s.wr (R.ENG_CH_ERR_TW_LATE e c) 1, x, false, false⟩
  else ⟨s, x, false, decide (nsCount (s.tdNow d) < x.target)⟩

/-- A stalled instruction re-evaluated in a slot (R315); the channel's pins follow it in this cycle too (R330). -/
def State.resumeChan (s : State) (e c lv : Nat) : State :=
  let x := s.chan e c
  if x.st ≠ chStalled ∨ s.slots e c = 0 then s
  else
    let w := x.insn
    let r : BRes := match opcodeOf w with
      | 1 => s.bWait e c lv w true x
      | 4 => s.bPushInsn e c w x
      | 5 => s.bPullInsn e c w x
      | 9 => s.bTimeAgain e c w x
      | _ => ⟨s, x, false, false⟩
    if r.stall then s.putChan e c x else s.finishInsn e c w x.pc { r with x := { r.x with insn := 0 } }

/-- CHANNEL_STALL_RESUME (R315, R321, R322). -/
def execChannelStallResume (e c : Fin 16) (lv : Fin 16) (s : State) : Host.Outcome State Fault Refusal := .next (s.resumeChan e c lv)

/-- A cycle interrupt of ring 0 occurs (R321): 0 the capture instant, 1 the exchange close, 2 the output freeze, 3 the output deadline. -/
def State.cycleIrq (s : State) (i : Nat) : State :=
  s.eng.chans.foldl (fun s (k, x) =>
    if x.st = chStalled ∧ opcodeOf x.insn = 1 ∧ bits x.insn 15 2 = 2 ∧ bits x.insn 12 3 = i then
      s.setChan (k / 16) (k % 16) { x with irq := true }
    else s) s

/-! ### Starting and halting (R308, R309) -/

/-- The channels of a mask. -/
def maskChans (m : Nat) : List Nat := (List.range 16).filter fun c => bit m c

/-- Every channel with EN and AUTOSTART starts at the first capture instant after READY. -/
def State.autoStart (s : State) : State :=
  if s.eng.started ∨ ¬ s.ready then s
  else
    ((List.range 256).filter fun k => s.flag (R.ENG_CH_CFG_EN (k / 16) (k % 16)) ∧ s.flag (R.ENG_CH_CFG_AUTOSTART (k / 16) (k % 16))).foldl
      (fun s k => s.startChan (k / 16) (k % 16)) { s with eng := { s.eng with started := true } }

/-- ENG_STOP (R308): the named channels halt at once, with their stalls and remaining delays cancelled. -/
def State.engStop (s : State) (e mask : Nat) : State :=
  (maskChans mask).foldl (fun s c =>
    let s := s.askStart e c false
    if (s.chan e c).st = chHalted then s else s.haltChan e c) s

def execEngStop (e : Fin 16) (mask : BitVec 16) (s : State) : Host.Outcome State Fault Refusal := .next (s.engStop e mask.toNat)

/-- ENG_RESTART (R308): the named channels with EN 1 start in their next slot. -/
def State.engRestart (s : State) (e mask : Nat) : State := (maskChans mask).foldl (fun s c => s.startChan e c) s

def execEngRestart (e : Fin 16) (mask : BitVec 16) (s : State) : Host.Outcome State Fault Refusal := .next (s.engRestart e mask.toNat)

/-- ENG_START_T_WRITE (R308): T for every channel of the mask that is HALTED with EN 1, or in WAIT_START; one whose T has passed starts at
once, late. -/
def State.engStartT (s : State) (e t : Nat) : State :=
  let d := s.rd (R.ENG_START_CFG_TD e)
  (List.range 16).foldl (fun s c =>
    let x := s.chan e c
    if x.st = chWaitStart ∨ (bit (s.rd (R.ENG_START_CFG_MASK e)) c ∧ x.st = chHalted ∧ s.flag (R.ENG_CH_CFG_EN e c)) then
      if t < nsCount (s.tdNow d) then (s.wr (R.ENG_CH_ERR_TW_LATE e c) 1).startChan e c
      else s.setChan e c { x with st := chWaitStart, startT := t, startTd := d }
    else s) s

def execEngStartTWrite (e : Fin 16) (t : BitVec 64) (s : State) : Host.Outcome State Fault Refusal := .next (s.engStartT e t.toNat)

/-- CHANNEL_TIMED_START (R308): the engine's channels in WAIT_START whose time T has come start. -/
def execChannelTimedStart (e : Fin 16) (s : State) : Host.Outcome State Fault Refusal :=
  .next (((List.range 16).filter fun c => (s.chan e c).st = chWaitStart ∧ (s.chan e c).startT ≤ nsCount (s.tdNow (s.chan e c).startTd)).foldl
    (fun s c => s.startChan e c) s)

/-! ### Swaps and errors (R326 to R328) -/

/-- Arm a swap of engine `e` to its inactive bank (R327). -/
def State.armSwap (s : State) (e : Nat) : State :=
  let new := 1 - s.rd (R.ENG_STAT_ACTIVE_BANK e)
  let s := s.wr (R.ENG_STAT_SWAP_PENDING e) 1
  ((List.range 16).foldl (fun s c =>
    let x := s.chan e c
    s.setChan e c (if chanLive x then { x with pend := true } else { x with bank := new, pc := s.entry e c new })) s).swapDone e

/-- SWAP_DEADLINE (R327): the channel is still pending ENG_SWAP_TMO after the arming. One that has halted meanwhile stays halted. -/
def execSwapDeadline (e c : Fin 16) (s : State) : Host.Outcome State Fault Refusal :=
  let x := s.chan e c
  if ¬ x.pend then .next s
  else
    let b := 1 - x.bank
    let y := { x with st := if chanLive x then chRun else x.st, delay := 0, insn := 0, isr := 0, isrCnt := 0, osr := 0, osrCnt := 32 }
    let y := { y with bank := b, pc := s.entry e c b, pend := false }
    .next (((s.wr (R.ENG_CH_ERR_ABORTED_SHIFT e c) 1).putChan e c y).swapDone e)

/-- FIFO_ECC_ERROR (R328): an error in a FIFO word of a channel, or in a program word that a running channel fetches. -/
def execFifoEccError (e c : Fin 16) (err : BriarError) (s : State) : Host.Outcome State Fault Refusal :=
  let x := s.chan e c
  match err with
  | .corrected => .next (s.raise (21 + e) .C)
  | .program =>
    if ¬ chanLive x then .next s
    else .next ((((s.wr (R.ENG_CH_ERR_ECC e c) 1).wr (R.ENG_CH_ERR_BAD_PC e c) x.pc).haltChan e c).raise (21 + e) .U)
  | .fifo => .next ((((s.wr (R.ENG_CH_ERR_ECC e c) 1).wr (R.ENG_CH_ERR_BAD_PC e c) x.pc).haltChan e c).raise (21 + e) .U)

/-! ### FIFOs and points (R323 to R325) -/

/-- The frame of a channel's points in one direction: at most 32, of the RATE of the lowest-indexed. -/
def State.briarPoints (s : State) (e c : Nat) (out : Bool) : List Nat :=
  let ns := s.pts.recs.keys.filter fun n =>
    let q := s.point n
    q.bindKind = 6 ∧ q.bindByte 1 = e ∧ q.bindByte 2 = c ∧ q.isOutput = out ∧ q.configured
  match ns with
  | [] => []
  | n :: _ => (ns.filter fun m => (s.point m).rateGroup = (s.point n).rateGroup).take 32

/-- The channels named by points of one direction. -/
def State.briarChans (s : State) (out : Bool) : List Nat :=
  ((s.pts.recs.keys.filter fun n => (s.point n).bindKind = 6 ∧ (s.point n).isOutput = out).map fun n =>
    16 * (s.point n).bindByte 1 + (s.point n).bindByte 2).dedup

/-- Skip older RX frames while at least two are present. -/
def State.skipFrames (s : State) (e c n : Nat) : Nat → State
  | 0 => s
  | k + 1 =>
    let x := s.chan e c
    if n ≠ 0 ∧ 2 * n ≤ x.rx.length then
      ((s.setChan e c { x with rx := x.rx.drop n }).inc (R.ENG_CH_CNT_RX_SKIP e c)).skipFrames e c n k
    else s

/-- One update of the RX frame of a channel (R323). -/
def State.rxFrame (s : State) (e c : Nat) : State :=
  let ps := s.briarPoints e c false
  let n := ps.length
  let s := s.skipFrames e c n 32
  let x := s.chan e c
  if n = 0 ∨ x.rx.length < n then s
  else
    (ps.zip (x.rx.take n)).foldl (fun s (m, w, at_) => s.deliver m ⟨w, s.timeOf (s.point m).dom at_, none⟩)
      (s.setChan e c { x with rx := x.rx.drop n })

/-- At an output deadline the TX frame of a channel is pushed if one of its points took a newly delivered value at the freeze (R324); `vals`
are the values frozen, in whose place SAFE stands in the safe state (R57, R330). -/
def State.txFrame (s : State) (e c : Nat) (took : List Nat) (vals : List (Nat × Nat)) : State :=
  let ps := s.briarPoints e c true
  let x := s.chan e c
  if ¬ ps.any (fun n => n ∈ took) then s
  else if 32 < x.tx.length + ps.length then s.inc (R.ENG_CH_CNT_TX_DROP e c)
  else s.setChan e c { x with tx := x.tx ++ ps.map fun n =>
    (if s.inSafe then (s.point n).safe else (vals.find? fun v => v.1 = n).elim (s.point n).value (·.2)) % 2 ^ 32 }

end Sys2Proof.Machine
end

