-- ==== Sys2Proof/Machine/Faults.lean ====
section
/-!
DEFINITION. The commands of the fault collector (chapter 18): occurrences and clears, self-faults, entering and leaving the safe state, and
the logs.
-/

namespace Sys2Proof.Machine

/-- FAULT_OCCURRENCE (R459, R460): a source reports an occurrence in a class that Table 18-1 lists for it. An uncorrectable error in a point
record, whose DETAIL names the point, sets that point's reason to FAULT; an F fault of bit 0 or 6 while the ROM boots stops the boot (R446). -/
def State.occurrence (s : State) (b : Nat) (c : FClass) (detail : Nat) : State :=
  let s := s.raise b c detail
  let s := if b = 18 ∧ c = .U ∧ (s.point detail).configured then s.setCond detail qFault true else s
  if c = .F ∧ (b = 0 ∨ b = 6) ∧ s.boot.stage = .rom then { s with boot := { s.boot with stage := .stopped } } else s

def execFaultOccurrence (b : Fin 49) (c : FClass) (detail : BitVec 32) (s : State) : Host.Outcome State Fault Refusal :=
  if mayRaise b c then .next (s.occurrence b c detail.toNat).settle else .next s

/-- FAULT_CLEAR (R461): a write of 1 to a bit of FLT_STATUS. -/
def execFaultClear (b : Fin 49) (s : State) : Host.Outcome State Fault Refusal := .next (s.clearFault b).settle

/-- COLLECTOR_SELF_FAULT (R463): the safe state until reset, and nothing is recorded any more. -/
def execCollectorSelfFault (s : State) : Host.Outcome State Fault Refusal :=
  if s.flt.selfFault then .next s
  else
    let s := s.enterSafe 0xFD 3 0
    .next ({ s with flt := { s.flt with selfFault := true } }).settle

/-! ### FLT_SAFE (R464, R467) -/

/-- ENTER by slot 0, audited each time. -/
def State.safeEnterCmd (s : State) : State := (s.enterSafe 0xFE 0 0).logAudit 0x24 1 0 0 s.node0 0

/-- SAFE_ENTER (R464). -/
def execSafeEnter (s : State) : Host.Outcome State Fault Refusal := .next s.safeEnterCmd.settle

/-- Nothing holds the hub in the safe state (R467). -/
def State.mayExit (s : State) : Bool :=
  !s.flt.selfFault && !s.sec.vault.latch && (List.range 49).all fun b =>
    !(s.flag (fltBit b) && (s.rd (R.FLT_SRC_CLASS b) = 3 || (s.flag (escBit b) && s.rd (R.FLT_SRC_CLASS b) = 2)))

/-- A channel that executes is bound to the port. -/
def State.portLive (s : State) (p : Nat) : Bool := (s.portChan p).any fun k => chanLive (s.chan (k / 16) (k % 16))

/-- Leave the safe state: a SAFE_EXIT record, and a standby ends its notice. The pins of a Briar channel follow it again from its next cycle (R330);
those of a port with no channel that executes are released. -/
def State.leaveSafe (s : State) : State :=
  let s := (s.wr R.FLT_SAFE_SAFE 0).logFault 0x11 0xFF 0 0 0
  let s := { s with twin := { s.twin with relinquish := false } }
  let s := (List.range 64).foldl (fun (s : State) p => if s.portLive p then s else s.applyChan p) s
  if decide (s.rd R.TWIN_STAT_ROLE = 2) then s.emit (.twin "safe notice ends" []) else s

/-- EXIT by slot 0. Outside the safe state it has no effect but its audit record. -/
def State.safeExitCmd (s : State) : State :=
  let refused := s.inSafe && !s.mayExit
  let s' := if ¬ s.inSafe then s else if s.mayExit then s.leaveSafe else s.wr R.FLT_SAFE_EXIT_REFUSED 1
  s'.logAudit 0x24 2 (bnat refused) 0 s.node0 0

/-- SAFE_EXIT (R467). -/
def execSafeExit (s : State) : Host.Outcome State Fault Refusal := .next s.safeExitCmd.settle

/-! ### The logs (R468, R471) -/

/-- Move the buffered records of a log to Kaolin, which keeps the newest 2,097,152. -/
def Log.flush (l : Log) : Log :=
  let all := l.stored ++ l.buffer
  { l with stored := all.drop (all.length - 2097152), buffer := [] }

/-- Move every buffered record to Kaolin. -/
def State.flushLogs (s : State) : State :=
  { s with flt := { s.flt with fault := s.flt.fault.flush, audit := s.flt.audit.flush } }

def State.log (s : State) (l : Nat) : Log := if l = 0 then s.flt.fault else s.flt.audit

/-- A log write fails: the records stay in the buffer, and a U fault is raised on bit 45. -/
def State.logFails (s : State) : State := ({ s with flt := { s.flt with writeError := true } }).raise 45 .U

/-- LOG_FLUSH (R468): within 10 ms the buffered records of log `l` (0 fault, 1 audit) move to Kaolin; after a write error they wait for the
retry. -/
def execLogFlush (l : Fin 2) (ok : Bool) (s : State) : Host.Outcome State Fault Refusal :=
  if s.flt.writeError then .next s
  else if ¬ ok ∨ s.pwr.kaolinLost then .next s.logFails.settle
  else if l = 0 then .next { s with flt := { s.flt with fault := s.flt.fault.flush } }
  else .next { s with flt := { s.flt with audit := s.flt.audit.flush } }

/-- LOG_WRITE_RETRY (R468): every 100 ms after a write error. -/
def execLogWriteRetry (ok : Bool) (s : State) : Host.Outcome State Fault Refusal :=
  if ¬ s.flt.writeError then .next s
  else if ok ∧ ¬ s.pwr.kaolinLost then .next ({ s with flt := { s.flt with writeError := false } }).flushLogs
  else .next s.logFails.settle

/-- GO of FLT_LOG_RD with the SEQ written or held (R471). A GO while BUSY is ignored. -/
def State.logGo (s : State) (l : Nat) (seq : Option Nat) : State :=
  let seq' := seq.getD s.flt.heldSeq
  let s := { s with flt := { s.flt with heldSeq := seq' } }
  if s.rd R.FLT_LOG_RDSTAT_STATE = 1 then s
  else ({ s with flt := { s.flt with copy := some (l, seq') } }).wr R.FLT_LOG_RDSTAT_STATE 1

/-- LOG_READ (R471): an 8-byte write (`seq`) or a write of the high word starts a copy. -/
def execLogRead (l : Fin 2) (seq : Option (BitVec 32)) (s : State) : Host.Outcome State Fault Refusal :=
  .next (s.logGo l (seq.map (·.toNat)))

/-- Up to 128 consecutive records of a log from `seq`: an older one starts at the oldest, one beyond the newest gives none. -/
def Log.copy (l : Log) (seq : Nat) : List LogRec :=
  let all := l.stored ++ l.buffer
  match all with
  | [] => []
  | x :: _ =>
    let d := (seq + 2 ^ 32 - x.seq) % 2 ^ 32
    if d < all.length then (all.drop d).take 128 else if 2 ^ 31 ≤ d then all.take 128 else []

/-- The copy ends. FIRST of a copy of no record is a free value. A copy that needs Kaolin fails once its link is lost (R552). -/
def State.logCopied (s : State) (ok : Bool) : State :=
  match s.flt.copy with
  | none => s
  | some (l, seq) =>
    let s := { s with flt := { s.flt with copy := none } }
    if ¬ ok then s.wr R.FLT_LOG_RDSTAT_STATE 3
    else
      let rs := (s.log l).copy seq
      if s.pwr.kaolinLost ∧ rs.any (fun x => (s.log l).stored.contains x) then (s.wr R.FLT_LOG_RDSTAT_STATE 3).raise 45 .U
      else
      let (v, s) := match rs with
        | [] => s.draw
        | x :: _ => (x.seq, s)
      let s := { s with flt := { s.flt with logBuf := memWrite s.flt.logBuf 0 (rs.flatMap fun (x : LogRec) => x.bytes) } }
      ((s.wr R.FLT_LOG_RDSTAT_STATE 2).wr R.FLT_LOG_RDSTAT_COUNT rs.length).wr R.FLT_LOG_RDSTAT_FIRST (v % 2 ^ 32)

/-- LOG_COPY_DONE (R471): DONE, or FAILED where the copy could not be made. -/
def execLogCopyDone (ok : Bool) (s : State) : Host.Outcome State Fault Refusal := .next (s.logCopied ok)

end Sys2Proof.Machine
end

