-- ==== Sys2Proof/Machine/Restart.lean ====
section
/-!
DEFINITION. Power-on reset (R525): every block starts anew, and what is kept outside the reset stays.
-/

namespace Sys2Proof.Machine

/-- VLT_TIMER.TICKS (Table 19-17): the vault resonator's periods. -/
def State.vaultTicks (s : State) : Nat := (s.sec.vault.ticks + s.ns * 32768 / 10 ^ 9) % 2 ^ 64

/-- The registers that show what the vault holds: VLT_TAMPER_STAT, VLT_TAMPER_TIME, the counters and SEC_STAT (R525). -/
def State.showVault (s : State) : State :=
  let v := s.sec.vault
  let s := (s.wr R.VLT_TAMPER_STAT_SOURCE v.tamperSrc).setWords 0x100008 2 v.tamperTime
  let s := (s.wr R.VLT_FW_CTR_CTR (max v.fwCtr s.boot.fwMirror)).wr R.VLT_BND_CTR_CTR (max v.bndCtr s.boot.bndMirror)
  let s := ((s.wr R.SEC_STAT_OWNED (bnat (v.owner ≠ 0))).wr R.SEC_STAT_OWNER_LOCK (bnat v.lock)).wr R.SEC_STAT_DEBUG_NEXT (bnat v.debugNext)
  s.wr R.SEC_STAT_TAMPER (bnat v.latch)

/-- A log after a reset: what Kaolin stores stays, what is still in the buffer is lost, and the numbers go on after the last one stored. -/
def Log.restart (l : Log) : Log :=
  match l.stored.getLast? with
  | some x => { next := (x.seq + 1) % 2 ^ 32, stored := l.stored, buffer := [] }
  | none => {}

/-- A power-on reset (R525). It keeps the commands that wait, what has been sent, the vault, Kaolin (slots, logs, device area), the state of the
power inputs and the breakers; a staging or a download that is open is abandoned (R453), and the reset after a debug boot clears DEBUG_NEXT (R431). -/
def State.restart (s : State) : State :=
  let t : State := {
    pending := s.pending, drawn := s.drawn, emitted := s.emitted
    flt := { fault := s.flt.fault.restart, audit := s.flt.audit.restart }
    sec := { drbg := s.sec.drbg, vault := { s.sec.vault with
      ticks := s.vaultTicks, debugNext := s.sec.vault.debugNext && !s.flag R.SEC_STAT_DEBUG } }
    pwr := { s.pwr with opReq := none, opWait := [], entry := none, early := 0, vmodOff := [], d2dFails := [], kaolinLost := false, autoOsc := false }
    boot := { s.boot with stage := .rom, fwStg := none, bndStg := none, newBnd := false, readyAt := 0, rcvBuf := [], serve := none } }
  t.showVault

end Sys2Proof.Machine
end

