-- ==== Sys2Proof/Machine/Objects.lean ====
section
/-!
DEFINITION. Firmware images and owner bundles (chapter 17): the fields of an object, its checks (Table 17-3), and Kaolin's slots.
-/

namespace Sys2Proof.Machine

/-! ### The fields of an object (R439, R440) -/

def objBodyLen (b : List Byte) : Nat := leAt b 0x18 4
def objSvn (b : List Byte) : Nat := leAt b 0x10 4
def objFloor (b : List Byte) : Nat := leAt b 0x14 4
def objCommit (b : List Byte) : Bool := bit (leAt b 0x0C 4) 0
def objNextOwner (b : List Byte) : Nat := leAt b 0x80 48
def objSigner (b : List Byte) : List Byte := slice b 0x100 120
def objTotal (b : List Byte) : Nat := 512 + objBodyLen b + leAt b 0x1C 4
def objBody (b : List Byte) : List Byte := slice b 512 (objBodyLen b)
def objTrailer (b : List Byte) : List Byte := b.drop (512 + objBodyLen b)
/-- The ML-DSA-87 key of the trailer, of L bytes, and the signature after it. -/
def objMlKey (b : List Byte) : List Byte := slice (objTrailer b) 2 (leAt (objTrailer b) 0 2)
def objMlSig (b : List Byte) : List Byte := slice (objTrailer b) (2 + leAt (objTrailer b) 0 2) 4627
/-- The value that both signatures are over. -/
def objSigned (b : List Byte) : List Byte := digest (slice b 0 0x180)

/-- The digest of an owner key (R426), of the signer of a bundle. -/
def ownerDigest (b : List Byte) : Nat := (Config.sha384 (objSigner b ++ objMlKey b)).toNat

/-- The measurement of an object: SHA-384 of its body. -/
def bodyDigest (b : List Byte) : Nat := (Config.sha384 (objBody b)).toNat

/-! ### Checks (Table 17-3): the reason of the first that fails, 0 for none -/

/-- Reasons of the header: 0x01 to 0x04, for an object of `total` bytes of kind 1 or 2. -/
def checkHeader (kind total : Nat) (b : List Byte) : Nat :=
  if leAt b 0 4 ≠ 0x76404844 ∨ leAt b 4 1 ≠ 1 ∨ leAt b 6 2 ≠ 0x200 then 0x01
  else if leAt b 5 1 ≠ kind then 0x02
  else if leAt b 8 2 ≠ 0x7640 ∨ ¬ bit (leAt b 8 4) 19 then 0x03
  else if total ≠ objTotal b ∨ (if kind = 1 then 96 else 32) * 2 ^ 20 - 8192 < objBodyLen b then 0x04
  else 0

/-- Reasons 0x05 and 0x06 and, with the counter of R452, 0x07. A firmware image's signer is a vendor root (R441). -/
def checkSigner (kind ctr : Nat) (b : List Byte) : Nat :=
  if kind = 1 ∧ Config.sha384 (objSigner b ++ slice b 0x50 48) ∉ Config.vendorRoots then 0x05
  else if ¬ Config.ecdsaOk (objSigner b) (objSigned b) (slice b 0x180 96) then 0x06
  else if objSvn b < objFloor b ∨ objSvn b < ctr then 0x07
  else 0

/-- Reasons 0x08 and 0x09. -/
def checkBody (b : List Byte) : Nat :=
  if digest (objBody b) ≠ slice b 0x20 48 then 0x08
  else if digest (objMlKey b) ≠ slice b 0x50 48 ∨ leAt b 0x1C 4 ≠ leAt (objTrailer b) 0 2 + 4629
    ∨ ¬ Config.mldsaOk (objMlKey b) (objSigned b) (objMlSig b) then 0x09
  else 0

/-- The first reason of a list of checks that fails. -/
def firstReason : List Nat → Nat
  | [] => 0
  | r :: rs => if r ≠ 0 then r else firstReason rs

/-- The anti-rollback counter in force: the greater of the vault's and the mirror's (R452). -/
def State.counter (s : State) (kind : Nat) : Nat :=
  if kind = 1 then max s.sec.vault.fwCtr s.boot.fwMirror else max s.sec.vault.bndCtr s.boot.bndMirror

/-- The signer of a bundle is accepted (R448). -/
def State.ownerOk (s : State) (b : List Byte) : Bool :=
  let d := ownerDigest b
  s.sec.vault.owner = 0 ∨ d = s.sec.vault.owner ∨ (s.sec.vault.transfer ≠ 0 ∧ d = s.sec.vault.transfer)

/-- The whole check of an image or a bundle at boot (R445, R447); `bad` is a Kaolin read error. -/
def State.checkObject (s : State) (kind : Nat) (bad : Bool) (b : List Byte) : Nat :=
  firstReason [if bad then 0x0B else 0, checkHeader kind b.length b, checkSigner kind (s.counter kind) b, checkBody b,
    if kind = 2 ∧ ¬ s.ownerOk b then 0x0A else 0]

/-! ### Slots (R438) -/

/-- The object in slot `n` of a kind. -/
def BootSt.obj (b : BootSt) (kind n : Nat) : Obj :=
  if kind = 1 then (if n = 0 then b.fw0 else b.fw1) else if n = 0 then b.bnd0 else b.bnd1
def BootSt.setObj (b : BootSt) (kind n : Nat) (x : Obj) : BootSt :=
  if kind = 1 then (if n = 0 then { b with fw0 := x } else { b with fw1 := x })
  else if n = 0 then { b with bnd0 := x } else { b with bnd1 := x }

/-- A slot changes, and ID_BOOT_STAT shows the states. -/
def State.setObj (s : State) (kind n : Nat) (x : Obj) : State :=
  ({ s with boot := s.boot.setObj kind n x }).wr
    (if kind = 1 then (if n = 0 then R.ID_BOOT_STAT_FW0 else R.ID_BOOT_STAT_FW1)
      else if n = 0 then R.ID_BOOT_STAT_BND0 else R.ID_BOOT_STAT_BND1) x.st

/-- The running image and the active bundle. -/
def State.fwSlot (s : State) : Nat := s.rd R.ID_BOOT_STAT_FW_SLOT
def State.bndSlot (s : State) : Nat := s.rd R.ID_BOOT_STAT_BND_SLOT
def State.image (s : State) : List Byte := (s.boot.obj 1 s.fwSlot).bytes
def State.bundle (s : State) : List Byte := if s.flag R.ID_BOOT_STAT_BND_ZERO then [] else (s.boot.obj 2 s.bndSlot).bytes

/-! ### What the hub measures and claims (Tables 16-2 and 16-4) -/

/-- Measurement block `n`. -/
def State.block (s : State) (n : Nat) : List Byte :=
  if n = 1 then leBytes 48 Config.romDigest.toNat
  else if n = 2 then leBytes 48 (s.words 0x20 12)
  else if n = 3 then leBytes 4 (s.rd R.ID_FW_SVN_SVN)
  else if n = 4 then leBytes 48 (s.words 0x50 12)
  else if n = 5 then leBytes 48 (s.words 0x80 12)
  else if n = 6 then leBytes 4 (s.rd R.SEC_STAT_OWNED + 2 * s.rd R.SEC_STAT_OWNER_LOCK + 4 * s.rd R.SEC_STAT_DEBUG + 8 * s.rd R.SEC_STAT_TAMPER)
  else leBytes 48 s.sec.block7

/-- The hub's certificate chain of an algorithm (R416, R455). -/
def State.chain (s : State) (alg : Nat) : List Byte :=
  Config.certChain alg (s.words 0x20 12) (s.rd R.ID_FW_SVN_SVN) (s.flag R.SEC_STAT_DEBUG)

/-- CLAIMS of a PROOF. -/
def State.claims (s : State) : List Byte :=
  leBytes 16 Config.partSerial.toNat ++ leBytes 4 (s.rd R.ID_FW_SVN_SVN)
    ++ leBytes 4 (s.rd R.SEC_STAT_DEBUG + 2 * s.rd R.SEC_STAT_TAMPER + 4 * s.rd R.SEC_STAT_OWNED)
    ++ leBytes 48 (s.words 0x80 12) ++ leBytes 48 (s.words 0x50 12)

/-- Signatures of the alias key of both algorithms over a message: ECDSA, then ML-DSA-87. -/
def State.signBoth (s : State) (msg : List Byte) : List Byte × State :=
  let n := s.sec.drbg
  (Config.sign 0 n msg ++ Config.sign 1 n msg, { s with sec := { s.sec with drbg := n + 1, requests := s.sec.requests + 1 } })

end Sys2Proof.Machine
end

