-- ==== Sys2Proof/Machine/Bridge.lean ====
section
/-!
DEFINITION. The bridge (chapters 10 and 12): device-space requests and their bus transactions, write policies, locked operations, bus
locks and the arbitration window, and errors.
-/

namespace Sys2Proof.Machine

/-! ### Queues of a port (R336, R346) -/

def State.brgq (s : State) (p : Nat) : List BusOp := NMap.get (fun _ => []) s.brg.queue p
def State.setBrgq (s : State) (p : Nat) (q : List BusOp) : State :=
  { s with brg := { s.brg with queue := NMap.set (fun _ => []) s.brg.queue p q } }
def State.lockq (s : State) (p : Nat) : List BusOp := NMap.get (fun _ => []) s.brg.lockedOps p
def State.setLockq (s : State) (p : Nat) (q : List BusOp) : State :=
  { s with brg := { s.brg with lockedOps := NMap.set (fun _ => []) s.brg.lockedOps p q } }

/-! ### Device-space offsets (Table 10-4) -/

/-- Station, register table and register of a Modbus offset. -/
def mbStation (off : Nat) : Nat := bits off 24 8
def mbTable (off : Nat) : Nat := bits off 16 8
def mbReg (off : Nat) : Nat := bits off 0 16

/-- The units that an access covers for the range table (R335). -/
def accessUnits (k len : Nat) : Nat := if k = cUart then len / 2 else 1

/-- The range entry of a device-space access. -/
def State.devRange (s : State) (k : Nat) (r : Req) : Option Nat :=
  s.rngEntry r.space r.off (r.off + accessUnits k r.len - 1)

/-- The check of Table 10-4 for a request at a controller of kind `k`, index `i`: the status of the first that fails. -/
def State.devCheck (s : State) (k i : Nat) (r : Req) : Option Nat :=
  let n := r.len
  if k = cUart then
    let st := mbStation r.off
    if 247 < st ∨ 1 < mbTable r.off ∨ 65536 < mbReg r.off + n / 2 then some stNoRoute
    else if r.op = opRead then (if st = 0 ∨ n % 2 ≠ 0 ∨ n < 2 ∨ 250 < n then some stDataBad else none)
    else if mbTable r.off = 1 then some stUnsupported
    else if r.op = opWrite then (if n % 2 ≠ 0 ∨ n < 2 ∨ 246 < n then some stDataBad else none)
    else if st = 0 ∨ (n ≠ 4 ∧ n ≠ 8) then some stDataBad else none
  else if k = cIol then
    if 2 ^ 24 ≤ r.off then some stNoRoute
    else if n < 1 ∨ 232 < n then some stDataBad else none
  else
    if 2048 ≤ r.off ∨ ¬ s.mobjOn r.off k i then some stNoRoute
    else if n < 1 ∨ 2048 < n then some stDataBad
    else if r.op = opWrite ∧ ¬ s.flag (R.PCTL_MOBJ_DIR r.off) then some stUnsupported
    else if r.op = opRmw then some stUnsupported else none

/-- The bytes of a number in the byte order of the bus, high byte first (R349). -/
def beBytes (n v : Nat) : List Byte := (leBytes n v).reverse

/-! ### Bus transactions -/

/-- The bus of port `p` is free for the bridge. -/
def State.busIdle (s : State) (p : Nat) : Bool :=
  (s.busOp p).isNone && (match s.devTarget p with
    | some (k, i) => k != cUart || (s.poll i).isNone
    | none => false)

/-- A Modbus or ISDU transaction of a request goes out on the bus. -/
def State.sendOp (s : State) (p k i : Nat) (o : BusOp) (write : Bool) (first count : Nat) (data : List Byte) : State :=
  let s := s.setBusOp p (some o)
  if k = cUart then
    s.busOut k i "modbus" (modbusPdu (mbStation o.req.off) (if write then 0x10 else 3 + mbTable o.req.off) (mbReg first) count data)
  else s.busOut k i (if write then "ISDU write" else "ISDU read") (leBytes 4 o.req.off ++ data)

/-- The registers that a READ of a request reads (R339): those asked for, or the wider extent of a prefetching read. -/
def State.readExtent (s : State) (k p : Nat) (r : Req) : Nat × Nat × Option Nat :=
  let n := r.len / 2
  if k = cUart ∧ ¬ r.locked then
    match s.devRange k r with
    | some e =>
      if ¬ s.flag (R.BRG_RNG_CFG_SE_FREE e) then (r.off, n, none)
      else match s.extent e p r.off n (min 125 (65536 - mbReg r.off / 32 * 32)) (fun _ => false) with
        | some (a, c) => (a, c, some e)
        | none => (r.off, n, none)
    | none => (r.off, n, none)
  else (r.off, n, none)

/-- A READ that the cache serves (R339): from a UART, with SE_FREE 1 and LOCKED 0. -/
def State.cached (s : State) (k p : Nat) (r : Req) : Option (List Byte × Nat × State) :=
  if k = cUart ∧ ¬ r.locked ∧ s.seFree (s.devRange k r) then s.cacheHit ((s.devRange k r).getD 0) p r.off (r.len / 2) else none

/-- The expiry of a lock that waited for the transaction in progress (R347). -/
def State.lateExpiry (s : State) (p : Nat) : State :=
  match (s.busLock p).holder with
  | some (src, tn, id) => if (s.busLock p).expired then (s.releaseBus p src tn id).inc R.BRG_LOCK_CNT_EXPIRED else s
  | none => s

/-- A bus transaction ends: its request is answered, unless it was posted, and the bus is free. A waiting poll goes next (R292). -/
def State.endOp (s : State) (p : Nat) (o : BusOp) (out : Outc) : State :=
  let s := s.setBusOp p none
  let s := if o.posted then (if out.status = stOk then s else s.postFail o.req) else s.respond o.req out
  let s := s.lateExpiry p
  match s.devTarget p with
  | some (k, i) => if k = cUart then s.startPoll i else s
  | none => s

/-- `n` free bytes. -/
def State.freeBytes (s : State) : Nat → List Byte × State
  | 0 => ([], s)
  | n + 1 =>
    let (v, s) := s.draw
    let (b, s) := s.freeBytes n
    (BitVec.ofNat 8 v :: b, s)

/-- The data of a READ of a device space that ends with OK: LEN bytes (R107). Where the device's data is shorter, the spec states no value for the
bytes beyond it: they are free (log 58). -/
def State.readData (s : State) (d : List Byte) (n : Nat) : List Byte × State :=
  let (b, s) := s.freeBytes (n - d.length)
  (d.take n ++ b, s)

/-- Start a request on the bus of port `p`. A READ whose lines an earlier read has filled meanwhile is served from the cache (R339). A READ of a
message object takes the data of its last frame with no bus transaction; a WRITE puts a frame among those pending. -/
def State.startOp (s : State) (p : Nat) (o : BusOp) : State :=
  let r := o.req
  match s.devTarget p with
  | none => (s.inc R.RING_NOROUTE_CNT_MISS).endOp p o { status := stNoRoute }
  | some (k, i) =>
    if k = cCan ∨ k = cSpe then
      if r.op = opRead then
        let (d, s) := s.readData (NMap.get (fun _ => []) s.pctl.last r.off) r.len
        s.endOp p o { status := stOk, xfer := r.len, exec := s.tdEnc r.td, data := d }
      else
        let s := s.setBusOp p (some o)
        s.setTxq (ctlKey k i) (s.txq (ctlKey k i) ++ [{ req := some r, obj := some r.off, item := s.objectItem r.off r.data }])
    else if r.op = opWrite then s.sendOp p k i o true r.off (r.len / 2) r.data
    else if r.op = opRead then
      match s.cached k p r with
      | some (d, at_, s) => s.endOp p o { status := stOk, xfer := r.len, exec := s.timeOf r.td at_, data := d }
      | none =>
        let (a, c, e) := s.readExtent k p r
        s.sendOp p k i { o with first := a, count := c, range := e } false a c []
    else s.sendOp p k i { o with first := r.off, count := r.len / 2 } false r.off (r.len / 2) []

/-- Serve port `p` when its bus is free: the holder's locked operations while it is held, else the oldest of the queue (R336, R346); none while the
winner of an arbitration waits for its grant (R344). -/
def State.serve (s : State) (p : Nat) : State :=
  if ¬ s.busIdle p ∨ (s.busLock p).winner.isSome then s
  else match s.lockq p with
  | o :: r => (s.setLockq p r).startOp p o
  | [] =>
    if (s.busLock p).holder.isSome then s
    else match s.brgq p with
      | o :: r => (s.setBrgq p r).startOp p o
      | [] => s

/-- BRIDGE_SERVE (R336): the bus of port `p` frees, and the next request or locked operation starts. -/
def execBridgeServe (p : Fin 64) (s : State) : Host.Outcome State Fault Refusal := .next (s.serve p).settle

/-! ### Requests at the target (R282, R283, R293, R336, R339, R343, R346) -/

/-- A request enters the bridge queue of its port, or completes with DENIED on a full one. It starts at once on a free bus with no poll and
no other request waiting. -/
def State.enqueue (s : State) (p : Nat) (o : BusOp) : State :=
  if 32 ≤ (s.brgq p).length then s.refuse o.req stDenied
  else
    let first : Bool := (s.brgq p).isEmpty && (match s.devTarget p with
      | some (k, i) => k != cUart || (s.polls i).isEmpty
      | none => true)
    let s := s.setBrgq p (s.brgq p ++ [o])
    let s := if o.posted then s.ok o.req 0 o.req.len else s
    if first then s.serve p else s

/-- A READ, WRITE or RMW of a device space at its target. -/
def State.devAccess (s : State) (r : Req) : State :=
  let p := r.space
  match s.devTarget p with
  | none => s.refuseRoute r
  | some (k, i) =>
    if s.ctlRaw k i then s.refuse r stUnsupported
    else if r.op = opRmw ∧ ¬ r.locked then s.refuse r stDenied
    else match s.devCheck k i r with
    | some st => s.refuse r st
    | none =>
      let last := r.off + accessUnits k r.len - 1
      let s := if k ≠ cUart ∨ (r.op ≠ opWrite ∧ ¬ r.locked) then s
        else if r.op = opWrite ∧ mbStation r.off = 0 then s.invalidateAll p r.off last else s.invalidate p r.off last
      let e := s.devRange k r
      let posted : Bool := r.op = opWrite ∧ s.policy e = polPosted
      if r.locked then
        if ¬ s.holds p r then s.refuse r stAborted
        else
          let s := s.setLockq p (s.lockq p ++ [{ req := r, posted := posted }])
          (if posted then s.ok r 0 r.len else s).serve p
      else
        if r.op = opRead then
          match s.cached k p r with
          | some (d, at_, s) => s.respond r { status := stOk, xfer := r.len, exec := s.timeOf r.td at_, data := d }
          | none => s.enqueue p { req := r }
        else s.enqueue p { req := r, posted := posted }

/-! ### What the bus answers (Table 10-4, R343, R349) -/

/-- The data of a bus read, or the end of a write, for the transaction in progress on port `p`. An RMW takes its LEN bytes as one number (R349). -/
def State.opData (s : State) (p k i : Nat) (o : BusOp) (b : List Byte) : State :=
  let r := o.req
  let now := s.tdEnc r.td
  let fine : Outc := { status := stOk, xfer := r.len, exec := now }
  match r.op, o.phase with
  | 1, _ =>
    let at_ := if k = cUart then (r.off - o.first) * 2 else 0
    let s := match o.range with
      | some e => s.fill e p r.space o.first b r.off (r.len / 2) r.src r.tn
      | none => s
    let (d, s) := if k = cUart then (slice b at_ r.len, s) else s.readData b r.len
    s.endOp p o { fine with data := d }
  | 2, 0 =>
    if s.policy (s.devRange k r) = polVerified ∧ mbStation r.off ≠ 0 ∧ k = cUart then
      s.sendOp p k i { o with phase := 2 } false r.off (r.len / 2) []
    else if s.policy (s.devRange k r) = polVerified ∧ k = cIol then s.sendOp p k i { o with phase := 2 } false r.off 0 []
    else s.endOp p o fine
  | 2, _ =>
    if b = r.data then s.endOp p o fine else s.endOp p o { status := stBusError, result := 2 ^ 63 }
  | _, 0 =>
    let (d, s) := s.readData b r.len
    let v := beNat d
    let m := 2 ^ (8 * r.len)
    match rmwValue r.opx r.len v (leAt r.operand 0 8 % m) (leAt r.operand 8 8 % m) with
    | none => s.endOp p o { fine with result := v }
    | some x => s.sendOp p k i { o with phase := 1, value := v } true r.off (r.len / 2) (beBytes r.len x)
  | _, _ => s.endOp p o { fine with result := o.value }

/-- The bus refuses, or does not answer, the transaction in progress. -/
def State.opFails (s : State) (p : Nat) (o : BusOp) (status result : Nat) : State := s.endOp p o { status := status, result := result }

/-- The transaction in progress on the bus of a controller: its port and the operation. -/
def State.ctlOp (s : State) (k i : Nat) : Option (Nat × BusOp) :=
  match s.ctlPlace k i with
  | some (p, _) => if s.devTarget p = some (k, i) then (s.busOp p).map fun o => (p, o) else none
  | none => none

/-- The bytes that a valid response to the operation carries. -/
def BusOp.expects (o : BusOp) : Nat :=
  if o.req.op = opRead then 2 * o.count else if o.req.op = opWrite then (if o.phase = 2 then o.req.len else 0)
  else if o.phase = 0 then o.req.len else 0

/-- A broadcast write, which no station answers. -/
def BusOp.broadcast (o : BusOp) : Bool := o.req.op = opWrite ∧ mbStation o.req.off = 0

/-- A Modbus response to UART `i` ends after t3.5 (R292, R293). -/
def State.modbusIn (s : State) (i : Nat) (x : ModbusRsp) : State :=
  if ¬ s.ctlOn cUart i ∨ s.ctlRaw cUart i then s
  else match s.poll i with
  | some m =>
    let fc := s.pollCode m
    match x with
    | .data b => if b.length = (if fc = 0x10 then 0 else 2 * s.pollRegs m) then s.pollAnswer i m (.data b) else s.inc (R.PCTL_UART_STAT_FRAMING i)
    | .exception _ => s.pollAnswer i m .exception
    | .bad => s.inc (R.PCTL_UART_STAT_FRAMING i)
  | none =>
    match s.ctlOp cUart i with
    | none => s
    | some (p, o) =>
      if o.broadcast then s
      else match x with
      | .data b =>
        if b.length = o.expects then s.opData p cUart i o b
        else (s.inc (R.PCTL_UART_STAT_FRAMING i)).opFails p o stBusError 0
      | .exception c => s.opFails p o stBusNak (c % 256)
      | .bad => (s.inc (R.PCTL_UART_STAT_FRAMING i)).opFails p o stBusError 0

def execModbusResponse (i : Fin 64) (x : ModbusRsp) (s : State) : Host.Outcome State Fault Refusal := .next (s.modbusIn i x).settle

/-- MODBUS_RSP_TIMEOUT (R292, R293): RSP_TMO passes without a valid response; it ends a broadcast well. -/
def State.modbusTimeout (s : State) (i : Nat) : State :=
  match s.poll i with
  | some m => s.pollAnswer i m .timeout
  | none =>
    match s.ctlOp cUart i with
    | none => s
    | some (p, o) =>
      if o.broadcast then s.endOp p o { status := stOk, xfer := o.req.len, exec := s.tdEnc o.req.td } else s.opFails p o stBusNak 0

def execModbusRspTimeout (i : Fin 64) (s : State) : Host.Outcome State Fault Refusal := .next (s.modbusTimeout i).settle

/-- ISDU_RESPONSE (R293). -/
def execIsduResponse (p : Fin 64) (x : IsduRsp) (s : State) : Host.Outcome State Fault Refusal :=
  match s.ctlOp cIol p with
  | none => .next s
  | some (q, o) =>
    match x with
    | .data b => .next (s.opData q cIol p o b).settle
    | .error c => .next (s.opFails q o stBusNak (c % 65536)).settle

/-- ISDU_TIMEOUT (R293): 5 s pass without a response. -/
def execIsduTimeout (p : Fin 64) (s : State) : Host.Outcome State Fault Refusal :=
  match s.ctlOp cIol p with
  | none => .next s
  | some (q, o) => .next (s.opFails q o stBusNak 0).settle

/-- OBJECT_FRAME_SENT (R291, R343): the next frame of controller `i` of kind `k`, a transmit object's, has been sent; a device-space write
that asked for it completes. -/
def execObjectFrameSent (k : Fin 5) (i : Fin 64) (s : State) : Host.Outcome State Fault Refusal :=
  match s.nextTx k i with
  | none => .next s
  | some x =>
    if x.obj.isNone ∨ ¬ s.maySendBus k i then .next s
    else
      let s := s.busOut k i "frame" (onWire x.item)
      let s := (if k.val = cCan then s.canSent i true else s).dropTx k i x
      match x.req, s.ctlOp k i with
      | some r, some (p, o) =>
        if o.req = r then .next (s.endOp p o { status := stOk, xfer := r.len, exec := s.tdEnc r.td }).settle else .next s
      | _, _ => .next s

/-! ### Locks (R344 to R348) -/

/-- A LOCK ends with LOCK_CONFLICT (R345): RESULT carries a backoff drawn from the whole numbers of 0.5 × B to 1.5 × B, exactly B while DRBG_OK is 0
(R434), and the node of the holder or winner. -/
def State.conflict (s : State) (r : Req) (node : Nat) : State :=
  let (v, s) := s.draw
  let b := s.rd R.BRG_LOCK_CFG_BACKOFF
  let least := (b + 1) / 2
  let back := if s.drbgOk then least + v % (3 * b / 2 - least + 1) else b
  (s.inc R.BRG_LOCK_CNT_CONFLICT).respond r { status := stLockConflict, result := back + node * 2 ^ 32 }

/-- Some valid range entry of space `p` has LOCK_OK 1. -/
def State.lockOk (s : State) (p : Nat) : Bool :=
  (List.range 256).any fun r =>
    s.flag (R.BRG_RNG_CFG_VALID r) ∧ s.rd (R.BRG_RNG_CFG_SPACE r) = p ∧ s.flag (R.BRG_RNG_CFG_LOCK_OK r)

/-- A LOCK at port `p` (R344 steps 1 to 3). -/
def State.lockIn (s : State) (p : Nat) (r : Req) : State :=
  match s.devTarget p with
  | none => s.refuseRoute r
  | some (k, i) =>
    let x := s.busLock p
    if ¬ s.lockOk p then s.refuse r stDenied
    else if k = cCan ∨ k = cSpe ∨ s.ctlRaw k i then s.refuse r stUnsupported
    else match x.holder, x.winner with
      | some (node, _, _), _ => s.conflict r node
      | none, some w => s.conflict r w.src
      | none, none => s.setBusLock p { x with windowOpen := true, contenders := x.contenders ++ [r] }

/-- LOCK `a` beats `b`, which came later, in the arbitration of step 4. DESIGN CHOICE (log 81): of two that reach the hub in one clock, the one on the
lower switch input is commanded first. -/
def lockBeats (a b : Req) : Bool :=
  if a.src ≠ b.src then a.src < b.src
  else if a.tn ≠ b.tn then a.tn < b.tn
  else if a.locked ≠ b.locked then a.locked
  else if a.locked then a.lockId ≤ b.lockId else true

/-- The LOCK_IDs that a new sequence of a requester's slot may not take here: those under which it holds buses of this hub, and for a tenant of this
hub those of its open sequences. -/
def State.lockIds (s : State) (r : Req) : List Nat :=
  (s.brg.locks.filterMap fun (_, x) => match x.holder with
    | some (src, tn, id) => if src = r.src ∧ tn = r.tn then some id else none
    | none => none) ++ if s.isMine r.src then (s.hif.locks.filter (·.slot = r.tn)).map (·.id) else []

/-- The first of the values 1 to 65,535 from `v` on that is not in use; `n` bounds the search. -/
def freshId (used : List Nat) (v : Nat) : Nat → Nat
  | 0 => 1 + v % 65535
  | n + 1 => if 1 + v % 65535 ∈ used then freshId used (v + 1) n else 1 + v % 65535

/-- The grant takes effect (step 5): the lock time starts, the port's cached lines go, and the LOCK is answered with the sequence's
LOCK_ID, for one that opens a sequence a free one that the slot does not use (R111, log 57). -/
def State.grant (s : State) (p : Nat) (r : Req) : State :=
  let (v, s) := if r.locked then (0, s) else s.draw
  let id := if r.locked then r.lockId else freshId (s.lockIds r) v (s.lockIds r).length
  let us := leAt r.operand 0 4
  let s := (s.setBusLock p { holder := some (r.src, r.tn, id), until_ := s.ns + us * 1000 }).invalidatePort p
  s.ok r id 0

/-- LOCK_WINDOW_CLOSE (R344 step 4): the winner is granted the bus, at once if it is free; every other LOCK conflicts. -/
def State.closeWindow (s : State) (p : Nat) : State :=
  let x := s.busLock p
  match x.contenders with
  | [] => s.setBusLock p { x with windowOpen := false }
  | a :: r =>
    let w := r.foldl (fun b y => if lockBeats b y then b else y) a
    let s := s.setBusLock p { x with windowOpen := false, contenders := [], winner := some w }
    let s := ((a :: r).erase w).foldl (fun s y => s.conflict y w.src) s
    if s.busIdle p then s.grant p w else s

def execLockWindowClose (p : Fin 64) (s : State) : Host.Outcome State Fault Refusal :=
  if (s.busLock p).windowOpen then .next (s.closeWindow p).settle else .next s

/-- LOCK_GRANT (R344 step 5): the bus transaction in progress has ended, and the winner's grant takes effect. -/
def execLockGrant (p : Fin 64) (s : State) : Host.Outcome State Fault Refusal :=
  match (s.busLock p).winner with
  | some w => if s.busIdle p then .next (s.grant p w).settle else .next s
  | none => .next s

/-- LOCK_EXPIRY (R347): the lock time of port `p` ends. A transaction in progress runs to its end first; then the bus is released, and EXPIRED counts.
-/
def State.expireLock (s : State) (p : Nat) : State :=
  match (s.busLock p).holder with
  | none => s
  | some (src, tn, id) =>
    let s := if s.isMine src then s.expireSeq tn id else s
    if (s.busOp p).isSome then s.setBusLock p { s.busLock p with expired := true }
    else (s.releaseBus p src tn id).inc R.BRG_LOCK_CNT_EXPIRED

def execLockExpiry (p : Fin 64) (s : State) : Host.Outcome State Fault Refusal := .next (s.expireLock p).settle

/-- LOCK_RELEASE (R348): a release for port `p` from a sequence. -/
def execLockRelease (p : Fin 64) (src tn id : Nat) (s : State) : Host.Outcome State Fault Refusal := .next (s.releaseBus p src tn id).settle

/-! ### A controller that stops (R282) -/

/-- A controller that a write has disabled or put in host-assisted mode: its polls end, and the transaction in progress on its bus ends with no
response. DEDUCED (log 79). -/
def State.ctlStops (s old : State) (k i : Nat) : State :=
  if s.ctlOn k i ∧ ¬ s.ctlRaw k i then s
  else
    let s := if k = cUart then (s.setPolls i []).setPoll i none else s
    match old.ctlOp k i with
    | some (p, o) => s.endOp p o { status := stBusNak }
    | none => s

/-! ### Errors (R341, R355) -/

/-- BRIDGE_QUEUE_ERROR (R355): in the `n`-th request that waits for port `p`, the locked operations first, or in the `n`-th frame of entry `t`. -/
def State.bridgeError (s : State) (e : BrgError) : State :=
  match e with
  | .corrected => s.raise 48 .C
  | .line n =>
    match s.brg.cache[n]? with
    | some x => (s.dropLines fun y => y.port = x.port ∧ y.base = x.base).raise 48 .C
    | none => s
  | .request p n =>
    let qs := s.lockq p ++ s.brgq p
    match qs[n]? with
    | some o =>
      let k := (s.lockq p).length
      let s := if n < k then s.setLockq p (s.lockq p |>.eraseIdx n) else s.setBrgq p (s.brgq p |>.eraseIdx (n - k))
      (s.dropOp o stBusError).raise 48 .U
    | none => s
  | .tunnel t n =>
    if n < (s.tunq t).length then (((s.setTunq t ((s.tunq t).eraseIdx n)).inc (R.BRG_TUN_CNT_DROP t)).pumpTun t 64).raise 48 .U else s

def execBridgeQueueError (e : BrgError) (s : State) : Host.Outcome State Fault Refusal := .next (s.bridgeError e).settle

end Sys2Proof.Machine
end

