-- ==== Sys2Proof/Machine/Reflex.lean ====
section
/-!
DEFINITION. The reflex engine (chapter 14): rule rows, state machines, remote operands, the evaluation of a cycle, table switches and
memory errors.
-/

namespace Sys2Proof.Machine

def State.row (s : State) (r : Nat) : RowSt := NMap.get (fun _ => {}) s.rfx.rows r
def State.setRow (s : State) (r : Nat) (x : RowSt) : State :=
  { s with rfx := { s.rfx with rows := NMap.set (fun _ => {}) s.rfx.rows r x } }
def State.rop (s : State) (j : Nat) : Rop := NMap.get (fun _ => {}) s.rfx.rops j
def State.setRop (s : State) (j : Nat) (x : Rop) : State :=
  { s with rfx := { s.rfx with rops := NMap.set (fun _ => {}) s.rfx.rops j x } }

/-! ### Rule rows as bytes (R372, Tables 14-1 and 14-2) -/

structure Operand where
  src : Nat
  neg : Bool
  index : Nat
deriving DecidableEq, Repr

def Operand.ofNat (w : Nat) : Operand := ⟨bits w 29 3, bit w 28, bits w 0 16⟩
def Operand.none (o : Operand) : Bool := o.src = 0

structure Row where
  op : Nat
  en : Bool
  group : Nat
  dstEn : Bool
  dst : Nat
  a : Operand
  b : Operand
  c : Operand
  p0 : Nat
  p1 : Nat
deriving DecidableEq, Repr

def Row.ofBytes (x : List Byte) : Row :=
  let f := leAt x 1 1
  { op := leAt x 0 1, en := bit f 7, group := if 4 < bits f 4 3 then 0 else bits f 4 3, dstEn := bit f 3, dst := leAt x 2 2,
    a := .ofNat (leAt x 4 4), b := .ofNat (leAt x 8 4), c := .ofNat (leAt x 12 4), p0 := leAt x 16 8, p1 := leAt x 24 8 }

/-- Row `r` of a copy. -/
def rowOf (m : NMap Byte) (r : Nat) : Row := .ofBytes (memRead m (tblKey 0 (32 * r)) 32)

/-- The operands that the OP of Table 14-3 reads and that are present. -/
def Row.reads (w : Row) : List Operand :=
  let n := match w.op with
    | 12 => 0 | 2 => 1 | 3 => 1 | 4 => 1 | 5 => 1 | 9 => 1 | 11 => 1 | 13 => 1 | 6 => 3 | 7 => 3 | _ => 2
  ([w.a, w.b, w.c].take n).filter fun o => !o.none

/-- The row's bytes ask for it to run. -/
def Row.asked (w : Row) : Bool := w.en ∧ w.op ≠ 0

/-- The machine's state entry (R383). -/
structure SmState where
  out : Nat
  tmo : Nat
  valid : Bool
  tmoNext : Nat
  trans : List (Nat × Bool × Nat)
deriving DecidableEq, Repr

/-- State `i` of machine `m` of the active copy; `trans` are its transitions in use as (row, NEG, next). -/
def State.smState (s : State) (m i : Nat) : SmState :=
  let x := s.tbl 1 (4096 * m + 64 * i) 64
  { out := leAt x 0 8, tmo := leAt x 8 4, valid := bit (leAt x 12 1) 7, tmoNext := leAt x 12 1 % 64,
    trans := (List.range 8).filterMap fun n =>
      let w := leAt x (0x10 + 4 * n) 4
      if bit w 31 then some (bits w 16 12, bit w 30, bits w 0 6) else none }

/-- A machine is valid (R383). -/
def State.smValid (s : State) (m : Nat) : Bool :=
  ¬ s.tblBad 1 m ∧ (s.smState m 0).valid ∧ (List.range 64).all fun i =>
    let x := s.smState m i
    !x.valid || (x.trans.all (fun t => (s.smState m t.2.2).valid) && (s.smState m x.tmoNext).valid)

/-! ### The check of R373 -/

/-- A node ID of this hub: one in effect, or one that it is configured to take. -/
def State.ownNode (s : State) (node : Nat) : Bool :=
  s.isMine node ∨ node = nodeId (s.rd R.RING_NODE_ID_RING) (s.rd R.RING_NODE_ID_STATION)
    ∨ (s.flag R.RING_NODE_ID1_JUNCTION_EN ∧ node = nodeId (s.rd R.RING_NODE_ID1_RING) (s.rd R.RING_NODE_ID1_STATION))

/-- Remote operand `j` is in use: NODE names a station other than this hub (Table 14-9). -/
def State.ropOk (s : State) (j : Nat) : Bool :=
  s.flag (R.RFX_ROP_VALID j) ∧ nodeGood (s.rd (R.RFX_ROP_NODE j)) ∧ ¬ s.ownNode (s.rd (R.RFX_ROP_NODE j))

/-- An operand that is NONE passes where it is optional; else its source exists. -/
def State.operandOk (s : State) (o : Operand) (need : Bool) : Bool :=
  match o.src with
  | 0 => !need
  | 1 => (s.point o.index).configured
  | 2 => o.index < 4096
  | 3 => s.ropOk (o.index % 256)
  | _ => false

/-- x ≤ y as binary64 values; false on NaN. -/
def f64le (x y : Nat) : Bool := (f64.dec x).lt (f64.dec y) || (f64.dec x).eq (f64.dec y)

/-- Required operands and the legal set of the parameters of Table 14-3. -/
def State.opOk (s : State) (w : Row) : Bool :=
  let a := w.a
  let b := w.b
  let c := w.c
  let opt := s.operandOk a false && s.operandOk b false && s.operandOk c false
  opt && match w.op with
  | 1 => s.operandOk a true && w.p1 % 8 ≤ 5
  | 2 => s.operandOk a true && !(f64.dec w.p1).lt (f64.dec w.p0)
  | 3 => s.operandOk a true && !(f64.dec w.p0).lt (f64.dec w.p1)
  | 4 => s.operandOk a true
  | 5 => s.operandOk a true && w.p1 % 4 ≠ 3
  | 6 => !(a.none && b.none && c.none)
  | 7 => !(a.none && b.none && c.none)
  | 8 => s.operandOk a true && s.operandOk b true
  | 9 => s.operandOk a true && (FV.fin false 0 0).lt (f64.dec w.p0) && (FV.fin false 0 0).lt (f64.dec w.p1)
  | 10 => s.operandOk a true && s.operandOk b true && !(f32.dec (bits w.p1 32 32)).lt (f32.dec (bits w.p1 0 32))
  | 11 => s.operandOk a true
  | 12 => true
  | 13 => s.operandOk a true && (match s.signal? (bits w.p0 0 9) (bits w.p0 16 6) with
      | some g => g.places.all (· < 64) | none => false)
  | 14 => s.operandOk a true && s.operandOk b true && (match s.signal? (bits w.p0 0 9) (bits w.p0 16 6) with
      | some g => g.places.all (· < 64) | none => false)
  | 15 => s.operandOk a true
  | _ => false

/-- The destination of a row passes, given the rows below it that are loaded with EN 1. -/
def State.dstOk (s : State) (w : Row) (lower : List Row) : Bool :=
  let p := s.point w.dst
  !w.dstEn || (p.configured && p.hub && p.rateGroup == w.group
    && (p.bindKind == 0 || (p.isOutput && (p.bindKind == 3 || p.bindKind == 4 || p.bindKind == 5 || p.bindKind == 6)))
    && lower.all fun x => !(x.dstEn && x.dst == w.dst))

/-- The rows of the active copy that load with EN 1, and the number that fail the check (R373): rows in ascending order. -/
def State.checkRows (s : State) : List (Nat × Row) × Nat :=
  ((tblEntries s.rfx.act 0 32).filter (· < 4096)).foldl (fun (ok, n) r =>
    let w := rowOf s.rfx.act r
    if ¬ w.asked ∨ s.tblBad 0 r then (ok, n)
    else if s.opOk w ∧ s.dstOk w (ok.map (·.2))
        ∧ (w.op ≠ 12 ∨ ok.all fun x => ¬ (x.2.op = 12 ∧ x.2.p0 % 256 = w.p0 % 256)) then (ok ++ [(r, w)], n)
    else (ok, n + 1)) ([], 0)

/-- Fields of region `r` that fall back (R556), counted when the region becomes active. -/
def State.fallbacks (s : State) (r : Nat) : Nat :=
  match r with
  | 0 => ((tblEntries s.rfx.act 0 32).filter fun i => (rowOf s.rfx.act i).asked ∧ 4 < bits (leAt (s.tbl 0 (32 * i + 1) 1) 0 1) 4 3).length
  | 2 => ((tblEntries s.rfx.act 2 4096).filter fun k => leAt (s.tbl 2 (4096 * k + 2) 1) 0 1 % 4 = 3).length
  | 3 => (tblEntries s.rfx.act 3 1024).foldl (fun n t =>
      (List.range (min 63 (s.fmtSigs t))).foldl (fun n i => n + sigFallbacks (s.tbl 3 (1024 * t + 0x10 + 16 * i) 16)) n) 0
  | _ => 0

/-- A row keeps its state, result and time across a switch (R390). -/
def sameRow (x y : Row) : Bool :=
  x.op = y.op ∧ x.group = y.group ∧ x.a = y.a ∧ x.b = y.b ∧ x.c = y.c ∧ x.dstEn = y.dstEn ∧ x.dst = y.dst

/-- The rows loaded with EN 1, in ascending order. -/
def State.loaded (s : State) : List Nat := s.rfx.rows.keys.filter fun r => (s.row r).en

/-- The cycle time at which machine `m` entered its state; none before its first run in it. -/
def State.smBegan (s : State) (m : Nat) : Option Nat := NMap.get (fun _ => none) s.rfx.smSince m
def State.setSm (s : State) (m : Nat) (t : Option Nat) : State :=
  { s with rfx := { s.rfx with smSince := NMap.set (fun _ => none) s.rfx.smSince m t } }

/-- The row whose result point `n` takes: the one that its binding names, or a loaded row that names it as DST. -/
def State.feeder (s : State) (n : Nat) : Option Nat :=
  if (s.point n).bindKind = 8 then some ((s.point n).bind16 1)
  else s.loaded.find? fun r => (rowOf s.rfx.act r).dstEn ∧ (rowOf s.rfx.act r).dst = n

/-- A point whose row has not run since its load reads NOT_READY (R557), from its next update on; one that no row feeds carries no row's reason. -/
def State.markRows (s : State) : State :=
  s.pts.recs.keys.foldl (fun s n =>
    let p := s.point n
    let q := match s.feeder n with
      | none => 0
      | some r => if (s.row r).en ∧ (s.row r).ran then p.rowReason else qNotReady
    s.setPoint n { p with rowReason := q }) s

/-- Rows `ok` load with EN 1 and the others with EN 0; `old` is the copy that was active before, none where every row starts afresh (R390,
R394). A machine that stays in a VALID state keeps it and its time; any other begins at state 0 with time 0, which is counted from its first
run (R379, R384). -/
def State.placeRows (s : State) (ok : List Nat) (old : Option (NMap Byte)) : State :=
  let keep : Nat → Bool := fun r => match old with | none => false | some m => sameRow (rowOf m r) (rowOf s.rfx.act r)
  let rows := ok.map fun r => (r, if keep r then { s.row r with en := true } else { ({} : RowSt) with en := true })
  let kept := s.rfx.rows.filterMap fun (r, x) => if r ∉ ok ∧ keep r then some (r, { x with en := false }) else none
  let m := (rows ++ kept).foldl (fun m (r, x) => NMap.set (fun _ => {}) m r x) []
  let s := { s with rfx := { s.rfx with rows := m } }
  let s := (List.range 256).foldl (fun s m =>
    if old.isSome ∧ (s.smState m (s.rd (R.RFX_SM_STATE_STATE m))).valid then s
    else (s.setSm m none).wr (R.RFX_SM_STATE_STATE m) 0) s
  s.markRows

/-- ROWS and the VALID bits of the machines show what the active copies hold. -/
def State.showRows (s : State) (ok : List Nat) : State :=
  (List.range 256).foldl (fun s m => s.wr (R.RFX_SM_STATE_VALID m) (bnat (s.smValid m))) (s.wr R.RFX_STAT_ROWS ok.length)

/-- The check of R373 on the active copies: the rows that pass, and the failures counted. -/
def State.checkTables (s : State) : List Nat × State :=
  let (ok, n) := s.checkRows
  (ok.map (·.1), (s.inc R.RFX_CLAMP_CNT_COUNT n).showRows (ok.map (·.1)))

/-- Check and load the rows and machines of the active copies (R373, R390). -/
def State.loadTables (s : State) (old : Option (NMap Byte)) : State :=
  let (ok, s) := s.checkTables
  s.placeRows ok old

/-- Rows of an earlier cycle have finished on the old copies: the rows that the check at the switch has passed take their places. -/
def State.endOld (s : State) : State :=
  match s.rfx.old with
  | none => s
  | some (m, _, ok) => ({ s with rfx := { s.rfx with old := none } }).placeRows ok (some m)

/-- What the rows of the present cycle do, on the copies with which it began; the new ones load once no row waits (R388). -/
def State.onOld (s : State) (f : State → State) : State :=
  match s.rfx.old with
  | none => f s
  | some (m, b, _) =>
    let t : State := f { s with rfx := { s.rfx with act := m, bad := b } }
    let t : State := { t with rfx := { t.rfx with act := s.rfx.act, bad := s.rfx.bad } }
    if t.rfx.todo = [] then t.endOld else t

/-- The switch of every armed region at the capture instant of ring 0, and the check of R373 with it (R388). Rows of an earlier cycle that still run
finish on the old copies, with the states that they have. -/
def State.switchTables (s : State) : State :=
  let armed := (List.range 4).filter fun r => s.flag (armedFld r)
  if armed = [] then s
  else
    let old := s.rfx.act
    let act := armed.foldl (fun m r => copyRegion s.rfx.stg m r) old
    let was := s.rfx.old.getD (old, s.rfx.bad, [])
    let s := { s with rfx := { s.rfx with act := act, bad := s.rfx.bad.filter fun x => x.1 ∉ armed } }
    let s : State := armed.foldl (fun s r =>
      ((s.wr (armedFld r) 0).wr (syncingFld r) 1).wr (genFld r) ((s.rd (genFld r) + 1) % 64)) s
    let s := s.inc R.RFX_CLAMP_CNT_COUNT (armed.foldl (fun n r => n + s.fallbacks r) 0)
    let (ok, s) := s.checkTables
    if s.rfx.todo = [] then s.placeRows ok (some old) else { s with rfx := { s.rfx with old := some (was.1, was.2.1, ok) } }

/-- TABLE_SYNC_DONE (R389): the copy of the new active region into staging is done. -/
def execTableSyncDone (r : Fin 4) (s : State) : Host.Outcome State Fault Refusal :=
  if s.flag (syncingFld r) then
    .next (({ s with rfx := { s.rfx with stg := copyRegion s.rfx.act s.rfx.stg r } }).wr (syncingFld r) 0)
  else .next s

/-! ### Operands and results (R374, R375) -/

/-- What an operand delivers: binary64, raw bits, logical value, carried reason. -/
structure OpVal where
  num : Nat
  raw : Nat
  log : Bool
  reason : Nat
deriving DecidableEq, Repr

/-- The reason that a row carries from an operand (R375). -/
def carried (q : Nat) : Nat := if q = qForced ∨ q = qRule ∨ q = qSafeState then qNone else q

/-- The numeric value of a row's result. -/
def rowNum (x : RowSt) : Nat := if x.raw then f64.ofInt x.res else x.res

def State.operand (s : State) (o : Operand) : OpVal :=
  let v : OpVal := match o.src with
    | 1 =>
      let p := s.point o.index
      ⟨toF64 p.type p.value, p.value, f64True (toF64 p.type p.value), carried (p.quality % 64)⟩
    | 2 =>
      let x := s.row o.index
      if x.en ∧ x.ran then ⟨rowNum x, x.res, f64True (rowNum x), carried x.reason⟩ else ⟨0, 0, false, qNotReady⟩
    | 3 =>
      let x := s.rop (o.index % 256)
      ⟨x.value, x.raw, f64True x.value, if x.missed ∨ ¬ x.have_ then qNoResponse else carried x.reason⟩
    | _ => ⟨0, 0, false, qNone⟩
  { v with log := v.log != o.neg }

/-- The higher of carried reasons in Table 02-3. -/
def worst (rs : List Nat) : Nat := highest (rs.filter (· ≠ qNone))

/-! ### The operations (R378 to R381, R384) -/

/-- Seconds, in binary64, of a number of nanoseconds. -/
def f64sec (ns : Nat) : Nat := f64.div (f64.ofInt ns) (f64.ofInt 1000000000)

/-- The lower and the higher of two numbers. -/
def f64min (x y : Nat) : Nat := if (f64.dec y).lt (f64.dec x) then y else x
def f64max (x y : Nat) : Nat := if (f64.dec x).lt (f64.dec y) then y else x

/-- 1.0 or 0. -/
def f64Bool (b : Bool) : Nat := if b then 0x3FF0000000000000 else 0

/-- The PI rule (R380): the new result and integrator. -/
def piStep (w : Row) (first : Bool) (integ a b dt : Nat) : Nat × Nat :=
  let kp := f32.conv f64 (bits w.p0 0 32)
  let ki := f32.conv f64 (bits w.p0 32 32)
  let lo := f32.conv f64 (bits w.p1 0 32)
  let hi := f32.conv f64 (bits w.p1 32 32)
  let clamp := fun x => f64min hi (f64max lo x)
  let i0 := if first then clamp 0 else integ
  let e := f64.sub a b
  let inew := f64.add i0 (f64.mul (f64.mul ki e) dt)
  let u := f64.add (f64.mul kp e) inew
  let pos := (FV.fin false 0 0).lt (f64.dec e)
  let negv := (f64.dec e).lt (.fin false 0 0)
  let (u, inew) := if (f64.dec hi).lt (f64.dec u) then (hi, if pos then i0 else inew) else (u, inew)
  let (u, inew) := if (f64.dec u).lt (f64.dec lo) then (lo, if negv then i0 else inew) else (u, inew)
  (u, clamp inew)

/-- One step of a state machine (R384), at cycle time `t` (ns): the state entered, if any, and the reason in doubt. -/
def State.smStep (s : State) (m t : Nat) : Option Nat × Nat :=
  let st := s.rd (R.RFX_SM_STATE_STATE m)
  let x := s.smState m st
  let (fired, q) := x.trans.foldl (fun ((fired, q) : Option Nat × Nat) (r, neg, next) =>
    match fired with
    | some f => (some f, q)
    | none =>
      let c := s.operand ⟨2, neg, r⟩
      if c.reason ≠ qNone then (none, worst [q, c.reason]) else if c.log then (some next, q) else (none, q)) (none, qNone)
  match fired with
  | some f => (some f, q)
  | none =>
    let held := t - (s.smBegan m).getD t
    (if x.tmo ≠ 0 ∧ x.tmo * 1000 ≤ held then some x.tmoNext else none, q)

/-- The spec states no result for row `w`: CURVE on an invalid curve or a NaN, a format row whose table is no longer valid, or a NaN encoded into an
integer signal. The result is a free value, with reason FAULT where the row has one (log 67). -/
def State.openResult (s : State) (w : Row) : Bool :=
  let g := s.signal? (bits w.p0 0 9) (bits w.p0 16 6)
  (w.op = 11 ∧ s.curveAt (w.p0 % 1024) (s.operand w.a).num = none) ∨ ((w.op = 13 ∨ w.op = 14) ∧ g = none)
    ∨ (w.op = 14 ∧ f64.isNan (s.operand w.b).num ∧ g.any fun g => g.kind ≠ 2)

/-- The new state of row `w` after one run at cycle time `t` (ns); `v` is the free value of an open result. -/
def State.evalRow (s : State) (w : Row) (x : RowSt) (t v : Nat) : RowSt :=
  let a := s.operand w.a
  let b := s.operand w.b
  let c := s.operand w.c
  let first := !x.ran
  let q := worst (w.reads.map fun o => (s.operand o).reason)
  let dt := f64sec (if first then 0 else t - x.lastS)
  let y := { x with ran := true, lastS := t, reason := q, raw := false }
  let us := fun (p : Nat) => p % 2 ^ 32 * 1000
  -- the run at which the present logical level of A began
  let since := if first ∨ a.log ≠ x.prev then t else x.since
  let lvl := { y with prev := a.log, since := since }
  match w.op with
  | 1 =>
    let v := if w.b.none then w.p0 else b.num
    let p := f64.dec a.num
    let r := f64.dec v
    { y with res := f64Bool (match w.p1 % 8 with
      | 0 => p.lt r | 1 => p.lt r || p.eq r | 2 => p.eq r | 3 => !p.eq r | 4 => r.lt p || p.eq r | _ => r.lt p) }
  | 2 => { y with res := f64Bool (f64le w.p0 a.num && f64le a.num w.p1) }
  | 3 =>
    let up := (f64.dec w.p0).lt (f64.dec a.num)
    let dn := (f64.dec a.num).lt (f64.dec w.p1)
    { y with res := f64Bool (if up then true else if dn ∨ first then false else f64True x.res) }
  | 4 =>
    let o := if first then a.log
      else if a.log ≠ x.out ∧ us (if a.log then w.p0 else w.p1) ≤ t - since then a.log else x.out
    { lvl with out := o, res := f64Bool o }
  | 5 =>
    let held := decide (us w.p0 ≤ t - since)
    match w.p1 % 4 with
    | 0 => { lvl with res := f64Bool (a.log && held) }
    | 1 =>
      let o := a.log || (!first && x.out && !held)
      { lvl with out := o, res := f64Bool o }
    | _ =>
      let going := x.out && decide (t - x.start < us w.p0)
      let edge := !first && a.log && !x.prev
      let start := if edge ∧ ¬ going then t else x.start
      let o := going || (edge && decide (us w.p0 ≠ 0))
      { lvl with out := o, start := start, res := f64Bool o }
  | 6 => { y with res := f64Bool ((w.a.none || a.log) && (w.b.none || b.log) && (w.c.none || c.log)) }
  | 7 => { y with res := f64Bool ((!w.a.none && a.log) || (!w.b.none && b.log) || (!w.c.none && c.log)) }
  | 8 =>
    let o := if a.log ∧ b.log then bit w.p1 0 else if a.log then true else if b.log then false else x.out
    { y with out := o, res := f64Bool o }
  | 9 =>
    match x.finite with
    | none => { y with res := a.num, finite := if f64Finite a.num ∧ q ≠ qFault then some a.num else none }
    | some l =>
      let up := f64.add l (f64.mul w.p0 dt)
      let dn := f64.sub l (f64.mul w.p1 dt)
      let r := if f64.isNan a.num then f64.nan
        else if (f64.dec l).lt (f64.dec a.num) then f64min up a.num else f64max dn a.num
      { y with res := r, finite := if f64Finite r ∧ q ≠ qFault then some r else some l }
  | 10 =>
    if q ≠ qNone then { y with res := x.res, integ := if first then (piStep w true 0 0 0 0).2 else x.integ }
    else
      let (r, i) := piStep w first x.integ a.num b.num dt
      { y with res := r, integ := i }
  | 11 =>
    match s.curveAt (w.p0 % 1024) a.num with
    | none => { y with res := v, reason := qFault }
    | some (r, z) => { y with res := r, reason := worst [q, z] }
  | 13 =>
    match s.signal? (bits w.p0 0 9) (bits w.p0 16 6) with
    | none => { y with res := v, reason := qFault }
    | some g => { y with res := g.decode ((g.read (leBytes 8 a.raw)).getD 0) }
  | 14 =>
    match s.signal? (bits w.p0 0 9) (bits w.p0 16 6) with
    | none => { y with res := v, raw := true, reason := qFault }
    | some g =>
      let n := if f64.isNan b.num ∧ g.kind ≠ 2 then v % 2 ^ g.len else g.encode b.num
      { y with res := leNat (g.write (leBytes 8 a.raw) n), raw := true }
  | _ =>
    let bad := a.reason = qNotReady ∨ classOf a.reason false = 2 ∨ (classOf a.reason false = 1 ∧ bit w.p1 0)
    if bad then { y with res := if ¬ w.b.none ∧ b.reason = qNone then b.num else w.p0, reason := qRule }
    else { y with res := a.num, reason := a.reason }

/-- The points that take a row's result: DST, and those bound to it by kind 0x08. -/
def State.rowPoints (s : State) (r : Nat) (w : Row) : List Nat :=
  let bound := s.pts.recs.keys.filter fun n => (s.point n).bindKind = 8 ∧ (s.point n).bind16 1 = r
  if w.dstEn then w.dst :: bound.filter (· ≠ w.dst) else bound

/-- A point that a row of the present cycle updates: not an output point, and due in the cycle by its own rate group (R52). -/
def State.rowUpdate (s : State) (n : Nat) : State :=
  let p := s.point n
  if p.isOutput ∨ ¬ s.groupDue 0 p.rateGroup s.rfx.cycK then s else s.updatePoint n

/-- A row's result reaches one point (R374): a reason FAULT delivers no value. The reason is a condition of the point. Input points and
variables are updated at once, in a cycle of their rate group; an output point is updated at the output freeze. -/
def State.giveResult (s : State) (x : RowSt) (n : Nat) : State :=
  let s := s.setPoint n { s.point n with rowReason := x.reason }
  let p := s.point n
  let v := if x.raw then x.res else fromF64 p.type (rowNum x)
  let s := if x.reason = qFault then s else s.deliver n ⟨v, s.tdEnc p.dom, none⟩
  s.rowUpdate n

/-- A row of the present cycle runs. -/
def State.runRow (s : State) (r : Nat) : State :=
  let w := rowOf s.rfx.act r
  let t := s.rfx.cycS
  if w.op = 12 then
    let m := w.p0 % 256
    let y := { s.row r with ran := true, lastS := t, raw := false }
    let (s, y) :=
      if ¬ s.smValid m then (s, { y with reason := qFault })
      else
        let (fired, q) := s.smStep m t
        let s := match fired with
          | none => s.setSm m (some ((s.smBegan m).getD t))
          | some f => ((s.setSm m (some t)).wr (R.RFX_SM_STATE_STATE m) f).inc (R.RFX_SM_STATE_STEPS m)
        (s, { y with res := (s.smState m (s.rd (R.RFX_SM_STATE_STATE m))).out, reason := q })
    let y := if f64.isNan y.res then { y with reason := qFault } else y
    (s.rowPoints r w).foldl (fun s n => s.giveResult y n) (s.setRow r y)
  else
    let (v, s) := if s.openResult w then s.draw else (0, s)
    let y := s.evalRow w (s.row r) t v
    let y := if ¬ y.raw ∧ f64.isNan y.res then { y with reason := qFault } else y
    (s.rowPoints r w).foldl (fun s n => s.giveResult y n) (s.setRow r y)

/-- A row does not run in this cycle: its points that are not outputs are updated with nothing delivered (R376, R557). -/
def State.skipRow (s : State) (r : Nat) : State :=
  (s.rowPoints r (rowOf s.rfx.act r)).foldl State.rowUpdate s

/-! ### The cycle (R376, R377) -/

/-- The remote entries that a row names. -/
def Row.remotes (w : Row) : List Nat :=
  ([w.a, w.b, w.c].filter (·.src = 3)).map (·.index % 256)

/-- Issue the fetch of remote entry `j` (R377): a READ of bytes 0x00 to 0x17 on behalf of slot 0 in class 6. With no tag free, or no
route, it is settled at once as missed, and so is an entry that is no longer valid. -/
def State.fetchRop (s : State) (j : Nat) : State :=
  let x := { s.rop j with resp := none, settled := false, missed := false, out := none }
  let miss := fun (s : State) => (s.setRop j { x with settled := true, missed := true }).inc R.RFX_CNT_REM_MISS
  if ¬ s.ropOk j ∨ ¬ s.mayAllocate s.claimed 0 then miss s
  else
    let (k?, s) := s.pickTag
    match k? with
    | none => miss s
    | some k =>
      let node := s.absNode (s.rd (R.RFX_ROP_NODE j))
      match s.route node false with
      | .to n via d =>
        let req : Req :=
          { origin := .here k, src := s.node0, tn := 0, tag := k, gen := (s.tag k).gen, op := opRead, node := node, tc := 6
            space := 0x100, off := 64 * s.rd (R.RFX_ROP_POINT j), len := 24 }
        let tx : Tx :=
          { slot := 0, pair := 512, cid := 0, req := req, seq := s.hif.seq, startAt := s.ns, tmo := s.rd (R.HIF_TMO_TMO 0)
            remote := true, dir := d, ring := n, via := via, rop := some j }
        let s := { s with hif := { s.hif with seq := s.hif.seq + 1 } }
        let s := (s.setTag k { s.tag k with use := .flight tx }).setRop j { x with out := some tx.seq }
        s.submit 26 (lane n d) { req.toFrame with dst := node }
      | _ => miss s

/-- Settle remote entry `j` by its answer, or as missed when `late` (R377). -/
def State.settleRop (s : State) (j : Nat) (late : Bool) : State :=
  let x := s.rop j
  if x.settled then s
  else match x.resp with
  | some (0, b) =>
    let ty := leAt b 0x15 1
    let v := leAt b 0 8
    s.setRop j { x with value := toF64 ty v, raw := v, reason := leAt b 0x14 1 % 64, have_ := true, settled := true, resp := none }
  | some _ => (s.setRop j { x with settled := true, missed := true, resp := none }).inc R.RFX_CNT_REM_MISS
  | none => if late then (s.setRop j { x with settled := true, missed := true }).inc R.RFX_CNT_REM_MISS else s

/-- Run the rows that wait, in ascending order, up to the first whose remote operand has not been settled (R377). -/
def State.runRows (s : State) : Nat → State
  | 0 => s
  | n + 1 =>
    match s.rfx.todo with
    | [] =>
      if s.rfx.running then
        let (v, s) := s.draw
        ({ s with rfx := { s.rfx with running := false } }).wr R.RFX_STAT_LAST_NS (v % 2 ^ 16)
      else s
    | r :: rest =>
      let rem := (rowOf s.rfx.act r).remotes
      let s := rem.foldl (fun s j => s.settleRop j false) s
      if rem.any fun j => ¬ (s.rop j).settled then s
      else (({ s with rfx := { s.rfx with todo := rest } }).runRow r).runRows n

/-- Continue the rows of the present cycle. -/
def State.resumeRows (s : State) : State := s.onOld fun s => s.runRows (s.rfx.todo.length + 1)

/-- The points bound to a row that does not run in the present cycle, or to none, are updated with nothing delivered (R52, R54). -/
def State.idleRowPoints (s : State) (due : List Nat) : State :=
  (s.pts.recs.keys.filter fun n => (s.point n).bindKind = 8 ∧ (s.point n).bind16 1 ∉ due ∧ (s.point n).configured).foldl State.rowUpdate s

/-- The rows of cycle `k` start at E_k (R376, R557). -/
def State.startRows (s : State) (k : Nat) : State :=
  let s := s.endOld
  let base := 8 * s.rd (R.RING_CYC_CFG_BASE 0)
  let due := s.loaded.filter fun r => s.groupDue 0 (rowOf s.rfx.act r).group k
  let s := { s with rfx := { s.rfx with cycK := k, cycS := k * base, todo := due, running := true } }
  let s := s.idleRowPoints due
  if ¬ s.flag R.RFX_CFG_EN then
    due.foldl (fun s r => s.skipRow r) { s with rfx := { s.rfx with todo := [], running := false } }
  else
    let ropsOf := (due.flatMap fun r => (rowOf s.rfx.act r).remotes).dedup
    (ropsOf.foldl (fun s j => s.fetchRop j) s).resumeRows

/-- REMOTE_FETCH_DEADLINE (R377): E_k + REM_WAIT has passed, and every entry still without an answer gives NO_RESPONSE. -/
def execRemoteFetchDeadline (s : State) : Host.Outcome State Fault Refusal :=
  .next (s.onOld fun s =>
    let rem := (s.rfx.todo.flatMap fun r => (rowOf s.rfx.act r).remotes).dedup
    (rem.foldl (fun s j => s.settleRop j true) s).runRows (s.rfx.todo.length + 1))

/-- The rows that still wait are skipped 500 ns before D_k (R376), and LAST_NS shows the time that the cycle has taken, a free value. -/
def State.overrunRows (s : State) : State :=
  if s.rfx.todo = [] then s
  else
    let s1 := s.onOld fun s => s.rfx.todo.foldl (fun s r => s.skipRow r) { s with rfx := { s.rfx with todo := [], running := false } }
    let (v, s1) := s1.draw
    ((s1.wr R.RFX_STAT_LAST_NS (v % 2 ^ 16)).inc R.RFX_CNT_OVERRUN).raise 19 .C

/-! ### Errors (R393) -/

/-- Restart a row as a changed one (R390). -/
def State.restartRow (s : State) (r : Nat) : State := (s.setRow r { ({} : RowSt) with en := (s.row r).en }).markRows

/-- An error in the engine's memories (R393). -/
def State.reflexError (s : State) (e : RfxError) : State :=
  match e with
  | .corrected => s.raise 19 .C
  | .row r =>
    let s := { s with rfx := { s.rfx with bad := (0, r) :: s.rfx.bad } }
    let s := (s.setRow r { s.row r with en := false }).markRows.raise 19 .U
    s.wr R.RFX_STAT_ROWS s.loaded.length
  | .machine m =>
    let s := { s with rfx := { s.rfx with bad := (1, m) :: s.rfx.bad } }
    (s.wr (R.RFX_SM_STATE_VALID m) 0).raise 19 .U
  | .curve k => ({ s with rfx := { s.rfx with bad := (2, k) :: s.rfx.bad } }).raise 19 .U
  | .format t => ({ s with rfx := { s.rfx with bad := (3, t) :: s.rfx.bad } }).raise 19 .U
  | .rowState r => (s.restartRow r).raise 19 .U
  | .machineState m =>
    ((s.setSm m none).wr (R.RFX_SM_STATE_STATE m) 0).raise 19 .U

/-- REFLEX_MEMORY_ERROR (R393). -/
def execReflexMemoryError (e : RfxError) (s : State) : Host.Outcome State Fault Refusal := .next (s.reflexError e)

end Sys2Proof.Machine
end

