-- ==== Sys2Proof/Machine/Delta.lean ====
section
/-!
DEFINITION. The state delta of a twin pair (chapter 15): what the active sends at an output freeze, and what the standby does with it.
-/

namespace Sys2Proof.Machine

/-- PAIR codes of TWIN_STAT (Table 15-5). -/
abbrev pNone : Nat := 0
abbrev pForming : Nat := 1
abbrev pSyncing : Nat := 2
abbrev pReady : Nat := 3
abbrev pDetached : Nat := 4
abbrev pMismatch : Nat := 5

/-- The hub is the active of its pair. -/
def State.active (s : State) : Bool := s.rd R.TWIN_STAT_ROLE = 1
/-- The hub has taken the standby role. -/
def State.isStandby (s : State) : Bool := s.rd R.TWIN_STAT_ROLE = 2
/-- PAIR reads `p`. -/
def State.pairIs (s : State) (p : Nat) : Bool := s.rd R.TWIN_STAT_PAIR = p

/-- The length of a delta (R400). -/
def deltaBytes (points chans rows machines : Nat) : Nat := 64 + 72 * points + 256 * chans + 16 * rows + 8 * machines

/-- TWIN_DELTA and TWIN_DELTA_T of a delta of `n` bytes: its lane time at 3.1 GB/s, in 8 ns units. -/
def State.noteDelta (s : State) (n : Nat) : State :=
  (s.wr R.TWIN_DELTA_BYTES n).wr R.TWIN_DELTA_T_TIME (min (2 ^ 27 - 1) (10 * n / 248))

/-- A point as a delta carries it: its record, its kept value, and how long ago its last delivery came. -/
def State.deltaPoint (s : State) (n : Nat) : DeltaPoint :=
  let p := s.point n
  { n := n, record := p.bytes, kept := p.kept.map fun d => (d.value, d.ts, d.quality), ago := s.ns - p.deliveredAt }

/-- A machine as a delta carries it: its state, and how long ago it entered it. -/
def State.deltaMachine (s : State) (m : Nat) : Nat × Nat × Nat :=
  let t := nsCount (s.tdNow 0)
  (m, s.rd (R.RFX_SM_STATE_STATE m), t - (s.smBegan m).getD t)

/-- A channel's context: TX FIFO words are not carried (R400). -/
def chanContext (x : Chan) : Chan := { x with tx := [] }

/-- A machine has stepped since the last delta started: an entry into state 0 that no step made is not one. -/
def State.hasStepped (s : State) (m : Nat) : Bool :=
  let old := NMap.get (fun _ => none) s.twin.sentSteps m
  s.smBegan m ≠ old ∧ (old ≠ none ∨ s.rd (R.RFX_SM_STATE_STATE m) ≠ 0)

/-- The delta of cycle `k`: what has changed since the last delta started, and every channel that is not HALTED (R400, R402). -/
def State.deltaOf (s : State) (k : Nat) : Delta :=
  let old := fun n => NMap.get (fun _ => ({} : Point)) s.twin.sentPoints n
  { k := k
    points := (s.pts.recs.keys.filter fun n => (s.point n).bytes ≠ (old n).bytes).map s.deltaPoint
    chans := (s.eng.chans.filter fun x => x.2.st ≠ chHalted).map fun x => (x.1, chanContext x.2)
    rows := (s.rfx.rows.keys.filter fun r => s.row r ≠ NMap.get (fun _ => {}) s.twin.sentRows r).map fun r => (r, s.row r)
    machines := ((List.range 256).filter s.hasStepped).map s.deltaMachine }

/-- A full resynchronisation: every configured point, channel context, row and machine; rows and channels that are not listed stand as after
reset (R401). -/
def State.resyncOf (s : State) : Delta :=
  { k := s.rfx.cycK, resync := true
    points := (s.pts.recs.keys.filter fun n => (s.point n).configured).map s.deltaPoint
    chans := s.eng.chans.map fun x => (x.1, chanContext x.2)
    rows := s.rfx.rows
    machines := (List.range 256).map s.deltaMachine }

/-- The length of what is sent. -/
def deltaLen (d : Delta) : Nat :=
  if d.resync then deltaBytes d.points.length 256 4096 256
  else deltaBytes d.points.length d.chans.length d.rows.length d.machines.length

/-- Start to send `d`: the lane is taken for its length at 3.1 GB/s. -/
def State.startSend (s : State) (d : Delta) (late : Bool) : State :=
  let s := { s with twin := { s.twin with
    sentPoints := s.pts.recs, sentRows := s.rfx.rows, sentSteps := s.rfx.smSince, out := if d.resync then 1 else 2
    endAt := s.ns + (10 * (deltaLen d) + 30) / 31, lateNow := late, due := if d.resync then s.twin.due else none, resync := s.twin.resync && !d.resync } }
  (s.noteDelta (deltaLen d)).emit (.delta d)

/-- The previous delta completed within its window: LAGGING clears, and a pair whose resynchronisation has gone before becomes READY, which
ends DEGRADED (R401, R402, R408). -/
def State.deltaInTime (s : State) : State :=
  let s := s.wr R.TWIN_STAT_LAGGING 0
  if s.pairIs pSyncing then (s.wr R.TWIN_STAT_PAIR pReady).wr R.TWIN_STAT_DEGRADED 0 else s

/-- The lane time of what is being sent has ended. -/
def State.endSend (s : State) : State :=
  let good : Bool := s.twin.out = 2 ∧ ¬ s.twin.lateNow ∧ ¬ s.twin.resync
  let s := { s with twin := { s.twin with out := 0, lateNow := false } }
  if good then s.deltaInTime else s

/-- The active sends on the lane: a resynchronisation that is due, or the delta that is due, once what went before has ended (R400 to R402). DESIGN
CHOICE (log 88): the end of a lane time is acted on by the next output freeze or output deadline that follows it. -/
def State.twinTurn (s : State) : State :=
  if ¬ s.active ∨ ¬ s.isUp 4 ∨ ¬ (s.pairIs pSyncing ∨ s.pairIs pReady) then s
  else
    let s := if s.twin.out ≠ 0 ∧ s.twin.endAt ≤ s.ns then s.endSend else s
    if s.twin.out ≠ 0 then s
    else if s.twin.resync then s.startSend s.resyncOf false
    else match s.twin.due with
      | none => s
      | some (k, late) => s.startSend (s.deltaOf k) late

/-- At F_k the delta of cycle `k` falls due; it takes in those that were held back (R400 to R402). -/
def State.sendDelta (s : State) (k : Nat) : State :=
  if s.active then ({ s with twin := { s.twin with due := some (k, false) } }).twinTurn else s

/-- The window of the active's latest delta has ended and it is not complete (R402): the one in progress, or else the one that it holds back. One
whose lane time is over is held back at the standby (R361), for a time that is a free value. -/
def State.missWindow (s : State) : State :=
  if s.twin.lateNow then { s with twin := { s.twin with due := s.twin.due.map fun x => (x.1, true) } }
  else
    let (v, s) := if s.twin.endAt ≤ s.ns then s.draw else (0, s)
    { s with twin := { s.twin with lateNow := true, endAt := max s.twin.endAt (s.ns + v + 1) } }

/-- DELTA_WINDOW_EXPIRY (R402): a delta has not completed within its window. -/
def execDeltaWindowExpiry (s : State) : Host.Outcome State Fault Refusal :=
  let mine : Bool := s.active ∧ s.twin.out = 2 ∧ (¬ s.twin.lateNow ∨ s.twin.due.any fun x => !x.2)
  if mine ∨ (s.isStandby ∧ (s.pairIs pSyncing ∨ s.pairIs pReady)) then
    .next (((if mine then s.missWindow else s).wr R.TWIN_STAT_LAGGING 1).inc R.TWIN_CNT_LAGGED)
  else .next s

/-- RESYNC (Table 15-8): TWIN_CMD starts a full resynchronisation on the active. -/
def State.startResync (s : State) : State :=
  if s.active ∧ (s.pairIs pSyncing ∨ s.pairIs pReady) then
    ({ s with twin := { s.twin with resync := true } }).wr R.TWIN_STAT_PAIR pSyncing
  else s

def execResync (s : State) : Host.Outcome State Fault Refusal := .next s.startResync

/-! ### The standby (R403) -/

/-- The state part of a channel context: all but its FIFOs. -/
def chanState (x : Chan) : Chan := { x with tx := [], rx := [] }

/-- The shadow results of cycle `k`, as a standby's output freeze leaves them; those of the last 8 cycles are kept, and a delta of another cycle is
compared with nothing (DESIGN CHOICE, log 88). -/
def State.noteShadow (s : State) (k : Nat) : State :=
  if ¬ s.isStandby then s
  else
    let ins := (s.pts.recs.keys.filter fun n => (s.point n).type = tBool ∧ ¬ (s.point n).isOutput ∧ (s.point n).bindKind = 1).map fun n => (n, (s.point n).value)
    let h : Shadow := { k := k, rows := s.rfx.rows, chans := s.eng.chans, inputs := ins }
    { s with twin := { s.twin with shadows := (h :: s.twin.shadows).take 8 } }

/-- What of a delta differs from the shadow results of its cycle: rows, channels, BOOL input points of kind 0x01. With none kept of that cycle there
is nothing to compare. -/
def State.differences (s : State) (d : Delta) : Nat × Nat × Nat :=
  match s.twin.shadows.find? fun h => h.k = d.k with
  | none => (0, 0, 0)
  | some h =>
    let row := fun r => NMap.get (fun _ => ({} : RowSt)) h.rows r
    ((d.rows.filter fun (x : Nat × RowSt) => (row x.1).res ≠ x.2.res ∨ (row x.1).reason ≠ x.2.reason).length,
     (d.chans.filter fun (x : Nat × Chan) => chanState (NMap.get (fun _ => {}) h.chans x.1) ≠ chanState x.2).length,
     (d.points.filter fun (x : DeltaPoint) => (h.inputs.lookup x.n).any fun v => v ≠ leAt x.record 0 8).length)

/-- A point of the delta replaces the standby's (R403): its record with VALUE, TIMESTAMP and QUALITY, its kept value, and its last delivery time. -/
def State.takeDeltaPoint (s : State) (x : DeltaPoint) : State :=
  let p := Point.ofBytes x.record
  let old := s.point x.n
  let v := leAt x.record 0 8
  let q := leAt x.record 0x14 1
  s.setPoint x.n { p with
    value := v, ts := leAt x.record 8 12, quality := q
    kept := x.kept.map (fun (k : Nat × Nat × Option Nat) => (⟨k.1, k.2.1, k.2.2⟩ : Delivered))
    deliveredAt := s.ns - x.ago, fresh := none, forced := if p.isForced then v else old.forced, conds := old.conds
    supplied := (x.kept.bind fun (k : Nat × Nat × Option Nat) => suppliedCond k.2.2), rowReason := old.rowReason
    notReady := x.kept.isNone || (q % 64 == qNotReady && old.rowReason != qNotReady) }

/-- A complete and verified delta is compared and applied. -/
def State.deltaIn (s : State) (d : Delta) : State :=
  let (r, c, i) := s.differences d
  let s := if d.resync ∨ (r = 0 ∧ c = 0 ∧ i = 0) then s
    else (((s.inc R.TWIN_CMP_CNT_ROW r).inc R.TWIN_CMP_CNT_CHANNEL c).inc R.TWIN_CMP_CNT_INPUT i).raise 12 .C
  let s := d.points.foldl State.takeDeltaPoint s
  let s := d.chans.foldl (fun s (k, x) => s.setChan (k / 16) (k % 16) { x with tx := (s.chan (k / 16) (k % 16)).tx }) s
  let s := d.rows.foldl (fun s (r, x) => s.setRow r x) s
  let s := d.machines.foldl (fun s (m, st, ago) =>
    (s.setSm m (some (nsCount (s.tdNow 0) - ago))).wr (R.RFX_SM_STATE_STATE m) st) s
  let s := s.noteDelta (deltaLen d)
  if d.resync then s.wr R.TWIN_STAT_PAIR pSyncing
  else if d.inTime then s.deltaInTime
  else s

/-- The cells of a delta in the switch core. It comes from the twin lane, input 4, as one frame of class 6 for the point store, output 26 (DESIGN
CHOICE, log 82: its frame format is private). -/
def deltaFrame (d : Delta) : QFrame := { inp := 4, out := bPoints, cls := 6, cells := ((deltaLen d) + 255) / 256, frame := {} }

/-- A delta reaches the switch core (R361): it is applied, or it waits at its input while there is no room, and so do those behind it. -/
def State.deltaArrives (s : State) (d : Delta) : State :=
  let x := deltaFrame d
  if s.admits x.inp x.out x.cls x.cells ∧ s.twin.inbox = [] then s.deltaIn d
  else
    let s := { s with twin := { s.twin with inbox := s.twin.inbox ++ [d] }, sw := { s.sw with held := s.sw.held ++ [x] } }
    (s.inc (R.SW_OQ_CNT_REFUSED (8 * x.out + x.cls))).inc (R.SW_IN_CNT_HOLD x.inp)

/-- DELTA_RECEIVE (R403). -/
def execDeltaReceive (d : Delta) (s : State) : Host.Outcome State Fault Refusal :=
  if s.isStandby ∧ s.isUp 4 ∧ (s.pairIs pSyncing ∨ s.pairIs pReady) then .next (s.deltaArrives d) else .next s

/-- A delta that was held at input 4 has room: it is applied, if the hub is still a standby that takes deltas. -/
def State.takeHeldDelta (s : State) : State :=
  match s.twin.inbox with
  | [] => s
  | d :: r =>
    let x := deltaFrame d
    if s.admits x.inp x.out x.cls x.cells then
      let s := { s with twin := { s.twin with inbox := r }, sw := { s.sw with held := s.sw.held.erase x } }
      if s.isStandby ∧ (s.pairIs pSyncing ∨ s.pairIs pReady) then s.deltaIn d else s
    else s

/-- HELD_FRAME_ADMIT (R361): room for the oldest frame held at input `i` for output `o` in class `c`; what the twin lane holds is a delta. -/
def execHeldFrameAdmit (i o : Fin 32) (c : Fin 8) (s : State) : Host.Outcome State Fault Refusal :=
  if i.val = 4 then .next (if o.val = bPoints ∧ c.val = 6 then s.takeHeldDelta else s) else .next (s.admitHeld i o c)

end Sys2Proof.Machine
end

