-- ==== Sys2Proof/Machine/Meas.lean ====
section
/-!
DEFINITION. Measurement channels and analog outputs (chapter 09): the delivery that a channel forms at a capture instant, processing,
open-wire and short conditions, background and system calibration, and the AO latch.
-/

namespace Sys2Proof.Machine

def State.measCh (s : State) (c : Nat) : MeasCh := NMap.get (fun _ => {}) s.meas.ch c
def State.setMeasCh (s : State) (c : Nat) (x : MeasCh) : State :=
  { s with meas := { s.meas with ch := NMap.set (fun _ => {}) s.meas.ch c x } }

/-- binary64 of a decimal n / d. -/
def f64rat (n : Int) (d : Nat) : Nat := f64.div (f64.ofInt n) (f64.ofInt d)

/-! ### Ranges (R262 to R264) -/

/-- The 50 Ω shunt of a 4 to 20 mA input is closed, and the excitation of an RTD input flows: neither on the standby (Table 08-6, R273). -/
def State.shuntOn (s : State) (c : Nat) : Bool :=
  s.fn (c / 4) (c % 4) = fnAi ∧ s.range c = 2 ∧ ¬ (s.measCh c).shuntOpen ∧ ¬ s.standby
def State.excites (s : State) (c : Nat) : Bool :=
  s.fn (c / 4) (c % 4) = fnAi ∧ s.range c = 4 ∧ ¬ s.isSense c ∧ ¬ s.standby

/-- Code full scale of a range under an excitation current, in SI units (Table 09-1), binary64. -/
def fullScaleOf (range exc : Nat) : Nat :=
  match range with
  | 0 => f64rat 125 10
  | 2 => f64rat 3125 100000
  | 3 => f64rat 1 10
  | 4 => f64rat (match exc with | 0 => 31250 | 1 => 12500 | 2 => 6250 | _ => 3125) 1
  | _ => f64rat 3125 100

/-- Code full scale of a channel. -/
def State.fullScale (s : State) (c : Nat) : Nat := fullScaleOf (s.range c) (s.rd (R.MEAS_CFG_EXC (s.cfgOf c)))

/-- OSR (Table 09-2). -/
def osr (code : Nat) : Nat :=
  [80, 160, 400, 800, 2000, 4000, 8000, 20000, 40000, 66667, 80000, 160000].getD code 400000

/-- The output period of a channel in ns. -/
def State.measPeriod (s : State) (c : Nat) : Nat := 250 * osr (s.rd (R.MEAS_CFG_RATE (s.cfgOf c)))

/-! ### Deliveries (R267 to R270) -/

/-- A code, saturated to 24 bits (R262). -/
def satCode (v : Int) : Int := min 8388607 (max (-8388608) v)

/-- The code of a sample saturates. -/
def isClipped (v : Int) : Bool := v ≤ -8388608 ∨ 8388607 ≤ v

/-- The codes of one sample of channel `c`, with those of the two channels after it, combined (R263): V(x) − 2 V(y), V(B) − V(C), or V(x). -/
def State.combineCodes (s : State) (c : Nat) (v y z : Int) : Int :=
  if s.range c ≠ 4 then v
  else match s.wire c with
  | 1 => v - 2 * y
  | 2 => y - z
  | _ => v

/-- Sample `i` of channel `c`, whose code is `v`, with those of its sense channels (R263). -/
def State.combine (s : State) (c : Nat) (m : Measured) (i : Nat) (v : Int) : Int :=
  let other := fun k => match m.find? (·.1 = k) with | some (_, xs) => satCode ((xs.getD i ⟨0, 0⟩).code) | none => 0
  s.combineCodes c v (other (c + 1)) (other (c + 2))

/-- The sum of integers divided by their number, as binary64. -/
def meanOf (vs : List Int) : Nat := f64rat (vs.foldl (· + ·) 0) vs.length

/-- The value x of R270 for a code in binary64: internal calibration, and the lead resistance of a 2-wire RTD. DESIGN CHOICE (log 80): the codes of
R263's sense channels are combined as they are, and channel `c`'s own gain and offset correct the result. -/
def State.xOf (s : State) (c code : Nat) : Nat :=
  let m := s.measCh c
  let raw := f64.div (f64.mul code (s.fullScale c)) (f64.ofInt 8388608)
  let x := f64.sub (f64.mul m.gain raw) m.ofs
  if s.range c = 4 ∧ s.wire c = 0 then f64.sub x (f64rat (s.rd (R.MEAS_LEAD_LEAD c)) 1000) else x

/-- The processed value y of R270; none while CJ_CURVE names no valid curve. -/
def State.yOf (s : State) (c code : Nat) : Option Nat :=
  let y := f64.mul (f32.conv f64 (s.rd (R.MEAS_SYS_GAIN_GAIN c))) (f64.sub (s.xOf c code) (f32.conv f64 (s.rd (R.MEAS_SYS_OFS_OFS c))))
  if s.range c = 3 ∧ s.flag (R.MEAS_CFG_CJ_EN c) then
    (s.curveAt (s.rd (R.MEAS_CFG_CJ_CURVE c)) (f64rat (sext 16 (s.rd (R.MEAS_CJ_TEMP (c / 4)))) 100)).map fun (e, _) => f64.add y e
  else some y

/-- The delivery of a window of samples (R267, R268): the code (binary64), and how long before C_k its time lies, in units of 2^-16 ns. DESIGN CHOICE
(log 80): of equal smallest or largest samples the earliest is the chosen one. -/
def aggregate (agg : Nat) (xs : List (Int × Nat)) : Nat × Nat :=
  let pick := fun (better : Int → Int → Bool) => xs.foldl (fun (b : Option (Int × Nat)) x => match b with
    | none => some x
    | some y => if better x.1 y.1 then some x else some y) none
  match agg with
  | 1 => (meanOf (xs.map (·.1)), ((xs.headD (0, 0)).2 + (xs.getLastD (0, 0)).2) / 2)
  | 2 => let x := (pick fun a b => decide (a < b)).getD (0, 0); (f64.ofInt x.1, x.2)
  | 3 => let x := (pick fun a b => decide (b < a)).getD (0, 0); (f64.ofInt x.1, x.2)
  | _ => let x := xs.getLastD (0, 0); (f64.ofInt x.1, x.2)

/-- The channel delivers its window to one point bound by kind 0x02 (R269): `raw` is the aggregate of its own codes for an integer type, `x` that of
the codes of R263 for a FLOAT type, each with how long before now its time lies. -/
def State.giveMeas (s : State) (c : Nat) (raw x : Nat × Nat) (clip : Bool) (n : Nat) : State :=
  let q := s.point n
  let t := fun (ago : Nat) => timeEnc (s.tdNow q.dom - ago)
  let s := s.setCond n qClipped clip
  if q.type = tInt32 ∨ q.type = tInt64 then s.deliver n ⟨fromF64 q.type raw.1, t raw.2, none⟩
  else if q.type = tFloat32 ∨ q.type = tFloat64 then
    match s.yOf c x.1 with
    | some y => s.deliver n ⟨fromF64 q.type y, t x.2, none⟩
    | none => s
  else s

/-- The filter's group delay of a channel (R269): 4.5 sample periods. -/
def State.measDelay (s : State) (c : Nat) : Nat := 9 * s.measPeriod c * 65536 / 2

/-- ALIGN of a channel in effect: one period divides the other (R266). -/
def State.aligned (s : State) (c : Nat) : Bool :=
  s.flag (R.MEAS_CFG_ALIGN (s.cfgOf c)) ∧ (s.baseNs 0 % s.measPeriod c = 0 ∨ s.measPeriod c % s.baseNs 0 = 0)

/-- The samples of a channel that end in the window of C_k, oldest first. Those of an aligned one end at C_k and whole periods before it, G / P
in each cycle, or one in every P / G cycles (R266). -/
def State.sampleWindow (s : State) (c k : Nat) (xs : List MeasSample) : List MeasSample :=
  let per := s.measPeriod c
  let g := s.baseNs 0
  if ¬ s.aligned c then xs
  else if g % per = 0 then
    let ys := xs.drop (xs.length - g / per)
    (ys.zip (List.range ys.length)).map fun y => { y.1 with ago := (ys.length - 1 - y.2) * per }
  else if k % (per / g) = 0 then (xs.drop (xs.length - 1)).map fun y => { y with ago := 0 } else []

/-- The points bound to pin `x` by kind 0x02 that update in cycle `k`: a point on a sub-rate takes the delivery of that capture instant alone
(R267). -/
def State.measPoints (s : State) (p x k : Nat) : List Nat :=
  (s.pinPoints p x).filter fun n => (s.point n).bindKind = 2 ∧ s.groupDue 0 (s.point n).rateGroup k

/-- Channel `c` at the capture instant of cycle `k`, with the samples that ended in its window, oldest first (R267). -/
def State.captureChannel (s : State) (m : Measured) (k c : Nat) (xs : List MeasSample) : State :=
  let p := c / 4
  let x := c % 4
  let f := s.fn p x
  if xs = [] ∨ ¬ (f = fnAi ∨ f = fnAo) ∨ (s.measCh c).shuntOpen ∨ s.ns < (s.measCh c).settleAt
      ∨ (s.standby ∧ (f = fnAo ∨ s.range c = 2 ∨ s.range c = 4)) then s
  else
    let last := satCode (xs.getLastD ⟨0, 0⟩).code
    let s := (s.wr (R.MEAS_STAT_CODE c) (toBits 24 last)).wr (R.MEAS_STAT_CLIP c) (bnat (isClipped last))
    if s.isSense c ∨ s.flag (R.MEAS_STAT_SYSCAL c) then s
    else
      let agg := fun (combined : Bool) =>
        let vs := (xs.zip (List.range xs.length)).map fun y =>
          (if combined then s.combine c m y.2 (satCode y.1.code) else satCode y.1.code, y.1.ago * 65536)
        let v := aggregate (s.rd (R.MEAS_CFG_AGG c)) vs
        (v.1, v.2 + s.measDelay c)
      (s.measPoints p x k).foldl (fun s n => s.giveMeas c (agg false) (agg true) (xs.any fun y => isClipped y.code) n) s

/-- The cold-junction sensors at a capture instant (R271): TEMP is the reading plus CJ_OFS; pin 4 delivers it (R269). -/
def State.captureCj (s : State) (k p : Nat) (t : Int) : State :=
  let s := { s with meas := { s.meas with ball := NMap.set (fun _ => 0) s.meas.ball p t } }
  let temp := t + sext 16 (s.rd (R.MEAS_CJ_CJ_OFS p))
  let s := s.wr (R.MEAS_CJ_TEMP p) (toBits 16 temp)
  (s.measPoints p 4 k).foldl (fun s n =>
    let q := s.point n
    if q.type = tFloat32 ∨ q.type = tFloat64 then s.deliverNow n (fromF64 q.type (f64rat temp 100))
    else if q.type = tInt32 ∨ q.type = tInt64 then s.deliverNow n (toBits 64 temp)
    else s) s

/-- Step 1 of R52 for measurement: coefficients and curves in force from this instant, the cold junctions, then every channel. -/
def State.captureMeas (s : State) (k : Nat) (m : Measured) (cj : List (Fin 64 × Int)) : State :=
  let s := (s.meas.ch.keys).foldl (fun s c => match (s.measCh c).next with
    | some (g, o) => s.setMeasCh c { s.measCh c with gain := g, ofs := o, next := none }
    | none => s) s
  let s := cj.foldl (fun s (p, t) => s.captureCj k p t) s
  let badCj := (List.range 256).filter fun c =>
    s.flag (R.MEAS_CFG_CJ_EN c) ∧ s.range c = 3 ∧ s.fn (c / 4) (c % 4) = fnAi ∧ (s.curve (s.rd (R.MEAS_CFG_CJ_CURVE c))).isNone
  let s := if badCj = s.meas.badCj then s
    else ({ s with meas := { s.meas with badCj := badCj } }).refreshAll
  let m := m.map fun x => (x.1, s.sampleWindow x.1 k x.2)
  m.foldl (fun s (c, xs) => s.captureChannel m k c xs) s

/-! ### Conditions (R273, Table 09-4) -/

/-- AI_CONDITION_DETECT: an open wire or short has held (`on`), or been absent, for 10 ms. An I20 short opens the shunt. On the standby, where no
burnout current, shunt or excitation acts, none begins (R280). -/
def execAiConditionDetect (c : Fin 256) (short on : Bool) (s : State) : Host.Outcome State Fault Refusal :=
  let p := c.val / 4
  let x := c.val % 4
  let r := s.range c
  let has : Bool := s.fn p x = fnAi ∧ ¬ s.isSense c ∧ (r = 2 ∨ r = 4 ∨ (r = 3 ∧ ¬ short ∧ s.flag (R.MEAS_CFG_OW_EN c)))
  let shown := s.fn p x = fnAi ∧ ¬ on ∧ s.flag (if short then R.MEAS_STAT_SHORT c else R.MEAS_STAT_OPEN c)
  if ¬ (has ∨ shown) ∨ (on ∧ s.standby) ∨ (short ∧ ¬ on ∧ (s.measCh c).shuntOpen) then .next s
  else
    let s := if short then (s.wr (R.MEAS_STAT_SHORT c) (bnat on)).wrBit (R.PORT_DIAG_SHORT p) x on
      else (s.wr (R.MEAS_STAT_OPEN c) (bnat on)).wrBit (R.PORT_DIAG_OPEN p) x on
    let s := if short ∧ on ∧ r = 2 then s.setMeasCh c { s.measCh c with shuntOpen := true } else s
    .next (s.refreshPort p)

/-- I20_SHUNT_RECLOSE (R273): the shunt closes after 1 s, and the report, which holds while it is open, ends. -/
def execI20ShuntReclose (c : Fin 256) (s : State) : Host.Outcome State Fault Refusal :=
  if ¬ (s.measCh c).shuntOpen then .next s
  else
    let p := c.val / 4
    let s := s.setMeasCh c { s.measCh c with shuntOpen := false }
    .next (((s.wr (R.MEAS_STAT_SHORT c) 0).wrBit (R.PORT_DIAG_SHORT p) (c.val % 4) false).refreshPort p)

/-! ### Calibration (R274 to R276) -/

/-- CAL_FAULT of a channel, with a U fault on bit 41 when it sets (R274, R275). -/
def State.setCalFault (s : State) (c : Nat) (on : Bool) : State :=
  let was := s.flag (R.MEAS_STAT_CAL_FAULT c)
  let s := (s.wr (R.MEAS_STAT_CAL_FAULT c) (bnat on)).refreshPort (c / 4)
  if on ∧ ¬ was then s.raise 41 .U else s

/-- A coefficient moved toward a target by at most `lim` (binary64). -/
def moveBy (old target lim : Nat) : Nat := f64.add old (f64max' (f64.neg lim) (f64min' lim (f64.sub target old)))
where
  f64min' (x y : Nat) : Nat := if (f64.dec y).lt (f64.dec x) then y else x
  f64max' (x y : Nat) : Nat := if (f64.dec x).lt (f64.dec y) then y else x

/-- The magnitude of a difference is above a limit. -/
def f64Far (x y lim : Nat) : Bool := (f64.dec lim).lt (f64.dec (f64.sub x y % 2 ^ 63))

/-- BG_CAL_VISIT (R275): a visit finds gain `g` and offset `o` (binary64). Each coefficient moves by at most 20 ppm of the code full scale from the
next capture instant; a difference above 0.5 % sets CAL_FAULT until a later visit finds the channel within it. A sense channel is visited as its RTD
channel's BG_EN says. -/
def execBgCalVisit (c : Fin 256) (g o : BitVec 64) (s : State) : Host.Outcome State Fault Refusal :=
  let f := s.fn (c.val / 4) (c.val % 4)
  if ¬ s.flag (R.MEAS_CFG_BG_EN (s.cfgOf c)) ∨ ¬ (f = fnAi ∨ f = fnAo) then .next s
  else
    let m := s.measCh c
    let fs := s.fullScale c
    let far := f64Far g.toNat m.gain (f64rat 5 1000) || f64Far o.toNat m.ofs (f64.mul fs (f64rat 5 1000))
    let next := (moveBy m.gain g.toNat (f64rat 20 1000000), moveBy m.ofs o.toNat (f64.mul fs (f64rat 20 1000000)))
    .next ((s.setMeasCh c { m with next := some next }).setCalFault c far)

/-- Start a system calibration command on channel `c` (R276); one written while BUSY is ignored. The bound points are NOT_READY. -/
def State.scalStart (s : State) (c op : Nat) : State :=
  if s.rd R.MEAS_SCAL_STAT_STATE = 1 then s
  else
    let s := (s.wr R.MEAS_SCAL_STAT_STATE 1).wr (R.MEAS_STAT_SYSCAL c) 1
    let s := { s with meas := { s.meas with scal := some (c, op) } }
    ((s.pinPoints (c / 4) (c % 4)).filter fun n => (s.point n).bindKind = 2).foldl
      (fun s n => s.setPoint n { s.point n with notReady := true, fresh := none }) s

/-- SCAL_ZERO (R276): MEAS_SCAL_CMD with OP ZERO. -/
def execScalZero (c : Fin 256) (s : State) : Host.Outcome State Fault Refusal := .next (s.scalStart c 1)

/-- SCAL_SPAN (R276): MEAS_SCAL_CMD with OP SPAN. -/
def execScalSpan (c : Fin 256) (s : State) : Host.Outcome State Fault Refusal := .next (s.scalStart c 2)

/-- A binary32 value clamped to a range, with the value that a NaN stores. -/
def f32Clamp (lo hi nan v : Nat) : Nat :=
  if f32.isNan v then nan
  else if (f32.dec v).lt (f32.dec lo) then lo
  else if (f32.dec hi).lt (f32.dec v) then hi else v

/-- MEAS_SYS_OFS[c] as it is stored: within ±5 % of the code full scale (Table 09-8). -/
def State.ofsClamp (s : State) (c v : Nat) : Nat :=
  let lim := f64.conv f32 (f64.mul (fullScaleOf (s.rd (R.MEAS_CFG_RANGE c)) (s.rd (R.MEAS_CFG_EXC c))) (f64rat 5 100))
  f32Clamp (f32.neg lim) lim 0 v

/-- The end of a system calibration command, which has averaged 16 samples of x (R276): for each the codes of the channel and of the two after it,
which an RTD may take as its sense channels (R263). The field clamps the mean that ZERO stores (log 65). -/
def State.scalDone (s : State) (codes : List (Int × Int × Int)) : State :=
  match s.meas.scal with
  | none => s
  | some (c, op) =>
    if codes.length ≠ 16 then s else
    let s := { s with meas := { s.meas with scal := none } }
    let s := s.wr (R.MEAS_STAT_SYSCAL c) 0
    let failed := s.wr R.MEAS_SCAL_STAT_STATE 3
    let done := s.wr R.MEAS_SCAL_STAT_STATE 2
    if s.fn (c / 4) (c % 4) ≠ fnAi then failed
    else
      let mean := s.xOf c (meanOf (codes.map fun v => s.combineCodes c (satCode v.1) (satCode v.2.1) (satCode v.2.2)))
      if op = 1 then
        let v := f64.conv f32 mean
        let x := s.ofsClamp c v
        let done := done.wr (R.MEAS_SYS_OFS_OFS c) x
        if x = v then done else done.inc R.MEAS_CLAMP_CNT_COUNT
      else
        let g := f64.div (f32.conv f64 (s.rd R.MEAS_SCAL_REF_REF)) (f64.sub mean (f32.conv f64 (s.rd (R.MEAS_SYS_OFS_OFS c))))
        if (f64.dec g).lt (f64.dec (f64rat 9 10)) ∨ (f64.dec (f64rat 11 10)).lt (f64.dec g) ∨ f64.isNan g then failed
        else done.wr (R.MEAS_SYS_GAIN_GAIN c) (f64.conv f32 g)

/-- SCAL_DONE (R276). -/
def execScalDone (codes : List (Int × Int × Int)) (s : State) : Host.Outcome State Fault Refusal := .next (s.scalDone codes)

/-! ### Analog outputs (R278) -/

/-- AO_SHORT_LATCH: a voltage output has been in current limit for 1 ms; it turns off and reports SHORT. -/
def execAoShortLatch (p : Fin 64) (s : State) : Host.Outcome State Fault Refusal :=
  if s.fn p 2 ≠ fnAo ∨ s.rd (R.MEAS_AO_RANGE p) = 2 ∨ ¬ (s.pin p 2).driving then .next s
  else
    let s := s.setPin p 2 { s.pin p 2 with latched := true, driving := false }
    .next ((s.wrBit (R.PORT_DIAG_SHORT p) 2 true).refreshPort p)

/-- AO_RETRY: 1 s after the short, the output drives again what was last applied. -/
def execAoRetry (p : Fin 64) (s : State) : Host.Outcome State Fault Refusal :=
  if s.fn p 2 ≠ fnAo ∨ ¬ (s.pin p 2).latched then .next s
  else
    let s := s.unlatch p 2
    .next (s.setPin p 2 { s.pin p 2 with driving := s.mayDrive p 2 })

/-- AO_OPEN_DETECT: a current output cannot reach its set current for 10 ms (`on`), or can again; it keeps driving. -/
def execAoOpenDetect (p : Fin 64) (on : Bool) (s : State) : Host.Outcome State Fault Refusal :=
  if s.fn p 2 ≠ fnAo ∨ (on ∧ s.rd (R.MEAS_AO_RANGE p) ≠ 2) then .next s
  else .next ((s.wrBit (R.PORT_DIAG_OPEN p) 2 on).refreshPort p)

end Sys2Proof.Machine
end

