-- ==== Sys2Proof/Machine/Sweep.lean ====
section
/-!
DEFINITION. The sweep (chapter 06): building it as cycle master, taking and writing slots as it passes, forwarding and turning it, and the
sweep windows that its passage sets.
-/

namespace Sys2Proof.Machine

/-! ### Slots and due bits (R170 to R173) -/

/-- DUE of cycle `k` of ring `n` (Table 06-1). -/
def State.dueBits (s : State) (n k : Nat) : Nat :=
  let due := fun (en exp : Fld) => s.flag en ∧ k % 2 ^ s.rd exp = 0
  bnat (due (R.RING_SUBRATE_EN_0 n) (R.RING_SUBRATE_EXP_0 n)) + 2 * bnat (due (R.RING_SUBRATE_EN_1 n) (R.RING_SUBRATE_EXP_1 n))
    + 4 * bnat (due (R.RING_SUBRATE_EN_2 n) (R.RING_SUBRATE_EXP_2 n)) + 8 * bnat (due (R.RING_SUBRATE_EN_3 n) (R.RING_SUBRATE_EXP_3 n))

/-- Bytes laid over a part that starts at slice offset `base`; a field that does not lie wholly inside is skipped (R175). -/
def layField (base : Nat) (part : List Byte) (off : Nat) (bs : List Byte) : List Byte :=
  if base ≤ off ∧ off + bs.length ≤ base + part.length then overlay part (off - base) bs else part

/-- A part with the fields captured for `st` (0 the own IN part). -/
def layFields (base : Nat) (part : List Byte) (st : Nat) (fs : List (Nat × Nat × List Byte)) : List Byte :=
  (fs.filter fun x => x.1 = st).foldl (fun p x => layField base p x.2.1 x.2.2) part

/-- The capture to publish in cycle `k`, and whether it is this cycle's (R177). -/
def Cyc.capture (c : Cyc) (k : Nat) : List (Nat × Nat × List Byte) × Bool :=
  match c.caps.find? fun x => x.1 = k with
  | some x => (x.2, true)
  | none => match c.caps.find? fun x => x.1 < k with
    | some x => (x.2, false)
    | none => ([], false)

/-- The hub writes its IN part into its slot of cycle `k` (R176, R177, R190). -/
def State.writeSlot (s : State) (n k : Nat) (x : Slice) : Slice :=
  let (fs, fresh) := (s.cycOf n).capture k
  let zeros := List.replicate x.inPart.length 0
  { x with
    inPart := layFields (0x10 + x.outPart.length) zeros 0 fs, written := true, cycle := k % 2 ^ 32, fresh := fresh
    safe := s.inSafe, degraded := s.flag R.TWIN_STAT_DEGRADED }

/-- The station of slot entry `i`: none where a lower entry names it already (Table 06-12). -/
def State.slotStation (s : State) (n i : Nat) : Nat :=
  let st := s.rd (R.RING_SLOT_STATION n i)
  if (List.range i).any fun j => s.rd (R.RING_SLOT_STATION n j) = st then 0 else st

/-- The slices of a sweep, in ascending order of the slot table (R172). -/
def State.buildSlices (s : State) (n k : Nat) : List Slice :=
  let (fs, _) := (s.cycOf n).capture k
  (List.range 254).filterMap fun i =>
    let st := s.slotStation n i
    if st = 0 then none
    else
      let out := layFields 0x10 (List.replicate (s.rd (R.RING_SLOT_OUTLEN n i)) 0) st fs
      let x : Slice := { station := st, outPart := out, inPart := List.replicate (s.rd (R.RING_SLOT_INLEN n i)) 0 }
      some (if st = s.station n ∧ ¬ s.standby then s.writeSlot n k x else x)

/-! ### The sweep window (R184) -/

/-- A copy of cycle `k` passes output `o`: its first copy's head is noted, and the window closes at the first copy, or while the ring is
broken at a copy with WRAP 1. -/
def State.passWindow (s : State) (o k wrap : Nat) : State :=
  let n := o / 2
  let w := s.win o
  let w := if w.headK = some k then w
    else { w with head := s.ringNs n - k * s.baseNs n, headK := some k, cycles := min 2 (w.cycles + 1) }
  s.setWin o (if wrap = 1 ∨ ¬ s.flag (R.RING_CYC_STAT_BROKEN n) then { w with passed := some k } else w)

/-! ### Sending a copy (R180, R362) -/

/-- A copy leaves on output `o`, at once or after the frame in progress, from the sweep reserve of the output. -/
def State.sendSweep (s : State) (o : Nat) (f : Frame) : State :=
  let p := s.port o
  let s := s.passWindow o f.arg f.wrap
  if ¬ p.busy ∧ p.sweep = [] then s.transmit o f false
  else s.stepPort o fun p => { p with sweep := fitSweeps s.sweepRoom (p.sweep ++ [f]) }

/-- Forward a copy that arrived at port `i` on the onward port, or turn it there (R142, R180). -/
def State.forwardSweep (s : State) (i : Nat) (f : Frame) : State :=
  if f.hops = 1023 then s.countDiscard i
  else
    let f := { f with hops := f.hops + 1 }
    if s.isUp (mate i) then s.sendSweep (mate i) f
    else if f.wrap = 0 then s.sendSweep i { f with wrap := 1 }
    else s

/-! ### The master (R172, R185, R186) -/

/-- A cycle without a sweep, or a late return: a C fault on bit 8 or 10. -/
def State.cycleFault (s : State) (n : Nat) : State := s.raise (8 + 2 * n) .C

/-- The tail of the hub's last sweep has not left both ports 400 ns ago: a copy still waits, or left too late (R185). -/
def State.tailNear (s : State) (n : Nat) : Bool :=
  let c := s.cycOf n
  [0, 1].any (fun d => s.isUp (lane n d) ∧ (s.port (lane n d)).sweep.any fun f => f.hops = 0) ∨ s.ns < max c.leftE c.leftW + c.sentNs + 400

/-- CYCLE_START (R172): S_k of ring `n`, the cycle that ring time has come to (R169). No cycle number is used twice (R201), and a sweep follows
the previous one's tail by 400 ns. -/
def State.cycleStart (s : State) (n k : Nat) : State :=
  let c := s.cycOf n
  if ¬ (s.isMaster n ∧ s.hasRing n) ∨ k ≠ s.cycleNow n ∨ c.sentK.any (fun j => k ≤ j) ∨ c.passed k then s
  else if c.sentK.isSome ∧ s.tailNear n then
    ((s.setCyc n { c with sentK := some k, prevK := c.sentK }).inc (R.RING_CYC_STAT_SKIPPED n)).cycleFault n
  else
    let f : Frame :=
      { typ := fSweep, tc := 7, dst := nodeId (s.ringId n) 255, src := s.node0, op := s.dueBits n k, arg := k, slices := s.buildSlices n k }
    if f.slices = [] then s.setCyc n { c with sentK := some k, prevK := c.sentK }
    else
      let s := (s.setCyc n { c with sentK := some k, prevK := c.sentK, sentNs := laneNs f }).wr (R.RING_CYC_STAT_SYNC n) 1
      [0, 1].foldl (fun s d => if s.isUp (lane n d) then s.sendSweep (lane n d) { f with sub := d } else s) s

def execCycleStart (n : Fin 2) (k : Nat) (s : State) : Host.Outcome State Fault Refusal := .next (s.cycleStart n k).settle

/-- A copy of its own returns with WRAP 0 and is removed: the master measures TCIRC and TSWEEP (R186), and a late return is counted. A hub that is no
longer master measures nothing (Table 06-11). DESIGN CHOICE (log 77): the registers show the copy that returned last, in whole units of 8 ns, rounded
down. -/
def State.sweepBack (s : State) (n : Nat) (f : Frame) : State :=
  let c := s.cycOf n
  let s := match c.copies.find? fun x => x.1 = f.arg ∧ x.2.1 = f.sub % 2 with
    | some x =>
      let s := s.setCyc n { c with copies := c.copies.filter fun y => ¬ (y.1 = f.arg ∧ y.2.1 = f.sub % 2) }
      if s.isMaster n then (s.wr (R.RING_CYC_TCIRC_TIME n) ((s.ns - x.2.2.1) / 8)).wr (R.RING_CYC_TSWEEP_TIME n) (x.2.2.2 / 8) else s
    | none => s
  if (f.arg + 1) * s.baseNs n < s.ringNs n + 400 then (s.inc (R.RING_CYC_STAT_OVERRUN n)).cycleFault n else s

/-! ### A copy arrives (R176 to R179) -/

/-- The OUT and IN parts of a slot as bytes from offset 0x10. -/
def Slice.parts (x : Slice) : List Byte := x.outPart ++ x.inPart

/-- A field of cycle `k` that reaches the hub now comes after the exchange close: E_k has been, or is now (R178, R555). -/
def State.isLate (s : State) (n k : Nat) : Bool :=
  k < (s.cycOf n).closed ∨ k * s.baseNs n + 8 * s.rd (R.RING_CYC_EXCL_EXCL n) ≤ s.ringNs n

/-- The newest bytes taken from a station (R187). -/
def Cyc.note (c : Cyc) (st : Nat) (b : List Byte) : Cyc := { c with newest := NMap.set (fun _ => []) c.newest st b }

/-- Take a valid slot, once per cycle: one that comes after the exchange close counts in LATE, once, and is not held (R176, R178). -/
def State.takeSlot (s : State) (n k : Nat) (x : Slice) : State :=
  let c := s.cycOf n
  if c.taken.any fun y => y.1 = k ∧ y.2.station = x.station then s
  else
    let late := s.isLate n k
    let c := { c with taken := c.taken ++ [(k, if late then { x with fresh := false } else x)] }
    if late then (s.setCyc n c).inc (R.RING_CYC_STAT_LATE n)
    else s.setCyc n (if x.fresh then c.note x.station (Slice.parts x) else c)

/-- Take the own OUT part, once per cycle; a late one is not held. -/
def State.takeOut (s : State) (n k : Nat) (x : Slice) : State :=
  let c := s.cycOf n
  if c.outs.any fun y => y.1 = k then s
  else
    let late := s.isLate n k
    let c := { c with outs := c.outs ++ [(k, if late then { x with outPart := [] } else x)] }
    if late then (s.setCyc n c).inc (R.RING_CYC_STAT_LATE n) else s.setCyc n (c.note x.station x.outPart)

/-- One slot of a copy of cycle `k` at a hub that acts on it (R176): the slot as it goes on, and the state. -/
def State.slotIn (s : State) (n k : Nat) (x : Slice) : Slice × State :=
  let valid := x.mark = .valid
  let there := x.written ∧ x.cycle = k % 2 ^ 32
  if x.station = s.station n then
    let s := if valid then s.takeOut n k x else s
    let s := if valid ∧ there ∧ s.standby then s.takeSlot n k x else s
    (if s.standby ∨ there then x else s.writeSlot n k x, s)
  else (x, if valid ∧ there then s.takeSlot n k x else s)

/-- Every slot of a copy, in order. -/
def State.slotsIn (s : State) (n k : Nat) : List Slice → List Slice × State
  | [] => ([], s)
  | x :: r =>
    let (y, s) := s.slotIn n k x
    let (ys, s) := s.slotsIn n k r
    (y :: ys, s)

/-- The hub acts on the ring's sweeps from a master: it has joined, and the master is itself or the one it accepts, which for a standby may be
its twin (R168, R176). -/
def State.heeds (s : State) (n : Nat) (f : Frame) : Bool :=
  s.joined n ∧ ¬ s.pwr.asleep ∧ (if s.isMaster n then s.isMine f.src else (s.accepted n).any fun m => m.node = f.src)

/-- The slots of a copy as they go on: one that is not valid leaves with the poison marker, and one cut short with zeros (R148). -/
def Slice.leaves (x : Slice) : Slice := { x.pad with mark := if x.mark = .valid then .valid else .poisoned }

/-- SWEEP_SLICE_RECEIVE (R176): a copy arrives at port `i`. DESIGN CHOICE (log 77): a hub compares ARG and DUE, and reports a mismatch, while its TD0
is not synchronised as well (R179). -/
def State.sweepIn (s : State) (i : Nat) (f : Frame) : State :=
  let n := i / 2
  let f : Frame := { f with slices := f.slices.map Slice.pad }
  let s := f.slices.foldl (fun s x => s.countMark i x.mark) s
  let s := if f.slices.any fun x => x.mark = .valid then s.noteEpoch i { f with mark := .valid } else s
  let k := s.cycleNow n
  let heed := f.ver = 1 ∧ s.heeds n f
  let mismatch := heed ∧ (f.arg ≠ k ∨ f.op % 16 ≠ s.dueBits n k)
  let s := if mismatch then (s.wr (R.RING_CYC_STAT_SYNC n) 0).raise (portBit i) .U else s
  let acts := heed ∧ ¬ mismatch ∧ s.ringSynced n
  let s := if acts then s.wr (R.RING_CYC_STAT_SYNC n) 1 else s
  let (slices, s) := if acts then s.slotsIn n k f.slices else (f.slices, s)
  let s := if f.ver = 1 then s else s.countDiscard i
  if s.isMine f.src ∧ ¬ s.standby ∧ f.wrap = 0 then s.sweepBack n f
  else s.forwardSweep i { f with slices := slices.map Slice.leaves }

def execSweepSliceReceive (i : Fin 4) (f : Frame) (s : State) : Host.Outcome State Fault Refusal :=
  let f := s.readTag i f
  if s.isUp i ∧ f.typ = fSweep then .next (s.sweepIn i f).settle else .next s

end Sys2Proof.Machine
end

