-- ==== Sys2Proof/Machine/Cycle.lean ====
section
/-!
DEFINITION. The phases of a cycle (chapters 02 and 06): the capture instant, the exchange close, the output freeze and the output
deadline.
-/

namespace Sys2Proof.Machine

/-! ### Capture (R52 steps 1 to 3, R183) -/

/-- A digital pin, an edge capture or the FP switch as a source at the capture instant (R52, R238, R243). A chattering
pin delivers nothing new (R54). -/
def State.capturePin (s : State) (n : Nat) : State :=
  let q := s.point n
  let p := q.bindByte 1
  let x := q.bindByte 2
  if q.bindKind = 1 ∧ x = 4 then s.deliverNow n (s.rd (R.PORT_STAT_FP_ON p))
  else if ¬ s.digital p x ∨ x = 4 then s
  else if q.bindKind = 1 then
    if bit (s.rd (R.PORT_DIAG_CHAT p)) x then s else s.deliverNow n (bnat (bit (s.rd (R.PORT_STAT_LEVEL p)) x))
  else if q.bindKind = 9 then
    let stamp := fun (t : Option (List Nat)) => match t with
      | some u => s.deliverNow n (u.getD q.dom 0)
      | none => s
    match q.bindByte 3 with
    | 0 => s.deliverNow n (s.pin p x).edges
    | 1 => stamp (s.pin p x).rise
    | _ => stamp (s.pin p x).fall
  else s

/-- The destination points of the rows that are loaded with EN 1. -/
def State.rowDests (s : State) : List Nat := s.loaded.flatMap fun r => s.rowPoints r (rowOf s.rfx.act r)

/-- The points that a capture instant of cycle `k` updates: inputs and variables of a rate group that is due, but those that take a slice field
at the exchange close or a row's result. -/
def State.capturePoints (s : State) (k : Nat) : List Nat :=
  let dst := s.rowDests
  s.pts.recs.keys.filter fun n =>
    let q := s.point n
    q.configured ∧ ¬ q.isOutput ∧ q.bindKind ≠ 7 ∧ q.bindKind ≠ 8 ∧ n ∉ dst ∧ s.groupDue 0 q.rateGroup k

/-- The bytes that a slice map entry publishes (R175). -/
def State.smapBytes (s : State) (e : Nat) : List Byte :=
  let q := s.point (s.rd (R.RING_SMAP_POINT e))
  if s.flag (R.RING_SMAP_FIELD e) then leBytes 1 q.quality else leBytes (2 ^ s.rd (R.RING_SMAP_WIDTH e)) q.value

/-- Entries of the slice map, the relay map and the relay inputs in use (Tables 06-13 to 06-15). -/
def stationOk (st : Nat) : Bool := st ≠ 0 ∧ st ≠ 255
def State.smapOk (s : State) (e : Nat) : Bool :=
  s.flag (R.RING_SMAP_VALID e) ∧ (s.flag (R.RING_SMAP_KIND e) → stationOk (s.rd (R.RING_SMAP_STATION e)))
def State.xmapOk (s : State) (x : Nat) : Bool := s.flag (R.RING_XMAP_VALID x) ∧ s.junction ∧ stationOk (s.rd (R.RING_XMAP_SRC_STATION x))
def State.xinOk (s : State) (x : Nat) : Bool :=
  s.flag (R.RING_XIN_VALID x) ∧ s.rd (R.RING_XIN_SRC_RING x) ≠ 0 ∧ stationOk (s.rd (R.RING_XIN_JSTATION x))

/-- The slice map fields of ring `n` (R175): the target station (0 the own IN part), the offset and the bytes, in ascending order of entry. DESIGN
CHOICE (log 77): an entry that names a point that is not configured places nothing. -/
def State.smapFields (s : State) (n : Nat) : List (Nat × Nat × List Byte) :=
  ((List.range 2048).filter fun e =>
      s.smapOk e ∧ s.rd (R.RING_SMAP_RING e) = n ∧ (s.point (s.rd (R.RING_SMAP_POINT e))).configured).map fun e =>
    (if s.flag (R.RING_SMAP_KIND e) then s.rd (R.RING_SMAP_STATION e) else 0, s.rd (R.RING_SMAP_OFFSET e), s.smapBytes e)

/-- The bytes that relay entry `x` takes for receiving ring `n`: the newest ones taken at its source; none where nothing has been taken there. -/
def State.relayBytes (s : State) (n x : Nat) : List Byte :=
  let part := NMap.get (fun _ => []) (s.cycOf (1 - n)).newest (s.rd (R.RING_XMAP_SRC_STATION x))
  let off := s.rd (R.RING_XMAP_SRC_OFFSET x)
  let w := 2 ^ s.rd (R.RING_XMAP_WIDTH x)
  if 0x10 ≤ off ∧ off + w ≤ 0x10 + part.length then slice part (off - 0x10) w else []

/-- The relayed fields whose receiving ring is `n` (R187). -/
def State.relayFields (s : State) (n : Nat) : List (Nat × Nat × List Byte) :=
  if ¬ s.junction then []
  else
    ((List.range 512).filter fun x => s.xmapOk x ∧ s.rd (R.RING_XMAP_DIR x) = 1 - n ∧ s.relayBytes n x ≠ []).map fun x =>
      (0, s.rd (R.RING_XMAP_DST_OFFSET x), s.relayBytes n x)

/-- The capture of cycle `k` of ring `n` is ready for its slot (R177, R183). DESIGN CHOICE (log 77): where a field of the slice map and a relayed one
overlap, the relayed bytes stand. -/
def State.publish (s : State) (n k : Nat) : State :=
  let c := s.cycOf n
  s.setCyc n { c with captured := k + 1, caps := (k, s.smapFields n ++ s.relayFields n) :: c.caps.filter fun x => x.1 < k ∧ s.cycleNow n ≤ x.1 + 1 }

/-- Ring time has come to C_k and not yet to C_(k+1), or to E_k and not yet to E_(k+1) (R169, Table 06-3). -/
def State.captureIs (s : State) (n k : Nat) : Bool := (s.ringNs n + 8 * s.rd (R.RING_CYC_CAP_CAPLEAD n)) / s.baseNs n = k
def State.closeIs (s : State) (n k : Nat) : Bool :=
  8 * s.rd (R.RING_CYC_EXCL_EXCL n) ≤ s.ringNs n ∧ (s.ringNs n - 8 * s.rd (R.RING_CYC_EXCL_EXCL n)) / s.baseNs n = k

/-- Cycle `k` of ring `n` may run: no cycle is captured or closed twice, nor one that a step passed over (R201). -/
def Cyc.mayRun (c : Cyc) (next k : Nat) : Bool := next ≤ k ∧ ¬ c.passed k

/-- CAPTURE_INSTANT (R183): C_k of ring `n`. At ring 0's the armed tables switch, the inputs latch and the points update. -/
def State.captureInstant (s : State) (n k : Nat) (m : Measured) (cj : List (Fin 64 × Int)) : State :=
  if ¬ s.ready ∨ ¬ s.hasRing n ∨ ¬ s.captureIs n k ∨ ¬ (s.cycOf n).mayRun (s.cycOf n).captured k then s
  else if n ≠ 0 then s.publish n k
  else
    let s := (s.switchTables.autoStart).captureMeas k m cj
    let ps := s.capturePoints k
    let s := ps.foldl State.capturePin s
    let s := (s.briarChans false).foldl (fun s c =>
      if (s.briarPoints (c / 16) (c % 16) false).any fun n => n ∈ ps then s.rxFrame (c / 16) (c % 16) else s) s
    (((s.updatePoints ps).markMissed ps false).cycleIrq 0).publish 0 k

def execCaptureInstant (n : Fin 2) (k : Nat) (m : Measured) (cj : List (Fin 64 × Int)) (s : State) : Host.Outcome State Fault Refusal :=
  .next (s.captureInstant n k m cj).settle

/-! ### Exchange close (R178, R188) -/

/-- Where a kind 0x07 binding reads: the ring of the hub, the station and the offset (R188). -/
def State.sliceSource (s : State) (q : Point) : Option (Nat × Nat × Nat) :=
  let r := q.bind16 1
  let st := q.bindByte 3
  let off := q.bind16 4
  if r = 0 ∨ r = s.ringId 0 then some (0, st, off)
  else if s.junction ∧ r = s.ringId 1 then some (1, st, off)
  else
    ((List.range 256).find? fun x => s.xinOk x ∧ s.rd (R.RING_XIN_SRC_RING x) = r
      ∧ s.rd (R.RING_XIN_SRC_STATION x) = st ∧ s.rd (R.RING_XIN_SRC_OFFSET x) = off).map fun x =>
        (0, s.rd (R.RING_XIN_JSTATION x), s.rd (R.RING_XIN_JOFFSET x))

/-- `w` bytes at a slice offset, if they lie wholly in the OUT part, or unless the slot is the hub's own in the IN part. -/
def Slice.field (x : Slice) (own : Bool) (off w : Nat) : Option (List Byte) :=
  let i := 0x10 + x.outPart.length
  if 0x10 ≤ off ∧ off + w ≤ i then some (slice x.outPart (off - 0x10) w)
  else if ¬ own ∧ i ≤ off ∧ off + w ≤ i + x.inPart.length then some (slice x.inPart (off - i) w)
  else none

/-- The slot of a station held for cycle `k`: of the own station the OUT part, of another one with FRESH 1 (R177). -/
def State.slotOfCycle (s : State) (n k st : Nat) : Option Slice :=
  let c := s.cycOf n
  if st = s.station n then (c.outs.find? fun x => x.1 = k).map (·.2)
  else ((c.taken.find? fun x => x.1 = k ∧ x.2.station = st).map (·.2)).filter fun x => x.fresh

/-- A slice-bound point takes its field of cycle `k`: its bytes are the low ones of VALUE, and the rest of VALUE is zero, whatever TYPE (R178; R37
differs for an INT32 and a BOOL, log 49). -/
def State.takeField (s : State) (n k p : Nat) : State :=
  let q := s.point p
  match s.sliceSource q with
  | some (r, st, off) =>
    if r ≠ n then s
    else match (s.slotOfCycle n k st).bind fun x => Slice.field x (st = s.station n) off (q.bindByte 6) with
      | some b => s.deliver p ⟨leNat b, s.tdEnc q.dom, none⟩
      | none => s
  | none => s

/-- A valid copy of the pair's own slot of cycle `k` is held (R406). -/
def State.holdsOwn (s : State) (k : Nat) : Bool := (s.cycOf 0).taken.any fun x => x.1 = k ∧ x.2.station = s.station 0

/-- At E_k a standby whose twin lane is DOWN and that holds the pair's slot does not take over: PAIR is DETACHED (R406). -/
def State.detachCheck (s : State) (k : Nat) : State :=
  let held := s.holdsOwn k
  if s.isStandby ∧ ¬ s.isUp 4 ∧ held ∧ (s.pairIs pSyncing ∨ s.pairIs pReady) then (s.wr R.TWIN_STAT_PAIR pDetached).raise 12 .U else s

/-- EXCHANGE_CLOSE (R178): E_k of ring `n`. At ring 0's the slice-bound points update and the rows start. -/
def State.exchangeClose (s : State) (n k : Nat) : State :=
  if ¬ s.ready ∨ ¬ s.hasRing n ∨ ¬ s.closeIs n k ∨ ¬ (s.cycOf n).mayRun (s.cycOf n).closed k then s
  else
    let ps := s.pts.recs.keys.filter fun p => (s.point p).bindKind = 7 ∧ (s.point p).configured ∧ ¬ (s.point p).isOutput
    let s := ps.foldl (fun s p => s.takeField n k p) s
    let s := if n = 0 then s.detachCheck k else s
    let c := s.cycOf n
    let s := s.setCyc n { c with
      closed := k + 1, taken := c.taken.filter fun x => k ≤ x.1
      outs := c.outs.filter fun x => k ≤ x.1 }
    if n ≠ 0 then s
    else
      let dst := s.rowDests
      let s := s.updatePoints (ps.filter fun p => s.groupDue 0 (s.point p).rateGroup k ∧ p ∉ dst)
      (s.cycleIrq 1).startRows k

def execExchangeClose (n : Fin 2) (k : Nat) (s : State) : Host.Outcome State Fault Refusal := .next (s.exchangeClose n k).settle

/-! ### Output freeze (R52 step 5, R216 to R218) -/

/-- The sink of an output point takes its values: for kind 0x03 a pin in a digital-output function under points, or FP in POINT mode; for kind 0x04 an
AO pin; for kind 0x05 a valid signal (R386). -/
def State.takesPoint (s : State) (q : Point) : Bool :=
  let p := q.bindByte 1
  let x := q.bindByte 2
  if q.bindKind = 3 then
    if x = 4 then s.fpMode p = 1 ∧ ¬ q.isEdge else s.takesLevel p x ∧ ¬ s.byChannel p x
  else if q.bindKind = 4 then s.fn p 2 = fnAo
  else if q.bindKind = 5 then (s.signal? (q.bind16 1) (q.bind16 3)).isSome
  else true

/-- One output point at the freeze: a point whose sink does not take values takes no write and stays NOT_READY. -/
def State.freezePoint (s : State) (n : Nat) : State :=
  let q := s.point n
  if s.takesPoint q then s.updatePoint n
  else (s.setPoint n { q with fresh := none, notReady := true }).updatePoint n

/-- VALUE is SAFE by R54 or R57: the class is substituted, and not by a force. -/
def Point.isSubst (q : Point) : Bool := q.quality / 64 = 3 ∧ q.quality % 64 ≠ qForced

/-- The nanosecond count of a domain, and how far ahead of it an edge is due. -/
def State.ahead (s : State) (e : Edge) : Int := (e.due : Int) - nsCount (s.tdNow e.td)

def State.pinEdges (s : State) (c : Nat) : List Edge := NMap.get (fun _ => []) s.td.edges c
def State.setPinEdges (s : State) (c : Nat) (es : List Edge) : State :=
  { s with td := { s.td with edges := NMap.set (fun _ => []) s.td.edges c es } }

/-- The edge that a point's VALUE names (R217): T is taken modulo 2^63 against the domain's count; a T behind it is due at once. -/
def State.edgeOf (s : State) (n : Nat) : Edge × Bool :=
  let q := s.point n
  let now := nsCount (s.tdNow q.dom)
  let d := (q.value % 2 ^ 63 + 2 ^ 63 - now % 2 ^ 63) % 2 ^ 63
  let late := decide (2 ^ 62 ≤ d)
  (⟨if late then now + d - 2 ^ 63 else now + d, bit q.value 63, n, q.dom⟩, late || decide (d < 500))

/-- One edge reaches its pin: it removes the queued edges at or after its time; a late or near one acts now; a fifth one is discarded. -/
def State.handEdge (s : State) (c : Nat) (e : Edge) (now : Bool) : State :=
  let keep := (s.pinEdges c).filter fun x => s.ahead x < s.ahead e
  if now then ((s.setPinEdges c keep).fireEdge c e).inc R.TD_EDGE_CNT_LATE
  else if 4 ≤ keep.length then (s.setPinEdges c keep).inc R.TD_EDGE_CNT_FULL
  else s.setPinEdges c (keep ++ [e])

/-- Insert an edge and its pin in the order of R217. -/
def State.insertEdge (s : State) (x : (Edge × Bool) × Nat) : List ((Edge × Bool) × Nat) → List ((Edge × Bool) × Nat)
  | [] => [x]
  | y :: r =>
    if s.ahead x.1.1 < s.ahead y.1.1 ∨ (s.ahead x.1.1 = s.ahead y.1.1 ∧ x.1.1.point ≤ y.1.1.point) then x :: y :: r
    else y :: s.insertEdge x r

/-- The edges of one freeze, in ascending order of due time, and of equal times in ascending order of point. -/
def State.handEdges (s : State) (ns : List Nat) : State :=
  let es := ns.map fun n => (s.edgeOf n, 4 * (s.point n).bindByte 1 + (s.point n).bindByte 2)
  (es.foldr s.insertEdge []).foldl (fun s (e, c) => s.handEdge c e.1 e.2) s

/-- The output freeze of the cycle whose rows have ended. -/
def State.freeze (s : State) : State :=
  let k := s.rfx.cycK
  let outs := s.pts.recs.keys.filter fun n => (s.point n).configured ∧ (s.point n).isOutput
  let due := outs.filter fun n => s.groupDue 0 (s.point n).rateGroup k
  let took := due.filter fun n => (s.point n).fresh.isSome ∧ s.takesPoint (s.point n)
  let old := s
  let s := (due.foldl State.freezePoint s).markMissed due false
  let changed := due.filter fun n => (old.point n).value ≠ (s.point n).value
  let edges := due.filter fun n => (s.point n).isEdge
  let s := (edges.filter fun n => (s.point n).isSubst).foldl (fun s n =>
    if (s.point n).bindByte 2 < 4 then s.setPinEdges (4 * (s.point n).bindByte 1 + (s.point n).bindByte 2) [] else s) s
  let s := if s.standby then s
    else s.handEdges (edges.filter fun n => n ∈ took ∧ ¬ (s.point n).isSubst ∧ ¬ (s.point n).isForced)
  let s := s.freezeObjects k changed
  let vals := (outs.filter fun n => ¬ (s.point n).isEdge ∨ (s.point n).isSubst).map fun n => (n, (s.point n).value)
  let f : Freeze := { k := k, vals := vals, took := took, objs := s.pctl.due }
  let s := { s with cyc := { s.cyc with freezes := s.cyc.freezes ++ [f], last := vals } }
  let s := { s with pctl := { s.pctl with due := [] } }
  ((s.noteShadow k).sendDelta k).cycleIrq 2

/-- OUTPUT_FREEZE (R52): once no row of the cycle waits. -/
def execOutputFreeze (s : State) : Host.Outcome State Fault Refusal :=
  if s.ready ∧ s.rfx.todo = [] then .next s.freeze.settle else .next s

/-- REFLEX_OVERRUN (R376): rows still wait 500 ns before D_k. They are skipped, and the freeze takes place at once. -/
def execReflexOverrun (s : State) : Host.Outcome State Fault Refusal :=
  if s.ready ∧ s.rfx.todo ≠ [] then .next s.overrunRows.freeze.settle else .next s

/-! ### Output deadline (R52, R239, R243, R291, R292, R324, R405) -/

/-- The values of a freeze reach their pins; in the safe state every output applies SAFE (R57). -/
def State.applyVals (s : State) (vals : List (Nat × Nat)) : State :=
  vals.foldl (fun s (n, v) => s.applyValue (s.point n) (if s.inSafe then (s.point n).safe else v)) s

/-- FP switches in mode ALWAYS, and L+ of IO-Link ports. -/
def State.applySupplies (s : State) : State :=
  (List.range 64).foldl (fun s p => if s.fpMode p = 2 then s.applyFp p true else s.iolPower p) s

/-- The output deadline for which outputs wait after a loss of field power or a derating has come (R224, R253). -/
def State.deadlineCome (s : State) : State := { s with fld := { s.fld with powerBack := false, restored := [] } }

/-- Stages that were held off and may drive again do so (R224, R253). -/
def State.resumePins (s : State) : State := (List.range 256).foldl (fun s c => s.resumePin (c / 4) (c % 4)) s

/-- The point of a test pulse may be pulsed at this deadline (R405). -/
def State.pulseOk (s : State) (n : Nat) : Bool :=
  let q := s.point n
  let p := q.bindByte 1
  let x := q.bindByte 2
  q.configured ∧ q.pulseTol ∧ q.bindKind = 3 ∧ x < 4 ∧ s.fn p x ∈ [fnDoHs, fnDoPp, fnLogicOut] ∧ s.pairIs pReady
    ∧ ¬ s.flag R.TWIN_STAT_LAGGING ∧ (s.pin p x).driving ∧ (s.pin p x).applied = 1

/-- A test pulse that was asked for starts: the active releases its driver, and the standby drives (R405). -/
def State.startPulse (s : State) : State :=
  match s.twin.pulseAsked with
  | none => s
  | some n =>
    let s := { s with twin := { s.twin with pulseAsked := none } }
    if ¬ s.pulseOk n then ((s.wr R.TWIN_PULSE_STAT_RESULT 3).wr R.TWIN_PULSE_STAT_POINT n).wr R.TWIN_PULSE_STAT_BUSY 0
    else
      let q := s.point n
      (({ s with twin := { s.twin with pulse := some n } }).pinOff (q.bindByte 1) (q.bindByte 2)).emit
        (.twin "test pulse" (leBytes 2 n ++ leBytes 1 (s.rd R.TWIN_PULSE_DUR)))

/-- OUTPUT_DEADLINE (R52): D_k of the oldest freeze. Pins that hold their levels for a relinquish are left alone (R409). -/
def State.outputDeadline (s : State) : State :=
  match s.cyc.freezes with
  | [] => s
  | f :: rest =>
    let s := { s with cyc := { s.cyc with freezes := rest } }
    let s := if s.twin.relinquish then s else (s.deadlineCome.applyVals f.vals).applySupplies.resumePins
    let s := (s.briarChans true).foldl (fun s c => s.txFrame (c / 16) (c % 16) f.took f.vals) s
    let s := ({ s with pctl := { s.pctl with due := f.objs } }).sendObjects
    ((s.pollsDue f.k).startPulse).cycleIrq 3

def execOutputDeadline (s : State) : Host.Outcome State Fault Refusal := .next s.twinTurn.outputDeadline.settle

end Sys2Proof.Machine
end

