-- ==== Sys2Proof/Machine/Twin.lean ====
section
/-!
DEFINITION. Forming a twin pair, taking over and handing over, and test pulses (chapter 15).
-/

namespace Sys2Proof.Machine

/-- This hub is the first hub of its pair (R396). -/
def State.firstHub (s : State) : Bool := s.serial < s.peerSerial

def State.setRole (s : State) (role pair : Nat) : State := (s.wr R.TWIN_STAT_ROLE role).wr R.TWIN_STAT_PAIR pair

/-- Each ring with a port UP is joined once the role is known (R397 step 4, R398). -/
def State.joinRings (s : State) : State :=
  [0, 1].foldl (fun s n => if s.hasRing n ∧ (s.isUp (2 * n) ∨ s.isUp (2 * n + 1)) ∧ (s.joinOf n).step = 1 then s.joinLink n else s) s

/-- Every field pin, pair driver and FP switch takes its standby state (Table 08-6). -/
def State.releasePins (s : State) : State :=
  let s := (List.range 256).foldl (fun s c => if (s.pin (c / 4) (c % 4)).driving then s.pinOff (c / 4) (c % 4) else s) s
  (List.range 64).foldl (fun s p => if s.flag (R.PORT_STAT_FP_ON p) then s.setFp p false else s) s

/-- What only the active holds is gone once it is not the active (R399, R412): subscriptions, bus locks, the requests of
its bridge (R412), raw items, the polls and frames of its controllers (R303), and scheduled edges. Tunnel entries that name a field port discard their
frames (R354). -/
def State.dropActive (s : State) : State :=
  let s := (({ s with pts := { s.pts with subs := [] } }).wr R.RFX_SUB_USED_COUNT 0).dropTunnelled
  let s := { s with brg := { s.brg with locks := [], queue := [], lockedOps := [], active := [] } }
  let s := { s with pctl := { s.pctl with rx := [], tx := [], due := [], polls := [], poll := [] } }
  { s with td := { s.td with edges := [] } }

/-- The hub becomes the standby of its pair: it releases its pins, a test pulse of its own ends without a result, and its master role passes to the
active (R397, R409, R410). -/
def State.becomeStandby (s : State) (pair : Nat) : State :=
  let s := { s.wr R.TWIN_PULSE_STAT_BUSY 0 with twin := { s.twin with pulse := none, pulseAsked := none } }
  let s := (s.setRole 2 pair).releasePins.dropActive
  [0, 1].foldl (fun s n => if s.isMaster n then s.setMaster n false else s) s

/-! ### Forming (R397, R398) -/

/-- The digest of the hub's active owner bundle, as ID_BND_DIGEST shows it. -/
def State.ownDigest (s : State) : Nat := s.words 0x50 12

/-- The pair forms (R397), with the bundles `equal` or not. `peerActive` says that the peer already holds the active role. -/
def State.twinForm (s : State) (equal peerActive : Bool) : State :=
  let act := s.active || (!peerActive && s.firstHub)
  let s := { s with twin := { s.twin with waitPeer := false } }
  if ¬ equal then
    let s := if act then s.setRole 0 pMismatch else s.becomeStandby pMismatch
    (s.raise 12 .U).joinRings
  else if act then
    let s := s.setRole 1 pSyncing
    ({ s with twin := { s.twin with resync := true, out := 0, lateNow := false, due := none } }).joinRings
  else (s.becomeStandby pSyncing).joinRings

/-- TWIN_FORM (R397): the twin lane is UP, and the digests of the active owner bundles are exchanged: the peer's is `digest`. -/
def execTwinForm (digest : BitVec 384) (peerActive : Bool) (s : State) : Host.Outcome State Fault Refusal :=
  if s.flag R.TWIN_CFG_EN ∧ s.ready ∧ s.isUp 4 then
    .next ((s.emit (.twin "digest" (leBytes 48 s.ownDigest))).twinForm (decide (digest.toNat = s.ownDigest)) peerActive)
  else .next s

/-- FORM_TIMEOUT (R398): the lane has not reached UP within FORM_TMO of READY. The first hub becomes active alone; the second waits for announces
of its peer. -/
def execFormTimeout (s : State) : Host.Outcome State Fault Refusal :=
  if s.flag R.TWIN_CFG_EN ∧ s.ready ∧ ¬ s.isUp 4 ∧ s.rd R.TWIN_STAT_ROLE = 0 ∧ s.pairIs pForming then
    if s.firstHub then .next (s.setRole 1 pForming).joinRings
    else
      let s := s.becomeStandby pDetached
      .next ({ s with twin := { s.twin with waitPeer := true } }).joinRings
  else .next s

/-- PEER_ANNOUNCE_ABSENCE (R398): the second hub has heard no announce of its peer for 3,000 ms, and becomes active alone. -/
def execPeerAnnounceAbsence (s : State) : Host.Outcome State Fault Refusal :=
  if s.twin.waitPeer ∧ s.isStandby ∧ ¬ s.isUp 4 ∧ ¬ s.inSafe then
    .next (({ s with twin := { s.twin with waitPeer := false } }).setRole 1 pForming)
  else .next s

/-! ### Takeover (R406 to R408, R412) -/

/-- A trigger of Table 15-1 finds the standby able to take over; in the safe state it never does. A slot is missing at the last E_j that ring
time has reached. The port toward the twin is one at which an announce of the twin came with HOPS 0, or either port of ring 0 where none has (DEDUCED,
log 35). -/
def State.mayTake (s : State) (c : TakeCause) : Bool :=
  s.isStandby && !s.inSafe && !s.pairIs pMismatch && match c with
    | .switchover => s.pairIs pReady && !s.flag R.TWIN_STAT_LAGGING
    | .relinquish => s.pairIs pReady
    | .lanesDown => !s.isUp 4 && (if s.twin.near = [] then [0, 1] else s.twin.near).any fun i => !s.isUp i
    | .slotMissing => !s.isUp 4 && !s.holdsOwn ((s.ringNs 0 - 8 * s.rd (R.RING_CYC_EXCL_EXCL 0)) / s.baseNs 0)

/-- Points, rows, machines and channels start afresh (Table 15-2, R56, R308, R390). -/
def State.restartAll (s : State) : State :=
  let s := s.pts.recs.keys.foldl (fun s n => if (s.point n).configured then s.setPoint n (s.point n).restart else s) s
  let s := s.loaded.foldl (fun s r => s.restartRow r) s
  let s := (List.range 256).foldl (fun s m => s.wr (R.RFX_SM_STATE_STATE m) 0) { s with rfx := { s.rfx with smSince := [] } }
  let s := { s with eng := { s.eng with chans := [], started := false } }
  ((List.range 64).foldl (fun s p => s.applyChan p) s).refreshAll

/-- The functions of Table 08-6 come back (R258): channels drive their pins, IO-Link devices are woken again, T1L links retrain, and the samples of
current and RTD inputs are settled 9 output periods later (R280). -/
def State.enablePins (s : State) : State :=
  let s := (List.range 64).foldl (fun s p => (s.applyChan p).iolRestart p) s
  let s := ((List.range 256).filter fun c => s.fn (c / 4) (c % 4) = fnAi ∧ (s.range c = 2 ∨ s.range c = 4)).foldl (fun s c =>
    s.setMeasCh c { s.measCh c with settleAt := s.ns + 9 * s.measPeriod c }) s
  (List.range 16).foldl (fun s i => if s.speT1L i then s.wr (R.PCTL_SPE_STAT_LINK i) 0 else s) s

/-- The state that a takeover continues from (Table 15-2). -/
def State.takeState (s : State) : State :=
  let ready := s.pairIs pReady
  let s := if ready then s else s.restartAll
  let s := (s.wr R.TWIN_STAT_DEGRADED (bnat (!ready || s.flag R.TWIN_STAT_LAGGING))).wr R.TWIN_STAT_LAGGING 0
  let safes := (s.pts.recs.keys.filter fun n => (s.point n).configured ∧ (s.point n).isOutput).map fun n => (n, (s.point n).safe)
  { s with cyc := { s.cyc with
    freezes := if ready then s.cyc.freezes.reverse.take 1 else []
    last := if ready then s.cyc.last else safes } }

/-- The role and what ends with the failing hub (R407, R412). Each tunnel goes on at the next SEQ received, and the span lost counts as a gap (R354).
-/
def State.takeRole (s : State) : State :=
  let s := (s.setRole 1 pForming).inc R.TWIN_CNT_TAKEOVERS
  let s := { s with brg := { s.brg with locks := [], seqSeen := List.range 64 } }
  { s with twin := { s.twin with out := 0, due := none, resync := false, noticed := false, waitPeer := false, pulse := none } }

/-- The new active announces itself, and continues as cycle master where the pair was master (R407). -/
def State.takeRing (s : State) (n : Nat) : State :=
  if ¬ s.hasRing n ∨ ¬ s.joined n then s
  else if (s.accepted n).any fun m => s.isMine m.node then s.setMaster n true
  else s.announce n

/-- The standby takes over (R407): its outputs are those of its most recent freeze, at once unless that freeze's deadline is still to come; a
confirmation goes to the failing hub (R410). -/
def State.takeOver (s : State) : State :=
  let s := s.takeState.takeRole.enablePins
  let s := if s.cyc.freezes = [] then (s.applyVals s.cyc.last).applySupplies else s
  ((s.takeRing 0).takeRing 1).emit (.twin "confirmation" [])

/-- TAKEOVER (R406, R407). -/
def execTakeover (c : TakeCause) (s : State) : Host.Outcome State Fault Refusal :=
  if s.mayTake c then .next s.takeOver.settle else .next s

/-- SWITCHOVER (Table 15-8): on the active, with the standby eligible; it takes over at its next output deadline. -/
def State.startSwitch (s : State) : State :=
  if s.active ∧ s.pairIs pReady ∧ ¬ s.flag R.TWIN_STAT_LAGGING ∧ ¬ s.twin.relinquish then
    ({ s with twin := { s.twin with handover := true } }).emit (.twin "switchover" [])
  else s

def execSwitchover (s : State) : Host.Outcome State Fault Refusal := .next s.startSwitch

/-- RELINQUISH_CONFIRM (R409, R410): the new active's drivers are on. The failing hub releases its own, and one that relinquished enters the
safe state as a standby. -/
def execRelinquishConfirm (s : State) : Host.Outcome State Fault Refusal :=
  if s.active then
    let safe := s.twin.relinquish
    let s := ({ s with twin := { s.twin with relinquish := false, handover := false, out := 0, due := none, resync := false } }).becomeStandby pForming
    .next (if safe then s.safeRest else s).settle
  else .next s

/-- RELINQUISH_TIMEOUT (R409): no confirmation within 10 µs. -/
def execRelinquishTimeout (s : State) : Host.Outcome State Fault Refusal :=
  if s.twin.relinquish then .next (({ s with twin := { s.twin with relinquish := false } }).safeRest).settle else .next s

/-- TWIN_SAFE_NOTICE (R465): the standby has entered the safe state (`on`), or left it. -/
def execTwinSafeNotice (on : Bool) (s : State) : Host.Outcome State Fault Refusal :=
  if ¬ s.active then .next s
  else if on ∧ (s.pairIs pSyncing ∨ s.pairIs pReady) then
    .next (({ s with twin := { s.twin with noticed := true, out := 0, due := none, resync := false } }).wr R.TWIN_STAT_PAIR pDetached)
  else if ¬ on ∧ s.twin.noticed then
    .next (({ s with twin := { s.twin with noticed := false, resync := true } }).wr R.TWIN_STAT_PAIR pSyncing)
  else .next s

/-! ### Test pulses (R405) -/

/-- START of TWIN_PULSE: ignored while one is in progress or on a hub that is not active. -/
def State.askPulse (s : State) : State :=
  if s.flag R.TWIN_PULSE_STAT_BUSY ∨ ¬ s.active then s
  else ({ s with twin := { s.twin with pulseAsked := some (s.rd R.TWIN_PULSE_POINT) } }).wr R.TWIN_PULSE_STAT_BUSY 1

/-- TEST_PULSE: START on the active (`none`), or at the standby the pulse of a point at D_j: its driver turns on. -/
def execTestPulse (peer : Option (Fin 65536)) (s : State) : Host.Outcome State Fault Refusal :=
  match peer with
  | none => .next s.askPulse
  | some n =>
    let q := s.point n
    let p := q.bindByte 1
    let x := q.bindByte 2
    if s.isStandby ∧ s.pairIs pReady ∧ q.bindKind = 3 ∧ x < 4 then
      .next (({ s with twin := { s.twin with pulse := some n.val } }).setPin p x { s.pin p x with applied := 1, driving := s.stageSound p x })
    else .next s

/-- TEST_PULSE_END (R405): DUR after D_j the active drives again and the standby releases; `pass` is the standby's finding. -/
def execTestPulseEnd (pass : Bool) (s : State) : Host.Outcome State Fault Refusal :=
  match s.twin.pulse with
  | none => .next s
  | some n =>
    let q := s.point n
    let p := q.bindByte 1
    let x := q.bindByte 2
    let s := { s with twin := { s.twin with pulse := none } }
    if s.active then
      let s := if s.takesLevel p x then s.setPin p x { s.pin p x with driving := s.mayDrive p x } else s
      .next (((s.wr R.TWIN_PULSE_STAT_RESULT (if pass then 1 else 2)).wr R.TWIN_PULSE_STAT_POINT n).wr R.TWIN_PULSE_STAT_BUSY 0)
    else
      let s := s.pinOff p x
      .next (if pass then s else s.raise 43 .U)

end Sys2Proof.Machine
end

