-- ==== Sys2Proof/Machine/Auth.lean ====
section
/-!
DEFINITION. Link authentication and rekey (R420 to R424). The commands that carry a message bring the MGMT AUTH frames it arrived in;
HELLO and REKEY_TIMER without frames are this end's own start.
-/

namespace Sys2Proof.Machine

/-! ### Messages -/

/-- This end of lane `i` is the initiator (R420). -/
def State.isInit (s : State) (i : Nat) : Bool := if i = 4 then s.firstHub else i % 2 = 0

/-- Payloads as the fragments of one message (R420): in FRAG order, none missing, of the length that TOTAL names. -/
def joinFrags (msg : Nat) (ps : List (List Byte)) : Option (List Byte) :=
  let body := ps.flatMap fun p => p.drop 8
  if 1 ≤ ps.length ∧ ps.length ≤ 16 ∧ (ps.zipIdx.all fun (p, k) =>
    8 ≤ p.length ∧ p.length ≤ 2048 ∧ leAt p 0 1 = msg ∧ leAt p 1 1 = k ∧ leAt p 2 1 = ps.length ∧ leAt p 4 4 = body.length) then some body
  else none

/-- A message's fragments. -/
def fragments (msg reason : Nat) (body : List Byte) : List (List Byte) :=
  let n := max 1 ((body.length + 2039) / 2040)
  (List.range n).map fun k =>
    leBytes 1 msg ++ leBytes 1 k ++ leBytes 1 n ++ leBytes 1 reason ++ leBytes 4 body.length ++ (body.drop (2040 * k)).take 2040

/-- Send a message to the link peer (R154): in AUTH at once, each frame followed by an idle block (R135), in UP among the other frames of the
lane. -/
def State.sendAuth (s : State) (i msg reason : Nat) (body : List Byte) : State :=
  (fragments msg reason body).foldl (fun s p =>
    let f : Frame := { typ := fMgmt, tc := 6, dst := nodeId (s.cfgRing (i / 2 % 2)) 255, src := s.node0, op := 4, payload := p }
    if s.isUp i then s.submit bMgmt i f else (s.emitFrame i f).emit (.idle i idleBlock)) s

/-- A message arrives on lane `i` in its frames: they pass the checks of the link, and an invalid one is lost (R149, R154). -/
def State.authIn (s : State) (i msg : Nat) (fs : List Frame) : Option (List Byte) × State :=
  let fs := fs.map fun f => s.readTag i f
  let s := if s.isUp i then fs.foldl (fun s f => (s.linkCheck i f true).2) s else s
  let good := fs.filter fun f => f.mark = .valid ∧ f.ver = 1 ∧ f.typ = fMgmt ∧ f.op = 4
  (joinFrags msg (good.map (·.payload)), s)

/-- A check fails (R422): REJECT with the reason, and the port goes DOWN with cause AUTH_FAIL. In UP the REJECT waits for its turn on the
lane (R134), and the port goes DOWN once it has been sent. -/
def State.authFail (s : State) (i reason : Nat) : State :=
  if s.isUp i then (s.setSec i { s.sec_ i with rekey := some { want := wReject } }).sendAuth i 0x0F reason []
  else (s.sendAuth i 0x0F reason []).bringupFail i 4

/-! ### Authentication (R421) -/

/-- The key shares of a HELLO or REKEY, drawn as number `n`. -/
def State.shares (s : State) : Nat × List Byte × State :=
  let n := s.sec.drbg
  let (nonce, s) := s.random 32
  (n, nonce ++ Config.kemKey n ++ Config.ecdhKey n, s)

/-- A HELLO's or REKEY's answer: the body, and the shared secret with the peer's shares (R423). -/
def State.answer (s : State) (body : List Byte) : List Byte × List Byte × State :=
  let n := s.sec.drbg
  let (nonce, s) := s.random 32
  let kem := slice body 32 1568
  (nonce ++ Config.kemCipher n kem ++ Config.ecdhKey n, Config.ecdhSecret n (slice body 1600 97) ++ Config.kemSecret n kem, s)

/-- The shared secret of this end's shares `n` with the peer's answer. -/
def secretOf (n : Nat) (body : List Byte) : List Byte :=
  Config.ecdhSecret n (slice body 1600 97) ++ Config.kemSecret n (slice body 32 1568)

/-- Send this end's CERT and PROOF after a transcript, which they join. -/
def State.sendProof (s : State) (i : Nat) (script : List Byte) : List Byte × State :=
  let cert := s.chain 0 ++ s.chain 1
  let s := s.sendAuth i 3 0 cert
  let (sigs, s) := s.signBoth (digest (script ++ cert ++ s.claims ++ label (if s.isInit i then "dvl proof i" else "dvl proof r")))
  let proof := s.claims ++ sigs
  (script ++ cert ++ proof, s.sendAuth i 4 0 proof)

def State.setAuth (s : State) (i : Nat) (h : Hand) : State := s.setSec i { s.sec_ i with auth := some h }

/-- The hub's links authenticate once its alias layer is derived (Table 17-4). -/
def State.authOpen (s : State) (i : Nat) : Bool := (s.port i).st = .auth

/-- HELLO with no frames: the initiator starts (R421). -/
def State.sayHello (s : State) (i : Nat) : State :=
  if ¬ s.drbgOk then s.authFail i 0x09
  else
    let (n, body, s) := s.shares
    (s.sendAuth i 1 0 body).setAuth i { want := 2, script := body, eph := n }

/-- HELLO at the responder: REPLY, CERT and PROOF follow. -/
def State.helloIn (s : State) (i : Nat) (body : List Byte) : State :=
  if ¬ s.drbgOk then s.authFail i 0x09
  else
    let (reply, ss, s) := s.answer body
    let script := body ++ reply
    let (script', s) := (s.sendAuth i 2 0 reply).sendProof i script
    s.setAuth i { want := 3, script := script', prk := Config.hkdfExtract (digest script) ss }

/-- HELLO (R421): without frames the initiator's own start, with frames its arrival at the responder. -/
def execHello (i : Fin 5) (fs : List Frame) (s : State) : Host.Outcome State Fault Refusal :=
  if ¬ s.authOpen i ∨ (s.sec_ i).auth.isSome then .next s
  else if fs = [] then (if s.isInit i then .next (s.sayHello i) else .next s)
  else
    let (b, s) := s.authIn i 1 fs
    match b with
    | some body => if s.isInit i ∨ body.length ≠ 1697 then .next s else .next (s.helloIn i body)
    | none => .next s

/-- A message of lane `i` that its authentication expects, and that authentication. -/
def State.expects (s : State) (i msg : Nat) (fs : List Frame) : Option (Hand × List Byte) :=
  match (s.sec_ i).auth, (s.authIn i msg fs).1 with
  | some h, some b => if s.authOpen i ∧ h.want = msg then some (h, b) else none
  | _, _ => none

/-- REPLY (R421, R423). -/
def execReply (i : Fin 5) (fs : List Frame) (s : State) : Host.Outcome State Fault Refusal :=
  match s.expects i 2 fs with
  | some (h, b) =>
    if b.length ≠ 1697 then .next s
    else if ¬ s.drbgOk then .next (s.authFail i 0x09)
    else .next (s.setAuth i { h with
      want := 3, script := h.script ++ b, prk := Config.hkdfExtract (digest (h.script ++ b)) (secretOf h.eph b) })
  | none => .next s

/-- CERT (R422 check 2). -/
def execCert (i : Fin 5) (fs : List Frame) (s : State) : Host.Outcome State Fault Refusal :=
  match s.expects i 3 fs with
  | some (h, b) =>
    if ¬ Config.chainOk b then .next (s.authFail i 0x01)
    else .next (s.setAuth i { h with want := 4, script := h.script ++ b, cert := b })
  | none => .next s

/-- The PROOF's signatures verify with the peer's alias keys, and its CLAIMS agree with the certificates (check 3). -/
def State.proofOk (s : State) (i : Nat) (h : Hand) (b : List Byte) : Bool :=
  let claims := slice b 0 120
  let msg := digest (h.script ++ claims ++ label (if s.isInit i then "dvl proof r" else "dvl proof i"))
  b.length = 120 + 96 + 4627 ∧ Config.ecdsaOk (Config.aliasKey 0 h.cert) msg (slice b 120 96)
    ∧ Config.mldsaOk (Config.aliasKey 1 h.cert) msg (slice b 216 4627)
    ∧ leAt claims 0 16 = Config.chainSerial h.cert ∧ leAt claims 16 4 = Config.chainSvn h.cert ∧ bit (leAt claims 20 4) 0 = Config.chainDebug h.cert

/-- The peer's owner key digest is this hub's, or a nonzero SEC_PEER_OWNER entry (check 5). -/
def State.peerOwnerOk (s : State) (d : Nat) : Bool :=
  d = s.words 0x80 12 ∨ (d ≠ 0 ∧ (List.range 4).any fun k => s.words (0xF0500 + 0x40 * k) 12 = d)

/-- Recovery is being served on lane `i` (R457). -/
def State.serves (s : State) (i : Nat) : Bool := s.boot.serve.any fun x => x.1 = i

/-- Checks 3 to 8 of Table 16-5: the reason of the first that fails, 0 for none. Toward the port that recovery is served on check 4 is
skipped (R457). -/
def State.proofReason (s : State) (i : Nat) (h : Hand) (b : List Byte) : Nat :=
  let flags := leAt b 20 4
  firstReason [
    if s.proofOk i h b then 0 else 0x07,
    if ¬ s.serves i ∧ Config.chainSvn h.cert < s.rd R.SEC_CFG_MIN_SVN then 0x02 else 0,
    if s.peerOwnerOk (leAt b 24 48) then 0 else 0x03,
    if bit flags 0 ∧ ¬ s.flag R.SEC_CFG_DEBUG_PEER_OK then 0x04 else 0,
    if bit flags 1 then 0x05 else 0,
    if i = 4 ∧ leAt b 0 16 ≠ s.peerSerial then 0x06 else 0]

/-- PROOF (R421, R422): the initiator answers with CERT, PROOF and FINISH. -/
def execProof (i : Fin 5) (fs : List Frame) (s : State) : Host.Outcome State Fault Refusal :=
  match s.expects i 4 fs with
  | some (h, b) =>
    let r := s.proofReason i h b
    if r ≠ 0 then .next (s.authFail i r)
    else
      let script := h.script ++ b
      if s.isInit i then
        let (script, s) := s.sendProof i script
        .next ((s.sendAuth i 5 0 (Config.hmac (finishKey h.prk) script)).setAuth i { h with want := 5, script := script })
      else .next (s.setAuth i { h with want := 5, script := script })
  | none => .next s

/-- A lane enters UP with EPOCH 0 and FCNT 0 (R421); its delay is measured anew (R207) and its ring is joined (R31), unless a twin member has
no role yet (R397). While recovery is served the lane carries the private transfer instead (R457). -/
def State.enterUp (s : State) (i : Nat) (keys : Lane) : State :=
  let s := s.setSec i keys
  if s.serves i then s
  else
    let s := s.stepPort i fun p => { p with
      st := .up, epoch := false, rxEpoch := false, prevKey := false, fcnt := 0, fifo := [], rewind := [], failed := 0, nakFor := none }
    let s := { s with td := { s.td with pdelayHave := s.td.pdelayHave.filter (· ≠ i) } }
    let s := if i < 2 then s.showRec else s
    if 4 ≤ i ∨ (s.flag R.TWIN_CFG_EN ∧ s.rd R.TWIN_STAT_ROLE = 0 ∧ s.rd R.TWIN_STAT_PAIR ≤ 1) then s else s.joinLink (i / 2)

/-- FINISH (R421): a valid one completes the authentication; the responder answers with its own. The traffic keys take the transcript up to
both PROOFs, which the initiator's FINISH follows. -/
def execFinish (i : Fin 5) (fs : List Frame) (s : State) : Host.Outcome State Fault Refusal :=
  match s.expects i 5 fs with
  | some (h, b) =>
    let mine := Config.hmac (finishKey h.prk) h.script
    let init := s.isInit i
    let expected := if init then Config.hmac (finishKey h.prk) (h.script ++ mine) else mine
    if b ≠ expected then .next (s.authFail i 0x08)
    else
      let s := if init then s else s.sendAuth i 5 0 (Config.hmac (finishKey h.prk) (h.script ++ b))
      .next (s.enterUp i (trafficKeys h.prk h.script init)).settle
  | none => .next s

/-- REJECT (R422): the end that receives it goes DOWN in the same way. -/
def execReject (i : Fin 5) (fs : List Frame) (s : State) : Host.Outcome State Fault Refusal :=
  let (b, s) := s.authIn i 0x0F fs
  if b.isNone then .next s
  else if s.isUp i then .next (s.linkDown i 4).settle
  else if s.authOpen i then .next (s.bringupFail i 4)
  else .next s

/-- AUTH_STEP_TIMEOUT (R421): no expected message within 20 ms of this end's last one. -/
def execAuthStepTimeout (i : Fin 5) (s : State) : Host.Outcome State Fault Refusal :=
  if s.authOpen i ∧ (s.sec_ i).auth.isSome then .next (s.authFail i 0x0A) else .next s

/-! ### Rekey (R424) -/

def State.setRekey (s : State) (i : Nat) (h : Hand) : State := s.setSec i { s.sec_ i with rekey := some h }

/-- The initiator starts a rekey. Without entropy it sends nothing, and the rekey fails by its step timeout (R434). -/
def State.startRekey (s : State) (i : Nat) : State :=
  if ¬ s.drbgOk then s.setRekey i { want := 7 }
  else
    let (n, body, s) := s.shares
    (s.sendAuth i 6 0 body).setRekey i { want := 7, script := body, eph := n }

/-- REKEY_TIMER (R424): REKEY_MIN minutes have passed since the key was confirmed, or the end's own FCNT has reached its threshold: the
initiator starts a rekey, and the responder asks for one at its threshold. -/
def execRekeyTimer (i : Fin 5) (s : State) : Host.Outcome State Fault Refusal :=
  if ¬ s.isUp i ∨ (s.sec_ i).rekey.isSome then .next s
  else if s.isInit i then .next (s.startRekey i)
  else if 0xC0000000 ≤ (s.port i).fcnt then .next (s.sendAuth i 9 0 [])
  else .next s

/-- REKEY_REQ (R424): the initiator starts a rekey, unless one runs. -/
def execRekeyReq (i : Fin 5) (fs : List Frame) (s : State) : Host.Outcome State Fault Refusal :=
  let (b, s) := s.authIn i 9 fs
  if b.isSome ∧ s.isUp i ∧ s.isInit i ∧ (s.sec_ i).rekey.isNone then .next (s.startRekey i) else .next s

/-- REKEY (R424): the responder answers; one without entropy does not (R434). -/
def execRekey (i : Fin 5) (fs : List Frame) (s : State) : Host.Outcome State Fault Refusal :=
  let (b, s) := s.authIn i 6 fs
  match b with
  | some body =>
    if ¬ s.isUp i ∨ s.isInit i ∨ body.length ≠ 1697 ∨ ¬ s.drbgOk ∨ (s.sec_ i).rekey.any (fun h => h.want = wReject) then .next s
    else
      let (reply, ss, s) := s.answer body
      .next ((s.sendAuth i 7 0 reply).setRekey i { want := 8, script := body ++ reply, prk := Config.hkdfExtract (s.sec_ i).next ss })
  | none => .next s

/-- A message that the rekey of lane `i` expects. -/
def State.expectsRekey (s : State) (i msg : Nat) (fs : List Frame) : Option (Hand × List Byte) :=
  match (s.sec_ i).rekey, (s.authIn i msg fs).1 with
  | some h, some b => if s.isUp i ∧ h.want = msg then some (h, b) else none
  | _, _ => none

/-- REKEY_REPLY (R424): the initiator derives the new keys and sends its REKEY_FINISH. -/
def execRekeyReply (i : Fin 5) (fs : List Frame) (s : State) : Host.Outcome State Fault Refusal :=
  match s.expectsRekey i 7 fs with
  | some (h, b) =>
    let s := (s.authIn i 7 fs).2
    if b.length ≠ 1697 ∨ ¬ s.drbgOk then .next s
    else
      let script := h.script ++ b
      let prk := Config.hkdfExtract (s.sec_ i).next (secretOf h.eph b)
      .next ((s.sendAuth i 8 0 (Config.hmac (finishKey prk) script)).setRekey i { h with want := 8, script := script, prk := prk })
  | none => .next (s.authIn i 7 fs).2

/-- REKEY_FINISH (R424, R147): a verified one lets this end switch its sending key: the initiator at once, the responder once its own has been
sent. -/
def execRekeyFinish (i : Fin 5) (fs : List Frame) (s : State) : Host.Outcome State Fault Refusal :=
  match s.expectsRekey i 8 fs with
  | some (h, b) =>
    let s := (s.authIn i 8 fs).2
    let init := s.isInit i
    let mine := Config.hmac (finishKey h.prk) h.script
    let other := Config.hmac (finishKey h.prk) (h.script ++ mine)
    if b ≠ (if init then other else mine) then .next (s.authFail i 0x08).settle
    else if init then .next (s.switchKeys i (trafficKeys h.prk h.script true))
    else .next ((s.setRekey i { h with want := wSend }).sendAuth i 8 0 other)
  | none => .next (s.authIn i 8 fs).2

/-- REKEY_STEP_TIMEOUT (R424): a step without an answer for 10 ms restarts the rekey, and the third restart takes the port DOWN. The responder
lets its part go and waits for the initiator's next REKEY. -/
def execRekeyStepTimeout (i : Fin 5) (s : State) : Host.Outcome State Fault Refusal :=
  let x := s.sec_ i
  if ¬ s.isUp i ∨ ¬ x.rekey.any (fun h => h.want = 7 ∨ h.want = 8) then .next s
  else if x.restarts = 2 then .next (s.linkDown i 4).settle
  else
    let s := s.setSec i { x with rekey := none, restarts := x.restarts + 1 }
    if s.isInit i then .next (s.startRekey i) else .next s

end Sys2Proof.Machine
end

