-- ==== Sys2Proof/Machine/Clocks.lean ====
section
/-!
DEFINITION. Clocks (chapter 20): the monitor, island multiplexers, the gate tree and the frequency counter; and the die-to-die links, the
application cores and the module supplies (chapters 21 and 22).
-/

namespace Sys2Proof.Machine

/-- A switchable island, and the source of its PLL (Table 20-2): 5 PLL_A, 6 PLL_B. -/
def isSwitchable (i : Nat) : Bool := i = 1 ∨ (8 ≤ i ∧ i ≤ 39)
def pllOf (i : Nat) : Nat := if i = 9 ∨ i = 11 ∨ (34 ≤ i ∧ i ≤ 37) then 5 else 6

/-- Source `n` of Table 20-1 runs within its monitor limits. -/
def State.srcRuns (s : State) (n : Nat) : Bool := bit (s.rd R.CLK_STATUS_RUN) n

/-- The PLLs lock, `a` PLL_A and `b` PLL_B, and the islands named move to theirs (R509). -/
def State.lockPlls (s : State) (a b move : Bool) : State :=
  let s := (s.wr R.CLK_STATUS_LOCK (bnat a + 2 * bnat b)).wr R.CLK_STATUS_RUN
    (setBits (setBits (s.rd R.CLK_STATUS_RUN) 5 1 (bnat a)) 6 1 (bnat b))
  if ¬ move then s
  else (List.range 41).foldl (fun (s : State) i =>
    if isSwitchable i ∧ s.srcRuns (pllOf i) then
      ((s.wr (R.CLK_ISL_SEL i) 1).wr (R.CLK_ISL_CUR i) (pllOf i)).wr (R.CLK_ISL_FORCED i) 0
    else s) s

/-- PLL_LOCK (R497 step 6, R509): with AUTO_PLL 1, which acts only at DOZE exit (R515), every switchable island of a locked PLL moves to it, and
ON_OSC clears once both have. -/
def execPllLock (a b : Bool) (s : State) : Host.Outcome State Fault Refusal :=
  let auto := s.flag R.PWR_CFG_AUTO_PLL && s.pwr.autoOsc
  let s := s.lockPlls a b auto
  let s := if a ∧ b then { s with pwr := { s.pwr with autoOsc := false } } else s
  .next (if auto ∧ a ∧ b then s.wr R.PWR_STAT_ON_OSC 0 else s)

/-! ### Monitor (R513, R514) -/

/-- An island runs on a failed source, or on a PLL whose reference has failed. -/
def State.hitBy (s : State) (src i : Nat) : Bool :=
  let c := s.rd (R.CLK_ISL_CUR i)
  isSwitchable i ∧ c ≠ 0 ∧ (c = src ∨ (src = 1 ∧ (c = 5 ∨ c = 6)))

/-- Force the islands of a failed source onto IOSC; a pending switch of such an island is cancelled. -/
def State.forceIslands (s : State) (src : Nat) : State :=
  let is := (List.range 41).filter (s.hitBy src)
  let s := is.foldl (fun (s : State) i => (((s.wr (R.CLK_ISL_CUR i) 0).wr (R.CLK_ISL_SEL i) 0).wr (R.CLK_ISL_PENDING i) 0).wr (R.CLK_ISL_FORCED i) 1) s
  s.inc R.CLK_CNT_FORCED is.length

/-- CLOCK_FAIL (Table 20-3, R514): source `n` has failed. REC raises nothing, and moves the reference under R194; REFCLK raises only while it is the
active reference. Without the resonator the reference of the cycle master is REFCLK, or the recovered clock. -/
def State.clockFail (s : State) (n : Nat) : State :=
  let act := s.flag R.CLK_STATUS_REF_ACT
  let s := if n = 4 then s.recFails else (s.wr R.CLK_STATUS_RUN (setBits (s.rd R.CLK_STATUS_RUN) n 1 0)).forceIslands n
  let s := if n = 5 ∨ n = 6 then s.wr R.CLK_STATUS_LOCK (setBits (s.rd R.CLK_STATUS_LOCK) (n - 5) 1 0) else s
  let s := if n = 1 ∧ ¬ act ∧ s.srcRuns 3 then s.wr R.CLK_STATUS_REF_ACT 1
    else if n = 3 then s.wr R.CLK_STATUS_REF_ACT 0 else s
  let s := if n = 4 then s else s.chooseRef
  let s := if n = 0 then s.raise 0 .F n else if n = 4 ∨ (n = 3 ∧ ¬ act) then s else s.raise 0 .U n
  if (n = 1 ∨ n = 3 ∨ n = 4) ∧ ¬ s.srcRuns 1 ∧ ¬ s.srcRuns 3 ∧ ¬ s.srcRuns 4 then s.raise 0 .F n else s

def execClockFail (n : Fin 7) (s : State) : Host.Outcome State Fault Refusal :=
  if s.srcRuns n then .next (s.clockFail n).settle else .next s

/-! ### Multiplexers and gates (R512, R515, R516) -/

/-- A write of CLK_ISL[i].SEL (R516). It is ignored for a fixed island, and does nothing when it names the clock selected. -/
def State.islandSwitch (s : State) (i : Nat) (sel : Bool) : State :=
  let src := if sel then pllOf i else 0
  if ¬ isSwitchable i then s
  else if s.flag (R.CLK_ISL_SEL i) = sel ∧ ¬ s.flag (R.CLK_ISL_PENDING i) then s
  else if ¬ s.srcRuns src ∨ s.flag (R.CLK_ISL_PENDING i) ∨ s.flag R.PWR_STAT_DVFS_BUSY then s.inc R.CLK_CNT_REFUSED
  else (s.wr (R.CLK_ISL_SEL i) (bnat sel)).wr (R.CLK_ISL_PENDING i) 1

def execIslandSwitch (i : Fin 41) (sel : Bool) (s : State) : Host.Outcome State Fault Refusal := .next (s.islandSwitch i sel)

/-- ON_OSC clears once the driver has moved every switchable island to its PLL (R497 with AUTO_PLL 0, log 25). -/
def State.endOsc (s : State) : State :=
  if (List.range 41).all fun i => !isSwitchable i || s.rd (R.CLK_ISL_CUR i) != 0 then s.wr R.PWR_STAT_ON_OSC 0 else s

/-- ISLAND_SWITCH_DONE (R516). A switch between clocks of which one has stopped never ends. -/
def execIslandSwitchDone (i : Fin 41) (s : State) : Host.Outcome State Fault Refusal :=
  let cur := if s.flag (R.CLK_ISL_SEL i) then pllOf i else 0
  if ¬ s.flag (R.CLK_ISL_PENDING i) ∨ ¬ s.srcRuns (s.rd (R.CLK_ISL_CUR i)) ∨ ¬ s.srcRuns cur then .next s
  else
    let s := (s.wr (R.CLK_ISL_PENDING i) 0).wr (R.CLK_ISL_CUR i) cur
    .next (if cur = 0 then s else (s.wr (R.CLK_ISL_FORCED i) 0).endOsc)

/-- An island's block is enabled by its set-up (R512). Blocks without an enable are always enabled. -/
def State.islandEnabled (s : State) (i : Nat) : Bool :=
  if i = 11 then s.flag R.RFX_CFG_EN
  else if 13 ≤ i ∧ i ≤ 28 then (List.range 16).any fun c => s.flag (R.ENG_CH_CFG_EN (i - 13) c)
  else if i = 29 then (List.range 32).any fun k => s.flag (R.PCTL_CAN_CFG_EN k)
  else if i = 30 then (List.range 16).any fun k => s.flag (R.PCTL_SPE_CFG_EN k)
  else if i = 31 then (List.range 64).any fun k => s.flag (R.PCTL_UART_CFG_EN k)
  else if i = 32 then (List.range 64).any fun k => s.rd (R.PCTL_IOL_CFG_MODE k) ≠ 0
  else true

/-- The frequency counter is counting clock `n` or by it. -/
def State.counting (s : State) (n : Nat) : Bool :=
  s.rd R.CLK_FCNT_STAT_STATE = 1 ∧ (s.rd R.CLK_FCNT_CFG_TGT = n ∨ s.rd R.CLK_FCNT_CFG_REF = n)

/-- What a gate turns off is in use (R512); `words` says that a crossing of the island holds a word. -/
def State.gateUsed (s : State) (g : Gate) (words : Bool) : Bool :=
  match g with
  | .refclk => s.flag R.CLK_STATUS_REF_ACT || s.counting 3
  | .pllB => s.counting 6 || (List.range 41).any fun i =>
      isSwitchable i && pllOf i == 6 && (s.rd (R.CLK_ISL_CUR i) == 6 || (s.flag (R.CLK_ISL_PENDING i) && s.flag (R.CLK_ISL_SEL i)))
  | .island i => words || s.islandEnabled i

def Gate.fld : Gate → Fld
  | .refclk => R.CLK_GATE_REFCLK_EN
  | .pllB => R.CLK_GATE_PLL_B_EN
  | .island i => R.CLK_ISL_EN i

/-- A write of a gate (R512): fixed islands and islands 0, 1, 12 and 40 ignore it; turning off what is in use is refused.
Whether REFCLK runs when its gate opens is a free value (log entry 1). -/
def State.gateWrite (s : State) (g : Gate) (on words : Bool) : State :=
  let never := match g with
    | .island i => !isSwitchable i || i.val == 1 || i.val == 12
    | _ => false
  if never then s
  else if on then
    match g with
    | .refclk =>
      if s.flag R.CLK_GATE_REFCLK_EN then s
      else
        let (f, s) := s.draw
        (s.wr R.CLK_GATE_REFCLK_EN 1).wr R.CLK_STATUS_RUN (setBits (s.rd R.CLK_STATUS_RUN) 3 1 (f % 2))
    | _ => s.wr (Gate.fld g) 1
  else if s.flag (Gate.fld g) ∧ s.gateUsed g words then s.inc R.CLK_CNT_REFUSED
  else
    let s := s.wr (Gate.fld g) 0
    match g with
    | .refclk => s.wr R.CLK_STATUS_RUN (setBits (s.rd R.CLK_STATUS_RUN) 3 1 0)
    | .pllB => (s.wr R.CLK_STATUS_RUN (setBits (s.rd R.CLK_STATUS_RUN) 6 1 0)).wr R.CLK_STATUS_LOCK (setBits (s.rd R.CLK_STATUS_LOCK) 1 1 0)
    | .island _ => s

def execClockGateWrite (g : Gate) (on words : Bool) (s : State) : Host.Outcome State Fault Refusal := .next (s.gateWrite g on words)

/-! ### Frequency counter (R517) -/

/-- GO: ignored while a count runs. -/
def State.fcntGo (s : State) : State :=
  if s.rd R.CLK_FCNT_STAT_STATE = 1 then s else s.wr R.CLK_FCNT_STAT_STATE 1

def execFcntGo (s : State) : Host.Outcome State Fault Refusal := .next s.fcntGo

/-- The clock of an index is gated: a source by CLK_GATE, an island by its EN. -/
def State.clockGated (s : State) (n : Nat) : Bool :=
  if n = 3 then !s.flag R.CLK_GATE_REFCLK_EN else if n = 6 then !s.flag R.CLK_GATE_PLL_B_EN
  else if 7 ≤ n then !s.flag (R.CLK_ISL_EN (n - 7)) else false

/-- Nominal frequencies in Hz: REFCLK by FREQ (Table 20-4), and PLL_A by the operating point (Table 19-6). -/
def refHz (freq : Nat) : Nat := [10, 25, 50, 100].getD freq 0 * 1000000
def pllAHz (op : Nat) : Nat := [1250, 1000, 600].getD op 0 * 1000000

/-- The nominal frequency of a clock of R517 (Tables 20-1 and 20-2); none for lane clocks, of which the manual gives none. -/
def State.nominalHz (s : State) (n : Nat) : Option Nat :=
  let op := s.rd R.PWR_STAT_OP
  let i := n - 7
  if n < 7 then some ([400000000, 50000000, 32768, refHz (s.rd R.CLK_CFG_FREQ), 390625000, pllAHz op, 2000000000].getD n 0)
  else if i = 0 then some 50000000
  else if 2 ≤ i ∧ i ≤ 7 then none
  else if i = 40 ∨ s.rd (R.CLK_ISL_CUR i) = 0 then some 400000000
  else if i = 1 then some 800000000
  else if i = 11 then some (min 1000000000 (pllAHz op))
  else if pllOf i = 5 then some (pllAHz op)
  else if i = 8 ∨ i = 10 ∨ i = 12 then some 1000000000
  else if (13 ≤ i ∧ i ≤ 28) ∨ i = 33 then some 500000000
  else some 200000000

/-- The edges of REF in the window: WINDOW µs at REF's nominal frequency, rounded up to whole periods (R517); those observed, `seen`, for a clock of no
stated frequency. -/
def State.refEdges (s : State) (seen : Nat) : Nat :=
  match s.nominalHz (s.rd R.CLK_FCNT_CFG_REF) with
  | some f => (s.rd R.CLK_FCNT_WIN_WINDOW * f + 999999) / 1000000
  | none => seen

/-- FCNT_DONE (R517): the window ends with the counts, or fails where REF showed no edge or TGT is gated. -/
def execFcntDone (tgt ref : BitVec 32) (edges : Bool) (s : State) : Host.Outcome State Fault Refusal :=
  if s.rd R.CLK_FCNT_STAT_STATE ≠ 1 then .next s
  else if ¬ edges ∨ s.clockGated (s.rd R.CLK_FCNT_CFG_TGT) then .next (s.wr R.CLK_FCNT_STAT_STATE 3)
  else .next (((s.wr R.CLK_FCNT_TGT_COUNT tgt.toNat).wr R.CLK_FCNT_REF_COUNT (s.refEdges ref.toNat)).wr R.CLK_FCNT_STAT_STATE 2)

/-! ### Cores, die-to-die links and module supplies (R534, R551, R552) -/

/-- Every open staging is abandoned (R453). -/
def State.dropStagings (s : State) : State :=
  let s := if s.boot.fwStg.isSome then s.wr R.ID_UPD_STAT_FW_STG 0 else s
  let s := if s.boot.bndStg.isSome then s.wr R.ID_UPD_STAT_BND_STG 0 else s
  { s with boot := { s.boot with fwStg := none, bndStg := none } }

/-- CORE_ERROR (R534): corrected, or uncorrectable, when the cores restart, stagings are abandoned and a log copy fails. -/
def execCoreError (uncorrectable : Bool) (s : State) : Host.Outcome State Fault Refusal :=
  if ¬ uncorrectable then .next (s.raise 47 .C).settle
  else
    let s := (s.raise 47 .U).dropStagings
    let s := if s.flt.copy.isSome then ({ s with flt := { s.flt with copy := none } }).wr R.FLT_LOG_RDSTAT_STATE 3 else s
    .next s.settle

/-- D2D_CRC_FAIL (R552): a resend succeeds. `d` is 0 Marl, 1 Grit, 2 Kaolin. -/
def execD2dCrcFail (d : Fin 3) (s : State) : Host.Outcome State Fault Refusal := .next (s.raise 44 .C d).settle

/-- D2D_RETRAIN (R552): the resends fail. The points whose Marl transfer is lost take FAULT for this update; a retraining that fails for the
third time is F for Marl and Grit, and for Kaolin U with every later access failing. -/
def State.d2dRetrain (s : State) (d : Nat) (ok : Bool) (lost : List Nat) : State :=
  let s := s.raise 44 .U d
  let s := if d ≠ 0 then s else lost.foldl (fun (s : State) n =>
    let p := s.point n
    s.setPoint n { p with supplied := some (64 * classOf qFault p.isOutput + qFault) }) s
  let n := if ok then 0 else NMap.get (fun _ => 0) s.pwr.d2dFails d + 1
  let s := { s with pwr := { s.pwr with d2dFails := NMap.set (fun _ => 0) s.pwr.d2dFails d n } }
  if n < 3 then s
  else if d = 2 then ({ s with pwr := { s.pwr with kaolinLost := true } }).raise 44 .U d
  else s.raise 44 .F d

def execD2dRetrain (d : Fin 3) (ok : Bool) (lost : List (Fin 65536)) (s : State) : Host.Outcome State Fault Refusal :=
  .next (s.d2dRetrain d ok (lost.map (·.val))).settle

/-- The module supply of port `i` is wanted: its port is enabled, or for the twin lane the hub is a twin member (R551). -/
def State.vmodWanted (s : State) (i : Nat) : Bool := if i < 4 then s.flag (R.RING_PORT_CFG_EN i) else s.flag R.TWIN_CFG_EN
/-- The module supply of port `i` is on. -/
def State.vmodOn (s : State) (i : Nat) : Bool := s.vmodWanted i && i ∉ s.pwr.vmodOff && s.pwr.path = .good

/-- VMOD_OVERLOAD (R551). -/
def execVmodOverload (i : Fin 5) (s : State) : Host.Outcome State Fault Refusal :=
  if s.vmodOn i then .next (({ s with pwr := { s.pwr with vmodOff := i.val :: s.pwr.vmodOff } }).raise (8 + i) .C).settle else .next s

/-- VMOD_RETRY (R551): 100 ms later. -/
def execVmodRetry (i : Fin 5) (s : State) : Host.Outcome State Fault Refusal :=
  .next { s with pwr := { s.pwr with vmodOff := s.pwr.vmodOff.filter (· ≠ i.val) } }

end Sys2Proof.Machine
end

