-- ==== Sys2Proof/Machine/Power.lean ====
section
/-!
DEFINITION. The power path (chapter 19): feeds, seating and start, breakers, rails, and their fault events.
-/

namespace Sys2Proof.Machine

/-- Path `n` of R473 conducts: its input is present, within limits and not reversed, and its breaker is armed and not tripped (R482); a logic path
from its soft-start on, an FPIN path from rails good while the board is seated (Table 19-1, R478). -/
def State.conducts (s : State) (n : Nat) : Bool :=
  n ∈ s.pwr.present && n ∉ s.pwr.overV && n ∉ s.pwr.reversed && n ∉ s.pwr.brkHot && !s.flag (R.PWR_BRK_STAT_TRIP n) &&
    if n < 2 then s.pwr.path = .seated ∨ s.pwr.path = .good else s.pwr.path = .good ∧ s.pwr.seated

/-- The condition of a path that keeps its fault bit set (Table 19-4). -/
def State.pathFault (s : State) (n : Nat) : Bool :=
  (bit (s.rd R.PWR_CFG_EXPECT) n && n ∉ s.pwr.present) || s.flag (R.PWR_BRK_STAT_TRIP n) || n ∈ s.pwr.overV

/-- The status registers follow the power path, and so do the persisting causes of bits 1 and 2; with no FPIN path left field power is
lost (R474, R487). -/
def State.showPower (s : State) : State :=
  let on := (List.range 4).filter s.conducts
  let s := (List.range 4).foldl (fun (s : State) n =>
    (s.wr (R.PWR_BRK_STAT_ON n) (bnat (n ∈ on))).wr (R.PWR_BRK_STAT_ARMED n) (bnat (n ∉ s.pwr.brkHot))) s
  let mask := fun (ns : List Nat) => ns.foldl (fun a n => a + 2 ^ n) 0
  let s := (s.wr R.PWR_STAT_ON (mask on)).wr R.PWR_STAT_PRES (mask ((List.range 4).filter fun n => n ∈ s.pwr.present))
  let s := (s.wr R.PWR_STAT_RAILS_GOOD (bnat (s.pwr.path = .good))).wr R.PWR_STAT_SEATED (bnat s.pwr.seated)
  let up := s.pwr.path = .good
  let s := s.persists 1 .U (up ∧ (s.pathFault 0 ∨ s.pathFault 1)) (if s.pathFault 0 then 0 else 1)
  let s := s.persists 2 .U (up ∧ (s.pathFault 2 ∨ s.pathFault 3 ∨ ¬ s.pwr.seated))
    (if s.pathFault 2 then 2 else if s.pathFault 3 then 3 else s.pwr.unseatCode)
  let s := if s.fld.power ∧ 2 ∉ on ∧ 3 ∉ on then s.fieldPowerLoss else s
  s.wr R.PWR_STAT_FIELD_OK (bnat s.fld.power)

/-- The FLT_STATUS bit of a path: 1 for the logic feeds, 2 for field power. -/
def pathBit (n : Nat) : Nat := if n < 2 then 1 else 2

/-- The other input of a pair (R473). -/
def mateFeed (n : Nat) : Nat := if n % 2 = 0 then n + 1 else n - 1

def State.setPwr (s : State) (p : PwrSt) : State := { s with pwr := p }

/-- A path raises a fault of Table 19-4 once its rails are good. -/
def State.raisePath (s : State) (n : Nat) (c : FClass) : State := if s.pwr.path = .good then s.raise (pathBit n) c n else s

/-- A path that has turned off no longer reverses, nor does its partner. -/
def State.endReverse (s : State) (n : Nat) : State :=
  s.setPwr { s.pwr with reversed := s.pwr.reversed.filter fun x => x ≠ n ∧ x ≠ mateFeed n }

/-! ### Inputs (R473 to R475) -/

/-- FEED_PRESENT (R474). A logic feed wakes a dozing hub (R496). -/
def execFeedPresent (n : Fin 4) (s : State) : Host.Outcome State Fault Refusal :=
  if n.val ∈ s.pwr.present then .next s
  else
    let s := ((s.setPwr { s.pwr with present := n.val :: s.pwr.present, arrived := s.pwr.arrived || decide (n.val < 2) }).endReverse n).showPower
    .next (if n.val < 2 then s.wake 4 else s).settle

/-- FEED_ABSENT (R474, R487): an expected input that is absent raises U. -/
def execFeedAbsent (n : Fin 4) (s : State) : Host.Outcome State Fault Refusal :=
  if n.val ∉ s.pwr.present then .next s
  else
    let expected := bit (s.rd R.PWR_CFG_EXPECT) n
    let s := ((s.setPwr { s.pwr with present := s.pwr.present.filter (· ≠ n.val) }).endReverse n).showPower
    .next (if expected then s.raisePath n .U else s).settle

/-- FEED_OV (R475). -/
def execFeedOv (n : Fin 4) (s : State) : Host.Outcome State Fault Refusal :=
  if n.val ∈ s.pwr.overV then .next s
  else
    let s := (s.setPwr { s.pwr with overV := n.val :: s.pwr.overV }).endReverse n
    .next ((s.wr (R.PWR_BRK_STAT_CAUSE n) 5).showPower.raisePath n .U).settle

/-- OV_RECOVER (R475): below 37.5 V for 1 ms. -/
def execOvRecover (n : Fin 4) (s : State) : Host.Outcome State Fault Refusal :=
  .next (s.setPwr { s.pwr with overV := s.pwr.overV.filter (· ≠ n.val) }).showPower.settle

/-- REVERSE_TURN_OFF (R473). -/
def execReverseTurnOff (n : Fin 4) (s : State) : Host.Outcome State Fault Refusal :=
  if ¬ s.conducts n then .next s
  else .next ((s.setPwr { s.pwr with reversed := n.val :: s.pwr.reversed }).showPower.raisePath n .C).settle

/-! ### Start and seating (R476 to R478) -/

/-- POWER_PATH_START (Table 19-1 step 1): a logic feed has become present. In DORMANT a feed that was there at entry starts nothing (R503). -/
def execPowerPathStart (s : State) : Host.Outcome State Fault Refusal :=
  if s.pwr.path = .none ∧ s.pwr.arrived ∧ (0 ∈ s.pwr.present ∨ 1 ∈ s.pwr.present) then
    .next (s.setPwr { s.pwr with path := if s.pwr.state = .dormant ∧ s.pwr.held then .seated else .feed }).showPower
  else .next s

/-- SEATING_CONFIRMED (R476): at start the soft-start may proceed; after a reseating the FPIN paths soft-start. -/
def execSeatingConfirmed (s : State) : Host.Outcome State Fault Refusal :=
  let path := if s.pwr.path = .feed then PathSt.seated else s.pwr.path
  .next (s.setPwr { s.pwr with seated := true, held := true, path := path }).showPower.settle

/-- RAILS_GOOD (R477): the logic paths' breakers are re-armed and every rail that RUN needs is in its window. The boot starts. -/
def execRailsGood (s : State) : Host.Outcome State Fault Refusal :=
  if s.pwr.path = .seated ∧ 0 ∉ s.pwr.brkHot ∧ 1 ∉ s.pwr.brkHot ∧ [0, 1].any s.conducts then
    let s := s.restart
    .next (s.setPwr { s.pwr with path := .good, state := .run, asleep := false }).showPower
  else .next s

/-- BOARD_UNSEATED (R478, R482): field power and every FP switch turn off, and trip latches and retry timers are cancelled. -/
def execBoardUnseated (s : State) : Host.Outcome State Fault Refusal :=
  if ¬ s.pwr.seated then .next s
  else
    let good := s.pwr.path = .good
    let s := s.setPwr { s.pwr with seated := false, held := false, brkEvt := [] }
    let s := (List.range 4).foldl (fun (s : State) n => s.wr (R.PWR_BRK_STAT_TRIP n) 0) s
    let s := (List.range 64).foldl (fun (s : State) p =>
      ((s.wr (R.PORT_STAT_FP_TRIP p) 0).wr (R.PORT_DIAG_FP_SHORT p) 0).setFp p false) s
    let (v, s) := s.draw
    let s := (s.setPwr { s.pwr with unseatCode := v % 2 ^ 32 }).showPower
    .next (if good then s.raise 2 .U s.pwr.unseatCode else s).settle

/-! ### Breakers (R479 to R483) -/

/-- PATH_TRIP (R479): CAUSE 1 TIMER, 2 FAST, 3 TEMP, 4 MODEL. The breaker waits to be re-armed. -/
def execPathTrip (n : Fin 4) (cause : Fin 4) (s : State) : Host.Outcome State Fault Refusal :=
  if s.flag (R.PWR_BRK_STAT_TRIP n) ∨ ¬ s.conducts n then .next s
  else
    let s := (s.setPwr { s.pwr with brkHot := n.val :: s.pwr.brkHot.filter (· ≠ n.val) }).endReverse n
    let s := ((s.wr (R.PWR_BRK_STAT_TRIP n) 1).wr (R.PWR_BRK_STAT_CAUSE n) (cause + 1)).inc (R.PWR_BRK_STAT_TRIPS n)
    .next (s.showPower.raisePath n .U).settle

/-- The trip latch of a path clears once it has had a clearing event and is re-armed (R481). -/
def State.pathClearEvent (s : State) (n : Nat) : State :=
  if ¬ s.flag (R.PWR_BRK_STAT_TRIP n) then s
  else if n ∈ s.pwr.brkHot then s.setPwr { s.pwr with brkEvt := n :: s.pwr.brkEvt.filter (· ≠ n) }
  else ((s.setPwr { s.pwr with brkEvt := s.pwr.brkEvt.filter (· ≠ n) }).wr (R.PWR_BRK_STAT_TRIP n) 0).showPower

/-- A clearing event of breaker `b`: a path, or the FP switch of port b − 4. -/
def State.clearEvent (s : State) (b : Nat) : State := if b < 4 then s.pathClearEvent b else s.fpClearEvent (b - 4)

/-- BREAKER_REARM (R481): a latch that has had its clearing event clears now. -/
def execBreakerRearm (b : Fin 68) (s : State) : Host.Outcome State Fault Refusal :=
  let s := s.setPwr { s.pwr with brkHot := s.pwr.brkHot.filter (· ≠ b.val) }
  .next (if b.val ∈ s.pwr.brkEvt then s.clearEvent b else s).showPower.settle

/-- BREAKER_RETRY (R481): the retry time has expired; RETRY 0 means none. -/
def execBreakerRetry (b : Fin 68) (s : State) : Host.Outcome State Fault Refusal :=
  let retry := if b.val < 4 then s.rd (R.PWR_BRK_CFG_RETRY b) else s.rd (R.PORT_FP_RTY_RETRY (b - 4))
  .next (if retry = 0 then s else s.clearEvent b).settle

/-- TRIP_CLEAR (R481): a write of 1 to PWR_BRK_STAT.TRIP. -/
def execTripClear (n : Fin 4) (s : State) : Host.Outcome State Fault Refusal := .next (s.pathClearEvent n).settle

/-! ### Rails (R484 to R486) -/

/-- RAIL_WARNING (R485): rail `r` of Table 19-3. -/
def execRailWarning (r : Fin 12) (s : State) : Host.Outcome State Fault Refusal :=
  if s.pwr.path = .good then .next (s.raise 3 .U r).settle else .next s

/-- RAIL_REGULATION_FAIL (R485). -/
def execRailRegulationFail (r : Fin 12) (s : State) : Host.Outcome State Fault Refusal :=
  if s.pwr.path = .good then .next (s.raise 3 .F r).settle else .next s

/-- The rails are removed: the hub stands as after a power-on reset, with no boot under way. Until it starts again the vault keeps the alarm
and the tamper configuration (R432, R503). -/
def State.railsOff (s : State) (path : PathSt) (state : PState) : State :=
  let s := (s.restart.setWords 0x100048 2 (s.words 0x100048 2)).setWord 0x100000 (s.word 0x100000)
  let s := { s with boot := { s.boot with stage := .off } }
  (s.setPwr { s.pwr with path := path, state := state, asleep := false, arrived := false }).showPower

/-- RAIL_RESTART (R485): after 1 ms outside its window; the start resumes at step 4 of Table 19-1. -/
def execRailRestart (s : State) : Host.Outcome State Fault Refusal :=
  if s.pwr.path = .good then .next (s.railsOff .seated .off) else .next s

/-- FEEDS_LOST (R486, R504): with VBAT the hub is DORMANT; without, it is OFF, and the vault loses its timer and tamper latch. -/
def execFeedsLost (vbat : Bool) (s : State) : Host.Outcome State Fault Refusal :=
  if 0 ∈ s.pwr.present ∨ 1 ∈ s.pwr.present then .next s
  else
    let s := s.railsOff .none (if vbat then .dormant else .off)
    let s := s.setPwr { s.pwr with vbat := vbat, held := vbat && s.pwr.held }
    if vbat then .next s
    else
      let v := { s.sec.vault with ticks := 0, latch := false, tamperSrc := 0, tamperTime := 0, fwCtr := 0, bndCtr := 0 }
      .next ({ s with sec := { s.sec with vault := v } }).showVault

end Sys2Proof.Machine
end

