-- ==== Sys2Proof/Machine/Mailbox.lean ====
section
/-!
DEFINITION. Blackthorn (chapter 16): SPDM sessions, the mailbox and its tokens, tamper and entropy.
-/

namespace Sys2Proof.Machine

/-! ### SPDM (R418, R425, R427) -/

/-- Function `t` answers over DOE: PF0, or the function of an enabled VF slot; in recovery mode PF0 alone (R455). -/
def State.answers (s : State) (t : Nat) : Bool :=
  if s.boot.stage = .recovery then t = 0 else s.ready && (decide (t = 0) || (decide (s.kind t = kVf) && s.slotOn t))

/-- What the request brings about. A session needs entropy (R434), and IDE keys a session on PF0. -/
def State.spdmEffect (s : State) (t : Nat) (e : SpdmEffect) : State :=
  match e with
  | .none => s
  | .session m leaf =>
    if ¬ s.drbgOk then s
    else ({ s with sec := { s.sec with sessions := s.sec.sessions ++ ([⟨t, m, leaf.toNat⟩] : List Session) } }).reprove t
  | .ide u secure =>
    if t ≠ 0 ∨ ¬ s.sec.sessions.any (fun x => x.slot = 0) then s
    else
      let drop := fun (l : List Nat) => l.filter (· ≠ u.val)
      let lost := if ¬ secure ∧ u.val ∈ s.hif.ideSecure then u.val :: s.hif.ideLost else if secure then drop s.hif.ideLost else s.hif.ideLost
      let h : Hif := { s.hif with ideSecure := if secure then u.val :: drop s.hif.ideSecure else drop s.hif.ideSecure, ideLost := lost }
      ({ s with hif := h } : State).resumeWrites

/-- SPDM_REQUEST (R418). -/
def execSpdmRequest (t : Fin 16) (b : List Byte) (e : SpdmEffect) (s : State) : Host.Outcome State Fault Refusal :=
  if ¬ s.answers t then .next s
  else
    let n := s.sec.drbg
    let s := (s.random 0).2
    .next ((s.emit (.reply "SPDM" (Config.spdmAnswer n b))).spdmEffect t e).settle

/-- SPDM_SESSION_END (R427): END_SESSION, or a heartbeat timeout. -/
def execSpdmSessionEnd (t : Fin 16) (s : State) : Host.Outcome State Fault Refusal := .next (s.endSessions t).settle

/-! ### The mailbox (R435) -/

/-- The mailbox takes a command: STATE is not BUSY. -/
def State.mbxOpen (s : State) : Bool := s.ready && decide (s.rd R.SEC_MBX_STAT_STATE ≠ 1)

/-- A command ends with a result of Table 16-10 and a reply. -/
def State.mbxDone (s : State) (result : Nat) (reply : List Byte) : State :=
  let s := { s with sec := { s.sec with mbx := memWrite s.sec.mbx 0 reply } }
  ((s.wr R.SEC_MBX_STAT_STATE (if result = 0 then 2 else 3)).wr R.SEC_MBX_STAT_RESULT result).wr R.SEC_MBX_STAT_LEN reply.length

/-- A command that fails. -/
def State.mbxFail (s : State) (result : Nat) : State := s.mbxDone result []

/-- The input bytes. -/
def State.mbxIn (s : State) (i n : Nat) : List Byte := memRead s.sec.mbx i n

def State.getChallenge (s : State) : State :=
  if ¬ s.mbxOpen then s
  else if ¬ s.drbgOk then s.mbxFail 0x06
  else
    let (c, s) := s.random 48
    ({ s with sec := { s.sec with challenge := some c } }).mbxDone 0 c

/-- GET_CHALLENGE (R429). -/
def execGetChallenge (s : State) : Host.Outcome State Fault Refusal := .next s.getChallenge

/-- CHALLENGE_EXPIRY (R429). -/
def execChallengeExpiry (s : State) : Host.Outcome State Fault Refusal :=
  .next { s with sec := { s.sec with challenge := none } }

/-! ### Tokens (R429, R430) -/

/-- The owner's signatures, and for DEBUG_UNLOCK the vendor's, verify over bytes 0x00 to 0x47. -/
def State.tokenSigned (s : State) (debug : Bool) : Bool :=
  let msg := s.mbxIn 0 0x48
  let b := s.bundle
  decide (b ≠ []) && Config.ecdsaOk (objSigner b) msg (s.mbxIn 0x48 96) && Config.mldsaOk (objMlKey b) msg (s.mbxIn 0xA8 4627) &&
    (!debug || (Config.ecdsaOk (Config.debugKey 0 s.image) msg (s.mbxIn 0x12BB 96)
      && Config.mldsaOk (Config.debugKey 1 s.image) msg (s.mbxIn 0x131B 4627)))

/-- The result of a token of `len` bytes (Table 16-10). -/
def State.tokenResult (s : State) (len : Nat) : Nat :=
  let type := leNat (s.mbxIn 0 1)
  let debug := type = 4
  firstReason [
    if type = 0 ∨ 6 < type ∨ leNat (s.mbxIn 2 2) ≠ (if debug then 0x252E else 0x12BB) ∨ len ≠ leNat (s.mbxIn 2 2) then 0x04 else 0,
    if leNat (s.mbxIn 8 16) ≠ Config.partSerial.toNat then 0x03 else 0,
    if s.sec.challenge ≠ some (s.mbxIn 0x18 48) then 0x02 else 0,
    if ¬ s.tokenSigned debug then 0x01 else 0,
    if type = 5 ∧ ¬ s.sec.vault.latch then 0x05 else 0]

def State.setVault (s : State) (v : Vault) : State := { s with sec := { s.sec with vault := v } }

/-- The status registers and ID_STATE follow the vault; bit 5 persists while the latch is set (R433). -/
def State.vaultShown (s : State) : State := s.showVault.persists 5 .F s.sec.vault.latch

/-- ZEROISE (R430): the key store and the owner key digest are erased, both bundle slots become EMPTY, and the hub resets. -/
def State.zeroise (s : State) : State :=
  let s := s.setVault { s.sec.vault with keys := [], owner := 0 }
  ((s.setObj 2 0 {}).setObj 2 1 {}).flushLogs.restart

/-- An accepted token takes effect (R430). -/
def State.tokenActs (s : State) (type : Nat) : State :=
  let v := s.sec.vault
  if type = 1 then (s.setVault { v with lock := true }).showVault
  else if type = 2 then (s.setVault { v with lock := false }).showVault
  else if type = 3 then
    let s := (s.wr R.ID_COMMIT_COMMITTED 0).wr R.ID_COMMIT_UNLOCKED 1
    { s with sec := { s.sec with block7 := 0 } }
  else if type = 4 then (s.setVault { v with debugNext := true }).showVault
  else if type = 5 then (s.setVault { v with latch := false, tamperSrc := 0, tamperTime := 0 }).vaultShown
  else s.zeroise

def State.submitToken (s : State) (len : Nat) : State :=
  if ¬ s.mbxOpen then s
  else
    let type := leNat (s.mbxIn 0 1)
    let r := s.tokenResult len
    let s := s.logAudit 0x20 type r (leNat (s.mbxIn 0x18 8)) s.node0 0
    let s := ({ s with sec := { s.sec with challenge := none } }).mbxFail r
    if r = 0 then s.tokenActs type else s

/-- SUBMIT_TOKEN (R429): the token is checked, the challenge is spent whatever the outcome, and an accepted token acts. -/
def execSubmitToken (len : Fin 16385) (s : State) : Host.Outcome State Fault Refusal := .next (s.submitToken len).settle

def State.getCert (s : State) (len : Nat) : State :=
  if ¬ s.mbxOpen then s
  else
    let c := leNat (s.mbxIn 0 1)
    if len = 0 ∨ 1 < c then s.mbxFail 0x04 else s.mbxDone 0 (s.chain c)

/-- GET_CERT (R435). -/
def execGetCert (len : Fin 16385) (s : State) : Host.Outcome State Fault Refusal := .next (s.getCert len)

def State.attest (s : State) (len : Nat) : State :=
  if ¬ s.mbxOpen then s
  else if len ≠ 32 then s.mbxFail 0x04
  else
    let msg := ([1, 2, 3, 4, 5, 6, 7].flatMap fun n => s.block n) ++ s.mbxIn 0 32
    let (sigs, s) := s.signBoth msg
    s.mbxDone 0 (msg ++ sigs)

/-- ATTEST (R419). -/
def execAttest (len : Fin 16385) (s : State) : Host.Outcome State Fault Refusal := .next (s.attest len)

def State.randomCmd (s : State) (len : Nat) : State :=
  if ¬ s.mbxOpen then s
  else
    let n := leNat (s.mbxIn 0 2)
    if len < 2 ∨ n = 0 ∨ 256 < n then s.mbxFail 0x04
    else if ¬ s.drbgOk then s.mbxFail 0x06
    else
      let (b, s) := s.random n
      s.mbxDone 0 b

/-- RANDOM (R435). -/
def execRandom (len : Fin 16385) (s : State) : Host.Outcome State Fault Refusal := .next (s.randomCmd len)

/-! ### Debug commands (R431) -/

/-- Loam memory from an address: what DBG_WRITE left there, else free bytes, whose layout the spec does not give. -/
def State.dbgBytes (s : State) (a : Nat) : Nat → List Byte × State
  | 0 => ([], s)
  | n + 1 =>
    match NMap.get (fun _ => none) s.sec.dbg a with
    | some b =>
      let (r, s) := s.dbgBytes (a + 1) n
      (b :: r, s)
    | none =>
      let (x, s) := s.draw
      let (r, s) := s.dbgBytes (a + 1) n
      (BitVec.ofNat 8 x :: r, s)

def State.dbgRead (s : State) (len : Nat) : State :=
  if ¬ s.mbxOpen then s
  else if ¬ s.flag R.SEC_STAT_DEBUG then s.mbxFail 0x05
  else
    let n := leNat (s.mbxIn 8 2)
    if len < 10 ∨ n = 0 ∨ 4096 < n then s.mbxFail 0x04
    else
      let (b, s) := s.dbgBytes (leNat (s.mbxIn 0 8)) n
      s.mbxDone 0 b

/-- DBG_READ (R431). -/
def execDbgRead (len : Fin 16385) (s : State) : Host.Outcome State Fault Refusal := .next (s.dbgRead len)

/-- Bytes that DBG_WRITE leaves in Loam memory. -/
def dbgPut (m : NMap (Option Byte)) (a : Nat) : List Byte → NMap (Option Byte)
  | [] => m
  | b :: r => dbgPut (NMap.set (fun _ => none) m a (some b)) (a + 1) r

def State.dbgWrite (s : State) (len : Nat) : State :=
  if ¬ s.mbxOpen then s
  else if ¬ s.flag R.SEC_STAT_DEBUG then s.mbxFail 0x05
  else if len < 8 then s.mbxFail 0x04
  else ({ s with sec := { s.sec with dbg := dbgPut s.sec.dbg (leNat (s.mbxIn 0 8)) (s.mbxIn 8 (len - 8)) } }).mbxDone 0 []

/-- DBG_WRITE (R431). -/
def execDbgWrite (len : Fin 16385) (s : State) : Host.Outcome State Fault Refusal := .next (s.dbgWrite len)

/-! ### Tamper (R432, R433) -/

/-- The source is watched now: the lid while LID_EN is 1; in DORMANT no glitch sensing; nothing in OFF with no logic feed (R432). -/
def State.watched (s : State) (src : Nat) : Bool :=
  (s.pwr.state ≠ .off || s.pwr.present.contains 0 || s.pwr.present.contains 1) && (src ≠ 0 || s.flag R.VLT_TAMPER_CFG_LID_EN) && (src < 2 || s.pwr.state ≠ .dormant)

/-- Keys, sessions and DRBG state are zeroised; the latch, the source and the vault timer are kept. -/
def State.tamperVault (s : State) (src : Nat) : State :=
  let v := s.sec.vault
  let s := s.setVault { v with
    keys := [], latch := true, tamperSrc := if bit v.tamperSrc src then v.tamperSrc else v.tamperSrc + 2 ^ src
    tamperTime := if v.latch then v.tamperTime else s.vaultTicks }
  let s := (List.range 16).foldl (fun s t => s.endSessions t) s
  ({ s with sec := { s.sec with lanes := [], requests := 0 } }).vaultShown

/-- A port goes DOWN with cause AUTH_FAIL. -/
def State.tamperPort (s : State) (i : Nat) : State :=
  match (s.port i).st with
  | .up => s.linkDown i 4
  | .signal | .train | .auth =>
    s.stepPort i fun p => { p with st := .down, cause := 4, readySent := false, readySeen := false, rtt := 0, waitRetry := true, probeAt := none }
  | _ => s

def State.tamper (s : State) (src : Nat) : State :=
  let ready := s.active ∧ s.pairIs pReady
  let s := if s.rd R.SEC_MBX_STAT_STATE = 1 then s.mbxFail 0x07 else s
  let s := s.tamperVault src
  if s.boot.stage = .off then s
  else
    let s := s.raise 5 .F
    let s := if ready then (({ s with twin := { s.twin with relinquish := false } }).safeRest).releasePins else s
    [0, 1, 2, 3, 4].foldl State.tamperPort s

/-- TAMPER_DETECT (R433). -/
def execTamperDetect (src : Fin 4) (s : State) : Host.Outcome State Fault Refusal :=
  if s.watched src then .next (s.tamper src).settle else .next s

/-! ### Entropy (R434) -/

/-- DRBG_HEALTH_FAIL (R434). -/
def execDrbgHealthFail (s : State) : Host.Outcome State Fault Refusal :=
  if s.drbgOk then .next (((s.wr R.SEC_STAT_DRBG_OK 0).persists 6 .U true).raise 6 .U).settle else .next s

/-- DRBG_RETEST (R434): the start-up test runs again. -/
def execDrbgRetest (pass : Bool) (s : State) : Host.Outcome State Fault Refusal :=
  if ¬ s.drbgOk ∧ pass then .next ((s.wr R.SEC_STAT_DRBG_OK 1).persists 6 .U false) else .next s

/-- DRBG_RESEED (R434): after 2^16 requests or 60 s. -/
def execDrbgReseed (s : State) : Host.Outcome State Fault Refusal :=
  if s.drbgOk then .next { s with sec := { s.sec with requests := 0 } } else .next s

end Sys2Proof.Machine
end

