-- ==== Sys2Proof/Machine/Operands.lean ====
section
/-!
DEFINITION. Storing into the set-up registers: which fields a write reaches (R6, R527, R529), the clamp rule with its dependents (R530,
R532), W1C fields, and the rules over several registers that act at bundle load and at COMMIT (R531).
-/

namespace Sys2Proof.Machine

/-! ### Places -/

/-- The offset of instance `ix` from a register's base. -/
def placeIx : List (Nat × Nat) → List Nat → Nat
  | (stride, _) :: ds, i :: is => stride * i + placeIx ds is
  | _, _ => 0

/-- The offset of word `w` of instance `ix` of a register. -/
def Reg.place (g : Reg) (ix : List Nat) (w : Nat) : Nat := g.shape.base + placeIx g.shape.dims ix + 4 * w

/-- A field that a write reaches: the offset of its word, the register instance, its row, and the value written. -/
structure Cell where
  off : Nat
  hit : Hit
  row : FRow
  v : Nat
deriving DecidableEq, Repr

/-- The fields of the word at an offset, with the values that `v` gives them. -/
def cellsAt (off v : Nat) : List Cell :=
  match findReg off with
  | none => []
  | some h => (h.reg.rows.filter fun f => f.word = h.word).map fun f => ⟨off, h, f, bits v f.lo f.width⟩

/-- The value that a write gives to the field at bit `lo` of a word; 0 where it reaches none. -/
def wrote (cs : List Cell) (lo : Nat) : Nat := match cs.find? fun c => c.row.lo = lo with | some c => c.v | none => 0

/-- The field of a cell. -/
def Cell.fld (c : Cell) : Fld := ⟨c.off, c.row.lo, c.row.width⟩

/-! ### What a write reaches -/

/-- The field's own description ignores the write: entry 0 of HIF_TEN, HIF_ALIAS and RING_RT, and TD_CFG[0].EN, are fixed (R62, R64, Tables
01-8, 07-18); HIF_SUM_ADDR.ADDR and the region while their EN is 1 (Tables 03-5, 03-8); queue registers outside IDLE (R76); the program
entry of a bank in use (R326). -/
def State.ignores (s : State) (c : Cell) : Bool :=
  let t := c.hit.i 0
  match c.hit.reg with
  | .HIF_TEN | .HIF_ALIAS | .RING_RT | .RFX_ASET | .RFX_ASET_R => t = 0
  | .TD_CFG => t = 0 ∧ c.row.lo = 31
  | .HIF_SUM_ADDR => s.flag (R.HIF_SUM_ADDR_EN t) ∧ ¬ (c.row.word = 0 ∧ c.row.lo = 0)
  | .HIF_RGN_BASE => s.flag (R.HIF_RGN_BASE_EN t) ∧ ¬ (c.row.word = 0 ∧ c.row.lo = 0)
  | .HIF_RGN_LEN | .HIF_RGN_PEER => s.flag (R.HIF_RGN_BASE_EN t)
  | .Q_SQ_BASE | .Q_CQ_BASE | .Q_DB_ADDR | .Q_CFG | .Q_COAL => (s.pair (32 * t + c.hit.i 1)).st ≠ .idle
  | .ENG_CH_PROG => s.flag R.ID_STATE_READY
      ∧ (s.flag (R.ENG_STAT_SWAP_PENDING t) ∨ s.rd (R.ENG_STAT_ACTIVE_BANK t) = c.hit.i 2)
  | _ => false

/-- Fields that are not plainly stored, because a write of them asks for something that the hub may refuse or carry out later: Q_CTRL (R77,
R90), the multiplexers and gates (R512, R516), and the latches whose clearing is an event (R461, R244, R481). -/
def special (c : Cell) : Bool :=
  match c.hit.reg with
  | .Q_CTRL | .CLK_ISL | .CLK_GATE | .FLT_STATUS | .PORT_STAT | .PWR_BRK_STAT => true
  | _ => false

/-- A write stores into the field (R6): RW, or RWL before COMMIT (R529), unless its description ignores it. -/
def State.takes (s : State) (c : Cell) : Bool :=
  (c.row.acc = .rw ∨ (c.row.acc = .rwl ∧ ¬ s.flag R.ID_COMMIT_COMMITTED)) ∧ ¬ s.ignores c ∧ ¬ special c

/-! ### Legal sets (R530) -/

/-- A rate that an integer divisor of the clock meets within 0.5 % is met (R297, log entry 5). -/
def rateMet (clock r : Nat) : Bool :=
  [clock / r, clock / r + 1].any fun n => n ≠ 0 ∧ (if r * n ≤ clock then clock - r * n else r * n - clock) * 200 ≤ r * n

/-- The rate stored for a rate within its range (R297): one that is not met lies between the rates that the divisors `clock / r + 1` and `clock / r`
meet within 0.5 %, and the nearer of those two that the range holds is stored, the lower one of two as near (log entry 5). -/
def legalRate (clock lo hi r : Nat) : Nat :=
  if rateMet clock r then r
  else
    let n := clock / r
    let a := 200 * clock / (199 * (n + 1))
    let b := (200 * clock + 201 * n - 1) / (201 * n)
    if a < lo then b else if hi < b ∨ r - a ≤ b - r then a else b

/-- The pair that CAN controller `i` is routed to is a CAN_SIC pair (Table 08-2). -/
def State.onSic (s : State) (i : Nat) : Bool := (s.pairOf cCan i).any fun q => s.pairMode (q / 2) (q % 2) = 2

/-- A time source (R195): reserved codes, PUBLISHED in TD0 and a DOMAIN source that follows its own domain fall back. -/
def State.legalSrc (s : State) (d v fallback : Nat) : Nat :=
  if 7 < v ∨ (v = 5 ∧ d = 0) ∨ (v = 7 ∧ s.rd (R.TD_CFG_FOLLOW d) = d) then fallback else v

/-- The member of a field's legal set for a value, where the set depends on stored fields or on the instance. -/
def State.legalDep (s : State) (h : Hit) (d : Dep) (v : Nat) : Nat :=
  let i := h.i 0
  let own := fun (lo w : Nat) => s.rd ⟨Reg.place h.reg h.ix h.word, lo, w⟩
  let first := fun (lo w : Nat) => s.rd ⟨Reg.place h.reg h.ix 0, lo, w⟩
  match d with
  | .asetValid | .rgnValid => if nodeGood (own 4 18) then v else 0
  | .tenKind => if v ≤ 1 then 2 else v
  | .tenHost => if s.kind i = kRing then v else 0
  | .portMode => if 2 < v ∨ i < 2 ∨ s.junction then 0 else v
  | .portFec => if v = 1 ∧ s.rd (R.RING_PORT_CFG_MODE i) = 1 then 1 else 0
  | .excl => min (2 * s.rd (R.RING_CYC_CFG_BASE i)) (max 125 v)
  | .outdl => min (2 * s.rd (R.RING_CYC_CFG_BASE i) + 250) (max (s.rd (R.RING_CYC_EXCL_EXCL i) + 250) v)
  | .inlen => min (992 - own 10 10) v
  | .smapWidth => if own 29 1 = 1 then 0 else v
  | .srcP => if v = 0 then 1 else s.legalSrc i v 1
  | .srcS => s.legalSrc i v 0
  | .chat => if v = 1 then 2 else v
  | .fpLimit => min 1000 (max (if s.rd (R.PORT_FN_FP_MODE i) = 3 then 200 else 10) v)
  | .sysGain => f32Clamp 0x3F666666 0x3F8CCCCD 0x3F800000 v
  | .sysOfs => s.ofsClamp i v
  | .canFrames => if v = 3 ∨ (v = 2 ∧ s.onSic i) then 1 else v
  | .canDbr =>
    let hi := if s.rd (R.PCTL_CAN_CFG_FRAMES i) = 2 then 20000 else 8000
    legalRate 80000 1000 hi (min hi (max 1000 v))
  | .mobjAddr2 => if first 26 3 = 3 then min 125 (max 1 v) else v
  | .mobjAddr3 => v
  | .wrapBot => min (own 10 10) v
  | .phase => if v < first 0 32 then v else first 0 32 - 1
  | .rngHi => max (s.rd (R.BRG_RNG_LO_LO i)) v
  | .ceThr => min (own 0 16) v
  | .brkLimit => if i < 2 then min 40 (max 5 v) else min 125 (max 10 v)

/-- The part of a written value that the field has in its context: PCTL_MOBJ.ADDR is 8 bits for UART and reserved for CAN (Table 10-13). -/
def State.inContext (s : State) (h : Hit) (f : FRow) (v : Nat) : Nat :=
  let kind := s.rd ⟨Reg.place h.reg h.ix 0, 26, 3⟩
  match f.legal with
  | .dep .mobjAddr2 => if kind = 3 then v % 256 else if kind = 1 then 0 else v
  | .dep .mobjAddr3 => if kind = 3 ∨ kind = 1 then 0 else v
  | _ => v

/-- What is stored for a written value: the nearest member of the legal set, the lower on a tie, or a reserved code's fallback (R530). -/
def State.legal (s : State) (h : Hit) (f : FRow) (v : Nat) : Nat :=
  match f.legal with
  | .all => v
  | .range lo hi =>
    let x := min hi (max lo v)
    match h.reg with
    | .PORT_DO => if f.lo = 0 ∧ h.i 1 = 2 ∧ s.rd (R.PORT_FN_FP_MODE (h.i 0)) = 3 then max 100 x else x
    | .PCTL_CAN_CFG => if f.lo = 0 then legalRate 80000 lo hi x else x
    | .PCTL_UART_CFG => if f.lo = 0 then legalRate 20000000 lo hi x else x
    | _ => x
  | .enum m fallback => if v ≤ m then v else fallback
  | .srange lo hi => toBits f.width (min hi (max lo (sext f.width v)))
  | .dep d => s.legalDep h d v

/-! ### Clamp counters (R532) -/

/-- The clamp counter of row `k` of Table 21-5; `i` names the engine or port. -/
def clampFld (k i : Nat) : Fld :=
  match k with
  | 0 => R.ID_CLAMP_CNT_COUNT
  | 1 => R.CLK_CLAMP_CNT_COUNT
  | 2 => R.PWR_CLAMP_CNT_COUNT
  | 3 => R.TD_CLAMP_CNT_COUNT
  | 4 => R.RING_CLAMP_CNT_COUNT
  | 5 => R.TWIN_CLAMP_CNT_COUNT
  | 6 => R.HIF_CLAMP_CNT_COUNT
  | 7 => R.SW_CLAMP_CNT_COUNT
  | 8 => R.BRG_CLAMP_CNT_COUNT
  | 9 => R.RFX_CLAMP_CNT_COUNT
  | 10 => R.RFX_PT_CLAMP_CNT_COUNT
  | 11 => R.ENG_CLAMP_CNT_COUNT i
  | 12 => R.PORT_CLAMP_CNT_COUNT i
  | 13 => R.MEAS_CLAMP_CNT_COUNT
  | 14 => R.PCTL_CLAMP_CNT_COUNT
  | _ => R.SEC_CLAMP_CNT_COUNT

/-! ### The store (R530) -/

/-- Store one field; a value that is not stored as written counts once. -/
def State.storeCell (s : State) (c : Cell) : State :=
  let v := s.inContext c.hit c.row c.v
  let x := s.legal c.hit c.row v
  let s := s.wr c.fld x
  if x = v then s else s.inc (clampFld c.hit.reg.shape.clampRow (c.hit.i 0))

/-- The legal set of a row depends on other fields. -/
def depends (f : FRow) : Bool := match f.legal with | .dep _ => true | _ => false

/-- The words that hold fields whose legal sets depend on fields of a register instance. -/
def dependents (h : Hit) : List Nat :=
  let i := h.i 0
  let can := (List.range 32).flatMap fun k => [Reg.place .PCTL_CAN_CFG [k] 0, Reg.place .PCTL_CAN_DT [k] 0]
  ((h.reg.rows.filter depends).map fun f => Reg.place h.reg h.ix f.word).dedup ++
  match h.reg with
  | .RING_CYC_CFG => [Reg.place .RING_CYC_EXCL [i] 0, Reg.place .RING_CYC_OUT [i] 0]
  | .RING_CYC_EXCL => [Reg.place .RING_CYC_OUT [i] 0]
  | .RING_NODE_ID1 => [Reg.place .RING_PORT_CFG [2] 0, Reg.place .RING_PORT_CFG [3] 0]
  | .BRG_RNG_LO => [Reg.place .BRG_RNG_HI [i] 0]
  | .MEAS_CFG => [Reg.place .MEAS_SYS_OFS [i] 0]
  | .PCTL_CAN_CFG => [Reg.place .PCTL_CAN_DT [i] 0]
  | .PORT_PAIR => can
  | .PORT_FN => [Reg.place .PORT_FP_CFG [i] 0, Reg.place .PORT_DO [i, 2] 0] ++ can
  | _ => []

/-- Store the fields of a write that it reaches: first those whose legal sets stand alone, then the others, then every other field whose
legal set depends on a register written, with its stored value. -/
def State.storeCells (s : State) (cs : List Cell) : State :=
  let cs := cs.filter s.takes
  let s := ((cs.filter fun c => ¬ depends c.row) ++ cs.filter fun c => depends c.row).foldl State.storeCell s
  let deps := (cs.map Cell.hit).dedup.flatMap dependents
  deps.foldl (fun s off =>
    ((cellsAt off (s.word off)).filter fun c => s.takes c ∧ ¬ cs.any fun x => x.fld = c.fld).foldl State.storeCell s) s

/-- The cells of a write of 4 or 8 bytes. -/
def writeCells (off n v : Nat) : List Cell :=
  if n = 8 then cellsAt off (v % 2 ^ 32) ++ cellsAt (off + 4) (v / 2 ^ 32) else cellsAt off (v % 2 ^ 32)

/-- Write a multiplexer or a gate (R512, R516). Whether a crossing of an island holds a word is a free value (log entry 1). -/
def State.clockWrite (s : State) (c : Cell) : State :=
  let i := c.hit.i 0
  match c.hit.reg with
  | .CLK_ISL =>
    let (f, s) := s.draw
    if c.row.lo = 31 then (if h : i < 41 then s.gateWrite (.island ⟨i, h⟩) (c.v ≠ 0) (bit f 0) else s)
    else if c.row.lo = 30 then s.islandSwitch i (c.v ≠ 0) else s
  | .CLK_GATE => s.gateWrite (if c.row.lo = 0 then .refclk else .pllB) (c.v ≠ 0) false
  | _ => s

/-- The W1C bits of a field that a write of 1 clears. -/
def State.clearCell (s : State) (c : Cell) : State :=
  s.wr c.fld ((List.range c.row.width).foldl (fun x b => if bit c.v b then setBits x b 1 0 else x) (s.rd c.fld))

/-- The plain part of a set-up write: the store, the W1C fields, of which each bit written 1 clears, and the clocks. -/
def State.store (s : State) (off n v : Nat) : State :=
  let cs := writeCells off n v
  let s := s.storeCells cs
  let s := (cs.filter fun c => c.row.acc = .w1c ∧ ¬ special c).foldl State.clearCell s
  (cs.filter fun c => c.row.acc = .rw ∧ special c).foldl State.clockWrite s

/-! ### Rules over several registers (R531) -/

/-- Replace a field by the value that a rule loads; a replacement counts once, in the counter of row `k`. -/
def State.load (s : State) (k i : Nat) (f : Fld) (v : Nat) : State :=
  if s.rd f = v then s else (s.wr f v).inc (clampFld k i)

/-- Load a flag as 0 unless a condition holds. -/
def State.keepIf (s : State) (k i : Nat) (f : Fld) (ok : Bool) : State := if ok then s else s.load k i f 0

/-- Tenants (R62, R65, Tables 03-1, 03-2, 16-14). -/
def State.rulesHif (s : State) : State :=
  let s := ((List.range 16).drop 1).foldl (fun s t =>
    (s.keepIf 6 0 (R.HIF_TEN_EN t) (s.kind t ≠ kRing ∨ nodeGood (s.rd (R.HIF_TEN_HOST_NODE t)))).keepIf 6 0 (R.HIF_ALIAS_VALID t) (s.aliasOk t)) s
  let s := (List.range 4).foldl (fun s k => s.keepIf 15 0 (R.SEC_MGMT_VALID k) (nodeGood (s.rd (R.SEC_MGMT_NODE k)))) s
  (List.range 16).foldl (fun s t => s.keepIf 15 0 (R.SEC_TEN_TKEY_REQ t) (s.kind t ≠ kRing)) s

/-- The slot table and the slice and relay maps (Tables 06-10 to 06-13). -/
def State.rulesRing (s : State) : State :=
  let s := [0, 1].foldl (fun s n => (List.range 254).foldl (fun s i => s.load 4 0 (R.RING_SLOT_STATION n i) (s.slotStation n i)) s) s
  let s := (List.range 2048).foldl (fun s e => s.keepIf 4 0 (R.RING_SMAP_VALID e) (s.smapOk e)) s
  let s := (List.range 512).foldl (fun s x => s.keepIf 4 0 (R.RING_XMAP_VALID x) (s.xmapOk x)) s
  (List.range 256).foldl (fun s x => s.keepIf 4 0 (R.RING_XIN_VALID x) (s.xinOk x)) s

/-- The pins, FP and pair 1 of a port (R228, R230, R231). -/
def State.rulesPort (s : State) (p : Nat) : State :=
  let fns := (List.range 4).map (s.fnLoad p)
  let fp := s.fpLoad p
  let m := s.pairMode p 1
  let s := (List.range 4).foldl (fun s x => s.load 12 p ⟨0xC0000 + 0x400 * p, 4 * x, 4⟩ (fns.getD x 0)) s
  let s := s.load 12 p (R.PORT_FN_FP_MODE p) fp
  if s.bothPair p 1 then s.load 12 p (pairFld p 1 0 3) m else s

/-- RTD connections and aligned channels (R263, R266). -/
def State.rulesMeas (s : State) (c : Nat) : State :=
  let s := if s.rd (R.MEAS_CFG_RANGE c) = 4 ∧ ¬ s.rtdOk c then s.load 13 0 (R.MEAS_CFG_RANGE c) 1 else s
  let g := s.baseNs 0
  let p := s.measPeriod c
  s.keepIf 13 0 (R.MEAS_CFG_ALIGN c) (g % p = 0 ∨ p % g = 0)

/-- The points of a Briar frame (R325): one beyond the 32nd or of another RATE loads with no binding. -/
def State.rulesFrame (s : State) (e c : Nat) (out : Bool) : State :=
  let kept := s.briarPoints e c out
  (s.pts.recs.keys.filter fun n =>
    let q := s.point n
    q.bindKind = 6 ∧ q.bindByte 1 = e ∧ q.bindByte 2 = c ∧ q.isOutput = out ∧ q.configured ∧ n ∉ kept).foldl
    (fun s n => (s.setPoint n { s.point n with binding := leBytes 10 0 }).inc R.RFX_PT_CLAMP_CNT_COUNT) s

/-- Every record held to the rules of a load (R41, R43, R374). -/
def State.normalPoints (s : State) : State :=
  s.pts.recs.keys.foldl (fun s n =>
    let (q, k) := s.normalPoint (s.point n)
    (s.setPoint n q).inc R.RFX_PT_CLAMP_CNT_COUNT k) s

/-- Point records and Briar frames. -/
def State.rulesPoints (s : State) : State :=
  let s := s.normalPoints
  [false, true].foldl (fun s out => (s.briarChans out).foldl (fun s k => s.rulesFrame (k / 16) (k % 16) out) s) s

/-- Controllers, engines, bridge and reflex entries (R307, R348, R350, Tables 10-13, 12-7, 14-17). -/
def State.rulesEntries (s : State) : State :=
  let s := (List.range 2048).foldl (fun s m =>
    s.keepIf 14 0 (R.PCTL_MOBJ_VALID m) (1 ≤ s.rd (R.PCTL_MOBJ_KIND m) ∧ s.rd (R.PCTL_MOBJ_KIND m) ≤ 3)) s
  let s := (List.range 256).foldl (fun s k =>
    let e := k / 16
    let c := k % 16
    s.keepIf 11 e (R.ENG_CH_CFG_PORT_EN e c) (¬ s.flag (R.ENG_CH_CFG_PORT_EN e c) ∨ s.chanPort e c ≠ none)) s
  let s := (List.range 256).foldl (fun s r =>
    let space := s.rd (R.BRG_RNG_CFG_SPACE r)
    s.keepIf 8 0 (R.BRG_RNG_CFG_VALID r) (space ≤ 0x3F ∨ space = 0x200)) s
  let s := (List.range 64).foldl (fun s t => s.keepIf 8 0 (R.BRG_TUN_CFG_VALID t) (s.tunOk t)) s
  (List.range 256).foldl (fun s j => s.keepIf 9 0 (R.RFX_ROP_VALID j) (s.ropOk j)) s

/-- The rules of R531, over the whole configuration. -/
def State.loadRules (s : State) : State :=
  let s := s.rulesHif.rulesRing
  let s := (List.range 64).foldl State.rulesPort s
  let s := (List.range 256).foldl State.rulesMeas s
  s.rulesEntries.rulesPoints

end Sys2Proof.Machine
end

