-- ==== Sys2Proof/Machine/Boot.lean ====
section
/-!
DEFINITION. COMMIT (R528), staging firmware and bundles (R449), recovery mode (R455 to R457), and the boot (Table 17-4).
-/

namespace Sys2Proof.Machine

/-! ### COMMIT -/

/-- The bytes of a word's RWL fields, none where it has none; other bits zero. -/
def State.rwlWord (s : State) (off : Nat) : List Byte :=
  match findReg off with
  | none => []
  | some h =>
    let fs := h.reg.rows.filter fun f => f.word = h.word ∧ f.acc = .rwl
    if fs = [] then []
    else leBytes 4 (fs.foldl (fun w f => w + bits (s.word off) f.lo f.width * 2 ^ f.lo) 0)

/-- The RWL fields of the whole set-up space in the order of their offsets (Table 16-2, block 7). -/
def State.rwlBytes (s : State) : List Byte := (List.range 0x44000).flatMap fun w => s.rwlWord (4 * w)

/-- Measurement block 7: the digest over the set-up registers as they are committed (R528, Table 16-2). -/
def State.measure7 (s : State) : State := { s with sec := { s.sec with block7 := (Config.sha384 s.rwlBytes).toNat } }

/-- A COMMIT (R528): the rules of R531, GUAR, the lock, measurement block 7 and an audit record. One written while COMMITTED is 1 has no
effect (R527). -/
def State.commit (s : State) : State :=
  if s.flag R.ID_COMMIT_COMMITTED then s
  else
    let s := s.loadRules.recomputeGuar
    let s := ((s.wr R.ID_COMMIT_COMMITTED 1).wr R.ID_COMMIT_UNLOCKED 0).inc R.ID_COMMIT_COUNT
    let s := s.measure7
    s.logAudit 0x22 0 0 (s.sec.block7 % 2 ^ 64) s.node0 0

/-- COMMIT (R528): PF0 writes ID_COMMIT. -/
def execCommit (s : State) : Host.Outcome State Fault Refusal := if s.ready then .next s.commit.settle else .next s

/-! ### Staging (R449, R455) -/

def State.staging (s : State) (kind : Nat) : Option Staging := if kind = 1 then s.boot.fwStg else s.boot.bndStg

/-- Set a staging, and ID_UPD_STAT shows it (0 none, 1 open, 2 staged). -/
def State.setStaging (s : State) (kind : Nat) (x : Option Staging) (shown : Nat) : State :=
  let s := { s with boot := if kind = 1 then { s.boot with fwStg := x } else { s.boot with bndStg := x } }
  s.wr (if kind = 1 then R.ID_UPD_STAT_FW_STG else R.ID_UPD_STAT_BND_STG) shown

/-- The first chunk: the target slot becomes EMPTY and the header is checked, for firmware its signer too. The reason, 0 for none. -/
def State.stageFirst (s : State) (kind slot total : Nat) (data : List Byte) : Nat × State :=
  let s := s.setObj kind slot {}
  let r := firstReason [checkHeader kind total data, if kind = 1 then checkSigner 1 (s.counter 1) data else 0]
  if r ≠ 0 then (r, s.setStaging kind none 0) else (0, s.setStaging kind (some ⟨data, total⟩) 1)

/-- The last chunk: firmware is checked against reasons 0x08 and 0x09; the slot becomes STAGED, or stays EMPTY. -/
def State.stageLast (s : State) (kind slot : Nat) (bytes : List Byte) : Nat × State :=
  let r := if kind = 1 then checkBody bytes else 0
  if r ≠ 0 then (r, s.setStaging kind none 0)
  else (0, (s.setObj kind slot ⟨1, bytes⟩).setStaging kind none 2)

/-- A Kaolin write error abandons the staging and raises U on bit 45. -/
def State.stageError (s : State) (kind slot : Nat) : State := ((s.setObj kind slot {}).setStaging kind none 0).raise 45 .U

/-! ### Recovery mode (R455 to R457) -/

/-- The conditions of R450 that hold: motion, VBAT, feed, owner lock. -/
def State.refusals (s : State) (e : StopEnv) : Nat :=
  let motion := s.pts.recs.keys.any fun n => (s.point n).configured ∧ (s.point n).motion ∧ (s.point n).value ≠ 0
  bnat motion + 2 * bnat (s.flag R.ID_UPD_CFG_VBAT_CHK && e.vbatLow) + 4 * bnat e.feedLow + 8 * bnat s.sec.vault.lock

/-- ID_BOOT_STAT shows the states of the slots, and ID_BOOTS the boots that Kaolin has counted (R9). -/
def State.showSlots (s : State) : State :=
  [1, 2].foldl (fun s k => (s.setObj k 0 (s.boot.obj k 0)).setObj k 1 (s.boot.obj k 1)) (s.wr R.ID_BOOTS_BOOTS s.boot.boots)

/-- The ROM enters recovery mode: no bundle, no ring, READY low, and the alias layer under a zero firmware digest. -/
def State.enterRecovery (s : State) : State :=
  let s := { s.showSlots with boot := { s.boot with stage := .recovery } }
  ((s.wr R.ID_BOOT_STAT_MODE 3).wr R.ID_STATE_RECOVERY 1).setWords 0x80 12 s.sec.vault.owner

/-- A reset commanded by slot 0 stores the logs first (R468). -/
def State.resetHub (s : State) : State := s.flushLogs.restart

/-- ID_BOOT_CMD is accepted in RUN and in recovery mode. -/
def State.takesCmd (s : State) : Bool := s.ready || s.boot.stage = .recovery

/-- ID_BOOT_CMD, with OP RECOVER or RESET. A refused command does nothing but set REFUSE (R450, R451, R455). -/
def State.bootCmd (s : State) (recover : Bool) (e : StopEnv) : State :=
  if ¬ s.takesCmd then s
  else if s.refusals e ≠ 0 then s.wr R.ID_UPD_STAT_REFUSE (s.refusals e)
  else if recover then s.resetHub.enterRecovery else s.resetHub

/-- BOOT_RESET (R450, R451). -/
def execBootReset (e : StopEnv) (s : State) : Host.Outcome State Fault Refusal := .next (s.bootCmd false e)

/-- BOOT_RECOVER (R450, R455). -/
def execBootRecover (e : StopEnv) (s : State) : Host.Outcome State Fault Refusal := .next (s.bootCmd true e)

/-- The slot that recovery stages into: a BAD or EMPTY one, the lower-numbered first, or the one other than LAST_GOOD (R455). -/
def State.rcvSlot (s : State) : Nat :=
  let bad := fun (x : Obj) => x.st = 0 ∨ x.st = 3
  if bad s.boot.fw0 then 0 else if bad s.boot.fw1 then 1 else 1 - s.boot.lastGood

/-- A download ends with a reason: STATE FAILED; without one, DONE. -/
def State.rcvEnd (s : State) (reason : Nat) : State :=
  (s.wr R.ID_RCV_STAT_STATE (if reason = 0 then 2 else 3)).wr R.ID_RCV_STAT_REASON reason

/-- One chunk of a download over PF0 (R456). A chunk that leaves a gap, or an image that ends short of or beyond TOTAL, is LENGTH. -/
def State.rcvChunk (s : State) (len : Nat) (last err : Bool) : State :=
  let data := memRead s.boot.rcvBuf 0 len
  let ofs := s.rd R.ID_RCV_OFS_OFS
  let total := s.rd R.ID_RCV_TOTAL_TOTAL
  let slot := s.rcvSlot
  if err then (s.stageError 1 slot).rcvEnd 0x0B
  else
    let (r, s) := if ofs = 0 then (if len < 512 then (0x01, s) else s.stageFirst 1 slot total data)
      else match s.staging 1 with
        | some g => if g.bytes.length = ofs ∧ g.total = total ∧ ofs + len ≤ total then (0, s.setStaging 1 (some ⟨g.bytes ++ data, total⟩) 1)
            else (0x04, s.setStaging 1 none 0)
        | none => (0x04, s)
    if r ≠ 0 ∨ ¬ last then s.rcvEnd r
    else match s.staging 1 with
      | some g =>
        if g.bytes.length ≠ total then (s.setStaging 1 none 0).rcvEnd 0x04
        else
          let (r, s) := s.stageLast 1 slot g.bytes
          if r = 0 then s.restart else s.rcvEnd r
      | none => s

/-- RCV_CHUNK_GO (R456). Once the slot is STAGED the hub leaves recovery mode by resetting (R455). -/
def execRcvChunkGo (len : Fin 32768) (last err : Bool) (s : State) : Host.Outcome State Fault Refusal :=
  if s.boot.stage = .recovery then .next (s.rcvChunk (len + 1) last err) else .next s

/-- RCV_SERVE_START (R457): the port goes DOWN with cause DISABLED and runs a fresh bring-up. A slot that is not GOOD cannot be served. -/
def State.rcvServe (s : State) (i fw : Nat) : State :=
  let s := (s.wr R.ID_RCV_SERVE_PORT i).wr R.ID_RCV_SERVE_SLOT fw
  if s.boot.serve ≠ none then s
  else if (s.boot.obj 1 fw).st ≠ 2 then s.wr R.ID_RCV_SERVE_STATE 3
  else
    let s := (s.wr R.ID_RCV_SERVE_STATE 1).disablePort i
    ({ s with boot := { s.boot with serve := some (i, fw) } }).startPort i

def execRcvServeStart (i : Fin 5) (fw : Fin 2) (s : State) : Host.Outcome State Fault Refusal :=
  if s.ready then .next (s.rcvServe i fw).settle else .next s

/-- The recovering hub takes a transferred image from the peer that the vault names for its lane (R457). -/
def State.rcvImage (s : State) (i : Nat) (ok : Bool) (peer : Nat) (image : List Byte) : State :=
  let want := if i = 4 then s.sec.vault.rcv1 else s.sec.vault.rcv0
  if ¬ ok ∨ want = 0 ∨ peer ≠ want then s
  else
    let slot := s.rcvSlot
    let (r, s) := s.stageFirst 1 slot image.length image
    if r ≠ 0 then s.rcvEnd r
    else
      let (r, s) := s.stageLast 1 slot image
      if r = 0 then s.restart else s.rcvEnd r

/-- RCV_TRANSFER_DONE (R457): at the serving hub STATE is DONE or FAILED and the port starts a normal bring-up; at the recovering hub the image
is checked and staged. -/
def execRcvTransferDone (i : Fin 5) (ok : Bool) (peer : Nat) (image : List Byte) (s : State) : Host.Outcome State Fault Refusal :=
  if s.boot.stage = .recovery then .next (s.rcvImage i ok peer image)
  else if ¬ s.serves i then .next s
  else
    let s := ({ s with boot := { s.boot with serve := none } }).wr R.ID_RCV_SERVE_STATE (if ok then 2 else 3)
    .next ((s.disablePort i).startPort i).settle

/-! ### Firmware and bundle (R445, R447, R448) -/

/-- The boot stops because of an F fault (R446): every port is DOWN until the next reset. -/
def State.bootStops (s : State) : State :=
  let s := { s with boot := { s.boot with stage := .stopped } }
  [0, 1, 2, 3, 4].foldl (fun s i => s.stepPort i fun p => { p with st := .down, waitRetry := false, probeAt := none }) s

/-- A slot fails its check: BAD, CAUSE, and U on bit 7. -/
def State.slotFails (s : State) (kind slot reason : Nat) : State :=
  ((s.setObj kind slot { s.boot.obj kind slot with st := 3 }).wr R.ID_BOOT_STAT_CAUSE reason).raise 7 .U

/-- Try slots of a kind in order: the first that passes. -/
def State.trySlots (s : State) (kind : Nat) (bad : List Nat) : List Nat → Option Nat × State
  | [] => (none, s)
  | n :: ns =>
    let r := s.checkObject kind (bad.contains n) (s.boot.obj kind n).bytes
    if r = 0 then (some n, s) else (s.slotFails kind n r).trySlots kind bad ns

/-- The order of the firmware slots: a STAGED one, then the GOOD ones with LAST_GOOD first (R445); of the bundle slots: a STAGED one unless the
owner lock is set, then the last active GOOD one and the other (R447). -/
def State.slotOrder (s : State) (kind : Nat) : List Nat :=
  let st := fun n => (s.boot.obj kind n).st
  let first := if kind = 1 then s.boot.lastGood else s.boot.lastBnd
  (if kind = 2 ∧ s.sec.vault.lock then [] else [0, 1].filter fun n => st n = 1) ++ [first, 1 - first].filter fun n => st n = 2

/-- Firmware `n` runs (R445, Table 21-2): MODE is TRIAL for a STAGED slot, FALLBACK after a failed one or after a TRIAL boot that failed, else
NORMAL. -/
def State.runFirmware (s : State) (n : Nat) (order : List Nat) : State :=
  let b := (s.boot.obj 1 n).bytes
  let s := s.wr R.ID_BOOT_STAT_MODE (if (s.boot.obj 1 n).st = 1 then 2 else if order.head? = some n ∧ ¬ s.boot.fellBack then 0 else 1)
  let s := { s.wr R.ID_BOOT_STAT_FW_SLOT n with boot := { s.boot with boots := (s.boot.boots + 1) % 2 ^ 32, stage := .run, fellBack := false } }
  let s := (s.wr R.ID_FW_SVN_SVN (objSvn b)).wr R.SEC_STAT_FW_SVN (objSvn b)
  (s.wr R.ID_BOOTS_BOOTS s.boot.boots).setWords 0x20 12 (bodyDigest b)

/-- A bundle becomes active (R448): a STAGED one installs its owner and its NEXT_OWNER. -/
def State.useBundle (s : State) (n : Nat) : State :=
  let o := s.boot.obj 2 n
  let s := { s.wr R.ID_BOOT_STAT_BND_SLOT n with boot := { s.boot with lastBnd := n, newBnd := decide (o.st = 1) } }
  let s := ((s.wr R.ID_BND_SVN_SVN (objSvn o.bytes)).setWords 0x50 12 (bodyDigest o.bytes)).setObj 2 n { o with st := 2 }
  let s := if o.st = 1 then s.setVault { s.sec.vault with owner := ownerDigest o.bytes, transfer := objNextOwner o.bytes } else s
  s.showVault.setWords 0x80 12 s.sec.vault.owner

/-! ### Loading (R526) -/

/-- Where table space places an offset (Table 01-4): a table region and its offset, if it is one of the four. -/
def tblPlace (off : Nat) : Option (Nat × Nat) :=
  if off / 2 ^ 24 < 4 ∧ off % 2 ^ 24 < tblExtent (off / 2 ^ 24) then some (off / 2 ^ 24, off % 2 ^ 24) else none

/-- The tables of the bundle, in both copies. -/
def State.loadTableBytes (s : State) (ts : List (Nat × List Byte)) : State :=
  let m := ts.foldl (fun m (off, b) => match tblPlace off with | some (r, o) => memWrite m (tblKey r o) b | none => m) []
  { s with rfx := { s.rfx with act := m, stg := m } }

/-- One set-up write of the bundle, as a PF0 write (R526): a write into the window of a VF is ignored (R67), Q_CTRL acts on its pair, an enabled
summary line is polled from 8 µs on, and ENG_CH_FLAG takes what it is given. Another command register does nothing (DESIGN CHOICE, log 55). -/
def State.bundleWrite (s : State) (off v : Nat) : State :=
  if s.vfWindow off then s
  else
    let s := s.store off 4 v
    let cs := cellsAt off (v % 2 ^ 32)
    match cs.head?.map (·.hit) with
    | none => s
    | some h =>
      match h.reg with
      | .Q_CTRL => s.qCtrl (32 * h.i 0 + h.i 1) (wrote cs 1 ≠ 0) (wrote cs 0 ≠ 0)
      | .HIF_SUM_ADDR => s.setSlot (h.i 0) { interval := 8000, polledAt := s.ns }
      | .ENG_CH_FLAG => s.setChan (h.i 0) (h.i 1) { s.chan (h.i 0) (h.i 1) with flags := wrote cs 0 }
      | _ => s

/-- Step 7: the set-up writes in order, the tables, the program banks and the point records; then the rules of R531, the check of rows (R373)
and the fallbacks of table entries (R374). -/
def State.loadBundle (s : State) (b : List Byte) : State :=
  let s := (Config.bundleWrites b).foldl (fun s (off, v) => s.bundleWrite off v) s
  let s := s.loadTableBytes (Config.bundleTables b)
  let prog := (Config.bundleProgram b).foldl (fun m (k, w) => NMap.set (fun _ => 0) m k (BitVec.ofNat 32 w)) []
  let s := { s with eng := { s.eng with prog := prog } }
  (Config.bundlePoints b).foldl (fun s (n, x) => s.loadPoint (n % 65536) (Point.ofBytes x)) s

def State.settleLoad (s : State) : State :=
  let s := s.loadRules.recomputeGuar
  let s := s.inc R.RFX_CLAMP_CNT_COUNT ((List.range 4).foldl (fun n r => n + s.fallbacks r) 0)
  let s := s.loadTables none
  let s := ((List.range 8).filter fun d => s.domainOn d).foldl State.domainStart s
  (s.domainStart 8).admitAll

/-- Steps 6 and 7. -/
def State.bootBundle (s : State) (o : BootObs) : State :=
  let (n, s) := s.trySlots 2 o.badBnd (s.slotOrder 2)
  match n with
  | some n => let s := s.useBundle n; (s.loadBundle s.bundle).settleLoad
  | none => ((s.wr R.ID_BOOT_STAT_BND_ZERO 1).setWords 0x80 12 s.sec.vault.owner).settleLoad

/-! ### Calibration (R443 step 8, R508, R274) -/

/-- `a` and `b`, each a frequency times the nominal one of the other, differ by more than `p` thousandths of `b`. -/
def apart (p a b : Nat) : Bool := p * b < 1000 * (a - b + (b - a))

/-- RES differs from IOSC by more than 6 % (R443). -/
def resIosc (o : BootObs) : Bool := apart 60 (o.res * 8) o.iosc
/-- RES differs from VRES by more than 0.5 % (R443). -/
def resVres (o : BootObs) : Bool := apart 5 (o.res * 32768) (o.vres * 50000)
/-- VRES lies more than 6 % from IOSC (R443). -/
def vresIosc (o : BootObs) : Bool := apart 60 (o.vres * 400000) (o.iosc * 32768)

/-- The resonator passes its check: RES lies within 6 % of IOSC, and within 0.5 % of VRES unless VRES itself lies outside 6 % of IOSC (R443, R508). -/
def resOk (o : BootObs) : Bool := !resIosc o && (!resVres o || vresIosc o)
/-- VRES has not failed: it agrees with RES or with IOSC (R443). -/
def vresOk (o : BootObs) : Bool := !resVres o || !vresIosc o
/-- REFCLK has edges and lies within 0.1 % of its FREQ, measured against RES (R508). -/
def refOk (o : BootObs) (freq : Nat) : Bool := decide (o.refclk ≠ 0) && !apart 1 (o.refclk * 50000000) (refHz freq * o.res)

/-- The fixed islands show their clocks (Table 20-2): AON RES, the lanes and PCIe a lane clock, and the collector IOSC. -/
def State.fixedIslands (s : State) : State :=
  [2, 3, 4, 5, 6, 7].foldl (fun s i => s.wr (R.CLK_ISL_CUR i) 7) ((s.wr (R.CLK_ISL_CUR 0) 1).wr (R.CLK_ISL_CUR 40) 0)

/-- The sources and the PLLs: REFCLK is used when the vault's copy of REF_SEL says so. -/
def State.bootClocks (s : State) (o : BootObs) : State :=
  let sel := s.sec.vault.clk.any fun x => x.1 = 1
  let act := sel && s.sec.vault.clk.any fun x => refOk o x.2.1
  let s := s.fixedIslands.wr R.CLK_STATUS_RUN (1 + 2 * bnat (resOk o) + 4 * bnat (vresOk o) + 8 * bnat act)
  let s := s.wr R.CLK_STATUS_REF_ACT (bnat act)
  let s := if vresOk o then s else s.raise 0 .U 2
  let s := if sel && !act then s.raise 0 .U 3 else s
  let s := if o.pllA then s else s.raise 0 .U 5
  let s := if o.pllB then s else s.raise 0 .U 6
  (s.lockPlls o.pllA o.pllB true).wr R.PWR_STAT_ON_OSC (bnat (!(o.pllA && o.pllB)))

/-- The self-calibration of channel `c` before READY (R274): its internal gain and offset are free values, the gain within 2 % of nominal unless the
channel is `bad` (log entry 1). -/
def State.selfCal (s : State) (c : Nat) (bad : Bool) : State :=
  let (v, s) := s.draw
  let (w, s) := s.draw
  s.setMeasCh c { s.measCh c with gain := if bad then v else f64rat (980000 + v % 40001) 1000000, ofs := w }

/-- Analog calibration (R274): a channel whose gain is off by more than 2 %, or every channel when the references disagree. -/
def State.bootAnalog (s : State) (o : BootObs) : State :=
  let ai := fun c => s.fnLoad (c / 4) (c % 4) = fnAi ∨ s.fnLoad (c / 4) (c % 4) = fnAo
  let s := ((List.range 256).filter fun c => ai c).foldl (fun s c => s.selfCal c (c ∈ o.gains)) s
  let s := ((o.gains.filter fun c => c < 256 ∧ ai c)).foldl (fun s c => s.setCalFault c true) s
  if o.refs then ((List.range 256).foldl (fun s c => s.wr (R.MEAS_STAT_CAL_FAULT c) 1) s).raise 41 .U else s

/-- SerDes and PCIe lanes: a port whose lane fails stays DOWN, the others start bring-up (R443, R444). -/
def State.bootLanes (s : State) (o : BootObs) : State :=
  let s := (List.range 5).foldl (fun s i => if o.lanes.contains i then s.raise (portBit i) .U else s.startPort i) s
  if o.pcieLane then s.raise 13 .C else s

/-! ### READY (R443 step 9) -/

/-- The slots and the counters as READY rises (R445, R452). -/
def State.readySlots (s : State) : State :=
  let n := s.fwSlot
  let trial := (s.boot.obj 1 n).st = 1
  let v := s.sec.vault
  let fw := if trial then max (s.counter 1) (objFloor s.image) else v.fwCtr
  let bnd := if s.boot.newBnd then max (s.counter 2) (objFloor s.bundle) else v.bndCtr
  let s := s.setObj 1 n { s.boot.obj 1 n with st := 2 }
  let s := { s with boot := { s.boot with lastGood := n, fwMirror := max s.boot.fwMirror fw, bndMirror := max s.boot.bndMirror bnd } }
  (s.setVault { v with fwCtr := fw, bndCtr := bnd }).showVault

/-- The vault copies that READY writes (R457, R476, R508), and VLT_RCV_PEER[1]. -/
def State.readyVault (s : State) : State :=
  let peer := if s.flag R.TWIN_CFG_EN then s.peerSerial else 0
  let s := s.setVault { s.sec.vault with
    rcv0 := s.words 0x100020 4, rcv1 := peer, db := some (s.rd R.PWR_SEAT_CFG_DB),
    clk := some (s.rd R.CLK_CFG_REF_SEL, s.rd R.CLK_CFG_FREQ, s.rd R.CLK_CFG_OSC_START_DLY) }
  s.setWords 0x100030 4 peer

/-- READY rises: the domains that start FREE read zero (R193), the pins take their functions (R229), a member of a pair starts to form it (R397), and
COMMIT is written when the bundle asks for it. -/
def State.readyRise (s : State) (us : Nat) : State :=
  let s := s.readySlots.readyVault
  let s := ((List.range 8).filter fun d => s.domainOn d ∧ (s.domain d).st = dFree).foldl (fun s d =>
    s.setDomain d { s.domain d with base := 0, at_ := s.now }) s
  let s := { s with boot := { s.boot with readyAt := s.now } }
  let s := ((s.wr R.ID_BOOT_STAT_READY 1).wr R.ID_STATE_READY 1).wr R.ID_BOOT_TIME_TIME us
  let s := if s.flag R.TWIN_CFG_EN then s.setRole 0 pForming else s.joinRings
  let s := s.enablePins.refreshAll
  if objCommit s.bundle then s.commit else s

/-! ### The boot (Table 17-4) -/

/-- Step 5: the collector starts and writes the BOOT record (R469); expected inputs that are absent are faults (R487). -/
def State.bootCollector (s : State) : State :=
  let s := ({ s with flt := { s.flt with started := true } }).logFault 0x12 0xFF 0 0 0
  ((List.range 4).filter fun n => bit (s.rd R.PWR_CFG_EXPECT) n ∧ n ∉ s.pwr.present).foldl (fun s n => s.raisePath n .U) s.showPower

/-- An F fault before READY (R445, R446): a TRIAL boot makes the slot BAD and resets the hub; otherwise source 0 or 6 stops the boot. -/
def State.bootFatal (s : State) (b : Nat) : State :=
  let s := s.raise b .F
  if s.rd R.ID_BOOT_STAT_MODE = 2 then
    let s := s.setObj 1 s.fwSlot { s.boot.obj 1 s.fwSlot with st := 3 }
    ({ s with boot := { s.boot with fellBack := true } }).resetHub
  else if b = 0 ∨ b = 6 then s.bootStops else s

/-- The sources whose F faults come before READY: the resonator, and what else the world reports; the tamper latch keeps bit 5 set (R433). -/
def bootFaults (o : BootObs) : List Nat :=
  (if resOk o then [] else [0]) ++ (match o.fatal with | some b => if mayRaise b .F then [b.val] else [] | none => [])

/-- Steps 5 to 9. -/
def State.bootRest (s : State) (o : BootObs) : State :=
  let s := (s.bootCollector.bootBundle o).bootClocks o
  let s := (s.bootAnalog o).bootLanes o
  let fs := bootFaults o
  let s := fs.foldl (fun s b => if s.boot.stage = .run then s.bootFatal b else s) s
  let s := if s.boot.stage = .run ∧ s.sec.vault.latch then (s.raise 5 .F).persists 5 .F true else s
  if s.boot.stage = .run then s.readyRise o.us else s

/-- Steps 2 to 9. -/
def State.boot_ (s : State) (o : BootObs) : State :=
  let s := s.showSlots
  let s := if o.drbg then s.wr R.SEC_STAT_DRBG_OK 1 else (s.persists 6 .U true).raise 6 .U
  let s := s.wr R.SEC_STAT_DEBUG (bnat s.sec.vault.debugNext)
  if ¬ o.tests then (s.raise 6 .F).bootStops
  else if o.recovery then s.enterRecovery
  else
    let order := s.slotOrder 1
    let (n, s) := s.trySlots 1 o.badFw order
    match n with
    | none => s.enterRecovery
    | some n => (s.runFirmware n order).bootRest o

/-- BOOT (R443): from rails good, or from a reset, to READY. -/
def execBoot (o : BootObs) (s : State) : Host.Outcome State Fault Refusal :=
  if s.boot.stage = .rom then .next (s.boot_ o).settle else .next s

end Sys2Proof.Machine
end

