-- ==== Sys2Proof/Machine/PowerState.lean ====
section
/-!
DEFINITION. Power states (chapter 19, R488 to R504): POWER at its hub, operating points, entering and leaving DOZE and DORMANT, wakes, and
the reload of retained banks.
-/

namespace Sys2Proof.Machine

/-! ### POWER (R122, R489, R491) -/

/-- A POWER for DOZE or DORMANT is refused (R489). -/
def State.powerRefused (s : State) : Bool :=
  s.isMaster 0 || s.isMaster 1 || s.junction || s.flag R.TWIN_CFG_EN
    || (s.pts.recs.keys.any fun n => (s.point n).configured && (s.point n).motion && (s.point n).value != 0)
    || (s.brg.locks.any fun (_, (x : BusLock)) => x.holder.isSome) || !s.tgt.held.isEmpty
    || ((List.range 4).any fun r => s.flag (armedFld r) || s.flag (syncingFld r))
    || ((List.range 16).any fun e => s.flag (R.ENG_STAT_SWAP_PENDING e)) || s.boot.fwStg.isSome || s.boot.bndStg.isSome

/-- The operating point and the state that shows it. -/
def State.setOp (s : State) (op : Nat) : State := (s.wr R.PWR_STAT_OP op).wr R.PWR_STAT_STATE (bnat (op ≠ 0))

/-- Carry out a POWER, by OPX; DOZE and DORMANT complete before entry begins. -/
def State.powerGo (s : State) (r : Req) : State :=
  if 2 ≤ r.opx then
    if s.powerRefused then s.refuse r stDenied
    else (({ s with pwr := { s.pwr with entry := some (decide (r.opx = 3)), early := 0 } }).wr R.PWR_STAT_STATE 2).ok r 0 0
  else
    let op := if r.opx = 0 then 0 else leAt r.operand 0 1 % 4
    if s.rd R.PWR_STAT_OP = op then (s.setOp op).ok r 0 0
    else ({ s with pwr := { s.pwr with opReq := some (r, op) } }).wr R.PWR_STAT_DVFS_BUSY 1

/-- POWERs are carried out one at a time, in fetch order (R489): those that wait go on until one is being carried out. -/
def State.powerNext (s : State) : List Req → State
  | [] => s
  | r :: rs =>
    if s.pwr.opReq.isSome then { s with pwr := { s.pwr with opWait := r :: rs } } else (s.powerGo r).powerNext rs

/-- A POWER reaches its hub. -/
def State.power (s : State) (r : Req) : State := { s with pwr := { s.pwr with opWait := [] } }.powerNext (s.pwr.opWait ++ [r])

/-- DVFS_DONE (R491): the new operating point is in force, and the POWER completes. -/
def State.dvfsDone (s : State) : State :=
  match s.pwr.opReq with
  | none => s
  | some (r, op) =>
    let s := (({ s with pwr := { s.pwr with opReq := none } }).wr R.PWR_STAT_DVFS_BUSY 0).setOp op
    let s := s.ok r 0 0
    ({ s with pwr := { s.pwr with opWait := [] } }).powerNext s.pwr.opWait

def execDvfsDone (s : State) : Host.Outcome State Fault Refusal := .next s.dvfsDone.settle

/-! ### DOZE entry (R495, Table 19-7) -/

/-- Every transaction but a posted RECV has ended, and the POWER's entry has been written. -/
def State.drained (s : State) : Bool :=
  s.flights.all fun (_, t) => t.req.op = opRecv ∨ (t.done ∧ t.req.op ≠ opPower)

/-- Domains with a source enter HOLDOVER (R221); scheduled edges are cleared. -/
def State.dozeTime (s : State) : State :=
  let s := (List.range 8).foldl (fun s d =>
    let m := s.domain d
    if m.pOk ∨ m.sOk then (s.setDomain d { m with pOk := false, sOk := false, primRun := 0 }).settleDomain d else s) s
  { s with td := { s.td with edges := [], paths := [], ptp := [], ppsAt := none, ppsOk := false, ref := .own } }

/-- What CORE, KAOLIN and MARL lose: the switch core's frames, the read cache and the queues of the bridge, requests at the target,
controllers, channels, row and machine state, and the cycle's frames (R332, R394, R502). -/
def State.dozeLoss (s : State) : State :=
  let cyc := fun (c : Cyc) => ({ masters := c.masters, closed := c.closed, captured := c.captured, gone := c.gone } : Cyc)
  let rows := s.loaded.foldl (fun m r => NMap.set (fun _ => {}) m r { ({} : RowSt) with en := true }) []
  let s := { s with
    sw := {}, brg := { readId := s.brg.readId }, tgt := {}, pctl := {}, eng := { prog := s.eng.prog }
    rfx := { act := s.rfx.act, stg := s.rfx.stg, bad := s.rfx.bad, rows := rows }
    cyc := { c0 := cyc s.cyc.c0, c1 := cyc s.cyc.c1 } }
  let s := [0, 1].foldl (fun s i => s.stepPort i fun p => { p with sweep := [] }) s
  (List.range 256).foldl (fun s m => s.wr (R.RFX_SM_STATE_STATE m) 0) s

/-- DOZE begins: E1 and W1 go DOWN, every pin is OFF, and CORE loses power. A wake during entry is served at once (R498). -/
def State.dozeEnter (s : State) : State :=
  let s := ({ s with hif := { s.hif with fetchHold := true } }).dozeTime.releasePins
  let s := ((s.disablePort 2).disablePort 3).dozeLoss
  let early := s.pwr.early
  let s := { s with pwr := { s.pwr with entry := none, asleep := true, state := .doze } }
  if early = 0 then s else (s.wr R.PWR_WAKE_SRC_SRC early).wr R.PWR_WAKE_SRC_DURING_ENTRY 1

/-- DOZE_ENTRY (R495). -/
def execDozeEntry (s : State) : Host.Outcome State Fault Refusal :=
  if s.pwr.entry = some false ∧ s.drained then .next s.dozeEnter.settle else .next s

/-! ### DORMANT (R503) -/

/-- The hub leaves DORMANT while a logic feed is present: at step 3 of Table 19-1 when seating has been held, else at step 1. -/
def State.dormantWake (s : State) : State :=
  if s.pwr.state = .dormant ∧ s.pwr.path = .none ∧ (0 ∈ s.pwr.present ∨ 1 ∈ s.pwr.present) then
    (s.setPwr { s.pwr with path := if s.pwr.held then .seated else .feed }).showPower
  else s

/-- DORMANT_ENTRY (R503): every rail but VVAULT is removed. A wake during entry is served at once. -/
def execDormantEntry (s : State) : Host.Outcome State Fault Refusal :=
  if s.pwr.entry = some true ∧ s.drained then
    let early := s.pwr.early
    let s := s.railsOff .none .dormant
    .next (if early = 0 then s else s.dormantWake)
  else .next s

/-- Wake source `src` (0 WAKE_N, 1 PCIE, 2 RING, 3 TIMER, 4 FEED) in DORMANT: WAKE_N, the timer with a nonzero alarm, or a feed. -/
def execDormantWake (src : Fin 5) (s : State) : Host.Outcome State Fault Refusal :=
  if src.val = 0 ∨ (src.val = 3 ∧ s.words 0x100048 2 ≠ 0) ∨ src.val = 4 then .next s.dormantWake else .next s

/-! ### Waking from DOZE (R496 to R499) -/

/-- WAKE_EVENT (R496). -/
def execWakeEvent (src : Fin 5) (s : State) : Host.Outcome State Fault Refusal := .next (s.wake src)

/-- VLT_TIMER_ALARM (R496, R503): 0 in VLT_WAKE_T disables it. -/
def execVltTimerAlarm (s : State) : Host.Outcome State Fault Refusal :=
  if s.words 0x100048 2 = 0 then .next s
  else if s.pwr.state = .dormant then .next s.dormantWake else .next (s.wake 3)

/-- Clear a table region, in the active copy. -/
def State.clearRegion (s : State) (r : Nat) : State :=
  { s with rfx := { s.rfx with act := copyRegion [] s.rfx.act r } }

/-- The RW and RWL fields of a word at their reset values. -/
def State.reinitWord (s : State) (off : Nat) : State :=
  match findReg off with
  | none => s
  | some h => (h.reg.rows.filter fun f => f.word = h.word ∧ (f.acc = .rw ∨ f.acc = .rwl)).foldl
      (fun s f => s.wr ⟨off, f.lo, f.width⟩ (rowReset h f)) s

/-- A retained bank fails its signature and is reinitialised (R501). -/
def State.bankFails (s : State) (b : Nat) : State :=
  if b = 0 then
    s.pts.recs.keys.foldl (fun s n => if (s.point n).configured then s.setPoint n (s.point n).restart else s) s
  else if b ≤ 4 then s.clearRegion (b - 1)
  else if b = 5 then { s with eng := { s.eng with prog := [], started := true } }
  else if b = 6 then
    let s := s.hif.pairs.keys.foldl State.resetPair s
    let s := ({ s with pts := { s.pts with subs := [], remote := [] } }).wr R.RFX_SUB_USED_COUNT 0
    (s.regs.keys.foldl State.reinitWord s).wr R.ID_COMMIT_COMMITTED 0
  else
    let s := s.dropStagings
    if s.flt.copy.isSome then ({ s with flt := { s.flt with copy := none } }).wr R.FLT_LOG_RDSTAT_STATE 3 else s

/-- Record a failed bank: FAILED, COUNT and RELOAD, with U on bit 46. -/
def State.bankFailed (s : State) (b : Nat) : State :=
  let s := (s.wr ⟨0x20048, b, 1⟩ 1).wr ⟨0x20048, 8 + b, 1⟩ 1
  ((s.inc R.PWR_RET_STAT_COUNT).bankFails b).raise 46 .U b

/-- Islands run from IOSC and the PLLs are unlocked (Table 19-8 step 3). -/
def State.onOsc (s : State) : State :=
  let s := (({ s with pwr := { s.pwr with autoOsc := true } }).lockPlls false false false).wr R.PWR_STAT_ON_OSC 1
  (List.range 41).foldl (fun s i => if isSwitchable i then ((s.wr (R.CLK_ISL_CUR i) 0).wr (R.CLK_ISL_SEL i) 0).wr (R.CLK_ISL_PENDING i) 0 else s) s

/-- Loaded row `r` is affected by a failed bank (R501): its bytes are gone, or the signal that it names. -/
def State.rowLost (s : State) (r : Nat) : Bool :=
  let w := rowOf s.rfx.act r
  !w.asked || ((w.op == 13 || w.op == 14) && (s.signal? (bits w.p0 0 9) (bits w.p0 16 6)).isNone)

/-- Every loaded row starts afresh at the return to RUN, with no new check (R373, R394); those that a failed bank affects load with EN 0 (R501). -/
def State.rowsBack (s : State) : State :=
  let ok := s.loaded.filter fun r => ¬ s.rowLost r
  (s.showRows ok).placeRows ok none

/-- DOZE ends (Table 19-8): the retained banks that fail, and the banks of the shared buffer that do. -/
def State.dozeLeave (s : State) (failed banks : List Nat) : State :=
  let s := { s with hif := { s.hif with fetchHold := false }, pwr := { s.pwr with asleep := false, state := .run, early := 0 } }
  let s := (s.onOsc.setOp (s.rd R.PWR_STAT_OP)).wr R.PWR_RET_STAT_FAILED 0
  let s := failed.dedup.foldl State.bankFailed s
  let s := (List.range 4).foldl (fun s r => s.wr (syncingFld r) 1) s
  let s := s.rowsBack
  let s := banks.foldl (fun s b => s.retireBank b []) (s.wr R.SW_STAT_MODE mShared)
  s.refreshAll

/-! ### Reload (R501) -/

/-- The bundle's copy of a table region. -/
def State.reloadRegion (s : State) (r : Nat) : State :=
  let m := ((Config.bundleTables s.bundle).filter fun x => x.1 / 2 ^ 24 = r).foldl (fun m (off, b) => memWrite m (tblKey r (off % 2 ^ 24)) b) []
  let s := { s with rfx := { s.rfx with act := copyRegion m s.rfx.act r } }
  (s.wr (syncingFld r) 1).loadTables (some s.rfx.act)

/-- Reload bank `b` from its source (Table 19-9). -/
def State.reloadBank (s : State) (b : Nat) : State :=
  if b = 0 then
    let s := (Config.bundlePoints s.bundle).foldl (fun s (n, x) => s.loadPoint (n % 65536) (Point.ofBytes x)) s
    s.refreshAll
  else if b = 1 then (s.reloadRegion 0).normalPoints
  else if b ≤ 4 then s.reloadRegion (b - 1)
  else if b = 5 then
    { s with eng := { s.eng with
        prog := (Config.bundleProgram s.bundle).foldl (fun m (k, w) => NMap.set (fun _ => 0) m k (BitVec.ofNat 32 w)) [], started := false } }
  else if b = 6 then
    let s := (Config.bundleWrites s.bundle).foldl (fun s (off, v) => if s.vfWindow off then s else s.store off 4 v) s
    let s := s.loadRules.recomputeGuar
    if objCommit s.bundle then s.commit else s
  else s

/-- RETENTION_RELOAD_DONE (R501). -/
def execRetentionReloadDone (b : Fin 8) (s : State) : Host.Outcome State Fault Refusal :=
  if bit (s.rd R.PWR_RET_STAT_RELOAD) b then .next ((s.wr ⟨0x20048, 8 + b, 1⟩ 0).reloadBank b).settle else .next s

end Sys2Proof.Machine
end

