-- ==== Sys2Proof/Machine/SetupRead.lean ====
section
/-!
DEFINITION. Reading the set-up registers (chapter 21): the fields that show what a block holds beside the register file, measured values,
the latches of R523, and the memory windows.
-/

namespace Sys2Proof.Machine

/-! ### Fields that show a block's state: lowest bit, width and value of each, for a word of a register -/

abbrev View := List (Nat × Nat × Nat)

/-- The tenant windows (Tables 03-4, 03-7, 03-17, 03-18) and tags (Table 03-23). -/
def State.viewHost (s : State) (h : Hit) : View :=
  let t := h.i 0
  let x := s.pair (32 * t + h.i 1)
  match h.reg with
  | .HIF_WIN_ID => [(16, 16, 32 * t), (6, 1, bnat (s.slotOn t)), (4, 2, s.kind t), (0, 4, t)]
  | .HIF_TEN_STAT => [(17, 1, bnat (s.slotOn t && !s.mayAllocate s.held t)), (0, 14, s.held t)]
  | .Q_CTRL => [(0, 1, bnat (decide (x.st = .run)))]
  | .Q_STATUS => [(16, 16, x.head), (4, 4, x.reason), (0, 2, match x.st with | .idle => 0 | .run => 1 | .stopped => 3)]
  | .HIF_TAG_STATE =>
    [(16, 14, (s.hif.tags.filter fun (_, (y : Tag)) => match y.use with | .quarantine _ => true | _ => false).length), (0, 14, s.tagsUsed)]
  | _ => []

/-- STATE of a lane (Table 05-18). -/
def PortSt.code : PortSt → Nat
  | .down => 0 | .signal => 1 | .train => 2 | .auth => 3 | .up => 4 | .uplinkUp => 5

/-- The ring ports (Tables 05-18 to 05-22), the topology record (Table 01-10) and the switch core (Tables 13-4, 13-8). -/
def State.viewRing (s : State) (h : Hit) : View :=
  let i := h.i 0
  let p := s.port i
  match h.reg with
  | .RING_PORT_STAT => [(16, 16, p.downCnt), (8, 8, p.cause), (3, 1, bnat p.epoch), (0, 3, p.st.code)]
  | .RING_PORT_RTT => [(0, 16, if p.st = .up then p.rtt else 0)]
  | .RING_PORT_ERR => [(16, 16, p.replay), (0, 16, p.tagFail)]
  | .RING_PORT_DISC => [(16, 16, p.poisoned), (0, 16, p.discard)]
  | .RING_PORT_WRAP => [(16, 16, p.wrapped), (0, 16, p.lost)]
  | .RING_TOPO =>
    [(8, 8, (s.ring.topo.filter fun (k, (t : Topo)) => k < 256 && t.present).length),
     (0, 8, if s.isMaster 0 then s.station 0 else match s.accepted 0 with | some m => s.stationOf 0 m.node | none => 0)]
  | .RING_CYC_STAT => [(30, 2, s.roleShown i)]
  | .TD_LINK_DLY => [(0, 32, if s.isUp i then s.linkDelay i else 0)]
  | .SW_FREE =>
    -- a retired bank takes its 3,824 cells outside the sweep reserve with it (log 66)
    [(0, 17, 61184 - 3824 * ((List.range 16).filter fun b => bit (s.rd R.SW_STAT_RETIRED) b).length - s.cellsUsed)]
  | .SW_OQ_STAT => [(0, 16, s.depth i)]
  | _ => []

/-- An offset of TD_OFS, in units of 2^-8 ns, saturated (Table 07-21). -/
def ofsCode (ok : Bool) (v : Int) : Nat :=
  if ok then toBits 32 (max (-2147483648) (min 2147483647 (v.fdiv 256))) else 0

/-- Time domains (Tables 07-20, 07-21, 07-23). -/
def State.viewTime (s : State) (h : Hit) : View :=
  let d := h.i 0
  let m := s.domain d
  let on := s.flag (R.TD_CFG_EN d)
  match h.reg with
  | .TD_STAT =>
    [(29, 3, s.domainSt d), (28, 1, bnat (on && m.second)), (27, 1, bnat (on && m.pOk)), (26, 1, bnat (on && m.sOk)),
     (25, 1, bnat (if d = 0 then s.synced else on && (m.st = dLocked || m.st = dHoldover))), (24, 1, bnat (d == 0 && s.isRoot))]
  | .TD_RATE => [(0, 32, toBits 32 m.rate)]
  | .TD_OFS => [(0, 32, if h.word = 0 then ofsCode (on && m.pOk) m.ofsP else ofsCode (on && m.sOk) m.ofsS)]
  | _ => []

/-- Channels of the Briar engines (Tables 11-7, 11-8), controllers (Table 10-12), measurement channels, and bus locks (Table 12-8). -/
def State.viewField (s : State) (h : Hit) : View :=
  let e := h.i 0
  let x := s.chan e (h.i 1)
  match h.reg with
  | .ENG_STAT => [(0, 16, (List.range 16).foldl (fun n c =>
      if (s.chan e c).st = chRun ∨ (s.chan e c).st = chStalled then n + 2 ^ c else n) 0)]
  | .ENG_CH_STAT =>
    [(22, 10, x.pc), (21, 1, x.bank), (19, 2, x.st), (13, 6, x.tx.length), (7, 6, x.rx.length), (0, 4, x.pins)]
  | .ENG_CH_FLAG => [(0, 8, x.flags)]
  | .ENG_START_T => [(0, 32, 0)]
  | .MEAS_STAT => [(26, 1, bnat (s.isSense e))]
  | .PCTL_CAN_STAT =>
    if ¬ s.ctlOn cCan e then []
    else if h.word = 1 then (if s.flag (R.PCTL_CAN_CFG_AUTO e) then [] else [(0, 16, s.rd (R.PCTL_CAN_CFG_NBR e))])
    else if s.rd (R.PCTL_CAN_STAT_STATE e) = 2 then []
    else [(14, 2, s.canState e (s.rd (R.PCTL_CAN_STAT_TEC e)) (s.rd (R.PCTL_CAN_STAT_REC e)))]
  | .PCTL_UART_STAT =>
    if h.word = 0 ∧ s.ctlOn cUart e ∧ ¬ s.flag (R.PCTL_UART_CFG_AUTO e) then [(0, 22, s.rd (R.PCTL_UART_CFG_BAUD e))] else []
  | .PCTL_SPE_STAT =>
    if h.word = 0 then [(0, 1, bnat (s.ctlOn cSpe e && (s.flag (R.PCTL_SPE_STAT_LINK e) || (!s.speT1L e && !s.flag (R.PCTL_SPE_CFG_PLCA_EN e)))))]
    else []
  | .BRG_LOCK_STAT =>
    let l := s.busLock e
    match l.holder with
    | none => []
    | some (node, tn, id) =>
      if h.word = 1 then [(31, 1, 1), (12, 18, node), (8, 4, tn), (0, 8, id / 256)] else [(24, 8, id), (0, 17, (l.until_ - s.ns) / 1000)]
  | .FLT_LOG_SEQ =>
    let l := s.log e
    if h.word = 1 then [(0, 32, l.next)] else [(0, 32, match l.stored ++ l.buffer with | r :: _ => r.seq | [] => l.next)]
  | _ => []

/-- µs since READY rose (Table 21-2). -/
def State.uptime (s : State) : Nat := if s.flag R.ID_STATE_READY then min ((s.ns - s.boot.readyAt / 65536) / 1000) (2 ^ 64 - 1) else 0

/-- Bit `k` of ID_CLAMP_SUM.NONZERO (R532). -/
def State.clampRow (s : State) (k : Nat) : Bool :=
  (List.range (if k = 11 then 16 else if k = 12 then 64 else 1)).any fun i => s.flag (clampFld k i)

/-- Identity (Table 21-2), the clamp sum and the vault timer. -/
def State.viewIdent (s : State) (h : Hit) : View :=
  match h.reg with
  | .ID_PART => [(24, 8, Config.partGrade.toNat)]
  | .ID_SERIAL => [(0, 32, bits Config.partSerial.toNat (32 * h.word) 32)]
  | .ID_STATE =>
    [(11, 1, bnat (s.isMaster 0)), (10, 1, bnat s.junction), (8, 2, s.rd R.TWIN_STAT_ROLE), (6, 1, bnat s.sec.vault.latch),
     (5, 1, s.rd R.SEC_STAT_DEBUG), (4, 1, bnat s.sec.vault.lock), (3, 1, bnat (decide (s.sec.vault.owner ≠ 0))),
     (2, 1, s.rd R.ID_COMMIT_COMMITTED), (1, 1, bnat s.inSafe)]
  | .ID_UPTIME => [(0, 32, bits s.uptime (32 * h.word) 32)]
  | .ID_CLAMP_SUM => [(0, 16, (List.range 16).foldl (fun n k => if s.clampRow k then n + 2 ^ k else n) 0)]
  | .VLT_TIMER => [(0, 32, bits s.vaultTicks (32 * h.word) 32)]
  | _ => []

/-- A register word as it reads. -/
def State.shown (s : State) (h : Hit) (off : Nat) : Nat :=
  (s.viewHost h ++ s.viewRing h ++ s.viewTime h ++ s.viewField h ++ s.viewIdent h).foldl (fun w (lo, n, v) => setBits w lo n v) (s.word off)

/-! ### Measured values -/

/-- The bits of a register word that are measured (Tables 08-18, 08-22, 19-9 to 19-13): free values, fresh at each read (log entry 1). -/
def measuredBits (r : Reg) : Option (Nat × Nat) :=
  match r with
  | .PWR_FEED_V | .PWR_FPIN_V | .PWR_FEED_I | .PWR_FPIN_I | .PORT_CUR => some (0, 32)
  | .PWR_TBM_STAT => some (16, 16)
  | .PWR_BRK_STAT => some (16, 8)
  | _ => none

/-- Memory in the set-up space (R436, R458, R472): the log copy, SEC_MBX_DATA, and ID_RCV_BUF, which reads as zero. -/
def State.windowByte (s : State) (off : Nat) : Option Byte :=
  if 0x31000 ≤ off ∧ off < 0x32000 then some ((memRead s.flt.logBuf (off - 0x31000) 1).headD 0)
  else if 0xF4000 ≤ off ∧ off < 0xF8000 then some ((memRead s.sec.mbx (off - 0xF4000) 1).headD 0)
  else none

/-- A word of the set-up space as it reads; an offset that no chapter lists reads as zero (R519). In recovery mode only the identity and
global block responds (R455). -/
def State.readWord (s : State) (off : Nat) : Nat × State :=
  if s.boot.stage = .recovery ∧ 0x10000 ≤ off then (0, s)
  else
    match findReg off with
    | some h =>
      let w := s.shown h off
      match measuredBits h.reg with
      | some (lo, n) => let (f, s) := s.draw; (setBits w lo n f, s)
      | none => (w, s)
    | none =>
      if (s.windowByte off).isSome then (leNat ((List.range 4).filterMap fun i => s.windowByte (off + i)), s) else (0, s)

/-- Read `n` words. -/
def State.readWords (s : State) (off : Nat) : Nat → List Nat × State
  | 0 => ([], s)
  | n + 1 =>
    let (w, s) := s.readWord off
    let (ws, s) := s.readWords (off + 4) n
    (w :: ws, s)

/-! ### Latches (R523) -/

/-- The registers marked L in Table 21-6. -/
def latches (r : Reg) : Bool :=
  match r with
  | .ID_UPTIME | .FLT_STATUS | .FLT_SRC | .TD_OFS | .BRG_POST_FAIL | .BRG_LOCK_STAT | .PCTL_CAN_STAT | .PCTL_SPE_STAT | .PCTL_UART_STAT
  | .PCTL_IOL_STAT | .VLT_TIMER => true
  | _ => false

/-- The latch of the register at `base`. Its content before the first latching read is zero (log entry 11). -/
def State.latched (s : State) (base : Nat) : List Nat := NMap.get (fun _ => []) s.setup.latch base

/-- A set-up read of 4 or 8 bytes (R521, R523): a read from the first byte of an L register copies the whole register into its latch, and one
of its other words returns the latch. -/
def State.setupRead (s : State) (off n : Nat) : List Byte × State :=
  match findReg off with
  | some h =>
    if latches h.reg then
      let base := off - 4 * h.word
      let s := if h.word = 0 then
          let (ws, s) := s.readWords off h.reg.shape.words
          { s with setup := { s.setup with latch := NMap.set (fun _ => []) s.setup.latch base ws } }
        else s
      (((List.range (n / 4)).map fun k => leBytes 4 ((s.latched base).getD (h.word + k) 0)).flatten, s)
    else
      let (ws, s) := s.readWords off (n / 4)
      ((ws.map (leBytes 4)).flatten, s)
  | none =>
    let (ws, s) := s.readWords off (n / 4)
    ((ws.map (leBytes 4)).flatten, s)

/-- The 256 bytes of the identity registers (R524). -/
def State.identity (s : State) : List Byte × State :=
  let (ws, s) := s.readWords 0 64
  ((ws.map (leBytes 4)).flatten, s)

end Sys2Proof.Machine
end

