-- ==== Sys2Proof/Machine/Setup.lean ====
section
/-!
DEFINITION. Set-up accesses (chapter 21): what a write of a register does beside the store of R530, who may make an access, and the commands
REGISTER_WRITE, LATCHED_REGISTER_READ and DOZE_EXIT (which serves the accesses held in DOZE).
-/

namespace Sys2Proof.Machine

/-- A flag changes from 1 to 0, or from 0 to 1, between two states. -/
def fell (old s : State) (f : Fld) : Bool := old.flag f && !s.flag f
def rose (old s : State) (f : Fld) : Bool := !old.flag f && s.flag f

/-! ### Host registers -/

def State.actHost (s old : State) (h : Hit) (cs : List Cell) : State :=
  let t := h.i 0
  match h.reg with
  | .HIF_TEN => if old.slotOn t = s.slotOn t then s else s.recomputeGuar
  | .HIF_QUOTA => if old.rd (R.HIF_QUOTA_QUOTA t) = s.rd (R.HIF_QUOTA_QUOTA t) then s else s.recomputeGuar
  | .HIF_SUM_ADDR => if rose old s (R.HIF_SUM_ADDR_EN t) then s.setSlot t { interval := 8000, polledAt := s.ns } else s
  | .Q_CTRL => s.qCtrl (32 * t + h.i 1) (wrote cs 1 ≠ 0) (wrote cs 0 ≠ 0)
  | .SEC_TEN | .SEC_TEN_KEY => s.reprove t
  | _ => s

/-! ### Time -/

/-- PPS_OUT stays low while it is not enabled or its domain is DISABLED (R214). -/
def State.ppsLow (s : State) : State :=
  if s.flag R.TD_PPS_OUT_EN ∧ s.flag (R.TD_CFG_EN (s.rd R.TD_PPS_OUT_TD)) then s else { s with td := { s.td with ppsOut := false } }

/-- A change of TD_CFG[d]: EN set starts the domain FREE; a source that changes is not available until its next update, but TD0 of a follower
ignores its sources; one whose sources are FREE or NONE is FREE and runs at the local rate; a host-assisted domain takes the rate of TD_ADJ, and
one that ceases to be so without a source the local rate (R195, R196, R198, R200). -/
def State.domainCfg (s old : State) (d : Nat) : State :=
  let s := if rose old s (R.TD_CFG_EN d) then s.domainStart d else s
  let p := old.rd (R.TD_CFG_SRC_P d) ≠ s.rd (R.TD_CFG_SRC_P d)
  let q := old.rd (R.TD_CFG_SRC_S d) ≠ s.rd (R.TD_CFG_SRC_S d)
  let s := if p then s.setDomain d { s.domain d with setHost := false } else s
  let s := if s.followsRing d then s
    else
      let s := if p then s.setAvail d false false else s
      let s := if q then s.setAvail d true false else s
      if (p ∨ q) ∧ s.source d false = 1 ∧ s.source d true ≤ 1 ∧ s.domainOn d then (s.setDomain d { s.domain d with st := dFree }).freeRun d else s
  let s := if rose old s (R.TD_CFG_SERVO d) ∨ (fell old s (R.TD_CFG_SERVO d) ∧ ¬ (s.domain d).pOk ∧ ¬ (s.domain d).sOk) then s.freeRun d else s
  s.ppsLow

def State.actTime (s old : State) (h : Hit) (cs : List Cell) : State :=
  let d := h.i 0
  match h.reg with
  | .TD_SNAP => if wrote cs 0 ≠ 0 then s.snap else s
  | .TD_CFG => s.domainCfg old d
  | .TD_ADJ => if s.flag (R.TD_CFG_SERVO d) then s.freeRun d else s
  | .TD_PPS_OUT => s.ppsLow
  | .TD_CMD =>
    match wrote cs 0 with
    | 1 => s.tdSet d
    | 2 => s.tdStep d
    | 3 => s.tdSlew d
    | _ => s
  | .TD_PTP =>
    if s.flag (R.TD_PTP_EN d) ∧ ¬ s.flag (R.TD_PTP_ROLE d) then s
    else (s.setPtpPort d { s.ptpPort d with avail := false, best := none }).loseSource (2 + d)
  | .TD_PPS_IN => if s.flag R.TD_PPS_IN_EN then s else ({ s with td := { s.td with ppsOk := false } }).loseSource 4
  | _ => s

/-! ### Ring ports and the twin -/

/-- A port whose enable or mode has changed goes DOWN, and starts again if it is enabled (R153, R155). -/
def State.portCfg (s old : State) (i : Nat) : State :=
  let mode := fun (s : State) => if s.uplink i then s.rd (R.RING_PORT_CFG_MODE i) else 0
  if old.portEn i = s.portEn i ∧ old.ringMode i = s.ringMode i ∧ mode old = mode s then s
  else (s.disablePort i).startPort i

/-- A change of TWIN_CFG.EN (R396): a hub that becomes a member forms a pair; one that ceases to be one acts alone. -/
def State.twinCfg (s old : State) : State :=
  if rose old s R.TWIN_CFG_EN then ((s.setRole 0 pForming).releasePins.startPort 4).roleChanged
  else if fell old s R.TWIN_CFG_EN then ((s.disablePort 4).setRole 0 pNone).joinRings.enablePins.roleChanged
  else s

def State.actRing (s old : State) (h : Hit) (cs : List Cell) : State :=
  match h.reg with
  | .RING_PORT_CFG => s.portCfg old (h.i 0)
  | .RING_NODE_ID1 =>
    let t := (s.portCfg old 2).portCfg old 3
    if s.junction = old.junction then t else t.roleChanged
  | .TWIN_CFG => s.twinCfg old
  | .TWIN_CMD => if wrote cs 30 = 1 then s.startSwitch else if wrote cs 30 = 2 then s.startResync else s
  | .TWIN_PULSE => if wrote cs 31 ≠ 0 then s.askPulse else s
  | _ => s

/-! ### Faults, power and clocks -/

def State.actFault (s : State) (h : Hit) (cs : List Cell) : State :=
  let i := h.i 0
  match h.reg with
  | .FLT_STATUS =>
    ((List.range (if h.word = 0 then 32 else 17)).filter fun b => bit (wrote cs 0) b).foldl (fun s b => s.clearFault (32 * h.word + b)) s
  | .FLT_SAFE => if wrote cs 28 = 1 then s.safeEnterCmd else if wrote cs 28 = 2 then s.safeExitCmd else s
  | .FLT_LOG_RD =>
    if h.word = 0 then { s with flt := { s.flt with heldSeq := wrote cs 0 } }
    else if wrote cs 31 ≠ 0 then s.logGo (wrote cs 30) none else s
  | .PWR_BRK_STAT => if wrote cs 31 ≠ 0 then s.pathClearEvent i else s
  | .PWR_CFG => s.showPower
  | .CLK_FCNT_CFG => if wrote cs 31 ≠ 0 then s.fcntGo else s
  | .BRG_CMD => if wrote cs 0 ≠ 0 then s.dropLines fun _ => true else s
  | .ID_COMMIT => if wrote cs 31 ≠ 0 then s.commit else s
  | .ID_BOOT_CMD =>
    let (f, s) := s.draw
    let e : StopEnv := ⟨bit f 0, bit f 1⟩
    if wrote cs 30 = 1 then s.bootCmd false e else if wrote cs 30 = 2 then s.bootCmd true e else s
  | .ID_RCV_CMD =>
    let (f, s) := s.draw
    if wrote cs 31 ≠ 0 ∧ s.boot.stage = .recovery then s.rcvChunk (wrote cs 0 + 1) (wrote cs 30 ≠ 0) (bit f 0) else s
  | .ID_RCV_SERVE =>
    if wrote cs 31 ≠ 0 ∧ s.ready then s.rcvServe (s.rd R.ID_RCV_SERVE_PORT) (s.rd R.ID_RCV_SERVE_SLOT) else s
  | _ => s

/-! ### Field ports -/

/-- Pair of pin `x` as it runs: the mode, kind and index of the pair that serves it, and whether RS422 takes both pairs (R230). -/
def State.pairSetting (s : State) (p x : Nat) : Bool × Nat × Nat × Nat :=
  let i := if s.rs422 p then 0 else x / 2
  (s.rs422 p, s.pairMode p i, s.pairKind p i, s.pairIdx p i)

/-- A pin whose function, or whose pair's mode or routing, has changed passes through OFF, and its points are NOT_READY until their first
update under the new function (R229). Its conditions end with the function that found them, but a latch stays, with its SHORT, until it clears (R240,
R247). DEDUCED (log 79). -/
def State.pinCfg (s old : State) (p x : Nat) : State :=
  let same := old.fn p x = s.fn p x ∧ (s.fn p x ≠ fnPair ∨ old.pairSetting p x = s.pairSetting p x)
  if same then s
  else
    let s := (s.setPin p x { s.pin p x with driving := false, held := false, raw := 0 }).wrBit (R.PORT_DIAG_OPEN p) x false
    let s := if (s.pin p x).latched then s else s.wrBit (R.PORT_DIAG_SHORT p) x false
    let s := (s.wr (R.MEAS_STAT_OPEN (4 * p + x)) 0).wr (R.MEAS_STAT_SHORT (4 * p + x)) 0
    (s.pinPoints p x).foldl (fun s n => s.setPoint n { s.point n with notReady := true, fresh := none }) s

/-- Every port whose items a write to port `p` may change: `p` itself, and those whose pairs gain or lose a controller by it (R231). -/
def State.portsMoved (s old : State) (p : Nat) : List Nat :=
  (List.range 64).filter fun q => q = p ∨ (List.range 2).any fun i => old.pairRouted q i ≠ s.pairRouted q i

/-- A port after a change of its registers or of its pairs' controllers: admission of each item whose cost the write changes (R250), and its pins,
with the channel bound to it. -/
def State.portItems (s old : State) (p : Nat) : State :=
  let s := (List.range 6).foldl (fun s i => if old.cost p i = s.cost p i then s else s.admitItem p i) s
  (((List.range 4).foldl (fun s x => s.pinCfg old p x) s).applyChan p).refreshPort p

/-- The ports after a change of the registers of port `p`, with its FP and its IO-Link master. -/
def State.portFns (s old : State) (p : Nat) : State :=
  let s := (s.portsMoved old p).foldl (fun s q => s.portItems old q) s
  let s := if old.fpMode p = s.fpMode p then s
    else (s.pinPoints p 4).foldl (fun s n => s.setPoint n { s.point n with notReady := true, fresh := none })
      ((s.setFp p false).wr (R.PORT_DIAG_FP_OPEN p) 0)
  let s := if (old.fnLoad p 2 = fnIol) = (s.fnLoad p 2 = fnIol) then s else s.iolRestart p
  s.refreshPort p

/-- The source of a pin's level changes (R241): the pin is off until its new source applies one. -/
def State.pinSource (s old : State) (p x : Nat) : State :=
  if old.byChannel p x = s.byChannel p x then s else (s.pinOff p x).applyChan p

/-- OTEMP bits that a write has cleared while the driver is still in shutdown are set again (R6). -/
def State.resetOtemp (s : State) (p : Nat) : State :=
  let s := (List.range 4).foldl (fun s x => if (s.pin p x).hot then s.wrBit (R.PORT_DIAG_OTEMP p) x true else s) s
  (List.range 2).foldl (fun s d => if (2 * p + d) ∈ s.fld.pairHot then s.wrBit (R.PORT_DIAG_PAIR_OTEMP p) d true else s) s

def State.actPort (s old : State) (h : Hit) (cs : List Cell) : State :=
  let p := h.i 0
  let took : Bool := cs.any old.takes
  match h.reg with
  | .PORT_FN | .PORT_PAIR => if took then s.portFns old p else s
  | .PORT_DO => if took ∧ h.i 1 < 4 then (s.admitItem p (h.i 1)).pinSource old p (h.i 1) else s
  | .MEAS_AO => if took then s.admitItem p 2 else s
  | .PORT_STAT => if wrote cs 23 ≠ 0 then s.fpClearEvent p else s
  | .PORT_DIAG => (s.resetOtemp p).refreshPort p
  | .MEAS_SCAL_CMD => if wrote cs 8 = 1 ∨ wrote cs 8 = 2 then s.scalStart (wrote cs 0) (wrote cs 8) else s
  | .PCTL_IOL_CFG =>
    if took then ((if old.iolMode p = s.iolMode p ∧ old.ctlEn cIol p = s.ctlEn cIol p then s else s.iolRestart p).ctlStops old cIol p).settle else s
  | .PCTL_UART_CFG => if took then (s.ctlStops old cUart p).settle else s
  | .PCTL_CMD =>
    if wrote cs 30 = 1 then (if wrote cs 0 < 32 then s.canRejoin (wrote cs 0) else s)
    else if wrote cs 30 = 2 then s.iolRestart (wrote cs 0) else s
  | _ => s

/-- Engines (Tables 11-5, 11-7). A write of both words of ENG_START_T acts once, with its last word (`last`): they take effect at one instant (R521).
-/
def State.actEng (s old : State) (h : Hit) (cs : List Cell) (last : Bool) : State :=
  let e := h.i 0
  let took : Bool := cs.any old.takes
  match h.reg with
  | .ENG_CTRL =>
    if wrote cs 30 = 1 then s.engStop e (wrote cs 0) else if wrote cs 30 = 2 then s.engRestart e (wrote cs 0) else s
  | .ENG_START_T =>
    let s := s.setWord (0xB0028 + 0x1000 * e + 4 * h.word) (wrote cs 0)
    if last then s.engStartT e (s.words (0xB0028 + 0x1000 * e) 2) else s
  | .ENG_CH_FLAG => s.setChan e (h.i 1) { s.chan e (h.i 1) with flags := wrote cs 0 }
  | .ENG_CH_CFG =>
    if took then ((old.chanPort e (h.i 1)).toList ++ (s.chanPort e (h.i 1)).toList).foldl State.applyChan s else s
  | _ => s

def State.actMbx (s : State) (h : Hit) (cs : List Cell) : State :=
  let len := min 16384 (wrote cs 0)
  match h.reg with
  | .SEC_MBX_CMD =>
    match wrote cs 24 with
    | 0x01 => s.getChallenge
    | 0x02 => s.submitToken len
    | 0x03 => s.getCert len
    | 0x04 => s.attest len
    | 0x05 => s.randomCmd len
    | 0x10 => s.dbgRead len
    | 0x11 => s.dbgWrite len
    | _ => if s.mbxOpen then s.mbxFail 0x04 else s
  | _ => s

/-! ### A write -/

/-- What the write of one word does beside the store; `last` says that no later word of its register is written with it. -/
def State.act (s old : State) (h : Hit) (cs : List Cell) (last : Bool) : State :=
  let s := s.actHost old h cs
  let s := s.actTime old h cs
  let s := s.actRing old h cs
  let s := s.actPort old h cs
  let s := s.actEng old h cs last
  let s := s.actMbx h cs
  s.actFault h cs

/-- Disabling a slot acts on its pairs before the store (R66). -/
def State.preWrite (s : State) (cs : List Cell) : State :=
  cs.foldl (fun s c => if c.hit.reg = .HIF_TEN ∧ c.row.lo = 31 ∧ c.v = 0 then s.slotDisable (c.hit.i 0) else s) s

/-- A set-up write of 4 or 8 bytes: the store, what each word does beside it, the lower word first, and the cached lines that it makes stale
(R341). SEC_MBX_DATA, and in recovery mode ID_RCV_BUF, take bytes. -/
def State.setupWrite (s : State) (off n v : Nat) : State :=
  let cs := writeCells off n v
  let s := (s.preWrite cs)
  let s' := s.store off n v
  let hits := (cs.map Cell.hit).dedup
  let s' := hits.foldl (fun t h => t.act s h (cs.filter fun c => c.hit = h) (¬ hits.any fun g => g.reg = h.reg ∧ g.i 0 = h.i 0 ∧ h.word < g.word)) s'
  let s' := if 0xF4000 ≤ off ∧ off < 0xF8000 then
      { s' with sec := { s'.sec with mbx := memWrite s'.sec.mbx (off - 0xF4000) (leBytes n v) } }
    else if 0x8000 ≤ off ∧ off < 0x10000 ∧ s.boot.stage = .recovery then
      { s' with boot := { s'.boot with rcvBuf := memWrite s'.boot.rcvBuf (off - 0x8000) (leBytes n v) } }
    else s'
  s'.invalidate 64 off (off + n - 1)

/-! ### Who may write what (R66, R67, R519, R527) -/

/-- The registers that only PF0 writes (R527): a write of one of them by a ring REQ is refused. -/
def pf0Only (off : Nat) : Bool :=
  (0xF0000 ≤ off ∧ off < 0x100000) ∨ off / 4 * 4 ∈ [0x200, 0x108, 0x30018, 0x60034, 0x120, 0x130]

/-- The set-up space answers: after READY, and in recovery mode its first block (R444, R455). -/
def State.responds (s : State) (off : Nat) : Bool := s.ready || (decide (s.boot.stage = .recovery) && decide (off < 0x10000))

/-- A write from PF0, or from a ring REQ that the checks of R30 have admitted. -/
def State.pf0Write (s : State) (off n v : Nat) : State :=
  if ¬ s.responds off then s
  else if s.vfWindow off then
    (cellsAt off (v % 2 ^ 32) ++ if n = 8 then cellsAt (off + 4) (v / 2 ^ 32) else []).foldl (fun s c =>
      if c.hit.reg = .Q_CTRL ∧ c.row.lo = 1 ∧ c.v ≠ 0 then s.resetPair (32 * c.hit.i 0 + c.hit.i 1) else s) (s.invalidate 64 off (off + n - 1))
  else s.setupWrite off n v

/-- The set-up offset of an access by a virtual function to its BAR0, if its window is open and the offset is not reserved (R66, R520). -/
def State.vfOffset (s : State) (t off : Nat) : Option Nat :=
  if s.kind t = kVf ∧ s.slotOn t ∧ off < 0xA00 then some (0x70000 + 0x1000 * t + off) else none

/-- Carry out an access: the bytes read, and the state. -/
def State.doAccess (s : State) (a : Access) : List Byte × State :=
  let place := match a.q with
    | .vf t => s.vfOffset t a.off
    | _ => some a.off
  match place, a.v with
  | some off, some v => ([], match a.q with | .vf _ => if s.responds off then s.setupWrite off a.n v else s | _ => s.pf0Write off a.n v)
  | some off, none => if s.responds off then s.setupRead off a.n else (List.replicate a.n 0, s)
  | none, some _ => ([], s)
  | none, none => (List.replicate a.n 0, s)

/-- An access over PCIe: a read is answered. In DOZE it is held until the exit, and wakes the hub (R496). -/
def State.pcieAccess (s : State) (a : Access) : State :=
  if s.pwr.asleep then ({ s with setup := { s.setup with held := s.setup.held ++ [a] } }).wake 1
  else
    let (b, s) := s.doAccess a
    if a.v.isSome then s else s.emit (.reply "set-up read" b)

/-- The size and place of an access are legal (R521): another is not carried out. -/
def okAccess (off : Nat) (wide : Bool) : Bool := off % (if wide then 8 else 4) = 0

/-- REGISTER_WRITE (R521, R522, R530). -/
def execRegisterWrite (q : Requester) (off : BitVec 22) (wide : Bool) (v : BitVec 64) (s : State) : Host.Outcome State Fault Refusal :=
  if okAccess off.toNat wide then
    .next (s.pcieAccess ⟨q, off.toNat, if wide then 8 else 4, some (if wide then v.toNat else v.toNat % 2 ^ 32)⟩).settle
  else .next s

/-- LATCHED_REGISTER_READ (R521 to R523): a set-up read. One that is not a legal access completes with Unsupported Request. -/
def execLatchedRegisterRead (q : Requester) (off : BitVec 22) (wide : Bool) (s : State) : Host.Outcome State Fault Refusal :=
  if okAccess off.toNat wide then .next (s.pcieAccess ⟨q, off.toNat, if wide then 8 else 4, none⟩)
  else .next (s.emit (.reply "unsupported request" []))

/-! ### The accesses held in DOZE -/

/-- Serve the accesses held, oldest first (R496). -/
def State.serveHeld (s : State) : State :=
  s.setup.held.foldl State.pcieAccess { s with setup := { s.setup with held := [] } }

/-- DOZE_EXIT (R497): banks that fail their signature, and shared-buffer banks that fail their test (R501, R502). -/
def execDozeExit (failed : List (Fin 8)) (banks : List (Fin 16)) (s : State) : Host.Outcome State Fault Refusal :=
  if s.pwr.asleep ∧ s.pwr.early ≠ 0 then
    .next (s.dozeLeave (failed.map (·.val)) (banks.map (·.val))).serveHeld.settle
  else .next s

end Sys2Proof.Machine
end

