-- ==== Sys2Proof/Machine/Target.lean ====
section
/-!
DEFINITION. Requests at their target (chapters 01 and 04): the checks of Table 01-13, timed execution, and what each opcode does in each
space. A request that the checks let in waits in `Tgt.accepted` until its opcode's command carries it out.
-/

namespace Sys2Proof.Machine

/-! ### Spaces (Tables 01-3 to 01-5) -/

/-- A space code of Table 01-3. -/
def knownSpace (sp : Nat) : Bool := sp < 64 ∨ sp = 0x100 ∨ sp = 0x200 ∨ sp = 0x300 ∨ sp = 0x400 ∨ sp = 0x3FFF

/-- The extent of the table region that an offset selects, if it is one of Table 01-4: [12] bank and [11:2] word of a program store. -/
def tblSpan (off : Nat) : Option Nat :=
  let g := off / 2 ^ 24
  if g < 4 then some (tblExtent g) else if 0x10 ≤ g ∧ g ≤ 0x1F then some 0x2000 else none

/-- The region of node management space that holds an offset, by base and length (Table 01-5). -/
def mgmtSpan (o : Nat) : Option (Nat × Nat) :=
  if o < 0x100 then some (0, 0x100)
  else if 0x1000 ≤ o ∧ o < 0x2000 then some (0x1000, 0x1000)
  else if 0x2000 ≤ o ∧ o < 0x2800 then some (0x2000, 0x800)
  else if 0x3000 ≤ o ∧ o < 0x3004 then some (0x3000, 4)
  else if 0x3004 ≤ o ∧ o < 0x3018 then some (0x3004, 20)
  else none

/-- The station assignment region of node management space. -/
def assignOff (o : Nat) : Bool := 0x3004 ≤ o ∧ o < 0x3018

/-- TWIN_SEL of a request to node management space (R22). -/
def twinSel (r : Req) : Bool := r.space = 0x3FFF ∧ bit r.off 31

/-- The request reads or writes memory behind this hub's PCIe link (R68); a SEND to that space is a message. -/
def isRegion (r : Req) : Bool := r.space = 0x400 ∧ (r.op = opRead ∨ r.op = opWrite)

/-- Checks 1 and 2 of Table 01-13: the space, the region, and the extent. A WRITE of a station assignment of another length than 20 bytes is a
BUS_ERROR (R23). -/
def State.checkExtent (s : State) (r : Req) : Option Nat :=
  let o := r.off % 2 ^ 31
  let inside := fun (b : Bool) => if b then none else some stNoRoute
  if ¬ knownSpace r.space then some stNoRoute
  else if r.space = 0x100 ∨ r.space = 0x200 then inside (r.off + r.len ≤ 0x400000)
  else if r.space = 0x300 then
    match tblSpan r.off with
    | none => some stNoRoute
    | some n => inside (r.off % 2 ^ 24 + r.len ≤ n)
  else if isRegion r then inside (r.off % 2 ^ 28 + r.len ≤ 4096 * s.rd (R.HIF_RGN_LEN_PAGES (r.off / 2 ^ 28)))
  else if r.space = 0x3FFF then
    match mgmtSpan o with
    | none => some stNoRoute
    | some (b, n) =>
      if twinSel r ∧ s.rd R.TWIN_STAT_ROLE = 0 then some stNoRoute
      else if assignOff o ∧ r.op = opWrite then (if r.len ≠ 20 then some stBusError else inside (o = b))
      else inside (o + r.len ≤ b + n)
  else none

/-- Checks 2 and 3 for a device space (Tables 01-3 and 10-4). -/
def State.checkDevice (s : State) (r : Req) : Option Nat :=
  if r.space < 64 ∧ r.op = opSend then (if s.portBus r.space then none else some stNoRoute)
  else if 64 ≤ r.space ∨ ¬ (r.op = opRead ∨ r.op = opWrite ∨ r.op = opRmw ∨ r.op = opLock) then none
  else match s.devTarget r.space with
    | none => some stNoRoute
    | some (k, i) => if r.op ≠ opLock ∧ ¬ s.ctlRaw k i ∧ s.devCheck k i r = some stNoRoute then some stNoRoute else none

/-- The points that a request to the point store touches. -/
def touched (r : Req) : List Nat := (List.range ((r.off + max r.len 1 - 1) / 64 - r.off / 64 + 1)).map fun i => r.off / 64 + i

/-- Check 4, and of check 6 the right to read (R44, R58) and the right to write (R43, R47). -/
def State.checkPoints (s : State) (r : Req) : Option Nat :=
  if r.space ≠ 0x100 then none
  else if ¬ (touched r).all fun n => (s.point n).configured then some stNoRoute
  else if (r.op = opRead ∨ r.op = opSubscribe) ∧ ¬ (touched r).all fun n => s.mayRead (s.who r) (s.point n) then some stDenied
  else if r.op = opWrite ∧ (s.point (r.off / 64)).refusesWrite (s.who r) (s.flag R.ID_COMMIT_COMMITTED) (r.off % 64) r.len then some stDenied
  else if r.op = opRmw ∧ (s.point (r.off / 64)).refusesRmw (s.who r) then some stDenied
  else none

/-- The request comes from PF0: slot 0 of this hub. -/
def State.isPf0 (s : State) (r : Req) : Bool := s.slotOf r = some 0

/-- Check 5: set-up and table space are for the management right (R428), and PF0-only registers for PF0 (R527). -/
def State.checkManage (s : State) (r : Req) : Option Nat :=
  if r.space ≠ 0x200 ∧ r.space ≠ 0x300 then none
  else if ¬ s.mayManage r then some stDenied
  else if r.space = 0x200 ∧ r.op ≠ opRead ∧ ¬ s.isPf0 r ∧ (pf0Only r.off ∨ (r.len = 8 ∧ pf0Only (r.off + 4))) then some stDenied
  else none

/-- A valid peer of slot `k`'s region names a node and, if one is given, a tenant (Table 03-10). -/
def State.isPeer (s : State) (k node : Nat) (tn : Option Nat) : Bool :=
  (List.range 8).any fun j => s.flag (R.HIF_RGN_PEER_VALID k j) ∧ s.rd (R.HIF_RGN_PEER_NODE k j) = node
    ∧ tn.all fun t => s.rd (R.HIF_RGN_PEER_TENANT k j) = t

/-- Slot `k` has an open region in its function's memory (R68). -/
def State.regionOpen (s : State) (k : Nat) : Bool := s.kind k ≠ kRing ∧ s.slotOn k ∧ s.flag (R.HIF_RGN_BASE_EN k)

/-- Check 6 for host memory (R68) and node management space (Table 01-5): a unicast assignment is refused too (R23). -/
def State.checkAccess (s : State) (r : Req) : Option Nat :=
  let k := r.off / 2 ^ 28
  if isRegion r then (if s.regionOpen k ∧ s.isPeer k r.src (some r.tn) then none else some stDenied)
  else if r.space = 0x3FFF ∧ (r.op = opWrite ∨ (r.op = opRead ∧ assignOff (r.off % 2 ^ 31))) then some stDenied
  else none

/-- Check 7: the size and alignment of a set-up access. -/
def checkSize (r : Req) : Option Nat :=
  if r.space = 0x200 ∧ ¬ ((r.len = 4 ∨ r.len = 8) ∧ r.off % r.len = 0) then some stBusError else none

/-- The checks of Table 01-13 in their order (R30): the status of the first that fails. -/
def State.targetCheck (s : State) (r : Req) : Option Nat :=
  [s.checkExtent r, s.checkDevice r, s.checkPoints r, s.checkManage r, s.checkAccess r, checkSize r].findSome? id

/-! ### Admission (R30, R124, R220, R466) -/

/-- Add a request to those that its opcode's command will carry out. -/
def State.queueReq (s : State) (r : Req) : State := { s with tgt := { s.tgt with accepted := s.tgt.accepted ++ [r] } }

/-- A timed request waits until its domain reads TIME; one that comes after TIME starts at once, LATE. -/
def State.admitTimed (s : State) (r : Req) : State :=
  let now := s.tdNow r.td
  let due := timeDec r.time
  if ¬ s.flag (R.TD_CFG_EN r.td) then s.refuse r stDataBad
  else if now < due then
    if 1024 ≤ s.tgt.held.length then s.refuse r stDenied else { s with tgt := { s.tgt with held := s.tgt.held ++ [r] } }
  else s.queueReq { r with late := decide (due < now) }

/-- A request reaches this hub as its target. -/
def State.enter (s : State) (r : Req) : State :=
  match s.targetCheck r with
  | some st => if st = stNoRoute then s.refuseRoute r else s.refuse r st
  | none =>
    if s.inSafe ∧ safeRefuses r then s.refuse r stSafe
    else if r.timed then s.admitTimed r
    else s.queueReq r

/-- The hub has joined the ring that a destination names, and accepts requests there (R31). -/
def State.isJoined (s : State) (node : Nat) : Bool :=
  (node / 256 = s.ringId 0 ∧ s.flag R.RING_NODE_STATE_JOINED) ∨ (s.junction ∧ node / 256 = s.ringId 1 ∧ s.flag R.RING_NODE_STATE_JOINED1)

/-- A unicast request of another hub: a release of a bus is acted on at once (R348), any other goes through the checks. -/
def State.reqIn (s : State) (f : Frame) : State :=
  let r := Req.ofFrame f
  if r.op = opUnlock then (s.releaseBus r.space r.src r.tn r.lockId).ok r 0 0 else s.enter r

/-- REQ_RECEIVE (R30). The one broadcast request has a command of its own, STATION_ASSIGNMENT. -/
def execReqReceive (f : Frame) (s : State) : Host.Outcome State Fault Refusal :=
  if f.typ = fReq ∧ f.mark = .valid ∧ s.consumes f ∧ s.isJoined f.dst ∧ ¬ s.pwr.asleep then .next (s.reqIn f).settle else .next s

/-- The state once its opcode's command has taken an admitted request from those that wait. -/
def State.taken (s : State) (r : Req) : State := { s with tgt := { s.tgt with accepted := s.tgt.accepted.erase r } }

/-- A request that goes through the bridge queue of its port. -/
def forBridge (r : Req) : Bool := r.space < 64 ∧ (r.op = opRead ∨ r.op = opWrite ∨ r.op = opRmw)

/-- The request is there, and in its turn: those for one port's bridge queue enter it in the order of their arrival (R336). -/
def State.inTurn (s : State) (r : Req) : Bool :=
  r ∈ s.tgt.accepted ∧ (forBridge r → s.tgt.accepted.find? (fun x => forBridge x ∧ x.space = r.space) = some r)

/-- A command that carries out an admitted request: it takes the request from those admitted, if it is in its turn and `c` holds. -/
def State.carry (s : State) (r : Req) (c : Bool) (f : State → State) : State :=
  if s.inTurn r ∧ c then (f (s.taken r)).settle else s

/-! ### A cell time (R357, R363, R364) -/

/-- A frame that a block's output holds whole goes to the block. A request that the host interface sent to a block of this hub reaches its target
there (R27 step 1); output 31 returns each frame to its input side, from where it goes to its block (Table 13-1). -/
def State.toBlock (s : State) (o : Nat) (x : QFrame) : State :=
  let s := s.emit (.toBlock o x.frame)
  if o = 31 then s.submit 31 (frameBlock x.frame) x.frame
  else if x.inp = bHost ∧ x.frame.typ = fReq then s.enter { Req.ofFrame x.frame with origin := .here x.frame.tag }
  else s

/-- Serve a block's output, one frame at a time in the order of R364: the frame started, once it is whole, goes to the block, and the next one
starts; `n` bounds the frames. -/
def State.handBlock (s : State) (o : Nat) : Nat → State
  | 0 => s
  | n + 1 =>
    match s.sw.queue.find? fun x => x.out = o ∧ x.started with
    | some x =>
      if x.moved < x.cells then s
      else (({ s with sw := { s.sw with queue := s.sw.queue.erase x } }).toBlock o x).handBlock o n
    | none =>
      match s.pickOut o with
      | (some x, s) => (s.markStarted x).handBlock o n
      | (none, s) => s

/-- The outputs after a cell time: lanes that are idle start a frame, frames for a failed port are wrapped (R157), and blocks take theirs. -/
def State.serveOutputs (s : State) : State :=
  let s := [0, 1, 2, 3, 4].foldl (fun s i =>
    if s.isUp i then s.startNext i
    else if s.sw.queue.any fun x => x.out = i ∧ x.moved = x.cells then s.failQueued i else s) s
  (List.range 27).foldl (fun s k =>
    let o := 5 + k
    s.handBlock o (2 * (s.sw.queue.filter fun x => x.out = o).length)) s

/-- SWITCH_CELL_TIME (R363): three iterations, pointers moved by first-iteration accepts, one cell per match. In DOZE the switch core is off
(R502). -/
def State.cellTime (s : State) : State :=
  let m1 := s.iteration []
  let m2 := s.iteration m1
  let m3 := s.iteration (m1 ++ m2)
  let s := m1.foldl (fun s r => { s with sw := { s.sw with
    gptr := NMap.set (fun _ => 0) s.sw.gptr r.o ((r.i + 1) % 32), aptr := NMap.set (fun _ => 0) s.sw.aptr r.i ((r.o + 1) % 32) } }) s
  ((m1 ++ m2 ++ m3).foldl (fun s r => s.moveCell r) s).serveOutputs

def execSwitchCellTime (s : State) : Host.Outcome State Fault Refusal :=
  if s.pwr.asleep then .next s else .next s.cellTime.settle

/-- TIMED_OP_DUE (R124): the domain of a held operation reads its TIME, and the operation starts. -/
def execTimedOpDue (r : Req) (s : State) : Host.Outcome State Fault Refusal :=
  if r ∈ s.tgt.held ∧ timeDec r.time ≤ s.tdNow r.td then .next ({ s with tgt := { s.tgt with held := s.tgt.held.erase r } }.queueReq r) else .next s

/-! ### Table space (R21, R326, R387 to R389) -/

/-- Bytes of a program store, from byte `o` of engine `e`. DESIGN CHOICE (log 61): an offset with [1:0] nonzero, to which Table 01-4 gives no status,
is served bytewise. -/
def State.progBytes (s : State) (e o n : Nat) : List Byte :=
  let ws := (List.range ((o % 4 + n + 3) / 4)).flatMap fun i => leBytes 4 (NMap.get (fun _ => 0) s.eng.prog (2048 * e + o / 4 + i)).toNat
  slice ws (o % 4) n

/-- Bytes of table space: the staging copy of a region, or either bank of a program store. -/
def State.tableBytes (s : State) (off n : Nat) : List Byte :=
  let g := off / 2 ^ 24
  let o := off % 2 ^ 24
  if g < 4 then memRead s.rfx.stg (tblKey g o) n else s.progBytes (g - 0x10) o n

/-- A region is closed to writes while it is ARMED or SYNCING; of a program store, the active bank, and both while a swap is pending. -/
def State.tableClosed (s : State) (off n : Nat) : Bool :=
  let g := off / 2 ^ 24
  let o := off % 2 ^ 24
  if g < 4 then s.flag (armedFld g) || s.flag (syncingFld g)
  else s.flag (R.ENG_STAT_SWAP_PENDING (g - 0x10)) || (o / 0x1000 == s.rd (R.ENG_STAT_ACTIVE_BANK (g - 0x10)))
    || ((o + n - 1) / 0x1000 == s.rd (R.ENG_STAT_ACTIVE_BANK (g - 0x10)))

/-- Store bytes in table space. -/
def State.storeTable (s : State) (off : Nat) (data : List Byte) : State :=
  let g := off / 2 ^ 24
  let o := off % 2 ^ 24
  if g < 4 then { s with rfx := { s.rfx with stg := memWrite s.rfx.stg (tblKey g o) data } }
  else
    let n := (o % 4 + data.length + 3) / 4
    let b := overlay (s.progBytes (g - 0x10) (o / 4 * 4) (4 * n)) (o % 4) data
    let prog := (List.range n).foldl (fun m i =>
      NMap.set (fun _ => 0) m (2048 * (g - 0x10) + o / 4 + i) (BitVec.ofNat 32 (leAt b (4 * i) 4))) s.eng.prog
    { s with eng := { s.eng with prog := prog } }

/-- Load table space, and arm the switch of its region or the swap of its engine (R119, R327, R388). -/
def State.loadTable (s : State) (r : Req) (activate : Bool) : State :=
  let g := r.off / 2 ^ 24
  if s.tableClosed r.off r.len then s.refuse r stDenied
  else
    let s := s.storeTable r.off r.data
    let s := if ¬ activate then s else if g < 4 then s.wr (armedFld g) 1 else s.armSwap (g - 0x10)
    s.ok r 0 r.len

/-! ### Node management space (Table 01-5) -/

/-- Milliseconds since the last announce of a station; 0 for one that has never announced, and for the hub's own. -/
def State.topoAge (s : State) (st : Nat) : Nat :=
  let t := s.topo 0 st
  if t.heardAt = 0 ∨ st = s.station 0 then 0 else min 65535 ((s.ns - t.heardAt) / 1000000)

/-- The eight bytes of a topology record entry (Table 01-6). DESIGN CHOICE (log 59): a junction shows the record of its E0/W0 ring. -/
def State.topoBytes (s : State) (st : Nat) : List Byte :=
  let t := s.topo 0 st
  if st = 0 ∨ st = 255 then leBytes 8 0
  else leBytes 8 (t.hopsB * 2 ^ 40 + t.hopsA * 2 ^ 32 + s.topoAge st * 2 ^ 16 + bnat t.master * 8 + bnat t.junction * 4 + bnat t.twin * 2
    + bnat t.present)

/-- The region that an offset lies in, as bytes from its base; registers as they read. -/
def State.mgmtBytes (s : State) (o : Nat) : List Byte × State :=
  if o < 0x100 then s.identity
  else if o < 0x2000 then
    let (ws, s) := s.readWords 0x51000 1024
    ((ws.map (leBytes 4)).flatten, s)
  else if o < 0x2800 then ((List.range 256).flatMap s.topoBytes, s)
  else
    let (w, s) := s.readWord 0x50018
    (leBytes 4 w, s)

/-- A READ of node management space. -/
def State.readMgmt (s : State) (r : Req) : State :=
  let o := r.off % 2 ^ 31
  let (b, s) := s.mgmtBytes o
  s.ok r 0 r.len (slice b (o - ((mgmtSpan o).getD (0, 0)).1) r.len)

/-! ### Set-up space (R338 to R340, R519 to R530) -/

/-- A line of set-up space that holds a byte of a register whose read has an effect. -/
def barredLine (base : Nat) : Bool := (List.range 16).any fun i => (findReg (base + 4 * i)).any fun h => latches h.reg

/-- A READ served directly. -/
def State.readDirect (s : State) (r : Req) : State :=
  let (b, s) := s.setupRead r.off r.len
  s.ok r 0 r.len b

/-- A READ of set-up space: from the cache, as a prefetching read, or directly. -/
def State.readSetup (s : State) (r : Req) : State :=
  let e := s.rngEntry 0x200 r.off (r.off + r.len - 1)
  if ¬ s.seFree e ∨ r.locked ∨ (lineBases 64 r.off r.len).any barredLine then s.readDirect r
  else match s.cacheHit (e.getD 0) 64 r.off r.len with
  | some (d, at_, s) => s.respond r { xfer := r.len, exec := s.timeOf r.td at_, data := d }
  | none =>
    match s.extent (e.getD 0) 64 r.off r.len 0x400000 barredLine with
    | none => s.readDirect r
    | some (a, c) =>
      let (ws, s) := s.readWords a (c / 4)
      let b := (ws.map (leBytes 4)).flatten
      (s.fill (e.getD 0) 64 0x200 a b r.off r.len r.src r.tn).ok r 0 r.len (slice b (r.off - a) r.len)

/-- A WRITE of set-up space: a request that resets the hub is answered by nobody. -/
def State.writeSetup (s : State) (r : Req) (v result : Nat) : State :=
  let s' := s.pf0Write r.off r.len v
  if s'.boot.stage = s.boot.stage then s'.ok r result r.len else s'

/-! ### Host memory (R68) -/

/-- The address of an offset of a registered region. -/
def State.regionAddr (s : State) (off : Nat) : Nat :=
  let k := off / 2 ^ 28
  s.rdAddr (R.HIF_RGN_BASE_BASE_W1 k) (R.HIF_RGN_BASE_BASE_W0 k) + off % 2 ^ 28

/-- A READ of host memory: `d` is what the host answers. -/
def State.readHost (s : State) (r : Req) (d : HostData) : State :=
  let k := r.off / 2 ^ 28
  if ¬ s.canSend k then s.refuse r stBusError
  else
    let s := s.emit (.hostRead k (s.regionAddr r.off) r.len "region")
    match d with
    | .failed => s.refuse r stBusError
    | .data b => s.ok r 0 r.len (slice b 0 r.len)

/-- A WRITE of host memory completes when it has been passed to the PCIe link (R108). -/
def State.writeHost (s : State) (r : Req) : State :=
  let k := r.off / 2 ^ 28
  if s.canSend k then (s.emit (.hostWrite k (s.regionAddr r.off) r.data)).ok r 0 r.len else s.refuse r stBusError

/-! ### READ, WRITE and RMW (R107 to R110) -/

def State.read (s : State) (r : Req) (d : HostData) : State :=
  if r.space < 64 then s.devAccess r
  else if r.space = 0x100 then s.ok r 0 r.len (s.readPoints r.off r.len)
  else if r.space = 0x200 then s.readSetup r
  else if r.space = 0x300 then s.ok r 0 r.len (s.tableBytes r.off r.len)
  else if r.space = 0x400 then s.readHost r d
  else s.readMgmt r

def State.write (s : State) (r : Req) : State :=
  if r.space < 64 then s.devAccess r
  else if r.space = 0x100 then
    let (st, s) := s.writePoint (s.who r) r.off r.data
    if st = stOk then (s.refreshPoint (r.off / 64)).ok r 0 r.len else s.refuse r st
  else if r.space = 0x200 then s.writeSetup r (leNat r.data) 0
  else if r.space = 0x300 then s.loadTable r false
  else if r.space = 0x400 then s.writeHost r
  else s.refuse r stDenied

/-- An RMW with the operands A and B of Table 04-9. -/
def State.rmw (s : State) (r : Req) : State :=
  let a := leAt r.operand 0 r.len
  let b := leAt r.operand 8 r.len
  if r.space < 64 then s.devAccess r
  else if r.space = 0x100 then
    let (st, v, s) := s.rmwPoint (s.who r) r.off r.opx r.len a b
    if st = stOk then s.ok r v r.len else s.refuse r st
  else
    let (d, s) := s.setupRead r.off r.len
    match rmwValue r.opx r.len (leNat d) a b with
    | none => s.ok r (leNat d) r.len
    | some x => s.writeSetup r x (leNat d)

def execRead (r : Req) (d : HostData) (s : State) : Host.Outcome State Fault Refusal := .next (s.carry r (r.op = opRead) (·.read r d))
def execWrite (r : Req) (s : State) : Host.Outcome State Fault Refusal := .next (s.carry r (r.op = opWrite) (·.write r))
def execRmwSwap (r : Req) (s : State) : Host.Outcome State Fault Refusal := .next (s.carry r (r.op = opRmw ∧ r.opx = 0) (·.rmw r))
def execRmwCas (r : Req) (s : State) : Host.Outcome State Fault Refusal := .next (s.carry r (r.op = opRmw ∧ r.opx = 1) (·.rmw r))
def execRmwAdd (r : Req) (s : State) : Host.Outcome State Fault Refusal := .next (s.carry r (r.op = opRmw ∧ r.opx = 2) (·.rmw r))
def execRmwAnd (r : Req) (s : State) : Host.Outcome State Fault Refusal := .next (s.carry r (r.op = opRmw ∧ r.opx = 3) (·.rmw r))
def execRmwOr (r : Req) (s : State) : Host.Outcome State Fault Refusal := .next (s.carry r (r.op = opRmw ∧ r.opx = 4) (·.rmw r))
def execRmwXor (r : Req) (s : State) : Host.Outcome State Fault Refusal := .next (s.carry r (r.op = opRmw ∧ r.opx = 5) (·.rmw r))
def execRmwMasked (r : Req) (s : State) : Host.Outcome State Fault Refusal := .next (s.carry r (r.op = opRmw ∧ r.opx = 6) (·.rmw r))

/-! ### LOCK, SEND and messages (R111, R114, R116, R344) -/

/-- LOCK (R344) at the bus's hub. -/
def execLock (r : Req) (s : State) : Host.Outcome State Fault Refusal := .next (s.carry r (r.op = opLock) (·.lockIn r.space r))

/-- RESULT of a RECV that a message fills (R116). -/
def msgResult (node tn box : Nat) : Nat := node + tn * 2 ^ 24 + box * 2 ^ 32

/-- A message for a slot's mailbox fills the RECV that matches: whether one did, and the state. -/
def State.message (s : State) (off node tn : Nat) (b : List Byte) : Bool × State :=
  let t := off / 2 ^ 28
  let box := off % 256
  match s.recvFor t 0 box (some (node, tn)) with
  | none => (false, s)
  | some (k, x) => (true, s.fillRecv k x b s.now (msgResult node tn box))

/-- A SEND at its target: a message, or a raw frame. -/
def State.send (s : State) (r : Req) : State :=
  if r.space < 64 then s.rawSend r.space r
  else if ¬ s.slotOn (r.off / 2 ^ 28) then s.refuse r stDenied
  else
    let (took, s) := s.message r.off r.src r.tn r.data
    if took then s.ok r 0 r.len else s.refuse r stBusNak

def execSend (r : Req) (s : State) : Host.Outcome State Fault Refusal := .next (s.carry r (r.op = opSend) (·.send r))

/-- MSG_MESSAGE_RECEIVE (R114, R144): a broadcast message. A slot that is not enabled, or has no RECV for it, does not take it, and nobody
answers. -/
def execMsgMessageReceive (f : Frame) (s : State) : Host.Outcome State Fault Refusal :=
  let off := bits f.arg 0 32
  if f.typ = fMsg ∧ f.op = 3 ∧ f.mark = .valid ∧ isBc f ∧ ¬ s.isMine f.src ∧ s.isJoined f.dst ∧ ¬ s.pwr.asleep ∧ bits f.arg 32 14 = 0x400
      ∧ s.slotOn (off / 2 ^ 28) then .next (s.message off f.src f.tn f.payload).2.settle
  else .next s

/-! ### SUBSCRIBE and UNSUBSCRIBE (R58 to R60, R117, R118) -/

/-- The subscription is the requester's. -/
def Sub.ofReq (u : Sub) (r : Req) : Bool :=
  u.node = r.src ∧ u.tn = r.tn ∧ u.slot = (match r.origin with | .here _ => some r.tn | .ring => none)

/-- A number not in use, in an order that starts at a free value. -/
def State.freeSub (s : State) : Nat × State :=
  let (v, s) := s.draw
  let used := s.pts.subs.map (·.num)
  ((((List.range (used.length + 1)).map fun i => (v + i) % 32768).find? (· ∉ used)).getD 0, s)

/-- Subscriptions that count for a slot's quota (R60). -/
def State.subsOf (s : State) (t : Nat) : Nat := (s.pts.subs.filter fun u => s.subSlot u = some t).length

/-- A new subscription goes beyond a bound of R60. -/
def State.subsFull (s : State) (r : Req) : Bool :=
  32768 ≤ s.pts.subs.length || (s.slotOf r).any fun t => s.rd (R.RFX_SUB_QUOTA_QUOTA t) ≤ s.subsOf t

def State.subscribe (s : State) (r : Req) (onChange : Bool) : State :=
  let n := r.off / 64
  let pair := leAt r.operand 8 1 % 32
  let db := leAt r.operand 0 8
  match s.pts.subs.find? fun u => u.ofReq r ∧ u.point = n ∧ u.pair = pair ∧ ¬ u.final with
  | some u => (s.setSub { u with onChange := onChange, deadband := db }).ok r u.num 0
  | none =>
    if s.subsFull r then s.refuse r stDenied
    else
      let (num, s) := s.freeSub
      let u : Sub := { num := num, point := n, slot := (match r.origin with | .here _ => some r.tn | .ring => none), node := r.src, tn := r.tn
                       pair := pair, onChange := onChange, deadband := db }
      let s := { s with pts := { s.pts with subs := s.pts.subs ++ [u] } }
      (s.wr R.RFX_SUB_USED_COUNT s.pts.subs.length).ok r num 0

def execSubscribeCyclic (r : Req) (s : State) : Host.Outcome State Fault Refusal :=
  .next (s.carry r (r.op = opSubscribe ∧ r.opx = 0) (·.subscribe r false))
def execSubscribeOnChange (r : Req) (s : State) : Host.Outcome State Fault Refusal :=
  .next (s.carry r (r.op = opSubscribe ∧ r.opx = 1) (·.subscribe r true))

def State.unsubscribe (s : State) (r : Req) : State :=
  match s.pts.subs.find? fun u => u.num = leAt r.operand 0 2 ∧ u.point = r.off / 64 ∧ u.ofReq r ∧ ¬ u.final with
  | some u => (s.endSub u.num).ok r 0 0
  | none => s.refuse r stDataBad

def execUnsubscribe (r : Req) (s : State) : Host.Outcome State Fault Refusal := .next (s.carry r (r.op = opUnsubscribe) (·.unsubscribe r))

/-! ### TABLE_LOAD and QUERY (R119, R121) -/

def execTableLoad (r : Req) (s : State) : Host.Outcome State Fault Refusal :=
  .next (s.carry r (r.op = opTableLoad ∧ r.opx = 0) (·.loadTable r false))
def execTableLoadActivate (r : Req) (s : State) : Host.Outcome State Fault Refusal :=
  .next (s.carry r (r.op = opTableLoad ∧ r.opx = 1) (·.loadTable r true))

/-- RING_TOPO and RING_NODE_STATE, as they read. -/
def State.queryTopo (s : State) (r : Req) : State :=
  let (a, s) := s.readWord 0x50020
  let (b, s) := s.readWord 0x50018
  s.ok r (a + b * 2 ^ 32) 0

def State.queryIdentity (s : State) (r : Req) : State :=
  let (b, s) := s.identity
  s.ok r 0 r.len b

def State.queryTags (s : State) (r : Req) : State :=
  s.ok r (s.held r.tn + s.rd (R.HIF_QUOTA_GUAR r.tn) * 2 ^ 16 + s.rd (R.HIF_QUOTA_QUOTA r.tn) * 2 ^ 32) 0

def execQueryTime (r : Req) (s : State) : Host.Outcome State Fault Refusal := .next (s.carry r (r.op = opQuery ∧ r.opx = 0) (·.ok r 0 0))
def execQueryTopology (r : Req) (s : State) : Host.Outcome State Fault Refusal := .next (s.carry r (r.op = opQuery ∧ r.opx = 1) (·.queryTopo r))
def execQueryIdentity (r : Req) (s : State) : Host.Outcome State Fault Refusal := .next (s.carry r (r.op = opQuery ∧ r.opx = 2) (·.queryIdentity r))
def execQueryTags (r : Req) (s : State) : Host.Outcome State Fault Refusal := .next (s.carry r (r.op = opQuery ∧ r.opx = 3) (·.queryTags r))

end Sys2Proof.Machine
end

