-- ==== Sys2Proof/Machine/Issue.lean ====
section
/-!
DEFINITION. Descriptors at the issuing hub (chapter 04): a descriptor that arrives, its checks and routing, responses, timeouts and path
loss, and the opcodes that act at the issuing hub alone.
-/

namespace Sys2Proof.Machine

/-! ### A descriptor (Tables 04-1, 04-2, 04-8) -/

/-- Opcodes that act at the issuing hub and ignore FA. -/
def localOp (op : Nat) : Bool := op = opUnlock ∨ op = opRecv ∨ op = opFence ∨ op = opPower ∨ op = opUpdate

/-- Opcodes that define sub-operation codes, and whether a code is defined (R96, R105). -/
def subOk (op x : Nat) : Bool :=
  if op = opRmw then x ≤ 6
  else if op = opSubscribe ∨ op = opTableLoad ∨ op = opFence ∨ op = opUpdate then x ≤ 1
  else if op = opQuery ∨ op = opPower then x ≤ 3
  else true

/-- The opcode has a length. -/
def hasLen (op x : Nat) : Bool :=
  op = opRead ∨ op = opWrite ∨ op = opRmw ∨ op = opSend ∨ op = opRecv ∨ op = opTableLoad ∨ op = opUpdate ∨ (op = opQuery ∧ x = 2)

/-- The opcode has sub-operation codes; the OPX of others is ignored. -/
def hasSub (op : Nat) : Bool :=
  op = opRmw ∨ op = opSubscribe ∨ op = opTableLoad ∨ op = opFence ∨ op = opQuery ∨ op = opPower ∨ op = opUpdate

/-- The request that the 64 bytes of a descriptor of pair `p` spell, under tag `k`. -/
def State.descReq (s : State) (p k : Nat) (b : List Byte) : Req :=
  let fl := leAt b 1 1
  let op := leAt b 0 1
  let opx := if hasSub op then leAt b 7 1 else 0
  let fa := leAt b 8 8
  let len := if hasLen op opx then leAt b 4 2 else 0
  let inl : Bool := bit fl 3 ∧ (op = opRead ∨ op = opWrite)
  { origin := .here k, src := s.node0, tn := p / 32, tag := k, gen := (s.tag k).gen, op := op, opx := opx
    node := bits fa 46 18, space := bits fa 32 14, off := bits fa 0 32, len := len, tc := leAt b 6 1 % 8
    timed := bit fl 0, idemp := bit fl 1, locked := bit fl 2, inlined := inl
    lockId := leAt b 0x18 2, time := leAt b 0x30 12, td := leAt b 0x3C 1 % 8, operand := slice b 0x20 16
    data := if op = opWrite ∧ inl then slice b 0x20 len else [] }

/-- The opcode moves data to or from the tenant's buffer (R97). -/
def usesBuffer (r : Req) : Bool :=
  ((r.op = opRead ∨ r.op = opWrite) ∧ ¬ r.inlined) ∨ r.op = opSend ∨ r.op = opRecv ∨ r.op = opTableLoad ∨ r.op = opUpdate
    ∨ (r.op = opQuery ∧ r.opx = 2)

/-- The hub reads the request's data from the buffer before it sends the request. -/
def readsBuffer (r : Req) : Bool := (r.op = opWrite ∧ ¬ r.inlined) ∨ r.op = opSend ∨ r.op = opTableLoad ∨ r.op = opUpdate

/-! ### Checks (Table 04-7) -/

/-- Check 2: the space is permitted for the opcode. -/
def spaceOk (r : Req) : Bool :=
  if localOp r.op then true
  else if r.op = opRead ∨ r.op = opWrite then knownSpace r.space
  else if r.op = opRmw then r.space < 64 ∨ r.space = 0x100 ∨ r.space = 0x200
  else if r.op = opLock then r.space < 64
  else if r.op = opSend then r.space < 64 ∨ r.space = 0x400
  else if r.op = opSubscribe ∨ r.op = opUnsubscribe then r.space = 0x100
  else if r.op = opTableLoad then r.space = 0x300
  else r.space = 0x3FFF

/-- LEN, alignment and the offsets and operands that the opcode constrains (R98, R107, R109, R114, R115, R117, R119, R121 to R123, R46). -/
def lenOk (r : Req) : Bool :=
  let n := r.len
  if r.op = opRead ∨ r.op = opWrite then
    1 ≤ n ∧ n ≤ 2048 ∧ (r.inlined → n ≤ 8) ∧ ¬ (r.op = opRead ∧ r.space = 0x100 ∧ 32 < (touched r).length)
  else if r.op = opRmw then (n = 4 ∨ n = 8) ∧ r.off % n = 0
  else if r.op = opSend then 1 ≤ n ∧ n ≤ 2048 ∧ (if r.space = 0x400 then bits r.off 8 20 = 0 else r.off = 0)
  else if r.op = opRecv then
    1 ≤ n ∧ n ≤ 2048 ∧ leAt r.operand 0 1 ≤ 1 ∧ (leAt r.operand 0 1 = 1 → leAt r.operand 1 1 < 64)
  else if r.op = opSubscribe then r.off % 64 = 0
  else if r.op = opTableLoad then 4 ≤ n ∧ n ≤ 2048 ∧ n % 4 = 0 ∧ r.off % 4 = 0
  else if r.op = opQuery then r.off = 0 ∧ (r.opx = 2 → n = 256)
  else if r.op = opPower then r.opx = 1 → leAt r.operand 0 1 = 1 ∨ leAt r.operand 0 1 = 2
  else if r.op = opUpdate then 1 ≤ n ∧ n ≤ 2048
  else true

/-- TIMED is allowed for the opcode, and TIME is a time not more than HIF_TMO − 32 µs ahead in the hub's own domain (R124, Table 04-8). -/
def State.timeOk (s : State) (r : Req) : Bool :=
  ¬ r.timed ∨
    ((r.op = opRead ∨ r.op = opWrite ∨ r.op = opRmw ∨ r.op = opSend ∨ r.op = opTableLoad) ∧ bits r.time 16 32 < 1000000000
      ∧ timeDec r.time ≤ s.tdNow r.td + (s.rd (R.HIF_TMO_TMO r.tn) - 32) * 1000 * 65536)

/-- Checks 5 and 6, and R111 and R112: the sequence of an operation with LOCKED set, or of an UNLOCK, and the bounds of a LOCK, which is in flight
itself here and counts among those that open a sequence. DESIGN CHOICE
(log 62): R105 gives R111, R112 and R115 no place relative to routing; they come before it. -/
def State.checkLock (s : State) (r : Req) : Option Nat :=
  let inSeq := r.locked ∧ (r.op = opRead ∨ r.op = opWrite ∨ r.op = opRmw ∨ r.op = opLock)
  let bus := (if (r.node / 256 = 0 ∧ r.node % 256 = 0) ∨ s.isMine (s.absNode r.node) then s.node0 else s.absNode r.node, r.space)
  if r.op = opLock ∧ ¬ r.locked then
    let opening := s.flights.filter fun (_, t) => t.req.op = opLock ∧ ¬ t.req.locked ∧ ¬ t.done
    if 64 < s.hif.locks.length + opening.length then some stDenied else none
  else if inSeq ∨ r.op = opUnlock then
    match s.lockSeq r.tn r.lockId with
    | none => some stDataBad
    | some q =>
      if r.op = opUnlock then none
      else if q.dead s.ns then some stAborted
      else if r.op = opLock then
        if 4 ≤ q.buses.length then some stDenied
        else if q.buses.all fun b => b.1 < bus.1 ∨ (b.1 = bus.1 ∧ b.2 < bus.2) then none else some stDataBad
      else if bus ∈ q.buses then none else some stDenied
  else none

/-- The issuing hub refuses the operation in the safe state (Table 18-3). -/
def safeStops (r : Req) : Bool := safeRefuses r ∨ r.op = opSubscribe

/-- The checks of Table 04-7 but for routing, then the owner of a raw port (R115) and the safe state: the status of the first that fails. -/
def State.descCheck (s : State) (r : Req) (haddr : Nat) : Option Nat :=
  if r.op = 0 ∨ 14 < r.op ∨ ¬ subOk r.op r.opx ∨ ¬ spaceOk r then some stUnsupported
  else if (r.op = opTableLoad ∨ r.op = opPower ∨ r.op = opUpdate) ∧ r.tn ≠ 0 then some stDenied
  else if ¬ lenOk r ∨ ¬ s.timeOk r ∨ (usesBuffer r ∧ ¬ s.addrOk r.tn haddr) then some stDataBad
  else if r.op = opQuery ∧ r.opx = 3 ∧ s.route r.node false ≠ .here then some stDataBad
  else match s.checkLock r with
  | some st => some st
  | none =>
    if r.op = opRecv ∧ leAt r.operand 0 1 = 1 ∧ s.rd (R.PCTL_PORT_RAW_OWN (leAt r.operand 1 1)) ≠ r.tn then some stDenied
    else if s.inSafe ∧ safeStops r then some stSafe else none

/-! ### Sending (R16, R18, R27, R28, R111, R399) -/

/-- LOCK_TIME as R111 reads it, and whether it was clamped. -/
def lockTime (v : Nat) : Nat × Bool :=
  if v = 0 then (1000, false) else if v < 10 then (10, true) else if 100000 < v then (100000, true) else (v, false)

/-- A LOCK as it is sent: its LOCK_TIME in force, and LOCK_ID 0 when it opens a sequence (R344). A bus that it adds is in the sequence from here
on (R348). -/
def State.prepareLock (s : State) (r : Req) : Req × State :=
  if r.op ≠ opLock then (r, s)
  else
    let (us, clamped) := lockTime (leAt r.operand 0 4)
    let r := { r with operand := leBytes 4 us ++ r.operand.drop 4, lockId := if r.locked then r.lockId else 0 }
    let s := if clamped then s.inc R.HIF_CLAMP_CNT_COUNT else s
    (r, if r.locked then s.mapLocks fun l => l.map fun q =>
        if q.slot = r.tn ∧ q.id = r.lockId then
          { q with buses := q.buses ++ [(r.node, r.space)], sent := q.sent.filter (· ≠ (r.node, r.space)) ++ [(r.node, r.space)] }
        else q
      else s)

/-- The frame of a broadcast: a MSG for a SEND, with no extension and TD 0 (R139), a REQ for a WRITE (R144). -/
def bcFrame (r : Req) (dst : Nat) : Frame :=
  if r.op = opSend then
    { typ := fMsg, tc := r.tc, dst := dst, tn := r.tn, src := r.src, gen := r.gen, tag := r.tag, op := 3, arg := r.fa, payload := r.data }
  else { r.toFrame with dst := dst }

/-- Put a transaction in flight. -/
def State.fly (s : State) (k : Nat) (t : Tx) : State := s.setTag k { s.tag k with use := .flight t }

/-- A member of a twin pair passes a request to the pair's node on to its partner: the standby all but TWIN_SEL 1, the active those (R22,
R399). -/
def State.forPartner (s : State) (r : Req) : Bool :=
  if s.standby then !twinSel r else s.rd R.TWIN_STAT_ROLE = 1 ∧ twinSel r

/-- Send a transaction's request: to a block of this hub through the switch core (R27 step 1, R359), to a ring, or to a whole ring. -/
def State.sendReq (s : State) (k : Nat) (t : Tx) (rt : Route) : State :=
  match rt with
  | .noRoute => (s.inc R.RING_NOROUTE_CNT_MISS).complete k t { status := stNoRoute }
  | .here =>
    let (r, s) := s.prepareLock { t.req with node := s.node0 }
    let s := s.fly k { t with req := r }
    s.submit bHost (if s.forPartner r then lane 0 0 else reqBlock r.space r.off) { r.toFrame with dst := s.node0 }
  | .broadcast n =>
    let r := { t.req with node := nodeId (s.ringId n) 255 }
    (s.fly k { t with req := r, ring := n }).submit bHost (lane n 0) (bcFrame r r.node)
  | .to n via d =>
    let (r, s) := s.prepareLock { t.req with node := s.absNode t.req.node }
    (s.fly k { t with req := r, remote := true, ring := n, via := via, dir := d }).submit bHost (lane n d) { r.toFrame with dst := r.node }

/-- The data of the request from the tenant's buffer (R92): none when the read fails. -/
def State.fetchData (s : State) (t : Tx) (buf : HostData) : Option (List Byte) × State :=
  if ¬ readsBuffer t.req then (some t.req.data, s)
  else if ¬ s.canSend t.slot then (none, s)
  else
    let s := s.hostRead t.slot t.haddr t.req.len "data"
    (match buf with
      | .failed => none
      | .data b => some (slice b 0 t.req.len), s)

/-- A descriptor that has passed its checks goes on: an operation of this hub alone waits for its command; another is routed, and its data
fetched. DESIGN CHOICE (log 60): a broadcast assignment WRITE is sent whatever its length, and completes as R18 says. -/
def State.issue (s : State) (k : Nat) (t : Tx) (buf : HostData) : State :=
  let r := t.req
  let bc : Bool := (r.op = opWrite ∧ r.space = 0x3FFF) ∨ (r.op = opSend ∧ r.space = 0x400)
  let rt := if localOp r.op then Route.here else s.route r.node bc
  if rt = .noRoute then s.sendReq k t rt
  else
    let (d, s) := s.fetchData t buf
    match d with
    | none => s.complete k t { status := stBusError }
    | some b =>
      let t := { t with req := { r with data := b } }
      if localOp r.op then (s.fly k t).queueReq t.req else s.sendReq k t rt

/-- A descriptor of pair `p` has arrived and takes tag `k` (R72, R86, R105). -/
def State.descIn (s : State) (p k : Nat) (b : List Byte) (buf : HostData) : State :=
  let r := s.descReq p k b
  let t : Tx :=
    { slot := p / 32, pair := p, cid := leAt b 2 2, req := r, haddr := leAt b 0x10 8, seq := s.hif.seq, startAt := s.ns
      tmo := s.rd (R.HIF_TMO_TMO (p / 32)) }
  let s := { s with hif := { s.hif with seq := s.hif.seq + 1 } }
  let s := s.fly k t
  match s.descCheck r t.haddr with
  | some st => s.complete k t { status := st }
  | none => s.issue k t buf

/-- The head of a pair moves past a descriptor whose read has been answered. -/
def State.advance (s : State) (p : Nat) : State :=
  let x := s.pair p
  s.setPair p { x with head := (x.head + 1) % s.sqDepth p, asked := x.asked - 1 }

/-- DESCRIPTOR_ARRIVAL (R72, R91, R105): the oldest descriptor read of pair `p` is answered with `d`; `buf` is what the host answers to the read of
the data that the descriptor asks for. -/
def execDescriptorArrival (p : Fin 512) (d buf : HostData) (s : State) : Host.Outcome State Fault Refusal :=
  if (s.pair p).st ≠ .run ∨ (s.pair p).asked = 0 ∨ s.fenced p then .next s
  else match d with
  | .failed => .next ((s.stop p 3).drain p).settle
  | .data b =>
    let (k, s) := s.pickTag
    match k with
    | none => .next s
    | some k => .next ((s.advance p).descIn p k (slice b 0 64) buf).settle

/-! ### How a transaction ends (R83, R88, R91, R126 to R129) -/

/-- TRANSACTION_TIMEOUT (R129): RECV, FENCE and UPDATE have none (R130). -/
def execTransactionTimeout (k : Fin 8192) (s : State) : Host.Outcome State Fault Refusal :=
  match s.flight k with
  | none => .next s
  | some t =>
    if t.done ∨ t.req.op = opRecv ∨ t.req.op = opFence ∨ t.req.op = opUpdate then .next s else .next (s.abort k stTimeout).settle

/-- The outcome that a RSP frame carries (Table 05-8). -/
def rspOutc (f : Frame) : Outc :=
  { status := f.op, result := leAt f.ext 0 8, exec := leAt f.ext 8 12, xfer := leAt f.ext 0x14 2 % 4096, late := bit (leAt f.ext 0x16 1) 0, data := f.payload
    node := some f.src }

/-- A release of an UNLOCK has been answered; the last one completes it (R113). -/
def State.released (s : State) (k : Nat) (t : Tx) (f : Frame) : State :=
  if t.need ≤ 1 then s.finish k f.gen { status := if t.aborted then stAborted else stOk, exec := leAt f.ext 8 12 }
  else s.fly k { t with need := t.need - 1, waits := t.waits.eraseP fun w => w.1 = f.src }

/-- A RSP frame at the issuing hub. -/
def State.rspIn (s : State) (f : Frame) : State :=
  let s := if f.ceEcho then s.inc R.RING_CE_CNT_COUNT else s
  match s.flight f.tag with
  | some t =>
    if t.req.op = opUnlock ∧ f.gen = (s.tag f.tag).gen ∧ ¬ t.done then s.released f.tag t f else s.finish f.tag f.gen (rspOutc f)
  | none => s.finish f.tag f.gen (rspOutc f)

/-- The outcome of the oldest entry write to the memory of a slot of kind RING that is not confirmed (R91, R83): each INTERRUPT that waits for it
alone is sent, or dropped when it has failed, and a failed one stops the pair. -/
def State.cqWritten (s : State) (p : Nat) (ok : Bool) : State :=
  let x := s.pair p
  if x.unconf = 0 then s
  else
    let n := x.irqDue.map (· - 1)
    let s := s.setPair p { x with unconf := x.unconf - 1, irqDue := n.filter (· ≠ 0) }
    if ok then (n.filter (· = 0)).foldl (fun s _ => s.signal (p / 32) (s.rd (R.Q_CFG_VEC (p / 32) (p % 32))) false) s
    else s.stop p 4

/-- The outcome of the write of a transaction's data to the memory of a slot of kind RING (R92): its entry follows. -/
def State.dataWritten (s : State) (k : Nat) (ok : Bool) : State :=
  match s.flight k with
  | some t =>
    match t.confirm with
    | some e => (s.fly k { t with confirm := none }).post t.pair (if ok then e else e.busError)
    | none => s
  | none => s

/-- The outcome of the write that clears the summary byte of pair `p` of a slot of kind RING: one that fails stops the pair (R91). Table 03-19 names
no REASON for this cause, so it is a free one (log 54). -/
def State.sumWritten (s : State) (p : Nat) (ok : Bool) : State :=
  if ok ∨ s.kind (p / 32) ≠ kRing ∨ (s.pair p).st ≠ .run then s
  else
    let (v, s) := s.draw
    (s.stopFor p (1 + v % 6) true).drain p

/-- RSP_RECEIVE (R129, R91, R92). -/
def execRspReceive (x : RspIn) (s : State) : Host.Outcome State Fault Refusal :=
  match x with
  | .cqWrite p ok => .next (s.cqWritten p ok).settle
  | .dataWrite k ok => .next (s.dataWritten k ok).settle
  | .sumWrite p ok => .next (s.sumWritten p ok).settle
  | .frame _ f => if f.typ = fRsp ∧ f.mark = .valid ∧ s.consumes f ∧ ¬ s.pwr.asleep then .next (s.rspIn f).settle else .next s

/-- PATH_LOSS (R127): a notice for tag `k` of generation `g`. -/
def execPathLoss (k : Fin 8192) (g : Fin 8) (s : State) : Host.Outcome State Fault Refusal := .next (s.pathNotice k g).settle

/-! ### Opcodes of the issuing hub alone -/

/-- The transaction of a local request. -/
def State.txOf (s : State) (r : Req) : Option (Nat × Tx) :=
  match r.origin with
  | .here k => (s.flight k).map fun t => (k, t)
  | .ring => none

/-- UNLOCK (R113, R348): a release to every bus; it completes once every other hub has answered. -/
def State.unlock (s : State) (r : Req) : State :=
  match s.txOf r, s.lockSeq r.tn r.lockId with
  | some (k, t), some q =>
    let waits := s.releaseWaits q
    let s := (s.fly k { t with need := waits.length, waits := waits, aborted := q.dead s.ns }).closeSeq r.tn r.lockId k r.gen r.tc r.td
    if waits = [] then s.respond r { status := if q.dead s.ns then stAborted else stOk, exec := s.tdEnc r.td } else s
  | _, _ => s.refuse r stDataBad

def execUnlock (r : Req) (s : State) : Host.Outcome State Fault Refusal := .next (s.carry r (r.op = opUnlock) (·.unlock r))

/-- RECV (R115, R116, R287): the buffer is posted, and takes the oldest raw item that waits for it. -/
def State.recv (s : State) (r : Req) : State :=
  let p := leAt r.operand 1 1
  if leAt r.operand 0 1 ≠ 1 then s
  else match s.rxq p, s.recvFor r.tn 1 p none with
  | x :: xs, some (k, t) => (s.setRxq p xs).fillRecv k t x.bytes x.at_ p
  | _, _ => s

def execRecv (r : Req) (s : State) : Host.Outcome State Fault Refusal := .next (s.carry r (r.op = opRecv) (·.recv r))

/-- The pairs in the scope of a FENCE (R120). -/
def fenceScope (t : Tx) : List Nat := if t.req.opx = 1 then (List.range 32).map (32 * t.slot + ·) else [t.pair]

/-- A FENCE takes hold: descriptor reads of its scope that are out are not taken. -/
def State.fence (s : State) (r : Req) : State :=
  match s.txOf r with
  | some (_, t) => (fenceScope t).foldl (fun s p => s.setPair p { s.pair p with asked := 0 }) s
  | none => s

def execFenceSq (r : Req) (s : State) : Host.Outcome State Fault Refusal := .next (s.carry r (r.op = opFence ∧ r.opx = 0) (·.fence r))
def execFenceSlot (r : Req) (s : State) : Host.Outcome State Fault Refusal := .next (s.carry r (r.op = opFence ∧ r.opx = 1) (·.fence r))

/-- Descriptors of the scope fetched before the FENCE are still to complete; RECVs are not waited for (R120). -/
def State.fenceWaits (s : State) (t : Tx) : Bool :=
  s.flights.any fun (_, u) => u.pair ∈ fenceScope t ∧ u.seq < t.seq ∧ u.req.op ≠ opRecv ∧ ¬ u.detached

/-- FENCE_DONE (R120). -/
def execFenceDone (k : Fin 8192) (s : State) : Host.Outcome State Fault Refusal :=
  match s.flight k with
  | none => .next s
  | some t =>
    if t.req.op ≠ opFence ∨ t.done ∨ t.req ∈ s.tgt.accepted ∨ s.fenceWaits t then .next s
    else .next (s.finish k (s.tag k).gen { exec := s.tdEnc t.req.td }).settle

def execPowerRun (r : Req) (s : State) : Host.Outcome State Fault Refusal := .next (s.carry r (r.op = opPower ∧ r.opx = 0) (·.power r))
def execPowerTrim (r : Req) (s : State) : Host.Outcome State Fault Refusal := .next (s.carry r (r.op = opPower ∧ r.opx = 1) (·.power r))
def execPowerDoze (r : Req) (s : State) : Host.Outcome State Fault Refusal := .next (s.carry r (r.op = opPower ∧ r.opx = 2) (·.power r))
def execPowerDormant (r : Req) (s : State) : Host.Outcome State Fault Refusal := .next (s.carry r (r.op = opPower ∧ r.opx = 3) (·.power r))

/-! ### UPDATE (R123, R449, R450, R453) -/

/-- The slot that a staging of a kind fills: the one that is not running or not active; bundle slot 0 while none is active. -/
def State.stageSlot (s : State) (kind : Nat) : Nat :=
  if kind = 1 then 1 - s.rd R.ID_BOOT_STAT_FW_SLOT
  else if s.flag R.ID_BOOT_STAT_BND_ZERO then 0 else 1 - s.rd R.ID_BOOT_STAT_BND_SLOT

/-- An UPDATE ends with DATA_BAD for a reason of Table 17-3, or of none, and the staging is abandoned. -/
def State.updateBad (s : State) (r : Req) (kind reason : Nat) : State :=
  let s := s.setStaging kind none 0
  (if reason = 0 then s else s.wr R.ID_UPD_STAT_REASON reason).refuse r stDataBad

/-- The chunk has been stored: the last one is checked, and the slot becomes STAGED. -/
def State.updateEnd (s : State) (r : Req) (kind : Nat) (last : Bool) : State :=
  match s.staging kind with
  | none => s.refuse r stDataBad
  | some g =>
    if ¬ last then s.ok r 0 r.len
    else if g.bytes.length ≠ g.total then s.updateBad r kind 0
    else
      let (why, s) := s.stageLast kind (s.stageSlot kind) g.bytes
      if why ≠ 0 then (s.wr R.ID_UPD_STAT_REASON why).refuse r stDataBad
      else (s.logAudit 0x23 r.opx 0 (objSvn g.bytes + objBodyLen g.bytes * 2 ^ 32) s.node0 0).ok r 0 r.len

/-- A chunk: `refused` are the conditions of R450 that hold, `err` says that Kaolin's write fails, which it does once its link is lost (R552). -/
def State.update (s : State) (r : Req) (kind refused : Nat) (err : Bool) : State :=
  let off := leAt r.operand 0 4
  let total := leAt r.operand 4 4
  let last := bit (leAt r.operand 8 1) 0
  if (off = 0 ∨ last) ∧ refused ≠ 0 then (s.wr R.ID_UPD_STAT_REFUSE refused).refuse r stDenied
  else if off = 0 then
    if r.len < 512 then ((s.setObj kind (s.stageSlot kind) {}).updateBad r kind 0x01)
    else if total < r.len then ((s.setObj kind (s.stageSlot kind) {}).updateBad r kind 0x04)
    else
      let (why, s) := s.stageFirst kind (s.stageSlot kind) total r.data
      if why ≠ 0 then s.updateBad r kind why
      else if err then (s.stageError kind (s.stageSlot kind)).refuse r stBusError
      else s.updateEnd r kind last
  else match s.staging kind with
  | none => s.refuse r stDataBad
  | some g =>
    if g.bytes.length ≠ off ∨ g.total ≠ total ∨ g.total < off + r.len then s.updateBad r kind 0
    else if err then (s.stageError kind (s.stageSlot kind)).refuse r stBusError
    else (s.setStaging kind (some { g with bytes := g.bytes ++ r.data }) 1).updateEnd r kind last

def execUpdateFirmware (r : Req) (e : StopEnv) (err : Bool) (s : State) : Host.Outcome State Fault Refusal :=
  .next (s.carry r (r.op = opUpdate ∧ r.opx = 0) (fun t => t.update r 1 (t.refusals e) (err || t.pwr.kaolinLost)))
def execUpdateBundle (r : Req) (e : StopEnv) (err : Bool) (s : State) : Host.Outcome State Fault Refusal :=
  .next (s.carry r (r.op = opUpdate ∧ r.opx = 1) (fun t => t.update r 2 (t.refusals e) (err || t.pwr.kaolinLost)))

/-! ### Messages to this hub (R61, R83, R118, R144) -/

/-- Hand a delivery of a subscription held elsewhere to its CQ, or keep it pending (R61). A final entry ends the subscription. -/
def State.deliverRemote (s : State) (u : RemSub) (d : Dlv) (overrun : Bool) : State :=
  let p := 32 * u.slot + u.pair
  if (s.pair p).st = .idle then s
  else if s.mayPut p then
    (s.setRemSub u (if d.status = stOk then some u else none)).putEntry p (d.entry u.node overrun)
  else
    let s := s.stopUnsent p
    if u.pend.isSome then (s.setRemSub u (some { u with pend := some d, overrun := true })).inc (R.RFX_SUB_LOST_COUNT u.slot)
    else
      let s := { s with pts := { s.pts with pendSeq := s.pts.pendSeq + 1 } }
      s.setRemSub u (some { u with pend := some d, overrun := overrun, pendSeq := s.pts.pendSeq })

/-- The delivery that a DELIVERY MSG carries (Table 05-9). -/
def msgDlv (b : List Byte) : Dlv :=
  { value := leAt b 0 8, ts := leAt b 8 12, quality := leAt b 0x14 1, td := leAt b 0x15 1 % 8, point := leAt b 0x16 2, status := leAt b 0x1B 1 }

/-- MSG_DELIVERY_RECEIVE (R118, R144): a delivery to no subscription of this hub's tenants is discarded. -/
def execMsgDeliveryReceive (f : Frame) (s : State) : Host.Outcome State Fault Refusal :=
  let w := leAt f.payload 0x18 2
  if f.typ ≠ fMsg ∨ f.op ≠ 1 ∨ f.mark ≠ .valid ∨ ¬ s.consumes f ∨ s.pwr.asleep then .next s
  else match s.pts.remote.find? fun u => u.node = f.src ∧ u.slot = f.tn ∧ u.num = w % 32768 with
  | none => .next s
  | some u => .next (s.deliverRemote u (msgDlv f.payload) (bit w 15))

/-- MSG_INTERRUPT_RECEIVE (R83): the vector of a tenant behind this hub's PCIe link is raised when the sender is a valid peer of its region. -/
def execMsgInterruptReceive (f : Frame) (s : State) : Host.Outcome State Fault Refusal :=
  if f.typ = fMsg ∧ f.op = 2 ∧ f.mark = .valid ∧ s.consumes f ∧ ¬ s.pwr.asleep ∧ s.regionOpen f.tn ∧ s.isPeer f.tn f.src none then
    .next (s.raiseVector f.tn (leAt f.payload 0 1))
  else .next s

end Sys2Proof.Machine
end

