-- ==== Sys2Proof/Machine/Dispatch.lean ====
section
/-!
DEFINITION. The dispatch of a command to its meaning: one arm per constructor of `Instr`.
-/

namespace Sys2Proof.Machine

def exec (i : Instr) (s : State) : Host.Outcome State Fault Refusal :=
  match i with
  | .powerPathStart => Sys2Proof.Machine.execPowerPathStart s
  | .seatingConfirmed => Sys2Proof.Machine.execSeatingConfirmed s
  | .railsGood => Sys2Proof.Machine.execRailsGood s
  | .boot o => Sys2Proof.Machine.execBoot o s
  | .bootReset e => Sys2Proof.Machine.execBootReset e s
  | .bootRecover e => Sys2Proof.Machine.execBootRecover e s
  | .rcvChunkGo len last err => Sys2Proof.Machine.execRcvChunkGo len last err s
  | .rcvServeStart ix fw => Sys2Proof.Machine.execRcvServeStart ix fw s
  | .rcvTransferDone ix ok peer image => Sys2Proof.Machine.execRcvTransferDone ix ok peer image s
  | .commit => Sys2Proof.Machine.execCommit s
  | .registerWrite q off wide v => Sys2Proof.Machine.execRegisterWrite q off wide v s
  | .pcieReset down => Sys2Proof.Machine.execPcieReset down s
  | .functionLevelReset t => Sys2Proof.Machine.execFunctionLevelReset t s
  | .summaryEnable t addr => Sys2Proof.Machine.execSummaryEnable t addr s
  | .slotDisable t => Sys2Proof.Machine.execSlotDisable t s
  | .regionDisable t => Sys2Proof.Machine.execRegionDisable t s
  | .qEnable p => Sys2Proof.Machine.execQEnable p s
  | .qReset p enZero => Sys2Proof.Machine.execQReset p enZero s
  | .summaryPoll t => Sys2Proof.Machine.execSummaryPoll t s
  | .summaryReadDone t d => Sys2Proof.Machine.execSummaryReadDone t d s
  | .doorbellReadDone p d => Sys2Proof.Machine.execDoorbellReadDone p d s
  | .descriptorArrival p d buf => Sys2Proof.Machine.execDescriptorArrival p d buf s
  | .coalesceTimer p => Sys2Proof.Machine.execCoalesceTimer p s
  | .quarantineEnd k => Sys2Proof.Machine.execQuarantineEnd k s
  | .transactionTimeout k => Sys2Proof.Machine.execTransactionTimeout k s
  | .rspReceive x => Sys2Proof.Machine.execRspReceive x s
  | .pathLoss k g => Sys2Proof.Machine.execPathLoss k g s
  | .queueManagerError e => Sys2Proof.Machine.execQueueManagerError e s
  | .pcieLinkLoss lost => Sys2Proof.Machine.execPcieLinkLoss lost s
  | .reqReceive f => Sys2Proof.Machine.execReqReceive f s
  | .read r d => Sys2Proof.Machine.execRead r d s
  | .write r => Sys2Proof.Machine.execWrite r s
  | .rmwSwap r => Sys2Proof.Machine.execRmwSwap r s
  | .rmwCas r => Sys2Proof.Machine.execRmwCas r s
  | .rmwAdd r => Sys2Proof.Machine.execRmwAdd r s
  | .rmwAnd r => Sys2Proof.Machine.execRmwAnd r s
  | .rmwOr r => Sys2Proof.Machine.execRmwOr r s
  | .rmwXor r => Sys2Proof.Machine.execRmwXor r s
  | .rmwMasked r => Sys2Proof.Machine.execRmwMasked r s
  | .lock r => Sys2Proof.Machine.execLock r s
  | .unlock r => Sys2Proof.Machine.execUnlock r s
  | .send r => Sys2Proof.Machine.execSend r s
  | .recv r => Sys2Proof.Machine.execRecv r s
  | .subscribeCyclic r => Sys2Proof.Machine.execSubscribeCyclic r s
  | .subscribeOnChange r => Sys2Proof.Machine.execSubscribeOnChange r s
  | .unsubscribe r => Sys2Proof.Machine.execUnsubscribe r s
  | .tableLoad r => Sys2Proof.Machine.execTableLoad r s
  | .tableLoadActivate r => Sys2Proof.Machine.execTableLoadActivate r s
  | .fenceSq r => Sys2Proof.Machine.execFenceSq r s
  | .fenceSlot r => Sys2Proof.Machine.execFenceSlot r s
  | .fenceDone k => Sys2Proof.Machine.execFenceDone k s
  | .queryTime r => Sys2Proof.Machine.execQueryTime r s
  | .queryTopology r => Sys2Proof.Machine.execQueryTopology r s
  | .queryIdentity r => Sys2Proof.Machine.execQueryIdentity r s
  | .queryTags r => Sys2Proof.Machine.execQueryTags r s
  | .powerRun r => Sys2Proof.Machine.execPowerRun r s
  | .powerTrim r => Sys2Proof.Machine.execPowerTrim r s
  | .powerDoze r => Sys2Proof.Machine.execPowerDoze r s
  | .powerDormant r => Sys2Proof.Machine.execPowerDormant r s
  | .updateFirmware r e err => Sys2Proof.Machine.execUpdateFirmware r e err s
  | .updateBundle r e err => Sys2Proof.Machine.execUpdateBundle r e err s
  | .timedOpDue r => Sys2Proof.Machine.execTimedOpDue r s
  | .stationAssignment ix f => Sys2Proof.Machine.execStationAssignment ix f s
  | .frameForward ix f seqRead => Sys2Proof.Machine.execFrameForward ix f seqRead s
  | .junctionRoute ix f seqRead => Sys2Proof.Machine.execJunctionRoute ix f seqRead s
  | .ackReceive ix q => Sys2Proof.Machine.execAckReceive ix q s
  | .nakReceive ix q => Sys2Proof.Machine.execNakReceive ix q s
  | .ackTimer ix => Sys2Proof.Machine.execAckTimer ix s
  | .replayTimerExpiry ix => Sys2Proof.Machine.execReplayTimerExpiry ix s
  | .silentTimeout ix => Sys2Proof.Machine.execSilentTimeout ix s
  | .signalLoss ix => Sys2Proof.Machine.execSignalLoss ix s
  | .linkRestartTimer ix => Sys2Proof.Machine.execLinkRestartTimer ix s
  | .linkRetryTimer ix => Sys2Proof.Machine.execLinkRetryTimer ix s
  | .bringupTimeout ix => Sys2Proof.Machine.execBringupTimeout ix s
  | .signalLocked ix => Sys2Proof.Machine.execSignalLocked ix s
  | .trainBlockLockHeld ix => Sys2Proof.Machine.execTrainBlockLockHeld ix s
  | .readySetReceive ix => Sys2Proof.Machine.execReadySetReceive ix s
  | .probeReceive ix => Sys2Proof.Machine.execProbeReceive ix s
  | .echoReceive ix t => Sys2Proof.Machine.execEchoReceive ix t s
  | .probeRetry ix => Sys2Proof.Machine.execProbeRetry ix s
  | .linkStateReceive ix f => Sys2Proof.Machine.execLinkStateReceive ix f s
  | .uplinkFrameReceive j fcsOk b => Sys2Proof.Machine.execUplinkFrameReceive j fcsOk b s
  | .uplinkLockLoss ix => Sys2Proof.Machine.execUplinkLockLoss ix s
  | .joinTimerExpiry n => Sys2Proof.Machine.execJoinTimerExpiry n s
  | .announceReceive ix f => Sys2Proof.Machine.execAnnounceReceive ix f s
  | .announceTimer n => Sys2Proof.Machine.execAnnounceTimer n s
  | .stationAgeOut n st => Sys2Proof.Machine.execStationAgeOut n st s
  | .masterClaimTimer n => Sys2Proof.Machine.execMasterClaimTimer n s
  | .cycleStart n k => Sys2Proof.Machine.execCycleStart n k s
  | .sweepSliceReceive ix f => Sys2Proof.Machine.execSweepSliceReceive ix f s
  | .captureInstant n k m cj => Sys2Proof.Machine.execCaptureInstant n k m cj s
  | .exchangeClose n k => Sys2Proof.Machine.execExchangeClose n k s
  | .remoteFetchDeadline => Sys2Proof.Machine.execRemoteFetchDeadline s
  | .reflexOverrun => Sys2Proof.Machine.execReflexOverrun s
  | .outputFreeze => Sys2Proof.Machine.execOutputFreeze s
  | .outputDeadline => Sys2Proof.Machine.execOutputDeadline s
  | .syncSend n => Sys2Proof.Machine.execSyncSend n s
  | .syncReceive ix f res => Sys2Proof.Machine.execSyncReceive ix f res s
  | .syncPathTimeout n dir => Sys2Proof.Machine.execSyncPathTimeout n dir s
  | .holdoverExpiry d => Sys2Proof.Machine.execHoldoverExpiry d s
  | .pdelayTimer ix => Sys2Proof.Machine.execPdelayTimer ix s
  | .pdelayReqReceive ix f => Sys2Proof.Machine.execPdelayReqReceive ix f s
  | .pdelayRespReceive ix f => Sys2Proof.Machine.execPdelayRespReceive ix f s
  | .ptpSyncReceive j t => Sys2Proof.Machine.execPtpSyncReceive j t s
  | .ptpSyncTimeout j => Sys2Proof.Machine.execPtpSyncTimeout j s
  | .ptpGrandmasterSend j announce => Sys2Proof.Machine.execPtpGrandmasterSend j announce s
  | .ppsEdge rising => Sys2Proof.Machine.execPpsEdge rising s
  | .ppsTimeout => Sys2Proof.Machine.execPpsTimeout s
  | .domainSample d => Sys2Proof.Machine.execDomainSample d s
  | .tdCmdSet d => Sys2Proof.Machine.execTdCmdSet d s
  | .tdCmdStep d => Sys2Proof.Machine.execTdCmdStep d s
  | .tdCmdSlew d => Sys2Proof.Machine.execTdCmdSlew d s
  | .slewDone d => Sys2Proof.Machine.execSlewDone d s
  | .tdSnapLatch => Sys2Proof.Machine.execTdSnapLatch s
  | .ppsOutPulse => Sys2Proof.Machine.execPpsOutPulse s
  | .ppsOutEnd => Sys2Proof.Machine.execPpsOutEnd s
  | .scheduledEdgeDue p x => Sys2Proof.Machine.execScheduledEdgeDue p x s
  | .pinEdge p x e => Sys2Proof.Machine.execPinEdge p x e s
  | .chatterEnd p x level => Sys2Proof.Machine.execChatterEnd p x level s
  | .stuckTimeout p x => Sys2Proof.Machine.execStuckTimeout p x s
  | .doCurrentLimitLatch p x hot => Sys2Proof.Machine.execDoCurrentLimitLatch p x hot s
  | .doRetry p x => Sys2Proof.Machine.execDoRetry p x s
  | .driverOverheat p d => Sys2Proof.Machine.execDriverOverheat p d s
  | .driverCooled p d => Sys2Proof.Machine.execDriverCooled p d s
  | .fpBreakerTrip p => Sys2Proof.Machine.execFpBreakerTrip p s
  | .fpTripClear p => Sys2Proof.Machine.execFpTripClear p s
  | .fieldConditionDetect p x short on => Sys2Proof.Machine.execFieldConditionDetect p x short on s
  | .fieldPowerLoss => Sys2Proof.Machine.execFieldPowerLoss s
  | .fieldPowerReturn => Sys2Proof.Machine.execFieldPowerReturn s
  | .derateStep => Sys2Proof.Machine.execDerateStep s
  | .restoreStep => Sys2Proof.Machine.execRestoreStep s
  | .tjMaxReached => Sys2Proof.Machine.execTjMaxReached s
  | .aiConditionDetect c short on => Sys2Proof.Machine.execAiConditionDetect c short on s
  | .i20ShuntReclose c => Sys2Proof.Machine.execI20ShuntReclose c s
  | .bgCalVisit c g o => Sys2Proof.Machine.execBgCalVisit c g o s
  | .scalZero c => Sys2Proof.Machine.execScalZero c s
  | .scalSpan c => Sys2Proof.Machine.execScalSpan c s
  | .scalDone codes => Sys2Proof.Machine.execScalDone codes s
  | .aoShortLatch p => Sys2Proof.Machine.execAoShortLatch p s
  | .aoRetry p => Sys2Proof.Machine.execAoRetry p s
  | .aoOpenDetect p on => Sys2Proof.Machine.execAoOpenDetect p on s
  | .canFrameReceive ix item ok tec rec => Sys2Proof.Machine.execCanFrameReceive ix item ok tec rec s
  | .speFrameReceive ix b fcsOk => Sys2Proof.Machine.execSpeFrameReceive ix b fcsOk s
  | .uartBlockEnd ix item => Sys2Proof.Machine.execUartBlockEnd ix item s
  | .modbusResponse ix x => Sys2Proof.Machine.execModbusResponse ix x s
  | .modbusRspTimeout ix => Sys2Proof.Machine.execModbusRspTimeout ix s
  | .iolPdReceive p valid data => Sys2Proof.Machine.execIolPdReceive p valid data s
  | .iolEventReceive p data => Sys2Proof.Machine.execIolEventReceive p data s
  | .rawSendDone k ix ok => Sys2Proof.Machine.execRawSendDone k ix ok s
  | .autoRateStep k ix => Sys2Proof.Machine.execAutoRateStep k ix s
  | .iolWakeup p com => Sys2Proof.Machine.execIolWakeup p com s
  | .iolPowerRetry p => Sys2Proof.Machine.execIolPowerRetry p s
  | .canBusOff ix => Sys2Proof.Machine.execCanBusOff ix s
  | .canAutoRecover ix => Sys2Proof.Machine.execCanAutoRecover ix s
  | .canRecover ix => Sys2Proof.Machine.execCanRecover ix s
  | .iolRestart p => Sys2Proof.Machine.execIolRestart p s
  | .controllerError k ix uncorrectable => Sys2Proof.Machine.execControllerError k ix uncorrectable s
  | .bridgeServe p => Sys2Proof.Machine.execBridgeServe p s
  | .cacheFlush => Sys2Proof.Machine.execCacheFlush s
  | .lockWindowClose p => Sys2Proof.Machine.execLockWindowClose p s
  | .lockGrant p => Sys2Proof.Machine.execLockGrant p s
  | .lockExpiry p => Sys2Proof.Machine.execLockExpiry p s
  | .lockRelease p src tn id => Sys2Proof.Machine.execLockRelease p src tn id s
  | .tunReceive ix f => Sys2Proof.Machine.execTunReceive ix f s
  | .tunReplayDue t => Sys2Proof.Machine.execTunReplayDue t s
  | .bridgeQueueError e => Sys2Proof.Machine.execBridgeQueueError e s
  | .heldFrameAdmit ix o c => Sys2Proof.Machine.execHeldFrameAdmit ix o c s
  | .bankRetire b hit => Sys2Proof.Machine.execBankRetire b hit s
  | .drainComplete => Sys2Proof.Machine.execDrainComplete s
  | .bufferAudit lost cross => Sys2Proof.Machine.execBufferAudit lost cross s
  | .schedulerError at_ => Sys2Proof.Machine.execSchedulerError at_ s
  | .tableSyncDone r => Sys2Proof.Machine.execTableSyncDone r s
  | .reflexMemoryError e => Sys2Proof.Machine.execReflexMemoryError e s
  | .briarJmp e c lv => Sys2Proof.Machine.execBriarJmp e c lv s
  | .briarWait e c lv => Sys2Proof.Machine.execBriarWait e c lv s
  | .briarIn e c lv => Sys2Proof.Machine.execBriarIn e c lv s
  | .briarOut e c => Sys2Proof.Machine.execBriarOut e c s
  | .briarPush e c => Sys2Proof.Machine.execBriarPush e c s
  | .briarPull e c => Sys2Proof.Machine.execBriarPull e c s
  | .briarMov e c lv => Sys2Proof.Machine.execBriarMov e c lv s
  | .briarSet e c => Sys2Proof.Machine.execBriarSet e c s
  | .briarIrq e c => Sys2Proof.Machine.execBriarIrq e c s
  | .briarTimewait e c => Sys2Proof.Machine.execBriarTimewait e c s
  | .briarCnt e c => Sys2Proof.Machine.execBriarCnt e c s
  | .briarNop e c => Sys2Proof.Machine.execBriarNop e c s
  | .channelStallResume e c lv => Sys2Proof.Machine.execChannelStallResume e c lv s
  | .swapDeadline e c => Sys2Proof.Machine.execSwapDeadline e c s
  | .fifoEccError e c err => Sys2Proof.Machine.execFifoEccError e c err s
  | .engStop e mask => Sys2Proof.Machine.execEngStop e mask s
  | .engRestart e mask => Sys2Proof.Machine.execEngRestart e mask s
  | .engStartTWrite e t => Sys2Proof.Machine.execEngStartTWrite e t s
  | .channelTimedStart e => Sys2Proof.Machine.execChannelTimedStart e s
  | .twinForm equal peerActive => Sys2Proof.Machine.execTwinForm equal peerActive s
  | .formTimeout => Sys2Proof.Machine.execFormTimeout s
  | .peerAnnounceAbsence => Sys2Proof.Machine.execPeerAnnounceAbsence s
  | .deltaReceive d => Sys2Proof.Machine.execDeltaReceive d s
  | .deltaWindowExpiry => Sys2Proof.Machine.execDeltaWindowExpiry s
  | .resync => Sys2Proof.Machine.execResync s
  | .switchover => Sys2Proof.Machine.execSwitchover s
  | .takeover c => Sys2Proof.Machine.execTakeover c s
  | .testPulse peer => Sys2Proof.Machine.execTestPulse peer s
  | .testPulseEnd pass => Sys2Proof.Machine.execTestPulseEnd pass s
  | .relinquishConfirm => Sys2Proof.Machine.execRelinquishConfirm s
  | .relinquishTimeout => Sys2Proof.Machine.execRelinquishTimeout s
  | .hello ix fs => Sys2Proof.Machine.execHello ix fs s
  | .reply ix fs => Sys2Proof.Machine.execReply ix fs s
  | .cert ix fs => Sys2Proof.Machine.execCert ix fs s
  | .proof ix fs => Sys2Proof.Machine.execProof ix fs s
  | .finish ix fs => Sys2Proof.Machine.execFinish ix fs s
  | .rekey ix fs => Sys2Proof.Machine.execRekey ix fs s
  | .rekeyReply ix fs => Sys2Proof.Machine.execRekeyReply ix fs s
  | .rekeyFinish ix fs => Sys2Proof.Machine.execRekeyFinish ix fs s
  | .rekeyReq ix fs => Sys2Proof.Machine.execRekeyReq ix fs s
  | .reject ix fs => Sys2Proof.Machine.execReject ix fs s
  | .authStepTimeout ix => Sys2Proof.Machine.execAuthStepTimeout ix s
  | .rekeyTimer ix => Sys2Proof.Machine.execRekeyTimer ix s
  | .rekeyStepTimeout ix => Sys2Proof.Machine.execRekeyStepTimeout ix s
  | .spdmRequest t b e => Sys2Proof.Machine.execSpdmRequest t b e s
  | .spdmSessionEnd t => Sys2Proof.Machine.execSpdmSessionEnd t s
  | .getChallenge => Sys2Proof.Machine.execGetChallenge s
  | .submitToken len => Sys2Proof.Machine.execSubmitToken len s
  | .getCert len => Sys2Proof.Machine.execGetCert len s
  | .attest len => Sys2Proof.Machine.execAttest len s
  | .random len => Sys2Proof.Machine.execRandom len s
  | .dbgRead len => Sys2Proof.Machine.execDbgRead len s
  | .dbgWrite len => Sys2Proof.Machine.execDbgWrite len s
  | .challengeExpiry => Sys2Proof.Machine.execChallengeExpiry s
  | .tamperDetect src => Sys2Proof.Machine.execTamperDetect src s
  | .drbgHealthFail => Sys2Proof.Machine.execDrbgHealthFail s
  | .drbgRetest pass => Sys2Proof.Machine.execDrbgRetest pass s
  | .drbgReseed => Sys2Proof.Machine.execDrbgReseed s
  | .faultOccurrence b c detail => Sys2Proof.Machine.execFaultOccurrence b c detail s
  | .faultClear b => Sys2Proof.Machine.execFaultClear b s
  | .collectorSelfFault => Sys2Proof.Machine.execCollectorSelfFault s
  | .safeEnter => Sys2Proof.Machine.execSafeEnter s
  | .safeExit => Sys2Proof.Machine.execSafeExit s
  | .logFlush l ok => Sys2Proof.Machine.execLogFlush l ok s
  | .logWriteRetry ok => Sys2Proof.Machine.execLogWriteRetry ok s
  | .logRead l seq => Sys2Proof.Machine.execLogRead l seq s
  | .logCopyDone ok => Sys2Proof.Machine.execLogCopyDone ok s
  | .feedPresent n => Sys2Proof.Machine.execFeedPresent n s
  | .feedAbsent n => Sys2Proof.Machine.execFeedAbsent n s
  | .feedOv n => Sys2Proof.Machine.execFeedOv n s
  | .ovRecover n => Sys2Proof.Machine.execOvRecover n s
  | .boardUnseated => Sys2Proof.Machine.execBoardUnseated s
  | .pathTrip n cause => Sys2Proof.Machine.execPathTrip n cause s
  | .breakerRearm b => Sys2Proof.Machine.execBreakerRearm b s
  | .breakerRetry b => Sys2Proof.Machine.execBreakerRetry b s
  | .tripClear n => Sys2Proof.Machine.execTripClear n s
  | .railWarning r => Sys2Proof.Machine.execRailWarning r s
  | .railRegulationFail r => Sys2Proof.Machine.execRailRegulationFail r s
  | .railRestart => Sys2Proof.Machine.execRailRestart s
  | .feedsLost vbat => Sys2Proof.Machine.execFeedsLost vbat s
  | .dozeEntry => Sys2Proof.Machine.execDozeEntry s
  | .wakeEvent src => Sys2Proof.Machine.execWakeEvent src s
  | .dozeExit failed banks => Sys2Proof.Machine.execDozeExit failed banks s
  | .retentionReloadDone b => Sys2Proof.Machine.execRetentionReloadDone b s
  | .pllLock a b => Sys2Proof.Machine.execPllLock a b s
  | .dormantEntry => Sys2Proof.Machine.execDormantEntry s
  | .dormantWake src => Sys2Proof.Machine.execDormantWake src s
  | .vltTimerAlarm => Sys2Proof.Machine.execVltTimerAlarm s
  | .clockFail n => Sys2Proof.Machine.execClockFail n s
  | .islandSwitch ix sel => Sys2Proof.Machine.execIslandSwitch ix sel s
  | .islandSwitchDone ix => Sys2Proof.Machine.execIslandSwitchDone ix s
  | .clockGateWrite g on words => Sys2Proof.Machine.execClockGateWrite g on words s
  | .fcntGo => Sys2Proof.Machine.execFcntGo s
  | .fcntDone tgt ref edges => Sys2Proof.Machine.execFcntDone tgt ref edges s
  | .coreError uncorrectable => Sys2Proof.Machine.execCoreError uncorrectable s
  | .d2dCrcFail d => Sys2Proof.Machine.execD2dCrcFail d s
  | .d2dRetrain d ok lost => Sys2Proof.Machine.execD2dRetrain d ok lost s
  | .vmodOverload ix => Sys2Proof.Machine.execVmodOverload ix s
  | .vmodRetry ix => Sys2Proof.Machine.execVmodRetry ix s
  | .msgDeliveryReceive f => Sys2Proof.Machine.execMsgDeliveryReceive f s
  | .msgInterruptReceive f => Sys2Proof.Machine.execMsgInterruptReceive f s
  | .msgMessageReceive f => Sys2Proof.Machine.execMsgMessageReceive f s
  | .uplinkLinkUp ix => Sys2Proof.Machine.execUplinkLinkUp ix s
  | .pcieLinkUp bme ide => Sys2Proof.Machine.execPcieLinkUp bme ide s
  | .reverseTurnOff n => Sys2Proof.Machine.execReverseTurnOff n s
  | .isduResponse p x => Sys2Proof.Machine.execIsduResponse p x s
  | .isduTimeout p => Sys2Proof.Machine.execIsduTimeout p s
  | .objectFrameSent k ix => Sys2Proof.Machine.execObjectFrameSent k ix s
  | .canBusDominant ix on => Sys2Proof.Machine.execCanBusDominant ix on s
  | .speLinkDown ix => Sys2Proof.Machine.execSpeLinkDown ix s
  | .speLinkUp ix => Sys2Proof.Machine.execSpeLinkUp ix s
  | .iolDeviceLost p => Sys2Proof.Machine.execIolDeviceLost p s
  | .ptpDelayReqTimer j => Sys2Proof.Machine.execPtpDelayReqTimer j s
  | .twinSafeNotice on => Sys2Proof.Machine.execTwinSafeNotice on s
  | .dvfsDone => Sys2Proof.Machine.execDvfsDone s
  | .switchCellTime => Sys2Proof.Machine.execSwitchCellTime s
  | .ringOutputFree ix => Sys2Proof.Machine.execRingOutputFree ix s
  | .latchedRegisterRead q off wide => Sys2Proof.Machine.execLatchedRegisterRead q off wide s

end Sys2Proof.Machine
end

