-- ==== Sys2Proof/Machine/Step.lean ====
section
/-!
DEFINITION. One step of the hub: the command at the front of the queue is carried out; on an empty queue local time passes.
-/

namespace Sys2Proof.Machine

/-- One step. The command at the front leaves the queue, first in, first out, and is carried out. On an empty queue the block idles: one
nanosecond of the local timebase passes and nothing else happens (DESIGN CHOICE, log entry 2). -/
def step (s : State) : Host.Outcome State Fault Refusal :=
  match s.pending with
  | [] => .next { s with now := s.now + 65536 }
  | c :: rest => exec c { s with pending := rest }

/-- The state with the command that a word spells put at the front of its queue; no row of the opcode table gives bits, so no word spells
one and the state is unchanged. -/
def State.withFetchWord (s : State) (nbits w : Nat) : State :=
  match decodeTableWord nbits w with
  | some c => { s with pending := c :: s.pending }
  | none => s

end Sys2Proof.Machine
end

