-- ==== Sys2Proof/Safety.lean ====
section
/-!
DEFINITION. What claims say of states and of steps: the properties that every step keeps, and what a command answers.
-/

namespace Sys2Proof.Machine

/-- The counters that close old versions (R452), as the hub uses them: the greater of the vault's value and the mirror's. -/
def State.fwFloor (s : State) : Nat := s.counter 1
def State.bndFloor (s : State) : Nat := s.counter 2

/-- Each counter in the vault is covered by its mirror in the device area, so that a vault that is lost reopens nothing (R452). -/
def State.covered (s : State) : Prop := s.sec.vault.fwCtr ≤ s.boot.fwMirror ∧ s.sec.vault.bndCtr ≤ s.boot.bndMirror

/-- Command `c` in state `s` answers a next state: `f t`, for a state `t` of which `P` holds. `f` is what follows every command of its kind: nothing
(`id`), the host queues going on as far as they can (`State.settle`), the power status following (`State.showPower`), or the like. -/
def Answers (c : Instr) (s : State) (f : State → State) (P : State → Prop) : Prop := ∃ t, exec c s = .next (f t) ∧ P t

/-- The request `r` is an accepted RMW of sub-operation `x` over `len` bytes of VALUE of point `n`, which its requester writes, which is not forced,
and whose type allows the sub-operation (R110). -/
abbrev State.mayRmw (s : State) (r : Req) (n x len : Nat) : Prop :=
  r ∈ s.tgt.accepted ∧ r.op = opRmw ∧ r.opx = x ∧ r.space = 0x100 ∧ r.off = 64 * n ∧ r.len = len ∧ (s.point n).hub = false ∧
    s.slotOf r = some (s.point n).writerSlot ∧ (s.point n).isForced = false ∧ rmwAllowed (s.point n).type x len = true

/-- Channel `c` of engine `e` has a slot, runs with no start that waits and no DELAY left, and fetches the word `w`, an instruction of opcode `op`
(R306, R315); its engine is on its PLL, or the hub is not on its oscillator (R497). -/
abbrev State.fetches (s : State) (e c op w : Nat) : Prop :=
  (16 * e + c) ∉ s.eng.asked ∧ (s.chan e c).st = chRun ∧ s.slots e c ≠ 0 ∧ (s.flag R.PWR_STAT_ON_OSC = false ∨ s.rd (R.CLK_ISL_CUR (13 + e)) ≠ 0) ∧ (s.chan e c).delay = 0 ∧
    s.progWord e (s.chan e c).bank (s.chan e c).pc = w ∧ badInsn w = false ∧ opcodeOf w = op

/-- The channel with SIDE of `w` applied, as the instruction finds it (R317). -/
def State.sided (s : State) (e c w : Nat) : Chan := s.side e c w (s.chan e c)

/-- The instruction `w` has left the state `s'` and the channel `x`: SIDE is applied again, and PC goes on, unless the instruction wrote it (`jumped`). -/
def State.insnDone (s s' : State) (e c w : Nat) (x : Chan) (jumped : Bool := false) : State :=
  s.finishInsn e c w (s.chan e c).pc ⟨s', s.side e c w x, jumped, false⟩

/-- The instruction `w` cannot complete: the channel is STALLED on it. -/
def State.insnStalls (s : State) (e c w : Nat) (x : Chan) : State := s.putChan e c { s.side e c w x with st := chStalled, insn := w }

end Sys2Proof.Machine
end

