-- ==== Sys2Proof/Certificates/Slice0/Obligations.lean ====
section
/-!
DEFINITION. The statements about the hub, by the order of the opcode table; each is a conjunction of clauses, one for each thing that its
docstring says. A clause `Answers c s f P` says that the command completes; the rules of spec/ that a clause follows stand in the docstring, and
the log entries (notes/assumptions) where it rests on the model's reading.
-/

section
open Sys2Proof Sys2Proof.Machine

/-- A step carries out the command at the front of the queue, with the queue's rest in place; on an empty queue one nanosecond of the local timebase
passes and nothing else happens (the model's choice, log entry 2). -/
def Obligations.StepRunsFront : Prop :=
  (∀ (c : Instr) (rest : List Instr) (s : State), Machine.step { s with pending := c :: rest } = Machine.exec c { s with pending := rest }) ∧
  (∀ s : State, s.pending = [] → Machine.step s = .next { s with now := s.now + 65536 })

/-- The state after reset: no command waits, every set-up word holds its reset value, every tag is free and every queue pair IDLE, READY and COMMITTED
read 0, the part is no twin member, and the counters in the vault are covered by their mirrors; the values that the spec does not give (an
empty emitted list, a timebase of zero, a free-value count of zero) are the model's, log entries 1 and 3.
Where a clause rests on the model's reading or choice, it is that of log entries 1, 2 and 3. -/
def Obligations.ResetState : Prop :=
  State.reset.pending = [] ∧ State.reset.emitted = [] ∧ State.reset.now = 0 ∧ State.reset.drawn = 0 ∧
  (∀ off : Nat, State.reset.word off = (regReset off).toNat) ∧
  (∀ k : Nat, (State.reset.tag k).use = .free) ∧ (∀ p : Nat, (State.reset.pair p).st = .idle) ∧
  State.reset.ready = false ∧ State.reset.flag R.ID_COMMIT_COMMITTED = false ∧ State.reset.rd R.TWIN_STAT_ROLE = 0 ∧
  State.reset.rd R.CLK_CLAMP_CNT_COUNT = 0 ∧ State.reset.covered

/-- The invariant that every step keeps, from every state (R452, "The counters never decrease"): each step answers a next state; the queue loses its
front and nothing else; no mirror in the device area ever falls; and a counter in the vault that its mirror covers stays covered, so the
value that the hub uses never falls either.
Where a clause rests on the model's reading or choice, it is that of log entries 7 and 25. -/
def Obligations.CountersNeverFall : Prop :=
  ∀ s : State, ∃ s' : State, Machine.step s = .next s' ∧ s'.pending = s.pending.tail ∧
    s.boot.fwMirror ≤ s'.boot.fwMirror ∧ s.boot.bndMirror ≤ s'.boot.bndMirror ∧
    (s.covered → s'.covered ∧ s.fwFloor ≤ s'.fwFloor ∧ s.bndFloor ≤ s'.bndFloor)

/-- No error, stop or reset of one pair changes the state, tags or polling of any other pair, and a slot-wide reset affects all of its slot's
pairs and no other pair (R93). A tag belongs to another pair where no transaction of the first holds it. -/
def Obligations.PairsApart : Prop :=
  (∀ (p q r : Nat) (s : State), q ≠ p → (s.stop p r).pair q = s.pair q ∧ (s.resetPair p).pair q = s.pair q ∧
    (s.detachAll p true).pair q = s.pair q) ∧
  (∀ (p r k : Nat) (s : State), (s.stop p r).tag k = s.tag k) ∧
  (∀ (p k : Nat) (s : State), (∀ t, (k, t) ∈ s.flights → t.pair ≠ p) → (s.resetPair p).tag k = s.tag k ∧ (s.detachAll p true).tag k = s.tag k) ∧
  (∀ (p r t : Nat) (s : State), (s.stop p r).slot t = s.slot t ∧ (s.resetPair p).slot t = s.slot t ∧ (s.detachAll p true).slot t = s.slot t) ∧
  (∀ (t i : Nat) (s : State), i < 32 → (s.resetSlot t).pair (32 * t + i) = {}) ∧
  (∀ (t q : Nat) (s : State), q / 32 ≠ t → (s.resetSlot t).pair q = s.pair q)

/-- Q_CTRL.EN (R77). A write of 1 moves an IDLE pair to RUN when its slot is enabled and HIF_SUM_ADDR.EN is 1 (and R425 and R427 let the slot run),
and otherwise leaves it IDLE; a write of 0 in RUN has the effect of a reset; and a write of either value while the pair is STOPPED is ignored. -/
def Obligations.QueueEnable : Prop :=
  (∀ (p : Fin 512) (s : State), (s.pair p).st = .idle → s.slotOn (p.val / 32) = true → s.flag (R.HIF_SUM_ADDR_EN (p.val / 32)) = true →
    s.mayRun (p.val / 32) = true → Answers (.qEnable p) s id fun u => (u.pair p).st = .run ∧ (∀ q, q ≠ p.val → u.pair q = s.pair q)) ∧
  (∀ (p : Fin 512) (s : State), (s.pair p).st = .idle → s.slotOn (p.val / 32) = false ∨ s.flag (R.HIF_SUM_ADDR_EN (p.val / 32)) = false ∨
    s.mayRun (p.val / 32) = false →
    Answers (.qEnable p) s id fun u => (u.pair p).st = .idle) ∧
  (∀ (p : Fin 512) (s : State), (s.pair p).st = .run → Machine.exec (.qReset p true) s = .next (s.resetPair p).settle ∧
    Machine.exec (.qReset p false) s = Machine.exec (.qReset p true) s) ∧
  (∀ (p : Fin 512) (s : State), (s.pair p).st = .stopped →
    Machine.exec (.qEnable p) s = .next s ∧ Machine.exec (.qReset p true) s = .next s)

/-- Each input of the power path, present, absent, above its limit, recovered or reversed, changes the set that names it and ends a reversal of
the pair as R473 to R475 say; the power status follows, a logic feed wakes a dozing hub (R496), and a fault of Table 19-4 is raised once the rails are good.
Where a clause rests on the model's reading or choice, it is that of log entries 7 and 27. -/
def Obligations.PowerInputs : Prop :=
  (∀ (n : Fin 4) (s : State), n.val ∉ s.pwr.present → Answers (.feedPresent n) s (fun t => (if n.val < 2 then t.showPower.wake 4 else t.showPower).settle) fun t =>
    n.val ∈ t.pwr.present ∧ (∀ m, m ≠ n.val → (m ∈ t.pwr.present ↔ m ∈ s.pwr.present)) ∧ n.val ∉ t.pwr.reversed ∧ t.regs = s.regs) ∧
  (∀ (n : Fin 4) (s : State), n.val ∈ s.pwr.present → bit (s.rd R.PWR_CFG_EXPECT) n = false →
    Answers (.feedAbsent n) s (fun t => t.showPower.settle) fun t =>
      n.val ∉ t.pwr.present ∧ (∀ m, m ≠ n.val → (m ∈ t.pwr.present ↔ m ∈ s.pwr.present)) ∧ t.regs = s.regs) ∧
  (∀ (n : Fin 4) (s : State), n.val ∈ s.pwr.present → bit (s.rd R.PWR_CFG_EXPECT) n = true →
    Answers (.feedAbsent n) s (fun t => (t.showPower.raisePath n .U).settle) fun t =>
      n.val ∉ t.pwr.present ∧ (∀ m, m ≠ n.val → (m ∈ t.pwr.present ↔ m ∈ s.pwr.present)) ∧ t.regs = s.regs) ∧
  (∀ (n : Fin 4) (s : State), n.val ∉ s.pwr.overV →
    Answers (.feedOv n) s (fun t => (t.showPower.raisePath n .U).settle) fun t =>
      n.val ∈ t.pwr.overV ∧ t.rd (R.PWR_BRK_STAT_CAUSE n) = 5 ∧ t.pwr.present = s.pwr.present) ∧
  (∀ (n : Fin 4) (s : State), Answers (.ovRecover n) s (fun t => t.showPower.settle) fun t =>
    n.val ∉ t.pwr.overV ∧ (∀ m, m ≠ n.val → (m ∈ t.pwr.overV ↔ m ∈ s.pwr.overV)) ∧ t.regs = s.regs) ∧
  (∀ (n : Fin 4) (s : State), s.conducts n = true →
    Answers (.reverseTurnOff n) s (fun t => (t.showPower.raisePath n .C).settle) fun t =>
      n.val ∈ t.pwr.reversed ∧ t.conducts n = false ∧ t.regs = s.regs)

/-- The start of the power path, and its end: POWER_PATH_START enters the path at its first step, or after DORMANT with seating held at the soft-start;
seating is held; good rails start the boot from a power-on reset; a rail outside its window removes the rails; the loss of both logic feeds leaves
DORMANT or OFF by VBAT, and OFF loses the vault's timer, tamper latch and counters (Table 19-1, R476, R477, R485, R486, R504).
Where a clause rests on the model's reading or choice, it is that of log entries 4, 7 and 26. -/
def Obligations.PowerSequence : Prop :=
  (∀ s : State, s.pwr.path = .none → s.pwr.arrived = true → 0 ∈ s.pwr.present ∨ 1 ∈ s.pwr.present →
    Answers .powerPathStart s State.showPower fun t =>
      t.pwr.path = (if s.pwr.state = .dormant ∧ s.pwr.held = true then .seated else .feed) ∧ t.regs = s.regs) ∧
  (∀ s : State, Answers .seatingConfirmed s (fun t => t.showPower.settle) fun t =>
    t.pwr.seated = true ∧ t.pwr.held = true ∧ t.pwr.path = (if s.pwr.path = .feed then .seated else s.pwr.path)) ∧
  (∀ (n : Fin 2) (s : State), s.pwr.path = .seated → 0 ∉ s.pwr.brkHot → 1 ∉ s.pwr.brkHot → s.conducts n = true →
    Answers .railsGood s State.showPower fun t =>
      t.pwr.path = .good ∧ t.pwr.state = .run ∧ t.boot.stage = .rom ∧ t.pending = s.pending ∧ t.sec.vault.owner = s.sec.vault.owner) ∧
  (∀ s : State, s.pwr.path = .good → Answers .railRestart s State.showPower fun t =>
    t.pwr.path = .seated ∧ t.boot.stage = .off ∧ t.pending = s.pending ∧ t.sec.vault.fwCtr = s.sec.vault.fwCtr) ∧
  (∀ s : State, 0 ∉ s.pwr.present → 1 ∉ s.pwr.present → Answers (.feedsLost true) s id fun t =>
    t.pwr.vbat = true ∧ t.pwr.path = .none ∧ t.pwr.state = .dormant ∧ t.pwr.held = s.pwr.held ∧ t.sec.vault.latch = s.sec.vault.latch) ∧
  (∀ s : State, 0 ∉ s.pwr.present → 1 ∉ s.pwr.present → Answers (.feedsLost false) s State.showVault fun t =>
    t.pwr.vbat = false ∧ t.pwr.path = .none ∧ t.pwr.state = .off ∧ t.sec.vault.latch = false ∧ t.sec.vault.ticks = 0
      ∧ t.sec.vault.fwCtr = 0 ∧ t.sec.vault.bndCtr = 0 ∧ t.sec.vault.owner = s.sec.vault.owner)

/-- While the rails are good, a warning of rail `r` raises source 3 in class U and a failure of regulation raises it in class F, with the rail as
DETAIL (R485); on any other path nothing changes.
Where a clause rests on the model's reading or choice, it is that of log entry 7. -/
def Obligations.RailFaults : Prop :=
  (∀ (r : Fin 12) (s : State), s.pwr.path = .good → Machine.exec (.railWarning r) s = .next (s.raise 3 .U r).settle) ∧
  (∀ (r : Fin 12) (s : State), s.pwr.path = .good → Machine.exec (.railRegulationFail r) s = .next (s.raise 3 .F r).settle) ∧
  (∀ (r : Fin 12) (s : State), s.pwr.path ≠ .good → Machine.exec (.railWarning r) s = .next s ∧ Machine.exec (.railRegulationFail r) s = .next s)

/-- A path that conducts and trips latches the trip and its cause, counts it, and waits to be re-armed; a breaker that is re-armed is no longer hot;
a clearing event of a latched path that is armed clears the latch, and of one that is hot is remembered; the removal of the board ends every
latch's clearing event, field power and the seating that was held (R478 to R482).
Where a clause rests on the model's reading or choice, it is that of log entries 7 and 27. -/
def Obligations.Breakers : Prop :=
  (∀ (n cause : Fin 4) (s : State), s.flag (R.PWR_BRK_STAT_TRIP n) = false → s.conducts n = true →
    Answers (.pathTrip n cause) s (fun t => (t.showPower.raisePath n .U).settle) fun t =>
      t.flag (R.PWR_BRK_STAT_TRIP n) = true ∧ t.rd (R.PWR_BRK_STAT_CAUSE n) = cause.val + 1 ∧ n.val ∈ t.pwr.brkHot
        ∧ t.rd (R.PWR_BRK_STAT_TRIPS n) = satAdd 16 (s.rd (R.PWR_BRK_STAT_TRIPS n)) 1 ∧ t.conducts n = false) ∧
  (∀ (b : Fin 68) (s : State), b.val ∉ s.pwr.brkEvt → Answers (.breakerRearm b) s (fun t => t.showPower.settle) fun t =>
    b.val ∉ t.pwr.brkHot ∧ (∀ x, x ≠ b.val → (x ∈ t.pwr.brkHot ↔ x ∈ s.pwr.brkHot)) ∧ t.regs = s.regs) ∧
  (∀ (n : Fin 4) (s : State), n.val ∈ s.pwr.brkEvt → s.flag (R.PWR_BRK_STAT_TRIP n) = true →
    Answers (.breakerRearm ⟨n.val, by omega⟩) s (fun t => t.showPower.showPower.settle) fun t =>
      n.val ∉ t.pwr.brkHot ∧ n.val ∉ t.pwr.brkEvt ∧ t.flag (R.PWR_BRK_STAT_TRIP n) = false) ∧
  (∀ (n : Fin 4) (s : State), s.rd (R.PWR_BRK_CFG_RETRY n) ≠ 0 → s.flag (R.PWR_BRK_STAT_TRIP n) = true → n.val ∉ s.pwr.brkHot →
    Answers (.breakerRetry ⟨n.val, by omega⟩) s (fun t => t.showPower.settle) fun t =>
      t.flag (R.PWR_BRK_STAT_TRIP n) = false ∧ n.val ∉ t.pwr.brkEvt) ∧
  (∀ (n : Fin 4) (s : State), s.flag (R.PWR_BRK_STAT_TRIP n) = true → n.val ∈ s.pwr.brkHot →
    Answers (.tripClear n) s State.settle fun t => n.val ∈ t.pwr.brkEvt ∧ t.regs = s.regs) ∧
  (∀ (n : Fin 4) (s : State), s.flag (R.PWR_BRK_STAT_TRIP n) = true → n.val ∉ s.pwr.brkHot →
    Answers (.tripClear n) s (fun t => t.showPower.settle) fun t => t.flag (R.PWR_BRK_STAT_TRIP n) = false) ∧
  (∀ s : State, s.pwr.seated = true → s.pwr.path ≠ .good → Answers .boardUnseated s State.settle fun t =>
    t.pwr.seated = false ∧ t.pwr.held = false ∧ t.pwr.brkEvt = [] ∧ t.pwr.brkHot = s.pwr.brkHot) ∧
  (∀ s : State, s.pwr.seated = true → s.pwr.path = .good → ∃ d, Answers .boardUnseated s (fun t => (t.raise 2 .U d).settle) fun t =>
    t.pwr.seated = false ∧ t.pwr.held = false ∧ t.pwr.brkEvt = [] ∧ t.pwr.path = .good)

/-- What BOOT, the commands of ID_BOOT_CMD and COMMIT do, each on the conditions that chapter 17 names. A failed known-answer test stops the boot with
every port DOWN; RECOVERY high, or no firmware slot at all, gives recovery mode; the first slot of the order runs when it passes its check, with
the MODE of R445 and one more boot counted. RESET and RECOVER reset the hub unless R450 refuses them, which only sets REFUSE. COMMIT applies the
rules of R531, recomputes GUAR, locks and counts, measures block 7 and writes its audit record in that order, and a second one does nothing (R443 to
R446, R450, R451, R455, R527, R528).
Where a clause rests on the model's reading or choice, it is that of log entries 7, 25, 55 and 72. -/
def Obligations.BootAndCommit : Prop :=
  (∀ (o : BootObs) (s : State), s.boot.stage = .rom → o.tests = false →
    Answers (.boot o) s State.settle fun t => t.boot.stage = .stopped ∧ ∀ i : Fin 5, (t.port i).st = .down) ∧
  (∀ (o : BootObs) (s : State), s.boot.stage = .rom → o.tests = true → o.recovery = true →
    Answers (.boot o) s State.settle fun t =>
      t.boot.stage = .recovery ∧ t.rd R.ID_BOOT_STAT_MODE = 3 ∧ t.flag R.ID_STATE_RECOVERY = true) ∧
  (∀ (o : BootObs) (s : State), s.boot.stage = .rom → o.tests = true → o.recovery = false → s.boot.fw0.st ≠ 1 → s.boot.fw0.st ≠ 2 →
    s.boot.fw1.st ≠ 1 → s.boot.fw1.st ≠ 2 →
    Answers (.boot o) s State.settle fun t =>
      t.boot.stage = .recovery ∧ t.rd R.ID_BOOT_STAT_MODE = 3 ∧ t.flag R.ID_STATE_RECOVERY = true) ∧
  (∀ (o : BootObs) (n : Nat) (ns : List Nat) (s : State), s.boot.stage = .rom → o.tests = true → o.drbg = true → o.recovery = false →
    s.slotOrder 1 = n :: ns → s.checkObject 1 (o.badFw.contains n) (s.boot.obj 1 n).bytes = 0 →
    Answers (.boot o) s (fun t => (t.bootRest o).settle) fun t =>
      t.boot.boots = (s.boot.boots + 1) % 2 ^ 32 ∧ t.boot.stage = .run ∧ t.rd R.ID_BOOTS_BOOTS = t.boot.boots ∧
        t.rd R.ID_BOOT_STAT_MODE = (if (s.boot.obj 1 n).st = 1 then 2 else if s.boot.fellBack then 1 else 0)) ∧
  (∀ (e : StopEnv) (s : State), s.takesCmd = true → s.refusals e = 0 →
    Answers (.bootReset e) s id fun t => t.boot.stage = .rom ∧ t.pending = s.pending ∧ t.pwr.present = s.pwr.present
      ∧ t.sec.vault.fwCtr = s.sec.vault.fwCtr ∧ t.sec.vault.owner = s.sec.vault.owner) ∧
  (∀ (e : StopEnv) (s : State), s.takesCmd = true → s.refusals e = 0 →
    Answers (.bootRecover e) s id fun t => t.boot.stage = .recovery ∧ t.flag R.ID_STATE_RECOVERY = true) ∧
  (∀ (e : StopEnv) (s : State), s.takesCmd = true → s.refusals e ≠ 0 →
    Machine.exec (.bootReset e) s = .next (s.wr R.ID_UPD_STAT_REFUSE (s.refusals e)) ∧
    Machine.exec (.bootRecover e) s = .next (s.wr R.ID_UPD_STAT_REFUSE (s.refusals e))) ∧
  (∀ s t u : State, s.ready = true → s.flag R.ID_COMMIT_COMMITTED = false →
    t = ((s.loadRules.recomputeGuar.wr R.ID_COMMIT_COMMITTED 1).wr R.ID_COMMIT_UNLOCKED 0).inc R.ID_COMMIT_COUNT → u = t.measure7 →
    Machine.exec .commit s = .next (u.logAudit 0x22 0 0 (u.sec.block7 % 2 ^ 64) u.node0 0).settle) ∧
  (∀ s : State, s.ready = true → s.flag R.ID_COMMIT_COMMITTED = true → Machine.exec .commit s = .next s.settle) ∧
  (∀ s : State, s.ready = true → s.flag R.ID_COMMIT_COMMITTED = false →
    Answers .commit s State.settle fun t =>
      t.flag R.ID_COMMIT_COMMITTED = true ∧ t.rd R.ID_COMMIT_UNLOCKED = 0 ∧
        ∃ u : State, u.flag R.ID_COMMIT_COMMITTED = true ∧ t.sec.block7 = (Config.sha384 u.rwlBytes).toNat)

/-- A download in recovery mode and its service by another hub (R455 to R457): a write error, a first chunk shorter than a header and a chunk that
leaves a gap end it with their reasons; a chunk that follows the last one is added to the image; serving a GOOD slot takes the port, and the end
of the transfer gives it back.
Where a clause rests on the model's reading or choice, it is that of log entry 23. -/
def Obligations.RecoveryDownload : Prop :=
  (∀ (len : Fin 32768) (last : Bool) (s : State), s.boot.stage = .recovery →
    Answers (.rcvChunkGo len last true) s (fun t => t.rcvEnd 0x0B) fun t => t = s.stageError 1 s.rcvSlot) ∧
  (∀ (len : Fin 32768) (last : Bool) (s : State), s.boot.stage = .recovery → s.rd R.ID_RCV_OFS_OFS = 0 → len.val + 1 < 512 →
    Answers (.rcvChunkGo len last false) s id fun t =>
      t.rd R.ID_RCV_STAT_STATE = 3 ∧ t.rd R.ID_RCV_STAT_REASON = 1 ∧ t.boot = s.boot) ∧
  (∀ (len : Fin 32768) (g : Staging) (s : State), s.boot.stage = .recovery → s.rd R.ID_RCV_OFS_OFS ≠ 0 → s.boot.fwStg = some g →
    g.bytes.length = s.rd R.ID_RCV_OFS_OFS → g.total = s.rd R.ID_RCV_TOTAL_TOTAL →
    s.rd R.ID_RCV_OFS_OFS + (len.val + 1) ≤ s.rd R.ID_RCV_TOTAL_TOTAL →
    Answers (.rcvChunkGo len false false) s id fun t =>
      t.boot.fwStg = some ⟨g.bytes ++ memRead s.boot.rcvBuf 0 (len.val + 1), g.total⟩ ∧ t.rd R.ID_RCV_STAT_STATE = 2) ∧
  (∀ (i : Fin 5) (fw : Fin 2) (s : State), s.ready = true → s.boot.serve = none → (s.boot.obj 1 fw).st = 2 →
    Answers (.rcvServeStart i fw) s (fun t => (t.startPort i).settle) fun t => t.boot.serve = some (i.val, fw.val)) ∧
  (∀ (i : Fin 5) (fw : Fin 2) (s : State), s.ready = true → s.boot.serve = none → (s.boot.obj 1 fw).st ≠ 2 →
    Answers (.rcvServeStart i fw) s State.settle fun t => t.rd R.ID_RCV_SERVE_STATE = 3 ∧ t.boot = s.boot) ∧
  (∀ (i : Fin 5) (ok : Bool) (peer : Nat) (image : List Byte) (s : State), s.boot.stage ≠ .recovery → s.serves i = true →
    Answers (.rcvTransferDone i ok peer image) s (fun t => ((t.disablePort i).startPort i).settle) fun t =>
      t.boot.serve = none ∧ t.rd R.ID_RCV_SERVE_STATE = (if ok then 2 else 3))

/-- A set-up access (R496, R521, R522): in DOZE it is held and wakes the hub; at any other time a write of PF0 to an offset outside a tenant's
window is carried out by the set-up space, and a read is answered with the bytes that it reads.
Where a clause rests on the model's reading or choice, it is that of log entries 7, 21 and 26. -/
def Obligations.SetupAccess : Prop :=
  (∀ (q : Requester) (off : BitVec 22) (wide : Bool) (v : BitVec 64) (s : State), okAccess off.toNat wide = true → s.pwr.asleep = true →
    Answers (.registerWrite q off wide v) s (fun t => (t.wake 1).settle) fun t =>
      t.setup.held = s.setup.held ++ [⟨q, off.toNat, if wide then 8 else 4, some (if wide then v.toNat else v.toNat % 2 ^ 32)⟩] ∧ t.regs = s.regs) ∧
  (∀ (q : Requester) (off : BitVec 22) (wide : Bool) (s : State), okAccess off.toNat wide = true → s.pwr.asleep = true →
    Answers (.latchedRegisterRead q off wide) s (fun t => t.wake 1) fun t =>
      t.setup.held = s.setup.held ++ [⟨q, off.toNat, if wide then 8 else 4, none⟩] ∧ t.regs = s.regs ∧ t.emitted = s.emitted) ∧
  (∀ (off : BitVec 22) (wide : Bool) (v : BitVec 64) (s : State), okAccess off.toNat wide = true → s.pwr.asleep = false →
    s.responds off.toNat = true → s.vfWindow off.toNat = false →
    Machine.exec (.registerWrite .pf0 off wide v) s =
      .next (s.setupWrite off.toNat (if wide then 8 else 4) (if wide then v.toNat else v.toNat % 2 ^ 32)).settle) ∧
  (∀ (off : BitVec 22) (wide : Bool) (s : State), okAccess off.toNat wide = true → s.pwr.asleep = false → s.responds off.toNat = true →
    Answers (.latchedRegisterRead .pf0 off wide) s id fun t =>
      t.emitted = (s.setupRead off.toNat (if wide then 8 else 4)).2.emitted
        ++ [.reply "set-up read" (s.setupRead off.toNat (if wide then 8 else 4)).1]) ∧
  (∀ (q : Requester) (off : BitVec 22) (wide : Bool) (v : BitVec 64) (s : State), okAccess off.toNat wide = false →
    Machine.exec (.registerWrite q off wide v) s = .next s ∧
      Machine.exec (.latchedRegisterRead q off wide) s = .next (s.emit (.reply "unsupported request" [])))

/-- The host-side controls of a slot (R66, R69, R77, R80, R90, R525): the summary line of an open slot is enabled once; a slot other than 0 is
disabled while the set-up is not committed; a region closes; an idle pair of a slot that may run starts with nothing fetched and nothing posted; a
reset returns a pair to IDLE; a function-level reset and a PCIe reset clear what the host gave the functions and reset the pairs of their slots, and a
link-down of a trained link is a U fault of source 13 (R94).
Where a clause rests on the model's reading or choice, it is that of log entries 7, 21, 51 and 56. -/
def Obligations.SlotControls : Prop :=
  (∀ (t : Fin 16) (addr : BitVec 64) (s : State), s.flag (R.HIF_SUM_ADDR_EN t) = false → s.windowOpen t = true →
    Answers (.summaryEnable t addr) s id fun u => u.sumAddr t = addr.toNat / 64 * 64 ∧
      u.flag (R.HIF_SUM_ADDR_EN t) = true ∧ (u.slot t).interval = 8000 ∧ (u.slot t).polledAt = s.ns ∧ (u.slot t).asked = false) ∧
  (∀ (t : Fin 16) (addr : BitVec 64) (s : State), s.flag (R.HIF_SUM_ADDR_EN t) = true → Machine.exec (.summaryEnable t addr) s = .next s) ∧
  (∀ (t : Fin 16) (s : State), t.val ≠ 0 → s.flag R.ID_COMMIT_COMMITTED = false → s.slotOn t = true →
    Answers (.slotDisable t) s (fun u => u.recomputeGuar.settle) fun u =>
      u.flag (R.HIF_RGN_BASE_EN t) = false ∧ ∀ x ∈ u.pts.remote, x.slot ≠ t.val) ∧
  (∀ (t : Fin 16) (s : State), t.val = 0 ∨ s.flag R.ID_COMMIT_COMMITTED = true → Machine.exec (.slotDisable t) s = .next s.settle) ∧
  (∀ (t : Fin 16) (s : State), s.windowOpen t = true →
    Answers (.regionDisable t) s id fun u => u.flag (R.HIF_RGN_BASE_EN t) = false ∧ u.hif = s.hif) ∧
  (∀ (p : Fin 512) (s : State), (s.pair p).st = .idle → s.slotOn (p.val / 32) = true → s.flag (R.HIF_SUM_ADDR_EN (p.val / 32)) = true →
    s.mayRun (p.val / 32) = true → Answers (.qEnable p) s id fun u => u.pair p = { st := .run } ∧ u.regs = s.regs) ∧
  (∀ (p : Fin 512) (s : State), Answers (.qReset p false) s State.settle fun u => u.pair p = {}) ∧
  (∀ (p : Fin 512) (s : State), (s.pair p).st = .run → Answers (.qReset p true) s State.settle fun u => u.pair p = {}) ∧
  (∀ (t : Fin 16) (s : State), s.kind t ≠ kRing → Answers (.functionLevelReset t) s (fun u => (u.resetSlot t).settle) fun u =>
    t.val ∉ u.hif.busMaster ∧ t.val ∉ u.hif.ideSecure ∧ t.val ∉ u.hif.ideLost ∧ (∀ x ∈ u.sec.sessions, x.slot ≠ t.val)) ∧
  (∀ (t : Fin 16) (s : State), s.kind t = kRing → Machine.exec (.functionLevelReset t) s = .next s) ∧
  (∀ (down : Bool) (s : State), s.hif.pcieUp = false ∨ down = false → Answers (.pcieReset down) s
    (fun u => ((List.range 16).foldl (fun s t => if s.kind t = kRing then s else s.resetSlot t) u).settle) fun u =>
      u.hif.busMaster = [] ∧ u.hif.ideSecure = [] ∧ u.hif.msixOpen = [] ∧ u.hif.pcieUp = (s.hif.pcieUp && !down) ∧ u.regs = s.regs) ∧
  (∀ s : State, s.hif.pcieUp = true → Answers (.pcieReset true) s
    (fun u => (((List.range 16).foldl (fun s t => if s.kind t = kRing then s else s.resetSlot t) u).raise 13 .U).settle) fun u =>
      u.hif.busMaster = [] ∧ u.hif.ideSecure = [] ∧ u.hif.msixOpen = [] ∧ u.hif.pcieUp = false ∧ u.regs = s.regs)

/-- Polling and doorbells (R72, R79 to R82, R84): a poll reads the 64 bytes of the summary line once; a line with a pending byte takes the shortest
interval, one without doubles it, and a failed read takes the longest and is an error of the slot, which stops the pairs of a slot of kind RING; a
slot of kind RING reads through its HOST_NODE; a doorbell whose fields are in range gives the
tail and the head, and one with a field out of range stops the pair.
Where a clause rests on the model's reading or choice, it is that of log entries 7, 52, 53 and 54. -/
def Obligations.Polling : Prop :=
  (∀ (t : Fin 16) (s : State), s.slotOn t = true → s.flag (R.HIF_SUM_ADDR_EN t) = true → (s.slot t).asked = false → s.hif.fetchHold = false →
    s.kind t ≠ kRing → Answers (.summaryPoll t) s id fun u =>
      (u.slot t).asked = true ∧ u.emitted = s.emitted ++ [.hostRead t (s.sumAddr t) 64 "summary"] ∧ u.regs = s.regs) ∧
  (∀ (t : Fin 16) (s : State), s.slotOn t = true → s.flag (R.HIF_SUM_ADDR_EN t) = true → (s.slot t).asked = false → s.hif.fetchHold = false →
    s.kind t = kRing → Answers (.summaryPoll t) s (fun u => u.hostReq t 1 (s.sumAddr t) 64 []) fun u =>
      (u.slot t).asked = true ∧ u.emitted = s.emitted ∧ u.regs = s.regs) ∧
  (∀ (t : Fin 16) (line : List Byte) (s : State), (s.slot t).asked = true →
    Answers (.summaryReadDone t (.data line)) s (fun u => (List.range 32).foldl (fun s i => s.servePair t line i) u) fun u =>
      (u.slot t).asked = false ∧ (u.slot t).polledAt = s.ns ∧ u.regs = s.regs ∧
      (u.slot t).interval = if (line.take 32).any (· ≠ 0) then 250 else min 8000 (2 * (s.slot t).interval)) ∧
  (∀ (t : Fin 16) (s : State), (s.slot t).asked = true →
    Answers (.summaryReadDone t .failed) s (fun u => (List.range 32).foldl (fun s i => s.servePair t [] i) ((u.signalErr t).stopRing t)) fun u =>
      (u.slot t).asked = false ∧ (u.slot t).interval = 8000 ∧ u.flag (R.HIF_TEN_STAT_SUM_ERR t) = true) ∧
  (∀ (p : Fin 512) (w : List Byte) (s : State), (s.pair p).st = .run → leAt w 0 2 < s.sqDepth p → leAt w 4 2 < s.cqDepth p →
    Answers (.doorbellReadDone p (.data w)) s (fun u => (u.drain p).settle) fun u =>
      (u.pair p).sqTail = leAt w 0 2 ∧ (u.pair p).cqHead = leAt w 4 2 ∧ (u.pair p).st = .run ∧ u.regs = s.regs) ∧
  (∀ (p : Fin 512) (w : List Byte) (s : State), (s.pair p).st = .run → s.sqDepth p ≤ leAt w 0 2 →
    Machine.exec (.doorbellReadDone p (.data w)) s = .next ((s.stop p 1).drain p).settle) ∧
  (∀ (p : Fin 512) (s : State), (s.pair p).st = .run → Machine.exec (.doorbellReadDone p .failed) s = .next ((s.stop p 5).drain p).settle) ∧
  (∀ (p : Fin 512) (s : State), (s.pair p).coal ≠ 0 → Machine.exec (.coalesceTimer p) s = .next (s.interrupt p)) ∧
  (∀ (k : Fin 8192) (x : Nat) (s : State), (s.tag k).use = .quarantine x → Answers (.quarantineEnd k) s State.settle fun u =>
    (u.tag k).use = .free ∧ (u.tag k).gen = (s.tag k).gen ∧ u.regs = s.regs)

/-- Errors at the host side (R94): a corrected error only raises source 14; an uncorrectable one of a pair raises it, empties what waits for the
pair's CQ and stops the pair; one of shared state resets every pair and rebuilds the pool; loss of the PCIe link raises source 13 and takes the link
down, and the link comes up with the functions, vectors and streams that the host enables, which sends the interrupts that were pending and the
entries that waited.
Where a clause rests on the model's reading or choice, it is that of log entries 7, 51, 78 and 86. -/
def Obligations.HostErrors : Prop :=
  (∀ s : State, Machine.exec (.queueManagerError .corrected) s = .next (s.raise 14 .C).settle) ∧
  (∀ (p : Fin 512) (s : State), Answers (.queueManagerError (.pair p)) s (fun u => ((u.stop p 6).drain p).settle) fun u =>
    (u.pair p).waiting = []) ∧
  (∀ s : State, Answers (.queueManagerError .shared) s State.settle fun u => u.hif.rebuilding = true) ∧
  (∀ s : State, s.hif.pcieUp = true → Answers (.pcieLinkLoss true) s (fun u => u.raise 13 .U) fun u =>
    u.hif.pcieUp = false ∧ u.regs = s.regs) ∧
  (∀ s : State, s.hif.pcieUp = false → Machine.exec (.pcieLinkLoss true) s = .next s) ∧
  (∀ s : State, Answers (.pcieLinkLoss false) s (fun u => u.raise 13 .U) fun u => u = s) ∧
  (∀ (bme : List (Fin 16 × List MsixEntry)) (ide : List (Fin 17)) (s : State), Answers (.pcieLinkUp bme ide) s
    (fun u => u.sendPending.resumeWrites.settle) fun u =>
    u.hif.pcieUp = true ∧ (∀ t : Fin 16, t.val ∈ u.hif.busMaster ↔ t ∈ bme.map (·.1)) ∧
      (∀ t : Fin 17, t.val ∈ u.hif.ideSecure ↔ t ∈ ide) ∧ u.hif.ideLost = [] ∧
      (∀ k : Nat, k ∈ u.hif.msixOpen ↔ ∃ x ∈ bme, ∃ e ∈ x.2, e.masked = false ∧ k = 128 * x.1.val + e.vec.val) ∧ u.hif.msixPend = s.hif.msixPend ∧ u.regs = s.regs)

/-- A descriptor at the issuing hub (R72, R91, R105): a read that failed stops its pair with reason 3; one whose opcode is not defined, of a pair with
a tag, ends with UNSUPPORTED_OP; TABLE_LOAD, POWER and UPDATE of a slot other than 0 end with DENIED; one that passes its checks goes on to its
routing; and a pair that does not run, or a fenced one, takes none.
Where a clause rests on the model's reading or choice, it is that of log entries 8, 22 and 62. -/
def Obligations.Descriptors : Prop :=
  (∀ (p : Fin 512) (buf : HostData) (s : State), (s.pair p).st = .run → (s.pair p).asked ≠ 0 → s.fenced p = false →
    Machine.exec (.descriptorArrival p .failed buf) s = .next ((s.stop p 3).drain p).settle) ∧
  (∀ (p : Fin 512) (k : Nat) (b : List Byte) (buf : HostData) (s u : State), (s.pair p).st = .run → (s.pair p).asked ≠ 0 → s.fenced p = false →
    s.pickTag = (some k, u) → b.length = 64 → leAt b 0 1 = 0 ∨ 14 < leAt b 0 1 →
    ∃ (v : State) (t : Tx), t.slot = p / 32 ∧ t.pair = p ∧ t.cid = leAt b 2 2 ∧ t.req.op = leAt b 0 1 ∧ v.regs = s.regs ∧
      Machine.exec (.descriptorArrival p (.data b) buf) s = .next (v.complete k t { status := stUnsupported }).settle) ∧
  (∀ (p : Fin 512) (k : Nat) (b : List Byte) (buf : HostData) (s u : State), (s.pair p).st = .run → (s.pair p).asked ≠ 0 → s.fenced p = false →
    s.pickTag = (some k, u) → b.length = 64 → p.val / 32 ≠ 0 → leAt b 0 1 = 10 ∨ leAt b 0 1 = 13 ∨ leAt b 0 1 = 14 → leAt b 7 1 ≤ 1 →
    (leAt b 0 1 = 10 → bits (leAt b 8 8) 32 14 = 0x300) →
    ∃ (v : State) (t : Tx), t.slot = p / 32 ∧ t.pair = p ∧ t.cid = leAt b 2 2 ∧ v.regs = s.regs ∧
      Machine.exec (.descriptorArrival p (.data b) buf) s = .next (v.complete k t { status := stDenied }).settle) ∧
  (∀ (p : Fin 512) (k : Nat) (b : List Byte) (buf : HostData) (s u v : State) (t : Tx), (s.pair p).st = .run → (s.pair p).asked ≠ 0 →
    s.fenced p = false → s.pickTag = (some k, u) → b.length = 64 → t.req = (u.advance p).descReq p k b →
    t = { slot := p / 32, pair := p, cid := leAt b 2 2, req := t.req, haddr := leAt b 0x10 8, seq := s.hif.seq, startAt := s.ns,
          tmo := s.rd (R.HIF_TMO_TMO (p / 32)) } →
    v = (({ u.advance p with hif := { (u.advance p).hif with seq := s.hif.seq + 1 } }).fly k t) → v.descCheck t.req t.haddr = none →
    Machine.exec (.descriptorArrival p (.data b) buf) s = .next (v.issue k t buf).settle) ∧
  (∀ (p : Fin 512) (d buf : HostData) (s : State), (s.pair p).st ≠ .run ∨ s.fenced p = true →
    Machine.exec (.descriptorArrival p d buf) s = .next s)

/-- How a transaction ends (R87, R113, R127 to R130, R83): a timeout posts TIMEOUT and retires the tag abnormally, but never ends a RECV, a FENCE or
an UPDATE; a response of the tag's generation ends it, and any other is counted as late; a path loss of a repeatable read sends it again once, in
the other direction, and ends any other with PATH_LOST; a confirmed entry write of a slot of kind RING is counted off and sends the interrupt that
waited for it, one that failed stops its pair, and the entry of a transaction waits for its data (R84, R91, R92).
Where a clause rests on the model's reading or choice, it is that of log entries 7, 8, 50 and 78. -/
def Obligations.TransactionEnds : Prop :=
  (∀ (k : Fin 8192) (t : Tx) (s : State), s.flight k = some t → t.done = false → t.detached = false → t.rop = none → t.req.op ≠ opRecv →
    t.req.op ≠ opFence → t.req.op ≠ opUpdate →
    Machine.exec (.transactionTimeout k) s =
      .next ((s.setTag k { s.tag k with use := .flight { t with done := true } }).post t.pair { t.entry k { status := stTimeout } with abn := true }).settle) ∧
  (∀ (k : Fin 8192) (t : Tx) (s : State), s.flight k = some t → t.req.op = opRecv ∨ t.req.op = opFence ∨ t.req.op = opUpdate →
    Machine.exec (.transactionTimeout k) s = .next s) ∧
  (∀ (n : Fin 2) (t : Tx) (f : Frame) (s : State), f.typ = fRsp → f.mark = .valid → s.consumes f = true → s.pwr.asleep = false → f.ceEcho = false →
    s.flight f.tag = some t → f.gen = (s.tag f.tag).gen → t.done = false → t.req.op ≠ opUnlock →
    Machine.exec (.rspReceive (.frame n f)) s = .next ((s.noteEnd t (rspOutc f)).complete f.tag t (rspOutc f)).settle) ∧
  (∀ (n : Fin 2) (f : Frame) (s : State), f.typ = fRsp → f.mark = .valid → s.consumes f = true → s.pwr.asleep = false → f.ceEcho = false →
    s.flight f.tag = none → Machine.exec (.rspReceive (.frame n f)) s = .next (s.inc R.HIF_LATE_RSP_COUNT).settle) ∧
  (∀ (p : Fin 512) (s : State), (s.pair p).unconf ≠ 0 → (s.pair p).irqDue = [] →
    Answers (.rspReceive (.cqWrite p true)) s State.settle fun u => (u.pair p).unconf = (s.pair p).unconf - 1 ∧ u.regs = s.regs) ∧
  (∀ (p : Fin 512) (s : State), (s.pair p).unconf ≠ 0 → (s.pair p).irqDue = [1] →
    Answers (.rspReceive (.cqWrite p true)) s (fun u => (u.signal (p / 32) (s.rd (R.Q_CFG_VEC (p / 32) (p % 32))) false).settle) fun u =>
      (u.pair p).unconf = (s.pair p).unconf - 1 ∧ (u.pair p).irqDue = [] ∧ u.regs = s.regs) ∧
  (∀ (p : Fin 512) (s : State), (s.pair p).unconf ≠ 0 → Answers (.rspReceive (.cqWrite p false)) s (fun u => (u.stop p 4).settle) fun u =>
    (u.pair p).unconf = (s.pair p).unconf - 1 ∧ u.regs = s.regs) ∧
  (∀ (k : Fin 8192) (ok : Bool) (t : Tx) (e : CqEntry) (s : State), s.flight k = some t → t.confirm = some e →
    Machine.exec (.rspReceive (.dataWrite k ok)) s =
      .next ((s.fly k { t with confirm := none }).post t.pair (if ok then e else e.busError)).settle) ∧
  (∀ (k : Fin 8192) (g : Fin 8) (s : State), (s.tag k).gen ≠ g → Machine.exec (.pathLoss k g) s = .next s.settle) ∧
  (∀ (k : Fin 8192) (g : Fin 8) (t : Tx) (s : State), (s.tag k).gen = g → s.flight k = some t → t.remote = true → t.done = false →
    reissuable t.req = true → t.reissued = false → s.hops t.ring t.via (1 - t.dir) ≠ 0xFF →
    Machine.exec (.pathLoss k g) s =
      .next ((s.setTag k { s.tag k with use := .flight { t with req := { t.req with reissue := true }, dir := 1 - t.dir, reissued := true } }).submit
        bHost (lane t.ring (1 - t.dir)) { ({ t.req with reissue := true } : Req).toFrame with dst := t.req.node }).settle) ∧
  (∀ (k : Fin 8192) (g : Fin 8) (t : Tx) (s : State), (s.tag k).gen = g → s.flight k = some t → t.remote = true → t.done = false →
    reissuable t.req = false ∨ t.reissued = true → Machine.exec (.pathLoss k g) s = .next (s.abort k stPathLost).settle)

/-- The opcodes that act at the issuing hub alone (R113, R115, R116, R120, R123, R449, R489): UNLOCK closes its sequence with a release to every bus
of it, and answers at once when no other hub holds one; a RECV of messages stays posted, and one of raw items takes the oldest that waits; a FENCE
holds back the descriptor reads of its pair or of its slot, and ends once nothing fetched before it is left; a POWER of the operating point in force
completes, and another waits for the voltage; and a chunk of an UPDATE that does not follow on ends the staging with DATA_BAD.
Where a clause rests on the model's reading or choice, it is that of log entries 20, 22 and 23. -/
def Obligations.LocalOpcodes : Prop :=
  (∀ (r : Req) (k : Nat) (t : Tx) (q : LockSeq) (s : State), r ∈ s.tgt.accepted → r.op = opUnlock → r.origin = .here k → s.flight k = some t →
    s.lockSeq r.tn r.lockId = some q → q.dead s.ns = false → (∀ b ∈ q.sent, s.isMine b.1 = true) →
    Answers (.unlock r) s (fun u => (u.respond r { exec := u.tdEnc r.td }).settle) fun u =>
      u = ((s.taken r).fly k { t with need := 0, waits := [], aborted := false }).closeSeq r.tn r.lockId k r.gen r.tc r.td) ∧
  (∀ (r : Req) (s : State), r ∈ s.tgt.accepted → r.op = opRecv → leAt r.operand 0 1 = 0 → Machine.exec (.recv r) s = .next (s.taken r).settle) ∧
  (∀ (r : Req) (k : Nat) (t : Tx) (x : RawItem) (xs : List RawItem) (s : State), r ∈ s.tgt.accepted → r.op = opRecv → leAt r.operand 0 1 = 1 →
    s.rxq (leAt r.operand 1 1) = x :: xs → (s.taken r).recvFor r.tn 1 (leAt r.operand 1 1) none = some (k, t) →
    Machine.exec (.recv r) s =
      .next (((s.taken r).setRxq (leAt r.operand 1 1) xs).fillRecv k t x.bytes x.at_ (leAt r.operand 1 1)).settle) ∧
  (∀ (r : Req) (k : Nat) (t : Tx) (s : State), r ∈ s.tgt.accepted → r.op = opFence → r.opx = 0 → r.origin = .here k → s.flight k = some t →
    t.req.opx = 0 → Answers (.fenceSq r) s State.settle fun u =>
      (u.pair t.pair).asked = 0 ∧ (∀ p, p ≠ t.pair → u.pair p = s.pair p) ∧ u.regs = s.regs ∧ u.tgt.accepted = s.tgt.accepted.erase r) ∧
  (∀ (r : Req) (k : Nat) (t : Tx) (s : State), r ∈ s.tgt.accepted → r.op = opFence → r.opx = 1 → r.origin = .here k → s.flight k = some t →
    t.req.opx = 1 → Answers (.fenceSlot r) s State.settle fun u =>
      (∀ i, i < 32 → (u.pair (32 * t.slot + i)).asked = 0) ∧ (∀ p, p / 32 ≠ t.slot → u.pair p = s.pair p) ∧ u.regs = s.regs) ∧
  (∀ (k : Fin 8192) (t : Tx) (s : State), s.flight k = some t → t.req.op = opFence → t.done = false → t.req ∉ s.tgt.accepted → s.fenceWaits t = false →
    Machine.exec (.fenceDone k) s = .next (s.complete k t { exec := s.tdEnc t.req.td }).settle) ∧
  (∀ (r : Req) (s : State), r ∈ s.tgt.accepted → r.op = opPower → r.opx = 0 → s.pwr.opReq = none → s.pwr.opWait = [] → s.rd R.PWR_STAT_OP ≠ 0 →
    Answers (.powerRun r) s State.settle fun u => u.pwr.opReq = some (r, 0) ∧ u.rd R.PWR_STAT_DVFS_BUSY = 1 ∧ u.hif = s.hif) ∧
  (∀ (r : Req) (s : State), r ∈ s.tgt.accepted → r.op = opPower → r.opx = 1 → s.pwr.opReq = none → s.pwr.opWait = [] →
    s.rd R.PWR_STAT_OP ≠ leAt r.operand 0 1 % 4 → Answers (.powerTrim r) s State.settle fun u =>
      u.pwr.opReq = some (r, leAt r.operand 0 1 % 4) ∧ u.rd R.PWR_STAT_DVFS_BUSY = 1 ∧ u.hif = s.hif) ∧
  (∀ (r : Req) (s : State), r ∈ s.tgt.accepted → r.op = opPower → r.opx = 2 → s.pwr.opReq = none → s.pwr.opWait = [] → s.powerRefused = false →
    Answers (.powerDoze r) s (fun u => (u.ok r 0 0).settle) fun u =>
      u.pwr.entry = some false ∧ u.rd R.PWR_STAT_STATE = 2 ∧ u.pwr.opReq = none ∧ u.hif = s.hif) ∧
  (∀ (r : Req) (s : State), r ∈ s.tgt.accepted → r.op = opPower → r.opx = 3 → s.pwr.opReq = none → s.pwr.opWait = [] → s.powerRefused = false →
    Answers (.powerDormant r) s (fun u => (u.ok r 0 0).settle) fun u =>
      u.pwr.entry = some true ∧ u.rd R.PWR_STAT_STATE = 2 ∧ u.pwr.opReq = none ∧ u.hif = s.hif) ∧
  (∀ (r : Req) (s : State), r ∈ s.tgt.accepted → r.op = opPower → 2 ≤ r.opx → s.pwr.opReq = none → s.pwr.opWait = [] → s.powerRefused = true →
    (r.opx = 2 → Answers (.powerDoze r) s (fun u => (u.refuse r stDenied).settle) fun u => u = s.taken r) ∧
    (r.opx = 3 → Answers (.powerDormant r) s (fun u => (u.refuse r stDenied).settle) fun u => u = s.taken r)) ∧
  (∀ (r : Req) (e : StopEnv) (g : Staging) (s : State), r ∈ s.tgt.accepted → r.op = opUpdate → r.opx = 0 → s.boot.fwStg = some g →
    leAt r.operand 0 4 = g.bytes.length → 0 < g.bytes.length → leAt r.operand 4 4 = g.total → g.bytes.length + r.len ≤ g.total →
    bit (leAt r.operand 8 1) 0 = false → s.pwr.kaolinLost = false →
    Answers (.updateFirmware r e false) s (fun u => (u.ok r 0 r.len).settle) fun u =>
      u.boot.fwStg = some { g with bytes := g.bytes ++ r.data } ∧ u.hif = s.hif) ∧
  (∀ (r : Req) (e : StopEnv) (g : Staging) (s : State), r ∈ s.tgt.accepted → r.op = opUpdate → r.opx = 1 → s.boot.bndStg = some g →
    leAt r.operand 0 4 = g.bytes.length → 0 < g.bytes.length → leAt r.operand 4 4 = g.total → g.bytes.length + r.len ≤ g.total →
    bit (leAt r.operand 8 1) 0 = false → s.pwr.kaolinLost = false →
    Answers (.updateBundle r e false) s (fun u => (u.ok r 0 r.len).settle) fun u =>
      u.boot.bndStg = some { g with bytes := g.bytes ++ r.data } ∧ u.hif = s.hif) ∧
  (∀ (r : Req) (e : StopEnv) (err : Bool) (s : State), r ∈ s.tgt.accepted → r.op = opUpdate → r.opx ≤ 1 → (s.taken r).refusals e ≠ 0 →
    leAt r.operand 0 4 = 0 ∨ bit (leAt r.operand 8 1) 0 = true →
    (r.opx = 0 → Answers (.updateFirmware r e err) s (fun u => (u.refuse r stDenied).settle) fun u =>
      u = (s.taken r).wr R.ID_UPD_STAT_REFUSE ((s.taken r).refusals e)) ∧
    (r.opx = 1 → Answers (.updateBundle r e err) s (fun u => (u.refuse r stDenied).settle) fun u =>
      u = (s.taken r).wr R.ID_UPD_STAT_REFUSE ((s.taken r).refusals e)))

/-- A request at its target (R30, R124, R348): one that fails a check of Table 01-13 is answered with that check's status, and a NO_ROUTE is counted;
in the safe state the requests of Table 18-3 are answered SAFE_STATE; any other without TIMED waits for its opcode; a timed one waits for its TIME,
then goes on; and a hub that has not joined, or sleeps, takes none.
Where a clause rests on the model's reading or choice, it is that of log entries 8, 14 and 62. -/
def Obligations.Admission : Prop :=
  (∀ (f : Frame) (st : Nat) (s : State), f.typ = fReq → f.mark = .valid → s.consumes f = true → s.isJoined f.dst = true → s.pwr.asleep = false →
    f.op ≠ opUnlock → s.targetCheck (Req.ofFrame f) = some st → st ≠ stNoRoute →
    Machine.exec (.reqReceive f) s = .next (s.refuse (Req.ofFrame f) st).settle) ∧
  (∀ (f : Frame) (s : State), f.typ = fReq → f.mark = .valid → s.consumes f = true → s.isJoined f.dst = true → s.pwr.asleep = false →
    f.op ≠ opUnlock → s.targetCheck (Req.ofFrame f) = some stNoRoute →
    Machine.exec (.reqReceive f) s = .next ((s.inc R.RING_NOROUTE_CNT_MISS).refuse (Req.ofFrame f) stNoRoute).settle) ∧
  (∀ (f : Frame) (s : State), f.typ = fReq → f.mark = .valid → s.consumes f = true → s.isJoined f.dst = true → s.pwr.asleep = false →
    f.op ≠ opUnlock → s.targetCheck (Req.ofFrame f) = none → s.inSafe = true → safeRefuses (Req.ofFrame f) = true →
    Machine.exec (.reqReceive f) s = .next (s.refuse (Req.ofFrame f) stSafe).settle) ∧
  (∀ (f : Frame) (s : State), f.typ = fReq → f.mark = .valid → s.consumes f = true → s.isJoined f.dst = true → s.pwr.asleep = false →
    f.op ≠ opUnlock → s.targetCheck (Req.ofFrame f) = none → s.inSafe = false → (Req.ofFrame f).timed = false →
    Answers (.reqReceive f) s State.settle fun t => t.tgt.accepted = s.tgt.accepted ++ [Req.ofFrame f] ∧ t.regs = s.regs ∧ t.hif = s.hif) ∧
  (∀ (f : Frame) (s : State), f.typ = fReq → f.mark = .valid → s.consumes f = true → s.isJoined f.dst = true → s.pwr.asleep = false →
    f.op ≠ opUnlock → s.targetCheck (Req.ofFrame f) = none → s.inSafe = false → (Req.ofFrame f).timed = true →
    s.flag (R.TD_CFG_EN f.td) = true → s.tdNow f.td < timeDec (Req.ofFrame f).time → s.tgt.held.length < 1024 →
    Answers (.reqReceive f) s State.settle fun t => t.tgt.held = s.tgt.held ++ [Req.ofFrame f] ∧ t.tgt.accepted = s.tgt.accepted) ∧
  (∀ (f : Frame) (s : State), s.isJoined f.dst = false ∨ s.pwr.asleep = true ∨ s.consumes f = false → Machine.exec (.reqReceive f) s = .next s) ∧
  (∀ (r : Req) (s : State), r ∈ s.tgt.held → timeDec r.time ≤ s.tdNow r.td → Answers (.timedOpDue r) s id fun t =>
    t.tgt.held = s.tgt.held.erase r ∧ t.tgt.accepted = s.tgt.accepted ++ [r] ∧ t.regs = s.regs ∧ t.hif = s.hif)

/-- READ (R46, R107, R108, R68, R346): of one record of the point store, the record's bytes; of a staging table, its bytes; of set-up space by a lock sequence,
the registers as they read; of host memory, what the host answers, or BUS_ERROR when it cannot be asked or fails; of a device space that no
controller serves, NO_ROUTE, which RING_NOROUTE_CNT counts.
Where a clause rests on the model's reading or choice, it is that of log entries 8, 13, 49, 59 and 61. -/
def Obligations.Reads : Prop :=
  (∀ (r : Req) (d : HostData) (s : State), r ∈ s.tgt.accepted → r.op = opRead → r.space = 0x100 → 1 ≤ r.len → r.off % 64 + r.len ≤ 64 →
    Machine.exec (.read r d) s = .next ((s.taken r).ok r 0 r.len (slice (s.point (r.off / 64)).bytes (r.off % 64) r.len)).settle) ∧
  (∀ (r : Req) (d : HostData) (s : State), r ∈ s.tgt.accepted → r.op = opRead → r.space = 0x300 → r.off / 2 ^ 24 < 4 →
    Machine.exec (.read r d) s = .next ((s.taken r).ok r 0 r.len (memRead s.rfx.stg (tblKey (r.off / 2 ^ 24) (r.off % 2 ^ 24)) r.len)).settle) ∧
  (∀ (r : Req) (d : HostData) (b : List Byte) (s u : State), r ∈ s.tgt.accepted → r.op = opRead → r.space = 0x200 → r.locked = true →
    (s.taken r).setupRead r.off r.len = (b, u) → Machine.exec (.read r d) s = .next (u.ok r 0 r.len b).settle) ∧
  (∀ (r : Req) (b : List Byte) (s : State), r ∈ s.tgt.accepted → r.op = opRead → r.space = 0x400 → s.canSend (r.off / 2 ^ 28) = true →
    Machine.exec (.read r (.data b)) s =
      .next (((s.taken r).emit (.hostRead (r.off / 2 ^ 28) (s.regionAddr r.off) r.len "region")).ok r 0 r.len (slice b 0 r.len)).settle) ∧
  (∀ (r : Req) (s : State), r ∈ s.tgt.accepted → r.op = opRead → r.space = 0x400 → s.canSend (r.off / 2 ^ 28) = true →
    Machine.exec (.read r .failed) s =
      .next (((s.taken r).emit (.hostRead (r.off / 2 ^ 28) (s.regionAddr r.off) r.len "region")).refuse r stBusError).settle) ∧
  (∀ (r : Req) (d : HostData) (s : State), r ∈ s.tgt.accepted → r.op = opRead → r.space = 0x400 → s.canSend (r.off / 2 ^ 28) = false →
    Machine.exec (.read r d) s = .next ((s.taken r).refuse r stBusError).settle) ∧
  (∀ (r : Req) (d : HostData) (s : State), s.inTurn r = true → r.op = opRead → r.space < 64 → s.devTarget r.space = none →
    Machine.exec (.read r d) s = .next (((s.taken r).inc R.RING_NOROUTE_CNT_MISS).refuse r stNoRoute).settle)

/-- WRITE (R46, R51, R108, R119, R387): the writer of a point that is not forced hands it the value at the present time of its domain, and one that is not its
writer is DENIED; PF0 sets the forced value of a forced point; set-up space takes the value as its registers do; a table region that is ARMED or
SYNCING is closed; host memory is passed to the PCIe link; a device space that no controller serves answers NO_ROUTE, which
RING_NOROUTE_CNT counts.
Where a clause rests on the model's reading or choice, it is that of log entries 8, 45, 49 and 61. -/
def Obligations.Writes : Prop :=
  (∀ (r : Req) (n : Nat) (s : State), r ∈ s.tgt.accepted → r.op = opWrite → r.space = 0x100 → r.off = 64 * n → r.data.length = 8 →
    (s.point n).hub = false → s.slotOf r = some (s.point n).writerSlot → (s.point n).isForced = false →
    ¬ (isNaN (s.point n).type (leNat r.data) = true ∧ (s.point n).isOutput = true) →
    Machine.exec (.write r) s =
      .next ((((s.taken r).deliver n ⟨leNat r.data, s.tdEnc (s.point n).dom, none⟩).refreshPoint n).ok r 0 r.len).settle) ∧
  (∀ (r : Req) (n : Nat) (s : State), r ∈ s.tgt.accepted → r.op = opWrite → r.space = 0x100 → r.off = 64 * n → r.data.length = 8 →
    (s.point n).refusesWrite (s.who r) (s.flag R.ID_COMMIT_COMMITTED) 0 8 = false → isNaN (s.point n).type (leNat r.data) = true →
    (s.point n).isOutput = true → Machine.exec (.write r) s = .next ((s.taken r).refuse r stDataBad).settle) ∧
  (∀ (r : Req) (n : Nat) (s : State), r ∈ s.tgt.accepted → r.op = opWrite → r.space = 0x100 → r.off = 64 * n → r.data.length = 8 →
    (s.point n).hub = true ∨ s.slotOf r ≠ some (s.point n).writerSlot → (s.point n).isForced = false →
    Machine.exec (.write r) s = .next ((s.taken r).refuse r stDenied).settle) ∧
  (∀ (r : Req) (n : Nat) (s : State), r ∈ s.tgt.accepted → r.op = opWrite → r.space = 0x100 → r.off = 64 * n → r.data.length = 8 →
    s.slotOf r = some 0 → (s.point n).isForced = true → ¬ (isNaN (s.point n).type (leNat r.data) = true ∧ (s.point n).isOutput = true) →
    Machine.exec (.write r) s =
      .next ((((s.taken r).setPoint n { s.point n with forced := leNat r.data }).refreshPoint n).ok r 0 r.len).settle) ∧
  (∀ (r : Req) (s : State), r ∈ s.tgt.accepted → r.op = opWrite → r.space = 0x200 →
    ((s.taken r).pf0Write r.off r.len (leNat r.data)).boot.stage = s.boot.stage →
    Machine.exec (.write r) s = .next (((s.taken r).pf0Write r.off r.len (leNat r.data)).ok r 0 r.len).settle) ∧
  (∀ (r : Req) (s : State), r ∈ s.tgt.accepted → r.op = opWrite → r.space = 0x300 → r.off / 2 ^ 24 < 4 →
    s.flag (armedFld (r.off / 2 ^ 24)) = false → s.flag (syncingFld (r.off / 2 ^ 24)) = false →
    Answers (.write r) s (fun u => (u.ok r 0 r.len).settle) fun u =>
      u.rfx.stg = memWrite s.rfx.stg (tblKey (r.off / 2 ^ 24) (r.off % 2 ^ 24)) r.data ∧ u.regs = s.regs) ∧
  (∀ (r : Req) (s : State), r ∈ s.tgt.accepted → r.op = opWrite → r.space = 0x300 → r.off / 2 ^ 24 < 4 →
    s.flag (armedFld (r.off / 2 ^ 24)) = true ∨ s.flag (syncingFld (r.off / 2 ^ 24)) = true →
    Machine.exec (.write r) s = .next ((s.taken r).refuse r stDenied).settle) ∧
  (∀ (r : Req) (s : State), r ∈ s.tgt.accepted → r.op = opWrite → r.space = 0x400 → s.canSend (r.off / 2 ^ 28) = true →
    Machine.exec (.write r) s =
      .next (((s.taken r).emit (.hostWrite (r.off / 2 ^ 28) (s.regionAddr r.off) r.data)).ok r 0 r.len).settle) ∧
  (∀ (r : Req) (s : State), s.inTurn r = true → r.op = opWrite → r.space < 64 → s.devTarget r.space = none →
    Machine.exec (.write r) s = .next (((s.taken r).inc R.RING_NOROUTE_CNT_MISS).refuse r stNoRoute).settle)

/-- RMW at a point (R109, R110, Table 04-9): SWAP writes A, ADD writes V + A modulo 2^64, AND, OR and XOR combine V and A, MASKED takes the bits of A
where B is set and those of V elsewhere; CAS writes A when V is B, and nothing else; each answers with V, over 4 bytes likewise with the
result as TYPE keeps it; in set-up space the result is written as a register is. An RMW of a device space outside a lock sequence is DENIED.
Where a clause rests on the model's reading or choice, it is that of log entries 8 and 49. -/
def Obligations.ReadModifyWrite : Prop :=
  (∀ (r : Req) (n : Nat) (v a b : BitVec 64) (s : State), s.mayRmw r n 0 8 → (s.point n).value % 2 ^ 64 = v.toNat → leAt r.operand 0 8 = a.toNat →
    leAt r.operand 8 8 = b.toNat → ¬ (isNaN (s.point n).type a.toNat = true ∧ (s.point n).isOutput = true) →
    Machine.exec (.rmwSwap r) s = .next (((s.taken r).deliver n ⟨a.toNat, s.tdEnc (s.point n).dom, none⟩).ok r v.toNat 8).settle) ∧
  (∀ (r : Req) (n : Nat) (v a b : BitVec 64) (s : State), s.mayRmw r n 2 8 → (s.point n).value % 2 ^ 64 = v.toNat → leAt r.operand 0 8 = a.toNat →
    leAt r.operand 8 8 = b.toNat → ¬ (isNaN (s.point n).type (v + a).toNat = true ∧ (s.point n).isOutput = true) →
    Machine.exec (.rmwAdd r) s = .next (((s.taken r).deliver n ⟨(v + a).toNat, s.tdEnc (s.point n).dom, none⟩).ok r v.toNat 8).settle) ∧
  (∀ (r : Req) (n : Nat) (v a b : BitVec 64) (s : State), s.mayRmw r n 3 8 → (s.point n).value % 2 ^ 64 = v.toNat → leAt r.operand 0 8 = a.toNat →
    leAt r.operand 8 8 = b.toNat → ¬ (isNaN (s.point n).type (v &&& a).toNat = true ∧ (s.point n).isOutput = true) →
    Machine.exec (.rmwAnd r) s = .next (((s.taken r).deliver n ⟨(v &&& a).toNat, s.tdEnc (s.point n).dom, none⟩).ok r v.toNat 8).settle) ∧
  (∀ (r : Req) (n : Nat) (v a b : BitVec 64) (s : State), s.mayRmw r n 4 8 → (s.point n).value % 2 ^ 64 = v.toNat → leAt r.operand 0 8 = a.toNat →
    leAt r.operand 8 8 = b.toNat → ¬ (isNaN (s.point n).type (v ||| a).toNat = true ∧ (s.point n).isOutput = true) →
    Machine.exec (.rmwOr r) s = .next (((s.taken r).deliver n ⟨(v ||| a).toNat, s.tdEnc (s.point n).dom, none⟩).ok r v.toNat 8).settle) ∧
  (∀ (r : Req) (n : Nat) (v a b : BitVec 64) (s : State), s.mayRmw r n 5 8 → (s.point n).value % 2 ^ 64 = v.toNat → leAt r.operand 0 8 = a.toNat →
    leAt r.operand 8 8 = b.toNat → ¬ (isNaN (s.point n).type (v ^^^ a).toNat = true ∧ (s.point n).isOutput = true) →
    Machine.exec (.rmwXor r) s = .next (((s.taken r).deliver n ⟨(v ^^^ a).toNat, s.tdEnc (s.point n).dom, none⟩).ok r v.toNat 8).settle) ∧
  (∀ (r : Req) (n : Nat) (v a b : BitVec 64) (s : State), s.mayRmw r n 6 8 → (s.point n).value % 2 ^ 64 = v.toNat → leAt r.operand 0 8 = a.toNat →
    leAt r.operand 8 8 = b.toNat → ¬ (isNaN (s.point n).type ((v &&& ~~~b) ||| (a &&& b)).toNat = true ∧ (s.point n).isOutput = true) →
    Machine.exec (.rmwMasked r) s = .next (((s.taken r).deliver n ⟨((v &&& ~~~b) ||| (a &&& b)).toNat, s.tdEnc (s.point n).dom, none⟩).ok r v.toNat 8).settle) ∧
  (∀ (r : Req) (n : Nat) (v a : BitVec 64) (s : State), s.mayRmw r n 1 8 → (s.point n).value % 2 ^ 64 = v.toNat → leAt r.operand 0 8 = a.toNat → leAt r.operand 8 8 = v.toNat →
    ¬ (isNaN (s.point n).type a.toNat = true ∧ (s.point n).isOutput = true) →
    Machine.exec (.rmwCas r) s = .next (((s.taken r).deliver n ⟨a.toNat, s.tdEnc (s.point n).dom, none⟩).ok r v.toNat 8).settle) ∧
  (∀ (r : Req) (n : Nat) (v : BitVec 64) (s : State), s.mayRmw r n 1 8 → (s.point n).value % 2 ^ 64 = v.toNat → leAt r.operand 8 8 ≠ v.toNat →
    Machine.exec (.rmwCas r) s = .next ((s.taken r).ok r v.toNat 8).settle) ∧
  (∀ (r : Req) (n x : Nat) (s t : State), s.mayRmw r n r.opx 4 →
    rmwValue r.opx 4 ((s.point n).value % 2 ^ 32) (leAt r.operand 0 4) (leAt r.operand 8 4) = some x →
    ¬ (isNaN (s.point n).type (encodeBy (s.point n).type x % 2 ^ 64) = true ∧ (s.point n).isOutput = true) →
    t = (((s.taken r).deliver n ⟨encodeBy (s.point n).type x % 2 ^ 64, s.tdEnc (s.point n).dom, none⟩).ok r ((s.point n).value % 2 ^ 32) 4).settle →
      (r.opx = 0 → Machine.exec (.rmwSwap r) s = .next t) ∧
      (r.opx = 1 → Machine.exec (.rmwCas r) s = .next t) ∧
      (r.opx = 2 → Machine.exec (.rmwAdd r) s = .next t) ∧
      (r.opx = 3 → Machine.exec (.rmwAnd r) s = .next t) ∧
      (r.opx = 4 → Machine.exec (.rmwOr r) s = .next t) ∧
      (r.opx = 5 → Machine.exec (.rmwXor r) s = .next t) ∧
      (r.opx = 6 → Machine.exec (.rmwMasked r) s = .next t)) ∧
  (∀ (r : Req) (d : List Byte) (x : Nat) (s u t : State), r ∈ s.tgt.accepted → r.op = opRmw → r.space = 0x200 → (s.taken r).setupRead r.off r.len = (d, u) →
    rmwValue r.opx r.len (leNat d) (leAt r.operand 0 r.len) (leAt r.operand 8 r.len) = some x → t = (u.writeSetup r x (leNat d)).settle →
      (r.opx = 0 → Machine.exec (.rmwSwap r) s = .next t) ∧
      (r.opx = 1 → Machine.exec (.rmwCas r) s = .next t) ∧
      (r.opx = 2 → Machine.exec (.rmwAdd r) s = .next t) ∧
      (r.opx = 3 → Machine.exec (.rmwAnd r) s = .next t) ∧
      (r.opx = 4 → Machine.exec (.rmwOr r) s = .next t) ∧
      (r.opx = 5 → Machine.exec (.rmwXor r) s = .next t) ∧
      (r.opx = 6 → Machine.exec (.rmwMasked r) s = .next t)) ∧
  (∀ (r : Req) (k i : Nat) (s : State), s.inTurn r = true → r.op = opRmw → r.space < 64 → r.locked = false → s.devTarget r.space = some (k, i) →
    s.ctlRaw k i = false → (r.opx = 2 → Machine.exec (.rmwAdd r) s = .next ((s.taken r).refuse r stDenied).settle) ∧
      (r.opx = 0 → Machine.exec (.rmwSwap r) s = .next ((s.taken r).refuse r stDenied).settle))

/-- LOCK and SEND at their target (R111, R114 to R116, R287, R344, R345): a LOCK of a bus without LOCK_OK is DENIED; of a free bus it joins the window;
of a held one it ends with LOCK_CONFLICT, a backoff from 0.5 to 1.5 times that configured, and the holder's node. A SEND to a slot that is off is
DENIED, one without a RECV gets BUS_NAK, and one with a RECV fills it; a raw SEND ends with SAFE_STATE in the safe state, that of a tenant that does not
own the port is DENIED, and a good one waits in its controller (R302).
Where a clause rests on the model's reading or choice, it is that of log entries 1, 20, 32 and 57. -/
def Obligations.LockAndSend : Prop :=
  (∀ (r : Req) (k i : Nat) (s : State), r ∈ s.tgt.accepted → r.op = opLock → s.devTarget r.space = some (k, i) → s.lockOk r.space = false →
    Machine.exec (.lock r) s = .next ((s.taken r).refuse r stDenied).settle) ∧
  (∀ (r : Req) (k i : Nat) (s : State), r ∈ s.tgt.accepted → r.op = opLock → s.devTarget r.space = some (k, i) → s.lockOk r.space = true →
    k ≠ cCan → k ≠ cSpe → s.ctlRaw k i = false → (s.busLock r.space).holder = none → (s.busLock r.space).winner = none →
    Answers (.lock r) s State.settle fun t => (t.busLock r.space).windowOpen = true ∧
      (t.busLock r.space).contenders = (s.busLock r.space).contenders ++ [r] ∧ (∀ p, p ≠ r.space → t.busLock p = s.busLock p) ∧ t.regs = s.regs) ∧
  (∀ (r : Req) (k i node tn id : Nat) (s : State), r ∈ s.tgt.accepted → r.op = opLock → s.devTarget r.space = some (k, i) →
    s.lockOk r.space = true → k ≠ cCan → k ≠ cSpe → s.ctlRaw k i = false → (s.busLock r.space).holder = some (node, tn, id) →
    ∃ back, s.rd R.BRG_LOCK_CFG_BACKOFF ≤ 2 * back ∧ 2 * back ≤ 3 * s.rd R.BRG_LOCK_CFG_BACKOFF ∧
      Answers (.lock r) s (fun t => (t.respond r { status := stLockConflict, result := back + node * 2 ^ 32 }).settle) fun t =>
        t.brg = s.brg ∧ t.hif = s.hif) ∧
  (∀ (r : Req) (s : State), r ∈ s.tgt.accepted → r.op = opSend → 64 ≤ r.space → s.slotOn (r.off / 2 ^ 28) = false →
    Machine.exec (.send r) s = .next ((s.taken r).refuse r stDenied).settle) ∧
  (∀ (r : Req) (s : State), r ∈ s.tgt.accepted → r.op = opSend → 64 ≤ r.space → s.slotOn (r.off / 2 ^ 28) = true →
    (s.taken r).recvFor (r.off / 2 ^ 28) 0 (r.off % 256) (some (r.src, r.tn)) = none →
    Machine.exec (.send r) s = .next ((s.taken r).refuse r stBusNak).settle) ∧
  (∀ (r : Req) (k : Nat) (t : Tx) (s : State), r ∈ s.tgt.accepted → r.op = opSend → 64 ≤ r.space → s.slotOn (r.off / 2 ^ 28) = true →
    (s.taken r).recvFor (r.off / 2 ^ 28) 0 (r.off % 256) (some (r.src, r.tn)) = some (k, t) →
    Machine.exec (.send r) s = .next (((s.taken r).fillRecv k t r.data s.now
      (r.src + r.tn * 2 ^ 24 + r.off % 256 * 2 ^ 32)).ok r 0 r.len).settle) ∧
  (∀ (r : Req) (s : State), r ∈ s.tgt.accepted → r.op = opSend → r.space < 64 → s.inSafe = false → s.slotOf r ≠ some (s.rd (R.PCTL_PORT_RAW_OWN r.space)) →
    Machine.exec (.send r) s = .next ((s.taken r).refuse r stDenied).settle) ∧
  (∀ (r : Req) (k i : Nat) (s : State), r ∈ s.tgt.accepted → r.op = opSend → r.space < 64 → s.inSafe = false →
    s.slotOf r = some (s.rd (R.PCTL_PORT_RAW_OWN r.space)) → dlenFits r.data = true → leAt r.data 2 2 + 16 = r.len → s.rawTarget r.space r.data = some (k, i) → s.ctlRaw k i = true → k ≠ cCan →
    ((s.txq (ctlKey k i)).filter fun x => x.req.isSome ∧ x.obj.isNone).length < 16 →
    Answers (.send r) s State.settle fun t => t.txq (ctlKey k i) = s.txq (ctlKey k i) ++ [{ req := some r, item := r.data }] ∧ t.regs = s.regs) ∧
  (∀ (r : Req) (s : State), r ∈ s.tgt.accepted → r.op = opSend → r.space < 64 → s.inSafe = true →
    Machine.exec (.send r) s = .next ((s.taken r).refuse r stSafe).settle)

/-- Subscriptions (R58 to R60, R117, R118): a repeated one changes the rule and the deadband of the one that stands and answers with its number; beyond the bounds it is
DENIED; a new one takes a number that none has; and UNSUBSCRIBE ends the requester's own subscription and answers DATA_BAD to any other.
Where a clause rests on the model's reading or choice, it is that of log entries 1 and 19. -/
def Obligations.Subscriptions : Prop :=
  (∀ (r : Req) (u : Sub) (s : State), r ∈ s.tgt.accepted → r.op = opSubscribe →
    (s.pts.subs.find? fun u => u.ofReq r ∧ u.point = r.off / 64 ∧ u.pair = leAt r.operand 8 1 % 32 ∧ ¬ u.final) = some u →
    (r.opx = 0 → Machine.exec (.subscribeCyclic r) s =
      .next (((s.taken r).setSub { u with onChange := false, deadband := leAt r.operand 0 8 }).ok r u.num 0).settle) ∧
    (r.opx = 1 → Machine.exec (.subscribeOnChange r) s =
      .next (((s.taken r).setSub { u with onChange := true, deadband := leAt r.operand 0 8 }).ok r u.num 0).settle)) ∧
  (∀ (r : Req) (s : State), r ∈ s.tgt.accepted → r.op = opSubscribe →
    (s.pts.subs.find? fun u => u.ofReq r ∧ u.point = r.off / 64 ∧ u.pair = leAt r.operand 8 1 % 32 ∧ ¬ u.final) = none → s.subsFull r = true →
    (r.opx = 0 → Machine.exec (.subscribeCyclic r) s = .next ((s.taken r).refuse r stDenied).settle) ∧
    (r.opx = 1 → Machine.exec (.subscribeOnChange r) s = .next ((s.taken r).refuse r stDenied).settle)) ∧
  (∀ (r : Req) (s : State), r ∈ s.tgt.accepted → r.op = opSubscribe → r.opx = 0 →
    (s.pts.subs.find? fun u => u.ofReq r ∧ u.point = r.off / 64 ∧ u.pair = leAt r.operand 8 1 % 32 ∧ ¬ u.final) = none → s.subsFull r = false →
    ∃ num, (∀ u ∈ s.pts.subs, u.num ≠ num) ∧ Answers (.subscribeCyclic r) s (fun t => (t.ok r num 0).settle) fun t =>
      t.pts.recs = s.pts.recs ∧ t.hif = s.hif ∧ ∃ u : Sub, t.pts.subs = s.pts.subs ++ [u] ∧ u.num = num ∧ u.point = r.off / 64 ∧ u.node = r.src ∧
        u.tn = r.tn ∧ u.pair = leAt r.operand 8 1 % 32 ∧ u.onChange = false ∧ u.pend = none) ∧
  (∀ (r : Req) (s : State), r ∈ s.tgt.accepted → r.op = opSubscribe → r.opx = 1 →
    (s.pts.subs.find? fun u => u.ofReq r ∧ u.point = r.off / 64 ∧ u.pair = leAt r.operand 8 1 % 32 ∧ ¬ u.final) = none → s.subsFull r = false →
    ∃ num, (∀ u ∈ s.pts.subs, u.num ≠ num) ∧ Answers (.subscribeOnChange r) s (fun t => (t.ok r num 0).settle) fun t =>
      t.pts.recs = s.pts.recs ∧ t.hif = s.hif ∧ ∃ u : Sub, t.pts.subs = s.pts.subs ++ [u] ∧ u.num = num ∧ u.point = r.off / 64 ∧ u.node = r.src ∧
        u.tn = r.tn ∧ u.pair = leAt r.operand 8 1 % 32 ∧ u.onChange = true ∧ u.deadband = leAt r.operand 0 8) ∧
  (∀ (r : Req) (u : Sub) (s : State), r ∈ s.tgt.accepted → r.op = opUnsubscribe →
    (s.pts.subs.find? fun u => u.num = leAt r.operand 0 2 ∧ u.point = r.off / 64 ∧ u.ofReq r ∧ ¬ u.final) = some u →
    Machine.exec (.unsubscribe r) s = .next (((s.taken r).endSub u.num).ok r 0 0).settle) ∧
  (∀ (r : Req) (s : State), r ∈ s.tgt.accepted → r.op = opUnsubscribe →
    (s.pts.subs.find? fun u => u.num = leAt r.operand 0 2 ∧ u.point = r.off / 64 ∧ u.ofReq r ∧ ¬ u.final) = none →
    Machine.exec (.unsubscribe r) s = .next ((s.taken r).refuse r stDataBad).settle)

/-- TABLE_LOAD and QUERY (R119, R121, R387): a load writes the staging copy of a region that is neither ARMED nor SYNCING, and arms it with ACTIVATE; a QUERY answers
with the time, with the topology and the state of the node, with the identity page, or with the slot's tags.
Where a clause rests on the model's reading or choice, it is that of log entry 14. -/
def Obligations.TablesAndQueries : Prop :=
  (∀ (r : Req) (s : State), r ∈ s.tgt.accepted → r.op = opTableLoad → r.opx = 0 → r.off / 2 ^ 24 < 4 →
    s.flag (armedFld (r.off / 2 ^ 24)) = false → s.flag (syncingFld (r.off / 2 ^ 24)) = false →
    Answers (.tableLoad r) s (fun u => (u.ok r 0 r.len).settle) fun u =>
      u.rfx.stg = memWrite s.rfx.stg (tblKey (r.off / 2 ^ 24) (r.off % 2 ^ 24)) r.data ∧ u.regs = s.regs) ∧
  (∀ (r : Req) (s : State), r ∈ s.tgt.accepted → r.op = opTableLoad → r.opx = 1 → r.off / 2 ^ 24 < 4 →
    s.flag (armedFld (r.off / 2 ^ 24)) = false → s.flag (syncingFld (r.off / 2 ^ 24)) = false →
    Answers (.tableLoadActivate r) s (fun u => (u.ok r 0 r.len).settle) fun u =>
      u.rfx.stg = memWrite s.rfx.stg (tblKey (r.off / 2 ^ 24) (r.off % 2 ^ 24)) r.data ∧ u.flag (armedFld (r.off / 2 ^ 24)) = true) ∧
  (∀ (r : Req) (s : State), r ∈ s.tgt.accepted → r.op = opTableLoad → s.tableClosed r.off r.len = true →
    (r.opx = 0 → Machine.exec (.tableLoad r) s = .next ((s.taken r).refuse r stDenied).settle) ∧
    (r.opx = 1 → Machine.exec (.tableLoadActivate r) s = .next ((s.taken r).refuse r stDenied).settle)) ∧
  (∀ (r : Req) (s : State), r ∈ s.tgt.accepted → r.op = opQuery → r.opx = 0 →
    Machine.exec (.queryTime r) s = .next ((s.taken r).respond r { exec := s.tdEnc r.td }).settle) ∧
  (∀ (r : Req) (a b : Nat) (s u v : State), r ∈ s.tgt.accepted → r.op = opQuery → r.opx = 1 → (s.taken r).readWord 0x50020 = (a, u) →
    u.readWord 0x50018 = (b, v) → Machine.exec (.queryTopology r) s = .next (v.ok r (a + b * 2 ^ 32) 0).settle) ∧
  (∀ (r : Req) (b : List Byte) (s u : State), r ∈ s.tgt.accepted → r.op = opQuery → r.opx = 2 → (s.taken r).identity = (b, u) →
    Machine.exec (.queryIdentity r) s = .next (u.ok r 0 r.len b).settle) ∧
  (∀ (r : Req) (s : State), r ∈ s.tgt.accepted → r.op = opQuery → r.opx = 3 →
    Machine.exec (.queryTags r) s = .next ((s.taken r).ok r
      (s.held r.tn + s.rd (R.HIF_QUOTA_GUAR r.tn) * 2 ^ 16 + s.rd (R.HIF_QUOTA_QUOTA r.tn) * 2 ^ 32) 0).settle)

/-- Messages to this hub (R61, R83, R114, R118, R144): a broadcast message fills the RECV that matches it, and leaves a slot without one as it is; a
delivery goes to the pair of its subscription, or to nobody when no tenant here has it; an interrupt of a valid peer of an open region raises the
vector that it names, or sets its pending bit while it is masked or cannot be sent.
Where a clause rests on the model's reading or choice, it is that of log entries 19 and 22. -/
def Obligations.Messages : Prop :=
  (∀ (f : Frame) (k : Nat) (t : Tx) (s : State), f.typ = fMsg → f.op = 3 → f.mark = .valid → isBc f = true → s.isMine f.src = false →
    s.isJoined f.dst = true → s.pwr.asleep = false → bits f.arg 32 14 = 0x400 → s.slotOn (bits f.arg 0 32 / 2 ^ 28) = true →
    s.recvFor (bits f.arg 0 32 / 2 ^ 28) 0 (bits f.arg 0 32 % 256) (some (f.src, f.tn)) = some (k, t) →
    Machine.exec (.msgMessageReceive f) s =
      .next (s.fillRecv k t f.payload s.now (f.src + f.tn * 2 ^ 24 + bits f.arg 0 32 % 256 * 2 ^ 32)).settle) ∧
  (∀ (f : Frame) (s : State), s.recvFor (bits f.arg 0 32 / 2 ^ 28) 0 (bits f.arg 0 32 % 256) (some (f.src, f.tn)) = none →
    Machine.exec (.msgMessageReceive f) s = .next s ∨ Machine.exec (.msgMessageReceive f) s = .next s.settle) ∧
  (∀ (f : Frame) (u : RemSub) (s : State), f.typ = fMsg → f.op = 1 → f.mark = .valid → s.consumes f = true → s.pwr.asleep = false →
    (s.pts.remote.find? fun u => u.node = f.src ∧ u.slot = f.tn ∧ u.num = leAt f.payload 0x18 2 % 32768) = some u →
    (s.pair (32 * u.slot + u.pair)).st ≠ .idle → s.mayPut (32 * u.slot + u.pair) = true → leAt f.payload 0x1B 1 = 0 →
    Machine.exec (.msgDeliveryReceive f) s = .next ((s.setRemSub u (some u)).putEntry (32 * u.slot + u.pair)
      ((msgDlv f.payload).entry u.node (bit (leAt f.payload 0x18 2) 15)))) ∧
  (∀ (f : Frame) (s : State), (s.pts.remote.find? fun u => u.node = f.src ∧ u.slot = f.tn ∧ u.num = leAt f.payload 0x18 2 % 32768) = none →
    Machine.exec (.msgDeliveryReceive f) s = .next s) ∧
  (∀ (f : Frame) (s : State), f.typ = fMsg → f.op = 2 → f.mark = .valid → s.consumes f = true → s.pwr.asleep = false →
    s.regionOpen f.tn = true → s.isPeer f.tn f.src none = true → 128 * f.tn + leAt f.payload 0 1 % 128 ∈ s.hif.msixOpen →
    s.canSend f.tn = true → Answers (.msgInterruptReceive f) s id fun t => t.emitted = s.emitted ++ [.msix f.tn (leAt f.payload 0 1 % 128)
      (s.hif.msixTab.get (fun _ => (0, 0)) (128 * f.tn + leAt f.payload 0 1 % 128)).1 (s.hif.msixTab.get (fun _ => (0, 0)) (128 * f.tn + leAt f.payload 0 1 % 128)).2] ∧ t.regs = s.regs ∧ t.hif = s.hif) ∧
  (∀ (f : Frame) (s : State), f.typ = fMsg → f.op = 2 → f.mark = .valid → s.consumes f = true → s.pwr.asleep = false →
    s.regionOpen f.tn = true → s.isPeer f.tn f.src none = true →
    128 * f.tn + leAt f.payload 0 1 % 128 ∉ s.hif.msixOpen ∨ s.canSend f.tn = false →
    Answers (.msgInterruptReceive f) s id fun t => 128 * f.tn + leAt f.payload 0 1 % 128 ∈ t.hif.msixPend ∧
      (∀ k, k ∈ s.hif.msixPend → k ∈ t.hif.msixPend) ∧ t.emitted = s.emitted ∧ t.regs = s.regs) ∧
  (∀ (f : Frame) (s : State), s.regionOpen f.tn = false ∨ s.isPeer f.tn f.src none = false → Machine.exec (.msgInterruptReceive f) s = .next s)

/-- A frame at a ring port (R29, R133, R142, R149, R151): one out of sequence is discarded and counted; a valid one in sequence moves NEXT on, and is
handed to its block when this hub consumes it, and goes on along the ring when it does not; a junction sends it to the ring that its table names, with
XCNT and HOPS stepped, stops it at XCNT 15, and discards a frame of its own that has come back; the mark is what the comparison of the tag gives
(`State.readTag`); and a port that is not UP takes none, nor one that a command of its own takes.
Where a clause rests on the model's reading or choice, it is that of log entries 9, 47, 69 and 76. -/
def Obligations.FrameArrival : Prop :=
  (∀ (i : Fin 4) (g f : Frame) (s : State), s.readTag i g = f → s.isUp i = true → s.crosses i f = false → f.replayed = true → f.mark = .valid →
    f.epoch = (s.port i).rxEpoch → f.lseq ≠ (s.port i).next → Machine.exec (.frameForward i g true) s = .next (s.countDiscard i).settle) ∧
  (∀ (i : Fin 4) (g f : Frame) (s : State), s.readTag i g = f → s.isUp i = true → s.crosses i f = false → f.replayed = true → f.mark = .valid →
    f.epoch = (s.port i).rxEpoch → f.lseq = (s.port i).next → f.ver = 1 → isBc f = false → s.consumes f = true → s.pwr.asleep = false →
    Answers (.frameForward i g true) s (fun t => (t.submit i (frameBlock f) f).settle) fun t =>
      (t.port i).next = (f.lseq + 1) % 4096 ∧ (t.port i).nakFor = none ∧ t.sw = s.sw ∧ t.regs = s.regs) ∧
  (∀ (i : Fin 4) (g f : Frame) (s : State), s.readTag i g = f → s.isUp i = true → s.crosses i f = false → f.replayed = true → f.mark = .valid →
    f.epoch = (s.port i).rxEpoch → f.lseq = (s.port i).next → isBc f = false → s.consumes f = false → s.isMine f.src = false →
    Answers (.frameForward i g true) s (fun t => (t.onward i (mate i) f).settle) fun t =>
      (t.port i).next = (f.lseq + 1) % 4096 ∧ t.sw = s.sw ∧ t.regs = s.regs) ∧
  (∀ (i o : Nat) (f : Frame) (s : State), f.hops = 1023 → s.onward i o f = s.countDiscard i) ∧
  (∀ (i o : Nat) (f : Frame) (s : State), f.hops ≠ 1023 → s.isUp o = true → (s.port o).busy = true → s.pwr.asleep = false →
    s.onward i o f = s.submit i o f.leaves) ∧
  (∀ (i : Fin 4) (g f : Frame) (n via d : Nat) (s : State), s.readTag i g = f → s.isUp i = true → s.crosses i f = true → f.replayed = true → f.mark = .valid →
    f.epoch = (s.port i).rxEpoch → f.lseq = (s.port i).next → f.hops ≠ 1023 → s.isMine f.src = false → f.xcnt ≠ 15 →
    s.byTable (f.dst / 256) (f.dst % 256) = .to n via d →
    Answers (.junctionRoute i g true) s (fun t => (t.submit i (lane n d) { f.leaves with xcnt := f.xcnt + 1 }).settle) fun t =>
      (t.port i).next = (f.lseq + 1) % 4096 ∧ t.sw = s.sw ∧ t.regs = s.regs) ∧
  (∀ (i : Fin 4) (g f : Frame) (s : State), s.readTag i g = f → s.isUp i = true → s.crosses i f = true → f.typ = fRsp → f.mark = .valid →
    f.epoch = (s.port i).rxEpoch → f.lseq = (s.port i).next → f.hops ≠ 1023 → s.isMine f.src = false → f.xcnt = 15 →
    Answers (.junctionRoute i g true) s (fun t => (t.inc R.RING_NOROUTE_CNT_LOOP).settle) fun t =>
      (t.port i).next = (f.lseq + 1) % 4096 ∧ t.sw = s.sw) ∧
  (∀ (i : Fin 4) (g f : Frame) (s : State), s.readTag i g = f → s.isUp i = true → s.crosses i f = true → f.replayed = true → f.mark = .valid →
    f.epoch = (s.port i).rxEpoch → f.lseq = (s.port i).next → s.isOwn f = true → f.wrap = 0 →
    Answers (.junctionRoute i g true) s (fun t => t.countDiscard i) fun t => (t.port i).next = (f.lseq + 1) % 4096 ∧ t.sw = s.sw ∧ t.regs = s.regs) ∧
  (∀ (i : Fin 4) (g : Frame) (s : State), ownCommand (s.readTag i g) = true → Machine.exec (.frameForward i g true) s = .next s ∧
    Machine.exec (.junctionRoute i g true) s = .next s) ∧
  (∀ (i : Fin 4) (f : Frame) (seqRead : Bool) (s : State), s.isUp i = false →
    Machine.exec (.frameForward i f seqRead) s = .next s ∧ Machine.exec (.junctionRoute i f seqRead) s = .next s)

/-- Acknowledgement and replay (R151, R152, R155): an ACK releases the frames up to the one that it names and no others; a NAK, or the replay timer,
sends again from the frame that it names, and after the third rewind of one mark the link goes DOWN with cause REPLAY_FAIL; the ACK timer names
NEXT - 1, once the frame in progress has ended; and two blocks that form no ordered set do nothing (R137).
Where a clause rests on the model's reading or choice, it is that of log entries 43 and 69. -/
def Obligations.AckAndReplay : Prop :=
  (∀ (i : Fin 5) (x : SetPair) (q : Fin 4096) (s : State), setOf x = some (1, q.val) → s.isUp i = true →
    (s.port i).fifo.any (fun f => f.lseq = q.val) = true →
    Answers (.ackReceive i x) s (fun t => (t.startNext i).settle) fun t =>
      (t.port i).fifo = ((s.port i).fifo.dropWhile fun f => f.lseq ≠ q.val).drop 1 ∧ (t.port i).failed = 0 ∧ t.regs = s.regs) ∧
  (∀ (i : Fin 5) (x : SetPair) (q : Fin 4096) (s : State), s.isUp i = true → (s.port i).fifo.any (fun f => f.lseq = q.val) = false →
    (setOf x = some (1, q.val) → Machine.exec (.ackReceive i x) s = .next s.settle) ∧
      (setOf x = some (2, q.val) → Machine.exec (.nakReceive i x) s = .next s.settle)) ∧
  (∀ (i : Fin 5) (x : SetPair) (s : State), setOf x = none → Machine.exec (.ackReceive i x) s = .next s ∧
    Machine.exec (.nakReceive i x) s = .next s ∧ Machine.exec (.readySetReceive (i, x)) s = .next s) ∧
  (∀ code arg : Nat, 1 ≤ code → code ≤ 3 → arg < 2 ^ 16 → setOf (twinSets code arg) = some (code, arg)) ∧
  (∀ (i : Fin 5) (x : SetPair) (q : Fin 4096) (f : Frame) (r : List Frame) (s : State), setOf x = some (2, q.val) → s.isUp i = true → (s.port i).fifo = f :: r → f.lseq ≠ q.val →
    r.any (fun f => f.lseq = q.val) = true →
    Answers (.nakReceive i x) s (fun t => (t.startNext i).settle) fun t =>
      (t.port i).rewind = r.dropWhile (fun f => f.lseq ≠ q.val) ∧ (t.port i).fifo = f :: r ∧ (t.port i).failed = (s.port i).failed) ∧
  (∀ (i : Fin 5) (x : SetPair) (q : Fin 4096) (f : Frame) (r : List Frame) (s : State), setOf x = some (2, q.val) → s.isUp i = true → (s.port i).fifo = f :: r → f.lseq = q.val →
    (s.port i).failed ≠ 3 → Answers (.nakReceive i x) s (fun t => (t.startNext i).settle) fun t =>
      (t.port i).rewind = f :: r ∧ (t.port i).failed = (s.port i).failed + 1 ∧ (t.port i).replay = satAdd 16 (s.port i).replay 1) ∧
  (∀ (i : Fin 5) (f : Frame) (r : List Frame) (s : State), s.isUp i = true → (s.port i).fifo = f :: r → (s.port i).failed ≠ 3 →
    Answers (.replayTimerExpiry i) s (fun t => (t.startNext i).settle) fun t =>
      (t.port i).rewind = f :: r ∧ (t.port i).failed = (s.port i).failed + 1 ∧ (t.port i).replay = satAdd 16 (s.port i).replay 1) ∧
  (∀ (i : Fin 5) (f : Frame) (r : List Frame) (s : State), s.isUp i = true → (s.port i).fifo = f :: r → (s.port i).failed = 3 →
    Machine.exec (.replayTimerExpiry i) s = .next (s.linkDown i 6).settle) ∧
  (∀ (i : Fin 5) (s : State), s.isUp i = true → (s.port i).busy = false → Answers (.ackTimer i) s id fun t =>
    t.emitted = s.emitted ++ [.orderedSet i (twinSets 1 (((s.port i).next + 4095) % 4096))] ∧ t.ring = s.ring ∧ t.regs = s.regs) ∧
  (∀ (i : Fin 5) (s : State), s.isUp i = true → (s.port i).busy = true → Answers (.ackTimer i) s id fun t =>
    (t.port i).setsDue = (s.port i).setsDue ++ [(1, ((s.port i).next + 4095) % 4096)] ∧ t.emitted = s.emitted ∧ t.regs = s.regs)

/-- A link that is lost (R155, R156): silence and the loss of signal take an UP port DOWN with causes 5 and 2; whatever the cause, the port then
holds nothing to send, has stepped its count of losses, and shows the cause; a port that is not UP is left as it is.
Where a clause rests on the model's reading or choice, it is that of log entries 7 and 46. -/
def Obligations.LinkLoss : Prop :=
  (∀ (i : Fin 5) (s : State), s.isUp i = true → Machine.exec (.silentTimeout i) s = .next (s.linkDown i 5).settle ∧
    Machine.exec (.signalLoss i) s = .next (s.linkDown i 2).settle) ∧
  (∀ (i : Fin 5) (s : State), s.isUp i = false → Machine.exec (.silentTimeout i) s = .next s ∧ Machine.exec (.signalLoss i) s = .next s) ∧
  (∀ (i : Fin 5) (c : Nat) (s : State), ((s.linkDown i c).port i).st = .down ∧ ((s.linkDown i c).port i).cause = c ∧
    ((s.linkDown i c).port i).downCnt = satAdd 16 (s.port i).downCnt 1 ∧ ((s.linkDown i c).port i).fifo = [] ∧ ((s.linkDown i c).port i).rewind = [])

/-- The bring-up of a ring port (R153, R155, R156, R164, R208): the restart and the retry timer start it at SIGNAL; a lock of the signal leads to
TRAIN, block lock sends READY, and with both ends ready the hub probes; an echo gives RTT and leads to AUTH with the sequence numbers at zero; a
step that lasts too long ends DOWN with its cause; and an uplink comes UP, and goes DOWN, with its
block lock, counts a frame that it cannot take or that nothing here takes, hands one that a tunnel passes to the tunnels, and one of PTP to the time
unit (R162, R163).
Where a clause rests on the model's reading or choice, it is that of log entries 7 and 12. -/
def Obligations.BringUp : Prop :=
  (∀ (i : Fin 5) (s : State), (s.port i).waitRetry = false → (s.port i).st = .down → s.ringMode i = true → s.portEn i = true →
    s.pwr.asleep = false ∨ i.val < 2 → Answers (.linkRestartTimer i) s id fun t => (t.port i).st = .signal ∧ t.regs = s.regs ∧ ∀ j, j ≠ i.val → t.port j = s.port j) ∧
  (∀ (i : Fin 5) (s : State), (s.port i).waitRetry = true → (s.port i).st = .down → s.ringMode i = true → s.portEn i = true →
    s.pwr.asleep = false ∨ i.val < 2 → Answers (.linkRetryTimer i) s id fun t => (t.port i).st = .signal ∧ (t.port i).waitRetry = false ∧ t.regs = s.regs) ∧
  (∀ (i : Fin 5) (s : State), (s.port i).st = .signal → Answers (.bringupTimeout i) s (fun t => t.raise (portBit i) .C) fun t =>
    (t.port i).st = .down ∧ (t.port i).cause = 2 ∧ (t.port i).waitRetry = true) ∧
  (∀ (i : Fin 5) (s : State), (s.port i).st = .train → Answers (.bringupTimeout i) s (fun t => t.raise (portBit i) .C) fun t =>
    (t.port i).st = .down ∧ (t.port i).cause = 3 ∧ (t.port i).waitRetry = true) ∧
  (∀ (i : Fin 5) (s : State), (s.port i).st = .auth → Answers (.bringupTimeout i) s (fun t => t.raise (portBit i) .C) fun t =>
    (t.port i).st = .down ∧ (t.port i).cause = 4 ∧ (t.port i).waitRetry = true) ∧
  (∀ (i : Fin 5) (s : State), (s.port i).st = .signal → Answers (.signalLocked i) s id fun t => (t.port i).st = .train ∧ t.regs = s.regs) ∧
  (∀ (i : Fin 5) (s : State), (s.port i).st = .train → (s.port i).readySent = false → (s.port i).readySeen = true →
    (s.port i).busy = false → Answers (.trainBlockLockHeld i) s id fun t => (t.port i).readySent = true ∧ (t.port i).probeAt = some s.ns ∧
      t.emitted = s.emitted ++ [.orderedSet i (twinSets 3 0), .probe i false] ∧ t.regs = s.regs) ∧
  (∀ (i : Fin 5) (x : SetPair) (a : Nat) (s : State), setOf x = some (3, a) → (s.port i).st = .train → (s.port i).readySeen = false →
    (s.port i).readySent = true → Answers (.readySetReceive (i, x)) s id fun t => (t.port i).readySeen = true ∧ (t.port i).probeAt = some s.ns ∧
      t.emitted = s.emitted ++ [.probe i false] ∧ t.regs = s.regs) ∧
  (∀ (i : Fin 5) (x : SetPair) (a : Nat) (s : State), setOf x = some (3, a) → (s.port i).st = .train → (s.port i).readySeen = false →
    (s.port i).readySent = false → Answers (.readySetReceive (i, x)) s id fun t => (t.port i).readySeen = true ∧ (t.port i).probeAt = (s.port i).probeAt ∧ t.emitted = s.emitted) ∧
  (∀ (i : Fin 5) (s : State), (s.port i).st = .train → Answers (.probeReceive i) s id fun t => t.emitted = s.emitted ++ [.probe i true] ∧ t.ring = s.ring) ∧
  (∀ (i : Fin 5) (x : Nat) (s : State), (s.port i).st = .train → (s.port i).probeAt.isSome = true →
    Answers (.echoReceive i x) s id fun t => (t.port i).st = .auth ∧ (t.port i).probeAt = none ∧ (t.port i).lseq = 0 ∧ (t.port i).next = 0 ∧
      (t.port i).rtt = min ((x * 100 - 17 * 256 * 65536 + 50 * 65536) / (100 * 65536)) 65535 ∧ t.regs = s.regs) ∧
  (∀ (i : Fin 5) (s : State), (s.port i).probeAt.isSome = true → (s.port i).st = .train → (s.port i).readySent = true → (s.port i).readySeen = true →
    Answers (.probeRetry i) s id fun t => (t.port i).probeAt = some s.ns ∧ t.emitted = s.emitted ++ [.probe i false]) ∧
  (∀ (i : Fin 2) (s : State), (s.port (2 + i.val)).st = .uplinkUp →
    Answers (.uplinkLockLoss i) s (fun t => t.raise (portBit (2 + i.val)) .U) fun t =>
      (t.port (2 + i.val)).st = .down ∧ (t.port (2 + i.val)).cause = 2 ∧ t.regs = s.regs) ∧
  (∀ (i : Fin 2) (s : State), s.uplink (2 + i.val) = true → s.portEn (2 + i.val) = true → (s.port (2 + i.val)).st = .down →
    s.pwr.asleep = false → Answers (.uplinkLinkUp i) s id fun t => (t.port (2 + i.val)).st = .uplinkUp ∧ t.regs = s.regs) ∧
  (∀ (j : Fin 2) (b : List Byte) (s : State), (s.port (2 + j.val)).st = .uplinkUp →
    Answers (.uplinkFrameReceive j false b) s id fun t =>
      (t.port (2 + j.val)).discard = satAdd 16 (s.port (2 + j.val)).discard 1 ∧ t.brg = s.brg ∧ t.regs = s.regs) ∧
  (∀ (j : Fin 2) (b : List Byte) (s : State), (s.port (2 + j.val)).st = .uplinkUp → 60 ≤ b.length → b.length ≤ 1996 →
    (b.getD 12 0).toNat * 256 + (b.getD 13 0).toNat ≠ etSTag → (b.getD 12 0).toNat * 256 + (b.getD 13 0).toNat ≠ etControl → etherType b = etPtp →
    Machine.exec (.uplinkFrameReceive j true b) s = .next (s.ptpIn j (ptpMsg b))) ∧
  (∀ (j : Fin 2) (b : List Byte) (s : State), (s.port (2 + j.val)).st = .uplinkUp → etherType b ≠ etPtp →
    (∀ t, t < 64 → s.rd (R.BRG_TUN_CFG_KIND t) ≠ 4 + j.val) →
    Machine.exec (.uplinkFrameReceive j true b) s = .next (s.countDiscard (2 + j.val))) ∧
  (∀ (j : Fin 2) (t : Nat) (b : List Byte) (s : State), (s.port (2 + j.val)).st = .uplinkUp → 60 ≤ b.length → b.length ≤ 1996 →
    (b.getD 12 0).toNat * 256 + (b.getD 13 0).toNat ≠ etSTag → (b.getD 12 0).toNat * 256 + (b.getD 13 0).toNat ≠ etControl → etherType b ≠ etPtp →
    etherType b ≠ 0x8100 → t < 64 → s.tunOk t = true → s.flag (R.BRG_TUN_CFG_DIR t) = false → s.rd (R.BRG_TUN_CFG_KIND t) = 4 + j.val →
    s.tunPasses t (ethItem 0 b) = true →
    Machine.exec (.uplinkFrameReceive j true b) s = .next (s.tunnelIn (4 + j.val) none (s.rxStamp (2 + j.val)) (ethItem 0 b)).settle)

/-- A ring output that becomes free (R134, R150, R152): an idle block stands between frames; a waiting SWEEP copy goes first, with the port's epoch and frame
counter; then a SYNC, then a frame that is sent again; a frame that starts is on the link as its blocks, and a new replayed one takes the next LSEQ and
is kept; and a port that is not UP starts nothing.
Where a clause rests on the model's reading or choice, it is that of log entries 43 and 46. -/
def Obligations.OutputOrder : Prop :=
  (∀ (i : Fin 5) (f : Frame) (r : List Frame) (s : State), s.isUp i = true → (s.port i).sweep = f :: r → (s.port i).fcnt < 2 ^ 32 →
    Answers (.ringOutputFree i) s (fun t => (t.transmit i f false).settle) fun t =>
      (t.port i).sweep = r ∧ (t.port i).busy = false ∧ (t.port i).fcnt = (s.port i).fcnt ∧ t.regs = s.regs) ∧
  (∀ (i : Fin 5) (f : Frame) (r : List Frame) (s : State), s.isUp i = true → (s.port i).sweep = [] → (s.port i).sync = [] →
    (s.port i).rewind = f :: r → s.windowHolds i f = false → Answers (.ringOutputFree i) s (fun t => (t.transmit i f true).settle) fun t =>
      (t.port i).rewind = r ∧ (t.port i).busy = false ∧ t.regs = s.regs) ∧
  (∀ (i : Fin 5) (f : Frame) (r : List Frame) (s : State), s.isUp i = true → (s.port i).sweep = [] → (s.port i).sync = f :: r →
    s.windowHolds i f = false → Answers (.ringOutputFree i) s (fun t => (t.transmit i f false).settle) fun t =>
      (t.port i).sync = r ∧ (t.port i).busy = false ∧ t.regs = s.regs) ∧
  (∀ (i : Fin 5) (f : Frame) (r : List Frame) (s : State), s.isUp i = true → (s.port i).setsDue = [] → (s.port i).sweep = f :: r →
    Answers (.ringOutputFree i) s (fun t => (t.transmit i f false).settle) fun t => t.emitted = s.emitted ++ [.idle i idleBlock]) ∧
  (∀ (i : Fin 5) (s : State), s.isUp i = false → Answers (.ringOutputFree i) s State.settle fun t =>
    (t.port i).busy = false ∧ t.emitted = s.emitted ∧ t.regs = s.regs) ∧
  (∀ (i : Nat) (f : Frame) (s : State), (s.port i).fcnt < 2 ^ 32 → f.replayed = true → f.mark = .valid → (s.sec_ i).rekey = none →
    s.overThr i f = false →
    ((s.transmit i f false).port i).busy = true ∧ ((s.transmit i f false).port i).lseq = ((s.port i).lseq + 1) % 4096 ∧
      ((s.transmit i f false).port i).fcnt = (s.port i).fcnt + 1 ∧
      ((s.transmit i f false).port i).fifo = (s.port i).fifo ++
        [{ f with epoch := (s.port i).epoch, fcnt := (s.port i).fcnt, lseq := (s.port i).lseq }] ∧
      (s.transmit i f false).emitted = s.emitted ++ [.frame i { f with epoch := (s.port i).epoch, fcnt := (s.port i).fcnt, lseq := (s.port i).lseq }
        (blocksOf ({ f with epoch := (s.port i).epoch, fcnt := (s.port i).fcnt, lseq := (s.port i).lseq }.wire (s.sendKey i)))])

/-- Joining a ring (R23, R31, R32): after its 2 ms at step 5 a hub that has heard no conflict is JOINED, with CONFLICT cleared and the sweep windows of
the ring forgotten; a broadcast assignment that names its serial number gives a hub that waits without a station the station, and leaves every
other hub as it was.
Where a clause rests on the model's reading or choice, it is that of log entries 15, 46, 75 and 76. -/
def Obligations.Joining : Prop :=
  (∀ (n : Fin 2) (s : State), (s.joinOf n).step = 5 → s.joined n = false →
    Answers (.joinTimerExpiry n) s id fun t => t.joined n = true ∧ t.flag (conflictFld n) = false ∧ (t.cycOf n).winE = {} ∧ (t.cycOf n).winW = {} ∧
      t.ring = s.ring ∧ t.hif = s.hif) ∧
  (∀ (n : Fin 2) (s : State), (s.joinOf n).step ≠ 5 ∨ s.joined n = true → Machine.exec (.joinTimerExpiry n) s = .next s) ∧
  (∀ (i : Fin 4) (f : Frame) (s : State), f.mark = .valid → f.ver = 1 → f.typ = fReq → isBc f = true → f.op = opWrite → bits f.arg 32 14 = 0x3FFF →
    bits f.arg 0 32 = 0x3004 → f.payload.length = 20 → s.station (i / 2) = 0 → (s.joinOf (i / 2)).step = 3 → leAt f.payload 4 16 = s.serial →
    leAt f.payload 0 1 ≠ 0 → leAt f.payload 0 1 ≠ 255 → s.mayManage (Req.ofFrame f) = true →
    Machine.exec (.stationAssignment i f) s = .next (s.takeStation (i / 2) (leAt f.payload 0 1))) ∧
  (∀ (i : Fin 4) (f : Frame) (s : State), s.station (i / 2) ≠ 0 ∨ leAt f.payload 4 16 ≠ s.serial ∨ s.mayManage (Req.ofFrame f) = false →
    Machine.exec (.stationAssignment i f) s = .next s) ∧
  (∀ (n st : Nat) (s : State), st ≠ 0 → (s.topo n st).present = false → s.takeStation n st = s.putStation n st) ∧
  (∀ (n : Fin 2) (s : State), s.station n ≠ 0 → s.isUp (lane n 0) = false → s.isUp (lane n 1) = false →
    ((s.announce n).topo n (s.station n)).present = true ∧ ((s.announce n).topo n (s.station n)).master = s.isMaster n ∧
      ((s.announce n).topo n (s.station n)).hopsA = 0 ∧ ((s.announce n).topo n (s.station n)).hopsB = 0 ∧
      ((s.announce n).topo n (s.station n)).heardAt = s.ns)

/-- Announces and the topology record (R32 to R35, R159): an announce of another station updates its entry and what follows from it; one of this
hub's own serial number changes nothing; a joined hub keeps its station against a rival; a joined hub announces itself; a station that falls silent
is no longer PRESENT; a LINK_STATE makes the stations beyond its sender unreachable on that side; and GEN steps by 1 for each field that changes.
Where a clause rests on the model's reading or choice, it is that of log entries 15, 16, 47 and 75. -/
def Obligations.Announces : Prop :=
  (∀ (i : Fin 4) (f : Frame) (s : State), s.isUp i = true → f.mark = .valid → f.ver = 1 → f.typ = fMgmt → f.op = 1 → bit (leAt f.payload 8 1) 3 = false →
    leAt f.payload 0 4 % 2 ^ 18 % 256 ≠ 0 → leAt f.payload 0 4 % 2 ^ 18 % 256 ≠ 255 →
    leAt f.payload 16 16 ≠ s.serial → leAt f.payload 0 4 % 2 ^ 18 ≠ nodeId (s.ringId (i / 2)) (s.station (i / 2)) →
    Answers (.announceReceive i f) s (fun t => (t.afterTopo s.ring.topo).settle) fun t =>
      t.topo (i / 2) (leAt f.payload 0 4 % 2 ^ 18 % 256) =
        (s.topo (i / 2) (leAt f.payload 0 4 % 2 ^ 18 % 256)).heard (i.val % 2 = 1) (f.hops + 1) (leAt f.payload 16 16) s.ns
          (leAt f.payload 8 1) (leAt f.payload 4 4 % 2 ^ 18) ∧ t.regs = s.regs) ∧
  (∀ (i : Fin 4) (f : Frame) (s : State), s.isUp i = true → f.mark = .valid → f.ver = 1 → f.typ = fMgmt → f.op = 1 → leAt f.payload 16 16 = s.serial →
    Machine.exec (.announceReceive i f) s = .next s.settle) ∧
  (∀ (i : Fin 4) (f : Frame) (s : State), s.isUp i = true → f.mark = .valid → f.ver = 1 → f.typ = fMgmt → f.op = 1 →
    leAt f.payload 0 4 % 2 ^ 18 = nodeId (s.ringId (i / 2)) (s.station (i / 2)) → s.joined (i / 2) = true → Answers (.announceReceive i f) s State.settle fun t =>
      t = { s with twin := { s.twin with near := t.twin.near } } ∧ (t.twin.near ≠ s.twin.near → f.hops = 0 ∧ leAt f.payload 16 16 = s.peerSerial)) ∧
  (∀ (n : Fin 2) (s : State), s.hasRing n = true → s.joined n = true → Machine.exec (.announceTimer n) s = .next (s.announce n)) ∧
  (∀ (n : Fin 2) (s : State), s.joined n = false → Machine.exec (.announceTimer n) s = .next s) ∧
  (∀ (n : Fin 2) (st : Fin 256) (s : State), (s.topo n st).present = true → st.val ≠ s.station n →
    Answers (.stationAgeOut n st) s (fun t => (t.afterTopo s.ring.topo).settle) fun t =>
      t.topo n st = { s.topo n st with present := false } ∧ t.regs = s.regs) ∧
  (∀ (i : Fin 4) (f : Frame) (s : State), s.isUp i = true → f.mark = .valid → f.ver = 1 → f.typ = fMgmt → f.op = 2 → s.stationOf (i / 2) f.src ≠ 0 →
    s.hops (i / 2) (s.stationOf (i / 2) f.src) (leAt f.payload 0 1 % 2) ≠ 0xFF → leAt f.payload 0 1 % 2 = 0 →
    Machine.exec (.linkStateReceive i f) s = .next (s.cutHops (i / 2) 0 fun t =>
      decide (s.hops (i / 2) (s.stationOf (i / 2) f.src) 0 < t.hopsA)).settle) ∧
  (∀ (old : NMap Topo) (s : State), (s.afterTopo old).rd R.RING_TOPO_GEN = (s.rd R.RING_TOPO_GEN + topoChanges old s.ring.topo) % 65536)

/-- The cycle master (R168, R172, R201): a candidate with a port UP that has heard no master of equal or higher rank becomes master, and one whose PRIO
is 0 never does, nor one that has heard a better master lately; a cycle starts at its own time and is used once, and a sweep copy with
the slots of the table leaves on each port of the ring that is UP (R173, R174); a cycle that would follow the last sweep too closely is SKIPPED, with
a C fault; and a cycle whose slot table is empty sends nothing.
Where a clause rests on the model's reading or choice, it is that of log entries 7, 18, 74 and 77. -/
def Obligations.Masters : Prop :=
  (∀ (n : Fin 2) (s : State), s.ready = true → s.hasRing n = true → s.rd (R.RING_CYC_CFG_PRIO n) ≠ 0 → s.isMaster n = false →
    s.isUp (2 * n) = true ∨ s.isUp (2 * n + 1) = true → s.claimOpen n = true → s.standby = false → (s.joinOf n).step ≠ 2 →
    Answers (.masterClaimTimer n) s id fun t => t.isMaster n = true ∧ (t.cycOf n).winE = {} ∧ (t.cycOf n).winW = {} ∧ t.pts = s.pts) ∧
  (∀ (n : Fin 2) (s : State), s.rd (R.RING_CYC_CFG_PRIO n) = 0 ∨ s.isMaster n = true ∨ s.claimOpen n = false → Machine.exec (.masterClaimTimer n) s = .next s) ∧
  (∀ (n : Fin 2) (k j : Nat) (s : State), (s.cycOf n).sentK = some j → k ≤ j ∨ k ≠ s.cycleNow n →
    Machine.exec (.cycleStart n k) s = .next s.settle) ∧
  (∀ (n : Fin 2) (k j : Nat) (s : State), s.isMaster n = true → s.hasRing n = true → (s.cycOf n).sentK = some j → j < k →
    k = s.cycleNow n → (s.cycOf n).passed k = false → s.tailNear n = true →
    Answers (.cycleStart n k) s (fun t => (t.raise (8 + 2 * n) .C).settle) fun t =>
      (t.cycOf n).sentK = some k ∧ (t.cycOf n).prevK = some j ∧ t.ring = s.ring) ∧
  (∀ (n : Fin 2) (k : Nat) (s : State), s.isMaster n = true → s.hasRing n = true → (s.cycOf n).sentK = none →
    (s.cycOf n).passed k = false → k = s.cycleNow n → s.buildSlices n k = [] →
    Answers (.cycleStart n k) s State.settle fun t => (t.cycOf n).sentK = some k ∧ t.ring = s.ring ∧ t.regs = s.regs) ∧
  (∀ (n : Fin 2) (k : Nat) (s : State), s.isMaster n = true → s.hasRing n = true → (s.cycOf n).sentK = none →
    (s.cycOf n).passed k = false → k = s.cycleNow n → s.buildSlices n k ≠ [] → s.isUp (lane n 0) = false → s.isUp (lane n 1) = false →
    Answers (.cycleStart n k) s State.settle fun t => (t.cycOf n).sentK = some k ∧ t.emitted = s.emitted ∧
      t.rd (R.RING_CYC_STAT_SYNC n) = 1) ∧
  (∀ (n : Fin 2) (k : Nat) (f : Frame) (s : State), s.isMaster n = true → s.hasRing n = true → k = s.cycleNow n → (s.cycOf n).passed k = false →
    (s.cycOf n).sentK.any (fun j => decide (k ≤ j)) = false → (s.cycOf n).sentK = none ∨ s.tailNear n = false →
    f = { typ := fSweep, tc := 7, dst := nodeId (s.ringId n) 255, src := s.node0, op := s.dueBits n k, arg := k, slices := s.buildSlices n k } →
    f.slices ≠ [] →
    Answers (.cycleStart n k) s (fun t => ([0, 1].foldl (fun t d =>
        if t.isUp (lane n d) then t.sendSweep (lane n d) { f with sub := d } else t) t).settle) fun t =>
      (t.cycOf n).sentK = some k ∧ (t.cycOf n).prevK = (s.cycOf n).sentK ∧ t.rd (R.RING_CYC_STAT_SYNC n) = 1 ∧ t.ring = s.ring ∧ t.emitted = s.emitted)

/-- A sweep copy at a port (R142, R176, R178): a hub that does not heed its master passes the slots on as they are; a hub writes its own slot where
nobody has written it for the cycle, and leaves the slots of others as they are; a valid slot is taken once for a cycle, and one that comes after the
close is counted in LATE, once; and a copy of the hub's own that comes back without having been turned is taken off the ring, but not by a standby.
Where a clause rests on the model's reading or choice, it is that of log entries 18, 47 and 77. -/
def Obligations.SweepCopies : Prop :=
  (∀ (i : Fin 4) (g f : Frame) (s : State), s.readTag i g = f → s.isUp i = true → f.typ = fSweep → f.ver = 1 →
    (∀ x ∈ f.slices, x.mark = .valid) → f.epoch = (s.port i).rxEpoch → s.heeds (i / 2) f = false → s.isMine f.src = false ∨ s.standby = true →
    Machine.exec (.sweepSliceReceive i g) s = .next (s.forwardSweep i { f with slices := f.slices.map Slice.pad }).settle) ∧
  (∀ (i : Fin 4) (g f : Frame) (s : State), s.readTag i g = f → s.isUp i = true → f.typ = fSweep → f.ver = 1 →
    (∀ x ∈ f.slices, x.mark = .valid) → f.epoch = (s.port i).rxEpoch → s.heeds (i / 2) f = false → s.isMine f.src = true → s.standby = false →
    f.wrap = 0 → Machine.exec (.sweepSliceReceive i g) s = .next (s.sweepBack (i / 2) f).settle) ∧
  (∀ (n k : Nat) (x : Slice) (s : State), x.station = s.station n → x.mark = .valid → x.written = false → s.standby = false →
    (s.slotIn n k x).1 = (s.takeOut n k x).writeSlot n k x) ∧
  (∀ (n k : Nat) (x : Slice) (s : State), x.station ≠ s.station n → (s.slotIn n k x).1 = x) ∧
  (∀ (n k : Nat) (x : Slice) (s : State), ((s.cycOf n).taken.any fun y => y.1 = k ∧ y.2.station = x.station) = true → s.takeSlot n k x = s) ∧
  (∀ (n : Fin 2) (k : Nat) (x : Slice) (s : State), ((s.cycOf n).taken.any fun y => y.1 = k ∧ y.2.station = x.station) = false →
    s.isLate n k = true → s.takeSlot n k x =
      (s.setCyc n { s.cycOf n with taken := (s.cycOf n).taken ++ [(k, { x with fresh := false })] }).inc (R.RING_CYC_STAT_LATE n)) ∧
  (∀ (n : Fin 2) (k : Nat) (x : Slice) (s : State), ((s.cycOf n).taken.any fun y => y.1 = k ∧ y.2.station = x.station) = false →
    s.isLate n k = false → ((s.takeSlot n k x).cycOf n).taken = (s.cycOf n).taken ++ [(k, x)] ∧ (s.takeSlot n k x).regs = s.regs) ∧
  (∀ (i : Nat) (f : Frame) (s : State), f.hops ≠ 1023 → s.isUp (mate i) = false → f.wrap = 0 →
    s.forwardSweep i f = s.sendSweep i { f with hops := f.hops + 1, wrap := 1 })

/-- The phases of a cycle (R52, R169, R177, R178, R183, R376, R377): each comes at its own time of its ring's time, once, and does nothing at another; a capture
of the second ring is ready for its slot and is the newest kept; the exchange close of a ring closes its cycle, and drops what was taken before it; a row whose remote operand has had no answer by the deadline goes on without it;
an overrun skips the rows that wait, counts it, and freezes at once; a freeze keeps what the deadline will apply, first in, first out; and none of
these happens to a hub that is not running.
Where a clause rests on the model's reading or choice, it is that of log entries 18, 77 and 87. -/
def Obligations.CyclePhases : Prop :=
  (∀ (k : Nat) (m : Measured) (cj : List (Fin 64 × Int)) (s : State), s.ready = true → s.junction = true → s.captureIs 1 k = true →
    (s.cycOf 1).mayRun (s.cycOf 1).captured k = true →
    Answers (.captureInstant 1 k m cj) s State.settle fun t =>
      (t.cycOf 1).caps = (k, s.smapFields 1 ++ s.relayFields 1) :: (s.cycOf 1).caps.filter (fun x => x.1 < k ∧ s.cycleNow 1 ≤ x.1 + 1) ∧ t.regs = s.regs ∧ t.pts = s.pts) ∧
  (∀ (k : Nat) (m : Measured) (cj : List (Fin 64 × Int)) (s : State), s.ready = true → s.captureIs 0 k = true →
    (s.cycOf 0).mayRun (s.cycOf 0).captured k = true →
    Answers (.captureInstant 0 k m cj) s State.settle fun t => ∃ r l, (t.cycOf 0).caps = (k, r) :: l ∧ ∀ x ∈ l, x ∈ (s.cycOf 0).caps ∧ x.1 < k) ∧
  (∀ (n : Fin 2) (k : Nat) (m : Measured) (cj : List (Fin 64 × Int)) (s : State), s.captureIs n k = false ∨ (s.cycOf n).mayRun (s.cycOf n).captured k = false →
    Machine.exec (.captureInstant n k m cj) s = .next s.settle) ∧
  (∀ (n : Fin 2) (k : Nat) (s : State), s.closeIs n k = false ∨ (s.cycOf n).mayRun (s.cycOf n).closed k = false →
    Machine.exec (.exchangeClose n k) s = .next s.settle) ∧
  (∀ (n : Fin 2) (k : Nat) (m : Measured) (cj : List (Fin 64 × Int)) (s : State), s.ready = false →
    Machine.exec (.captureInstant n k m cj) s = .next s.settle ∧ Machine.exec (.exchangeClose n k) s = .next s.settle ∧
    Machine.exec .outputFreeze s = .next s ∧ Machine.exec .reflexOverrun s = .next s) ∧
  (∀ (k : Nat) (s : State), s.ready = true → s.junction = true → s.closeIs 1 k = true → (s.cycOf 1).mayRun (s.cycOf 1).closed k = true →
    Answers (.exchangeClose 1 k) s State.settle fun t => (t.cycOf 1).closed = k + 1 ∧ (∀ x ∈ (t.cycOf 1).taken, k ≤ x.1) ∧
      (∀ x ∈ (t.cycOf 1).outs, k ≤ x.1)) ∧
  (∀ (k : Nat) (s : State), s.ready = true → s.closeIs 0 k = true → (s.cycOf 0).mayRun (s.cycOf 0).closed k = true →
    Answers (.exchangeClose 0 k) s State.settle fun t => (t.cycOf 0).closed = k + 1 ∧ (∀ x ∈ (t.cycOf 0).taken, k ≤ x.1)) ∧
  (∀ (r j : Nat) (s : State), s.rfx.old = none → s.rfx.todo = [r] → (rowOf s.rfx.act r).remotes = [j] → (s.rop j).settled = false → (s.rop j).resp = none →
    Answers .remoteFetchDeadline s (fun t => t.runRows 2) fun t =>
      (t.rop j).settled = true ∧ (t.rop j).missed = true ∧ t.rfx.todo = [r] ∧ (∀ i, i ≠ j → t.rop i = s.rop i)) ∧
  (∀ s : State, s.ready = true → s.rfx.todo ≠ [] → Answers .reflexOverrun s (fun t => t.freeze.settle) fun t =>
    t.rfx.todo = [] ∧ t.rfx.running = false) ∧
  (∀ s : State, s.ready = true → s.rfx.todo = [] → Answers .outputFreeze s State.settle fun t =>
    t.pctl.due = [] ∧ ∃ f : Freeze, t.cyc.freezes = s.cyc.freezes ++ [f] ∧ f.k = s.rfx.cycK ∧ t.cyc.last = f.vals) ∧
  (∀ (f : Freeze) (rest : List Freeze) (s : State), s.cyc.freezes = f :: rest →
    Answers .outputDeadline s State.settle fun t => t.cyc.freezes = rest) ∧
  (∀ s : State, s.cyc.freezes = [] → Machine.exec .outputDeadline s = .next s.twinTurn.settle)

/-- SYNC (R203 to R206): the master sends one SYNC for an interval, behind the sweep, on each port of its ring that is UP, and its note of a
step with it; it takes its times as it leaves, the note of a step among them; a follower measures its domain
against the master's time on the path that the SYNC came over, and sends the SYNC on with the delay of the link and of the hub added; a hub's own
SYNC goes no further, one with an impossible time is discarded, and a path that falls silent is unavailable.
Where a clause rests on the model's reading or choice, it is that of log entries 16 and 17. -/
def Obligations.SyncFrames : Prop :=
  (∀ (n : Fin 2) (s : State), s.isMaster n = true → s.hasRing n = true → (s.cycOf n).sentK = some (s.cycleNow n) →
    (s.cycOf n).syncK ≠ some (s.cycleNow n) → s.syncCycle n (s.cycleNow n) = true → s.isUp (lane n 0) = false → s.isUp (lane n 1) = true →
    (s.port (lane n 1)).busy = true →
    Answers (.syncSend n) s id fun t => (t.cycOf n).syncK = some (s.cycleNow n) ∧ t.td.stepped = s.td.stepped.filter (fun i => i / 2 ≠ n.val ∨ s.isUp i) ∧
      (t.port (lane n 1)).sync = (s.port (lane n 1)).sync ++
        [{ typ := fTime, tc := 7, dst := nodeId (s.ringId n) 255, src := s.node0, op := 1, sub := 1, arg := s.cycleNow n }] ∧ t.regs = s.regs) ∧
  (∀ (i : Nat) (f : Frame) (s : State), f.typ = fTime → f.op = 1 → f.hops = 0 →
    s.stampFrame i f = { f with payload := s.syncPayload i (s.txStamp i) }) ∧
  (∀ (i : Nat) (f : Frame) (s : State), f.typ = fTime → f.op = 1 → f.hops = 0 → (s.noteStamp i f).td = { s.td with stepped := s.td.stepped.filter (· ≠ i) }) ∧
  (∀ (n : Fin 2) (s : State), s.isMaster n = false ∨ (s.cycOf n).syncK = some (s.cycleNow n) ∨ s.syncCycle n (s.cycleNow n) = false →
    Machine.exec (.syncSend n) s = .next s) ∧
  (∀ (i : Fin 4) (g f : Frame) (res : Nat) (s : State), s.readTag i g = f → s.isUp i = true → f.ver = 1 → f.typ = fTime → f.op = 1 → f.mark = .valid →
    f.epoch = (s.port i).rxEpoch → badTime (leAt f.payload 0 12) = true → Machine.exec (.syncReceive i g res) s = .next (s.countDiscard i).settle) ∧
  (∀ (i : Fin 4) (g f : Frame) (res : Nat) (s : State), s.readTag i g = f → s.isUp i = true → f.ver = 1 → f.typ = fTime → f.op = 1 → f.mark = .valid →
    f.epoch = (s.port i).rxEpoch → badTime (leAt f.payload 0 12) = false → leAt f.payload 0x17 1 % 8 = 0 → s.isMine f.src = true → s.standby = false →
    Machine.exec (.syncReceive i g res) s = .next s.settle) ∧
  (∀ (i : Fin 4) (g f : Frame) (res : Nat) (s : State), s.readTag i g = f → s.isUp i = true → f.ver = 1 → f.typ = fTime → f.op = 1 → f.mark = .valid →
    f.epoch = (s.port i).rxEpoch → badTime (leAt f.payload 0 12) = false → leAt f.payload 0x17 1 % 8 = 0 → s.isMine f.src = false ∨ s.standby = true →
    Machine.exec (.syncReceive i g res) s = .next ((s.syncActs i f).onward i (mate i) { f with payload := overlay f.payload 0x0C (leBytes 8
      (toBits 64 (sext 64 (leAt f.payload 0x0C 8) + s.linkDelay i + scaled res (s.domain 0).rate))) }).settle) ∧
  (∀ (n dir hops : Nat) (x : Int) (s : State), s.pwr.asleep = false → (s.followSync n dir hops x).path n dir = ⟨true, hops, x - (s.tdNow (ringDomain n) : Int)⟩) ∧
  (∀ (n dir : Fin 2) (s : State), (s.path n dir).avail = true → s.followsRing (ringDomain n) = false →
    Answers (.syncPathTimeout n dir) s id fun t => (t.path n dir).avail = false ∧ (t.path n dir).hops = (s.path n dir).hops ∧ t.regs = s.regs) ∧
  (∀ (n dir : Fin 2) (s : State), (s.path n dir).avail = false → Machine.exec (.syncPathTimeout n dir) s = .next s)

/-- The delay of a link (R207): the timer asks the peer, and keeps the number and the time of asking; a request is answered with the
time of its arrival, and with that of the answer's departure once it leaves; and an
answer to the last request that agrees with RTT enters the average, while any other leaves it.
Where a clause rests on the model's reading or choice, it is that of log entries 7, 17 and 46. -/
def Obligations.LinkDelays : Prop :=
  (∀ (i : Fin 5) (s : State), s.isUp i = true → Answers (.pdelayTimer i) s
    (fun t => t.submit bTime i { typ := fTime, tc := 7, dst := nodeId (s.ringOut (i / 2 % 2)) 255, src := s.node0, op := 2, arg := s.td.pdelaySeq }) fun t =>
      t.td.pdelaySeq = (s.td.pdelaySeq + 1) % 65536 ∧ NMap.get (fun _ => (0, 0)) t.td.pdelay i = (s.td.pdelaySeq + 1, s.now) ∧ t.regs = s.regs) ∧
  (∀ (i : Fin 5) (g f : Frame) (s : State), s.readTag i g = f → s.isUp i = true → f.ver = 1 → f.typ = fTime → f.op = 2 → f.mark = .valid →
    f.epoch = (s.port i).rxEpoch → Machine.exec (.pdelayReqReceive i g) s = .next (s.submit bTime i
      { typ := fTime, tc := 7, dst := nodeId (s.ringOut (i / 2 % 2)) 255, src := s.node0, op := 3, arg := f.arg
        payload := leBytes 12 (timeEnc (s.rxStamp i)) ++ leBytes 12 0 })) ∧
  (∀ (i : Nat) (f : Frame) (s : State), f.typ = fTime → f.op = 3 → f.hops = 0 →
    s.stampFrame i f = { f with payload := overlay f.payload 12 (leBytes 12 (timeEnc (s.txStamp i))) }) ∧
  (∀ (i : Fin 5) (g f : Frame) (t1 : Nat) (d : Int) (s : State), s.readTag i g = f → s.isUp i = true → f.ver = 1 → f.typ = fTime → f.op = 3 →
    f.mark = .valid → f.epoch = (s.port i).rxEpoch → badTime (leAt f.payload 0 12) = false → badTime (leAt f.payload 12 12) = false →
    NMap.get (fun _ => (0, 0)) s.td.pdelay i = (f.arg + 1, t1) →
    d = (((s.rxStamp i : Int) - t1) - ((timeDec (leAt f.payload 12 12) : Int) - timeDec (leAt f.payload 0 12))) / 2 →
    (d - ((s.port i).rtt * 32768 : Nat)).natAbs ≤ 20 * 65536 → i.val ∈ s.td.pdelayHave → 0 ≤ d → d < 2 ^ 31 →
    Answers (.pdelayRespReceive i g) s id fun t =>
      (t.rd (R.TD_LINK_DLY_DELAY i) : Int) = ((s.rd (R.TD_LINK_DLY_DELAY i) : Int) * 15 + d) / 16 ∧ NMap.get (fun _ => (0, 0)) t.td.pdelay i = (0, 0)) ∧
  (∀ (i : Fin 5) (g f : Frame) (q t1 : Nat) (s : State), s.readTag i g = f → s.isUp i = true → f.ver = 1 → f.typ = fTime → f.op = 3 →
    f.mark = .valid → f.epoch = (s.port i).rxEpoch → badTime (leAt f.payload 0 12) = false → badTime (leAt f.payload 12 12) = false →
    NMap.get (fun _ => (0, 0)) s.td.pdelay i = (q, t1) → q = 0 ∨ f.arg ≠ q - 1 → Machine.exec (.pdelayRespReceive i g) s = .next s)

/-- PTP and PPS (R212 to R214): an Announce selects a master; a Sync of the selected master makes its port's source available and
updates the domains that name it; a timeout takes the source away, and keeps the master while its announces last; a Delay_Req is answered by a grandmaster port; a grandmaster port sends Sync with Follow_Up, or Announce, under the next sequence number, and either role asks for
delay; an edge on PPS_IN within half a second of the last is ignored; and the pulse of PPS_OUT begins and ends.
Where a clause rests on the model's reading or choice, it is that of log entries 7, 12, 17, 48 and 70. -/
def Obligations.PtpAndPps : Prop :=
  (∀ (j : Fin 2) (x : Nat) (s : State), s.ptpOn j false = true → (s.ptpMaster j).isSome = true →
    Answers (.ptpSyncReceive j x) s (fun t => t.updateFrom (2 + j) fun t d => (x : Int) - t.tdNow d) fun t =>
      (t.ptpPort j).avail = true ∧ t.regs = s.regs ∧ t.td.dom = s.td.dom) ∧
  (∀ (j : Fin 2) (s : State), (s.ptpPort j).avail = true → Answers (.ptpSyncTimeout j) s (fun t => t.loseSource (2 + j)) fun t =>
    (t.ptpPort j).avail = false ∧ (t.ptpPort j).best = s.ptpMaster j ∧ t.regs = s.regs ∧ t.td.dom = s.td.dom) ∧
  (∀ (j : Fin 2) (s : State), s.ptpOn j true = true → Answers (.ptpGrandmasterSend j true) s id fun t =>
    (t.ptpPort j).seq = ((s.ptpPort j).seq + 1) % 65536 ∧ t.regs = s.regs ∧ ∃ b, t.emitted = s.emitted ++ [.ethernet j "Announce" (s.ethTag j 7) b]) ∧
  (∀ (j : Fin 2) (s : State), s.ptpOn j true = true → Answers (.ptpGrandmasterSend j false) s id fun t =>
    (t.ptpPort j).seq = ((s.ptpPort j).seq + 1) % 65536 ∧
      (t.ptpPort j).txStamp = s.txStamp (2 + j) ∧ ∃ b, t.emitted = s.emitted ++ [.ethernet j "Sync" (s.ethTag j 7) b,
        .ethernet j "Follow_Up" (s.ethTag j 7) (b ++ leBytes 12 (timeEnc (s.tdStamp (s.rd (R.TD_PTP_MTD j)) (s.txStamp (2 + j)))))]) ∧
  (∀ (j : Fin 2) (s : State), s.ptpOn j false = true → s.rd (R.TD_PTP_PROFILE j) = 0 → Answers (.ptpDelayReqTimer j) s id fun t =>
    (t.ptpPort j).delaySeq = ((s.ptpPort j).delaySeq + 1) % 65536 ∧ (t.ptpPort j).txStamp = s.txStamp (2 + j) ∧
      ∃ b, t.emitted = s.emitted ++ [.ethernet j "Delay_Req" (s.ethTag j 7) b]) ∧
  (∀ (j : Fin 2) (s : State), s.ptpOn j true = true → s.rd (R.TD_PTP_PROFILE j) ≠ 0 → Answers (.ptpDelayReqTimer j) s id fun t =>
    ∃ b, t.emitted = s.emitted ++ [.ethernet j "Pdelay_Req" (s.ethTag j 7) b]) ∧
  (∀ (j : Fin 2) (b : List Byte) (s : State), leAt b 4 1 = s.rd (R.TD_PTP_DOMNUM j) → leAt b 0 1 % 16 = 0xB → s.ptpOn j false = true →
    (s.ptpPort j).best = none → ((s.ptpIn j b).ptpPort j).best = some (announceRank b) ∧ (s.ptpIn j b).emitted = s.emitted) ∧
  (∀ (j : Fin 2) (b : List Byte) (s : State), leAt b 4 1 = s.rd (R.TD_PTP_DOMNUM j) → leAt b 0 1 % 16 = 1 → s.ptpOn j true = true →
    s.rd (R.TD_PTP_PROFILE j) = 0 → (s.ptpIn j b).emitted = s.emitted ++ [.ethernet j "Delay_Resp" (s.ethTag j 7)
      (leBytes 1 (s.rd (R.TD_PTP_DOMNUM j)) ++ slice b 30 2 ++
        leBytes 12 (timeEnc (s.tdStamp (s.rd (R.TD_PTP_MTD j)) (s.rxStamp (2 + j)))) ++ slice b 20 10)]) ∧
  (∀ (rising : Bool) (s : State), s.flag R.TD_PPS_IN_EN = true → s.flag R.TD_PPS_IN_EDGE = !rising → s.td.ppsAt = none →
    Answers (.ppsEdge rising) s (fun t => t.updateFrom 4 fun t d => toSecond (t.tdNow d - 65536 * t.rd R.TD_PPS_IN_DELAY)) fun t =>
      t.td.ppsOk = true ∧ t.td.ppsAt = some s.now ∧ t.regs = s.regs) ∧
  (∀ (rising : Bool) (x : Nat) (s : State), s.td.ppsAt = some x → s.now < x + 65536 * 500000000 → Machine.exec (.ppsEdge rising) s = .next s) ∧
  (∀ s : State, s.td.ppsOk = true → Answers .ppsTimeout s (fun t => t.loseSource 4) fun t => t.td.ppsOk = false ∧ t.regs = s.regs) ∧
  (∀ s : State, s.flag R.TD_PPS_OUT_EN = true → s.flag (R.TD_CFG_EN (s.rd R.TD_PPS_OUT_TD)) = true →
    Answers .ppsOutPulse s id fun t => t.td.ppsOut = true ∧ t.regs = s.regs) ∧
  (∀ s : State, Answers .ppsOutEnd s id fun t => t.td.ppsOut = false ∧ t.regs = s.regs ∧ t.td.dom = s.td.dom)

/-- Commands on a time domain (R195, R200, R217, R219): SET puts an accepting domain at the value of TD_SET and counts a step; STEP moves it by the signed
offset, with a C fault; SLEW runs it 10 ppm fast or slow until the offset is gone, and it then returns to its rate; a domain that does not accept
commands shows CMD_REFUSED and keeps its time; a domain that follows another one is updated by it; a snapshot copies every domain; and a scheduled
edge acts once.
Where a clause rests on the model's reading or choice, it is that of log entries 7, 17, 74 and 87. -/
def Obligations.DomainCommands : Prop :=
  (∀ (d : Fin 8) (s : State), s.tdAccepts d = true → badTime (s.words (0x40120 + 0x40 * d) 3) = false →
    Answers (.tdCmdSet d) s id fun t => (t.domain d).base = timeDec (s.words (0x40120 + 0x40 * d) 3) ∧ (t.domain d).at_ = s.now) ∧
  (∀ (d : Fin 8) (s : State), s.tdAccepts d = true → Answers (.tdCmdStep d) s (fun t => (t.inc (R.TD_STAT_STEPS d)).raise 20 .C) fun t =>
    (t.domain d).base = ((s.tdNow d : Int) + s.tdSetOfs d).toNat ∧ (t.domain d).at_ = s.now) ∧
  (∀ (d : Fin 8) (s : State), s.tdAccepts d = true → s.tdSetOfs d < 0 → Answers (.tdCmdSlew d) s id fun t =>
    (t.domain d).slew = s.tdSetOfs d ∧ (t.domain d).rate = (s.domain d).rate - slewRate (s.domain d).slew - 163840000 ∧ (t.domain d).base = (s.domain d).value s.now ∧
      (∀ e, e ≠ d.val → t.domain e = s.domain e) ∧ t.regs = s.regs) ∧
  (∀ (d : Fin 8) (s : State), s.tdAccepts d = true → 0 < s.tdSetOfs d → Answers (.tdCmdSlew d) s id fun t =>
    (t.domain d).slew = s.tdSetOfs d ∧ (t.domain d).rate = (s.domain d).rate - slewRate (s.domain d).slew + 163840000 ∧ t.regs = s.regs) ∧
  (∀ (d : Fin 8) (s : State), s.tdAccepts d = false → Machine.exec (.tdCmdSet d) s = .next (s.wr (R.TD_STAT_CMD_REFUSED d) 1) ∧
    Machine.exec (.tdCmdStep d) s = .next (s.wr (R.TD_STAT_CMD_REFUSED d) 1) ∧ Machine.exec (.tdCmdSlew d) s = .next (s.wr (R.TD_STAT_CMD_REFUSED d) 1)) ∧
  (∀ (d : Fin 8) (s : State), (s.domain d).slew ≠ 0 → Answers (.slewDone d) s id fun t =>
    (t.domain d).slew = 0 ∧ (t.domain d).rate = (s.domain d).rate - slewRate (s.domain d).slew ∧ (t.domain d).base = (s.domain d).value s.now ∧ (t.domain d).at_ = s.now ∧ t.regs = s.regs) ∧
  (∀ (d : Fin 8) (s : State), s.source d false ≠ 7 → s.source d true = 7 → s.followsRing d = false →
    s.flag (R.TD_CFG_EN (s.rd (R.TD_CFG_FOLLOW d))) = true →
    Machine.exec (.domainSample d) s = .next (s.sourceUpdate d true ((s.tdNow (s.rd (R.TD_CFG_FOLLOW d)) : Int) - s.tdNow d))) ∧
  (∀ (d : Fin 8) (s : State), s.source d false ≠ 7 → s.source d true ≠ 7 → Machine.exec (.domainSample d) s = .next s) ∧
  (∀ s : State, Answers .tdSnapLatch s id fun t => ∀ d : Fin 8, t.words (0x40010 + 0x10 * d) 3 = s.tdEnc d) ∧
  (∀ (p : Fin 64) (x : Fin 4) (e : Edge) (r : List Edge) (s : State), NMap.get (fun _ => []) s.td.edges (4 * p + x) = e :: r →
    Answers (.scheduledEdgeDue p x) s (fun t => t.applyDo ((4 * p.val + x.val) / 4) ((4 * p.val + x.val) % 4) e.level) fun t =>
      NMap.get (fun _ => []) t.td.edges (4 * p + x) = r ∧ t.regs = s.regs ∧ t.fld = s.fld) ∧
  (∀ (d : Fin 9) (s : State), (s.domain d).st = dHoldover → Answers (.holdoverExpiry d) s (fun t => t.raise 20 .U) fun t =>
    (t.domain d).st = dFree ∧ (∀ e, e ≠ d.val → t.domain e = s.domain e) ∧ t.regs = s.regs) ∧
  (∀ (d : Fin 9) (s : State), (s.domain d).st ≠ dHoldover → Machine.exec (.holdoverExpiry d) s = .next s)

/-- A digital input (R234 to R238, R215): a level that the filter accepts shows in LEVEL, inverted where INV says so, stamps the instant at which the signal
crossed the threshold, in every domain, and ends STUCK; the level that stands already only
restarts the raw count; the CHAT_N-th raw edge makes the pin CHATTER, which then takes no level until the chatter ends; a level held too long is
STUCK; and a pin that is not digital sees no edge.
Where a clause rests on the model's reading or choice, it is that of log entries 7, 30 and 74. -/
def Obligations.DigitalInputs : Prop :=
  (∀ (p : Fin 64) (x : Fin 4) (level : Bool) (s : State), s.digital p x = true → bit (s.rd (R.PORT_DIAG_CHAT p)) x = false →
    s.invert p x level = true → bit (s.rd (R.PORT_STAT_LEVEL p)) x = false →
    Answers (.pinEdge p x (.accepted level)) s (fun t => t.refreshPort p) fun t =>
      bit (t.rd (R.PORT_STAT_LEVEL p)) x = true ∧ (t.pin p x).rise = some (s.crossing p x 1) ∧ (t.pin p x).fall = (s.pin p x).fall ∧ (t.pin p x).raw = 0 ∧
        bit (t.rd (R.PORT_DIAG_STUCK p)) x = false ∧ t.pts = s.pts) ∧
  (∀ (p : Fin 64) (x : Fin 4) (level : Bool) (s : State), s.digital p x = true → bit (s.rd (R.PORT_DIAG_CHAT p)) x = false →
    s.invert p x level = false → bit (s.rd (R.PORT_STAT_LEVEL p)) x = true →
    Answers (.pinEdge p x (.accepted level)) s (fun t => t.refreshPort p) fun t =>
      bit (t.rd (R.PORT_STAT_LEVEL p)) x = false ∧ (t.pin p x).fall = some (s.crossing p x 1) ∧ (t.pin p x).rise = (s.pin p x).rise ∧ t.pts = s.pts) ∧
  (∀ (p : Fin 64) (x : Fin 4) (level : Bool) (s : State), s.digital p x = true → bit (s.rd (R.PORT_DIAG_CHAT p)) x = false →
    bit (s.rd (R.PORT_STAT_LEVEL p)) x = s.invert p x level → Answers (.pinEdge p x (.accepted level)) s id fun t =>
      (t.pin p x).raw = 0 ∧ (t.pin p x).edges = (s.pin p x).edges ∧ t.regs = s.regs ∧ t.pts = s.pts) ∧
  (∀ (p : Fin 64) (x : Fin 4) (rising : Bool) (s : State), s.digital p x = true → bit (s.rd (R.PORT_DIAG_CHAT p)) x = false →
    s.rd (R.PORT_DIT_CHAT_N p x) ≠ 0 → s.rd (R.PORT_DIT_CHAT_N p x) ≤ (s.pin p x).raw + 1 →
    Answers (.pinEdge p x (.raw rising)) s (fun t => t.refreshPort p) fun t =>
      bit (t.rd (R.PORT_DIAG_CHAT p)) x = true ∧ (t.pin p x).raw = (s.pin p x).raw + 1 ∧ t.pts = s.pts) ∧
  (∀ (p : Fin 64) (x : Fin 4) (level : Bool) (s : State), bit (s.rd (R.PORT_DIAG_CHAT p)) x = true →
    Machine.exec (.pinEdge p x (.accepted level)) s = .next s) ∧
  (∀ (p : Fin 64) (x : Fin 4) (e : PinEvent) (s : State), s.digital p x = false → Machine.exec (.pinEdge p x e) s = .next s) ∧
  (∀ (p : Fin 64) (x : Fin 4) (level : Bool) (s : State), bit (s.rd (R.PORT_DIAG_CHAT p)) x = true →
    Answers (.chatterEnd p x level) s (fun t => t.refreshPort p) fun t =>
      bit (t.rd (R.PORT_DIAG_CHAT p)) x = false ∧ bit (t.rd (R.PORT_STAT_LEVEL p)) x = s.invert p x level ∧ (t.pin p x).raw = 0) ∧
  (∀ (p : Fin 64) (x : Fin 4) (level : Bool) (s : State), bit (s.rd (R.PORT_DIAG_CHAT p)) x = false → Machine.exec (.chatterEnd p x level) s = .next s) ∧
  (∀ (p : Fin 64) (x : Fin 4) (s : State), s.digital p x = true → bit (s.rd (R.PORT_STAT_LEVEL p)) x = true → s.rd (R.PORT_DIT_STUCK p x) ≠ 0 →
    Answers (.stuckTimeout p x) s (fun t => t.refreshPort p) fun t =>
      bit (t.rd (R.PORT_DIAG_STUCK p)) x = true ∧ t.fld = s.fld ∧ t.pts = s.pts) ∧
  (∀ (p : Fin 64) (x : Fin 4) (s : State), bit (s.rd (R.PORT_STAT_LEVEL p)) x = false → Machine.exec (.stuckTimeout p x) s = .next s)

/-- Output drivers (R232, R239, R240, R278): a digital output in current limit turns off, is latched and reports SHORT, and when overheated raises
source 43 too; its latch clears after RETRY, and with it the report; an analog output does the same for a short, and a current output that cannot
reach its current reports OPEN and goes on; a driver that overheats turns off and raises its source, but not on a standby, which drives none (R404), and drives again what it drove when it has
cooled and nothing else keeps it off.
Where a clause rests on the model's reading or choice, it is that of log entries 7, 30 and 79. -/
def Obligations.OutputDrivers : Prop :=
  (∀ (p : Fin 64) (x : Fin 4) (s : State), s.fn p x = fnDoHs ∨ s.fn p x = fnDoPp → (s.pin p x).driving = true →
    Answers (.doCurrentLimitLatch p x false) s (fun t => t.refreshPort p) fun t =>
      (t.pin p x).latched = true ∧ (t.pin p x).driving = false ∧ (t.pin p x).held = false ∧ (t.pin p x).applied = (s.pin p x).applied ∧ bit (t.rd (R.PORT_DIAG_SHORT p)) x = true) ∧
  (∀ (p : Fin 64) (x : Fin 4) (s : State), s.fn p x = fnDoHs ∨ s.fn p x = fnDoPp → (s.pin p x).driving = true →
    Answers (.doCurrentLimitLatch p x true) s (fun t => t.raise 43 .C) fun t =>
      (t.pin p x).latched = true ∧ (t.pin p x).driving = false ∧ bit (t.rd (R.PORT_DIAG_SHORT p)) x = true ∧ bit (t.rd (R.PORT_DIAG_OTEMP p)) x = true) ∧
  (∀ (p : Fin 64) (x : Fin 4) (hot : Bool) (s : State), (s.pin p x).driving = false → Machine.exec (.doCurrentLimitLatch p x hot) s = .next s) ∧
  (∀ (p : Fin 64) (x : Fin 4) (s : State), s.rd (R.PORT_DO_RETRY p x) ≠ 0 → x.val ≠ 2 ∨ s.fn p x ≠ fnAo → (s.pin p x).latched = true →
    Answers (.doRetry p x) s (fun t => t.refreshPort p) fun t =>
      (t.pin p x).latched = false ∧ (t.pin p x).driving = (s.pin p x).driving ∧ bit (t.rd (R.PORT_DIAG_SHORT p)) x = false) ∧
  (∀ (p : Fin 64) (x : Fin 4) (s : State), s.rd (R.PORT_DO_RETRY p x) = 0 → Machine.exec (.doRetry p x) s = .next s) ∧
  (∀ (p : Fin 64) (s : State), s.fn p 2 = fnAo → s.rd (R.MEAS_AO_RANGE p) ≠ 2 → (s.pin p 2).driving = true →
    Answers (.aoShortLatch p) s (fun t => t.refreshPort p) fun t =>
      (t.pin p 2).latched = true ∧ (t.pin p 2).driving = false ∧ bit (t.rd (R.PORT_DIAG_SHORT p)) 2 = true) ∧
  (∀ (p : Fin 64) (s : State), s.fn p 2 = fnAo → (s.pin p 2).latched = true → Answers (.aoRetry p) s
    (fun t => t.setPin p 2 { t.pin p 2 with driving := t.mayDrive p 2 }) fun t =>
      (t.pin p 2).latched = false ∧ (t.pin p 2).applied = (s.pin p 2).applied ∧ bit (t.rd (R.PORT_DIAG_SHORT p)) 2 = false) ∧
  (∀ (p : Fin 64) (on : Bool) (s : State), s.fn p 2 = fnAo → s.rd (R.MEAS_AO_RANGE p) = 2 →
    Answers (.aoOpenDetect p on) s (fun t => t.refreshPort p) fun t =>
      bit (t.rd (R.PORT_DIAG_OPEN p)) 2 = on ∧ t.fld = s.fld ∧ t.pts = s.pts) ∧
  (∀ (p : Fin 64) (s : State), s.fn p 2 = fnAo → Answers (.aoOpenDetect p false) s (fun t => t.refreshPort p) fun t =>
    bit (t.rd (R.PORT_DIAG_OPEN p)) 2 = false ∧ t.fld = s.fld ∧ t.pts = s.pts) ∧
  (∀ (p : Fin 64) (d : Fin 3) (s : State), s.standby = true → Machine.exec (.driverOverheat p d) s = .next s) ∧
  (∀ (p : Fin 64) (s : State), s.fn p 2 = fnAo → s.standby = false → Answers (.driverOverheat p 2) s (fun t => t.raise 41 .C) fun t =>
    (t.pin p 2).hot = true ∧ (t.pin p 2).driving = false ∧ bit (t.rd (R.PORT_DIAG_OTEMP p)) 2 = true) ∧
  (∀ (p : Fin 64) (i : Fin 2) (d : Fin 3) (s : State), d.val = i.val → s.pairOn p d = true → s.standby = false →
    Answers (.driverOverheat p d) s (fun t => t.raise 42 .C) fun t =>
      2 * p.val + i.val ∈ t.fld.pairHot ∧ bit (t.rd (R.PORT_DIAG_PAIR_OTEMP p)) i = true ∧
        (t.pin p (2 * i.val)).driving = false ∧ (t.pin p (2 * i.val)).applied = (s.pin p (2 * i.val)).applied ∧
        ((s.pin p (2 * i.val)).driving = true → (t.pin p (2 * i.val)).held = true)) ∧
  (∀ (p : Fin 64) (d : Fin 3) (s : State), d.val ≠ 2 → Answers (.driverCooled p d) s (fun t => t.resumePin p (2 * d.val)) fun t =>
    2 * p.val + d.val ∉ t.fld.pairHot ∧ (∀ k, k ≠ 2 * p.val + d.val → (k ∈ t.fld.pairHot ↔ k ∈ s.fld.pairHot)) ∧
      t.fld.pins = s.fld.pins ∧ t.regs = s.regs) ∧
  (∀ (p x : Nat) (s : State), (s.pin p x).held = true → s.stageOn p x = true →
    ((s.resumePin p x).pin p x).driving = true ∧ ((s.resumePin p x).pin p x).applied = (s.pin p x).applied) ∧
  (∀ (p x : Nat) (s : State), (s.pin p x).held = false ∨ s.stageOn p x = false → s.resumePin p x = s) ∧
  (∀ (p : Fin 64) (s : State), (s.pin p 2).hot = true → (s.pin p 2).latched = false → s.shed p 2 = false → s.standby = false → s.powered = true →
    Answers (.driverCooled p 2) s id fun t => (t.pin p 2).hot = false ∧ (t.pin p 2).driving = true ∧ t.regs = s.regs)

/-- Applying a value to a pin (R239, R240, R277): a digital output, or C/Q as a digital output, that may drive shows the level and drives it; a 0 clears the latch, but not in the safe state; an analog output drives its code; a pin of
another function takes nothing.
Where a clause rests on the model's reading or choice, it is that of log entry 30. -/
def Obligations.PinValues : Prop :=
  (∀ (p x : Nat) (s : State), s.takesLevel p x = true → s.mayDrive p x = true →
    ((s.applyDo p x true).pin p x).applied = 1 ∧ ((s.applyDo p x true).pin p x).driving = true ∧ (s.applyDo p x true).regs = s.regs) ∧
  (∀ (p x : Nat) (s : State), s.takesLevel p x = true → (s.pin p x).latched = true → s.inSafe = false →
    ((s.applyDo p x true).pin p x).driving = false ∧ ((s.applyDo p x true).pin p x).latched = true ∧ ((s.applyDo p x false).pin p x).latched = false) ∧
  (∀ (p x : Nat) (b : Bool) (s : State), s.takesLevel p x = true → (s.pin p x).latched = true → s.inSafe = true →
    ((s.applyDo p x b).pin p x).driving = false ∧ ((s.applyDo p x b).pin p x).latched = true) ∧
  (∀ (p x : Nat) (b : Bool) (s : State), s.takesLevel p x = false → s.fn p x ≠ fnLogicBriar → s.applyDo p x b = s) ∧
  (∀ (p : Nat) (type v : Nat) (s : State), s.fn p 2 = fnAo → s.mayDrive p 2 = true →
    ((s.applyAo p type v).pin p 2).applied = s.aoCode p type v ∧ ((s.applyAo p type v).pin p 2).driving = true ∧ (s.applyAo p type v).regs = s.regs) ∧
  (∀ (p v : Nat) (s : State), s.rd (R.MEAS_AO_RANGE p) = 1 → 32767 < sext 64 v → s.aoCode p tInt64 v = 32767) ∧
  (∀ (p v : Nat) (s : State), s.rd (R.MEAS_AO_RANGE p) = 0 → sext 64 v < 0 → s.aoCode p tInt64 v = 0)

/-- Field power, FP switches and field conditions (R224, R244, R247, R481): a trip turns the switch off, is shown, and is hot; it clears once it is cold, and
while hot the clearing event waits; without field power every output that draws on it is off, and keeps what it shall drive, and drives again no
earlier than the output deadline that follows its return; a condition with a method for it is reported, one without is not, and one that is shown ends
where its pin is still such a pin.
Where a clause rests on the model's reading or choice, it is that of log entries 7, 27 and 79. -/
def Obligations.FieldPower : Prop :=
  (∀ (p : Fin 64) (s : State), s.flag (R.PORT_STAT_FP_ON p) = true → Answers (.fpBreakerTrip p) s (fun t => t.refreshPort p) fun t =>
    t.flag (R.PORT_STAT_FP_ON p) = false ∧ t.flag (R.PORT_STAT_FP_TRIP p) = true ∧ t.flag (R.PORT_DIAG_FP_SHORT p) = true ∧
      4 + p.val ∈ t.pwr.brkHot ∧ t.fld = s.fld) ∧
  (∀ (p : Fin 64) (s : State), s.flag (R.PORT_STAT_FP_TRIP p) = true → 4 + p.val ∉ s.pwr.brkHot →
    Answers (.fpTripClear p) s (fun t => t.refreshPort p) fun t =>
      t.flag (R.PORT_STAT_FP_TRIP p) = false ∧ t.flag (R.PORT_DIAG_FP_SHORT p) = false ∧ 4 + p.val ∉ t.pwr.brkEvt ∧ t.fld = s.fld) ∧
  (∀ (p : Fin 64) (s : State), s.flag (R.PORT_STAT_FP_TRIP p) = true → 4 + p.val ∈ s.pwr.brkHot →
    Answers (.fpTripClear p) s id fun t => 4 + p.val ∈ t.pwr.brkEvt ∧ t.regs = s.regs ∧ t.fld = s.fld) ∧
  (∀ (p : Fin 64) (s : State), s.flag (R.PORT_STAT_FP_TRIP p) = false → Machine.exec (.fpTripClear p) s = .next s) ∧
  (∀ s : State, Answers .fieldPowerLoss s id fun t => t.fld.power = false ∧
    ∀ (p : Fin 64) (x : Fin 4), t.flag (R.PORT_STAT_FP_ON p) = false ∧ (onField (s.fn p x) = true → (t.pin p x).driving = false ∧ (t.pin p x).applied = (s.pin p x).applied ∧
      ((s.pin p x).driving = true → (t.pin p x).held = true))) ∧
  (∀ s : State, Answers .fieldPowerReturn s (fun t => (List.range 64).foldl (fun t p => t.refreshPort p) t) fun t =>
    t.fld.power = true ∧ t.fld.pins = s.fld.pins ∧ t.regs = s.regs ∧ (s.fld.power = false → t.powered = false)) ∧
  (∀ (p : Fin 64) (x : Fin 4) (on : Bool) (s : State), s.fn p x = fnDoHs → s.flag (R.PORT_DO_OL_EN p x) = true → (s.pin p x).latched = false →
    Answers (.fieldConditionDetect p (Fin.castSucc x) true on) s (fun t => t.refreshPort p) fun t =>
      bit (t.rd (R.PORT_DIAG_SHORT p)) x = on ∧ t.fld = s.fld ∧ t.pts = s.pts) ∧
  (∀ (p : Fin 64) (on : Bool) (s : State), s.flag (R.PORT_FP_CFG_OL_EN p) = true → s.fpMode p ≠ 0 →
    Answers (.fieldConditionDetect p 4 false on) s (fun t => t.refreshPort p) fun t =>
      t.flag (R.PORT_DIAG_FP_OPEN p) = on ∧ t.fld = s.fld ∧ t.pts = s.pts) ∧
  (∀ (p : Fin 64) (x : Fin 4) (s : State), s.fn p x = fnDi24 →
    Answers (.fieldConditionDetect p (Fin.castSucc x) false false) s (fun t => t.refreshPort p) fun t =>
      bit (t.rd (R.PORT_DIAG_OPEN p)) x = false ∧ t.fld = s.fld ∧ t.pts = s.pts) ∧
  (∀ (p : Fin 64) (x : Fin 5) (short on : Bool) (s : State),
    (on = true ∧ s.detects p x short = false) ∨ (on = false ∧ s.ends p x = false) →
    Machine.exec (.fieldConditionDetect p x short on) s = .next s)

/-- The thermal budget (R250 to R254): the function to be derated next is turned off, marked and counted, the one derated last is restored first, with none to
derate or to restore no function changes, a step that the die's heat may have caused raises source 4 in class U until a restore (the model's choice,
log entry 68), and the limit of the junction temperature raises source 4 in class F.
Where a clause rests on the model's reading or choice, it is that of log entries 7, 31 and 68. -/
def Obligations.ThermalBudget : Prop :=
  (∀ (k : Nat) (s : State), s.nextDerate = some k → k % 8 < 4 → ∃ hot, Answers .derateStep s
    (fun t => ((t.setDerated k true).inc R.PWR_TBM_CNT_DERATE).dieHot hot) fun t =>
      t.fld.derated = k :: s.fld.derated ∧ (t.pin (k / 8) (k % 8)).driving = false ∧ (t.pin (k / 8) (k % 8)).applied = (s.pin (k / 8) (k % 8)).applied ∧
        t.regs = s.regs) ∧
  (∀ (k : Nat) (s : State), s.nextDerate = some k → 4 ≤ k % 8 → ∃ hot, Answers .derateStep s
    (fun t => ((t.setDerated k true).inc R.PWR_TBM_CNT_DERATE).dieHot hot) fun t =>
      t.fld.derated = k :: s.fld.derated ∧ (t.pin (k / 8) (2 * (k % 8 - 4))).driving = false ∧ t.regs = s.regs) ∧
  (∀ (k : Nat) (r : List Nat) (s : State), s.fld.derated = k :: r → Answers .restoreStep s (fun t => t.setDerated k false) fun t =>
    t.fld.derated = r ∧ t.fld.restored = k :: s.fld.restored ∧ t.fld.pins = s.fld.pins ∧ t.regs = s.regs ∧ t.flt = (s.dieHot false).flt) ∧
  (∀ s : State, s.nextDerate = none → ∃ hot, Answers .derateStep s (fun t => t.dieHot hot) fun t => t.fld = s.fld ∧ t.regs = s.regs ∧ t.flt = s.flt) ∧
  (∀ s : State, s.fld.derated = [] → Machine.exec .restoreStep s = .next (s.dieHot false)) ∧
  (∀ s : State, (s.dieHot false).regs = s.regs ∧ (s.dieHot false).fld = s.fld ∧ (s.dieHot false).flt.persist = s.flt.persist.filter fun x => x.1 ≠ 4 ∨ x.2.1 ≠ .U) ∧
  (∀ (k : Nat) (s : State), s.nextDerate = some k → k ∉ s.fld.derated ∧ s.rd (R.PORT_FN_SHED (k / 8)) ≠ 3) ∧
  (∀ s : State, Machine.exec .tjMaxReached s = .next (s.raise 4 .F))

/-- Measurement channels (R267 to R276): an open wire and a short are reported where the range has a method for it, and a short of an I20 input opens its
shunt, which closes again and ends the report; a visit of the background calibration that finds a channel near its coefficients leaves no
CAL_FAULT; a system calibration marks its channel BUSY, refuses a second one, and ends with OFS at the mean value of the 16 samples, within its range (log entry 65), or
FAILED where the channel is no longer an analog input.
Where a clause rests on the model's reading or choice, it is that of log entries 7, 31, 65 and 80. -/
def Obligations.Measurement : Prop :=
  (∀ (c : Fin 256) (s : State), s.fn (c / 4) (c % 4) = fnAi → s.isSense c = false → s.standby = false → s.range c = 2 →
    Answers (.aiConditionDetect c true true) s (fun t => t.refreshPort (c / 4)) fun t =>
      t.flag (R.MEAS_STAT_SHORT c) = true ∧ bit (t.rd (R.PORT_DIAG_SHORT (c / 4))) (c % 4) = true ∧ (t.measCh c).shuntOpen = true) ∧
  (∀ (c : Fin 256) (on : Bool) (s : State), s.fn (c / 4) (c % 4) = fnAi → s.isSense c = false → (on && s.standby) = false →
    s.range c = 2 ∨ s.range c = 4 → Answers (.aiConditionDetect c false on) s (fun t => t.refreshPort (c / 4)) fun t =>
      t.flag (R.MEAS_STAT_OPEN c) = on ∧ bit (t.rd (R.PORT_DIAG_OPEN (c / 4))) (c % 4) = on ∧ t.meas = s.meas) ∧
  (∀ (c : Fin 256) (s : State), s.fn (c / 4) (c % 4) = fnAi → s.flag (R.MEAS_STAT_OPEN c) = true →
    Answers (.aiConditionDetect c false false) s (fun t => t.refreshPort (c / 4)) fun t =>
      t.flag (R.MEAS_STAT_OPEN c) = false ∧ bit (t.rd (R.PORT_DIAG_OPEN (c / 4))) (c % 4) = false ∧ t.meas = s.meas) ∧
  (∀ (c : Fin 256) (short on : Bool) (s : State), s.fn (c / 4) (c % 4) ≠ fnAi ∨ s.isSense c = true ∨ s.range c = 0 ∨ s.range c = 1 ∨
      (on = true ∧ s.standby = true) → s.fn (c / 4) (c % 4) ≠ fnAi ∨ on = true ∨
      s.flag (if short then R.MEAS_STAT_SHORT c else R.MEAS_STAT_OPEN c) = false →
    Machine.exec (.aiConditionDetect c short on) s = .next s) ∧
  (∀ (c : Fin 256) (s : State), (s.measCh c).shuntOpen = true → Answers (.i20ShuntReclose c) s (fun t => t.refreshPort (c / 4)) fun t =>
    (t.measCh c).shuntOpen = false ∧ t.flag (R.MEAS_STAT_SHORT c) = false ∧ bit (t.rd (R.PORT_DIAG_SHORT (c / 4))) (c % 4) = false) ∧
  (∀ (c : Fin 256) (g o : BitVec 64) (s : State), s.flag (R.MEAS_CFG_BG_EN (s.cfgOf c)) = true → s.fn (c / 4) (c % 4) = fnAi →
    f64Far g.toNat (s.measCh c).gain (f64rat 5 1000) = false → f64Far o.toNat (s.measCh c).ofs (f64.mul (s.fullScale c) (f64rat 5 1000)) = false →
    Answers (.bgCalVisit c g o) s (fun t => t.refreshPort (c / 4)) fun t =>
      t.flag (R.MEAS_STAT_CAL_FAULT c) = false ∧ (t.measCh c).gain = (s.measCh c).gain ∧ (t.measCh c).next.isSome = true) ∧
  (∀ (c : Fin 256) (s : State), s.rd R.MEAS_SCAL_STAT_STATE ≠ 1 →
    (Answers (.scalZero c) s id fun t => t.meas.scal = some (c.val, 1) ∧ t.rd R.MEAS_SCAL_STAT_STATE = 1 ∧ t.flag (R.MEAS_STAT_SYSCAL c) = true) ∧
    (Answers (.scalSpan c) s id fun t => t.meas.scal = some (c.val, 2) ∧ t.rd R.MEAS_SCAL_STAT_STATE = 1 ∧ t.flag (R.MEAS_STAT_SYSCAL c) = true)) ∧
  (∀ (c : Fin 256) (s : State), s.rd R.MEAS_SCAL_STAT_STATE = 1 → Machine.exec (.scalZero c) s = .next s ∧ Machine.exec (.scalSpan c) s = .next s) ∧
  (∀ (c : Fin 256) (codes : List (Int × Int × Int)) (s : State), s.meas.scal = some (c.val, 1) → s.fn (c / 4) (c % 4) = fnAi →
    codes.length = 16 →
    Answers (.scalDone codes) s id fun t => t.meas.scal = none ∧ t.rd R.MEAS_SCAL_STAT_STATE = 2 ∧ t.flag (R.MEAS_STAT_SYSCAL c) = false ∧
      t.rd (R.MEAS_SYS_OFS_OFS c) = s.ofsClamp c (f64.conv f32 (s.xOf c (meanOf (codes.map fun v => s.combineCodes c (satCode v.1) (satCode v.2.1) (satCode v.2.2))))) % 2 ^ 32) ∧
  (∀ (c op : Nat) (codes : List (Int × Int × Int)) (s : State), s.meas.scal = some (c, op) → codes.length = 16 → s.fn (c / 4) (c % 4) ≠ fnAi →
    Answers (.scalDone codes) s id fun t => t.meas.scal = none ∧ t.rd R.MEAS_SCAL_STAT_STATE = 3)

/-- What the field buses receive (R286 to R290, R298, R300, R301): an error on CAN or SPE only counts; a good frame is noted, offered to the tunnels,
and taken by the lowest object that matches it, or by the owner of the port in host-assisted mode; a raw item waits in the port's queue of 64 when
no RECV takes it, and is dropped beyond that; a rate search counts good frames at its candidate and settles on it; the decoders of a pair show
what they recognise; and a CAN controller leaves
bus-off only by recovery, with its counters at 0 (the counters of ISO 11898-1 and the data rate that AUTO takes are the model's, log entries 73 and 83).
Where a clause rests on the model's reading or choice, it is that of log entries 7, 32, 73, 79 and 83. -/
def Obligations.BusReception : Prop :=
  (∀ (i : Fin 32) (p x tec rec : Nat) (f : BusFrame) (s : State), s.ctlPlace cCan i = some (p, x) → s.ctlOn cCan i = true →
    s.rd (R.PCTL_CAN_STAT_STATE i) ≠ 2 → s.searching cCan i = false → s.ctlRaw cCan i = true →
    Answers (.canFrameReceive i f true tec rec) s
      (fun t => ((t.rawIn p (withPair f.bytes x)).tunnelIn 1 (some (p, x)) (t.now - f.ago) (withPair f.bytes x)).settle) fun t =>
        t.rd (R.PCTL_CAN_STAT_TEC i) = min 255 tec ∧ t.rd (R.PCTL_CAN_STAT_REC i) = min 255 rec ∧ t.pctl = { s.pctl with dbr := t.pctl.dbr } ∧
        (s.flag (R.PCTL_CAN_CFG_AUTO i) = false → t.pctl = s.pctl) ∧ t.brg = s.brg) ∧
  (∀ (i : Fin 32) (p x tec rec m : Nat) (f : BusFrame) (s : State), s.ctlPlace cCan i = some (p, x) → s.ctlOn cCan i = true →
    s.rd (R.PCTL_CAN_STAT_STATE i) ≠ 2 → s.searching cCan i = false → s.ctlRaw cCan i = false →
    s.canMatch i (withPair f.bytes x) = some m →
    Answers (.canFrameReceive i f true tec rec) s 
      (fun t => ((t.objectTakes m ((withPair f.bytes x).drop 16)).tunnelIn 1 (some (p, x)) (t.now - f.ago) (withPair f.bytes x)).settle) fun t =>
      t.rd (R.PCTL_CAN_STAT_TEC i) = min 255 tec ∧ t.rd (R.PCTL_CAN_STAT_STATE i) = s.canState i tec rec ∧ t.pctl = { s.pctl with dbr := t.pctl.dbr } ∧
        (s.flag (R.PCTL_CAN_CFG_AUTO i) = false → t.pctl = s.pctl) ∧ t.brg = s.brg) ∧
  (∀ (i : Fin 32) (p x tec rec : Nat) (f : BusFrame) (s : State), s.ctlPlace cCan i = some (p, x) → s.ctlOn cCan i = true →
    s.rd (R.PCTL_CAN_STAT_STATE i) ≠ 2 → Answers (.canFrameReceive i f false tec rec) s id fun t =>
      t.rd (R.PCTL_CAN_STAT_ERR i) = satAdd 14 (s.rd (R.PCTL_CAN_STAT_ERR i)) 1 ∧ t.rd (R.PCTL_CAN_STAT_TEC i) = min 255 tec ∧
      t.autoOf (ctlKey cCan i) = ((s.autoOf (ctlKey cCan i)).1, 0) ∧ t.pts = s.pts ∧ t.brg = s.brg ∧ t.sw = s.sw) ∧
  (∀ (i : Fin 32) (tec rec : Nat) (f : BusFrame) (ok : Bool) (s : State), s.ctlOn cCan i = false ∨ s.rd (R.PCTL_CAN_STAT_STATE i) = 2 →
    Machine.exec (.canFrameReceive i f ok tec rec) s = .next s ∧ Machine.exec (.canBusOff i) s = .next s) ∧
  (∀ (i : Fin 32) (s : State), s.ctlOn cCan i = true → s.rd (R.PCTL_CAN_STAT_STATE i) ≠ 2 →
    Answers (.canBusOff i) s (fun t => t.condCtl cCan i qFault true) fun t => t.rd (R.PCTL_CAN_STAT_STATE i) = 2 ∧ t.rd (R.PCTL_CAN_STAT_TEC i) = 255 ∧
      t.rd (R.PCTL_CAN_STAT_BUSOFF i) = satAdd 16 (s.rd (R.PCTL_CAN_STAT_BUSOFF i)) 1 ∧ t.pctl = s.pctl ∧ t.pts = s.pts) ∧
  (∀ (i : Fin 32) (s : State), s.rd (R.PCTL_CAN_STAT_STATE i) = 2 →
    (Answers (.canRecover i) s (fun t => t.condCtl cCan i qFault false) fun t => t.rd (R.PCTL_CAN_STAT_TEC i) = 0 ∧
      t.rd (R.PCTL_CAN_STAT_REC i) = 0 ∧ t.rd (R.PCTL_CAN_STAT_STATE i) = s.canState i 0 0 ∧ t.pctl = s.pctl) ∧
    (s.flag (R.PCTL_CAN_CFG_AUTO_REC i) = true → Answers (.canAutoRecover i) s (fun t => t.condCtl cCan i qFault false) fun t =>
      t.rd (R.PCTL_CAN_STAT_TEC i) = 0 ∧ t.rd (R.PCTL_CAN_STAT_REC i) = 0 ∧ t.rd (R.PCTL_CAN_STAT_STATE i) = s.canState i 0 0 ∧ t.pctl = s.pctl) ∧
    (s.flag (R.PCTL_CAN_CFG_AUTO_REC i) = false → Machine.exec (.canAutoRecover i) s = .next s)) ∧
  (∀ (i : Fin 32) (s : State), s.rd (R.PCTL_CAN_STAT_STATE i) ≠ 2 →
    Machine.exec (.canRecover i) s = .next s ∧ Machine.exec (.canAutoRecover i) s = .next s) ∧
  (∀ (i : Fin 32) (on : Bool) (s : State), s.ctlOn cCan i = true →
    Machine.exec (.canBusDominant i on) s = .next (s.condCtl cCan i qShort on)) ∧
  (∀ (i : Fin 16) (p x : Nat) (f : BusFrame) (s : State), s.ctlPlace cSpe i = some (p, x) → s.ctlOn cSpe i = true → s.speAccepts i f.bytes = true →
    s.ctlRaw cSpe i = true →
    Answers (.speFrameReceive i f true) s (fun t => ((t.rawIn p (ethItem x f.bytes)).tunnelIn 2 (some (p, x)) (t.now - f.ago) (ethItem x f.bytes)).settle) fun t =>
      t.rd (if x = 0 then R.PCTL_PORT_BUS0 p else R.PCTL_PORT_BUS1 p) = 4 ∧ t.pctl = s.pctl ∧ t.brg = s.brg ∧ t.sw = s.sw) ∧
  (∀ (i : Fin 16) (p x m : Nat) (f : BusFrame) (s : State), s.ctlPlace cSpe i = some (p, x) → s.ctlOn cSpe i = true → s.speAccepts i f.bytes = true →
    s.ctlRaw cSpe i = false → s.speMatch i f.bytes = some m →
    Answers (.speFrameReceive i f true) s (fun t => ((t.objectTakes m (etherPayload f.bytes)).tunnelIn 2 (some (p, x)) (t.now - f.ago) (ethItem x f.bytes)).settle) fun t =>
      t.rd (if x = 0 then R.PCTL_PORT_BUS0 p else R.PCTL_PORT_BUS1 p) = 4 ∧ t.pctl = s.pctl ∧ t.brg = s.brg ∧ t.sw = s.sw) ∧
  (∀ (i : Fin 16) (p x : Nat) (f : BusFrame) (s : State), s.ctlPlace cSpe i = some (p, x) → s.ctlOn cSpe i = true →
    Machine.exec (.speFrameReceive i f false) s = .next (s.inc (R.PCTL_SPE_STAT_FCS_ERR i)) ∧
    (s.speAccepts i f.bytes = false → Machine.exec (.speFrameReceive i f true) s = .next s)) ∧
  (∀ (i : Fin 16) (s : State), s.ctlOn cSpe i = true → Answers (.speLinkUp i) s (fun t => t.condCtl cSpe i qOpenWire false) fun t =>
    t.flag (R.PCTL_SPE_STAT_LINK i) = true ∧ t.pctl = s.pctl) ∧
  (∀ (i : Fin 16) (s : State), s.ctlOn cSpe i = true → s.flag (R.PCTL_SPE_STAT_LINK i) = true → s.speT1L i = true →
    Answers (.speLinkDown i) s (fun t => t.condCtl cSpe i qOpenWire true) fun t => t.flag (R.PCTL_SPE_STAT_LINK i) = false ∧
      t.rd (R.PCTL_SPE_STAT_LINK_DOWN i) = satAdd 16 (s.rd (R.PCTL_SPE_STAT_LINK_DOWN i)) 1 ∧ t.pctl = s.pctl) ∧
  (∀ (i : Fin 16) (s : State), s.ctlOn cSpe i = true → s.flag (R.PCTL_SPE_STAT_LINK i) = false → s.speT1L i = true →
    Machine.exec (.speLinkDown i) s = .next (s.condCtl cSpe i qOpenWire true)) ∧
  (∀ (i : Fin 16) (s : State), s.ctlOn cSpe i = false → Machine.exec (.speLinkDown i) s = .next s ∧ Machine.exec (.speLinkUp i) s = .next s) ∧
  (∀ (p : Nat) (item : List Byte) (s : State), s.standby = false → item.length ≤ 2048 → leAt item 0 1 ≠ 2 ∨ leAt item 2 2 ≤ 1518 →
    s.recvFor (s.rd (R.PCTL_PORT_RAW_OWN p)) 1 p none = none →
    s.rawIn p item = if (s.rxq p).length < 64 then s.setRxq p (s.rxq p ++ [⟨s.now, item⟩]) else s.inc (R.PCTL_PORT_DROP p)) ∧
  (∀ (p k : Nat) (x : Tx) (item : List Byte) (s : State), s.standby = false → item.length ≤ 2048 → leAt item 0 1 ≠ 2 ∨ leAt item 2 2 ≤ 1518 →
    s.recvFor (s.rd (R.PCTL_PORT_RAW_OWN p)) 1 p none = some (k, x) → s.rawIn p item = s.fillRecv k x item s.now p) ∧
  (∀ (i : Nat) (s : State), s.searching cCan i = true →
    ((s.autoOf (ctlKey cCan i)).2 = 0 → s.autoHit cCan i 1 2 = s.setAuto (ctlKey cCan i) ((s.autoOf (ctlKey cCan i)).1, 1)) ∧
    ((s.autoOf (ctlKey cCan i)).2 = 1 →
      s.autoHit cCan i 1 2 = (s.setAuto (ctlKey cCan i) (0, 0)).wr (R.PCTL_CAN_STAT_NBR_DET i) (canRates.getD (s.autoOf (ctlKey cCan i)).1 0))) ∧
  (∀ (k : Fin 5) (i : Fin 64) (s : State), k.val = cCan → s.searching k i = true → s.ctlOn k i = true →
    Machine.exec (.autoRateStep (.rate k) i) s = .next (s.setAuto (ctlKey k i) (((s.autoOf (ctlKey k i)).1 + 1) % 9, 0))) ∧
  (∀ (k : Fin 5) (i : Fin 64) (s : State), s.searching k i = false → Machine.exec (.autoRateStep (.rate k) i) s = .next s) ∧
  (∀ (q : Fin 2) (seen : Fin 5) (i : Fin 64) (s : State), s.fn i (2 * q) = fnPair → Answers (.autoRateStep (.bus q seen) i) s id fun t =>
    t.rd (if q.val = 0 then R.PCTL_PORT_BUS0 i else R.PCTL_PORT_BUS1 i) = seen.val ∧ t.pctl = s.pctl ∧ t.brg = s.brg) ∧
  (∀ (q : Fin 2) (seen : Fin 5) (i : Fin 64) (s : State), s.fn i (2 * q) ≠ fnPair →
    Machine.exec (.autoRateStep (.bus q seen) i) s = .next s) ∧
  (∀ (k : Fin 5) (i : Fin 64) (s : State), k.val ≠ 0 →
    Machine.exec (.controllerError k i false) s = .next (s.raise (clusterBit k) .C) ∧
    Machine.exec (.controllerError k i true) s = .next ((s.restartController k i).raise (clusterBit k) .U))

/-- UART, Modbus and IO-Link, and what goes out on the buses (R286, R287, R291, R292, R293, R299, R343): a block of characters with a framing error
is counted, and a block goes to the owner in host-assisted mode; a poll ends with its data at its object, or NO_RESPONSE at its points, and the next
poll follows; a transaction of the bridge ends with its data, BUS_NAK with the device's code, or BUS_ERROR; a raw SEND or an object's write
completes when its frame has gone; and an IO-Link master finds its device, loses it, waits 1 s without L+ after three wake-ups that fail, and
starts again on command.
Where a clause rests on the model's reading or choice, it is that of log entries 7, 32, 73, 79 and 84. -/
def Obligations.SerialBuses : Prop :=
  (∀ (i : Fin 64) (p x : Nat) (f : BusFrame) (s : State), s.ctlPlace cUart i = some (p, x) → s.ctlOn cUart i = true →
    s.ctlRaw cUart i = true → bit (leAt (withPair f.bytes x) 4 1) 1 = true →
    Answers (.uartBlockEnd i f) s (fun t => ((t.rawIn p (withPair f.bytes x)).tunnelIn 3 (some (p, x)) (t.now - f.ago) (withPair f.bytes x)).settle) fun t =>
      t.rd (R.PCTL_UART_STAT_FRAMING i) = satAdd 16 (s.rd (R.PCTL_UART_STAT_FRAMING i)) 1 ∧ t.rxq p = s.rxq p ∧ t.brg = s.brg ∧ t.sw = s.sw) ∧
  (∀ (i : Fin 64) (p x : Nat) (f : BusFrame) (s : State), s.ctlPlace cUart i = some (p, x) → s.ctlOn cUart i = true →
    s.searching cUart i = false → bit (leAt (withPair f.bytes x) 4 1) 1 = false → s.ctlRaw cUart i = true →
    Answers (.uartBlockEnd i f) s (fun t => ((t.rawIn p (withPair f.bytes x)).tunnelIn 3 (some (p, x)) (t.now - f.ago) (withPair f.bytes x)).settle) fun t =>
      t.rd (if x = 0 then R.PCTL_PORT_BUS0 p else R.PCTL_PORT_BUS1 p) = 3 ∧ t.pctl = s.pctl ∧ t.brg = s.brg ∧ t.sw = s.sw) ∧
  (∀ (i : Fin 64) (m : Nat) (b : List Byte) (s : State), s.poll i = some m → s.pollCode m ≠ 0x10 → b.length = 2 * s.pollRegs m →
    s.searching cUart i = false → s.ctlOn cUart i = true → s.ctlRaw cUart i = false →
    Machine.exec (.modbusResponse i (.data b)) s = .next (((s.markMissed (s.pollPoints m) false).objectTakes m b).pollEnd i).settle) ∧
  (∀ (i : Fin 64) (m : Nat) (s : State), s.poll i = some m →
    Answers (.modbusRspTimeout i) s (fun t => ((t.inc (R.PCTL_UART_STAT_NORSP i)).pollEnd i).settle) fun t =>
      t = s.markMissed (s.pollPoints m) true) ∧
  (∀ (i : Fin 64) (x : ModbusRsp) (s : State), s.ctlOn cUart i = false ∨ s.ctlRaw cUart i = true →
    Machine.exec (.modbusResponse i x) s = .next s.settle) ∧
  (∀ (i : Nat) (s : State), s.uartQueued i = false → s.polls i = [] → s.pollEnd i = s.setPoll i none) ∧
  (∀ (i : Fin 64) (p : Nat) (o : BusOp) (b : List Byte) (s : State), s.poll i = none → s.ctlOp cUart i = some (p, o) → o.broadcast = false →
    b.length = o.expects → s.ctlOn cUart i = true → s.ctlRaw cUart i = false →
    Machine.exec (.modbusResponse i (.data b)) s = .next (s.opData p cUart i o b).settle) ∧
  (∀ (i : Fin 64) (p c : Nat) (o : BusOp) (s : State), s.poll i = none → s.ctlOp cUart i = some (p, o) → o.broadcast = false →
    s.ctlOn cUart i = true → s.ctlRaw cUart i = false →
    Machine.exec (.modbusResponse i (.exception c)) s = .next (s.endOp p o { status := stBusNak, result := c % 256 }).settle ∧
    Machine.exec (.modbusResponse i .bad) s =
      .next ((s.inc (R.PCTL_UART_STAT_FRAMING i)).endOp p o { status := stBusError, result := 0 }).settle ∧
    Machine.exec (.modbusRspTimeout i) s = .next (s.endOp p o { status := stBusNak, result := 0 }).settle) ∧
  (∀ (i : Fin 64) (p : Nat) (o : BusOp) (s : State), s.poll i = none → s.ctlOp cUart i = some (p, o) → o.broadcast = true →
    Machine.exec (.modbusRspTimeout i) s =
      .next (s.endOp p o { status := stOk, xfer := o.req.len, exec := s.tdEnc o.req.td }).settle) ∧
  (∀ (p : Fin 64) (q c : Nat) (b : List Byte) (o : BusOp) (s : State), s.ctlOp cIol p = some (q, o) →
    Machine.exec (.isduResponse p (.data b)) s = .next (s.opData q cIol p o b).settle ∧
    Machine.exec (.isduResponse p (.error c)) s = .next (s.endOp q o { status := stBusNak, result := c % 65536 }).settle ∧
    Machine.exec (.isduTimeout p) s = .next (s.endOp q o { status := stBusNak, result := 0 }).settle) ∧
  (∀ (p k i : Nat) (o : BusOp) (b : List Byte) (s : State), o.req.op = opRmw → o.phase = 1 →
    s.opData p k i o b = s.endOp p o { status := stOk, result := o.value, xfer := o.req.len, exec := s.tdEnc o.req.td }) ∧
  (∀ (k : Fin 5) (i : Fin 64) (x : TxItem) (r : Req) (s : State), s.nextTx k i = some x → x.obj = none → x.req = some r →
    s.maySendBus k i = true → k.val ≠ cIol →
    (k.val ≠ cCan → Machine.exec (.rawSendDone k i true) s =
      .next (((s.busOut k i "frame" (onWire x.item)).dropTx k i x).ok r 0 r.len).settle) ∧
    (k.val = cCan → Machine.exec (.rawSendDone k i true) s =
      .next ((((s.busOut k i "frame" (onWire x.item)).canSent i true).dropTx k i x).ok r 0 r.len).settle) ∧
    (k.val = cCan → Machine.exec (.rawSendDone k i false) s = .next (((s.canSent i false).dropTx k i x).refuse r stBusNak).settle) ∧
    (k.val ≠ cCan → Machine.exec (.rawSendDone k i false) s = .next s)) ∧
  (∀ (i : Fin 64) (x : TxItem) (r : Req) (s : State), s.nextTx cIol i = some x → x.obj = none → x.req = some r → s.maySendBus cIol i = true →
    Answers (.rawSendDone 4 i true) s (fun t => ((t.dropTx cIol i x).ok r 0 r.len).settle) fun t =>
      t.regs = s.regs ∧ t.fld = s.fld ∧ t.brg = s.brg) ∧
  (∀ (k : Fin 5) (i : Fin 64) (ok : Bool) (s : State), s.nextTx k i = none ∨ s.maySendBus k i = false →
    Machine.exec (.rawSendDone k i ok) s = .next s ∧ Machine.exec (.objectFrameSent k i) s = .next s) ∧
  (∀ (k : Fin 5) (i : Fin 64) (x : TxItem) (s : State), s.nextTx k i = some x → x.obj.isSome = true → x.req = none → s.maySendBus k i = true →
    (k.val ≠ cCan → Machine.exec (.objectFrameSent k i) s = .next ((s.busOut k i "frame" (onWire x.item)).dropTx k i x)) ∧
    (k.val = cCan → Machine.exec (.objectFrameSent k i) s =
      .next (((s.busOut k i "frame" (onWire x.item)).canSent i true).dropTx k i x))) ∧
  (∀ (p : Fin 64) (d : List Byte) (s : State), s.iolComm p = true → s.rd (R.PCTL_IOL_STAT_STATE p) = iolOperate → s.ctlRaw cIol p = false →
    s.flag (R.PCTL_IOL_FMT_IN_EN p) = true →
    Machine.exec (.iolPdReceive p true d) s = .next ((s.condCtl cIol p qFault false).decodeFrame (s.rd (R.PCTL_IOL_FMT_FMT_IN p)) d) ∧
    Machine.exec (.iolPdReceive p false d) s = .next (s.condCtl cIol p qFault true)) ∧
  (∀ (p : Fin 64) (d : List Byte) (s : State), s.iolComm p = true → s.rd (R.PCTL_IOL_STAT_COM_DET p) ≠ 0 → s.ctlRaw cIol p = false →
    Machine.exec (.iolEventReceive p d) s = .next (s.inc (R.PCTL_IOL_STAT_EVENTS p)).settle) ∧
  (∀ (p : Fin 64) (c v d : Nat) (s : State), s.iolComm p = true → s.standby = true ∨ s.flag (R.PORT_STAT_FP_ON p) = true → c < 4 →
    s.rd (R.PCTL_IOL_CFG_CHECK p) = 0 →
    Answers (.iolWakeup p (some (c, v, d))) s (fun t => (t.condCtl cIol p qNoResponse false).condCtl cIol p qFault false) fun t =>
      t.rd (R.PCTL_IOL_STAT_COM_DET p) = c ∧ t.rd (R.PCTL_IOL_STAT_STATE p) = iolOperate ∧ t.iolTries p = 0) ∧
  (∀ (p : Fin 64) (s : State), s.iolComm p = true → s.standby = true ∨ s.flag (R.PORT_STAT_FP_ON p) = true → s.iolTries p = 0 →
    Answers (.iolWakeup p none) s (fun t => (t.condCtl cIol p qNoResponse true).setTries p 1) fun t =>
      t.rd (R.PCTL_IOL_STAT_STATE p) = iolStartup ∧ t.rd (R.PCTL_IOL_STAT_COM_DET p) = 0 ∧ t.pctl = s.pctl) ∧
  (∀ (p : Fin 64) (s : State), p.val ∈ s.pctl.lplusOff → Answers (.iolPowerRetry p) s (fun t => t.iolPower p) fun t =>
    p.val ∉ t.pctl.lplusOff ∧ t.regs = s.regs ∧ t.fld = s.fld) ∧
  (∀ (p : Fin 64) (s : State), p.val ∉ s.pctl.lplusOff → Machine.exec (.iolPowerRetry p) s = .next s) ∧
  (∀ (p : Fin 64) (s : State), s.ctlOn cIol p = true → Answers (.iolRestart p) s id fun t => t.iolTries p = 0 ∧
    t.rd (R.PCTL_IOL_STAT_COM_DET p) = 0 ∧ t.rd (R.PCTL_IOL_STAT_STATE p) = if s.iolComm p then iolStartup else iolSio) ∧
  (∀ (p : Fin 64) (s : State), s.ctlOn cIol p = false → Answers (.iolRestart p) s id fun t =>
    t.rd (R.PCTL_IOL_STAT_STATE p) = 0 ∧ t.rd (R.PCTL_IOL_STAT_COM_DET p) = 0) ∧
  (∀ (p : Fin 64) (s : State), s.iolComm p = true → s.rd (R.PCTL_IOL_STAT_COM_DET p) ≠ 0 →
    Answers (.iolDeviceLost p) s (fun t => t.condCtl cIol p qNoResponse true) fun t => t.rd (R.PCTL_IOL_STAT_COM_DET p) = 0 ∧
      t.rd (R.PCTL_IOL_STAT_STATE p) = iolStartup ∧
      t.rd (R.PCTL_IOL_STAT_DEV_LOST p) = satAdd 16 (s.rd (R.PCTL_IOL_STAT_DEV_LOST p)) 1 ∧ t.pctl = s.pctl)

/-- The bridge's queues and its cache (R336, R339, R341, R343, R355, Table 12-2): a bus that frees takes the oldest request, after the holder's
operations and none but those while it is held, and none while the winner of a window waits; a request that starts on a Modbus station or an IO-Link device goes out on the bus, and one that
reads a message object ends at once with the data of its last frame; a read ends with the bytes asked for, those beyond the device's data
free (log entry 58), an RMW writes what it computes, and a
verified write is read back and ends with BUS_ERROR where it differs; a full queue answers DENIED; a flush leaves no line; and an error in a queued
request or tunnel frame is reported, and ends that request or frame.
Where a clause rests on the model's reading or choice, it is that of log entries 7, 28, 32, 58 and 73. -/
def Obligations.BridgeQueues : Prop :=
  (∀ (p : Fin 64) (s : State), s.busIdle p = false → Machine.exec (.bridgeServe p) s = .next s.settle) ∧
  (∀ (p : Fin 64) (o : BusOp) (r : List BusOp) (s : State), s.busIdle p = true → (s.busLock p).winner = none → s.lockq p = o :: r →
    Machine.exec (.bridgeServe p) s = .next ((s.setLockq p r).startOp p o).settle) ∧
  (∀ (p : Fin 64) (s : State), (s.busLock p).winner.isSome = true → Machine.exec (.bridgeServe p) s = .next s.settle) ∧
  (∀ (p : Fin 64) (s : State), s.lockq p = [] → (s.busLock p).holder.isSome = true → Machine.exec (.bridgeServe p) s = .next s.settle) ∧
  (∀ (p : Fin 64) (o : BusOp) (r : List BusOp) (s : State), s.busIdle p = true → s.lockq p = [] → (s.busLock p).holder = none → (s.busLock p).winner = none →
    s.brgq p = o :: r → Machine.exec (.bridgeServe p) s = .next ((s.setBrgq p r).startOp p o).settle) ∧
  (∀ (p i : Nat) (o : BusOp) (s : State), s.devTarget p = some (cUart, i) → o.req.op = opWrite →
    s.startOp p o = (s.setBusOp p (some o)).busOut cUart i "modbus"
      (modbusPdu (mbStation o.req.off) 0x10 (mbReg o.req.off) (o.req.len / 2) o.req.data)) ∧
  (∀ (p i : Nat) (o : BusOp) (s : State), s.devTarget p = some (cIol, i) → o.req.op = opWrite →
    s.startOp p o = (s.setBusOp p (some o)).busOut cIol i "ISDU write" (leBytes 4 o.req.off ++ o.req.data)) ∧
  (∀ (p i : Nat) (o : BusOp) (s : State), s.devTarget p = some (cCan, i) → o.req.op = opRead →
    o.req.len ≤ (NMap.get (fun _ => []) s.pctl.last o.req.off).length →
    s.startOp p o = s.endOp p o { status := stOk, xfer := o.req.len, exec := s.tdEnc o.req.td
                                  data := (NMap.get (fun _ => []) s.pctl.last o.req.off).take o.req.len }) ∧
  (∀ (p i : Nat) (o : BusOp) (b : List Byte) (s : State), o.req.op = opRead → o.range = none → o.req.len ≤ b.length →
    s.opData p cIol i o b = s.endOp p o { status := stOk, xfer := o.req.len, exec := s.tdEnc o.req.td, data := b.take o.req.len }) ∧
  (∀ (p i : Nat) (o : BusOp) (b : List Byte) (s : State), o.req.op = opRead → o.range = none → b.length < o.req.len →
    ∃ (free : List Byte) (n : Nat), b.length + free.length = o.req.len ∧ s.opData p cIol i o b = ({ s with drawn := n }).endOp p o
      { status := stOk, xfer := o.req.len, exec := s.tdEnc o.req.td, data := b ++ free }) ∧
  (∀ (p i : Nat) (o : BusOp) (b : List Byte) (s : State), o.req.op = opWrite → o.phase = 2 →
    s.opData p cUart i o b = if b = o.req.data then s.endOp p o { status := stOk, xfer := o.req.len, exec := s.tdEnc o.req.td }
      else s.endOp p o { status := stBusError, result := 2 ^ 63 }) ∧
  (∀ (p i x : Nat) (o : BusOp) (b : List Byte) (s : State), o.req.op = opRmw → o.phase = 0 →
    o.req.len ≤ b.length → rmwValue o.req.opx o.req.len (beNat (b.take o.req.len)) (leAt o.req.operand 0 8 % 2 ^ (8 * o.req.len)) (leAt o.req.operand 8 8 % 2 ^ (8 * o.req.len)) = some x →
    s.opData p cUart i o b = s.sendOp p cUart i { o with phase := 1, value := beNat (b.take o.req.len) } true o.req.off (o.req.len / 2) (beBytes o.req.len x)) ∧
  (∀ (p : Nat) (o : BusOp) (s : State), 32 ≤ (s.brgq p).length → s.enqueue p o = s.refuse o.req stDenied) ∧
  (∀ s : State, Answers .cacheFlush s id fun t => t.brg.cache = [] ∧ t.brg.queue = s.brg.queue ∧ t.brg.locks = s.brg.locks ∧
    t.pctl = s.pctl ∧ t.tgt = s.tgt) ∧
  (∀ s : State, Machine.exec (.bridgeQueueError .corrected) s = .next (s.raise 48 .C).settle) ∧
  (∀ (p : Fin 64) (n : Nat) (o : BusOp) (s : State), s.lockq p = [] → (s.brgq p)[n]? = some o → o.posted = false →
    Machine.exec (.bridgeQueueError (.request p n)) s =
      .next (((s.setBrgq p ((s.brgq p).eraseIdx n)).refuse o.req stBusError).raise 48 .U).settle) ∧
  (∀ (p : Fin 64) (n : Nat) (o : BusOp) (s : State), (s.lockq p)[n]? = some o → o.posted = false →
    Machine.exec (.bridgeQueueError (.request p n)) s =
      .next (((s.setLockq p ((s.lockq p).eraseIdx n)).refuse o.req stBusError).raise 48 .U).settle) ∧
  (∀ (t : Fin 64) (n : Nat) (s : State), n < (s.tunq t).length →
    Answers (.bridgeQueueError (.tunnel t n)) s (fun u => ((u.pumpTun t 64).raise 48 .U).settle) fun u =>
      u.tunq t = (s.tunq t).eraseIdx n ∧ u.rd (R.BRG_TUN_CNT_DROP t) = satAdd 16 (s.rd (R.BRG_TUN_CNT_DROP t)) 1) ∧
  (∀ (n : Nat) (x : CacheLine) (s : State), s.brg.cache[n]? = some x →
    Answers (.bridgeQueueError (.line n)) s (fun t => (t.raise 48 .C).settle) fun t =>
      t.brg.cache = s.brg.cache.filter (fun y => ¬ (y.port = x.port ∧ y.base = x.base)) ∧ t.pctl = s.pctl)

/-- Bus locks and tunnels (R344 to R348, R350 to R355): with the bus free the window's only LOCK is granted the port, a later one waits for the
transaction in progress; the grant answers with the LOCK_ID and sets the lock time; a LOCK of a held port conflicts; expiry frees the port and counts,
after the transaction in progress; a release by its holder alone frees it, and ends its
waiting operations. A TUN frame in no entry's name is discarded; one for an entry is
sent, or held for its time, or dropped in the safe state or with its uplink down (log entry 64);
and an ingress entry numbers its copies and stamps them with the instant of their reception.
Where a clause rests on the model's reading or choice, it is that of log entries 1, 7, 20, 33, 57, 63, 64, 79 and 81. -/
def Obligations.LocksAndTunnels : Prop :=
  (∀ (p : Fin 64) (r : Req) (s : State), (s.busLock p).windowOpen = true → (s.busLock p).contenders = [r] →
    Answers (.lockWindowClose p) s (fun t => (if t.busIdle p then t.grant p r else t).settle) fun t =>
      (t.busLock p).windowOpen = false ∧ (t.busLock p).contenders = [] ∧ (t.busLock p).winner = some r ∧ t.regs = s.regs ∧ t.pctl = s.pctl) ∧
  (∀ (p : Fin 64) (s : State), (s.busLock p).windowOpen = false → Machine.exec (.lockWindowClose p) s = .next s) ∧
  (∀ (p : Fin 64) (w : Req) (s : State), (s.busLock p).winner = some w →
    (s.busIdle p = true → Machine.exec (.lockGrant p) s = .next (s.grant p w).settle) ∧
    (s.busIdle p = false → Machine.exec (.lockGrant p) s = .next s)) ∧
  (∀ (p : Nat) (r : Req) (s : State), r.locked = true → ∃ t : State, s.grant p r = t.ok r r.lockId 0 ∧
    (t.busLock p).holder = some (r.src, r.tn, r.lockId) ∧ (t.busLock p).until_ = s.ns + leAt r.operand 0 4 * 1000 ∧
    (t.busLock p).winner = none ∧ (∀ x ∈ t.brg.cache, x.port ≠ p) ∧ t.pctl = s.pctl ∧ ∀ q, q ≠ p → t.busLock q = s.busLock q) ∧
  (∀ (p node : Nat) (x : Nat × Nat) (k i : Nat) (r : Req) (s : State), s.devTarget p = some (k, i) → s.lockOk p = true → k ≠ cCan → k ≠ cSpe →
    s.ctlRaw k i = false → (s.busLock p).holder = some (node, x) → s.lockIn p r = s.conflict r node) ∧
  (∀ (a b : Req), a.src < b.src → lockBeats a b = true ∧ lockBeats b a = false) ∧
  (∀ (p : Fin 64) (src tn id : Nat) (s : State), (s.busLock p).holder = some (src, tn, id) → s.isMine src = false → (s.busOp p).isSome = true →
    Answers (.lockExpiry p) s State.settle fun t => (t.busLock p).expired = true ∧ (t.busLock p).holder = some (src, tn, id) ∧
      t.rd R.BRG_LOCK_CNT_EXPIRED = s.rd R.BRG_LOCK_CNT_EXPIRED) ∧
  (∀ (p src tn id : Nat) (s : State), (s.busLock p).holder = some (src, tn, id) → (s.busLock p).expired = true →
    s.lateExpiry p = (s.releaseBus p src tn id).inc R.BRG_LOCK_CNT_EXPIRED) ∧
  (∀ (p : Fin 64) (src tn id : Nat) (s : State), (s.busLock p).holder = some (src, tn, id) → s.isMine src = false → s.busOp p = none →
    Machine.exec (.lockExpiry p) s = .next ((s.releaseBus p src tn id).inc R.BRG_LOCK_CNT_EXPIRED).settle) ∧
  (∀ (p : Fin 64) (s : State), (s.busLock p).holder = none → Machine.exec (.lockExpiry p) s = .next s.settle) ∧
  (∀ (p : Fin 64) (src tn id : Nat) (s : State), (s.busLock p).holder = some (src, tn, id) →
    Answers (.lockRelease p src tn id) s (fun t => ((s.lockq p).foldl (fun t o => t.dropOp o stAborted) t).settle) fun t =>
      (t.busLock p).holder = none ∧ t.lockq p = [] ∧ t.regs = s.regs ∧ t.pctl = s.pctl ∧ t.sw = s.sw ∧ t.hif = s.hif) ∧
  (∀ (p : Fin 64) (src tn id : Nat) (s : State), (s.busLock p).holder ≠ some (src, tn, id) →
    Machine.exec (.lockRelease p src tn id) s = .next s.settle) ∧
  (∀ (i : Fin 4) (f : Frame) (s : State), f.typ = fTun → f.mark = .valid → s.isMine f.dst = true →
    (∀ t < 64, s.tunOk t = true → s.rd (R.BRG_TUN_NODE_NODE t) ≠ f.src) → Machine.exec (.tunReceive i f) s = .next (s.countDiscard i)) ∧
  (∀ (i : Fin 4) (t : Nat) (f : Frame) (s : State), f.typ = fTun → f.mark = .valid → s.isMine f.dst = true →
    ((List.range 64).find? fun t => s.tunOk t ∧ s.flag (R.BRG_TUN_CFG_DIR t) ∧ s.rd (R.BRG_TUN_NODE_NODE t) = f.src ∧
      s.rd (R.BRG_TUN_CFG_TID t) = f.arg % 256 ∧ f.op = 1) = some t →
    Machine.exec (.tunReceive i f) s = .next (s.tunEgress t f).settle) ∧
  (∀ (t : Nat) (f : Frame) (s : State), t ∉ s.brg.seqSeen → s.tunUplink t = false → s.inSafe = true →
    (s.tunEgress t f).rd (R.BRG_TUN_SEQ_NEXT t) = (bits f.arg 8 16 + 1) % 65536 ∧
    (s.tunEgress t f).rd (R.BRG_TUN_CNT_DROP t) = satAdd 16 (s.rd (R.BRG_TUN_CNT_DROP t)) 1 ∧ (s.tunEgress t f).tunq t = s.tunq t) ∧
  (∀ (t : Fin 64) (x : TunFrame) (r : List TunFrame) (s : State), s.tunq t = x :: r → x.due ≤ s.tdNow x.td → s.tunUplink t = true →
    (s.port (2 + (s.rd (R.BRG_TUN_CFG_KIND t) - 4))).st = .uplinkUp →
    Machine.exec (.tunReplayDue t) s = .next (((s.setTunq t ({ x with due := 0 } :: r)).setTunq t r).emit
      (.ethernet (s.rd (R.BRG_TUN_CFG_KIND t) - 4) "tunnel" (s.ethTag (s.rd (R.BRG_TUN_CFG_KIND t) - 4) x.tc) (untagged (x.bytes.drop 16)))
        |>.pumpTun t 63)) ∧
  (∀ (t : Fin 64) (x : TunFrame) (r : List TunFrame) (s : State), s.tunq t = x :: r → s.tdNow x.td < x.due →
    Machine.exec (.tunReplayDue t) s = .next s) ∧
  (∀ (t tc : Nat) (item : List Byte) (s : State), s.tunUplink t = true → (s.port (2 + (s.rd (R.BRG_TUN_CFG_KIND t) - 4))).st ≠ .uplinkUp →
    s.tunSend t tc item = s.inc (R.BRG_TUN_CNT_DROP t)) ∧
  (∀ (t : Fin 64) (s : State), s.tunq t = [] → Machine.exec (.tunReplayDue t) s = .next s) ∧
  (∀ (t at_ : Nat) (item : List Byte) (s : State), 2032 < item.length → s.tunnelCopy t at_ item =
    { s with brg := { s.brg with gap := if t ∈ s.brg.gap then s.brg.gap else t :: s.brg.gap } }.inc (R.BRG_TUN_CNT_DROP t)) ∧
  (∀ (t at_ : Nat) (item : List Byte) (s : State), item.length ≤ 2032 → ∃ u : State, s.tunnelCopy t at_ item = u.sendTo bBridge (s.rd (R.BRG_TUN_NODE_NODE t))
    { typ := fTun, tc := s.rd (R.BRG_TUN_CFG_TC t), src := s.node0, op := 1
      arg := s.rd (R.BRG_TUN_CFG_TID t) + s.rd (R.BRG_TUN_SEQ_NEXT t) * 256
      payload := leBytes 12 (timeEnc (s.tdStamp (s.rd (R.BRG_TUN_CFG_TD t)) at_)) ++ leBytes 1 (s.rd (R.BRG_TUN_CFG_TD t)) ++
        leBytes 1 (bnat (decide (t ∈ s.brg.gap)) * 2 + s.rd (R.BRG_TUN_CFG_REPLAY t)) ++ leBytes 2 0 ++ item } ∧
    u.rd (R.BRG_TUN_SEQ_NEXT t) = (s.rd (R.BRG_TUN_SEQ_NEXT t) + 1) % 65536 ∧ t ∉ u.brg.gap ∧ u.pctl = s.pctl ∧ u.sw = s.sw)

/-- The switch core (R361, R363, R367, R368, R369): a cell time moves the cells that its three iterations match
and, after the first of them, the pointers of its inputs and outputs; with nothing queued it moves no cell, and none in DOZE (R502); a frame in motion
goes on, and else the oldest of a match starts, whose first cell joins the tail of its output queue; among requests the highest class is chosen; the oldest held frame is admitted when its
queue has room for it, at input 4 a state delta (the model's choice, log entry 82); a bank that retires takes its frames with it, is shown, and starts the drain, and the drain ends in the VOQ mode; an error in
the scheduler clears its pointers, and one under a reserve frame drops that frame; and an audit reclaims what two audits found lost.
Where a clause rests on the model's reading or choice, it is that of log entries 7, 43 and 82. -/
def Obligations.SwitchCore : Prop :=
  (∀ s : State, s.pwr.asleep = false → s.sw.queue = [] → Answers .switchCellTime s (fun t => t.serveOutputs.settle) fun t => t = s) ∧
  (∀ (m1 m2 m3 : List Rq) (s : State), s.pwr.asleep = false → m1 = s.iteration [] → m2 = s.iteration m1 → m3 = s.iteration (m1 ++ m2) →
    Answers .switchCellTime s (fun t => ((m1 ++ m2 ++ m3).foldl (fun t r => t.moveCell r) t).serveOutputs.settle) fun t =>
      t.sw.queue = s.sw.queue ∧ t.regs = s.regs ∧ t.ring = s.ring ∧
      (∀ o, (∃ r ∈ m1, r.o = o ∧ t.gptr o = (r.i + 1) % 32) ∨ ((∀ r ∈ m1, r.o ≠ o) ∧ t.gptr o = s.gptr o)) ∧
      (∀ i, (∃ r ∈ m1, r.i = i ∧ t.aptr i = (r.o + 1) % 32) ∨ ((∀ r ∈ m1, r.i ≠ i) ∧ t.aptr i = s.aptr i))) ∧
  (∀ s : State, s.pwr.asleep = true → Machine.exec .switchCellTime s = .next s) ∧
  (∀ (r : Rq) (x : QFrame) (a b : List QFrame) (s : State), s.sw.queue = a ++ x :: b → x.inp = r.i → x.out = r.o → x.cls = r.c → x.moved = 0 →
    0 < x.cells → (∀ y ∈ a, ¬ (y.inp = r.i ∧ y.out = r.o ∧ y.cls = r.c ∧ y.moved < y.cells)) → x ∉ a →
    (∀ y ∈ b, ¬ (y.inp = r.i ∧ y.out = r.o ∧ y.cls = r.c ∧ y.moved ≠ 0 ∧ y.moved < y.cells)) →
    (s.moveCell r).sw.queue = a ++ b ++ [{ x with moved := 1 }]) ∧
  (∀ (r : Rq) (x : QFrame) (a b : List QFrame) (s : State), s.sw.queue = a ++ x :: b → x.inp = r.i → x.out = r.o → x.cls = r.c → x.moved ≠ 0 →
    x.moved < x.cells → (∀ y ∈ a, ¬ (y.inp = r.i ∧ y.out = r.o ∧ y.cls = r.c ∧ y.moved ≠ 0 ∧ y.moved < y.cells)) → x ∉ a →
    (s.moveCell r).sw.queue = a ++ { x with moved := x.moved + 1 } :: b) ∧
  (∀ (rs : List Rq) (key : Rq → Nat) (p : Nat) (r : Rq), choose rs key p = some r → r ∈ rs ∧ ∀ q ∈ rs, q.c ≤ r.c) ∧
  (∀ (done : List Rq) (r : Rq) (s : State), r ∈ s.iteration done →
    (∀ d ∈ done, d.i ≠ r.i ∧ d.o ≠ r.o) ∧ ∃ x ∈ s.sw.queue, x.inp = r.i ∧ x.out = r.o ∧ x.cls = r.c ∧ x.moved < x.cells ∧ s.canTake x = true) ∧
  (∀ (i o : Fin 32) (c : Fin 8) (x : QFrame) (s : State), i.val ≠ 4 → (s.sw.held.find? fun x => x.inp = i.val ∧ x.out = o.val ∧ x.cls = c.val) = some x →
    s.admits i o c x.cells = true →
    Answers (.heldFrameAdmit i o c) s (fun t => t.admitFrame i o c x.frame) fun t => t.sw.held = s.sw.held.erase x ∧ t.regs = s.regs ∧
      t.sw.queue = s.sw.queue) ∧
  (∀ (d : Delta) (l : List Delta) (i o : Fin 32) (c : Fin 8) (s : State), i.val = 4 → o.val = bPoints → c.val = 6 → s.twin.inbox = d :: l →
    s.admits i o c (deltaFrame d).cells = true → s.isStandby = true → s.pairIs pReady = true →
    Answers (.heldFrameAdmit i o c) s (fun t => t.deltaIn d) fun t =>
      t.twin.inbox = l ∧ t.sw.held = s.sw.held.erase (deltaFrame d) ∧ t.regs = s.regs) ∧
  (∀ (i o : Fin 32) (c : Fin 8) (s : State), i.val ≠ 4 → (s.sw.held.find? fun x => x.inp = i.val ∧ x.out = o.val ∧ x.cls = c.val) = none →
    Machine.exec (.heldFrameAdmit i o c) s = .next s) ∧
  (∀ (b : Fin 16) (s : State), Answers (.bankRetire b []) s (fun t => (t.raise 15 .U).trimSweeps) fun t =>
    bit (t.rd R.SW_STAT_RETIRED) b = true ∧
    t.rd R.SW_STAT_MODE = (if s.rd R.SW_STAT_MODE = mShared then mDrain else s.rd R.SW_STAT_MODE) ∧ t.sw = s.sw ∧ t.ring = s.ring) ∧
  (∀ s : State, s.rd R.SW_STAT_MODE = mDrain → (∀ x ∈ s.sw.queue, x.voq = true) → Answers .drainComplete s id fun t =>
    t.rd R.SW_STAT_MODE = mVoq ∧ t.sw = s.sw ∧ t.ring = s.ring) ∧
  (∀ s : State, s.rd R.SW_STAT_MODE ≠ mDrain ∨ (∃ x ∈ s.sw.queue, x.voq = false) → Machine.exec .drainComplete s = .next s) ∧
  (∀ s : State, Answers (.schedulerError none) s (fun t => t.raise 16 .U) fun t => (∀ o, t.gptr o = 0 ∧ t.aptr o = 0) ∧
    t.sw.queue = s.sw.queue ∧ t.regs = s.regs) ∧
  (∀ (k : Nat) (x : QFrame) (s : State), s.sw.queue[k]? = some x → x.voq = true →
    Machine.exec (.schedulerError (some k)) s = .next ((s.dropQueued x false).raise 16 .U)) ∧
  (∀ (x : QFrame) (s : State), x.started = false →
    (s.dropQueued x true).sw.queue = s.sw.queue.erase x ∧ (s.dropQueued x false).regs = s.regs ∧ (s.dropQueued x true).ring = s.ring ∧
    (s.dropQueued x true).rd (R.SW_OQ_CNT_REFUSED (8 * x.out + x.cls)) = satAdd 16 (s.rd (R.SW_OQ_CNT_REFUSED (8 * x.out + x.cls))) 1) ∧
  (∀ (lost : List (Nat × Nat)) (s : State), (∀ x ∈ lost, x ∉ s.sw.orphans) → Answers (.bufferAudit lost []) s id fun t =>
    t.sw.orphans = lost.dedup ∧ t.regs = s.regs ∧ t.sw.queue = s.sw.queue) ∧
  (∀ (lost : List (Nat × Nat)) (s : State), (∃ x ∈ lost, x ∈ s.sw.orphans) → Answers (.bufferAudit lost []) s (fun t => t.raise 17 .C) fun t =>
    t.sw.orphans = lost.dedup.filter (fun x => x ∉ s.sw.orphans) ∧ t.sw.queue = s.sw.queue ∧
    t.rd R.SW_AUDIT_RECLAIMED = satAdd 16 (s.rd R.SW_AUDIT_RECLAIMED) (lost.dedup.filter fun x => x ∈ s.sw.orphans).length)

/-- The reflex engine (R374 to R381, R384, R389, R390, R393): a row with no operand in doubt gives its operation's result at the cycle's time (AND,
OR, IN RANGE, a latch, and the clamp of PI), and the highest reason of its operands; a CURVE of no valid table gives a free value and a FAULT (log
entry 67); a FAULT reaches no point; a state machine that no transition
fires stays until its time-out; a synchronised region is the active copy again; a memory error takes out the row or machine that it hits, restarts
a row, or sends a machine back to state 0, and is reported at bit 19.
Where a clause rests on the model's reading or choice, it is that of log entries 7, 67 and 85. -/
def Obligations.ReflexEngine : Prop :=
  (∀ (w : Row) (x : RowSt) (t v : Nat) (s : State), w.op = 6 → w.a.src ≠ 0 → w.b.src ≠ 0 → w.c.src = 0 →
    (s.evalRow w x t v).res = f64Bool ((s.operand w.a).log && (s.operand w.b).log) ∧ (s.evalRow w x t v).ran = true ∧
    (s.evalRow w x t v).lastS = t ∧ (s.evalRow w x t v).reason = worst [(s.operand w.a).reason, (s.operand w.b).reason]) ∧
  (∀ (w : Row) (x : RowSt) (t v : Nat) (s : State), w.op = 7 → w.a.src ≠ 0 → w.b.src ≠ 0 → w.c.src = 0 →
    (s.evalRow w x t v).res = f64Bool ((s.operand w.a).log || (s.operand w.b).log)) ∧
  (∀ (w : Row) (x : RowSt) (t v : Nat) (s : State), w.op = 2 →
    (s.evalRow w x t v).res = f64Bool (f64le w.p0 (s.operand w.a).num && f64le (s.operand w.a).num w.p1)) ∧
  (∀ (w : Row) (x : RowSt) (t v : Nat) (s : State), w.op = 8 → (s.operand w.a).log = false → (s.operand w.b).log = false →
    (s.evalRow w x t v).res = f64Bool x.out ∧ (s.evalRow w x t v).out = x.out) ∧
  (∀ (w : Row) (x : RowSt) (t v : Nat) (s : State), w.op = 10 → x.ran = true → (s.evalRow w x t v).reason ≠ qNone →
    (s.evalRow w x t v).res = x.res ∧ (s.evalRow w x t v).integ = x.integ) ∧
  (∀ (w : Row) (x : RowSt) (t v : Nat) (s : State), w.op = 11 → s.curveAt (w.p0 % 1024) (s.operand w.a).num = none →
    (s.evalRow w x t v).res = v ∧ (s.evalRow w x t v).reason = qFault) ∧
  (∀ (x : RowSt) (n : Nat) (s : State), x.reason = qFault → (s.point n).isOutput = true →
    s.giveResult x n = s.setPoint n { s.point n with rowReason := qFault }) ∧
  (∀ (m t : Nat) (s : State), (s.smState m (s.rd (R.RFX_SM_STATE_STATE m))).trans = [] →
    s.smStep m t = (if (s.smState m (s.rd (R.RFX_SM_STATE_STATE m))).tmo ≠ 0 ∧
        (s.smState m (s.rd (R.RFX_SM_STATE_STATE m))).tmo * 1000 ≤ t - (s.smBegan m).getD t
      then some (s.smState m (s.rd (R.RFX_SM_STATE_STATE m))).tmoNext else none, qNone)) ∧
  (∀ (r : Fin 4) (s : State), s.flag (syncingFld r) = true → Answers (.tableSyncDone r) s id fun t =>
    t.rfx.stg = copyRegion s.rfx.act s.rfx.stg r ∧ t.flag (syncingFld r) = false ∧ t.rfx.act = s.rfx.act ∧ t.rfx.rows = s.rfx.rows) ∧
  (∀ (r : Fin 4) (s : State), s.flag (syncingFld r) = false → Machine.exec (.tableSyncDone r) s = .next s) ∧
  (∀ s : State, Machine.exec (.reflexMemoryError .corrected) s = .next (s.raise 19 .C)) ∧
  (∀ (r : Fin 4096) (s : State), Answers (.reflexMemoryError (.rowState r)) s (fun t => t.raise 19 .U) fun t =>
    t.row r = { ({} : RowSt) with en := (s.row r).en } ∧ (∀ q, q ≠ r.val → t.row q = s.row q) ∧ t.regs = s.regs ∧ t.rfx.act = s.rfx.act) ∧
  (∀ (m : Fin 256) (s : State), Answers (.reflexMemoryError (.machineState m)) s (fun t => t.raise 19 .U) fun t =>
    t.rd (R.RFX_SM_STATE_STATE m) = 0 ∧ t.smBegan m = none ∧ t.rfx.rows = s.rfx.rows) ∧
  (∀ (m : Fin 256) (s : State), Answers (.reflexMemoryError (.machine m)) s (fun t => t.raise 19 .U) fun t =>
    t.rd (R.RFX_SM_STATE_VALID m) = 0 ∧ (1, m.val) ∈ t.rfx.bad ∧ t.rfx.rows = s.rfx.rows) ∧
  (∀ (r : Fin 4096) (s : State), Answers (.reflexMemoryError (.row r)) s
    (fun t => (t.raise 19 .U).wr R.RFX_STAT_ROWS (t.raise 19 .U).loaded.length) fun t =>
      (0, r.val) ∈ t.rfx.bad ∧ (t.row r).en = false ∧ t.regs = s.regs ∧ ∀ q, q ≠ r.val → t.row q = s.row q)

/-- The instructions of a Briar channel (R314 to R322, Table 11-3): what each opcode does to the channel that fetches it, when it stalls, that a DELAY
uses up the channel's slots first, that a command of another opcode than the one fetched changes nothing, that an undefined word halts the
channel and is reported, and that a start that waited for a slot takes place with the first one (R306).
Where a clause rests on the model's reading or choice, it is that of log entries 7 and 73. -/
def Obligations.BriarInstructions : Prop :=
  (∀ (e c lv : Fin 16) (w : Nat) (s : State), s.fetches e c 0 w → bits w 14 4 = 0 →
    Machine.exec (.briarJmp e c lv) s = .next (s.insnDone s e c w { s.sided e c w with pc := bits w 0 10 } true)) ∧
  (∀ (e c lv : Fin 16) (w : Nat) (s : State), s.fetches e c 0 w → bits w 14 4 = 1 → bit w 13 = false → (s.chan e c).x = 0 →
    Machine.exec (.briarJmp e c lv) s = .next (s.insnDone s e c w { s.sided e c w with pc := bits w 0 10 } true)) ∧
  (∀ (e c lv : Fin 16) (w : Nat) (s : State), s.fetches e c 0 w → bits w 14 4 = 1 → bit w 13 = false → (s.chan e c).x ≠ 0 →
    Machine.exec (.briarJmp e c lv) s = .next (s.insnDone s e c w (s.sided e c w))) ∧
  (∀ (e c lv : Fin 16) (w : Nat) (s : State), s.fetches e c 0 w → bits w 14 4 = 3 → bit w 13 = false → 1 < (s.chan e c).x → (s.chan e c).x < 2 ^ 32 →
    Machine.exec (.briarJmp e c lv) s = .next (s.insnDone s e c w { s.sided e c w with x := (s.chan e c).x - 1, pc := bits w 0 10 } true)) ∧
  (∀ (e c lv : Fin 16) (w : Nat) (s : State), s.fetches e c 0 w → bits w 14 4 = 6 → s.pinRead (s.chanPort e c) lv (bits w 11 2) = true →
    Machine.exec (.briarJmp e c lv) s = .next (s.insnDone s e c w { s.sided e c w with pc := bits w 0 10 } true)) ∧
  (∀ (e c lv : Fin 16) (w : Nat) (s : State), s.fetches e c 0 w → bits w 14 4 = 6 → s.pinRead (s.chanPort e c) lv (bits w 11 2) = false →
    Machine.exec (.briarJmp e c lv) s = .next (s.insnDone s e c w (s.sided e c w))) ∧
  (∀ (e c lv : Fin 16) (w : Nat) (s : State), s.fetches e c 1 w → bits w 15 2 = 0 → s.pinRead (s.chanPort e c) lv (bits w 12 3) ≠ bit w 17 →
    Machine.exec (.briarWait e c lv) s = .next (s.insnStalls e c w (s.sided e c w))) ∧
  (∀ (e c lv : Fin 16) (w : Nat) (s : State), s.fetches e c 1 w → bits w 15 2 = 0 → s.pinRead (s.chanPort e c) lv (bits w 12 3) = bit w 17 →
    Machine.exec (.briarWait e c lv) s = .next (s.insnDone s e c w (s.sided e c w))) ∧
  (∀ (e c lv : Fin 16) (w : Nat) (s : State), s.fetches e c 1 w → bits w 15 2 = 1 → bit w 17 = true → bit (s.chan e c).flags (bits w 12 3) = true →
    bit w 11 = true →
    Machine.exec (.briarWait e c lv) s = .next (s.insnDone s e c w { s.sided e c w with flags := setBits (s.chan e c).flags (bits w 12 3) 1 0 })) ∧
  (∀ (e c lv : Fin 16) (w : Nat) (s : State), s.fetches e c 1 w → bits w 15 2 = 2 →
    Machine.exec (.briarWait e c lv) s = .next (s.insnStalls e c w { s.sided e c w with irq := false })) ∧
  (∀ (e c lv : Fin 16) (w : Nat) (s : State), s.fetches e c 2 w → bits w 15 3 = 1 → s.flag (R.ENG_CH_CFG_IN_DIR e c) = false →
    s.flag (R.ENG_CH_CFG_AUTOPUSH e c) = false →
    Machine.exec (.briarIn e c lv) s = .next (s.insnDone s e c w
      { s.sided e c w with isr := ((s.chan e c).isr * 2 ^ countOf (bits w 0 5) + (s.chan e c).x % 2 ^ countOf (bits w 0 5)) % 2 ^ 32
                           isrCnt := min 32 ((s.chan e c).isrCnt + countOf (bits w 0 5)) })) ∧
  (∀ (e c lv : Fin 16) (w : Nat) (s : State), s.fetches e c 2 w → bits w 15 3 = 6 → s.flag (R.ENG_CH_CFG_IN_DIR e c) = true →
    s.flag (R.ENG_CH_CFG_AUTOPUSH e c) = false →
    Machine.exec (.briarIn e c lv) s = .next (s.insnDone s e c w
      { s.sided e c w with isr := (s.chan e c).isr / 2 ^ countOf (bits w 0 5) +
                                    nsCount (s.tdNow (bits w 12 3)) % 2 ^ 32 % 2 ^ countOf (bits w 0 5) * 2 ^ (32 - countOf (bits w 0 5))
                           isrCnt := min 32 ((s.chan e c).isrCnt + countOf (bits w 0 5)) })) ∧
  (∀ (e c : Fin 16) (w : Nat) (s : State), s.fetches e c 3 w → bits w 15 3 = 1 → s.flag (R.ENG_CH_CFG_OUT_DIR e c) = true →
    s.flag (R.ENG_CH_CFG_AUTOPULL e c) = false →
    Machine.exec (.briarOut e c) s = .next (s.insnDone s e c w
      { s.sided e c w with x := (s.chan e c).osr % 2 ^ countOf (bits w 0 5), osr := (s.chan e c).osr / 2 ^ countOf (bits w 0 5)
                           osrCnt := min 32 ((s.chan e c).osrCnt + countOf (bits w 0 5)) })) ∧
  (∀ (e c : Fin 16) (w : Nat) (s : State), s.fetches e c 3 w → bits w 15 3 = 5 → s.flag (R.ENG_CH_CFG_OUT_DIR e c) = false →
    s.flag (R.ENG_CH_CFG_AUTOPULL e c) = false →
    Machine.exec (.briarOut e c) s = .next (s.insnDone s e c w
      { s.sided e c w with pc := (s.chan e c).osr / 2 ^ (32 - countOf (bits w 0 5)) % 1024
                           osr := (s.chan e c).osr * 2 ^ countOf (bits w 0 5) % 2 ^ 32
                           osrCnt := min 32 ((s.chan e c).osrCnt + countOf (bits w 0 5)) } true)) ∧
  (∀ (e c : Fin 16) (w : Nat) (s : State), s.fetches e c 4 w → bit w 17 = false → (s.chan e c).rx.length < 32 →
    Machine.exec (.briarPush e c) s = .next (s.insnDone s e c w
      { s.sided e c w with rx := (s.chan e c).rx ++ [((s.chan e c).isr, s.now)], isr := 0, isrCnt := 0 })) ∧
  (∀ (e c : Fin 16) (w : Nat) (s : State), s.fetches e c 4 w → bit w 17 = true → (s.chan e c).isrCnt < s.pushThr e c →
    Machine.exec (.briarPush e c) s = .next (s.insnDone s e c w (s.sided e c w))) ∧
  (∀ (e c : Fin 16) (w : Nat) (s : State), s.fetches e c 4 w → bit w 17 = false → bit w 16 = true → 32 ≤ (s.chan e c).rx.length →
    Machine.exec (.briarPush e c) s = .next (s.insnStalls e c w (s.sided e c w))) ∧
  (∀ (e c : Fin 16) (w : Nat) (s : State), s.fetches e c 4 w → bit w 17 = false → bit w 16 = false → 32 ≤ (s.chan e c).rx.length →
    Machine.exec (.briarPush e c) s = .next (s.insnDone (s.wr (R.ENG_CH_ERR_RX_OVERRUN e c) 1) e c w { s.sided e c w with isr := 0, isrCnt := 0 })) ∧
  (∀ (e c : Fin 16) (w v : Nat) (r : List Nat) (s : State), s.fetches e c 5 w → bit w 17 = false → (s.chan e c).tx = v :: r →
    Machine.exec (.briarPull e c) s = .next (s.insnDone s e c w { s.sided e c w with osr := v, osrCnt := 0, tx := r })) ∧
  (∀ (e c : Fin 16) (w : Nat) (s : State), s.fetches e c 5 w → bit w 17 = false → bit w 16 = true → (s.chan e c).tx = [] →
    Machine.exec (.briarPull e c) s = .next (s.insnStalls e c w (s.sided e c w))) ∧
  (∀ (e c : Fin 16) (w : Nat) (s : State), s.fetches e c 5 w → bit w 17 = false → bit w 16 = false → (s.chan e c).tx = [] →
    Machine.exec (.briarPull e c) s = .next (s.insnDone (s.wr (R.ENG_CH_ERR_TX_UNDERRUN e c) 1) e c w
      { s.sided e c w with osr := s.rd (R.ENG_CH_IDLE_IDLE e c), osrCnt := 0 })) ∧
  (∀ (e c lv : Fin 16) (w : Nat) (s : State), s.fetches e c 6 w → bits w 15 3 = 1 → bits w 13 2 = 1 → bits w 10 3 = 2 →
    Machine.exec (.briarMov e c lv) s = .next (s.insnDone s e c w { s.sided e c w with x := 2 ^ 32 - 1 - (s.chan e c).y })) ∧
  (∀ (e c lv : Fin 16) (w : Nat) (s : State), s.fetches e c 6 w → bits w 15 3 = 5 → bits w 13 2 = 0 → bits w 10 3 = 6 →
    Machine.exec (.briarMov e c lv) s = .next (s.insnDone s e c w { s.sided e c w with isr := (s.chan e c).osr, isrCnt := 0 })) ∧
  (∀ (e c : Fin 16) (w : Nat) (s : State), s.fetches e c 7 w → bits w 15 3 = 1 →
    Machine.exec (.briarSet e c) s = .next (s.insnDone s e c w { s.sided e c w with x := bits w 0 15 })) ∧
  (∀ (e c : Fin 16) (w : Nat) (s : State), s.fetches e c 7 w → bits w 15 3 = 0 →
    Machine.exec (.briarSet e c) s = .next (s.insnDone s e c w
      { s.sided e c w with pins := rotWrite (s.sided e c w).pins (s.rd (R.ENG_CH_CFG_PIN_BASE e c)) 4 (bits w 0 15) })) ∧
  (∀ (e c : Fin 16) (w : Nat) (s : State), s.fetches e c 8 w → bits w 16 2 = 1 →
    Machine.exec (.briarIrq e c) s = .next (s.insnDone s e c w { s.sided e c w with flags := setBits (s.chan e c).flags (bits w 12 3) 1 0 })) ∧
  (∀ (e c : Fin 16) (w : Nat) (s : State), s.fetches e c 8 w → bits w 16 2 = 2 → s.flag (R.ENG_EVT_VEC_EN e) = false →
    Machine.exec (.briarIrq e c) s = .next (s.insnDone (s.wrBit (R.ENG_EVT_POSTED e) c true) e c w
      { s.sided e c w with flags := setBits (s.chan e c).flags (bits w 12 3) 1 1 })) ∧
  (∀ (e c : Fin 16) (w : Nat) (s : State), s.fetches e c 9 w → s.flag (R.TD_CFG_EN (bits w 13 3)) = false →
    Machine.exec (.briarTimewait e c) s = .next (s.insnDone (s.wr (R.ENG_CH_ERR_TW_LATE e c) 1) e c w (s.sided e c w))) ∧
  (∀ (e c : Fin 16) (w : Nat) (s : State), s.fetches e c 9 w → s.flag (R.TD_CFG_EN (bits w 13 3)) = true → bits w 16 2 = 2 →
    Machine.exec (.briarTimewait e c) s = .next (s.insnStalls e c w { s.sided e c w with
        target := gridAfter (nsCount (s.tdNow (bits w 13 3))) (s.rd (R.ENG_CH_GRID_PHASE e c)) (s.rd (R.ENG_CH_GRID_PERIOD e c)) })) ∧
  (∀ (e c : Fin 16) (w : Nat) (s : State), s.fetches e c 10 w → bits w 15 2 = 1 → bit w 17 = false →
    Machine.exec (.briarCnt e c) s = .next (s.insnDone s e c w { s.sided e c w with x := ((s.chan e c).x + (s.chan e c).y) % 2 ^ 32 })) ∧
  (∀ (e c : Fin 16) (w : Nat) (s : State), s.fetches e c 10 w → bits w 15 2 = 0 → bit w 17 = true →
    Machine.exec (.briarCnt e c) s = .next (s.insnDone s e c w
      { s.sided e c w with y := ((s.chan e c).y + toBits 32 (sext 15 (bits w 0 15))) % 2 ^ 32 })) ∧
  (∀ (e c : Fin 16) (w : Nat) (s : State), s.fetches e c 11 w → Machine.exec (.briarNop e c) s = .next (s.insnDone s e c w (s.sided e c w))) ∧
  (∀ (e c lv : Fin 16) (s : State), (s.chan e c).st = chRun → s.slots e c ≠ 0 → s.flag R.PWR_STAT_ON_OSC = false → (s.chan e c).delay ≠ 0 →
    (16 * e.val + c.val) ∉ s.eng.asked →
    Machine.exec (.briarJmp e c lv) s = .next (s.putChan e c { s.chan e c with delay := (s.chan e c).delay - 1 }) ∧
    Machine.exec (.briarNop e c) s = .next (s.putChan e c { s.chan e c with delay := (s.chan e c).delay - 1 })) ∧
  (∀ (e c lv : Fin 16) (op w : Nat) (s : State), s.fetches e c op w →
    (op ≠ 0 → Machine.exec (.briarJmp e c lv) s = .next s) ∧ (op ≠ 9 → Machine.exec (.briarTimewait e c) s = .next s) ∧
    (op ≠ 11 → Machine.exec (.briarNop e c) s = .next s)) ∧
  (∀ (e c : Fin 16) (w pc : Nat) (r : BRes) (s : State), r.s = s → r.jumped = false → pc ≠ s.rd (R.ENG_CH_PROG_WRAP_TOP e c r.x.bank) →
    (s.finishInsn e c w pc r).chan e c = { r.x with st := chRun, delay := delayOf w, pc := (pc + 1) % 1024 }) ∧
  (∀ (e c : Fin 16) (w pc : Nat) (r : BRes) (s : State), r.s = s → r.jumped = false → pc = s.rd (R.ENG_CH_PROG_WRAP_TOP e c r.x.bank) →
    r.x.pend = false → (s.finishInsn e c w pc r).chan e c =
      { r.x with st := chRun, delay := delayOf w, pc := s.rd (R.ENG_CH_PROG_WRAP_BOT e c r.x.bank) }) ∧
  (∀ (e c : Fin 16) (s : State), (s.chan e c).st = chRun → s.slots e c ≠ 0 → s.flag R.PWR_STAT_ON_OSC = false → (s.chan e c).delay = 0 →
    (16 * e.val + c.val) ∉ s.eng.asked → badInsn (s.progWord e (s.chan e c).bank (s.chan e c).pc) = true →
    Answers (.briarNop e c) s (fun t => t.raise (21 + e) .U) fun t => (t.chan e c).st = chHalted ∧ t.flag (R.ENG_CH_ERR_BAD_INSN e c) = true) ∧
  (∀ (e c : Fin 16) (lv : Fin 16) (s : State), (s.chan e c).st ≠ chRun → (16 * e.val + c.val) ∉ s.eng.asked →
    Machine.exec (.briarNop e c) s = .next s ∧ Machine.exec (.briarMov e c lv) s = .next s ∧ Machine.exec (.briarPush e c) s = .next s) ∧
  (∀ (e c : Fin 16) (s : State), (16 * e.val + c.val) ∈ s.eng.asked → s.flag (R.ENG_CH_CFG_EN e c) = true → s.slots e c ≠ 0 →
    Machine.exec (.briarNop e c) s = Machine.exec (.briarNop e c) (s.startChan e c))

/-- Stalls, starts, halts and swaps of the Briar channels (R308, R315, R326 to R328): a stalled PUSH goes on when its FIFO has room, and a stalled
TIMEWAIT at its target; STOP halts a
channel and cancels its stall; RESTART starts it from the values of Table 11-1, once it has a slot (log entry 34); a timed start waits for T, or starts late; a channel that is still
pending at the swap deadline is moved with its shift cleared; and an ECC error halts the channel that it hits.
Where a clause rests on the model's reading or choice, it is that of log entries 7, 34 and 73. -/
def Obligations.BriarChannels : Prop :=
  (∀ (e c lv : Fin 16) (s : State), (s.chan e c).st = chStalled → s.slots e c ≠ 0 → opcodeOf (s.chan e c).insn = 4 →
    bit (s.chan e c).insn 17 = false → (s.chan e c).rx.length < 32 →
    Machine.exec (.channelStallResume e c lv) s = .next (s.finishInsn e c (s.chan e c).insn (s.chan e c).pc
      ⟨s, { s.chan e c with rx := (s.chan e c).rx ++ [((s.chan e c).isr, s.now)], isr := 0, isrCnt := 0, insn := 0 }, false, false⟩)) ∧
  (∀ (e c lv : Fin 16) (s : State), (s.chan e c).st = chStalled → s.slots e c ≠ 0 → opcodeOf (s.chan e c).insn = 4 →
    bit (s.chan e c).insn 17 = false → bit (s.chan e c).insn 16 = true → 32 ≤ (s.chan e c).rx.length →
    Machine.exec (.channelStallResume e c lv) s = .next (s.putChan e c (s.chan e c))) ∧
  (∀ (e c lv : Fin 16) (s : State), (s.chan e c).st = chStalled → s.slots e c ≠ 0 → opcodeOf (s.chan e c).insn = 9 →
    (s.flag (R.TD_CFG_EN (bits (s.chan e c).insn 13 3)) = true → (s.chan e c).target ≤ nsCount (s.tdNow (bits (s.chan e c).insn 13 3)) →
      Machine.exec (.channelStallResume e c lv) s = .next (s.finishInsn e c (s.chan e c).insn (s.chan e c).pc
        ⟨s, { s.chan e c with insn := 0 }, false, false⟩)) ∧
    (s.flag (R.TD_CFG_EN (bits (s.chan e c).insn 13 3)) = true → nsCount (s.tdNow (bits (s.chan e c).insn 13 3)) < (s.chan e c).target →
      Machine.exec (.channelStallResume e c lv) s = .next (s.putChan e c (s.chan e c))) ∧
    (s.flag (R.TD_CFG_EN (bits (s.chan e c).insn 13 3)) = false → Answers (.channelStallResume e c lv) s
      (fun t => s.finishInsn e c (s.chan e c).insn (s.chan e c).pc ⟨t, { s.chan e c with insn := 0 }, false, false⟩) fun t =>
        t.flag (R.ENG_CH_ERR_TW_LATE e c) = true ∧ t.eng = s.eng)) ∧
  (∀ (e c lv : Fin 16) (s : State), (s.chan e c).st ≠ chStalled ∨ s.slots e c = 0 → Machine.exec (.channelStallResume e c lv) s = .next s) ∧
  (∀ (e c : Fin 16) (s : State), (s.chan e c).st ≠ chHalted → Answers (.engStop e (BitVec.ofNat 16 (2 ^ c.val))) s id fun t =>
    (t.chan e c).st = chHalted ∧ (t.chan e c).delay = 0 ∧ (t.chan e c).insn = 0 ∧ (t.chan e c).pc = (s.chan e c).pc ∧
    (∀ d : Fin 16, d ≠ c → t.chan e d = s.chan e d) ∧ t.hif = s.hif ∧ t.sw = s.sw) ∧
  (∀ (e c : Fin 16) (s : State), s.flag (R.ENG_CH_CFG_EN e c) = true → s.slots e c ≠ 0 → s.flag (R.ENG_STAT_SWAP_PENDING e) = false →
    Answers (.engRestart e (BitVec.ofNat 16 (2 ^ c.val))) s id fun t => (t.chan e c).st = chRun ∧
      (t.chan e c).pc = s.entry e c (s.rd (R.ENG_STAT_ACTIVE_BANK e)) ∧ (t.chan e c).x = 0 ∧ (t.chan e c).y = 0 ∧ (t.chan e c).osrCnt = 32 ∧
      (t.chan e c).pins = s.rd (R.ENG_CH_PINS_PINS_INIT e c) ∧ (∀ d : Fin 16, d ≠ c → t.chan e d = s.chan e d)) ∧
  (∀ (e c : Fin 16) (s : State), s.flag (R.ENG_CH_CFG_EN e c) = true → s.slots e c = 0 →
    Machine.exec (.engRestart e (BitVec.ofNat 16 (2 ^ c.val))) s = .next (s.askStart e c true)) ∧
  (∀ (e c : Fin 16) (s : State), s.flag (R.ENG_CH_CFG_EN e c) = false →
    Machine.exec (.engRestart e (BitVec.ofNat 16 (2 ^ c.val))) s = .next s) ∧
  (∀ (e c : Fin 16) (v : BitVec 64) (s : State), s.rd (R.ENG_START_CFG_MASK e) = 2 ^ c.val → (s.chan e c).st = chHalted →
    s.flag (R.ENG_CH_CFG_EN e c) = true → (∀ d : Fin 16, (s.chan e d).st ≠ chWaitStart) →
    nsCount (s.tdNow (s.rd (R.ENG_START_CFG_TD e))) ≤ v.toNat →
    Machine.exec (.engStartTWrite e v) s =
      .next (s.setChan e c { s.chan e c with st := chWaitStart, startT := v.toNat, startTd := s.rd (R.ENG_START_CFG_TD e) })) ∧
  (∀ (e c : Fin 16) (s : State), (s.chan e c).st = chWaitStart → (s.chan e c).startT ≤ nsCount (s.tdNow (s.chan e c).startTd) →
    (∀ d : Fin 16, d ≠ c → (s.chan e d).st ≠ chWaitStart) → Machine.exec (.channelTimedStart e) s = .next (s.startChan e c)) ∧
  (∀ (e : Fin 16) (s : State), (∀ c : Fin 16, (s.chan e c).st = chWaitStart → nsCount (s.tdNow (s.chan e c).startTd) < (s.chan e c).startT) →
    Machine.exec (.channelTimedStart e) s = .next s) ∧
  (∀ (e c : Fin 16) (s : State), (s.chan e c).pend = true → (s.chan e c).st = chRun →
    Answers (.swapDeadline e c) s (fun t => t.swapDone e) fun t => (t.chan e c).pend = false ∧ (t.chan e c).bank = 1 - (s.chan e c).bank ∧
      (t.chan e c).pc = s.entry e c (1 - (s.chan e c).bank) ∧ (t.chan e c).isr = 0 ∧ (t.chan e c).osrCnt = 32 ∧
      t.flag (R.ENG_CH_ERR_ABORTED_SHIFT e c) = true) ∧
  (∀ (e c : Fin 16) (s : State), (s.chan e c).pend = false → Machine.exec (.swapDeadline e c) s = .next s) ∧
  (∀ (e c : Fin 16) (s : State), Machine.exec (.fifoEccError e c .corrected) s = .next (s.raise (21 + e) .C)) ∧
  (∀ (e c : Fin 16) (x : BriarError) (s : State), x = .fifo ∨ (x = .program ∧ chanLive (s.chan e c) = true) →
    Answers (.fifoEccError e c x) s (fun t => t.raise (21 + e) .U) fun t => (t.chan e c).st = chHalted ∧ (t.chan e c).delay = 0 ∧
      t.flag (R.ENG_CH_ERR_ECC e c) = true ∧ t.rd (R.ENG_CH_ERR_BAD_PC e c) = (s.chan e c).pc % 1024 ∧
      ∀ d : Fin 16, d ≠ c → t.chan e d = s.chan e d) ∧
  (∀ (e c : Fin 16) (s : State), chanLive (s.chan e c) = false → Machine.exec (.fifoEccError e c .program) s = .next s)

/-- A twin pair (R397, R398, R400 to R410, R412, R465): with equal digests the hub that is active, or the first hub where neither is, is the active
and starts a resynchronisation, and the other the standby, which drives and holds nothing of the active's; unequal digests show MISMATCH; a lane that does not come UP
makes the first hub active alone, and the second one only after the announces of its peer have stopped; the delta of a freeze holds what has changed, and waits while another is sent; a late delta makes the pair LAGGING, and one
in time ends that; a delta that the buffer has no room for is held at input 4 (log entry 82); a record carries VALUE, TIMESTAMP and QUALITY; a takeover needs its trigger's state, for a lost lane the port toward the twin DOWN too (log entry 35), counts, and shows DEGRADED where it does not continue from a READY pair; a hub that hands
over becomes the standby, in the safe state where it gave up its role itself; and a test pulse ends with its result.
Where a clause rests on the model's reading or choice, it is that of log entries 7, 35, 72, 82 and 88. -/
def Obligations.TwinPair : Prop :=
  (∀ (d : BitVec 384) (pa : Bool) (s : State), s.flag R.TWIN_CFG_EN = true → s.ready = true → s.isUp 4 = true → d.toNat = s.ownDigest →
    s.active = true ∨ (pa = false ∧ s.firstHub = true) → Answers (.twinForm d pa) s State.joinRings fun t =>
      t.emitted = s.emitted ++ [.twin "digest" (leBytes 48 s.ownDigest)] ∧ t.active = true ∧ t.pairIs pSyncing = true ∧ t.twin.resync = true ∧ t.twin.out = 0 ∧ t.twin.waitPeer = false ∧ t.fld = s.fld) ∧
  (∀ (d : BitVec 384) (pa : Bool) (s : State), s.flag R.TWIN_CFG_EN = true → s.ready = true → s.isUp 4 = true → d.toNat = s.ownDigest →
    s.active = false → pa = true ∨ s.firstHub = false → Answers (.twinForm d pa) s (fun t => (t.becomeStandby pSyncing).joinRings) fun t =>
      t = { s.emit (.twin "digest" (leBytes 48 s.ownDigest)) with twin := { s.twin with waitPeer := false } }) ∧
  (∀ (d : BitVec 384) (pa : Bool) (s : State), s.flag R.TWIN_CFG_EN = true → s.ready = true → s.isUp 4 = true → d.toNat ≠ s.ownDigest →
    s.active = true → Answers (.twinForm d pa) s (fun t => (t.raise 12 .U).joinRings) fun t =>
      t.rd R.TWIN_STAT_ROLE = 0 ∧ t.pairIs pMismatch = true ∧ t.fld = s.fld) ∧
  (∀ (p : Nat) (s : State), p < 8 → (s.becomeStandby p).isStandby = true ∧ (s.becomeStandby p).pairIs p = true ∧
    (s.becomeStandby p).pts.subs = [] ∧ (s.becomeStandby p).brg.locks = [] ∧ (∀ t, s.rd (R.BRG_TUN_CFG_KIND t) < 4 → (s.becomeStandby p).tunq t = []) ∧
    (s.becomeStandby p).td.edges = [] ∧ (s.becomeStandby p).pctl.rx = [] ∧ (s.becomeStandby p).twin.pulse = none ∧
    (s.becomeStandby p).flag R.TWIN_PULSE_STAT_BUSY = false) ∧
  (∀ s : State, s.flag R.TWIN_CFG_EN = true → s.ready = true → s.isUp 4 = false → s.rd R.TWIN_STAT_ROLE = 0 → s.pairIs pForming = true →
    (s.firstHub = true → Machine.exec .formTimeout s = .next (s.setRole 1 pForming).joinRings) ∧
    (s.firstHub = false → Answers .formTimeout s (fun t => ({ t with twin := { t.twin with waitPeer := true } }).joinRings) fun t =>
      t = s.becomeStandby pDetached)) ∧
  (∀ s : State, s.twin.waitPeer = true → s.isStandby = true → s.isUp 4 = false → s.inSafe = false → Answers .peerAnnounceAbsence s id fun t =>
    t.active = true ∧ t.pairIs pForming = true ∧ t.twin.waitPeer = false ∧ t.fld = s.fld ∧ t.brg = s.brg) ∧
  (∀ s : State, s.inSafe = true ∨ s.isUp 4 = true ∨ s.twin.waitPeer = false → Machine.exec .peerAnnounceAbsence s = .next s) ∧
  (∀ s : State, s.active = true → s.twin.out = 2 → s.twin.lateNow = false → Answers .deltaWindowExpiry s id fun t =>
    t.twin.lateNow = true ∧ t.flag R.TWIN_STAT_LAGGING = true ∧ t.rd R.TWIN_CNT_LAGGED = satAdd 16 (s.rd R.TWIN_CNT_LAGGED) 1 ∧ t.pts = s.pts) ∧
  (∀ s : State, s.active = false → s.isStandby = false → Machine.exec .deltaWindowExpiry s = .next s) ∧
  (∀ s : State, s.deltaInTime.flag R.TWIN_STAT_LAGGING = false ∧ (s.pairIs pSyncing = true → s.deltaInTime.pairIs pReady = true ∧
    s.deltaInTime.flag R.TWIN_STAT_DEGRADED = false) ∧ (s.pairIs pSyncing = false → s.deltaInTime.rd R.TWIN_STAT_PAIR = s.rd R.TWIN_STAT_PAIR)) ∧
  (∀ s : State, s.active = true → s.pairIs pReady = true → Answers .resync s id fun t =>
    t.twin.resync = true ∧ t.pairIs pSyncing = true ∧ t.pts = s.pts ∧ t.fld = s.fld) ∧
  (∀ s : State, s.active = false → Machine.exec .resync s = .next s ∧ Machine.exec .switchover s = .next s ∧
    Machine.exec .relinquishConfirm s = .next s) ∧
  (∀ (d : Delta) (s : State), s.isStandby = true → s.isUp 4 = true → s.pairIs pReady = true ∨ s.pairIs pSyncing = true →
    s.admits 4 bPoints 6 (deltaFrame d).cells = true → s.twin.inbox = [] → Machine.exec (.deltaReceive d) s = .next (s.deltaIn d)) ∧
  (∀ (d : Delta) (s : State), s.isStandby = true → s.isUp 4 = true → s.pairIs pReady = true ∨ s.pairIs pSyncing = true →
    s.admits 4 bPoints 6 (deltaFrame d).cells = false →
    Answers (.deltaReceive d) s (fun t => (t.inc (R.SW_OQ_CNT_REFUSED (8 * bPoints + 6))).inc (R.SW_IN_CNT_HOLD 4)) fun t =>
      t.twin.inbox = s.twin.inbox ++ [d] ∧ t.sw.held = s.sw.held ++ [deltaFrame d] ∧ t.pts = s.pts ∧ t.regs = s.regs) ∧
  (∀ (k : Nat) (s : State), s.active = true → s.isUp 4 = true → s.pairIs pReady = true → s.twin.out = 0 → s.twin.resync = false →
    (s.sendDelta k).emitted = s.emitted ++ [.delta (s.deltaOf k)] ∧ (s.sendDelta k).twin.out = 2 ∧ (s.sendDelta k).twin.lateNow = false ∧
      (s.sendDelta k).pts = s.pts) ∧
  (∀ (k : Nat) (s : State), s.active = true → s.twin.out ≠ 0 → s.ns < s.twin.endAt →
    s.sendDelta k = { s with twin := { s.twin with due := some (k, false) } }) ∧
  (∀ (x : DeltaPoint) (s : State), ((s.takeDeltaPoint x).point x.n).value = leAt x.record 0 8 ∧
    ((s.takeDeltaPoint x).point x.n).ts = leAt x.record 8 12 ∧ ((s.takeDeltaPoint x).point x.n).quality = leAt x.record 0x14 1 ∧
    (∀ m, m ≠ x.n → (s.takeDeltaPoint x).point m = s.point m) ∧ (s.takeDeltaPoint x).regs = s.regs) ∧
  (∀ (d : Delta) (s : State), s.isStandby = false ∨ s.isUp 4 = false → Machine.exec (.deltaReceive d) s = .next s) ∧
  (∀ (c : TakeCause) (s : State), s.mayTake c = true → Machine.exec (.takeover c) s = .next s.takeOver.settle) ∧
  (∀ (c : TakeCause) (s : State), s.inSafe = true ∨ s.isStandby = false ∨ s.pairIs pMismatch = true → Machine.exec (.takeover c) s = .next s) ∧
  (∀ s : State, (s.pairIs pReady = false ∨ s.flag R.TWIN_STAT_LAGGING = true → s.mayTake .switchover = false) ∧
    (s.isUp 4 = true → s.mayTake .lanesDown = false ∧ s.mayTake .slotMissing = false)) ∧
  (∀ (i : Nat) (s : State), s.isStandby = true → s.inSafe = false → s.pairIs pMismatch = false → s.isUp 4 = false → s.twin.near = [i] →
    s.mayTake .lanesDown = !s.isUp i) ∧
  (∀ s : State, s.takeRole.active = true ∧ s.takeRole.pairIs pForming = true ∧
    s.takeRole.rd R.TWIN_CNT_TAKEOVERS = satAdd 16 (s.rd R.TWIN_CNT_TAKEOVERS) 1 ∧ s.takeRole.brg.locks = [] ∧ s.takeRole.fld = s.fld) ∧
  (∀ s : State, s.pairIs pReady = true → s.takeState.flag R.TWIN_STAT_DEGRADED = s.flag R.TWIN_STAT_LAGGING ∧
    s.takeState.flag R.TWIN_STAT_LAGGING = false ∧ s.takeState.pts = s.pts ∧ s.takeState.rfx = s.rfx ∧ s.takeState.eng = s.eng ∧
    s.takeState.cyc.last = s.cyc.last) ∧
  (∀ s : State, s.active = true → s.pairIs pReady = true → s.flag R.TWIN_STAT_LAGGING = false → s.twin.relinquish = false →
    Answers .switchover s id fun t => t.twin.handover = true ∧ t.emitted = s.emitted ++ [.twin "switchover" []] ∧ t.regs = s.regs) ∧
  (∀ s : State, s.active = true → Answers .relinquishConfirm s
    (fun t => (if s.twin.relinquish then (t.becomeStandby pForming).safeRest else t.becomeStandby pForming).settle) fun t =>
      t.twin.relinquish = false ∧ t.twin.handover = false ∧ t.twin.out = 0 ∧ t.regs = s.regs ∧ t.fld = s.fld) ∧
  (∀ s : State, s.twin.relinquish = true → Answers .relinquishTimeout s (fun t => t.safeRest.settle) fun t =>
    t.twin.relinquish = false ∧ t.regs = s.regs ∧ t.fld = s.fld) ∧
  (∀ s : State, s.twin.relinquish = false → Machine.exec .relinquishTimeout s = .next s) ∧
  (∀ s : State, s.active = true → s.pairIs pReady = true → Answers (.twinSafeNotice true) s id fun t =>
    t.pairIs pDetached = true ∧ t.twin.noticed = true ∧ t.active = true ∧ t.pts = s.pts) ∧
  (∀ s : State, s.active = true → s.twin.noticed = true → Answers (.twinSafeNotice false) s id fun t =>
    t.pairIs pSyncing = true ∧ t.twin.noticed = false ∧ t.twin.resync = true) ∧
  (∀ s : State, s.active = true → s.flag R.TWIN_PULSE_STAT_BUSY = false → Answers (.testPulse none) s id fun t =>
    t.twin.pulseAsked = some (s.rd R.TWIN_PULSE_POINT) ∧ t.flag R.TWIN_PULSE_STAT_BUSY = true ∧
      t.rd R.TWIN_PULSE_STAT_POINT = s.rd R.TWIN_PULSE_STAT_POINT) ∧
  (∀ (n : Fin 65536) (s : State), s.isStandby = true → s.pairIs pReady = true → (s.point n).bindKind = 3 → (s.point n).bindByte 2 < 4 →
    Answers (.testPulse (some n)) s id fun t => t.twin.pulse = some n.val ∧
      t.pin ((s.point n).bindByte 1) ((s.point n).bindByte 2) =
        { s.pin ((s.point n).bindByte 1) ((s.point n).bindByte 2) with
          applied := 1
          driving := s.stageSound ((s.point n).bindByte 1) ((s.point n).bindByte 2) } ∧ t.regs = s.regs) ∧
  (∀ (n : Nat) (pass : Bool) (s : State), s.twin.pulse = some n → s.active = true → Answers (.testPulseEnd pass) s id fun t =>
    t.twin.pulse = none ∧ t.flag R.TWIN_PULSE_STAT_BUSY = false ∧ t.rd R.TWIN_PULSE_STAT_POINT = n % 2 ^ 16 ∧
      t.rd R.TWIN_PULSE_STAT_RESULT = if pass then 1 else 2) ∧
  (∀ (n : Nat) (s : State), s.twin.pulse = some n → s.active = false → Answers (.testPulseEnd false) s (fun t => t.raise 43 .U) fun t =>
    t.twin.pulse = none ∧ (t.pin ((s.point n).bindByte 1) ((s.point n).bindByte 2)).driving = false ∧ t.regs = s.regs) ∧
  (∀ (pass : Bool) (s : State), s.twin.pulse = none → Machine.exec (.testPulseEnd pass) s = .next s)

/-- Link authentication and rekey (R420 to R424, R434): the initiator's HELLO and the responder's answer open an authentication; each message that it
expects moves it on, one whose check fails ends it with REJECT and cause AUTH_FAIL, in UP once the REJECT is sent, and a valid FINISH brings the port UP with EPOCH 0 and FCNT 0; a
REJECT takes the port DOWN; a rekey takes new shares, switches the sending key once the peer's REKEY_FINISH is verified (and, at the responder, its own
is sent), and the third restart takes the port DOWN.
Where a clause rests on the model's reading or choice, it is that of log entries 6, 7, 36 and 74. -/
def Obligations.LinkAuthentication : Prop :=
  (∀ (i : Fin 5) (s : State), s.authOpen i = true → (s.sec_ i).auth = none → s.isInit i = true → s.drbgOk = true →
    Answers (.hello i []) s id fun t => (t.sec_ i).auth = some { want := 2, script := s.shares.2.1, eph := s.sec.drbg } ∧
      t.sec.drbg = s.sec.drbg + 1 ∧ t.ring = s.ring ∧ t.sw = s.sw ∧ t.regs = s.regs) ∧
  (∀ (i : Fin 5) (s : State), s.authOpen i = true → (s.sec_ i).auth = none → s.isInit i = true → s.drbgOk = false →
    Machine.exec (.hello i []) s = .next (s.authFail i 0x09)) ∧
  (∀ (i : Fin 5) (fs : List Frame) (b : List Byte) (s : State), s.authOpen i = true → (s.sec_ i).auth = none → s.isInit i = false → fs ≠ [] →
    (s.authIn i 1 fs).1 = some b → b.length = 1697 → s.drbgOk = true → Answers (.hello i fs) s id fun t =>
      (t.sec_ i).auth.map (·.want) = some 3 ∧ t.ring = s.ring ∧ t.sw = s.sw ∧ t.regs = s.regs) ∧
  (∀ (i : Fin 5) (fs : List Frame) (s : State), s.authOpen i = false ∨ (s.sec_ i).auth.isSome = true → Machine.exec (.hello i fs) s = .next s) ∧
  (∀ (i : Fin 5) (fs : List Frame) (h : Hand) (b : List Byte) (s : State), s.expects i 2 fs = some (h, b) → b.length = 1697 → s.drbgOk = true →
    Machine.exec (.reply i fs) s = .next (s.setAuth i { h with
      want := 3, script := h.script ++ b, prk := Config.hkdfExtract (digest (h.script ++ b)) (secretOf h.eph b) })) ∧
  (∀ (i : Fin 5) (fs : List Frame) (h : Hand) (b : List Byte) (s : State), s.expects i 3 fs = some (h, b) →
    Machine.exec (.cert i fs) s = if Config.chainOk b then .next (s.setAuth i { h with want := 4, script := h.script ++ b, cert := b })
      else .next (s.authFail i 0x01)) ∧
  (∀ (i : Fin 5) (fs : List Frame) (h : Hand) (b : List Byte) (s : State), s.expects i 4 fs = some (h, b) → s.proofReason i h b ≠ 0 →
    Machine.exec (.proof i fs) s = .next (s.authFail i (s.proofReason i h b))) ∧
  (∀ (i : Fin 5) (fs : List Frame) (h : Hand) (b : List Byte) (s : State), s.expects i 4 fs = some (h, b) → s.proofReason i h b = 0 →
    (s.isInit i = false → Machine.exec (.proof i fs) s = .next (s.setAuth i { h with want := 5, script := h.script ++ b })) ∧
    (s.isInit i = true → Answers (.proof i fs) s id fun t => (t.sec_ i).auth.map (·.want) = some 5 ∧ t.ring = s.ring ∧ t.sw = s.sw)) ∧
  (∀ (i : Fin 5) (h : Hand) (b : List Byte) (s : State), s.proofOk i h b = false → s.proofReason i h b = 0x07) ∧
  (∀ (i : Fin 5) (fs : List Frame) (h : Hand) (b : List Byte) (s : State), s.expects i 5 fs = some (h, b) → s.isInit i = true →
    Machine.exec (.finish i fs) s = if b = Config.hmac (finishKey h.prk) (h.script ++ Config.hmac (finishKey h.prk) h.script)
      then .next (s.enterUp i (trafficKeys h.prk h.script true)).settle else .next (s.authFail i 0x08)) ∧
  (∀ (i : Fin 5) (fs : List Frame) (h : Hand) (b : List Byte) (s : State), s.expects i 5 fs = some (h, b) → s.isInit i = false →
    b = Config.hmac (finishKey h.prk) h.script → Answers (.finish i fs) s (fun t => (t.enterUp i (trafficKeys h.prk h.script false)).settle)
      fun t => t.ring = s.ring ∧ t.sw = s.sw ∧ t.regs = s.regs) ∧
  (∀ (i : Nat) (k : Lane) (s : State), s.serves i = false → 4 ≤ i → ((s.enterUp i k).port i).st = .up ∧ ((s.enterUp i k).port i).epoch = false ∧
    ((s.enterUp i k).port i).fcnt = 0 ∧ (s.enterUp i k).sec_ i = k) ∧
  (∀ (i : Fin 5) (r : Nat) (s : State), s.authOpen i = true → ((s.authFail i r).port i).st = .down ∧ ((s.authFail i r).port i).cause = 4) ∧
  (∀ (i r : Nat) (s : State), s.isUp i = true →
    s.authFail i r = (s.setSec i { s.sec_ i with rekey := some { want := wReject } }).sendAuth i 0x0F r []) ∧
  (∀ (i : Nat) (f : Frame) (again : Bool) (s : State), (s.port i).fcnt < 2 ^ 32 → f.typ = fMgmt → f.op = 4 →
    leAt f.payload 0 1 = 0x0F → (s.sec_ i).rekey.any (fun h => h.want = wReject) = true →
    ∃ t : State, s.transmit i f again = t.linkDown i 4 ∧ (t.port i).fcnt = (s.port i).fcnt + 1) ∧
  (∀ (i : Fin 5) (fs : List Frame) (s : State), (s.authIn i 0x0F fs).1.isSome = true → s.authOpen i = true →
    Machine.exec (.reject i fs) s = .next (s.bringupFail i 4)) ∧
  (∀ (i : Fin 5) (fs : List Frame) (b : List Byte) (t s : State), s.authIn i 0x0F fs = (some b, t) → t.isUp i = true →
    Machine.exec (.reject i fs) s = .next (t.linkDown i 4).settle) ∧
  (∀ (i : Fin 5) (s : State), s.authOpen i = true → (s.sec_ i).auth.isSome = true →
    Machine.exec (.authStepTimeout i) s = .next (s.authFail i 0x0A)) ∧
  (∀ (i : Fin 5) (s : State), s.authOpen i = false ∨ (s.sec_ i).auth = none → Machine.exec (.authStepTimeout i) s = .next s) ∧
  (∀ (i : Fin 5) (s : State), s.isUp i = true → (s.sec_ i).rekey = none → s.isInit i = true →
    Machine.exec (.rekeyTimer i) s = .next (s.startRekey i)) ∧
  (∀ (i : Fin 5) (s : State), s.isUp i = true → (s.sec_ i).rekey = none → s.isInit i = false →
    Machine.exec (.rekeyTimer i) s = if 0xC0000000 ≤ (s.port i).fcnt then .next (s.sendAuth i 9 0 []) else .next s) ∧
  (∀ (i : Nat) (s : State), s.drbgOk = true → ((s.startRekey i).sec_ i).rekey = some { want := 7, script := s.shares.2.1, eph := s.sec.drbg } ∧
    (s.startRekey i).sec.drbg = s.sec.drbg + 1) ∧
  (∀ (i : Fin 5) (fs : List Frame) (b : List Byte) (t s : State), s.authIn i 9 fs = (some b, t) → t.isUp i = true → t.isInit i = true →
    (t.sec_ i).rekey = none → Machine.exec (.rekeyReq i fs) s = .next (t.startRekey i)) ∧
  (∀ (i : Fin 5) (fs : List Frame) (b : List Byte) (t s : State), s.authIn i 6 fs = (some b, t) → t.isUp i = true → t.isInit i = false →
    b.length = 1697 → t.drbgOk = true → (t.sec_ i).rekey.any (fun h => h.want = wReject) = false → Answers (.rekey i fs) s id fun u => (u.sec_ i).rekey =
      some { want := 8, script := b ++ (t.answer b).1, prk := Config.hkdfExtract (t.sec_ i).next (t.answer b).2.1 }) ∧
  (∀ (i : Fin 5) (fs : List Frame) (h : Hand) (b : List Byte) (t s : State), s.expectsRekey i 7 fs = some (h, b) → (s.authIn i 7 fs).2 = t →
    b.length = 1697 → t.drbgOk = true → Answers (.rekeyReply i fs) s id fun u => (u.sec_ i).rekey = some { h with
      want := 8, script := h.script ++ b, prk := Config.hkdfExtract (t.sec_ i).next (secretOf h.eph b) }) ∧
  (∀ (i : Fin 5) (fs : List Frame) (h : Hand) (b : List Byte) (t s : State), s.expectsRekey i 8 fs = some (h, b) → (s.authIn i 8 fs).2 = t →
    t.isInit i = true → Machine.exec (.rekeyFinish i fs) s =
      if b = Config.hmac (finishKey h.prk) (h.script ++ Config.hmac (finishKey h.prk) h.script)
      then .next (t.switchKeys i (trafficKeys h.prk h.script true)) else .next (t.authFail i 0x08).settle) ∧
  (∀ (i : Fin 5) (fs : List Frame) (h : Hand) (t s : State), s.expectsRekey i 8 fs = some (h, Config.hmac (finishKey h.prk) h.script) →
    (s.authIn i 8 fs).2 = t → t.isInit i = false → Machine.exec (.rekeyFinish i fs) s = .next ((t.setRekey i { h with want := wSend }).sendAuth i 8 0
      (Config.hmac (finishKey h.prk) (h.script ++ Config.hmac (finishKey h.prk) h.script)))) ∧
  (∀ (i : Nat) (k : Lane) (s : State), ((s.switchKeys i k).port i).epoch = !(s.port i).epoch ∧ ((s.switchKeys i k).port i).fcnt = 0 ∧
    ((s.switchKeys i k).port i).prevKey = true ∧ (s.switchKeys i k).sec_ i = { k with oldKey := (s.sec_ i).rxKey } ∧ ∀ j, j ≠ i → (s.switchKeys i k).port j = s.port j) ∧
  (∀ (i : Fin 5) (s : State), s.isUp i = true → (s.sec_ i).rekey.any (fun h => h.want = 7 ∨ h.want = 8) = true → (s.sec_ i).restarts = 2 →
    Machine.exec (.rekeyStepTimeout i) s = .next (s.linkDown i 4).settle) ∧
  (∀ (i : Fin 5) (s : State), s.isUp i = true → (s.sec_ i).rekey.any (fun h => h.want = 7 ∨ h.want = 8) = true → (s.sec_ i).restarts ≠ 2 →
    Answers (.rekeyStepTimeout i) s (fun t => if s.isInit i then t.startRekey i else t) fun t =>
      (t.sec_ i).rekey = none ∧ (t.sec_ i).restarts = (s.sec_ i).restarts + 1 ∧ t.ring = s.ring ∧ t.regs = s.regs)

/-- The security unit (R418, R427, R429 to R435): SPDM answers, and over a session of PF0 an IDE stream becomes secure or is lost; a challenge is 48 bytes of the DRBG, spent by whatever token follows; a token that a
check refuses shows its reason, and one that passes acts; a certificate, an attestation and random bytes are read from the mailbox; the debug commands
need DEBUG; a tamper erases the keys and sets the latch with its source; and entropy that fails ends what needs it.
Where a clause rests on the model's reading or choice, it is that of log entries 1, 6, 7, 37, 38 and 72. -/
def Obligations.SecurityUnit : Prop :=
  (∀ (t : Fin 16) (b : List Byte) (s : State), s.answers t = true → Answers (.spdmRequest t b .none) s State.settle fun u =>
    u.emitted = s.emitted ++ [.reply "SPDM" (Config.spdmAnswer s.sec.drbg b)] ∧ u.sec.drbg = s.sec.drbg + 1 ∧ u.sec.sessions = s.sec.sessions ∧
    u.regs = s.regs) ∧
  (∀ (t : Fin 16) (b : List Byte) (e : SpdmEffect) (s : State), s.answers t = false → Machine.exec (.spdmRequest t b e) s = .next s) ∧
  (∀ (u : Fin 17) (b : List Byte) (secure : Bool) (s : State), s.answers 0 = true → (∃ x ∈ s.sec.sessions, x.slot = 0) →
    Answers (.spdmRequest 0 b (.ide u secure)) s State.settle fun t => (u.val ∈ t.hif.ideSecure ↔ secure = true) ∧
      (secure = true → u.val ∉ t.hif.ideLost) ∧ (secure = false → u.val ∈ s.hif.ideSecure → u.val ∈ t.hif.ideLost) ∧
      (∀ k, k ≠ u.val → (k ∈ t.hif.ideSecure ↔ k ∈ s.hif.ideSecure) ∧ (k ∈ t.hif.ideLost ↔ k ∈ s.hif.ideLost))) ∧
  (∀ (t : Fin 16) (s : State), s.flag (R.SEC_TEN_TKEY_REQ t) = false → Answers (.spdmSessionEnd t) s State.settle fun u =>
    (∀ x ∈ u.sec.sessions, x.slot ≠ t.val) ∧ u.flag (R.SEC_TEN_PROVEN t) = false ∧ u.hif = s.hif) ∧
  (∀ s : State, s.mbxOpen = true → s.drbgOk = true → Answers .getChallenge s id fun u => u.sec.challenge = some (s.random 48).1 ∧
    u.rd R.SEC_MBX_STAT_STATE = 2 ∧ u.rd R.SEC_MBX_STAT_RESULT = 0 ∧ u.rd R.SEC_MBX_STAT_LEN = 48 ∧ u.sec.vault = s.sec.vault) ∧
  (∀ s : State, s.mbxOpen = true → s.drbgOk = false → Answers .getChallenge s id fun u => u.sec.challenge = s.sec.challenge ∧
    u.rd R.SEC_MBX_STAT_STATE = 3 ∧ u.rd R.SEC_MBX_STAT_RESULT = 0x06 ∧ u.rd R.SEC_MBX_STAT_LEN = 0) ∧
  (∀ s : State, Answers .challengeExpiry s id fun u => u.sec.challenge = none ∧ u.regs = s.regs ∧ u.sec.vault = s.sec.vault ∧ u.hif = s.hif) ∧
  (∀ (n : Fin 16385) (s : State), s.mbxOpen = false → Machine.exec .getChallenge s = .next s ∧ Machine.exec (.getCert n) s = .next s ∧
    Machine.exec (.attest n) s = .next s ∧ Machine.exec (.random n) s = .next s ∧ Machine.exec (.dbgRead n) s = .next s ∧
    Machine.exec (.dbgWrite n) s = .next s ∧ Machine.exec (.submitToken n) s = .next s.settle) ∧
  (∀ (n : Fin 16385) (s : State), s.mbxOpen = true → s.tokenResult n ≠ 0 → Answers (.submitToken n) s State.settle fun u =>
    u.sec.challenge = none ∧ u.rd R.SEC_MBX_STAT_STATE = 3 ∧ u.rd R.SEC_MBX_STAT_RESULT = s.tokenResult n ∧ u.sec.vault = s.sec.vault) ∧
  (∀ (n : Fin 16385) (s : State), s.mbxOpen = true → s.tokenResult n = 0 → leNat (s.mbxIn 0 1) = 1 → Answers (.submitToken n) s State.settle fun u =>
    u.sec.challenge = none ∧ u.rd R.SEC_MBX_STAT_STATE = 2 ∧ u.sec.vault = { s.sec.vault with lock := true } ∧
    u.flag R.SEC_STAT_OWNER_LOCK = true) ∧
  (∀ (n : Fin 16385) (s : State), s.mbxOpen = true → s.tokenResult n = 0 → leNat (s.mbxIn 0 1) = 5 → Answers (.submitToken n) s State.settle fun u =>
    u.sec.challenge = none ∧ u.sec.vault = { s.sec.vault with latch := false, tamperSrc := 0, tamperTime := 0 } ∧
    u.flag R.SEC_STAT_TAMPER = false) ∧
  (∀ (n : Nat) (s : State), s.sec.challenge ≠ some (s.mbxIn 0x18 48) ∨ leNat (s.mbxIn 8 16) ≠ Config.partSerial.toNat → s.tokenResult n ≠ 0) ∧
  (∀ (n : Fin 16385) (s : State), s.mbxOpen = true → n.val ≠ 0 → leNat (s.mbxIn 0 1) ≤ 1 → (s.chain (leNat (s.mbxIn 0 1))).length < 2 ^ 15 →
    Answers (.getCert n) s id fun u => u.rd R.SEC_MBX_STAT_STATE = 2 ∧
      u.rd R.SEC_MBX_STAT_LEN = (s.chain (leNat (s.mbxIn 0 1))).length ∧ u.hif = s.hif) ∧
  (∀ (n : Fin 16385) (s : State), s.mbxOpen = true → n.val ≠ 32 → Answers (.attest n) s id fun u =>
    u.rd R.SEC_MBX_STAT_STATE = 3 ∧ u.rd R.SEC_MBX_STAT_RESULT = 0x04 ∧ u.sec.drbg = s.sec.drbg) ∧
  (∀ (n : Fin 16385) (s : State), s.mbxOpen = true → n.val = 32 → Answers (.attest n) s id fun u =>
    u.rd R.SEC_MBX_STAT_STATE = 2 ∧ u.rd R.SEC_MBX_STAT_RESULT = 0 ∧ u.sec.drbg = s.sec.drbg + 1 ∧ u.sec.requests = s.sec.requests + 1) ∧
  (∀ (n : Fin 16385) (s : State), s.mbxOpen = true → 2 ≤ n.val → leNat (s.mbxIn 0 2) ≠ 0 → leNat (s.mbxIn 0 2) ≤ 256 → s.drbgOk = true →
    Answers (.random n) s id fun u => u.rd R.SEC_MBX_STAT_STATE = 2 ∧ u.rd R.SEC_MBX_STAT_LEN = leNat (s.mbxIn 0 2) ∧
      u.sec.drbg = s.sec.drbg + 1 ∧ u.sec.challenge = s.sec.challenge) ∧
  (∀ (n : Fin 16385) (s : State), s.mbxOpen = true → s.flag R.SEC_STAT_DEBUG = false →
    (Answers (.dbgRead n) s id fun u => u.rd R.SEC_MBX_STAT_RESULT = 0x05 ∧ u.rd R.SEC_MBX_STAT_LEN = 0 ∧ u.sec.dbg = s.sec.dbg) ∧
    (Answers (.dbgWrite n) s id fun u => u.rd R.SEC_MBX_STAT_RESULT = 0x05 ∧ u.sec.dbg = s.sec.dbg)) ∧
  (∀ (n : Fin 16385) (s : State), s.mbxOpen = true → s.flag R.SEC_STAT_DEBUG = true → 10 ≤ n.val → leNat (s.mbxIn 8 2) ≠ 0 →
    leNat (s.mbxIn 8 2) ≤ 4096 → Answers (.dbgRead n) s id fun u =>
      u.rd R.SEC_MBX_STAT_STATE = 2 ∧ u.rd R.SEC_MBX_STAT_LEN = leNat (s.mbxIn 8 2) ∧ u.sec.dbg = s.sec.dbg) ∧
  (∀ (n : Fin 16385) (s : State), s.mbxOpen = true → s.flag R.SEC_STAT_DEBUG = true → 8 ≤ n.val → Answers (.dbgWrite n) s id fun u =>
    u.rd R.SEC_MBX_STAT_STATE = 2 ∧ u.sec.dbg = dbgPut s.sec.dbg (leNat (s.mbxIn 0 8)) (s.mbxIn 8 (n - 8)) ∧ u.hif = s.hif) ∧
  (∀ (x : Fin 4) (s : State), s.watched x = true → Machine.exec (.tamperDetect x) s = .next (s.tamper x).settle) ∧
  (∀ (x : Fin 4) (s : State), s.watched x = false → Machine.exec (.tamperDetect x) s = .next s) ∧
  (∀ (x : Nat) (s : State), (s.tamperVault x).sec.vault.keys = [] ∧ (s.tamperVault x).sec.vault.latch = true ∧
    bit (s.tamperVault x).sec.vault.tamperSrc x = true ∧ (s.tamperVault x).sec.lanes = [] ∧ (s.tamperVault x).sec.requests = 0) ∧
  (∀ s : State, s.drbgOk = true → Answers .drbgHealthFail s (fun u => ((u.persists 6 .U true).raise 6 .U).settle) fun u =>
    u.drbgOk = false ∧ u.sec = s.sec ∧ u.ring = s.ring) ∧
  (∀ s : State, s.drbgOk = false → Answers (.drbgRetest true) s (fun u => u.persists 6 .U false) fun u => u.drbgOk = true ∧ u.sec = s.sec) ∧
  (∀ s : State, Machine.exec (.drbgRetest false) s = .next s) ∧
  (∀ s : State, s.drbgOk = true → Answers .drbgReseed s id fun u => u.sec.requests = 0 ∧ u.sec.drbg = s.sec.drbg ∧ u.regs = s.regs)

/-- The fault collector, the safe state and the logs (R459 to R464, R467, R468, R471): a first occurrence sets its bit and its record, and a repeated one
counts up to 255 and raises the class; a fatal one, or an escalated U, enters the safe state, once; a clear ends the record, and a persisting cause is
recorded again; the safe state is left only when nothing holds it; the buffered records move to Kaolin, and wait where a write fails; and a read copies
the records asked for, but none that Kaolin holds while it is lost.
Where a clause rests on the model's reading or choice, it is that of log entries 1, 7, 28, 29 and 71. -/
def Obligations.FaultsAndLogs : Prop :=
  (∀ (b d : Nat) (s : State), b < 49 → s.flt.selfFault = false → s.flag (fltBit b) = false →
    (s.raise b .C d).flag (fltBit b) = true ∧ (s.raise b .C d).rd (R.FLT_SRC_CLASS b) = 1 ∧ (s.raise b .C d).rd (R.FLT_SRC_REPEAT b) = 0 ∧
    (s.raise b .C d).rd (R.FLT_SRC_DETAIL b) = d % 2 ^ 32 ∧ (s.raise b .C d).inSafe = s.inSafe) ∧
  (∀ (b d : Nat) (s : State), b < 49 → s.flt.selfFault = false → s.flag (fltBit b) = true → 1 ≤ s.rd (R.FLT_SRC_CLASS b) →
    (s.raise b .C d).rd (R.FLT_SRC_REPEAT b) = min 255 (s.rd (R.FLT_SRC_REPEAT b) + 1) ∧
    (s.raise b .C d).rd (R.FLT_SRC_DETAIL b) = s.rd (R.FLT_SRC_DETAIL b) ∧ (s.raise b .C d).rd (R.FLT_SRC_CLASS b) = s.rd (R.FLT_SRC_CLASS b)) ∧
  (∀ (b d : Nat) (s : State), b < 49 → s.flt.selfFault = false → s.flag (fltBit b) = true → s.rd (R.FLT_SRC_CLASS b) < 2 →
    s.flag (escBit b) = false → (s.raise b .U d).rd (R.FLT_SRC_CLASS b) = 2) ∧
  (∀ (b d : Nat) (c : FClass) (s : State), s.flt.selfFault = true → s.raise b c d = s) ∧
  (∀ (b d : Nat) (s : State), b < 49 → s.flt.selfFault = false → s.flag (fltBit b) = false → ∃ t : State,
    s.raise b .F d = t.enterSafe b 3 0 ∧ t.flag (fltBit b) = true ∧ t.rd (R.FLT_SRC_CLASS b) = 3 ∧ t.hif = s.hif ∧ t.brg = s.brg) ∧
  (∀ (cause k r : Nat) (s : State), cause < 256 → s.inSafe = false → ∃ t : State,
    s.enterSafe cause k r = (if t.twin.relinquish then t else t.safeRest) ∧ t.inSafe = true ∧ t.rd R.FLT_SAFE_CAUSE = cause ∧ t.brg = s.brg) ∧
  (∀ (cause k r : Nat) (s : State), s.inSafe = true → s.enterSafe cause k r = s) ∧
  (∀ (b : Fin 49) (c : FClass) (d : BitVec 32) (s : State), mayRaise b c = false → Machine.exec (.faultOccurrence b c d) s = .next s) ∧
  (∀ (b : Fin 49) (c : FClass) (d : BitVec 32) (s : State), mayRaise b c = true → b.val ≠ 18 → c ≠ .F →
    Machine.exec (.faultOccurrence b c d) s = .next (s.raise b c d.toNat).settle) ∧
  (∀ (b : Fin 49) (s : State), s.flag (fltBit b) = true → (∀ x ∈ s.flt.persist, x.1 ≠ b.val) → Answers (.faultClear b) s State.settle fun t =>
    t.flag (fltBit b) = false ∧ t.rd (R.FLT_SRC_CLASS b) = 0 ∧ t.rd (R.FLT_SRC_REPEAT b) = 0 ∧ t.rd (R.FLT_SRC_DETAIL b) = 0 ∧
    t.inSafe = s.inSafe ∧ t.hif = s.hif) ∧
  (∀ (b : Fin 49) (k d : Nat) (c : FClass) (s : State), s.flag (fltBit b) = true → s.flt.persist.find? (fun x => x.1 = b.val) = some (k, c, d) →
    Answers (.faultClear b) s (fun t => (t.raise b c d).settle) fun t => t.flag (fltBit b) = false ∧ t.rd (R.FLT_SRC_CLASS b) = 0 ∧
      t.rd (R.FLT_SRC_DETAIL b) = 0 ∧ t.flt.persist = s.flt.persist ∧ t.inSafe = s.inSafe ∧ t.hif = s.hif) ∧
  (∀ (b : Fin 49) (s : State), s.flag (fltBit b) = false → Machine.exec (.faultClear b) s = .next s.settle) ∧
  (∀ s : State, s.flt.selfFault = false → Answers .collectorSelfFault s State.settle fun t => t.flt.selfFault = true ∧
    t.regs = (s.enterSafe 0xFD 3 0).regs) ∧
  (∀ s : State, s.flt.selfFault = true → Machine.exec .collectorSelfFault s = .next s) ∧
  (∀ s : State, Machine.exec .safeEnter s = .next ((s.enterSafe 0xFE 0 0).logAudit 0x24 1 0 0 s.node0 0).settle) ∧
  (∀ s : State, s.inSafe = true → s.mayExit = true → Answers .safeExit s (fun t => (t.logAudit 0x24 2 0 0 s.node0 0).settle) fun t => t = s.leaveSafe) ∧
  (∀ s : State, s.leaveSafe.inSafe = false ∧ s.leaveSafe.twin.relinquish = false) ∧
  (∀ s : State, s.inSafe = true → s.mayExit = false → Answers .safeExit s (fun t => (t.logAudit 0x24 2 1 0 s.node0 0).settle) fun t =>
    t.inSafe = true ∧ t.flag R.FLT_SAFE_EXIT_REFUSED = true ∧ t.fld = s.fld) ∧
  (∀ s : State, s.inSafe = false → Machine.exec .safeExit s = .next (s.logAudit 0x24 2 0 0 s.node0 0).settle) ∧
  (∀ s : State, s.sec.vault.latch = true ∨ (∃ b < 49, s.flag (fltBit b) = true ∧ s.rd (R.FLT_SRC_CLASS b) = 3) → s.mayExit = false) ∧
  (∀ s : State, s.flt.writeError = false → s.pwr.kaolinLost = false → Answers (.logFlush 0 true) s id fun t =>
    t.flt.fault.buffer = [] ∧ t.flt.fault.stored.length = min 2097152 (s.flt.fault.stored.length + s.flt.fault.buffer.length) ∧
    t.flt.audit = s.flt.audit ∧ t.regs = s.regs) ∧
  (∀ s : State, s.flt.writeError = false → s.pwr.kaolinLost = false → Answers (.logFlush 1 true) s id fun t =>
    t.flt.audit.buffer = [] ∧ t.flt.fault = s.flt.fault ∧ t.regs = s.regs) ∧
  (∀ (l : Fin 2) (s : State), s.flt.writeError = false → Answers (.logFlush l false) s (fun t => (t.raise 45 .U).settle) fun t =>
    t.flt.writeError = true ∧ t.flt.fault = s.flt.fault ∧ t.flt.audit = s.flt.audit) ∧
  (∀ (l : Fin 2) (ok : Bool) (s : State), s.flt.writeError = true → Machine.exec (.logFlush l ok) s = .next s) ∧
  (∀ s : State, s.flt.writeError = true → s.pwr.kaolinLost = false → Answers (.logWriteRetry true) s id fun t =>
    t.flt.writeError = false ∧ t.flt.fault.buffer = [] ∧ t.flt.audit.buffer = []) ∧
  (∀ (l : Fin 2) (q : BitVec 32) (s : State), s.rd R.FLT_LOG_RDSTAT_STATE ≠ 1 → Answers (.logRead l (some q)) s id fun t =>
    t.flt.heldSeq = q.toNat ∧ t.flt.copy = some (l.val, q.toNat) ∧ t.rd R.FLT_LOG_RDSTAT_STATE = 1 ∧ t.flt.fault = s.flt.fault) ∧
  (∀ (l q : Nat) (x : LogRec) (r : List LogRec) (s : State), s.flt.copy = some (l, q) → (s.log l).copy q = x :: r → s.pwr.kaolinLost = false →
    Answers (.logCopyDone true) s id fun t => t.flt.copy = none ∧ t.rd R.FLT_LOG_RDSTAT_STATE = 2 ∧
      t.rd R.FLT_LOG_RDSTAT_COUNT = (r.length + 1) % 256 ∧ t.rd R.FLT_LOG_RDSTAT_FIRST = x.seq % 2 ^ 32) ∧
  (∀ (l q : Nat) (x : LogRec) (s : State), s.flt.copy = some (l, q) → s.pwr.kaolinLost = true → x ∈ (s.log l).copy q → x ∈ (s.log l).stored →
    Answers (.logCopyDone true) s (fun t => t.raise 45 .U) fun t => t.flt.copy = none ∧ t.rd R.FLT_LOG_RDSTAT_STATE = 3 ∧
      t.flt.logBuf = s.flt.logBuf) ∧
  (∀ (l q : Nat) (s : State), s.flt.copy = some (l, q) → Answers (.logCopyDone false) s id fun t =>
    t.flt.copy = none ∧ t.rd R.FLT_LOG_RDSTAT_STATE = 3 ∧ t.flt.logBuf = s.flt.logBuf) ∧
  (∀ (l : Log) (q : Nat), (l.copy q).length ≤ 128)

/-- The power states (R489, R491, R495 to R503): DVFS ends a POWER at the new operating point; DOZE and DORMANT are entered once their POWER has been
carried out and every transaction has drained; in DOZE the hub keeps its registers and loses what CORE holds, a wake that is enabled is noted, and
DOZE ends with it, on IOSC; a bank that is reloaded no longer asks for it; in DORMANT the rails are off, and a wake needs a feed.
Where a clause rests on the model's reading or choice, it is that of log entries 7 and 26. -/
def Obligations.PowerStates : Prop :=
  (∀ (r : Req) (op : Nat) (s : State), s.pwr.opReq = some (r, op) → s.pwr.opWait = [] → op < 4 →
    Answers .dvfsDone s (fun t => ({ (t.ok r 0 0) with pwr := { (t.ok r 0 0).pwr with opWait := [] } }).settle) fun t =>
      t.rd R.PWR_STAT_OP = op ∧ t.flag R.PWR_STAT_DVFS_BUSY = false ∧ t.pwr.opReq = none ∧ t.rd R.PWR_STAT_STATE = (if op = 0 then 0 else 1) ∧
      t.hif = s.hif ∧ t.ring = s.ring) ∧
  (∀ s : State, s.pwr.opReq = none → Machine.exec .dvfsDone s = .next s.settle) ∧
  (∀ s : State, s.pwr.entry = some false → s.drained = true → Answers .dozeEntry s State.settle fun t =>
    t.pwr.asleep = true ∧ t.pwr.state = .doze ∧ t.pwr.entry = none ∧ t.sw = {} ∧ t.tgt = {} ∧ t.pctl = {} ∧ t.eng.prog = s.eng.prog ∧
    t.rfx.act = s.rfx.act ∧ t.hif.fetchHold = true ∧ t.td.edges = []) ∧
  (∀ s : State, s.pwr.entry ≠ some false ∨ s.drained = false → Machine.exec .dozeEntry s = .next s) ∧
  (∀ (n : Fin 5) (s : State), bit (s.word 0x20040) n = true → s.pwr.entry.isSome = true → Answers (.wakeEvent n) s id fun t =>
    bit t.pwr.early n = true ∧ t.regs = s.regs ∧ t.pwr.asleep = s.pwr.asleep) ∧
  (∀ (n : Fin 5) (s : State), bit (s.word 0x20040) n = true → s.pwr.entry = none → s.pwr.asleep = true → Answers (.wakeEvent n) s id fun t =>
    bit t.pwr.early n = true ∧ bit (t.rd R.PWR_WAKE_SRC_SRC) n = true ∧ t.pwr.asleep = true) ∧
  (∀ (n : Fin 5) (s : State), bit (s.word 0x20040) n = false ∨ (s.pwr.entry = none ∧ s.pwr.asleep = false) →
    Machine.exec (.wakeEvent n) s = .next s) ∧
  (∀ s : State, s.pwr.asleep = true → s.pwr.early ≠ 0 → Answers (.dozeExit [] []) s (fun t => t.serveHeld.settle) fun t =>
    t.pwr.asleep = false ∧ t.pwr.state = .run ∧ t.pwr.early = 0 ∧ t.hif.fetchHold = false ∧ t.flag R.PWR_STAT_ON_OSC = true ∧
    t.rd R.PWR_RET_STAT_FAILED = 0 ∧ t.rd R.SW_STAT_MODE = mShared) ∧
  (∀ (f : List (Fin 8)) (b : List (Fin 16)) (s : State), s.pwr.asleep = false ∨ s.pwr.early = 0 → Machine.exec (.dozeExit f b) s = .next s) ∧
  (∀ (b : Fin 8) (s : State), bit (s.rd R.PWR_RET_STAT_RELOAD) b = true →
    Answers (.retentionReloadDone b) s (fun t => (t.reloadBank b).settle) fun t =>
      bit (t.rd R.PWR_RET_STAT_RELOAD) b = false ∧ t.rd R.PWR_RET_STAT_FAILED = s.rd R.PWR_RET_STAT_FAILED ∧ t.pts = s.pts ∧ t.rfx = s.rfx) ∧
  (∀ (b : Fin 8) (s : State), bit (s.rd R.PWR_RET_STAT_RELOAD) b = false → Machine.exec (.retentionReloadDone b) s = .next s) ∧
  (∀ s : State, s.pwr.entry = some true → s.drained = true → s.pwr.early = 0 → Machine.exec .dormantEntry s = .next (s.railsOff .none .dormant)) ∧
  (∀ s : State, s.pwr.entry ≠ some true ∨ s.drained = false → Machine.exec .dormantEntry s = .next s) ∧
  (∀ s : State, s.pwr.state = .dormant → s.pwr.path = .none → 0 ∈ s.pwr.present ∨ 1 ∈ s.pwr.present →
    (Answers (.dormantWake 0) s State.showPower fun t => t.pwr.path = (if s.pwr.held then .seated else .feed) ∧ t.regs = s.regs ∧ t.sec = s.sec) ∧
    (Machine.exec (.dormantWake 4) s = Machine.exec (.dormantWake 0) s) ∧ Machine.exec (.dormantWake 1) s = .next s) ∧
  (∀ s : State, 0 ∉ s.pwr.present → 1 ∉ s.pwr.present → Machine.exec (.dormantWake 0) s = .next s) ∧
  (∀ s : State, s.words 0x100048 2 = 0 → Machine.exec .vltTimerAlarm s = .next s) ∧
  (∀ s : State, s.words 0x100048 2 ≠ 0 → s.pwr.state ≠ .dormant → Machine.exec .vltTimerAlarm s = .next (s.wake 3)) ∧
  (∀ s : State, s.words 0x100048 2 ≠ 0 → s.pwr.state = .dormant → Machine.exec .vltTimerAlarm s = .next s.dormantWake)

/-- Clocks, die-to-die links, cores and module supplies (R497, R509, R512 to R517, R534, R551, R552): PLLs that lock after DOZE take their islands where AUTO_PLL says so and end
ON_OSC; a source that fails is shown, its islands are forced to IOSC and counted, IOSC's failure is fatal, and without the resonator the reference of a root is the recovered clock; a switch needs a running source and
is otherwise refused and counted, and it ends while both its sources run; a gate that is in use stays on; the frequency counter counts once for each GO, REF for the window; an uncorrectable core error
abandons every staging; a link that is retrained starts its count of failures again; and a module supply in overload is off until its retry.
Where a clause rests on the model's reading or choice, it is that of log entries 1, 7 and 39. -/
def Obligations.ClocksAndModules : Prop :=
  (∀ s : State, s.flag R.PWR_CFG_AUTO_PLL = true → s.pwr.autoOsc = true → Answers (.pllLock true true) s (fun t => t.wr R.PWR_STAT_ON_OSC 0) fun t =>
    t.rd R.CLK_STATUS_LOCK = 3 ∧ t.srcRuns 5 = true ∧ t.srcRuns 6 = true ∧ t.rd (R.CLK_ISL_CUR 9) = 5 ∧ t.rd (R.CLK_ISL_CUR 10) = 6 ∧
    t.flag (R.CLK_ISL_SEL 10) = true) ∧
  (∀ (a b : Bool) (s : State), s.flag R.PWR_CFG_AUTO_PLL = false ∨ s.pwr.autoOsc = false → Answers (.pllLock a b) s id fun t =>
    t.rd R.CLK_STATUS_LOCK = bnat a + 2 * bnat b ∧ t.srcRuns 5 = a ∧ t.srcRuns 6 = b ∧ ∀ i < 41, t.rd (R.CLK_ISL_CUR i) = s.rd (R.CLK_ISL_CUR i)) ∧
  (∀ (n : Fin 7) (s : State), s.srcRuns n = false → Machine.exec (.clockFail n) s = .next s) ∧
  (∀ (n : Fin 7) (s : State), s.srcRuns n = true → Machine.exec (.clockFail n) s = .next (s.clockFail n).settle) ∧
  (∀ s : State, s.srcRuns 4 = true → s.srcRuns 1 = true → s.td.ref = .own → Answers (.clockFail 4) s State.settle fun t =>
    t.srcRuns 4 = false ∧ t.td = s.td ∧ t.flt = s.flt ∧ t.hif = s.hif ∧ t.rd R.CLK_STATUS_LOCK = s.rd R.CLK_STATUS_LOCK) ∧
  (∀ (j : Nat) (s : State), s.srcRuns 4 = true → s.srcRuns 1 = true → s.td.ref = .port j → s.clockOf (1 - j) = true →
    Answers (.clockFail 4) s State.settle fun t => t.td = { s.td with ref := .port (1 - j) } ∧ t.srcRuns 4 = true ∧ t.flt = s.flt ∧ t.regs = s.regs) ∧
  (∀ s : State, s.isRoot = true → s.pwr.asleep = false → (s.ownFailed = false → s.chooseRef.td.ref = .own) ∧
    (s.ownFailed = true → s.clockOf 0 = true → s.chooseRef.td.ref = .port 0)) ∧
  (∀ (n i : Nat) (s : State), i < 41 → s.hitBy n i = true → (s.forceIslands n).rd (R.CLK_ISL_CUR i) = 0 ∧
    (s.forceIslands n).flag (R.CLK_ISL_SEL i) = false ∧ (s.forceIslands n).flag (R.CLK_ISL_FORCED i) = true) ∧
  (∀ (n i : Nat) (s : State), i < 41 → s.hitBy n i = false → (s.forceIslands n).rd (R.CLK_ISL_CUR i) = s.rd (R.CLK_ISL_CUR i)) ∧
  (∀ (i : Fin 41) (sel : Bool) (s : State), isSwitchable i = true → s.flag (R.CLK_ISL_PENDING i) = false → s.flag (R.CLK_ISL_SEL i) ≠ sel →
    s.flag R.PWR_STAT_DVFS_BUSY = false → s.srcRuns (if sel then pllOf i else 0) = true → Answers (.islandSwitch i sel) s id fun t =>
      t.flag (R.CLK_ISL_PENDING i) = true ∧ t.flag (R.CLK_ISL_SEL i) = sel ∧ t.rd (R.CLK_ISL_CUR i) = s.rd (R.CLK_ISL_CUR i)) ∧
  (∀ (i : Fin 41) (sel : Bool) (s : State), isSwitchable i = true → s.flag (R.CLK_ISL_PENDING i) = true →
    Machine.exec (.islandSwitch i sel) s = .next (s.inc R.CLK_CNT_REFUSED)) ∧
  (∀ (i : Fin 41) (sel : Bool) (s : State), isSwitchable i = false → Machine.exec (.islandSwitch i sel) s = .next s) ∧
  (∀ (i : Fin 41) (s : State), s.flag (R.CLK_ISL_PENDING i) = true → s.srcRuns (s.rd (R.CLK_ISL_CUR i)) = true →
    s.srcRuns (if s.flag (R.CLK_ISL_SEL i) then pllOf i else 0) = true → Answers (.islandSwitchDone i) s id fun t =>
    t.flag (R.CLK_ISL_PENDING i) = false ∧ t.rd (R.CLK_ISL_CUR i) = if s.flag (R.CLK_ISL_SEL i) then pllOf i else 0) ∧
  (∀ (i : Fin 41) (s : State), s.flag (R.CLK_ISL_PENDING i) = false ∨ s.srcRuns (s.rd (R.CLK_ISL_CUR i)) = false ∨
    s.srcRuns (if s.flag (R.CLK_ISL_SEL i) then pllOf i else 0) = false → Machine.exec (.islandSwitchDone i) s = .next s) ∧
  (∀ (i : Fin 41) (s : State), isSwitchable i = true → i.val ≠ 1 → i.val ≠ 12 → s.flag (R.CLK_ISL_EN i) = true → s.islandEnabled i = true →
    Machine.exec (.clockGateWrite (.island i) false false) s = .next (s.inc R.CLK_CNT_REFUSED)) ∧
  (∀ (i : Fin 41) (s : State), isSwitchable i = true → i.val ≠ 1 → i.val ≠ 12 →
    (Answers (.clockGateWrite (.island i) true false) s id fun t => t.flag (R.CLK_ISL_EN i) = true ∧ t.hif = s.hif) ∧
    (s.islandEnabled i = false → Answers (.clockGateWrite (.island i) false false) s id fun t => t.flag (R.CLK_ISL_EN i) = false)) ∧
  (∀ (on words : Bool) (s : State), Machine.exec (.clockGateWrite (.island 1) on words) s = .next s) ∧
  (∀ s : State, s.rd R.CLK_FCNT_STAT_STATE ≠ 1 → Answers .fcntGo s id fun t => t.rd R.CLK_FCNT_STAT_STATE = 1 ∧
    t.rd R.CLK_FCNT_TGT_COUNT = s.rd R.CLK_FCNT_TGT_COUNT) ∧
  (∀ s : State, s.rd R.CLK_FCNT_STAT_STATE = 1 → Machine.exec .fcntGo s = .next s) ∧
  (∀ (a b : BitVec 32) (s : State), s.rd R.CLK_FCNT_STAT_STATE = 1 → s.clockGated (s.rd R.CLK_FCNT_CFG_TGT) = false →
    Answers (.fcntDone a b true) s id fun t => t.rd R.CLK_FCNT_TGT_COUNT = a.toNat ∧
      t.rd R.CLK_FCNT_REF_COUNT = s.refEdges b.toNat % 2 ^ 32 ∧ t.rd R.CLK_FCNT_STAT_STATE = 2) ∧
  (∀ (k : Nat) (s : State), s.rd R.CLK_FCNT_CFG_REF = 1 → s.refEdges k = 50 * s.rd R.CLK_FCNT_WIN_WINDOW) ∧
  (∀ (a b : BitVec 32) (s : State), s.rd R.CLK_FCNT_STAT_STATE = 1 → Answers (.fcntDone a b false) s id fun t =>
    t.rd R.CLK_FCNT_STAT_STATE = 3 ∧ t.rd R.CLK_FCNT_TGT_COUNT = s.rd R.CLK_FCNT_TGT_COUNT) ∧
  (∀ (a b : BitVec 32) (e : Bool) (s : State), s.rd R.CLK_FCNT_STAT_STATE ≠ 1 → Machine.exec (.fcntDone a b e) s = .next s) ∧
  (∀ s : State, Machine.exec (.coreError false) s = .next (s.raise 47 .C).settle) ∧
  (∀ s : State, Answers (.coreError true) s (fun t =>
      (if t.flt.copy.isSome then ({ t with flt := { t.flt with copy := none } }).wr R.FLT_LOG_RDSTAT_STATE 3 else t).settle) fun t =>
    t.boot.fwStg = none ∧ t.boot.bndStg = none) ∧
  (∀ (d : Fin 3) (s : State), Machine.exec (.d2dCrcFail d) s = .next (s.raise 44 .C d).settle) ∧
  (∀ s : State, Answers (.d2dRetrain 1 true []) s State.settle fun t => NMap.get (fun _ => 0) t.pwr.d2dFails 1 = 0) ∧
  (∀ (i : Fin 5) (s : State), s.vmodOn i = true → Answers (.vmodOverload i) s (fun t => (t.raise (8 + i) .C).settle) fun t =>
    t.vmodOn i = false ∧ t.regs = s.regs ∧ t.ring = s.ring) ∧
  (∀ (i : Fin 5) (s : State), s.vmodOn i = false → Machine.exec (.vmodOverload i) s = .next s) ∧
  (∀ (i : Fin 5) (s : State), Answers (.vmodRetry i) s id fun t => i.val ∉ t.pwr.vmodOff ∧ t.regs = s.regs ∧ t.ring = s.ring)

end
end

