-- ==== Sys2Proof/Laws/State.lean ====
section
/-!
SUPPORT. Small lemmas about `State`: what each record update leaves as it was, and the part of a state that almost no operation touches.
-/

set_option Elab.async false
set_option linter.unusedSimpArgs false
set_option linter.unusedTactic false

namespace Sys2Proof.Machine

/-- The part of a state that a command leaves as it is unless it is one of the few that own it: the queue, the mirrors of the counters in the
device area, and the counters in the vault. -/
structure Kept where
  pending : List Instr
  fwMirror : Nat
  bndMirror : Nat
  fwCtr : Nat
  bndCtr : Nat

/-- What a step may do to that part: the queue stays, a mirror never falls, and a counter that its mirror covers stays covered. -/
structure Kept.Mono (a b : Kept) : Prop where
  pending : b.pending = a.pending
  fwMirror : a.fwMirror ≤ b.fwMirror
  bndMirror : a.bndMirror ≤ b.bndMirror
  fwCtr : a.fwCtr ≤ a.fwMirror → b.fwCtr ≤ b.fwMirror
  bndCtr : a.bndCtr ≤ a.bndMirror → b.bndCtr ≤ b.bndMirror

theorem Kept.Mono.refl (a : Kept) : a.Mono a := ⟨rfl, le_refl _, le_refl _, id, id⟩

theorem Kept.Mono.of_eq {a b : Kept} (h : b = a) : a.Mono b := h ▸ .refl a

theorem Kept.Mono.trans {a b c : Kept} (h : a.Mono b) (k : b.Mono c) : a.Mono c :=
  ⟨k.pending.trans h.pending, h.fwMirror.trans k.fwMirror, h.bndMirror.trans k.bndMirror, fun x => k.fwCtr (h.fwCtr x),
    fun x => k.bndCtr (h.bndCtr x)⟩

def State.kept (s : State) : Kept := ⟨s.pending, s.boot.fwMirror, s.boot.bndMirror, s.sec.vault.fwCtr, s.sec.vault.bndCtr⟩

@[simp] theorem kept_mk (pending' : List Instr) (regs' : NMap Word) (now' : Nat) (drawn' : Nat) (emitted' : List Emit) (hif' : Hif) (tgt' : Tgt) (pts' : Pts) (ring' : RingSt) (sw' : Switch) (flt' : Flt) (td' : TimeSt) (brg' : Brg) (cyc' : CycSt) (fld' : FieldSt) (pctl' : PctlSt) (rfx' : Rfx) (meas' : MeasSt) (pwr' : PwrSt) (eng' : EngSt) (twin' : TwinSt) (sec' : SecSt) (boot' : BootSt) (setup' : SetSt) :
    (State.mk pending' regs' now' drawn' emitted' hif' tgt' pts' ring' sw' flt' td' brg' cyc' fld' pctl' rfx' meas' pwr' eng' twin' sec' boot' setup').kept = ⟨pending', boot'.fwMirror, boot'.bndMirror, sec'.vault.fwCtr, sec'.vault.bndCtr⟩ := (rfl)

@[simp] theorem kept_eta (s : State) :
    (⟨s.pending, s.boot.fwMirror, s.boot.bndMirror, s.sec.vault.fwCtr, s.sec.vault.bndCtr⟩ : Kept) = s.kept := (rfl)

/-! The parts of a state through `kept`; as rewriting rules they bring each part to the one place where what an operation keeps is said. -/

theorem pending_kept (s : State) : s.pending = s.kept.pending := (rfl)
theorem fwMirror_kept (s : State) : s.boot.fwMirror = s.kept.fwMirror := (rfl)
theorem bndMirror_kept (s : State) : s.boot.bndMirror = s.kept.bndMirror := (rfl)
theorem fwCtr_kept (s : State) : s.sec.vault.fwCtr = s.kept.fwCtr := (rfl)
theorem bndCtr_kept (s : State) : s.sec.vault.bndCtr = s.kept.bndCtr := (rfl)
theorem kept_mk_eta (k : Kept) : (⟨k.pending, k.fwMirror, k.bndMirror, k.fwCtr, k.bndCtr⟩ : Kept) = k := (rfl)

@[simp] theorem kept_ite (c : Prop) [Decidable c] (s t : State) : (if c then s else t).kept = if c then s.kept else t.kept := by
  split <;> rfl

theorem kept_foldl {α : Type} (f : State → α → State) (h : ∀ s x, (f s x).kept = s.kept) (l : List α) (s : State) :
    (l.foldl f s).kept = s.kept := by
  induction l generalizing s with
  | nil => rfl
  | cons a l ih => rw [List.foldl_cons, ih, h]

theorem kept_pair {α : Type} {k : Kept} {e : α × State} {f : α → State → State} (he : e.2.kept = k)
    (hf : ∀ a t, t.kept = k → (f a t).kept = k) : (match e with | (a, t) => f a t).kept = k := hf e.1 e.2 he

theorem kept_pair1 {α : Type} {k : Kept} {e : State × α} {f : State → α → State} (he : e.1.kept = k)
    (hf : ∀ t, t.kept = k → ∀ a, (f t a).kept = k) : (match e with | (t, a) => f t a).kept = k := hf e.1 he e.2

end Sys2Proof.Machine
end

