-- ==== Sys2Proof/Laws/KeptRegs.lean ====
section
/-!
SUPPORT. What the operations of `Machine/Regs.lean` leave of a state: the queue, the mirrors and the vault's counters.
-/

set_option Elab.async false

namespace Sys2Proof.Machine

@[simp] theorem State.setWord_kept (s : State) (off v : Nat) :
    (State.setWord s off v).kept = s.kept := by
  simp [State.setWord]

@[simp] theorem State.wr_kept (s : State) (f : Fld) (v : Nat) :
    (State.wr s f v).kept = s.kept := by
  simp [State.wr]

@[simp] theorem State.inc_kept (s : State) (f : Fld) (k : Nat) :
    (State.inc s f k).kept = s.kept := by
  simp [State.inc]

@[simp] theorem State.emit_kept (s : State) (e : Emit) :
    (State.emit s e).kept = s.kept := by
  simp [State.emit]

@[simp] theorem State.draw_kept (s : State) :
    (State.draw s).2.kept = s.kept := by
  simp [State.draw]

@[simp] theorem State.setWords_kept (s : State) (off : Nat) (n0 : Nat) (n1 : Nat) :
    (State.setWords s off n0 n1).kept = s.kept := by
  induction n0 generalizing s off n1 with
  | zero => rfl
  | succ n ih => simp [State.setWords, ih]

end Sys2Proof.Machine
end

