-- ==== Sys2Proof/Laws/KeptClock.lean ====
section
/-!
SUPPORT. What the operations of `Machine/Clock.lean` leave of a state: the queue, the mirrors and the vault's counters.
-/

set_option Elab.async false

namespace Sys2Proof.Machine

@[simp] theorem State.setDomain_kept (s : State) (d : Nat) (m : Domain) :
    (State.setDomain s d m).kept = s.kept := by
  simp [State.setDomain]

end Sys2Proof.Machine
end

