-- ==== Sys2Proof/Laws/KeptOps.lean ====
section
/-!
SUPPORT. What the operations of `Machine/Ops.lean` leave of a state: the queue, the mirrors and the vault's counters.
-/

set_option Elab.async false

namespace Sys2Proof.Machine

@[simp] theorem State.setPair_kept (s : State) (p : Nat) (x : Pair) :
    (State.setPair s p x).kept = s.kept := by
  simp [State.setPair]

@[simp] theorem State.setSlot_kept (s : State) (t : Nat) (x : Slot) :
    (State.setSlot s t x).kept = s.kept := by
  simp [State.setSlot]

@[simp] theorem State.setTag_kept (s : State) (k : Nat) (x : Tag) :
    (State.setTag s k x).kept = s.kept := by
  simp [State.setTag]

@[simp] theorem State.setPort_kept (s : State) (i : Nat) (x : Port) :
    (State.setPort s i x).kept = s.kept := by
  simp [State.setPort]

@[simp] theorem State.setPoint_kept (s : State) (n : Nat) (x : Point) :
    (State.setPoint s n x).kept = s.kept := by
  simp [State.setPoint]

@[simp] theorem State.setTopo_kept (s : State) (ring st : Nat) (x : Topo) :
    (State.setTopo s ring st x).kept = s.kept := by
  simp [State.setTopo]

@[simp] theorem State.setChan_kept (s : State) (e c : Nat) (x : Chan) :
    (State.setChan s e c x).kept = s.kept := by
  simp [State.setChan]

@[simp] theorem State.logFault_kept (s : State) (type bit cls rep detail : Nat) :
    (State.logFault s type bit cls rep detail).kept = s.kept := by
  simp [State.logFault]

@[simp] theorem State.logAuditAt_kept (s : State) (time type b1 b2 : Nat) (arg : Nat) (node tn : Nat) :
    (State.logAuditAt s time type b1 b2 arg node tn).kept = s.kept := by
  simp [State.logAuditAt]

@[simp] theorem State.logAudit_kept (s : State) (type b1 b2 : Nat) (arg : Nat) (node tn : Nat) :
    (State.logAudit s type b1 b2 arg node tn).kept = s.kept := by
  simp [State.logAudit]

@[simp] theorem State.admitFrame_kept (s : State) (i o c : Nat) (f : Frame) :
    (State.admitFrame s i o c f).kept = s.kept := by
  simp [State.admitFrame]

@[simp] theorem State.toTransit_kept (s : State) (i o : Nat) (f : Frame) :
    (State.toTransit s i o f).kept = s.kept := by
  simp [State.toTransit]

@[simp] theorem State.submit_kept (s : State) (i o : Nat) (f : Frame) :
    (State.submit s i o f).kept = s.kept := by
  simp [State.submit]

@[simp] theorem State.sendTo_kept (s : State) (inp node : Nat) (f : Frame) :
    (State.sendTo s inp node f).kept = s.kept := by
  unfold State.sendTo; repeat' split
  all_goals simp

@[simp] theorem State.hostReq_kept (s : State) (t op addr len : Nat) (data : List Byte) :
    (State.hostReq s t op addr len data).kept = s.kept := by
  simp [State.hostReq]

@[simp] theorem State.hostRead_kept (s : State) (t addr len : Nat) (what : String) :
    (State.hostRead s t addr len what).kept = s.kept := by
  simp [State.hostRead]

@[simp] theorem State.hostWrite_kept (s : State) (t addr : Nat) (b : List Byte) :
    (State.hostWrite s t addr b).kept = s.kept := by
  simp [State.hostWrite]

@[simp] theorem State.raiseVector_kept (s : State) (t vec : Nat) :
    (State.raiseVector s t vec).kept = s.kept := by
  simp [State.raiseVector]

@[simp] theorem State.signal_kept (s : State) (t vec : Nat) (err : Bool) :
    (State.signal s t vec err).kept = s.kept := by
  simp [State.signal]

@[simp] theorem State.signalErr_kept (s : State) (t : Nat) :
    (State.signalErr s t).kept = s.kept := by
  simp [State.signalErr]

@[simp] theorem State.retire_kept (s : State) (k : Nat) (abnormal : Bool) :
    (State.retire s k abnormal).kept = s.kept := by
  unfold State.retire; repeat' split
  all_goals simp

@[simp] theorem State.interrupt_kept (s : State) (p : Nat) :
    (State.interrupt s p).kept = s.kept := by
  simp [State.interrupt]

@[simp] theorem State.coalesce_kept (s : State) (p : Nat) (status : Nat) :
    (State.coalesce s p status).kept = s.kept := by
  simp [State.coalesce]

@[simp] theorem State.putEntry_kept (s : State) (p : Nat) (e : CqEntry) :
    (State.putEntry s p e).kept = s.kept := by
  simp only [State.putEntry]; repeat' split
  all_goals simp_all

@[simp] theorem State.stopFor_kept (s : State) (p reason : Nat) (entry : Bool) :
    (State.stopFor s p reason entry).kept = s.kept := by
  simp [State.stopFor]

@[simp] theorem State.stop_kept (s : State) (p reason : Nat) :
    (State.stop s p reason).kept = s.kept := by
  simp [State.stop]

@[simp] theorem State.drainCq_kept (s : State) (p : Nat) (n0 : Nat) :
    (State.drainCq s p n0).kept = s.kept := by
  induction n0 generalizing s with
  | zero => rfl
  | succ n ih =>
    unfold State.drainCq; dsimp only; repeat' split
    all_goals simp [ih]

@[simp] theorem State.post_kept (s : State) (p : Nat) (e : CqEntry) :
    (State.post s p e).kept = s.kept := by
  simp [State.post]

@[simp] theorem State.deliverData_kept (s : State) (t : Tx) (o : Outc) :
    (State.deliverData s t o).1.kept = s.kept := by
  unfold State.deliverData; repeat' split
  all_goals simp

@[simp] theorem State.answerRop_kept (s : State) (j seq status : Nat) (data : List Byte) :
    (State.answerRop s j seq status data).kept = s.kept := by
  simp [State.answerRop]

@[simp] theorem State.mapLocks_kept (s : State) (f : List LockSeq → List LockSeq) :
    (State.mapLocks s f).kept = s.kept := by
  simp [State.mapLocks]

@[simp] theorem State.lockEnds_kept (s : State) (t : Tx) (o : Outc) :
    (State.lockEnds s t o).kept = s.kept := by
  simp [State.lockEnds]

@[simp] theorem State.noteEnd_kept (s : State) (t : Tx) (o : Outc) :
    (State.noteEnd s t o).kept = s.kept := by
  simp [State.noteEnd]

@[simp] theorem State.complete_kept (s : State) (k : Nat) (t : Tx) (o : Outc) :
    (State.complete s k t o).kept = s.kept := by
  simp only [State.complete]; repeat' split
  all_goals simp_all

@[simp] theorem State.finish_kept (s : State) (k g : Nat) (o : Outc) :
    (State.finish s k g o).kept = s.kept := by
  unfold State.finish; repeat' split
  all_goals simp

@[simp] theorem State.abort_kept (s : State) (k status : Nat) :
    (State.abort s k status).kept = s.kept := by
  unfold State.abort; repeat' split
  all_goals simp

@[simp] theorem State.respond_kept (s : State) (r : Req) (o : Outc) :
    (State.respond s r o).kept = s.kept := by
  unfold State.respond; repeat' split
  all_goals simp

@[simp] theorem State.refuse_kept (s : State) (r : Req) (status : Nat) :
    (State.refuse s r status).kept = s.kept := by
  simp [State.refuse]

@[simp] theorem State.refuseRoute_kept (s : State) (r : Req) :
    (State.refuseRoute s r).kept = s.kept := by
  simp [State.refuseRoute]

@[simp] theorem State.ok_kept (s : State) (r : Req) (result xfer : Nat) (data : List Byte) :
    (State.ok s r result xfer data).kept = s.kept := by
  simp [State.ok]

end Sys2Proof.Machine
end

