-- ==== Sys2Proof/Laws/KeptKeys.lean ====
section
/-!
SUPPORT. What the operations of `Machine/Keys.lean` leave of a state: the queue, the mirrors and the vault's counters.
-/

set_option Elab.async false

namespace Sys2Proof.Machine

@[simp] theorem State.random_kept (s : State) (n : Nat) :
    (State.random s n).2.kept = s.kept := by
  simp [State.random]

@[simp] theorem State.setSec_kept (s : State) (i : Nat) (x : Lane) :
    (State.setSec s i x).kept = s.kept := by
  simp [State.setSec]

@[simp] theorem State.switchKeys_kept (s : State) (i : Nat) (x : Lane) :
    (State.switchKeys s i x).kept = s.kept := by
  simp [State.switchKeys]

@[simp] theorem State.afterSend_kept (s : State) (i : Nat) (f : Frame) :
    (State.afterSend s i f).kept = s.kept := by
  unfold State.afterSend; repeat' split
  all_goals simp

end Sys2Proof.Machine
end

