-- ==== Sys2Proof/Laws/KeptWire.lean ====
section
/-!
SUPPORT. What the operations of `Machine/Wire.lean` leave of a state: the queue, the mirrors and the vault's counters.
-/

set_option Elab.async false

namespace Sys2Proof.Machine

@[simp] theorem State.emitFrame_kept (s : State) (i : Nat) (f : Frame) :
    (State.emitFrame s i f).kept = s.kept := by
  simp [State.emitFrame]

@[simp] theorem State.sendSet_kept (s : State) (i code arg : Nat) :
    (State.sendSet s i code arg).kept = s.kept := by
  simp [State.sendSet]

@[simp] theorem State.gap_kept (s : State) (i : Nat) :
    (State.gap s i).kept = s.kept := by
  simp [State.gap, kept_foldl]

end Sys2Proof.Machine
end

