-- ==== Sys2Proof/Laws/KeptCache.lean ====
section
/-!
SUPPORT. What the operations of `Machine/Cache.lean` leave of a state: the queue, the mirrors and the vault's counters.
-/

set_option Elab.async false

namespace Sys2Proof.Machine

@[simp] theorem State.lineLeaves_kept (s : State) (x : CacheLine) :
    (State.lineLeaves s x).kept = s.kept := by
  simp only [State.lineLeaves]; repeat' split
  all_goals simp_all

@[simp] theorem State.dropLines_kept (s : State) (p : CacheLine → Bool) :
    (State.dropLines s p).kept = s.kept := by
  unfold State.dropLines; refine (kept_foldl _ ?_ _ _).trans ?_
  · intro s x; simp
  · simp

@[simp] theorem State.invalidate_kept (s : State) (port first last : Nat) :
    (State.invalidate s port first last).kept = s.kept := by
  simp [State.invalidate]

@[simp] theorem State.invalidateAll_kept (s : State) (port first last : Nat) :
    (State.invalidateAll s port first last).kept = s.kept := by
  simp [State.invalidateAll]

@[simp] theorem State.invalidatePort_kept (s : State) (port : Nat) :
    (State.invalidatePort s port).kept = s.kept := by
  simp [State.invalidatePort]

theorem State.cacheHit_kept (s : State) (r : Nat) (port first n : Nat) :
    ∀ out, State.cacheHit s r port first n = some out → out.2.2.kept = s.kept := by
  intro x h
  unfold State.cacheHit at h; dsimp only at h; split at h
  · cases h; simp
  · cases h

@[simp] theorem State.fillLine_kept (s : State) (x : CacheLine) :
    (State.fillLine s x).kept = s.kept := by
  simp only [State.fillLine]; repeat' split
  all_goals simp_all

@[simp] theorem State.fill_kept (s : State) (r port space base : Nat) (data : List Byte) (first n node tn : Nat) :
    (State.fill s r port space base data first n node tn).kept = s.kept := by
  unfold State.fill; refine (kept_foldl _ ?_ _ _).trans ?_
  · intro s x; simp
  · simp

end Sys2Proof.Machine
end

