-- ==== Sys2Proof/Laws/KeptPointStore.lean ====
section
/-!
SUPPORT. What the operations of `Machine/PointStore.lean` leave of a state: the queue, the mirrors and the vault's counters.
-/

set_option Elab.async false

namespace Sys2Proof.Machine

@[simp] theorem State.loadPoint_kept (s : State) (n : Nat) (p : Point) :
    (State.loadPoint s n p).kept = s.kept := by
  simp [State.loadPoint]

@[simp] theorem State.deliver_kept (s : State) (n : Nat) (d : Delivered) :
    (State.deliver s n d).kept = s.kept := by
  simp [State.deliver]

@[simp] theorem State.deliverNow_kept (s : State) (n v : Nat) :
    (State.deliverNow s n v).kept = s.kept := by
  simp [State.deliverNow]

@[simp] theorem State.setCond_kept (s : State) (n reason : Nat) (on : Bool) :
    (State.setCond s n reason on).kept = s.kept := by
  simp [State.setCond]

@[simp] theorem State.setSub_kept (s : State) (u : Sub) :
    (State.setSub s u).kept = s.kept := by
  simp [State.setSub]

@[simp] theorem State.setRemSub_kept (s : State) (u : RemSub) (v : Option RemSub) :
    (State.setRemSub s u v).kept = s.kept := by
  simp [State.setRemSub]

@[simp] theorem State.endSub_kept (s : State) (num : Nat) :
    (State.endSub s num).kept = s.kept := by
  simp [State.endSub]

@[simp] theorem State.stopUnsent_kept (s : State) (p : Nat) :
    (State.stopUnsent s p).kept = s.kept := by
  simp [State.stopUnsent]

@[simp] theorem State.handOver_kept (s : State) (u : Sub) (d : Dlv) :
    (State.handOver s u d).kept = s.kept := by
  unfold State.handOver; repeat' split
  all_goals simp

@[simp] theorem State.serveSub_kept (s : State) (p : Point) (u : Sub) :
    (State.serveSub s p u).kept = s.kept := by
  simp [State.serveSub]

@[simp] theorem State.serveSubs_kept (s : State) (n : Nat) :
    (State.serveSubs s n).kept = s.kept := by
  unfold State.serveSubs; refine (kept_foldl _ ?_ _ _).trans ?_
  · intro s x; simp
  · simp

@[simp] theorem State.updatePoint_kept (s : State) (n : Nat) :
    (State.updatePoint s n).kept = s.kept := by
  simp [State.updatePoint]

@[simp] theorem State.updatePoints_kept (s : State) (ns : List Nat) :
    (State.updatePoints s ns).kept = s.kept := by
  unfold State.updatePoints; refine (kept_foldl _ ?_ _ _).trans ?_
  · intro s x; simp
  · simp

@[simp] theorem State.drainSubs_kept (s : State) (p : Nat) (n0 : Nat) :
    (State.drainSubs s p n0).kept = s.kept := by
  induction n0 generalizing s with
  | zero => rfl
  | succ n ih =>
    unfold State.drainSubs; dsimp only; repeat' split
    all_goals simp [ih]

@[simp] theorem State.drain_kept (s : State) (p : Nat) :
    (State.drain s p).kept = s.kept := by
  simp [State.drain]

@[simp] theorem State.setForced_kept (s : State) (n : Nat) (on : Bool) :
    (State.setForced s n on).kept = s.kept := by
  simp [State.setForced]

@[simp] theorem State.writeLimits_kept (s : State) (n off : Nat) (data : List Byte) :
    (State.writeLimits s n off data).kept = s.kept := by
  simp [State.writeLimits]

@[simp] theorem State.writePoint_kept (s : State) (w : Who) (off : Nat) (data : List Byte) :
    (State.writePoint s w off data).2.kept = s.kept := by
  unfold State.writePoint; dsimp only; repeat' split
  all_goals simp

@[simp] theorem State.rmwPoint_kept (s : State) (w : Who) (off opx len a b : Nat) :
    (State.rmwPoint s w off opx len a b).2.2.kept = s.kept := by
  unfold State.rmwPoint; dsimp only; repeat' split
  all_goals simp

end Sys2Proof.Machine
end

