-- ==== Sys2Proof/Laws/KeptPinOps.lean ====
section
/-!
SUPPORT. What the operations of `Machine/PinOps.lean` leave of a state: the queue, the mirrors and the vault's counters.
-/

set_option Elab.async false

namespace Sys2Proof.Machine

@[simp] theorem State.setPin_kept (s : State) (p x : Nat) (v : Pin) :
    (State.setPin s p x v).kept = s.kept := by
  simp [State.setPin]

@[simp] theorem State.wrBit_kept (s : State) (f : Fld) (i : Nat) (b : Bool) :
    (State.wrBit s f i b).kept = s.kept := by
  simp [State.wrBit]

@[simp] theorem State.refreshPoint_kept (s : State) (n : Nat) :
    (State.refreshPoint s n).kept = s.kept := by
  simp [State.refreshPoint]

@[simp] theorem State.markMissed_kept (s : State) (ns : List Nat) (on : Bool) :
    (State.markMissed s ns on).kept = s.kept := by
  simp [State.markMissed, kept_foldl]

@[simp] theorem State.refreshAll_kept (s : State) :
    (State.refreshAll s).kept = s.kept := by
  simp [State.refreshAll, kept_foldl]

@[simp] theorem State.refreshPort_kept (s : State) (p : Nat) :
    (State.refreshPort s p).kept = s.kept := by
  unfold State.refreshPort; refine (kept_foldl _ ?_ _ _).trans ?_
  · intro s x; simp
  · simp

@[simp] theorem State.suspendPin_kept (s : State) (p x : Nat) :
    (State.suspendPin s p x).kept = s.kept := by
  simp [State.suspendPin]

@[simp] theorem State.resumePin_kept (s : State) (p x : Nat) :
    (State.resumePin s p x).kept = s.kept := by
  simp [State.resumePin]

@[simp] theorem State.setLevel_kept (s : State) (p x : Nat) (b : Bool) :
    (State.setLevel s p x b).kept = s.kept := by
  simp [State.setLevel]

@[simp] theorem State.unlatch_kept (s : State) (p x : Nat) :
    (State.unlatch s p x).kept = s.kept := by
  simp [State.unlatch]

@[simp] theorem State.applyDo_kept (s : State) (p x : Nat) (b : Bool) :
    (State.applyDo s p x b).kept = s.kept := by
  simp [State.applyDo]

@[simp] theorem State.pinOff_kept (s : State) (p x : Nat) :
    (State.pinOff s p x).kept = s.kept := by
  simp [State.pinOff]

@[simp] theorem State.setFp_kept (s : State) (p : Nat) (on : Bool) :
    (State.setFp s p on).kept = s.kept := by
  simp [State.setFp]

@[simp] theorem State.fpClearEvent_kept (s : State) (p : Nat) :
    (State.fpClearEvent s p).kept = s.kept := by
  simp [State.fpClearEvent]

@[simp] theorem State.driveFp_kept (s : State) (p : Nat) (on : Bool) :
    (State.driveFp s p on).kept = s.kept := by
  simp [State.driveFp]

@[simp] theorem State.applyFp_kept (s : State) (p : Nat) (on : Bool) :
    (State.applyFp s p on).kept = s.kept := by
  simp [State.applyFp]

@[simp] theorem State.applyAo_kept (s : State) (p type v : Nat) :
    (State.applyAo s p type v).kept = s.kept := by
  simp [State.applyAo]

@[simp] theorem State.applyValue_kept (s : State) (q : Point) (v : Nat) :
    (State.applyValue s q v).kept = s.kept := by
  simp [State.applyValue]

@[simp] theorem State.applySafe_kept (s : State) (q : Point) :
    (State.applySafe s q).kept = s.kept := by
  simp [State.applySafe]

@[simp] theorem State.safeOutputs_kept (s : State) :
    (State.safeOutputs s).kept = s.kept := by
  simp [State.safeOutputs, kept_foldl]

end Sys2Proof.Machine
end

