-- ==== Sys2Proof/Laws/KeptLocks.lean ====
section
/-!
SUPPORT. What the operations of `Machine/Locks.lean` leave of a state: the queue, the mirrors and the vault's counters.
-/

set_option Elab.async false

namespace Sys2Proof.Machine

@[simp] theorem State.setBusLock_kept (s : State) (p : Nat) (x : BusLock) :
    (State.setBusLock s p x).kept = s.kept := by
  simp [State.setBusLock]

@[simp] theorem State.freeBus_kept (s : State) (p : Nat) :
    (State.freeBus s p).kept = s.kept := by
  simp [State.freeBus]

@[simp] theorem State.postFail_kept (s : State) (r : Req) :
    (State.postFail s r).kept = s.kept := by
  simp [State.postFail]

@[simp] theorem State.dropOp_kept (s : State) (o : BusOp) (status : Nat) :
    (State.dropOp s o status).kept = s.kept := by
  simp [State.dropOp]

@[simp] theorem State.releaseBus_kept (s : State) (p src tn id : Nat) :
    (State.releaseBus s p src tn id).kept = s.kept := by
  simp [State.releaseBus, kept_foldl]

@[simp] theorem State.sendRelease_kept (s : State) (slot id : Nat) (bus : Nat × Nat) (k g tc td : Nat) :
    (State.sendRelease s slot id bus k g tc td).kept = s.kept := by
  simp [State.sendRelease]

@[simp] theorem State.closeSeq_kept (s : State) (slot id k g tc td : Nat) :
    (State.closeSeq s slot id k g tc td).kept = s.kept := by
  unfold State.closeSeq; dsimp only; repeat' split
  all_goals simp [kept_foldl]

@[simp] theorem State.expireSeq_kept (s : State) (slot id : Nat) :
    (State.expireSeq s slot id).kept = s.kept := by
  simp [State.expireSeq]

end Sys2Proof.Machine
end

