-- ==== Sys2Proof/Laws/KeptSafeOps.lean ====
section
/-!
SUPPORT. What the operations of `Machine/SafeOps.lean` leave of a state: the queue, the mirrors and the vault's counters.
-/

set_option Elab.async false

namespace Sys2Proof.Machine

@[simp] theorem State.safeTwin_kept (s : State) :
    (State.safeTwin s).kept = s.kept := by
  simp [State.safeTwin]

@[simp] theorem State.safeEdges_kept (s : State) :
    (State.safeEdges s).kept = s.kept := by
  simp [State.safeEdges]

@[simp] theorem State.safeLocks_kept (s : State) :
    (State.safeLocks s).kept = s.kept := by
  unfold State.safeLocks; refine kept_foldl _ ?_ _ _
  intro s x; dsimp only; rw [kept_foldl _ (fun s x => by simp)]
  split <;> simp

@[simp] theorem State.safeBridgeOp_kept (s : State) (o : BusOp) :
    (State.safeBridgeOp s o).kept = s.kept := by
  simp [State.safeBridgeOp]

@[simp] theorem State.dropTunnelled_kept (s : State) :
    (State.dropTunnelled s).kept = s.kept := by
  simp [State.dropTunnelled, kept_foldl]

@[simp] theorem State.safeQueued_kept (s : State) :
    (State.safeQueued s).kept = s.kept := by
  unfold State.safeQueued; dsimp only
  rw [State.dropTunnelled_kept]
  simp only [kept_mk, kept_eta]
  refine (kept_foldl _ ?_ _ _).trans ((kept_foldl _ ?_ _ _).trans ((kept_foldl _ ?_ _ _).trans ?_))
  · rintro s ⟨t, q⟩; dsimp only; rw [kept_foldl]
    · simp
    · intro s x; cases x.req <;> simp
  · rintro s ⟨t, q⟩; dsimp only; rw [kept_foldl _ (fun s x => by simp)]; simp
  · intro s x; simp
  · simp

@[simp] theorem State.safeRest_kept (s : State) :
    (State.safeRest s).kept = s.kept := by
  simp [State.safeRest]

end Sys2Proof.Machine
end

