-- ==== Sys2Proof/Laws/KeptFlags.lean ====
section
/-!
SUPPORT. What the operations of `Machine/Flags.lean` leave of a state: the queue, the mirrors and the vault's counters.
-/

set_option Elab.async false

namespace Sys2Proof.Machine

@[simp] theorem State.enterSafe_kept (s : State) (cause cls rep : Nat) :
    (State.enterSafe s cause cls rep).kept = s.kept := by
  simp [State.enterSafe]

@[simp] theorem State.firstOccurrence_kept (s : State) (b : Nat) (c : FClass) (detail : Nat) :
    (State.firstOccurrence s b c detail).kept = s.kept := by
  simp [State.firstOccurrence]

@[simp] theorem State.repeatOccurrence_kept (s : State) (b : Nat) (c : FClass) :
    (State.repeatOccurrence s b c).kept = s.kept := by
  simp [State.repeatOccurrence]

@[simp] theorem State.raise_kept (s : State) (b : Nat) (c : FClass) (detail : Nat) :
    (State.raise s b c detail).kept = s.kept := by
  simp [State.raise]

@[simp] theorem State.persists_kept (s : State) (b : Nat) (c : FClass) (on : Bool) (detail : Nat) :
    (State.persists s b c on detail).kept = s.kept := by
  simp [State.persists]

@[simp] theorem State.clearFault_kept (s : State) (b : Nat) :
    (State.clearFault s b).kept = s.kept := by
  simp only [State.clearFault]; repeat' split
  all_goals simp_all

end Sys2Proof.Machine
end

