-- ==== Sys2Proof/Laws/KeptQueues.lean ====
section
/-!
SUPPORT. What the operations of `Machine/Queues.lean` leave of a state: the queue, the mirrors and the vault's counters.
-/

set_option Elab.async false

namespace Sys2Proof.Machine

@[simp] theorem State.recomputeGuar_kept (s : State) :
    (State.recomputeGuar s).kept = s.kept := by
  simp [State.recomputeGuar, kept_foldl]

@[simp] theorem State.fetchTurn_kept (s : State) (p : Nat) (n0 : Nat) :
    (State.fetchTurn s p n0).kept = s.kept := by
  induction n0 generalizing s with
  | zero => rfl
  | succ n ih =>
    unfold State.fetchTurn; dsimp only; repeat' split
    all_goals simp [ih]

@[simp] theorem State.fetchTurns_kept (s : State) (n0 : Nat) :
    (State.fetchTurns s n0).kept = s.kept := by
  induction n0 generalizing s with
  | zero => rfl
  | succ n ih =>
    unfold State.fetchTurns; dsimp only; repeat' split
    all_goals simp [ih]

@[simp] theorem State.fetch_kept (s : State) :
    (State.fetch s).kept = s.kept := by
  simp [State.fetch]

@[simp] theorem State.pickTag_kept (s : State) :
    (State.pickTag s).2.kept = s.kept := by
  simp [State.pickTag]

@[simp] theorem State.closeReset_kept (s : State) (q : LockSeq) :
    (State.closeReset s q).kept = s.kept := by
  unfold State.closeReset; dsimp only; repeat' split
  all_goals simp

@[simp] theorem State.closeEnded_kept (s : State) :
    (State.closeEnded s).kept = s.kept := by
  simp [State.closeEnded, kept_foldl]

@[simp] theorem State.settle_kept (s : State) :
    (State.settle s).kept = s.kept := by
  simp [State.settle]

@[simp] theorem State.detach_kept (s : State) (k : Nat) (t : Tx) (abn : Bool) :
    (State.detach s k t abn).kept = s.kept := by
  simp [State.detach]

@[simp] theorem State.detachAll_kept (s : State) (p : Nat) (abn : Bool) :
    (State.detachAll s p abn).kept = s.kept := by
  unfold State.detachAll; refine (kept_foldl _ ?_ _ _).trans ?_
  · intro s x; simp
  · simp

@[simp] theorem State.endPairSubs_kept (s : State) (p : Nat) :
    (State.endPairSubs s p).kept = s.kept := by
  unfold State.endPairSubs; refine (kept_foldl _ ?_ _ _).trans ?_
  · intro s x; simp
  · simp

@[simp] theorem State.resetPair_kept (s : State) (p : Nat) :
    (State.resetPair s p).kept = s.kept := by
  simp [State.resetPair]

@[simp] theorem State.resetSlot_kept (s : State) (t : Nat) :
    (State.resetSlot s t).kept = s.kept := by
  unfold State.resetSlot; refine (kept_foldl _ ?_ _ _).trans ?_
  · intro s x; simp
  · simp

@[simp] theorem State.summaryEnable_kept (s : State) (t : Nat) (addr : Nat) :
    (State.summaryEnable s t addr).kept = s.kept := by
  simp [State.summaryEnable]

@[simp] theorem State.slotDisable_kept (s : State) (t : Nat) :
    (State.slotDisable s t).kept = s.kept := by
  simp [State.slotDisable, kept_foldl]

@[simp] theorem State.regionDisable_kept (s : State) (t : Nat) :
    (State.regionDisable s t).kept = s.kept := by
  simp [State.regionDisable]

@[simp] theorem State.qEnable_kept (s : State) (p : Nat) :
    (State.qEnable s p).kept = s.kept := by
  simp [State.qEnable]

@[simp] theorem State.qCtrl_kept (s : State) (p : Nat) (reset en : Bool) :
    (State.qCtrl s p reset en).kept = s.kept := by
  simp [State.qCtrl]

@[simp] theorem State.reprove_kept (s : State) (t : Nat) :
    (State.reprove s t).kept = s.kept := by
  simp [State.reprove]

@[simp] theorem State.endSessions_kept (s : State) (t : Nat) :
    (State.endSessions s t).kept = s.kept := by
  simp [State.endSessions]

@[simp] theorem State.pcieReset_kept (s : State) :
    (State.pcieReset s).kept = s.kept := by
  unfold State.pcieReset; refine (kept_foldl _ ?_ _ _).trans ?_
  · intro s x; simp
  · simp

@[simp] theorem State.readDoorbell_kept (s : State) (p : Nat) :
    (State.readDoorbell s p).kept = s.kept := by
  simp [State.readDoorbell]

@[simp] theorem State.servePair_kept (s : State) (t : Nat) (line : List Byte) (i : Nat) :
    (State.servePair s t line i).kept = s.kept := by
  simp [State.servePair]

@[simp] theorem State.stopRing_kept (s : State) (t : Nat) :
    (State.stopRing s t).kept = s.kept := by
  simp [State.stopRing, kept_foldl]

@[simp] theorem State.summaryDone_kept (s : State) (t : Nat) (d : HostData) :
    (State.summaryDone s t d).kept = s.kept := by
  unfold State.summaryDone; dsimp only; repeat' split
  all_goals simp [kept_foldl]

@[simp] theorem State.doorbellDone_kept (s : State) (p : Nat) (d : HostData) :
    (State.doorbellDone s p d).kept = s.kept := by
  unfold State.doorbellDone; repeat' split
  all_goals simp

@[simp] theorem State.queueManagerError_kept (s : State) (e : QmError) :
    (State.queueManagerError s e).kept = s.kept := by
  cases e with
  | corrected => simp [State.queueManagerError]
  | pair p => simp [State.queueManagerError]
  | shared =>
    have aux : ∀ (s : State) (l : List Nat), ({ (l.foldl (fun s p => s.resetPair p) s) with hif :=
        { (l.foldl (fun s p => s.resetPair p) s).hif with rebuilding := true } } : State).kept = s.kept := fun s l => by
      rw [kept_mk, kept_eta, kept_foldl _ (fun s x => by simp)]
    exact (aux (s.raise 14 .U 0xFFFF) (List.range 512)).trans (by simp)

@[simp] theorem State.sendPending_kept (s : State) :
    (State.sendPending s).kept = s.kept := by
  simp [State.sendPending, kept_foldl]

@[simp] theorem State.resumeWrites_kept (s : State) :
    (State.resumeWrites s).kept = s.kept := by
  simp [State.resumeWrites, kept_foldl]

end Sys2Proof.Machine
end

