-- ==== Sys2Proof/Laws/KeptFormats.lean ====
section
/-!
SUPPORT. What the operations of `Machine/Formats.lean` leave of a state: the queue, the mirrors and the vault's counters.
-/

set_option Elab.async false

namespace Sys2Proof.Machine

@[simp] theorem State.condTable_kept (s : State) (t reason : Nat) (on : Bool) :
    (State.condTable s t reason on).kept = s.kept := by
  simp [State.condTable, kept_foldl]

@[simp] theorem State.decodeFrame_kept (s : State) (t : Nat) (f : List Byte) :
    (State.decodeFrame s t f).kept = s.kept := by
  unfold State.decodeFrame; extract_lets s1
  refine (kept_foldl _ ?_ _ _).trans (by simp [s1])
  intro s x; dsimp only; (repeat' split) <;> simp

end Sys2Proof.Machine
end

