-- ==== Sys2Proof/Laws/KeptReflex.lean ====
section
/-!
SUPPORT. What the operations of `Machine/Reflex.lean` leave of a state: the queue, the mirrors and the vault's counters.
-/

set_option Elab.async false

namespace Sys2Proof.Machine

@[simp] theorem State.setRow_kept (s : State) (r : Nat) (x : RowSt) :
    (State.setRow s r x).kept = s.kept := by
  simp [State.setRow]

@[simp] theorem State.setRop_kept (s : State) (j : Nat) (x : Rop) :
    (State.setRop s j x).kept = s.kept := by
  simp [State.setRop]

@[simp] theorem State.setSm_kept (s : State) (m : Nat) (t : Option Nat) :
    (State.setSm s m t).kept = s.kept := by
  simp [State.setSm]

@[simp] theorem State.markRows_kept (s : State) :
    (State.markRows s).kept = s.kept := by
  simp [State.markRows, kept_foldl]

@[simp] theorem State.placeRows_kept (s : State) (ok : List Nat) (old : Option (NMap Byte)) :
    (State.placeRows s ok old).kept = s.kept := by
  simp [State.placeRows, kept_foldl]

@[simp] theorem State.showRows_kept (s : State) (ok : List Nat) :
    (State.showRows s ok).kept = s.kept := by
  simp [State.showRows, kept_foldl]

@[simp] theorem State.checkTables_kept (s : State) :
    (State.checkTables s).2.kept = s.kept := by
  simp [State.checkTables]

@[simp] theorem State.loadTables_kept (s : State) (old : Option (NMap Byte)) :
    (State.loadTables s old).kept = s.kept := by
  simp [State.loadTables, kept_foldl]

@[simp] theorem State.endOld_kept (s : State) :
    (State.endOld s).kept = s.kept := by
  unfold State.endOld; repeat' split
  all_goals simp

@[simp] theorem State.onOld_kept (s : State) (f : State → State) (h : ∀ t, (f t).kept = t.kept) :
    (s.onOld f).kept = s.kept := by
  unfold State.onOld; split
  · exact h s
  · dsimp only; split <;> simp [h]

@[simp] theorem State.switchTables_kept (s : State) :
    (State.switchTables s).kept = s.kept := by
  simp [State.switchTables, kept_foldl]

@[simp] theorem State.rowUpdate_kept (s : State) (n : Nat) :
    (State.rowUpdate s n).kept = s.kept := by
  simp [State.rowUpdate]

@[simp] theorem State.giveResult_kept (s : State) (x : RowSt) (n : Nat) :
    (State.giveResult s x n).kept = s.kept := by
  simp [State.giveResult]

@[simp] theorem State.runRow_kept (s : State) (r : Nat) :
    (State.runRow s r).kept = s.kept := by
  unfold State.runRow; dsimp only; repeat' split
  all_goals simp [kept_foldl]

@[simp] theorem State.skipRow_kept (s : State) (r : Nat) :
    (State.skipRow s r).kept = s.kept := by
  simp [State.skipRow, kept_foldl]

@[simp] theorem State.fetchRop_kept (s : State) (j : Nat) :
    (State.fetchRop s j).kept = s.kept := by
  unfold State.fetchRop; dsimp only; repeat' split
  all_goals simp

@[simp] theorem State.settleRop_kept (s : State) (j : Nat) (late : Bool) :
    (State.settleRop s j late).kept = s.kept := by
  unfold State.settleRop; dsimp only; repeat' split
  all_goals simp

@[simp] theorem State.runRows_kept (s : State) (n0 : Nat) :
    (State.runRows s n0).kept = s.kept := by
  induction n0 generalizing s with
  | zero => rfl
  | succ n ih =>
    unfold State.runRows; try dsimp only [State.draw]
    repeat' split
    all_goals simp [ih, kept_foldl]

@[simp] theorem State.resumeRows_kept (s : State) :
    (State.resumeRows s).kept = s.kept := by
  simp [State.resumeRows]

@[simp] theorem State.idleRowPoints_kept (s : State) (due : List Nat) :
    (State.idleRowPoints s due).kept = s.kept := by
  simp [State.idleRowPoints, kept_foldl]

@[simp] theorem State.startRows_kept (s : State) (k : Nat) :
    (State.startRows s k).kept = s.kept := by
  simp [State.startRows, kept_foldl]

@[simp] theorem State.overrunRows_kept (s : State) :
    (State.overrunRows s).kept = s.kept := by
  simp [State.overrunRows, kept_foldl]

@[simp] theorem State.restartRow_kept (s : State) (r : Nat) :
    (State.restartRow s r).kept = s.kept := by
  simp [State.restartRow]

@[simp] theorem State.reflexError_kept (s : State) (e : RfxError) :
    (State.reflexError s e).kept = s.kept := by
  unfold State.reflexError; repeat' split
  all_goals simp

end Sys2Proof.Machine
end

