-- ==== Sys2Proof/Laws/KeptPins.lean ====
section
/-!
SUPPORT. What the operations of `Machine/Pins.lean` leave of a state: the queue, the mirrors and the vault's counters.
-/

set_option Elab.async false

namespace Sys2Proof.Machine

@[simp] theorem State.countEdge_kept (s : State) (p x : Nat) (rising : Bool) :
    (State.countEdge s p x rising).kept = s.kept := by
  simp [State.countEdge]

@[simp] theorem State.acceptLevel_kept (s : State) (p x n : Nat) (level count : Bool) :
    (State.acceptLevel s p x n level count).kept = s.kept := by
  simp [State.acceptLevel]

@[simp] theorem State.rawEdge_kept (s : State) (p x : Nat) (rising : Bool) :
    (State.rawEdge s p x rising).kept = s.kept := by
  simp [State.rawEdge]

@[simp] theorem State.fieldPowerLoss_kept (s : State) :
    (State.fieldPowerLoss s).kept = s.kept := by
  simp [State.fieldPowerLoss, kept_foldl]

@[simp] theorem State.setRefused_kept (s : State) (p i : Nat) (b : Bool) :
    (State.setRefused s p i b).kept = s.kept := by
  simp [State.setRefused]

@[simp] theorem State.admitItem_kept (s : State) (p i : Nat) :
    (State.admitItem s p i).kept = s.kept := by
  simp [State.admitItem, kept_foldl]

@[simp] theorem State.admitAll_kept (s : State) :
    (State.admitAll s).kept = s.kept := by
  simp [State.admitAll, kept_foldl]

@[simp] theorem State.setDerated_kept (s : State) (k : Nat) (b : Bool) :
    (State.setDerated s k b).kept = s.kept := by
  simp [State.setDerated]

@[simp] theorem State.dieHot_kept (s : State) (hot : Bool) :
    (State.dieHot s hot).kept = s.kept := by
  simp [State.dieHot]

@[simp] theorem State.derate_kept (s : State) :
    (State.derate s).kept = s.kept := by
  unfold State.derate; repeat' split
  all_goals simp

end Sys2Proof.Machine
end

