-- ==== Sys2Proof/Laws/KeptMeas.lean ====
section
/-!
SUPPORT. What the operations of `Machine/Meas.lean` leave of a state: the queue, the mirrors and the vault's counters.
-/

set_option Elab.async false

namespace Sys2Proof.Machine

@[simp] theorem State.setMeasCh_kept (s : State) (c : Nat) (x : MeasCh) :
    (State.setMeasCh s c x).kept = s.kept := by
  simp [State.setMeasCh]

@[simp] theorem State.giveMeas_kept (s : State) (c : Nat) (raw x : Nat × Nat) (clip : Bool) (n : Nat) :
    (State.giveMeas s c raw x clip n).kept = s.kept := by
  unfold State.giveMeas; dsimp only; repeat' split
  all_goals simp

@[simp] theorem State.captureChannel_kept (s : State) (m : Measured) (k c : Nat) (xs : List MeasSample) :
    (State.captureChannel s m k c xs).kept = s.kept := by
  simp [State.captureChannel, kept_foldl]

@[simp] theorem State.captureCj_kept (s : State) (k p : Nat) (t : Int) :
    (State.captureCj s k p t).kept = s.kept := by
  simp [State.captureCj, kept_foldl]

@[simp] theorem State.captureMeas_kept (s : State) (k : Nat) (m : Measured) (cj : List (Fin 64 × Int)) :
    (State.captureMeas s k m cj).kept = s.kept := by
  unfold State.captureMeas; extract_lets s1 s2 badCj m0 s3 mm
  have h1 : s1.kept = s.kept := kept_foldl _ (fun s c => by dsimp only; split <;> simp) _ _
  have h2 : s2.kept = s.kept := (kept_foldl _ (fun s x => by simp) _ _).trans h1
  have h3 : s3.kept = s.kept := by simp only [s3]; split <;> simp [h2]
  exact (kept_foldl _ (fun s x => by simp) _ _).trans h3

@[simp] theorem State.setCalFault_kept (s : State) (c : Nat) (on : Bool) :
    (State.setCalFault s c on).kept = s.kept := by
  simp [State.setCalFault]

@[simp] theorem State.scalStart_kept (s : State) (c op : Nat) :
    (State.scalStart s c op).kept = s.kept := by
  simp [State.scalStart, kept_foldl]

@[simp] theorem State.scalDone_kept (s : State) (codes : List (Int × Int × Int)) :
    (State.scalDone s codes).kept = s.kept := by
  unfold State.scalDone; repeat' split
  all_goals simp

end Sys2Proof.Machine
end

