-- ==== Sys2Proof/Laws/KeptDomains.lean ====
section
/-!
SUPPORT. What the operations of `Machine/Domains.lean` leave of a state: the queue, the mirrors and the vault's counters.
-/

set_option Elab.async false

namespace Sys2Proof.Machine

@[simp] theorem State.setCyc_kept (s : State) (n : Nat) (c : Cyc) :
    (State.setCyc s n c).kept = s.kept := by
  simp [State.setCyc]

@[simp] theorem State.settleDomain_kept (s : State) (d : Nat) :
    (State.settleDomain s d).kept = s.kept := by
  simp [State.settleDomain]

@[simp] theorem State.setAvail_kept (s : State) (d : Nat) (second on : Bool) :
    (State.setAvail s d second on).kept = s.kept := by
  simp [State.setAvail]

@[simp] theorem State.freeRun_kept (s : State) (d : Nat) :
    (State.freeRun s d).kept = s.kept := by
  simp [State.freeRun]

@[simp] theorem State.domainStart_kept (s : State) (d : Nat) :
    (State.domainStart s d).kept = s.kept := by
  simp [State.domainStart]

@[simp] theorem State.fireEdge_kept (s : State) (c : Nat) (e : Edge) :
    (State.fireEdge s c e).kept = s.kept := by
  simp [State.fireEdge]

@[simp] theorem State.passEdges_kept (s : State) (d t : Nat) :
    (State.passEdges s d t).kept = s.kept := by
  simp [State.passEdges, kept_foldl]

@[simp] theorem State.passTimed_kept (s : State) (d t : Nat) :
    (State.passTimed s d t).kept = s.kept := by
  simp [State.passTimed]

@[simp] theorem State.stepWaits_kept (s : State) (d old t : Nat) :
    (State.stepWaits s d old t).kept = s.kept := by
  simp [State.stepWaits, kept_foldl]

@[simp] theorem State.passCycles_kept (s : State) (d old t : Nat) :
    (State.passCycles s d old t).kept = s.kept := by
  simp [State.passCycles]

@[simp] theorem State.renumber_kept (s : State) (d : Nat) :
    (State.renumber s d).kept = s.kept := by
  simp [State.renumber]

@[simp] theorem State.jumpTo_kept (s : State) (d t : Nat) :
    (State.jumpTo s d t).kept = s.kept := by
  simp [State.jumpTo]

@[simp] theorem State.stepDomain_kept (s : State) (d : Nat) (ofs : Int) :
    (State.stepDomain s d ofs).kept = s.kept := by
  simp [State.stepDomain]

@[simp] theorem State.servo_kept (s : State) (d : Nat) :
    (State.servo s d).kept = s.kept := by
  simp [State.servo]

@[simp] theorem State.correct_kept (s : State) (d : Nat) (ofs : Int) (first : Bool) :
    (State.correct s d ofs first).kept = s.kept := by
  simp [State.correct]

@[simp] theorem State.sourceUpdate_kept (s : State) (d : Nat) (second : Bool) (ofs : Int) :
    (State.sourceUpdate s d second ofs).kept = s.kept := by
  simp [State.sourceUpdate]

@[simp] theorem State.updateFrom_kept (s : State) (src : Nat) (ofs : State → Nat → Int) :
    (State.updateFrom s src ofs).kept = s.kept := by
  simp [State.updateFrom, kept_foldl]

@[simp] theorem State.loseSource_kept (s : State) (src : Nat) :
    (State.loseSource s src).kept = s.kept := by
  simp [State.loseSource, kept_foldl]

@[simp] theorem State.setPath_kept (s : State) (n dir : Nat) (x : SyncPath) :
    (State.setPath s n dir x).kept = s.kept := by
  simp [State.setPath]

@[simp] theorem State.chooseRef_kept (s : State) :
    (State.chooseRef s).kept = s.kept := by
  unfold State.chooseRef; dsimp only; repeat' split
  all_goals simp

@[simp] theorem State.showRec_kept (s : State) :
    (State.showRec s).kept = s.kept := by
  simp [State.showRec]

@[simp] theorem State.recFails_kept (s : State) :
    (State.recFails s).kept = s.kept := by
  unfold State.recFails; repeat' split
  all_goals simp

@[simp] theorem State.losePath_kept (s : State) (n dir : Nat) :
    (State.losePath s n dir).kept = s.kept := by
  simp [State.losePath]

end Sys2Proof.Machine
end

