-- ==== Sys2Proof/Laws/KeptFabric.lean ====
section
/-!
SUPPORT. What the operations of `Machine/Fabric.lean` leave of a state: the queue, the mirrors and the vault's counters.
-/

set_option Elab.async false

namespace Sys2Proof.Machine

@[simp] theorem State.pathLost_kept (s : State) (k : Nat) :
    (State.pathLost s k).kept = s.kept := by
  unfold State.pathLost; repeat' split
  all_goals simp

@[simp] theorem State.checkPaths_kept (s : State) :
    (State.checkPaths s).kept = s.kept := by
  simp [State.checkPaths, kept_foldl]

@[simp] theorem State.pathNotice_kept (s : State) (k g : Nat) :
    (State.pathNotice s k g).kept = s.kept := by
  simp [State.pathNotice]

@[simp] theorem State.dropPaths_kept (s : State) :
    (State.dropPaths s).kept = s.kept := by
  unfold State.dropPaths; refine kept_foldl _ ?_ _ _
  intro s x; dsimp only; repeat' split
  all_goals simp

@[simp] theorem State.afterTopo_kept (s : State) (old : NMap Topo) :
    (State.afterTopo s old).kept = s.kept := by
  simp [State.afterTopo]

@[simp] theorem State.cutHops_kept (s : State) (n d : Nat) (p : Topo → Bool) :
    (State.cutHops s n d p).kept = s.kept := by
  simp [State.cutHops, kept_foldl]

@[simp] theorem State.stepPort_kept (s : State) (i : Nat) (f : Port → Port) :
    (State.stepPort s i f).kept = s.kept := by
  simp [State.stepPort]

@[simp] theorem State.noteStamp_kept (s : State) (i : Nat) (f : Frame) :
    (State.noteStamp s i f).kept = s.kept := by
  simp [State.noteStamp]

@[simp] theorem State.setWin_kept (s : State) (i : Nat) (w : Win) :
    (State.setWin s i w).kept = s.kept := by
  simp [State.setWin]

end Sys2Proof.Machine
end

