-- ==== Sys2Proof/Laws/KeptRingLink.lean ====
section
/-!
SUPPORT. What the operations of `Machine/RingLink.lean` leave of a state: the queue, the mirrors and the vault's counters.
-/

set_option Elab.async false

namespace Sys2Proof.Machine

@[simp] theorem State.reportLoss_kept (s : State) (f : Frame) :
    (State.reportLoss s f).kept = s.kept := by
  simp [State.reportLoss]

@[simp] theorem State.loseFrame_kept (s : State) (i : Nat) :
    (State.loseFrame s i).kept = s.kept := by
  simp [State.loseFrame]

@[simp] theorem State.countWrap_kept (s : State) (i : Nat) :
    (State.countWrap s i).kept = s.kept := by
  simp [State.countWrap]

@[simp] theorem State.wrapFrame_kept (s : State) (i inp : Nat) (f : Frame) :
    (State.wrapFrame s i inp f).kept = s.kept := by
  simp [State.wrapFrame]

@[simp] theorem State.failFrame_kept (s : State) (i inp : Nat) (f : Frame) (sent : Bool) :
    (State.failFrame s i inp f sent).kept = s.kept := by
  simp [State.failFrame]

@[simp] theorem State.failQueued_kept (s : State) (i : Nat) :
    (State.failQueued s i).kept = s.kept := by
  simp [State.failQueued, kept_foldl]

@[simp] theorem State.sendLinkState_kept (s : State) (i : Nat) :
    (State.sendLinkState s i).kept = s.kept := by
  simp [State.sendLinkState]

@[simp] theorem State.dropKeys_kept (s : State) (i : Nat) :
    (State.dropKeys s i).kept = s.kept := by
  simp [State.dropKeys]

@[simp] theorem State.twinAbsent_kept (s : State) :
    (State.twinAbsent s).kept = s.kept := by
  simp [State.twinAbsent]

@[simp] theorem State.linkDown_kept (s : State) (i cause : Nat) :
    (State.linkDown s i cause).kept = s.kept := by
  simp [State.linkDown, kept_foldl]

@[simp] theorem State.bringupFail_kept (s : State) (i cause : Nat) :
    (State.bringupFail s i cause).kept = s.kept := by
  simp [State.bringupFail]

@[simp] theorem State.disablePort_kept (s : State) (i : Nat) :
    (State.disablePort s i).kept = s.kept := by
  unfold State.disablePort; repeat' split
  all_goals simp

@[simp] theorem State.startPort_kept (s : State) (i : Nat) :
    (State.startPort s i).kept = s.kept := by
  simp [State.startPort]

@[simp] theorem State.noteLeft_kept (s : State) (i : Nat) (f : Frame) :
    (State.noteLeft s i f).kept = s.kept := by
  simp [State.noteLeft]

@[simp] theorem State.transmit_kept (s : State) (i : Nat) (f : Frame) (again : Bool) :
    (State.transmit s i f again).kept = s.kept := by
  simp [State.transmit]

@[simp] theorem State.setDeficit_kept (s : State) (q v : Nat) :
    (State.setDeficit s q v).kept = s.kept := by
  simp [State.setDeficit]

@[simp] theorem State.drr_kept (s : State) (o : Nat) (n0 : Nat) :
    (State.drr s o n0).2.kept = s.kept := by
  induction n0 generalizing s with
  | zero => rfl
  | succ n ih =>
    unfold State.drr; dsimp only; repeat' split
    all_goals simp [ih]

@[simp] theorem State.pickOut_kept (s : State) (o : Nat) :
    (State.pickOut s o).2.kept = s.kept := by
  unfold State.pickOut; dsimp only; repeat' split
  all_goals simp

@[simp] theorem State.markStarted_kept (s : State) (x : QFrame) :
    (State.markStarted s x).kept = s.kept := by
  simp [State.markStarted]

@[simp] theorem State.startNext_kept (s : State) (i : Nat) :
    (State.startNext s i).kept = s.kept := by
  unfold State.startNext; dsimp only
  split; · rfl
  split; · simp
  split; · simp
  split; · split <;> simp
  split; · (repeat' split) <;> simp
  have h := State.pickOut_kept s i
  generalize s.pickOut i = r at h
  obtain ⟨_ | x, t⟩ := r
  · exact h
  · dsimp only at h ⊢; split <;> simp [h]

@[simp] theorem State.outputFree_kept (s : State) (i : Nat) :
    (State.outputFree s i).kept = s.kept := by
  simp [State.outputFree]

@[simp] theorem State.sendNak_kept (s : State) (i : Nat) :
    (State.sendNak s i).kept = s.kept := by
  simp [State.sendNak]

@[simp] theorem State.countMark_kept (s : State) (i : Nat) (m : Mark) :
    (State.countMark s i m).kept = s.kept := by
  unfold State.countMark; repeat' split
  all_goals simp

@[simp] theorem State.countDiscard_kept (s : State) (i : Nat) :
    (State.countDiscard s i).kept = s.kept := by
  simp [State.countDiscard]

@[simp] theorem State.noteEpoch_kept (s : State) (i : Nat) (f : Frame) :
    (State.noteEpoch s i f).kept = s.kept := by
  simp [State.noteEpoch]

@[simp] theorem State.linkCheck_kept (s : State) (i : Nat) (f : Frame) (seqRead : Bool) :
    (State.linkCheck s i f seqRead).2.kept = s.kept := by
  unfold State.linkCheck; dsimp only; repeat' split
  all_goals simp

@[simp] theorem State.noteBroadcast_kept (s : State) (f : Frame) :
    (State.noteBroadcast s f).kept = s.kept := by
  simp [State.noteBroadcast]

@[simp] theorem State.onward_kept (s : State) (i o : Nat) (f : Frame) :
    (State.onward s i o f).kept = s.kept := by
  simp [State.onward]

@[simp] theorem State.wake_kept (s : State) (src : Nat) :
    (State.wake s src).kept = s.kept := by
  simp [State.wake]

@[simp] theorem State.consume_kept (s : State) (i : Nat) (f : Frame) :
    (State.consume s i f).kept = s.kept := by
  simp [State.consume]

@[simp] theorem State.broadcastIn_kept (s : State) (i : Nat) (f : Frame) :
    (State.broadcastIn s i f).kept = s.kept := by
  simp [State.broadcastIn]

@[simp] theorem State.frameIn_kept (s : State) (i : Nat) (f : Frame) (seqRead : Bool) :
    (State.frameIn s i f seqRead).kept = s.kept := by
  simp [State.frameIn]

@[simp] theorem State.noRouteBack_kept (s : State) (f : Frame) (loop : Bool) :
    (State.noRouteBack s f loop).kept = s.kept := by
  simp [State.noRouteBack]

@[simp] theorem State.crossFrame_kept (s : State) (i : Nat) (f : Frame) :
    (State.crossFrame s i f).kept = s.kept := by
  unfold State.crossFrame; dsimp only; repeat' split
  all_goals simp

@[simp] theorem State.ackIn_kept (s : State) (i q : Nat) :
    (State.ackIn s i q).kept = s.kept := by
  simp [State.ackIn]

@[simp] theorem State.rewindTo_kept (s : State) (i q : Nat) :
    (State.rewindTo s i q).kept = s.kept := by
  simp [State.rewindTo]

@[simp] theorem State.rewindMark_kept (s : State) (i : Nat) :
    (State.rewindMark s i).kept = s.kept := by
  unfold State.rewindMark; repeat' split
  all_goals simp

@[simp] theorem State.nakIn_kept (s : State) (i q : Nat) :
    (State.nakIn s i q).kept = s.kept := by
  simp [State.nakIn]

@[simp] theorem State.probeNow_kept (s : State) (i : Nat) :
    (State.probeNow s i).kept = s.kept := by
  simp [State.probeNow]

end Sys2Proof.Machine
end

