-- ==== Sys2Proof/Laws/KeptSwitch.lean ====
section
/-!
SUPPORT. What the operations of `Machine/Switch.lean` leave of a state: the queue, the mirrors and the vault's counters.
-/

set_option Elab.async false

namespace Sys2Proof.Machine

@[simp] theorem State.moveCell_kept (s : State) (r : Rq) :
    (State.moveCell s r).kept = s.kept := by
  unfold State.moveCell; dsimp only; repeat' split
  all_goals simp

@[simp] theorem State.admitHeld_kept (s : State) (i o c : Nat) :
    (State.admitHeld s i o c).kept = s.kept := by
  unfold State.admitHeld; repeat' split
  all_goals simp

@[simp] theorem State.dropQueued_kept (s : State) (x : QFrame) (count : Bool) :
    (State.dropQueued s x count).kept = s.kept := by
  simp [State.dropQueued]

@[simp] theorem State.trimSweeps_kept (s : State) :
    (State.trimSweeps s).kept = s.kept := by
  simp [State.trimSweeps]

@[simp] theorem State.dropSweep_kept (s : State) (x : Nat × Frame) :
    (State.dropSweep s x).kept = s.kept := by
  simp [State.dropSweep]

@[simp] theorem State.retireBank_kept (s : State) (b : Nat) (hit : List Nat) :
    (State.retireBank s b hit).kept = s.kept := by
  simp [State.retireBank, kept_foldl]

@[simp] theorem State.audit_kept (s : State) (lost cross : List (Nat × Nat)) :
    (State.audit s lost cross).kept = s.kept := by
  simp [State.audit, kept_foldl]

end Sys2Proof.Machine
end

