-- ==== Sys2Proof/Laws/KeptJoin.lean ====
section
/-!
SUPPORT. What the operations of `Machine/Join.lean` leave of a state: the queue, the mirrors and the vault's counters.
-/

set_option Elab.async false

namespace Sys2Proof.Machine

@[simp] theorem State.setJoin_kept (s : State) (n : Nat) (j : Join) :
    (State.setJoin s n j).kept = s.kept := by
  simp [State.setJoin]

@[simp] theorem State.takeNode_kept (s : State) (n ring st : Nat) :
    (State.takeNode s n ring st).kept = s.kept := by
  simp [State.takeNode]

@[simp] theorem State.showSelf_kept (s : State) (n : Nat) :
    (State.showSelf s n).kept = s.kept := by
  simp [State.showSelf]

@[simp] theorem State.announce_kept (s : State) (n : Nat) :
    (State.announce s n).kept = s.kept := by
  simp [State.announce]

@[simp] theorem State.putStation_kept (s : State) (n st : Nat) :
    (State.putStation s n st).kept = s.kept := by
  simp [State.putStation]

@[simp] theorem State.withdraw_kept (s : State) (i : Nat) (t : Topo) :
    (State.withdraw s i t).kept = s.kept := by
  simp [State.withdraw]

@[simp] theorem State.takeStation_kept (s : State) (n st : Nat) :
    (State.takeStation s n st).kept = s.kept := by
  simp [State.takeStation]

@[simp] theorem State.joinLink_kept (s : State) (n : Nat) :
    (State.joinLink s n).kept = s.kept := by
  simp [State.joinLink]

@[simp] theorem State.roleChanged_kept (s : State) :
    (State.roleChanged s).kept = s.kept := by
  simp [State.roleChanged]

@[simp] theorem State.joinTime_kept (s : State) (i ring : Nat) :
    (State.joinTime s i ring).kept = s.kept := by
  simp [State.joinTime]

@[simp] theorem State.assignStation_kept (s : State) (i : Nat) (f : Frame) :
    (State.assignStation s i f).kept = s.kept := by
  simp [State.assignStation]

@[simp] theorem State.announceIn_kept (s : State) (i : Nat) (f : Frame) :
    (State.announceIn s i f).kept = s.kept := by
  simp [State.announceIn]

@[simp] theorem State.linkStateIn_kept (s : State) (i : Nat) (f : Frame) :
    (State.linkStateIn s i f).kept = s.kept := by
  simp [State.linkStateIn]

@[simp] theorem State.rootChanged_kept (s : State) (on : Bool) :
    (State.rootChanged s on).kept = s.kept := by
  simp [State.rootChanged]

@[simp] theorem State.setMaster_kept (s : State) (n : Nat) (on : Bool) :
    (State.setMaster s n on).kept = s.kept := by
  simp [State.setMaster]

end Sys2Proof.Machine
end

