-- ==== Sys2Proof/Laws/KeptTime.lean ====
section
/-!
SUPPORT. What the operations of `Machine/Time.lean` leave of a state: the queue, the mirrors and the vault's counters.
-/

set_option Elab.async false

namespace Sys2Proof.Machine

@[simp] theorem State.sendSync_kept (s : State) (n k : Nat) :
    (State.sendSync s n k).kept = s.kept := by
  simp [State.sendSync]

@[simp] theorem State.hearMaster_kept (s : State) (n : Nat) (m : Master) :
    (State.hearMaster s n m).kept = s.kept := by
  simp [State.hearMaster]

@[simp] theorem State.demote_kept (s : State) (n : Nat) (m : Master) :
    (State.demote s n m).kept = s.kept := by
  simp [State.demote]

@[simp] theorem State.choosePrimary_kept (s : State) (n : Nat) :
    (State.choosePrimary s n).kept = s.kept := by
  simp [State.choosePrimary]

@[simp] theorem State.followSync_kept (s : State) (n dir hops : Nat) (t : Int) :
    (State.followSync s n dir hops t).kept = s.kept := by
  simp [State.followSync]

@[simp] theorem State.takePublished_kept (s : State) (b : List Byte) :
    (State.takePublished s b).kept = s.kept := by
  unfold State.takePublished
  refine kept_foldl _ (fun s d => kept_foldl _ (fun s b => ?_) _ _) _ _
  split
  · rfl
  · split <;> simp

@[simp] theorem State.syncActs_kept (s : State) (i : Nat) (f : Frame) :
    (State.syncActs s i f).kept = s.kept := by
  simp [State.syncActs]

@[simp] theorem State.syncIn_kept (s : State) (i : Nat) (f : Frame) (res : Nat) :
    (State.syncIn s i f res).kept = s.kept := by
  simp [State.syncIn]

@[simp] theorem State.peerFrame_kept (s : State) (i op arg : Nat) (payload : List Byte) :
    (State.peerFrame s i op arg payload).kept = s.kept := by
  simp [State.peerFrame]

@[simp] theorem State.pdelayResp_kept (s : State) (i : Nat) (f : Frame) :
    (State.pdelayResp s i f).kept = s.kept := by
  simp [State.pdelayResp]

@[simp] theorem State.setPtpPort_kept (s : State) (j : Nat) (x : PtpPort) :
    (State.setPtpPort s j x).kept = s.kept := by
  simp [State.setPtpPort]

@[simp] theorem State.ptpSent_kept (s : State) (j : Nat) :
    (State.ptpSent s j).kept = s.kept := by
  simp [State.ptpSent]

@[simp] theorem State.ptpIn_kept (s : State) (j : Nat) (b : List Byte) :
    (State.ptpIn s j b).kept = s.kept := by
  simp [State.ptpIn]

@[simp] theorem State.tdRefuse_kept (s : State) (d : Nat) :
    (State.tdRefuse s d).kept = s.kept := by
  simp [State.tdRefuse]

@[simp] theorem State.tdSet_kept (s : State) (d : Nat) :
    (State.tdSet s d).kept = s.kept := by
  simp [State.tdSet]

@[simp] theorem State.tdStep_kept (s : State) (d : Nat) :
    (State.tdStep s d).kept = s.kept := by
  simp [State.tdStep]

@[simp] theorem State.tdSlew_kept (s : State) (d : Nat) :
    (State.tdSlew s d).kept = s.kept := by
  simp [State.tdSlew]

@[simp] theorem State.snap_kept (s : State) :
    (State.snap s).kept = s.kept := by
  simp [State.snap, kept_foldl]

@[simp] theorem State.edgeDue_kept (s : State) (c : Nat) :
    (State.edgeDue s c).kept = s.kept := by
  unfold State.edgeDue; repeat' split
  all_goals simp

end Sys2Proof.Machine
end

