-- ==== Sys2Proof/Laws/KeptSweep.lean ====
section
/-!
SUPPORT. What the operations of `Machine/Sweep.lean` leave of a state: the queue, the mirrors and the vault's counters.
-/

set_option Elab.async false

namespace Sys2Proof.Machine

@[simp] theorem State.passWindow_kept (s : State) (o k wrap : Nat) :
    (State.passWindow s o k wrap).kept = s.kept := by
  simp [State.passWindow]

@[simp] theorem State.sendSweep_kept (s : State) (o : Nat) (f : Frame) :
    (State.sendSweep s o f).kept = s.kept := by
  simp [State.sendSweep]

@[simp] theorem State.forwardSweep_kept (s : State) (i : Nat) (f : Frame) :
    (State.forwardSweep s i f).kept = s.kept := by
  simp [State.forwardSweep]

@[simp] theorem State.cycleFault_kept (s : State) (n : Nat) :
    (State.cycleFault s n).kept = s.kept := by
  simp [State.cycleFault]

@[simp] theorem State.cycleStart_kept (s : State) (n k : Nat) :
    (State.cycleStart s n k).kept = s.kept := by
  simp [State.cycleStart]

@[simp] theorem State.sweepBack_kept (s : State) (n : Nat) (f : Frame) :
    (State.sweepBack s n f).kept = s.kept := by
  unfold State.sweepBack; dsimp only; repeat' split
  all_goals simp

@[simp] theorem State.takeSlot_kept (s : State) (n k : Nat) (x : Slice) :
    (State.takeSlot s n k x).kept = s.kept := by
  simp [State.takeSlot]

@[simp] theorem State.takeOut_kept (s : State) (n k : Nat) (x : Slice) :
    (State.takeOut s n k x).kept = s.kept := by
  simp [State.takeOut]

@[simp] theorem State.slotIn_kept (s : State) (n k : Nat) (x : Slice) :
    (State.slotIn s n k x).2.kept = s.kept := by
  unfold State.slotIn; dsimp only; repeat' split
  all_goals simp

@[simp] theorem State.slotsIn_kept (s : State) (n k : Nat) (n0 : List Slice) :
    (State.slotsIn s n k n0).2.kept = s.kept := by
  induction n0 generalizing s with
  | nil => rfl
  | cons a l ih =>
    unfold State.slotsIn; dsimp only; repeat' split
    all_goals simp [ih]

@[simp] theorem State.sweepIn_kept (s : State) (i : Nat) (f : Frame) :
    (State.sweepIn s i f).kept = s.kept := by
  unfold State.sweepIn
  extract_lets u1 u2 s1 s2 u3 u4 u5 s3 u6 s4
  have h1 : s1.kept = s.kept := by simp only [s1]; (repeat' split) <;> simp [*, kept_foldl]
  clear_value s1
  have h2 : s2.kept = s.kept := by simp only [s2]; (repeat' split) <;> simp [*, kept_foldl]
  clear_value s2
  have h3 : s3.kept = s.kept := by simp only [s3]; (repeat' split) <;> simp [*, kept_foldl]
  clear_value s3
  have h4 : s4.kept = s.kept := by simp only [s4]; (repeat' split) <;> simp [*, kept_foldl]
  clear_value s4
  split
  rename_i a5 b5 e5
  have h5 : b5.kept = s.kept := by
    have := congrArg (fun x => x.2.kept) e5
    dsimp only at this
    rw [← this]; (repeat' split) <;> simp [*, kept_foldl]
  clear e5
  extract_lets s6
  have h6 : s6.kept = s.kept := by simp only [s6]; (repeat' split) <;> simp [*, kept_foldl]
  clear_value s6
  try dsimp only
  (repeat' split) <;> simp [*, kept_foldl]

end Sys2Proof.Machine
end

