-- ==== Sys2Proof/Laws/KeptTunnel.lean ====
section
/-!
SUPPORT. What the operations of `Machine/Tunnel.lean` leave of a state: the queue, the mirrors and the vault's counters.
-/

set_option Elab.async false

namespace Sys2Proof.Machine

@[simp] theorem State.setTxq_kept (s : State) (c : Nat) (q : List TxItem) :
    (State.setTxq s c q).kept = s.kept := by
  simp [State.setTxq]

@[simp] theorem State.tunnelCopy_kept (s : State) (t at_ : Nat) (item : List Byte) :
    (State.tunnelCopy s t at_ item).kept = s.kept := by
  simp [State.tunnelCopy]

@[simp] theorem State.tunnelIn_kept (s : State) (kind : Nat) (src : Option (Nat × Nat)) (at_ : Nat) (item : List Byte) :
    (State.tunnelIn s kind src at_ item).kept = s.kept := by
  simp [State.tunnelIn, kept_foldl]

@[simp] theorem State.setTunq_kept (s : State) (t : Nat) (q : List TunFrame) :
    (State.setTunq s t q).kept = s.kept := by
  simp [State.setTunq]

@[simp] theorem State.tunSend_kept (s : State) (t tc : Nat) (item : List Byte) :
    (State.tunSend s t tc item).kept = s.kept := by
  unfold State.tunSend; repeat' split
  all_goals simp

@[simp] theorem State.pumpTun_kept (s : State) (t : Nat) (n0 : Nat) :
    (State.pumpTun s t n0).kept = s.kept := by
  induction n0 generalizing s with
  | zero => rfl
  | succ n ih =>
    unfold State.pumpTun; dsimp only; repeat' split
    all_goals simp [ih]

@[simp] theorem State.pumpCtl_kept (s : State) (k i : Nat) :
    (State.pumpCtl s k i).kept = s.kept := by
  simp [State.pumpCtl, kept_foldl]

@[simp] theorem State.tunEgress_kept (s : State) (t : Nat) (f : Frame) :
    (State.tunEgress s t f).kept = s.kept := by
  simp [State.tunEgress]

end Sys2Proof.Machine
end

