-- ==== Sys2Proof/Laws/KeptPctl.lean ====
section
/-!
SUPPORT. What the operations of `Machine/Pctl.lean` leave of a state: the queue, the mirrors and the vault's counters.
-/

set_option Elab.async false

namespace Sys2Proof.Machine

@[simp] theorem State.fillRecv_kept (s : State) (k : Nat) (t : Tx) (item : List Byte) (at_ result : Nat) :
    (State.fillRecv s k t item at_ result).kept = s.kept := by
  simp [State.fillRecv]

@[simp] theorem State.setBusOp_kept (s : State) (p : Nat) (x : Option BusOp) :
    (State.setBusOp s p x).kept = s.kept := by
  simp [State.setBusOp]

@[simp] theorem State.objectTakes_kept (s : State) (m : Nat) (data : List Byte) :
    (State.objectTakes s m data).kept = s.kept := by
  simp [State.objectTakes]

@[simp] theorem State.condCtl_kept (s : State) (k i reason : Nat) (on : Bool) :
    (State.condCtl s k i reason on).kept = s.kept := by
  simp [State.condCtl, kept_foldl]

@[simp] theorem State.setRxq_kept (s : State) (p : Nat) (q : List RawItem) :
    (State.setRxq s p q).kept = s.kept := by
  simp [State.setRxq]

@[simp] theorem State.rawIn_kept (s : State) (p : Nat) (item : List Byte) :
    (State.rawIn s p item).kept = s.kept := by
  unfold State.rawIn; repeat' split
  all_goals simp

@[simp] theorem State.recognise_kept (s : State) (p i v : Nat) :
    (State.recognise s p i v).kept = s.kept := by
  simp [State.recognise]

@[simp] theorem State.setAuto_kept (s : State) (c : Nat) (x : Nat × Nat) :
    (State.setAuto s c x).kept = s.kept := by
  simp [State.setAuto]

@[simp] theorem State.autoHit_kept (s : State) (k i n need : Nat) :
    (State.autoHit s k i n need).kept = s.kept := by
  simp [State.autoHit]

@[simp] theorem State.canCounters_kept (s : State) (i tec rec : Nat) :
    (State.canCounters s i tec rec).kept = s.kept := by
  simp [State.canCounters]

@[simp] theorem State.canSent_kept (s : State) (i : Nat) (ok : Bool) :
    (State.canSent s i ok).kept = s.kept := by
  simp [State.canSent]

@[simp] theorem State.autoData_kept (s : State) (i : Nat) (item : List Byte) :
    (State.autoData s i item).kept = s.kept := by
  simp [State.autoData]

@[simp] theorem State.canRejoin_kept (s : State) (i : Nat) :
    (State.canRejoin s i).kept = s.kept := by
  simp [State.canRejoin]

@[simp] theorem State.dropTx_kept (s : State) (k i : Nat) (x : TxItem) :
    (State.dropTx s k i x).kept = s.kept := by
  simp [State.dropTx]

@[simp] theorem State.rawSend_kept (s : State) (p : Nat) (r : Req) :
    (State.rawSend s p r).kept = s.kept := by
  unfold State.rawSend; repeat' split
  all_goals simp

@[simp] theorem State.setPdOut_kept (s : State) (p : Nat) (x : List Byte × Bool) :
    (State.setPdOut s p x).kept = s.kept := by
  simp [State.setPdOut]

@[simp] theorem State.busOut_kept (s : State) (k i : Nat) (what : String) (b : List Byte) :
    (State.busOut s k i what b).kept = s.kept := by
  unfold State.busOut; repeat' split
  all_goals simp

@[simp] theorem State.freezeObjects_kept (s : State) (k : Nat) (changed : List Nat) :
    (State.freezeObjects s k changed).kept = s.kept := by
  simp [State.freezeObjects, kept_foldl]

@[simp] theorem State.sendObjects_kept (s : State) :
    (State.sendObjects s).kept = s.kept := by
  simp [State.sendObjects, kept_foldl]

@[simp] theorem State.setPolls_kept (s : State) (i : Nat) (q : List Nat) :
    (State.setPolls s i q).kept = s.kept := by
  simp [State.setPolls]

@[simp] theorem State.setPoll_kept (s : State) (i : Nat) (m : Option Nat) :
    (State.setPoll s i m).kept = s.kept := by
  simp [State.setPoll]

@[simp] theorem State.startPoll_kept (s : State) (i : Nat) :
    (State.startPoll s i).kept = s.kept := by
  unfold State.startPoll; repeat' split
  all_goals simp

@[simp] theorem State.pollEnd_kept (s : State) (i : Nat) :
    (State.pollEnd s i).kept = s.kept := by
  simp [State.pollEnd]

@[simp] theorem State.pollsDue_kept (s : State) (k : Nat) :
    (State.pollsDue s k).kept = s.kept := by
  simp [State.pollsDue, kept_foldl]

@[simp] theorem State.pollAnswer_kept (s : State) (i m : Nat) (e : PollEnd) :
    (State.pollAnswer s i m e).kept = s.kept := by
  unfold State.pollAnswer; repeat' split
  all_goals simp

@[simp] theorem State.nextRate_kept (s : State) (k i : Nat) :
    (State.nextRate s k i).kept = s.kept := by
  unfold State.nextRate; dsimp only; repeat' split
  all_goals simp

@[simp] theorem State.setTries_kept (s : State) (p n : Nat) :
    (State.setTries s p n).kept = s.kept := by
  simp [State.setTries]

@[simp] theorem State.iolWakeup_kept (s : State) (p : Nat) (com : Option (Nat × Nat × Nat)) :
    (State.iolWakeup s p com).kept = s.kept := by
  unfold State.iolWakeup; repeat' split
  all_goals simp

@[simp] theorem State.iolPower_kept (s : State) (p : Nat) :
    (State.iolPower s p).kept = s.kept := by
  simp [State.iolPower]

@[simp] theorem State.iolRestart_kept (s : State) (p : Nat) :
    (State.iolRestart s p).kept = s.kept := by
  simp [State.iolRestart]

@[simp] theorem State.dropItems_kept (s : State) (k i : Nat) :
    (State.dropItems s k i).kept = s.kept := by
  unfold State.dropItems; dsimp only; repeat' split
  all_goals simp

@[simp] theorem State.restartController_kept (s : State) (k i : Nat) :
    (State.restartController s k i).kept = s.kept := by
  simp [State.restartController]

end Sys2Proof.Machine
end

