-- ==== Sys2Proof/Laws/KeptBriar.lean ====
section
/-!
SUPPORT. What the operations of `Machine/Briar.lean` leave of a state: the queue, the mirrors and the vault's counters.
-/

set_option Elab.async false

namespace Sys2Proof.Machine

@[simp] theorem State.chanDrive_kept (s : State) (p x : Nat) (level on : Bool) :
    (State.chanDrive s p x level on).kept = s.kept := by
  simp [State.chanDrive]

@[simp] theorem State.applyChan_kept (s : State) (p : Nat) :
    (State.applyChan s p).kept = s.kept := by
  simp [State.applyChan, kept_foldl]

@[simp] theorem State.bPush_kept (s : State) (e c : Nat) (x : Chan) (block : Bool) :
    (State.bPush s e c x block).s.kept = s.kept := by
  unfold State.bPush; repeat' split
  all_goals simp

@[simp] theorem State.bPull_kept (s : State) (e c : Nat) (x : Chan) (block : Bool) :
    (State.bPull s e c x block).s.kept = s.kept := by
  unfold State.bPull; repeat' split
  all_goals simp

@[simp] theorem State.bJmp_kept (s : State) (e c lv w : Nat) (x : Chan) :
    (State.bJmp s e c lv w x).s.kept = s.kept := by
  unfold State.bJmp; dsimp only; repeat' split
  all_goals simp

@[simp] theorem State.bWait_kept (s : State) (e c lv w : Nat) (again : Bool) (x : Chan) :
    (State.bWait s e c lv w again x).s.kept = s.kept := by
  unfold State.bWait; dsimp only; repeat' split
  all_goals simp

@[simp] theorem State.bIn_kept (s : State) (e c lv w : Nat) (x : Chan) :
    (State.bIn s e c lv w x).s.kept = s.kept := by
  unfold State.bIn; dsimp only; repeat' split
  all_goals simp

@[simp] theorem State.bOut_kept (s : State) (e c w : Nat) (x : Chan) :
    (State.bOut s e c w x).s.kept = s.kept := by
  unfold State.bOut; dsimp only; repeat' split
  all_goals simp

@[simp] theorem State.bPushInsn_kept (s : State) (e c w : Nat) (x : Chan) :
    (State.bPushInsn s e c w x).s.kept = s.kept := by
  unfold State.bPushInsn; repeat' split
  all_goals simp

@[simp] theorem State.bPullInsn_kept (s : State) (e c w : Nat) (x : Chan) :
    (State.bPullInsn s e c w x).s.kept = s.kept := by
  unfold State.bPullInsn; repeat' split
  all_goals simp

@[simp] theorem State.bMov_kept (s : State) (e c lv w : Nat) (x : Chan) :
    (State.bMov s e c lv w x).s.kept = s.kept := by
  unfold State.bMov; repeat' split
  all_goals simp

@[simp] theorem State.bSet_kept (s : State) (e c w : Nat) (x : Chan) :
    (State.bSet s e c w x).s.kept = s.kept := by
  unfold State.bSet; repeat' split
  all_goals simp

@[simp] theorem State.bIrq_kept (s : State) (e c w : Nat) (x : Chan) :
    (State.bIrq s e c w x).s.kept = s.kept := by
  unfold State.bIrq; repeat' split
  all_goals simp

@[simp] theorem State.bTimewait_kept (s : State) (e c w : Nat) (x : Chan) :
    (State.bTimewait s e c w x).s.kept = s.kept := by
  unfold State.bTimewait; dsimp only; repeat' split
  all_goals simp

@[simp] theorem State.bCnt_kept (s : State) (e c w : Nat) (x : Chan) :
    (State.bCnt s e c w x).s.kept = s.kept := by
  simp [State.bCnt]

@[simp] theorem State.swapDone_kept (s : State) (e : Nat) :
    (State.swapDone s e).kept = s.kept := by
  simp [State.swapDone]

@[simp] theorem State.putChan_kept (s : State) (e c : Nat) (x : Chan) :
    (State.putChan s e c x).kept = s.kept := by
  unfold State.putChan; dsimp only; repeat' split
  all_goals simp

@[simp] theorem State.finishInsn_kept (s : State) (e c w pc : Nat) (r : BRes) :
    (State.finishInsn s e c w pc r).kept = r.s.kept := by
  simp [State.finishInsn]

@[simp] theorem State.haltChan_kept (s : State) (e c : Nat) :
    (State.haltChan s e c).kept = s.kept := by
  simp [State.haltChan]

@[simp] theorem State.askStart_kept (s : State) (e c : Nat) (on : Bool) :
    (State.askStart s e c on).kept = s.kept := by
  simp [State.askStart]

@[simp] theorem State.startChan_kept (s : State) (e c : Nat) :
    (State.startChan s e c).kept = s.kept := by
  simp [State.startChan]

@[simp] theorem State.slotStart_kept (s : State) (e c : Nat) :
    (State.slotStart s e c).kept = s.kept := by
  simp [State.slotStart]

@[simp] theorem State.chanCycle_kept (s : State) (e c op : Nat) (f : State → Nat → Chan → BRes) (hf : ∀ s w x, (f s w x).s.kept = s.kept) :
    (State.chanCycle s e c op f).kept = s.kept := by
  unfold State.chanCycle; dsimp only; repeat' split
  all_goals simp [hf]

@[simp] theorem State.bTimeAgain_kept (s : State) (e c w : Nat) (x : Chan) :
    (State.bTimeAgain s e c w x).s.kept = s.kept := by
  unfold State.bTimeAgain; dsimp only; repeat' split
  all_goals simp

@[simp] theorem State.resumeChan_kept (s : State) (e c lv : Nat) :
    (State.resumeChan s e c lv).kept = s.kept := by
  unfold State.resumeChan; extract_lets x
  split
  · rfl
  · rename_i w r _ _
    have h : r.s.kept = s.kept := by
      simp only [r]; split <;> simp
    split <;> simp [h]

@[simp] theorem State.cycleIrq_kept (s : State) (i : Nat) :
    (State.cycleIrq s i).kept = s.kept := by
  simp [State.cycleIrq, kept_foldl]

@[simp] theorem State.autoStart_kept (s : State) :
    (State.autoStart s).kept = s.kept := by
  simp [State.autoStart, kept_foldl]

@[simp] theorem State.engStop_kept (s : State) (e mask : Nat) :
    (State.engStop s e mask).kept = s.kept := by
  simp [State.engStop, kept_foldl]

@[simp] theorem State.engRestart_kept (s : State) (e mask : Nat) :
    (State.engRestart s e mask).kept = s.kept := by
  simp [State.engRestart, kept_foldl]

@[simp] theorem State.engStartT_kept (s : State) (e t : Nat) :
    (State.engStartT s e t).kept = s.kept := by
  simp [State.engStartT, kept_foldl]

@[simp] theorem State.armSwap_kept (s : State) (e : Nat) :
    (State.armSwap s e).kept = s.kept := by
  simp [State.armSwap, kept_foldl]

@[simp] theorem State.skipFrames_kept (s : State) (e c n : Nat) (n0 : Nat) :
    (State.skipFrames s e c n n0).kept = s.kept := by
  induction n0 generalizing s with
  | zero => rfl
  | succ n ih =>
    unfold State.skipFrames; dsimp only; repeat' split
    all_goals simp [ih]

@[simp] theorem State.rxFrame_kept (s : State) (e c : Nat) :
    (State.rxFrame s e c).kept = s.kept := by
  simp [State.rxFrame, kept_foldl]

@[simp] theorem State.txFrame_kept (s : State) (e c : Nat) (took : List Nat) (vals : List (Nat × Nat)) :
    (State.txFrame s e c took vals).kept = s.kept := by
  simp [State.txFrame]

end Sys2Proof.Machine
end

