-- ==== Sys2Proof/Laws/KeptBridge.lean ====
section
/-!
SUPPORT. What the operations of `Machine/Bridge.lean` leave of a state: the queue, the mirrors and the vault's counters.
-/

set_option Elab.async false

namespace Sys2Proof.Machine

@[simp] theorem State.setBrgq_kept (s : State) (p : Nat) (q : List BusOp) :
    (State.setBrgq s p q).kept = s.kept := by
  simp [State.setBrgq]

@[simp] theorem State.setLockq_kept (s : State) (p : Nat) (q : List BusOp) :
    (State.setLockq s p q).kept = s.kept := by
  simp [State.setLockq]

@[simp] theorem State.sendOp_kept (s : State) (p k i : Nat) (o : BusOp) (write : Bool) (first count : Nat) (data : List Byte) :
    (State.sendOp s p k i o write first count data).kept = s.kept := by
  simp [State.sendOp]

theorem State.cached_kept (s : State) (k p : Nat) (r : Req) :
    ∀ out, State.cached s k p r = some out → out.2.2.kept = s.kept := by
  intro out h
  unfold State.cached at h; split at h
  · exact State.cacheHit_kept _ _ _ _ _ _ h
  · cases h

@[simp] theorem State.lateExpiry_kept (s : State) (p : Nat) :
    (State.lateExpiry s p).kept = s.kept := by
  unfold State.lateExpiry; repeat' split
  all_goals simp

@[simp] theorem State.endOp_kept (s : State) (p : Nat) (o : BusOp) (out : Outc) :
    (State.endOp s p o out).kept = s.kept := by
  unfold State.endOp; dsimp only; repeat' split
  all_goals simp

@[simp] theorem State.freeBytes_kept (s : State) (n0 : Nat) :
    (State.freeBytes s n0).2.kept = s.kept := by
  induction n0 generalizing s with
  | zero => rfl
  | succ n ih =>
    unfold State.freeBytes; dsimp only; repeat' split
    all_goals simp [ih]

@[simp] theorem State.readData_kept (s : State) (d : List Byte) (n : Nat) :
    (State.readData s d n).2.kept = s.kept := by
  simp [State.readData]

@[simp] theorem State.startOp_kept (s : State) (p : Nat) (o : BusOp) :
    (State.startOp s p o).kept = s.kept := by
  unfold State.startOp; dsimp only
  split
  · simp
  · split
    · split <;> simp
    · split
      · simp
      · split
        · split
          · rename_i h
            have k := State.cached_kept _ _ _ _ _ h
            dsimp only at k; simp [k]
          · simp
        · simp

@[simp] theorem State.serve_kept (s : State) (p : Nat) :
    (State.serve s p).kept = s.kept := by
  unfold State.serve; repeat' split
  all_goals simp

@[simp] theorem State.enqueue_kept (s : State) (p : Nat) (o : BusOp) :
    (State.enqueue s p o).kept = s.kept := by
  simp [State.enqueue]

@[simp] theorem State.devAccess_kept (s : State) (r : Req) :
    (State.devAccess s r).kept = s.kept := by
  unfold State.devAccess; dsimp only
  repeat' split
  all_goals try (simp [*, kept_foldl]; done)
  all_goals
    rename_i h
    have k := State.cached_kept _ _ _ _ _ h
    dsimp only at k; simp [k]

@[simp] theorem State.opData_kept (s : State) (p k i : Nat) (o : BusOp) (b : List Byte) :
    (State.opData s p k i o b).kept = s.kept := by
  unfold State.opData; dsimp only; repeat' split
  all_goals simp

@[simp] theorem State.opFails_kept (s : State) (p : Nat) (o : BusOp) (status result : Nat) :
    (State.opFails s p o status result).kept = s.kept := by
  simp [State.opFails]

@[simp] theorem State.modbusIn_kept (s : State) (i : Nat) (x : ModbusRsp) :
    (State.modbusIn s i x).kept = s.kept := by
  unfold State.modbusIn; repeat' split
  all_goals simp

@[simp] theorem State.modbusTimeout_kept (s : State) (i : Nat) :
    (State.modbusTimeout s i).kept = s.kept := by
  unfold State.modbusTimeout; repeat' split
  all_goals simp

@[simp] theorem State.conflict_kept (s : State) (r : Req) (node : Nat) :
    (State.conflict s r node).kept = s.kept := by
  simp [State.conflict]

@[simp] theorem State.lockIn_kept (s : State) (p : Nat) (r : Req) :
    (State.lockIn s p r).kept = s.kept := by
  unfold State.lockIn; dsimp only; repeat' split
  all_goals simp

@[simp] theorem State.grant_kept (s : State) (p : Nat) (r : Req) :
    (State.grant s p r).kept = s.kept := by
  unfold State.grant; dsimp only; repeat' split
  all_goals simp

@[simp] theorem State.closeWindow_kept (s : State) (p : Nat) :
    (State.closeWindow s p).kept = s.kept := by
  unfold State.closeWindow; dsimp only; repeat' split
  all_goals simp [kept_foldl]

@[simp] theorem State.expireLock_kept (s : State) (p : Nat) :
    (State.expireLock s p).kept = s.kept := by
  unfold State.expireLock; repeat' split
  all_goals simp

@[simp] theorem State.ctlStops_kept (s old : State) (k i : Nat) :
    (State.ctlStops s old k i).kept = s.kept := by
  unfold State.ctlStops; repeat' split
  all_goals simp

@[simp] theorem State.bridgeError_kept (s : State) (e : BrgError) :
    (State.bridgeError s e).kept = s.kept := by
  unfold State.bridgeError
  cases e <;> dsimp only
  all_goals (repeat' split)
  all_goals simp

end Sys2Proof.Machine
end

