-- ==== Sys2Proof/Laws/KeptDelta.lean ====
section
/-!
SUPPORT. What the operations of `Machine/Delta.lean` leave of a state: the queue, the mirrors and the vault's counters.
-/

set_option Elab.async false

namespace Sys2Proof.Machine

@[simp] theorem State.noteDelta_kept (s : State) (n : Nat) :
    (State.noteDelta s n).kept = s.kept := by
  simp [State.noteDelta]

@[simp] theorem State.startSend_kept (s : State) (d : Delta) (late : Bool) :
    (State.startSend s d late).kept = s.kept := by
  simp [State.startSend]

@[simp] theorem State.deltaInTime_kept (s : State) :
    (State.deltaInTime s).kept = s.kept := by
  simp [State.deltaInTime]

@[simp] theorem State.endSend_kept (s : State) :
    (State.endSend s).kept = s.kept := by
  simp [State.endSend]

@[simp] theorem State.twinTurn_kept (s : State) :
    (State.twinTurn s).kept = s.kept := by
  unfold State.twinTurn; dsimp only; repeat' split
  all_goals simp

@[simp] theorem State.sendDelta_kept (s : State) (k : Nat) :
    (State.sendDelta s k).kept = s.kept := by
  simp [State.sendDelta]

@[simp] theorem State.missWindow_kept (s : State) :
    (State.missWindow s).kept = s.kept := by
  unfold State.missWindow; dsimp only; repeat' split
  all_goals simp

@[simp] theorem State.startResync_kept (s : State) :
    (State.startResync s).kept = s.kept := by
  simp [State.startResync]

@[simp] theorem State.noteShadow_kept (s : State) (k : Nat) :
    (State.noteShadow s k).kept = s.kept := by
  simp [State.noteShadow]

@[simp] theorem State.takeDeltaPoint_kept (s : State) (x : DeltaPoint) :
    (State.takeDeltaPoint s x).kept = s.kept := by
  simp [State.takeDeltaPoint]

@[simp] theorem State.deltaIn_kept (s : State) (d : Delta) :
    (State.deltaIn s d).kept = s.kept := by
  simp [State.deltaIn, kept_foldl]

@[simp] theorem State.deltaArrives_kept (s : State) (d : Delta) :
    (State.deltaArrives s d).kept = s.kept := by
  simp [State.deltaArrives]

@[simp] theorem State.takeHeldDelta_kept (s : State) :
    (State.takeHeldDelta s).kept = s.kept := by
  unfold State.takeHeldDelta; repeat' split
  all_goals simp

end Sys2Proof.Machine
end

