-- ==== Sys2Proof/Laws/KeptCycle.lean ====
section
/-!
SUPPORT. What the operations of `Machine/Cycle.lean` leave of a state: the queue, the mirrors and the vault's counters.
-/

set_option Elab.async false

namespace Sys2Proof.Machine

@[simp] theorem State.capturePin_kept (s : State) (n : Nat) :
    (State.capturePin s n).kept = s.kept := by
  unfold State.capturePin; dsimp only; repeat' split
  all_goals simp

@[simp] theorem State.publish_kept (s : State) (n k : Nat) :
    (State.publish s n k).kept = s.kept := by
  simp [State.publish]

@[simp] theorem State.captureInstant_kept (s : State) (n k : Nat) (m : Measured) (cj : List (Fin 64 × Int)) :
    (State.captureInstant s n k m cj).kept = s.kept := by
  simp [State.captureInstant, kept_foldl]

@[simp] theorem State.takeField_kept (s : State) (n k p : Nat) :
    (State.takeField s n k p).kept = s.kept := by
  unfold State.takeField; dsimp only; repeat' split
  all_goals simp

@[simp] theorem State.detachCheck_kept (s : State) (k : Nat) :
    (State.detachCheck s k).kept = s.kept := by
  simp [State.detachCheck]

@[simp] theorem State.exchangeClose_kept (s : State) (n k : Nat) :
    (State.exchangeClose s n k).kept = s.kept := by
  simp [State.exchangeClose, kept_foldl]

@[simp] theorem State.freezePoint_kept (s : State) (n : Nat) :
    (State.freezePoint s n).kept = s.kept := by
  simp [State.freezePoint]

@[simp] theorem State.setPinEdges_kept (s : State) (c : Nat) (es : List Edge) :
    (State.setPinEdges s c es).kept = s.kept := by
  simp [State.setPinEdges]

@[simp] theorem State.handEdge_kept (s : State) (c : Nat) (e : Edge) (now : Bool) :
    (State.handEdge s c e now).kept = s.kept := by
  simp [State.handEdge]

@[simp] theorem State.handEdges_kept (s : State) (ns : List Nat) :
    (State.handEdges s ns).kept = s.kept := by
  simp [State.handEdges, kept_foldl]

@[simp] theorem State.freeze_kept (s : State) :
    (State.freeze s).kept = s.kept := by
  simp [State.freeze, kept_foldl]

@[simp] theorem State.applyVals_kept (s : State) (vals : List (Nat × Nat)) :
    (State.applyVals s vals).kept = s.kept := by
  simp [State.applyVals, kept_foldl]

@[simp] theorem State.applySupplies_kept (s : State) :
    (State.applySupplies s).kept = s.kept := by
  simp [State.applySupplies, kept_foldl]

@[simp] theorem State.deadlineCome_kept (s : State) :
    (State.deadlineCome s).kept = s.kept := by
  simp [State.deadlineCome]

@[simp] theorem State.resumePins_kept (s : State) :
    (State.resumePins s).kept = s.kept := by
  simp [State.resumePins, kept_foldl]

@[simp] theorem State.startPulse_kept (s : State) :
    (State.startPulse s).kept = s.kept := by
  unfold State.startPulse; repeat' split
  all_goals simp

@[simp] theorem State.outputDeadline_kept (s : State) :
    (State.outputDeadline s).kept = s.kept := by
  unfold State.outputDeadline; dsimp only; repeat' split
  all_goals simp [kept_foldl]

end Sys2Proof.Machine
end

