-- ==== Sys2Proof/Laws/KeptTwin.lean ====
section
/-!
SUPPORT. What the operations of `Machine/Twin.lean` leave of a state: the queue, the mirrors and the vault's counters.
-/

set_option Elab.async false

namespace Sys2Proof.Machine

@[simp] theorem State.setRole_kept (s : State) (role pair : Nat) :
    (State.setRole s role pair).kept = s.kept := by
  simp [State.setRole]

@[simp] theorem State.joinRings_kept (s : State) :
    (State.joinRings s).kept = s.kept := by
  simp [State.joinRings]

@[simp] theorem State.releasePins_kept (s : State) :
    (State.releasePins s).kept = s.kept := by
  simp [State.releasePins, kept_foldl]

@[simp] theorem State.dropActive_kept (s : State) :
    (State.dropActive s).kept = s.kept := by
  simp [State.dropActive]

@[simp] theorem State.becomeStandby_kept (s : State) (pair : Nat) :
    (State.becomeStandby s pair).kept = s.kept := by
  simp [State.becomeStandby]

@[simp] theorem State.twinForm_kept (s : State) (equal peerActive : Bool) :
    (State.twinForm s equal peerActive).kept = s.kept := by
  simp [State.twinForm]

@[simp] theorem State.restartAll_kept (s : State) :
    (State.restartAll s).kept = s.kept := by
  simp [State.restartAll, kept_foldl]

@[simp] theorem State.enablePins_kept (s : State) :
    (State.enablePins s).kept = s.kept := by
  simp [State.enablePins, kept_foldl]

@[simp] theorem State.takeState_kept (s : State) :
    (State.takeState s).kept = s.kept := by
  simp [State.takeState]

@[simp] theorem State.takeRole_kept (s : State) :
    (State.takeRole s).kept = s.kept := by
  simp [State.takeRole]

@[simp] theorem State.takeRing_kept (s : State) (n : Nat) :
    (State.takeRing s n).kept = s.kept := by
  simp [State.takeRing]

@[simp] theorem State.takeOver_kept (s : State) :
    (State.takeOver s).kept = s.kept := by
  simp [State.takeOver]

@[simp] theorem State.startSwitch_kept (s : State) :
    (State.startSwitch s).kept = s.kept := by
  simp [State.startSwitch]

@[simp] theorem State.askPulse_kept (s : State) :
    (State.askPulse s).kept = s.kept := by
  simp [State.askPulse]

end Sys2Proof.Machine
end

