-- ==== Sys2Proof/Laws/KeptFaults.lean ====
section
/-!
SUPPORT. What the operations of `Machine/Faults.lean` leave of a state: the queue, the mirrors and the vault's counters.
-/

set_option Elab.async false

namespace Sys2Proof.Machine

@[simp] theorem State.occurrence_kept (s : State) (b : Nat) (c : FClass) (detail : Nat) :
    (State.occurrence s b c detail).kept = s.kept := by
  simp [State.occurrence]

@[simp] theorem State.safeEnterCmd_kept (s : State) :
    (State.safeEnterCmd s).kept = s.kept := by
  simp [State.safeEnterCmd]

@[simp] theorem State.leaveSafe_kept (s : State) :
    (State.leaveSafe s).kept = s.kept := by
  simp [State.leaveSafe, kept_foldl]

@[simp] theorem State.safeExitCmd_kept (s : State) :
    (State.safeExitCmd s).kept = s.kept := by
  simp [State.safeExitCmd]

@[simp] theorem State.flushLogs_kept (s : State) :
    (State.flushLogs s).kept = s.kept := by
  simp [State.flushLogs]

@[simp] theorem State.logFails_kept (s : State) :
    (State.logFails s).kept = s.kept := by
  simp [State.logFails]

@[simp] theorem State.logGo_kept (s : State) (l : Nat) (seq : Option Nat) :
    (State.logGo s l seq).kept = s.kept := by
  simp [State.logGo]

@[simp] theorem State.logCopied_kept (s : State) (ok : Bool) :
    (State.logCopied s ok).kept = s.kept := by
  unfold State.logCopied; dsimp only; repeat' split
  all_goals simp

end Sys2Proof.Machine
end

