-- ==== Sys2Proof/Laws/KeptRestart.lean ====
section
/-!
SUPPORT. What the operations of `Machine/Restart.lean` leave of a state: the queue, the mirrors and the vault's counters.
-/

set_option Elab.async false

namespace Sys2Proof.Machine

@[simp] theorem State.showVault_kept (s : State) :
    (State.showVault s).kept = s.kept := by
  simp [State.showVault]

@[simp] theorem State.restart_kept (s : State) :
    (State.restart s).kept = s.kept := by
  simp [State.restart]

end Sys2Proof.Machine
end

