-- ==== Sys2Proof/Laws/KeptObjects.lean ====
section
/-!
SUPPORT. What the operations of `Machine/Objects.lean` leave of a state: the queue, the mirrors and the vault's counters.
-/

set_option Elab.async false

namespace Sys2Proof.Machine

@[simp] theorem BootSt.setObj_fwMirror (b : BootSt) (kind n : Nat) (x : Obj) : (b.setObj kind n x).fwMirror = b.fwMirror := by
  unfold BootSt.setObj; (repeat' split) <;> rfl

@[simp] theorem BootSt.setObj_bndMirror (b : BootSt) (kind n : Nat) (x : Obj) : (b.setObj kind n x).bndMirror = b.bndMirror := by
  unfold BootSt.setObj; (repeat' split) <;> rfl

@[simp] theorem State.setObj_kept (s : State) (kind n : Nat) (x : Obj) :
    (State.setObj s kind n x).kept = s.kept := by
  simp [State.setObj]

@[simp] theorem State.signBoth_kept (s : State) (msg : List Byte) :
    (State.signBoth s msg).2.kept = s.kept := by
  simp [State.signBoth]

end Sys2Proof.Machine
end

