-- ==== Sys2Proof/Laws/KeptAuth.lean ====
section
/-!
SUPPORT. What the operations of `Machine/Auth.lean` leave of a state: the queue, the mirrors and the vault's counters.
-/

set_option Elab.async false

namespace Sys2Proof.Machine

@[simp] theorem State.sendAuth_kept (s : State) (i msg reason : Nat) (body : List Byte) :
    (State.sendAuth s i msg reason body).kept = s.kept := by
  simp [State.sendAuth, kept_foldl]

@[simp] theorem State.authIn_kept (s : State) (i msg : Nat) (fs : List Frame) :
    (State.authIn s i msg fs).2.kept = s.kept := by
  simp [State.authIn, kept_foldl]

@[simp] theorem State.authFail_kept (s : State) (i reason : Nat) :
    (State.authFail s i reason).kept = s.kept := by
  simp [State.authFail]

@[simp] theorem State.shares_kept (s : State) :
    (State.shares s).2.2.kept = s.kept := by
  simp [State.shares]

@[simp] theorem State.answer_kept (s : State) (body : List Byte) :
    (State.answer s body).2.2.kept = s.kept := by
  simp [State.answer]

@[simp] theorem State.sendProof_kept (s : State) (i : Nat) (script : List Byte) :
    (State.sendProof s i script).2.kept = s.kept := by
  simp [State.sendProof]

@[simp] theorem State.setAuth_kept (s : State) (i : Nat) (h : Hand) :
    (State.setAuth s i h).kept = s.kept := by
  simp [State.setAuth]

@[simp] theorem State.sayHello_kept (s : State) (i : Nat) :
    (State.sayHello s i).kept = s.kept := by
  simp [State.sayHello]

@[simp] theorem State.helloIn_kept (s : State) (i : Nat) (body : List Byte) :
    (State.helloIn s i body).kept = s.kept := by
  simp [State.helloIn]

@[simp] theorem State.enterUp_kept (s : State) (i : Nat) (keys : Lane) :
    (State.enterUp s i keys).kept = s.kept := by
  simp [State.enterUp]

@[simp] theorem State.setRekey_kept (s : State) (i : Nat) (h : Hand) :
    (State.setRekey s i h).kept = s.kept := by
  simp [State.setRekey]

@[simp] theorem State.startRekey_kept (s : State) (i : Nat) :
    (State.startRekey s i).kept = s.kept := by
  simp [State.startRekey]

end Sys2Proof.Machine
end

