-- ==== Sys2Proof/Laws/KeptPower.lean ====
section
/-!
SUPPORT. What the operations of `Machine/Power.lean` leave of a state: the queue, the mirrors and the vault's counters.
-/

set_option Elab.async false

namespace Sys2Proof.Machine

@[simp] theorem State.showPower_kept (s : State) :
    (State.showPower s).kept = s.kept := by
  simp [State.showPower, kept_foldl]

@[simp] theorem State.setPwr_kept (s : State) (p : PwrSt) :
    (State.setPwr s p).kept = s.kept := by
  simp [State.setPwr]

@[simp] theorem State.raisePath_kept (s : State) (n : Nat) (c : FClass) :
    (State.raisePath s n c).kept = s.kept := by
  simp [State.raisePath]

@[simp] theorem State.endReverse_kept (s : State) (n : Nat) :
    (State.endReverse s n).kept = s.kept := by
  simp [State.endReverse]

@[simp] theorem State.pathClearEvent_kept (s : State) (n : Nat) :
    (State.pathClearEvent s n).kept = s.kept := by
  simp [State.pathClearEvent]

@[simp] theorem State.clearEvent_kept (s : State) (b : Nat) :
    (State.clearEvent s b).kept = s.kept := by
  simp [State.clearEvent]

@[simp] theorem State.railsOff_kept (s : State) (path : PathSt) (state : PState) :
    (State.railsOff s path state).kept = s.kept := by
  simp [State.railsOff]

end Sys2Proof.Machine
end

