-- ==== Sys2Proof/Laws/KeptClocks.lean ====
section
/-!
SUPPORT. What the operations of `Machine/Clocks.lean` leave of a state: the queue, the mirrors and the vault's counters.
-/

set_option Elab.async false

namespace Sys2Proof.Machine

@[simp] theorem State.lockPlls_kept (s : State) (a b move : Bool) :
    (State.lockPlls s a b move).kept = s.kept := by
  simp [State.lockPlls, kept_foldl]

@[simp] theorem State.forceIslands_kept (s : State) (src : Nat) :
    (State.forceIslands s src).kept = s.kept := by
  simp [State.forceIslands, kept_foldl]

@[simp] theorem State.clockFail_kept (s : State) (n : Nat) :
    (State.clockFail s n).kept = s.kept := by
  simp [State.clockFail]

@[simp] theorem State.islandSwitch_kept (s : State) (i : Nat) (sel : Bool) :
    (State.islandSwitch s i sel).kept = s.kept := by
  simp [State.islandSwitch]

@[simp] theorem State.endOsc_kept (s : State) :
    (State.endOsc s).kept = s.kept := by
  simp [State.endOsc]

@[simp] theorem State.gateWrite_kept (s : State) (g : Gate) (on words : Bool) :
    (State.gateWrite s g on words).kept = s.kept := by
  unfold State.gateWrite; dsimp only; repeat' split
  all_goals simp

@[simp] theorem State.fcntGo_kept (s : State) :
    (State.fcntGo s).kept = s.kept := by
  simp [State.fcntGo]

@[simp] theorem State.dropStagings_kept (s : State) :
    (State.dropStagings s).kept = s.kept := by
  simp [State.dropStagings]

@[simp] theorem State.d2dRetrain_kept (s : State) (d : Nat) (ok : Bool) (lost : List Nat) :
    (State.d2dRetrain s d ok lost).kept = s.kept := by
  simp [State.d2dRetrain, kept_foldl]

end Sys2Proof.Machine
end

