-- ==== Sys2Proof/Laws/KeptMailbox.lean ====
section
/-!
SUPPORT. What the operations of `Machine/Mailbox.lean` leave of a state: the queue, the mirrors and the vault's counters.
-/

set_option Elab.async false

namespace Sys2Proof.Machine

@[simp] theorem State.spdmEffect_kept (s : State) (t : Nat) (e : SpdmEffect) :
    (State.spdmEffect s t e).kept = s.kept := by
  unfold State.spdmEffect; repeat' split
  all_goals simp

@[simp] theorem State.mbxDone_kept (s : State) (result : Nat) (reply : List Byte) :
    (State.mbxDone s result reply).kept = s.kept := by
  simp [State.mbxDone]

@[simp] theorem State.mbxFail_kept (s : State) (result : Nat) :
    (State.mbxFail s result).kept = s.kept := by
  simp [State.mbxFail]

@[simp] theorem State.getChallenge_kept (s : State) :
    (State.getChallenge s).kept = s.kept := by
  simp [State.getChallenge]

@[simp] theorem State.setVault_kept (s : State) (v : Vault) :
    (State.setVault s v).kept = ⟨s.pending, s.boot.fwMirror, s.boot.bndMirror, v.fwCtr, v.bndCtr⟩ := rfl

@[simp] theorem State.vaultShown_kept (s : State) :
    (State.vaultShown s).kept = s.kept := by
  simp [State.vaultShown]

@[simp] theorem State.zeroise_kept (s : State) :
    (State.zeroise s).kept = s.kept := by
  simp [State.zeroise]

@[simp] theorem State.tokenActs_kept (s : State) (type : Nat) :
    (State.tokenActs s type).kept = s.kept := by
  simp [State.tokenActs]

@[simp] theorem State.submitToken_kept (s : State) (len : Nat) :
    (State.submitToken s len).kept = s.kept := by
  simp [State.submitToken]

@[simp] theorem State.getCert_kept (s : State) (len : Nat) :
    (State.getCert s len).kept = s.kept := by
  simp [State.getCert]

@[simp] theorem State.attest_kept (s : State) (len : Nat) :
    (State.attest s len).kept = s.kept := by
  simp [State.attest]

@[simp] theorem State.randomCmd_kept (s : State) (len : Nat) :
    (State.randomCmd s len).kept = s.kept := by
  simp [State.randomCmd]

@[simp] theorem State.dbgBytes_kept (s : State) (a : Nat) (n0 : Nat) :
    (State.dbgBytes s a n0).2.kept = s.kept := by
  induction n0 generalizing s a with
  | zero => rfl
  | succ n ih =>
    unfold State.dbgBytes; dsimp only [State.draw]; split
    · exact ih s (a + 1)
    · rw [ih]; simp

@[simp] theorem State.dbgRead_kept (s : State) (len : Nat) :
    (State.dbgRead s len).kept = s.kept := by
  simp [State.dbgRead]

@[simp] theorem State.dbgWrite_kept (s : State) (len : Nat) :
    (State.dbgWrite s len).kept = s.kept := by
  simp [State.dbgWrite]

@[simp] theorem State.tamperVault_kept (s : State) (src : Nat) :
    (State.tamperVault s src).kept = s.kept := by
  simp [State.tamperVault, kept_foldl]

@[simp] theorem State.tamperPort_kept (s : State) (i : Nat) :
    (State.tamperPort s i).kept = s.kept := by
  unfold State.tamperPort; repeat' split
  all_goals simp

@[simp] theorem State.tamper_kept (s : State) (src : Nat) :
    (State.tamper s src).kept = s.kept := by
  simp [State.tamper]

end Sys2Proof.Machine
end

