-- ==== Sys2Proof/Laws/KeptOperands.lean ====
section
/-!
SUPPORT. What the operations of `Machine/Operands.lean` leave of a state: the queue, the mirrors and the vault's counters.
-/

set_option Elab.async false

namespace Sys2Proof.Machine

@[simp] theorem State.storeCell_kept (s : State) (c : Cell) :
    (State.storeCell s c).kept = s.kept := by
  simp [State.storeCell]

@[simp] theorem State.storeCells_kept (s : State) (cs : List Cell) :
    (State.storeCells s cs).kept = s.kept := by
  simp [State.storeCells, kept_foldl]

@[simp] theorem State.clockWrite_kept (s : State) (c : Cell) :
    (State.clockWrite s c).kept = s.kept := by
  unfold State.clockWrite; dsimp only; repeat' split
  all_goals simp

@[simp] theorem State.clearCell_kept (s : State) (c : Cell) :
    (State.clearCell s c).kept = s.kept := by
  simp [State.clearCell]

@[simp] theorem State.store_kept (s : State) (off n v : Nat) :
    (State.store s off n v).kept = s.kept := by
  simp [State.store, kept_foldl]

@[simp] theorem State.load_kept (s : State) (k i : Nat) (f : Fld) (v : Nat) :
    (State.load s k i f v).kept = s.kept := by
  simp [State.load]

@[simp] theorem State.keepIf_kept (s : State) (k i : Nat) (f : Fld) (ok : Bool) :
    (State.keepIf s k i f ok).kept = s.kept := by
  simp [State.keepIf]

@[simp] theorem State.rulesHif_kept (s : State) :
    (State.rulesHif s).kept = s.kept := by
  simp [State.rulesHif, kept_foldl]

@[simp] theorem State.rulesRing_kept (s : State) :
    (State.rulesRing s).kept = s.kept := by
  simp [State.rulesRing, kept_foldl]

@[simp] theorem State.rulesPort_kept (s : State) (p : Nat) :
    (State.rulesPort s p).kept = s.kept := by
  simp [State.rulesPort, kept_foldl]

@[simp] theorem State.rulesMeas_kept (s : State) (c : Nat) :
    (State.rulesMeas s c).kept = s.kept := by
  simp [State.rulesMeas]

@[simp] theorem State.rulesFrame_kept (s : State) (e c : Nat) (out : Bool) :
    (State.rulesFrame s e c out).kept = s.kept := by
  simp [State.rulesFrame, kept_foldl]

@[simp] theorem State.normalPoints_kept (s : State) :
    (State.normalPoints s).kept = s.kept := by
  simp [State.normalPoints, kept_foldl]

@[simp] theorem State.rulesPoints_kept (s : State) :
    (State.rulesPoints s).kept = s.kept := by
  simp [State.rulesPoints, kept_foldl]

@[simp] theorem State.rulesEntries_kept (s : State) :
    (State.rulesEntries s).kept = s.kept := by
  simp [State.rulesEntries, kept_foldl]

@[simp] theorem State.loadRules_kept (s : State) :
    (State.loadRules s).kept = s.kept := by
  simp [State.loadRules, kept_foldl]

end Sys2Proof.Machine
end

