-- ==== Sys2Proof/Laws/KeptBoot.lean ====
section
/-!
SUPPORT. What the operations of `Machine/Boot.lean` leave of a state: the queue, the mirrors and the vault's counters.
-/

set_option Elab.async false

namespace Sys2Proof.Machine

@[simp] theorem State.measure7_kept (s : State) :
    (State.measure7 s).kept = s.kept := by
  unfold State.measure7; rw [kept_mk, kept_eta]

@[simp] theorem State.commit_kept (s : State) :
    (State.commit s).kept = s.kept := by
  unfold State.commit; split
  · rfl
  · rw [State.logAudit_kept]; simp

@[simp] theorem State.setStaging_kept (s : State) (kind : Nat) (x : Option Staging) (shown : Nat) :
    (State.setStaging s kind x shown).kept = s.kept := by
  unfold State.setStaging; repeat' split
  all_goals simp

@[simp] theorem State.stageFirst_kept (s : State) (kind slot total : Nat) (data : List Byte) :
    (State.stageFirst s kind slot total data).2.kept = s.kept := by
  unfold State.stageFirst; dsimp only; repeat' split
  all_goals simp

@[simp] theorem State.stageLast_kept (s : State) (kind slot : Nat) (bytes : List Byte) :
    (State.stageLast s kind slot bytes).2.kept = s.kept := by
  unfold State.stageLast; dsimp only; repeat' split
  all_goals simp

@[simp] theorem State.stageError_kept (s : State) (kind slot : Nat) :
    (State.stageError s kind slot).kept = s.kept := by
  simp [State.stageError]

@[simp] theorem State.showSlots_kept (s : State) :
    (State.showSlots s).kept = s.kept := by
  simp [State.showSlots]

@[simp] theorem State.enterRecovery_kept (s : State) :
    (State.enterRecovery s).kept = s.kept := by
  unfold State.enterRecovery; dsimp only
  simp [-kept_eta, pending_kept, fwMirror_kept, bndMirror_kept, fwCtr_kept, bndCtr_kept, kept_mk_eta]

@[simp] theorem State.resetHub_kept (s : State) :
    (State.resetHub s).kept = s.kept := by
  simp [State.resetHub]

@[simp] theorem State.bootCmd_kept (s : State) (recover : Bool) (e : StopEnv) :
    (State.bootCmd s recover e).kept = s.kept := by
  simp [State.bootCmd]

@[simp] theorem State.rcvEnd_kept (s : State) (reason : Nat) :
    (State.rcvEnd s reason).kept = s.kept := by
  simp [State.rcvEnd]

@[simp] theorem State.rcvChunk_kept (s : State) (len : Nat) (last err : Bool) :
    (State.rcvChunk s len last err).kept = s.kept := by
  unfold State.rcvChunk; dsimp only; repeat' split
  all_goals simp

@[simp] theorem State.rcvServe_kept (s : State) (i fw : Nat) :
    (State.rcvServe s i fw).kept = s.kept := by
  simp [State.rcvServe]

@[simp] theorem State.rcvImage_kept (s : State) (i : Nat) (ok : Bool) (peer : Nat) (image : List Byte) :
    (State.rcvImage s i ok peer image).kept = s.kept := by
  simp [State.rcvImage]

@[simp] theorem State.bootStops_kept (s : State) :
    (State.bootStops s).kept = s.kept := by
  simp [State.bootStops]

@[simp] theorem State.slotFails_kept (s : State) (kind slot reason : Nat) :
    (State.slotFails s kind slot reason).kept = s.kept := by
  simp [State.slotFails]

@[simp] theorem State.trySlots_kept (s : State) (kind : Nat) (bad : List Nat) (n0 : List Nat) :
    (State.trySlots s kind bad n0).2.kept = s.kept := by
  induction n0 generalizing s with
  | nil => rfl
  | cons a l ih =>
    unfold State.trySlots; dsimp only; repeat' split
    all_goals simp [ih]

@[simp] theorem State.runFirmware_kept (s : State) (n : Nat) (order : List Nat) :
    (State.runFirmware s n order).kept = s.kept := by
  unfold State.runFirmware; dsimp only
  simp [-kept_eta, pending_kept, fwMirror_kept, bndMirror_kept, fwCtr_kept, bndCtr_kept, kept_mk_eta]

@[simp] theorem State.useBundle_kept (s : State) (n : Nat) :
    (State.useBundle s n).kept = s.kept := by
  unfold State.useBundle; dsimp only; split
  all_goals simp [-kept_eta, pending_kept, fwMirror_kept, bndMirror_kept, fwCtr_kept, bndCtr_kept, kept_mk_eta]

@[simp] theorem State.loadTableBytes_kept (s : State) (ts : List (Nat × List Byte)) :
    (State.loadTableBytes s ts).kept = s.kept := by
  simp [State.loadTableBytes]

@[simp] theorem State.bundleWrite_kept (s : State) (off v : Nat) :
    (State.bundleWrite s off v).kept = s.kept := by
  unfold State.bundleWrite; dsimp only; repeat' split
  all_goals simp

@[simp] theorem State.loadBundle_kept (s : State) (b : List Byte) :
    (State.loadBundle s b).kept = s.kept := by
  simp [State.loadBundle, kept_foldl]

@[simp] theorem State.settleLoad_kept (s : State) :
    (State.settleLoad s).kept = s.kept := by
  simp [State.settleLoad, kept_foldl]

@[simp] theorem State.bootBundle_kept (s : State) (o : BootObs) :
    (State.bootBundle s o).kept = s.kept := by
  unfold State.bootBundle; dsimp only; repeat' split
  all_goals simp

@[simp] theorem State.fixedIslands_kept (s : State) :
    (State.fixedIslands s).kept = s.kept := by
  simp [State.fixedIslands]

@[simp] theorem State.bootClocks_kept (s : State) (o : BootObs) :
    (State.bootClocks s o).kept = s.kept := by
  simp [State.bootClocks]

@[simp] theorem State.selfCal_kept (s : State) (c : Nat) (bad : Bool) :
    (State.selfCal s c bad).kept = s.kept := by
  simp [State.selfCal]

@[simp] theorem State.bootAnalog_kept (s : State) (o : BootObs) :
    (State.bootAnalog s o).kept = s.kept := by
  simp [State.bootAnalog, kept_foldl]

@[simp] theorem State.bootLanes_kept (s : State) (o : BootObs) :
    (State.bootLanes s o).kept = s.kept := by
  simp [State.bootLanes, kept_foldl]

theorem State.readySlots_kept (s : State) :
    s.kept.Mono (State.readySlots s).kept := by
  unfold State.readySlots; dsimp only
  simp [-kept_eta, pending_kept, fwMirror_kept, bndMirror_kept, fwCtr_kept, bndCtr_kept, kept_mk_eta]
  exact ⟨rfl, le_max_left _ _, le_max_left _ _, fun _ => le_max_right _ _, fun _ => le_max_right _ _⟩

@[simp] theorem State.readyVault_kept (s : State) :
    (State.readyVault s).kept = s.kept := by
  simp [State.readyVault]

@[simp] theorem State.readyRise_kept (s : State) (us : Nat) :
    (State.readyRise s us).kept = s.readySlots.kept := by
  unfold State.readyRise; dsimp only; (repeat' split) <;> simp [kept_foldl, -kept_eta, pending_kept, fwMirror_kept, bndMirror_kept, fwCtr_kept, bndCtr_kept, kept_mk_eta]

@[simp] theorem State.bootCollector_kept (s : State) :
    (State.bootCollector s).kept = s.kept := by
  simp [State.bootCollector, kept_foldl]

@[simp] theorem State.bootFatal_kept (s : State) (b : Nat) :
    (State.bootFatal s b).kept = s.kept := by
  simp [State.bootFatal]

theorem State.bootRest_kept (s : State) (o : BootObs) :
    s.kept.Mono (State.bootRest s o).kept := by
  unfold State.bootRest
  extract_lets s1 s2 fs s3 s4
  have h1 : s1.kept = s.kept := by simp [s1]
  have h2 : s2.kept = s.kept := by simp [s2, h1]
  have h3 : s3.kept = s.kept := by
    rw [← h2]; refine kept_foldl _ (fun s b => ?_) _ _; split <;> simp
  have h4 : s4.kept = s.kept := by simp only [s4]; split <;> simp [h3]
  clear_value s4
  split
  · rw [State.readyRise_kept, ← h4]; exact State.readySlots_kept s4
  · rw [h4]; exact .refl _

theorem State.boot__kept (s : State) (o : BootObs) :
    s.kept.Mono (State.boot_ s o).kept := by
  unfold State.boot_
  extract_lets s1 s2 s3
  have h3 : s3.kept = s.kept := by simp only [s3, s2, s1]; split <;> simp
  clear_value s3
  split
  · simp [h3, Kept.Mono.refl]
  · split
    · simp [h3, Kept.Mono.refl]
    · dsimp only
      split
      · simp [h3, Kept.Mono.refl]
      · rename_i n _
        refine .trans (.of_eq ?_) (State.bootRest_kept _ o)
        simp [h3]

end Sys2Proof.Machine
end

