-- ==== Sys2Proof/Laws/KeptPowerState.lean ====
section
/-!
SUPPORT. What the operations of `Machine/PowerState.lean` leave of a state: the queue, the mirrors and the vault's counters.
-/

set_option Elab.async false

namespace Sys2Proof.Machine

@[simp] theorem State.setOp_kept (s : State) (op : Nat) :
    (State.setOp s op).kept = s.kept := by
  simp [State.setOp]

@[simp] theorem State.powerGo_kept (s : State) (r : Req) :
    (State.powerGo s r).kept = s.kept := by
  simp [State.powerGo]

@[simp] theorem State.powerNext_kept (s : State) (n0 : List Req) :
    (State.powerNext s n0).kept = s.kept := by
  induction n0 generalizing s with
  | nil => rfl
  | cons a l ih =>
    unfold State.powerNext; dsimp only; repeat' split
    all_goals simp [ih]

@[simp] theorem State.power_kept (s : State) (r : Req) :
    (State.power s r).kept = s.kept := by
  simp [State.power]

@[simp] theorem State.dvfsDone_kept (s : State) :
    (State.dvfsDone s).kept = s.kept := by
  unfold State.dvfsDone; repeat' split
  all_goals simp

@[simp] theorem State.dozeTime_kept (s : State) :
    (State.dozeTime s).kept = s.kept := by
  simp [State.dozeTime, kept_foldl]

@[simp] theorem State.dozeLoss_kept (s : State) :
    (State.dozeLoss s).kept = s.kept := by
  simp [State.dozeLoss, kept_foldl]

@[simp] theorem State.dozeEnter_kept (s : State) :
    (State.dozeEnter s).kept = s.kept := by
  simp [State.dozeEnter]

@[simp] theorem State.dormantWake_kept (s : State) :
    (State.dormantWake s).kept = s.kept := by
  simp [State.dormantWake]

@[simp] theorem State.clearRegion_kept (s : State) (r : Nat) :
    (State.clearRegion s r).kept = s.kept := by
  simp [State.clearRegion]

@[simp] theorem State.reinitWord_kept (s : State) (off : Nat) :
    (State.reinitWord s off).kept = s.kept := by
  unfold State.reinitWord; try dsimp only [State.draw]
  repeat' split
  all_goals simp [kept_foldl]

@[simp] theorem State.bankFails_kept (s : State) (b : Nat) :
    (State.bankFails s b).kept = s.kept := by
  simp [State.bankFails, kept_foldl]

@[simp] theorem State.bankFailed_kept (s : State) (b : Nat) :
    (State.bankFailed s b).kept = s.kept := by
  simp [State.bankFailed]

@[simp] theorem State.onOsc_kept (s : State) :
    (State.onOsc s).kept = s.kept := by
  simp [State.onOsc, kept_foldl]

@[simp] theorem State.rowsBack_kept (s : State) :
    (State.rowsBack s).kept = s.kept := by
  simp [State.rowsBack]

@[simp] theorem State.dozeLeave_kept (s : State) (failed banks : List Nat) :
    (State.dozeLeave s failed banks).kept = s.kept := by
  simp [State.dozeLeave, kept_foldl]

@[simp] theorem State.reloadRegion_kept (s : State) (r : Nat) :
    (State.reloadRegion s r).kept = s.kept := by
  simp [State.reloadRegion]

@[simp] theorem State.reloadBank_kept (s : State) (b : Nat) :
    (State.reloadBank s b).kept = s.kept := by
  simp [State.reloadBank, kept_foldl]

end Sys2Proof.Machine
end

