-- ==== Sys2Proof/Laws/KeptSetupRead.lean ====
section
/-!
SUPPORT. What the operations of `Machine/SetupRead.lean` leave of a state: the queue, the mirrors and the vault's counters.
-/

set_option Elab.async false

namespace Sys2Proof.Machine

@[simp] theorem State.readWord_kept (s : State) (off : Nat) :
    (State.readWord s off).2.kept = s.kept := by
  unfold State.readWord; dsimp only; repeat' split
  all_goals simp

@[simp] theorem State.readWords_kept (s : State) (off : Nat) (n0 : Nat) :
    (State.readWords s off n0).2.kept = s.kept := by
  induction n0 generalizing s off with
  | zero => rfl
  | succ n ih =>
    unfold State.readWords; dsimp only
    rw [ih]; simp

@[simp] theorem State.setupRead_kept (s : State) (off n : Nat) :
    (State.setupRead s off n).2.kept = s.kept := by
  unfold State.setupRead; dsimp only; repeat' split
  all_goals simp

@[simp] theorem State.identity_kept (s : State) :
    (State.identity s).2.kept = s.kept := by
  simp [State.identity]

end Sys2Proof.Machine
end

