-- ==== Sys2Proof/Laws/KeptSetup.lean ====
section
/-!
SUPPORT. What the operations of `Machine/Setup.lean` leave of a state: the queue, the mirrors and the vault's counters.
-/

set_option Elab.async false

namespace Sys2Proof.Machine

@[simp] theorem State.actHost_kept (s old : State) (h : Hit) (cs : List Cell) :
    (State.actHost s old h cs).kept = s.kept := by
  unfold State.actHost; repeat' split
  all_goals simp

@[simp] theorem State.ppsLow_kept (s : State) :
    (State.ppsLow s).kept = s.kept := by
  simp [State.ppsLow]

@[simp] theorem State.domainCfg_kept (s old : State) (d : Nat) :
    (State.domainCfg s old d).kept = s.kept := by
  simp [State.domainCfg]

@[simp] theorem State.actTime_kept (s old : State) (h : Hit) (cs : List Cell) :
    (State.actTime s old h cs).kept = s.kept := by
  unfold State.actTime; repeat' split
  all_goals simp

@[simp] theorem State.portCfg_kept (s old : State) (i : Nat) :
    (State.portCfg s old i).kept = s.kept := by
  simp [State.portCfg]

@[simp] theorem State.twinCfg_kept (s old : State) :
    (State.twinCfg s old).kept = s.kept := by
  simp [State.twinCfg]

@[simp] theorem State.actRing_kept (s old : State) (h : Hit) (cs : List Cell) :
    (State.actRing s old h cs).kept = s.kept := by
  unfold State.actRing; repeat' split
  all_goals simp

@[simp] theorem State.actFault_kept (s : State) (h : Hit) (cs : List Cell) :
    (State.actFault s h cs).kept = s.kept := by
  unfold State.actFault; dsimp only; repeat' split
  all_goals simp [kept_foldl]

@[simp] theorem State.pinCfg_kept (s old : State) (p x : Nat) :
    (State.pinCfg s old p x).kept = s.kept := by
  simp [State.pinCfg, kept_foldl]

@[simp] theorem State.portItems_kept (s old : State) (p : Nat) :
    (State.portItems s old p).kept = s.kept := by
  simp [State.portItems, kept_foldl]

@[simp] theorem State.portFns_kept (s old : State) (p : Nat) :
    (State.portFns s old p).kept = s.kept := by
  simp [State.portFns, kept_foldl]

@[simp] theorem State.pinSource_kept (s old : State) (p x : Nat) :
    (State.pinSource s old p x).kept = s.kept := by
  simp [State.pinSource]

@[simp] theorem State.resetOtemp_kept (s : State) (p : Nat) :
    (State.resetOtemp s p).kept = s.kept := by
  simp [State.resetOtemp, kept_foldl]

@[simp] theorem State.actPort_kept (s old : State) (h : Hit) (cs : List Cell) :
    (State.actPort s old h cs).kept = s.kept := by
  unfold State.actPort; repeat' split
  all_goals simp

@[simp] theorem State.actEng_kept (s old : State) (h : Hit) (cs : List Cell) (last : Bool) :
    (State.actEng s old h cs last).kept = s.kept := by
  unfold State.actEng; dsimp only
  split
  · repeat' split
    all_goals simp
  · split <;> simp
  · simp
  · split
    · exact kept_foldl _ (fun s x => by simp) _ _
    · rfl
  · rfl

@[simp] theorem State.actMbx_kept (s : State) (h : Hit) (cs : List Cell) :
    (State.actMbx s h cs).kept = s.kept := by
  unfold State.actMbx; repeat' split
  all_goals simp

@[simp] theorem State.act_kept (s old : State) (h : Hit) (cs : List Cell) (last : Bool) :
    (State.act s old h cs last).kept = s.kept := by
  simp [State.act]

@[simp] theorem State.preWrite_kept (s : State) (cs : List Cell) :
    (State.preWrite s cs).kept = s.kept := by
  simp [State.preWrite, kept_foldl]

@[simp] theorem State.setupWrite_kept (s : State) (off n v : Nat) :
    (State.setupWrite s off n v).kept = s.kept := by
  simp [State.setupWrite, kept_foldl]

@[simp] theorem State.pf0Write_kept (s : State) (off n v : Nat) :
    (State.pf0Write s off n v).kept = s.kept := by
  simp [State.pf0Write, kept_foldl]

@[simp] theorem State.doAccess_kept (s : State) (a : Access) :
    (State.doAccess s a).2.kept = s.kept := by
  unfold State.doAccess; dsimp only; repeat' split
  all_goals simp

@[simp] theorem State.pcieAccess_kept (s : State) (a : Access) :
    (State.pcieAccess s a).kept = s.kept := by
  simp [State.pcieAccess]

@[simp] theorem State.serveHeld_kept (s : State) :
    (State.serveHeld s).kept = s.kept := by
  simp [State.serveHeld, kept_foldl]

end Sys2Proof.Machine
end

