-- ==== Sys2Proof/Laws/KeptTarget.lean ====
section
/-!
SUPPORT. What the operations of `Machine/Target.lean` leave of a state: the queue, the mirrors and the vault's counters.
-/

set_option Elab.async false

namespace Sys2Proof.Machine

@[simp] theorem State.queueReq_kept (s : State) (r : Req) :
    (State.queueReq s r).kept = s.kept := by
  simp [State.queueReq]

@[simp] theorem State.admitTimed_kept (s : State) (r : Req) :
    (State.admitTimed s r).kept = s.kept := by
  simp [State.admitTimed]

@[simp] theorem State.enter_kept (s : State) (r : Req) :
    (State.enter s r).kept = s.kept := by
  unfold State.enter; repeat' split
  all_goals simp

@[simp] theorem State.reqIn_kept (s : State) (f : Frame) :
    (State.reqIn s f).kept = s.kept := by
  simp [State.reqIn]

@[simp] theorem State.taken_kept (s : State) (r : Req) :
    (State.taken s r).kept = s.kept := by
  simp [State.taken]

@[simp] theorem State.carry_kept (s : State) (r : Req) (c : Bool) (f : State → State) (hf : ∀ s, (f s).kept = s.kept) :
    (State.carry s r c f).kept = s.kept := by
  unfold State.carry; split <;> simp [hf]

@[simp] theorem State.toBlock_kept (s : State) (o : Nat) (x : QFrame) :
    (State.toBlock s o x).kept = s.kept := by
  simp [State.toBlock]

@[simp] theorem State.handBlock_kept (s : State) (o : Nat) (n0 : Nat) :
    (State.handBlock s o n0).kept = s.kept := by
  induction n0 generalizing s with
  | zero => rfl
  | succ n ih =>
    unfold State.handBlock
    split
    · split
      · rfl
      · rw [ih]; simp
    · have hk := State.pickOut_kept s o
      generalize s.pickOut o = r at hk
      obtain ⟨_ | x, t⟩ := r
      · exact hk
      · dsimp only; rw [ih]; simpa using hk

@[simp] theorem State.serveOutputs_kept (s : State) :
    (State.serveOutputs s).kept = s.kept := by
  simp [State.serveOutputs, kept_foldl]

@[simp] theorem State.cellTime_kept (s : State) :
    (State.cellTime s).kept = s.kept := by
  simp [State.cellTime, kept_foldl]

@[simp] theorem State.storeTable_kept (s : State) (off : Nat) (data : List Byte) :
    (State.storeTable s off data).kept = s.kept := by
  simp [State.storeTable]

@[simp] theorem State.loadTable_kept (s : State) (r : Req) (activate : Bool) :
    (State.loadTable s r activate).kept = s.kept := by
  simp [State.loadTable]

@[simp] theorem State.mgmtBytes_kept (s : State) (o : Nat) :
    (State.mgmtBytes s o).2.kept = s.kept := by
  unfold State.mgmtBytes; dsimp only; repeat' split
  all_goals simp

@[simp] theorem State.readMgmt_kept (s : State) (r : Req) :
    (State.readMgmt s r).kept = s.kept := by
  simp [State.readMgmt]

@[simp] theorem State.readDirect_kept (s : State) (r : Req) :
    (State.readDirect s r).kept = s.kept := by
  simp [State.readDirect]

@[simp] theorem State.readSetup_kept (s : State) (r : Req) :
    (State.readSetup s r).kept = s.kept := by
  unfold State.readSetup; dsimp only
  repeat' split
  all_goals try (simp; done)
  rename_i h
  have k := State.cacheHit_kept _ _ _ _ _ _ h
  dsimp only at k; simp [k]

@[simp] theorem State.writeSetup_kept (s : State) (r : Req) (v result : Nat) :
    (State.writeSetup s r v result).kept = s.kept := by
  simp [State.writeSetup]

@[simp] theorem State.readHost_kept (s : State) (r : Req) (d : HostData) :
    (State.readHost s r d).kept = s.kept := by
  unfold State.readHost; repeat' split
  all_goals simp

@[simp] theorem State.writeHost_kept (s : State) (r : Req) :
    (State.writeHost s r).kept = s.kept := by
  simp [State.writeHost]

@[simp] theorem State.read_kept (s : State) (r : Req) (d : HostData) :
    (State.read s r d).kept = s.kept := by
  simp [State.read]

@[simp] theorem State.write_kept (s : State) (r : Req) :
    (State.write s r).kept = s.kept := by
  simp [State.write]

@[simp] theorem State.rmw_kept (s : State) (r : Req) :
    (State.rmw s r).kept = s.kept := by
  unfold State.rmw; dsimp only; repeat' split
  all_goals simp

@[simp] theorem State.message_kept (s : State) (off node tn : Nat) (b : List Byte) :
    (State.message s off node tn b).2.kept = s.kept := by
  unfold State.message; dsimp only; repeat' split
  all_goals simp

@[simp] theorem State.send_kept (s : State) (r : Req) :
    (State.send s r).kept = s.kept := by
  simp [State.send]

@[simp] theorem State.freeSub_kept (s : State) :
    (State.freeSub s).2.kept = s.kept := by
  simp [State.freeSub]

@[simp] theorem State.subscribe_kept (s : State) (r : Req) (onChange : Bool) :
    (State.subscribe s r onChange).kept = s.kept := by
  unfold State.subscribe; dsimp only; repeat' split
  all_goals simp

@[simp] theorem State.unsubscribe_kept (s : State) (r : Req) :
    (State.unsubscribe s r).kept = s.kept := by
  unfold State.unsubscribe; repeat' split
  all_goals simp

@[simp] theorem State.queryTopo_kept (s : State) (r : Req) :
    (State.queryTopo s r).kept = s.kept := by
  simp [State.queryTopo]

@[simp] theorem State.queryIdentity_kept (s : State) (r : Req) :
    (State.queryIdentity s r).kept = s.kept := by
  simp [State.queryIdentity]

@[simp] theorem State.queryTags_kept (s : State) (r : Req) :
    (State.queryTags s r).kept = s.kept := by
  simp [State.queryTags]

end Sys2Proof.Machine
end

