-- ==== Sys2Proof/Laws/KeptIssue.lean ====
section
/-!
SUPPORT. What the operations of `Machine/Issue.lean` leave of a state: the queue, the mirrors and the vault's counters.
-/

set_option Elab.async false

namespace Sys2Proof.Machine

@[simp] theorem State.prepareLock_kept (s : State) (r : Req) :
    (State.prepareLock s r).2.kept = s.kept := by
  unfold State.prepareLock; repeat' split
  all_goals simp

@[simp] theorem State.fly_kept (s : State) (k : Nat) (t : Tx) :
    (State.fly s k t).kept = s.kept := by
  simp [State.fly]

@[simp] theorem State.sendReq_kept (s : State) (k : Nat) (t : Tx) (rt : Route) :
    (State.sendReq s k t rt).kept = s.kept := by
  unfold State.sendReq; dsimp only; repeat' split
  all_goals simp

@[simp] theorem State.fetchData_kept (s : State) (t : Tx) (buf : HostData) :
    (State.fetchData s t buf).2.kept = s.kept := by
  unfold State.fetchData; repeat' split
  all_goals simp

@[simp] theorem State.issue_kept (s : State) (k : Nat) (t : Tx) (buf : HostData) :
    (State.issue s k t buf).kept = s.kept := by
  unfold State.issue; dsimp only; repeat' split
  all_goals simp

@[simp] theorem State.descIn_kept (s : State) (p k : Nat) (b : List Byte) (buf : HostData) :
    (State.descIn s p k b buf).kept = s.kept := by
  unfold State.descIn; dsimp only; repeat' split
  all_goals simp

@[simp] theorem State.advance_kept (s : State) (p : Nat) :
    (State.advance s p).kept = s.kept := by
  simp [State.advance]

@[simp] theorem State.released_kept (s : State) (k : Nat) (t : Tx) (f : Frame) :
    (State.released s k t f).kept = s.kept := by
  simp [State.released]

@[simp] theorem State.rspIn_kept (s : State) (f : Frame) :
    (State.rspIn s f).kept = s.kept := by
  unfold State.rspIn; dsimp only; repeat' split
  all_goals simp

@[simp] theorem State.cqWritten_kept (s : State) (p : Nat) (ok : Bool) :
    (State.cqWritten s p ok).kept = s.kept := by
  simp [State.cqWritten, kept_foldl]

@[simp] theorem State.dataWritten_kept (s : State) (k : Nat) (ok : Bool) :
    (State.dataWritten s k ok).kept = s.kept := by
  unfold State.dataWritten; repeat' split
  all_goals simp

@[simp] theorem State.sumWritten_kept (s : State) (p : Nat) (ok : Bool) :
    (State.sumWritten s p ok).kept = s.kept := by
  simp [State.sumWritten]

@[simp] theorem State.unlock_kept (s : State) (r : Req) :
    (State.unlock s r).kept = s.kept := by
  unfold State.unlock; repeat' split
  all_goals simp

@[simp] theorem State.recv_kept (s : State) (r : Req) :
    (State.recv s r).kept = s.kept := by
  unfold State.recv; dsimp only; repeat' split
  all_goals simp

@[simp] theorem State.fence_kept (s : State) (r : Req) :
    (State.fence s r).kept = s.kept := by
  unfold State.fence; dsimp only; repeat' split
  all_goals simp [kept_foldl]

@[simp] theorem State.updateBad_kept (s : State) (r : Req) (kind reason : Nat) :
    (State.updateBad s r kind reason).kept = s.kept := by
  simp [State.updateBad]

@[simp] theorem State.updateEnd_kept (s : State) (r : Req) (kind : Nat) (last : Bool) :
    (State.updateEnd s r kind last).kept = s.kept := by
  unfold State.updateEnd; dsimp only; repeat' split
  all_goals simp

@[simp] theorem State.update_kept (s : State) (r : Req) (kind refused : Nat) (err : Bool) :
    (State.update s r kind refused err).kept = s.kept := by
  unfold State.update; repeat' split
  all_goals simp

@[simp] theorem State.deliverRemote_kept (s : State) (u : RemSub) (d : Dlv) (overrun : Bool) :
    (State.deliverRemote s u d overrun).kept = s.kept := by
  simp [State.deliverRemote]

end Sys2Proof.Machine
end

