-- ==== Sys2Proof/Laws/KeptExec.lean ====
section
/-!
SUPPORT. Every command answers a next state, and what it leaves of the part `State.kept`; one lemma a command, in the order of the table.
-/

namespace Sys2Proof.Machine

theorem execPowerPathStart_kept (s : State) :
    ∃ z, execPowerPathStart s = .next z ∧ z.kept = s.kept := by
  unfold execPowerPathStart; (try dsimp only); (repeat' split)
  all_goals exact ⟨_, rfl, by simp [kept_foldl]⟩

theorem execSeatingConfirmed_kept (s : State) :
    ∃ z, execSeatingConfirmed s = .next z ∧ z.kept = s.kept := by
  unfold execSeatingConfirmed; (try dsimp only); (repeat' split)
  all_goals exact ⟨_, rfl, by simp [kept_foldl]⟩

theorem execRailsGood_kept (s : State) :
    ∃ z, execRailsGood s = .next z ∧ z.kept = s.kept := by
  unfold execRailsGood; (try dsimp only); (repeat' split)
  all_goals exact ⟨_, rfl, by simp [kept_foldl]⟩

theorem execBoot_kept (o : BootObs) (s : State) :
    ∃ z, execBoot o s = .next z ∧ s.kept.Mono z.kept := by
  unfold execBoot; split
  · exact ⟨_, rfl, by simpa using State.boot__kept s o⟩
  · exact ⟨_, rfl, .refl _⟩

theorem execBootReset_kept (e : StopEnv) (s : State) :
    ∃ z, execBootReset e s = .next z ∧ z.kept = s.kept := by
  unfold execBootReset; (try dsimp only); (repeat' split)
  all_goals exact ⟨_, rfl, by simp [kept_foldl]⟩

theorem execBootRecover_kept (e : StopEnv) (s : State) :
    ∃ z, execBootRecover e s = .next z ∧ z.kept = s.kept := by
  unfold execBootRecover; (try dsimp only); (repeat' split)
  all_goals exact ⟨_, rfl, by simp [kept_foldl]⟩

theorem execRcvChunkGo_kept (len : Fin 32768) (last err : Bool) (s : State) :
    ∃ z, execRcvChunkGo len last err s = .next z ∧ z.kept = s.kept := by
  unfold execRcvChunkGo; (try dsimp only); (repeat' split)
  all_goals exact ⟨_, rfl, by simp [kept_foldl]⟩

theorem execRcvServeStart_kept (i : Fin 5) (fw : Fin 2) (s : State) :
    ∃ z, execRcvServeStart i fw s = .next z ∧ z.kept = s.kept := by
  unfold execRcvServeStart; (try dsimp only); (repeat' split)
  all_goals exact ⟨_, rfl, by simp [kept_foldl]⟩

theorem execRcvTransferDone_kept (i : Fin 5) (ok : Bool) (peer : Nat) (image : List Byte) (s : State) :
    ∃ z, execRcvTransferDone i ok peer image s = .next z ∧ z.kept = s.kept := by
  unfold execRcvTransferDone; (try dsimp only); (repeat' split)
  all_goals exact ⟨_, rfl, by simp [kept_foldl]⟩

theorem execCommit_kept (s : State) :
    ∃ z, execCommit s = .next z ∧ z.kept = s.kept := by
  unfold execCommit; (try dsimp only); (repeat' split)
  all_goals exact ⟨_, rfl, by simp [kept_foldl]⟩

theorem execRegisterWrite_kept (q : Requester) (off : BitVec 22) (wide : Bool) (v : BitVec 64) (s : State) :
    ∃ z, execRegisterWrite q off wide v s = .next z ∧ z.kept = s.kept := by
  unfold execRegisterWrite; (try dsimp only); (repeat' split)
  all_goals exact ⟨_, rfl, by simp [kept_foldl]⟩

theorem execPcieReset_kept (down : Bool) (s : State) :
    ∃ z, execPcieReset down s = .next z ∧ z.kept = s.kept := by
  unfold execPcieReset; (try dsimp only); (repeat' split)
  all_goals exact ⟨_, rfl, by simp [kept_foldl]⟩

theorem execFunctionLevelReset_kept (t : Fin 16) (s : State) :
    ∃ z, execFunctionLevelReset t s = .next z ∧ z.kept = s.kept := by
  unfold execFunctionLevelReset; (try dsimp only); (repeat' split)
  all_goals exact ⟨_, rfl, by simp [kept_foldl]⟩

theorem execSummaryEnable_kept (t : Fin 16) (addr : BitVec 64) (s : State) :
    ∃ z, execSummaryEnable t addr s = .next z ∧ z.kept = s.kept := by
  unfold execSummaryEnable; (try dsimp only); (repeat' split)
  all_goals exact ⟨_, rfl, by simp [kept_foldl]⟩

theorem execSlotDisable_kept (t : Fin 16) (s : State) :
    ∃ z, execSlotDisable t s = .next z ∧ z.kept = s.kept := by
  unfold execSlotDisable; (try dsimp only); (repeat' split)
  all_goals exact ⟨_, rfl, by simp [kept_foldl]⟩

theorem execRegionDisable_kept (t : Fin 16) (s : State) :
    ∃ z, execRegionDisable t s = .next z ∧ z.kept = s.kept := by
  unfold execRegionDisable; (try dsimp only); (repeat' split)
  all_goals exact ⟨_, rfl, by simp [kept_foldl]⟩

theorem execQEnable_kept (p : Fin 512) (s : State) :
    ∃ z, execQEnable p s = .next z ∧ z.kept = s.kept := by
  unfold execQEnable; (try dsimp only); (repeat' split)
  all_goals exact ⟨_, rfl, by simp [kept_foldl]⟩

theorem execQReset_kept (p : Fin 512) (enZero : Bool) (s : State) :
    ∃ z, execQReset p enZero s = .next z ∧ z.kept = s.kept := by
  unfold execQReset; (try dsimp only); (repeat' split)
  all_goals exact ⟨_, rfl, by simp [kept_foldl]⟩

theorem execSummaryPoll_kept (t : Fin 16) (s : State) :
    ∃ z, execSummaryPoll t s = .next z ∧ z.kept = s.kept := by
  unfold execSummaryPoll; (try dsimp only); (repeat' split)
  all_goals exact ⟨_, rfl, by simp [kept_foldl]⟩

theorem execSummaryReadDone_kept (t : Fin 16) (d : HostData) (s : State) :
    ∃ z, execSummaryReadDone t d s = .next z ∧ z.kept = s.kept := by
  unfold execSummaryReadDone; (try dsimp only); (repeat' split)
  all_goals exact ⟨_, rfl, by simp [kept_foldl]⟩

theorem execDoorbellReadDone_kept (p : Fin 512) (d : HostData) (s : State) :
    ∃ z, execDoorbellReadDone p d s = .next z ∧ z.kept = s.kept := by
  unfold execDoorbellReadDone; (try dsimp only); (repeat' split)
  all_goals exact ⟨_, rfl, by simp [kept_foldl]⟩

theorem execDescriptorArrival_kept (p : Fin 512) (d buf : HostData) (s : State) :
    ∃ z, execDescriptorArrival p d buf s = .next z ∧ z.kept = s.kept := by
  unfold execDescriptorArrival; (try dsimp only); (repeat' split)
  all_goals exact ⟨_, rfl, by simp [kept_foldl]⟩

theorem execCoalesceTimer_kept (p : Fin 512) (s : State) :
    ∃ z, execCoalesceTimer p s = .next z ∧ z.kept = s.kept := by
  unfold execCoalesceTimer; (try dsimp only); (repeat' split)
  all_goals exact ⟨_, rfl, by simp [kept_foldl]⟩

theorem execQuarantineEnd_kept (k : Fin 8192) (s : State) :
    ∃ z, execQuarantineEnd k s = .next z ∧ z.kept = s.kept := by
  unfold execQuarantineEnd; (try dsimp only); (repeat' split)
  all_goals exact ⟨_, rfl, by simp [kept_foldl]⟩

theorem execTransactionTimeout_kept (k : Fin 8192) (s : State) :
    ∃ z, execTransactionTimeout k s = .next z ∧ z.kept = s.kept := by
  unfold execTransactionTimeout; (try dsimp only); (repeat' split)
  all_goals exact ⟨_, rfl, by simp [kept_foldl]⟩

theorem execRspReceive_kept (x : RspIn) (s : State) :
    ∃ z, execRspReceive x s = .next z ∧ z.kept = s.kept := by
  unfold execRspReceive; (try dsimp only); (repeat' split)
  all_goals exact ⟨_, rfl, by simp [kept_foldl]⟩

theorem execPathLoss_kept (k : Fin 8192) (g : Fin 8) (s : State) :
    ∃ z, execPathLoss k g s = .next z ∧ z.kept = s.kept := by
  unfold execPathLoss; (try dsimp only); (repeat' split)
  all_goals exact ⟨_, rfl, by simp [kept_foldl]⟩

theorem execQueueManagerError_kept (e : QmError) (s : State) :
    ∃ z, execQueueManagerError e s = .next z ∧ z.kept = s.kept := by
  unfold execQueueManagerError; (try dsimp only); (repeat' split)
  all_goals exact ⟨_, rfl, by simp [kept_foldl]⟩

theorem execPcieLinkLoss_kept (lost : Bool) (s : State) :
    ∃ z, execPcieLinkLoss lost s = .next z ∧ z.kept = s.kept := by
  unfold execPcieLinkLoss; (try dsimp only); (repeat' split)
  all_goals exact ⟨_, rfl, by simp [kept_foldl]⟩

theorem execReqReceive_kept (f : Frame) (s : State) :
    ∃ z, execReqReceive f s = .next z ∧ z.kept = s.kept := by
  unfold execReqReceive; (try dsimp only); (repeat' split)
  all_goals exact ⟨_, rfl, by simp [kept_foldl]⟩

theorem execRead_kept (r : Req) (d : HostData) (s : State) :
    ∃ z, execRead r d s = .next z ∧ z.kept = s.kept := by
  unfold execRead; (try dsimp only); (repeat' split)
  all_goals exact ⟨_, rfl, by simp [kept_foldl]⟩

theorem execWrite_kept (r : Req) (s : State) :
    ∃ z, execWrite r s = .next z ∧ z.kept = s.kept := by
  unfold execWrite; (try dsimp only); (repeat' split)
  all_goals exact ⟨_, rfl, by simp [kept_foldl]⟩

theorem execRmwSwap_kept (r : Req) (s : State) :
    ∃ z, execRmwSwap r s = .next z ∧ z.kept = s.kept := by
  unfold execRmwSwap; (try dsimp only); (repeat' split)
  all_goals exact ⟨_, rfl, by simp [kept_foldl]⟩

theorem execRmwCas_kept (r : Req) (s : State) :
    ∃ z, execRmwCas r s = .next z ∧ z.kept = s.kept := by
  unfold execRmwCas; (try dsimp only); (repeat' split)
  all_goals exact ⟨_, rfl, by simp [kept_foldl]⟩

theorem execRmwAdd_kept (r : Req) (s : State) :
    ∃ z, execRmwAdd r s = .next z ∧ z.kept = s.kept := by
  unfold execRmwAdd; (try dsimp only); (repeat' split)
  all_goals exact ⟨_, rfl, by simp [kept_foldl]⟩

theorem execRmwAnd_kept (r : Req) (s : State) :
    ∃ z, execRmwAnd r s = .next z ∧ z.kept = s.kept := by
  unfold execRmwAnd; (try dsimp only); (repeat' split)
  all_goals exact ⟨_, rfl, by simp [kept_foldl]⟩

theorem execRmwOr_kept (r : Req) (s : State) :
    ∃ z, execRmwOr r s = .next z ∧ z.kept = s.kept := by
  unfold execRmwOr; (try dsimp only); (repeat' split)
  all_goals exact ⟨_, rfl, by simp [kept_foldl]⟩

theorem execRmwXor_kept (r : Req) (s : State) :
    ∃ z, execRmwXor r s = .next z ∧ z.kept = s.kept := by
  unfold execRmwXor; (try dsimp only); (repeat' split)
  all_goals exact ⟨_, rfl, by simp [kept_foldl]⟩

theorem execRmwMasked_kept (r : Req) (s : State) :
    ∃ z, execRmwMasked r s = .next z ∧ z.kept = s.kept := by
  unfold execRmwMasked; (try dsimp only); (repeat' split)
  all_goals exact ⟨_, rfl, by simp [kept_foldl]⟩

theorem execLock_kept (r : Req) (s : State) :
    ∃ z, execLock r s = .next z ∧ z.kept = s.kept := by
  unfold execLock; (try dsimp only); (repeat' split)
  all_goals exact ⟨_, rfl, by simp [kept_foldl]⟩

theorem execUnlock_kept (r : Req) (s : State) :
    ∃ z, execUnlock r s = .next z ∧ z.kept = s.kept := by
  unfold execUnlock; (try dsimp only); (repeat' split)
  all_goals exact ⟨_, rfl, by simp [kept_foldl]⟩

theorem execSend_kept (r : Req) (s : State) :
    ∃ z, execSend r s = .next z ∧ z.kept = s.kept := by
  unfold execSend; (try dsimp only); (repeat' split)
  all_goals exact ⟨_, rfl, by simp [kept_foldl]⟩

theorem execRecv_kept (r : Req) (s : State) :
    ∃ z, execRecv r s = .next z ∧ z.kept = s.kept := by
  unfold execRecv; (try dsimp only); (repeat' split)
  all_goals exact ⟨_, rfl, by simp [kept_foldl]⟩

theorem execSubscribeCyclic_kept (r : Req) (s : State) :
    ∃ z, execSubscribeCyclic r s = .next z ∧ z.kept = s.kept := by
  unfold execSubscribeCyclic; (try dsimp only); (repeat' split)
  all_goals exact ⟨_, rfl, by simp [kept_foldl]⟩

theorem execSubscribeOnChange_kept (r : Req) (s : State) :
    ∃ z, execSubscribeOnChange r s = .next z ∧ z.kept = s.kept := by
  unfold execSubscribeOnChange; (try dsimp only); (repeat' split)
  all_goals exact ⟨_, rfl, by simp [kept_foldl]⟩

theorem execUnsubscribe_kept (r : Req) (s : State) :
    ∃ z, execUnsubscribe r s = .next z ∧ z.kept = s.kept := by
  unfold execUnsubscribe; (try dsimp only); (repeat' split)
  all_goals exact ⟨_, rfl, by simp [kept_foldl]⟩

theorem execTableLoad_kept (r : Req) (s : State) :
    ∃ z, execTableLoad r s = .next z ∧ z.kept = s.kept := by
  unfold execTableLoad; (try dsimp only); (repeat' split)
  all_goals exact ⟨_, rfl, by simp [kept_foldl]⟩

theorem execTableLoadActivate_kept (r : Req) (s : State) :
    ∃ z, execTableLoadActivate r s = .next z ∧ z.kept = s.kept := by
  unfold execTableLoadActivate; (try dsimp only); (repeat' split)
  all_goals exact ⟨_, rfl, by simp [kept_foldl]⟩

theorem execFenceSq_kept (r : Req) (s : State) :
    ∃ z, execFenceSq r s = .next z ∧ z.kept = s.kept := by
  unfold execFenceSq; (try dsimp only); (repeat' split)
  all_goals exact ⟨_, rfl, by simp [kept_foldl]⟩

theorem execFenceSlot_kept (r : Req) (s : State) :
    ∃ z, execFenceSlot r s = .next z ∧ z.kept = s.kept := by
  unfold execFenceSlot; (try dsimp only); (repeat' split)
  all_goals exact ⟨_, rfl, by simp [kept_foldl]⟩

theorem execFenceDone_kept (k : Fin 8192) (s : State) :
    ∃ z, execFenceDone k s = .next z ∧ z.kept = s.kept := by
  unfold execFenceDone; (try dsimp only); (repeat' split)
  all_goals exact ⟨_, rfl, by simp [kept_foldl]⟩

theorem execQueryTime_kept (r : Req) (s : State) :
    ∃ z, execQueryTime r s = .next z ∧ z.kept = s.kept := by
  unfold execQueryTime; (try dsimp only); (repeat' split)
  all_goals exact ⟨_, rfl, by simp [kept_foldl]⟩

theorem execQueryTopology_kept (r : Req) (s : State) :
    ∃ z, execQueryTopology r s = .next z ∧ z.kept = s.kept := by
  unfold execQueryTopology; (try dsimp only); (repeat' split)
  all_goals exact ⟨_, rfl, by simp [kept_foldl]⟩

theorem execQueryIdentity_kept (r : Req) (s : State) :
    ∃ z, execQueryIdentity r s = .next z ∧ z.kept = s.kept := by
  unfold execQueryIdentity; (try dsimp only); (repeat' split)
  all_goals exact ⟨_, rfl, by simp [kept_foldl]⟩

theorem execQueryTags_kept (r : Req) (s : State) :
    ∃ z, execQueryTags r s = .next z ∧ z.kept = s.kept := by
  unfold execQueryTags; (try dsimp only); (repeat' split)
  all_goals exact ⟨_, rfl, by simp [kept_foldl]⟩

theorem execPowerRun_kept (r : Req) (s : State) :
    ∃ z, execPowerRun r s = .next z ∧ z.kept = s.kept := by
  unfold execPowerRun; (try dsimp only); (repeat' split)
  all_goals exact ⟨_, rfl, by simp [kept_foldl]⟩

theorem execPowerTrim_kept (r : Req) (s : State) :
    ∃ z, execPowerTrim r s = .next z ∧ z.kept = s.kept := by
  unfold execPowerTrim; (try dsimp only); (repeat' split)
  all_goals exact ⟨_, rfl, by simp [kept_foldl]⟩

theorem execPowerDoze_kept (r : Req) (s : State) :
    ∃ z, execPowerDoze r s = .next z ∧ z.kept = s.kept := by
  unfold execPowerDoze; (try dsimp only); (repeat' split)
  all_goals exact ⟨_, rfl, by simp [kept_foldl]⟩

theorem execPowerDormant_kept (r : Req) (s : State) :
    ∃ z, execPowerDormant r s = .next z ∧ z.kept = s.kept := by
  unfold execPowerDormant; (try dsimp only); (repeat' split)
  all_goals exact ⟨_, rfl, by simp [kept_foldl]⟩

theorem execUpdateFirmware_kept (r : Req) (e : StopEnv) (err : Bool) (s : State) :
    ∃ z, execUpdateFirmware r e err s = .next z ∧ z.kept = s.kept := by
  unfold execUpdateFirmware; (try dsimp only); (repeat' split)
  all_goals exact ⟨_, rfl, by simp [kept_foldl]⟩

theorem execUpdateBundle_kept (r : Req) (e : StopEnv) (err : Bool) (s : State) :
    ∃ z, execUpdateBundle r e err s = .next z ∧ z.kept = s.kept := by
  unfold execUpdateBundle; (try dsimp only); (repeat' split)
  all_goals exact ⟨_, rfl, by simp [kept_foldl]⟩

theorem execTimedOpDue_kept (r : Req) (s : State) :
    ∃ z, execTimedOpDue r s = .next z ∧ z.kept = s.kept := by
  unfold execTimedOpDue; (try dsimp only); (repeat' split)
  all_goals exact ⟨_, rfl, by simp [kept_foldl]⟩

theorem execStationAssignment_kept (i : Fin 4) (f : Frame) (s : State) :
    ∃ z, execStationAssignment i f s = .next z ∧ z.kept = s.kept := by
  unfold execStationAssignment; (try dsimp only); (repeat' split)
  all_goals exact ⟨_, rfl, by simp [kept_foldl]⟩

theorem execFrameForward_kept (i : Fin 4) (f : Frame) (seqRead : Bool) (s : State) :
    ∃ z, execFrameForward i f seqRead s = .next z ∧ z.kept = s.kept := by
  unfold execFrameForward; (try dsimp only); (repeat' split)
  all_goals exact ⟨_, rfl, by simp [kept_foldl]⟩

theorem execJunctionRoute_kept (i : Fin 4) (f : Frame) (seqRead : Bool) (s : State) :
    ∃ z, execJunctionRoute i f seqRead s = .next z ∧ z.kept = s.kept := by
  unfold execJunctionRoute; (try dsimp only); (repeat' split)
  all_goals exact ⟨_, rfl, by simp [kept_foldl]⟩

theorem execAckReceive_kept (i : Fin 5) (q : SetPair) (s : State) :
    ∃ z, execAckReceive i q s = .next z ∧ z.kept = s.kept := by
  unfold execAckReceive; (try dsimp only); (repeat' split)
  all_goals exact ⟨_, rfl, by simp [kept_foldl]⟩

theorem execNakReceive_kept (i : Fin 5) (q : SetPair) (s : State) :
    ∃ z, execNakReceive i q s = .next z ∧ z.kept = s.kept := by
  unfold execNakReceive; (try dsimp only); (repeat' split)
  all_goals exact ⟨_, rfl, by simp [kept_foldl]⟩

theorem execAckTimer_kept (i : Fin 5) (s : State) :
    ∃ z, execAckTimer i s = .next z ∧ z.kept = s.kept := by
  unfold execAckTimer; (try dsimp only); (repeat' split)
  all_goals exact ⟨_, rfl, by simp [kept_foldl]⟩

theorem execReplayTimerExpiry_kept (i : Fin 5) (s : State) :
    ∃ z, execReplayTimerExpiry i s = .next z ∧ z.kept = s.kept := by
  unfold execReplayTimerExpiry; (try dsimp only); (repeat' split)
  all_goals exact ⟨_, rfl, by simp [kept_foldl]⟩

theorem execSilentTimeout_kept (i : Fin 5) (s : State) :
    ∃ z, execSilentTimeout i s = .next z ∧ z.kept = s.kept := by
  unfold execSilentTimeout; (try dsimp only); (repeat' split)
  all_goals exact ⟨_, rfl, by simp [kept_foldl]⟩

theorem execSignalLoss_kept (i : Fin 5) (s : State) :
    ∃ z, execSignalLoss i s = .next z ∧ z.kept = s.kept := by
  unfold execSignalLoss; (try dsimp only); (repeat' split)
  all_goals exact ⟨_, rfl, by simp [kept_foldl]⟩

theorem execLinkRestartTimer_kept (i : Fin 5) (s : State) :
    ∃ z, execLinkRestartTimer i s = .next z ∧ z.kept = s.kept := by
  unfold execLinkRestartTimer; (try dsimp only); (repeat' split)
  all_goals exact ⟨_, rfl, by simp [kept_foldl]⟩

theorem execLinkRetryTimer_kept (i : Fin 5) (s : State) :
    ∃ z, execLinkRetryTimer i s = .next z ∧ z.kept = s.kept := by
  unfold execLinkRetryTimer; (try dsimp only); (repeat' split)
  all_goals exact ⟨_, rfl, by simp [kept_foldl]⟩

theorem execBringupTimeout_kept (i : Fin 5) (s : State) :
    ∃ z, execBringupTimeout i s = .next z ∧ z.kept = s.kept := by
  unfold execBringupTimeout; (try dsimp only); (repeat' split)
  all_goals exact ⟨_, rfl, by simp [kept_foldl]⟩

theorem execSignalLocked_kept (i : Fin 5) (s : State) :
    ∃ z, execSignalLocked i s = .next z ∧ z.kept = s.kept := by
  unfold execSignalLocked; (try dsimp only); (repeat' split)
  all_goals exact ⟨_, rfl, by simp [kept_foldl]⟩

theorem execTrainBlockLockHeld_kept (i : Fin 5) (s : State) :
    ∃ z, execTrainBlockLockHeld i s = .next z ∧ z.kept = s.kept := by
  unfold execTrainBlockLockHeld; (try dsimp only); (repeat' split)
  all_goals exact ⟨_, rfl, by simp [kept_foldl]⟩

theorem execReadySetReceive_kept (i : Fin 5 × SetPair) (s : State) :
    ∃ z, execReadySetReceive i s = .next z ∧ z.kept = s.kept := by
  unfold execReadySetReceive; (try dsimp only); (repeat' split)
  all_goals exact ⟨_, rfl, by simp [kept_foldl]⟩

theorem execProbeReceive_kept (i : Fin 5) (s : State) :
    ∃ z, execProbeReceive i s = .next z ∧ z.kept = s.kept := by
  unfold execProbeReceive; (try dsimp only); (repeat' split)
  all_goals exact ⟨_, rfl, by simp [kept_foldl]⟩

theorem execEchoReceive_kept (i : Fin 5) (t : Nat) (s : State) :
    ∃ z, execEchoReceive i t s = .next z ∧ z.kept = s.kept := by
  unfold execEchoReceive; (try dsimp only); (repeat' split)
  all_goals exact ⟨_, rfl, by simp [kept_foldl]⟩

theorem execProbeRetry_kept (i : Fin 5) (s : State) :
    ∃ z, execProbeRetry i s = .next z ∧ z.kept = s.kept := by
  unfold execProbeRetry; (try dsimp only); (repeat' split)
  all_goals exact ⟨_, rfl, by simp [kept_foldl]⟩

theorem execLinkStateReceive_kept (i : Fin 4) (f : Frame) (s : State) :
    ∃ z, execLinkStateReceive i f s = .next z ∧ z.kept = s.kept := by
  unfold execLinkStateReceive; (try dsimp only); (repeat' split)
  all_goals exact ⟨_, rfl, by simp [kept_foldl]⟩

theorem execUplinkFrameReceive_kept (j : Fin 2) (fcsOk : Bool) (b : List Byte) (s : State) :
    ∃ z, execUplinkFrameReceive j fcsOk b s = .next z ∧ z.kept = s.kept := by
  unfold execUplinkFrameReceive; (try dsimp only); (repeat' split)
  all_goals exact ⟨_, rfl, by simp [kept_foldl]⟩

theorem execUplinkLockLoss_kept (i : Fin 2) (s : State) :
    ∃ z, execUplinkLockLoss i s = .next z ∧ z.kept = s.kept := by
  unfold execUplinkLockLoss; (try dsimp only); (repeat' split)
  all_goals exact ⟨_, rfl, by simp [kept_foldl]⟩

theorem execJoinTimerExpiry_kept (n : Fin 2) (s : State) :
    ∃ z, execJoinTimerExpiry n s = .next z ∧ z.kept = s.kept := by
  unfold execJoinTimerExpiry; (try dsimp only); (repeat' split)
  all_goals exact ⟨_, rfl, by simp [kept_foldl]⟩

theorem execAnnounceReceive_kept (i : Fin 4) (f : Frame) (s : State) :
    ∃ z, execAnnounceReceive i f s = .next z ∧ z.kept = s.kept := by
  unfold execAnnounceReceive; (try dsimp only); (repeat' split)
  all_goals exact ⟨_, rfl, by simp [kept_foldl]⟩

theorem execAnnounceTimer_kept (n : Fin 2) (s : State) :
    ∃ z, execAnnounceTimer n s = .next z ∧ z.kept = s.kept := by
  unfold execAnnounceTimer; (try dsimp only); (repeat' split)
  all_goals exact ⟨_, rfl, by simp [kept_foldl]⟩

theorem execStationAgeOut_kept (n : Fin 2) (st : Fin 256) (s : State) :
    ∃ z, execStationAgeOut n st s = .next z ∧ z.kept = s.kept := by
  unfold execStationAgeOut; (try dsimp only); (repeat' split)
  all_goals exact ⟨_, rfl, by simp [kept_foldl]⟩

theorem execMasterClaimTimer_kept (n : Fin 2) (s : State) :
    ∃ z, execMasterClaimTimer n s = .next z ∧ z.kept = s.kept := by
  unfold execMasterClaimTimer; (try dsimp only); (repeat' split)
  all_goals exact ⟨_, rfl, by simp [kept_foldl]⟩

theorem execCycleStart_kept (n : Fin 2) (k : Nat) (s : State) :
    ∃ z, execCycleStart n k s = .next z ∧ z.kept = s.kept := by
  unfold execCycleStart; (try dsimp only); (repeat' split)
  all_goals exact ⟨_, rfl, by simp [kept_foldl]⟩

theorem execSweepSliceReceive_kept (i : Fin 4) (f : Frame) (s : State) :
    ∃ z, execSweepSliceReceive i f s = .next z ∧ z.kept = s.kept := by
  unfold execSweepSliceReceive; (try dsimp only); (repeat' split)
  all_goals exact ⟨_, rfl, by simp [kept_foldl]⟩

theorem execCaptureInstant_kept (n : Fin 2) (k : Nat) (m : Measured) (cj : List (Fin 64 × Int)) (s : State) :
    ∃ z, execCaptureInstant n k m cj s = .next z ∧ z.kept = s.kept := by
  unfold execCaptureInstant; (try dsimp only); (repeat' split)
  all_goals exact ⟨_, rfl, by simp [kept_foldl]⟩

theorem execExchangeClose_kept (n : Fin 2) (k : Nat) (s : State) :
    ∃ z, execExchangeClose n k s = .next z ∧ z.kept = s.kept := by
  unfold execExchangeClose; (try dsimp only); (repeat' split)
  all_goals exact ⟨_, rfl, by simp [kept_foldl]⟩

theorem execRemoteFetchDeadline_kept (s : State) :
    ∃ z, execRemoteFetchDeadline s = .next z ∧ z.kept = s.kept := by
  unfold execRemoteFetchDeadline; (try dsimp only); (repeat' split)
  all_goals exact ⟨_, rfl, by simp [kept_foldl]⟩

theorem execReflexOverrun_kept (s : State) :
    ∃ z, execReflexOverrun s = .next z ∧ z.kept = s.kept := by
  unfold execReflexOverrun; (try dsimp only); (repeat' split)
  all_goals exact ⟨_, rfl, by simp [kept_foldl]⟩

theorem execOutputFreeze_kept (s : State) :
    ∃ z, execOutputFreeze s = .next z ∧ z.kept = s.kept := by
  unfold execOutputFreeze; (try dsimp only); (repeat' split)
  all_goals exact ⟨_, rfl, by simp [kept_foldl]⟩

theorem execOutputDeadline_kept (s : State) :
    ∃ z, execOutputDeadline s = .next z ∧ z.kept = s.kept := by
  unfold execOutputDeadline; (try dsimp only); (repeat' split)
  all_goals exact ⟨_, rfl, by simp [kept_foldl]⟩

theorem execSyncSend_kept (n : Fin 2) (s : State) :
    ∃ z, execSyncSend n s = .next z ∧ z.kept = s.kept := by
  unfold execSyncSend; (try dsimp only); (repeat' split)
  all_goals exact ⟨_, rfl, by simp [kept_foldl]⟩

theorem execSyncReceive_kept (i : Fin 4) (f : Frame) (res : Nat) (s : State) :
    ∃ z, execSyncReceive i f res s = .next z ∧ z.kept = s.kept := by
  unfold execSyncReceive; (try dsimp only); (repeat' split)
  all_goals exact ⟨_, rfl, by simp [kept_foldl]⟩

theorem execSyncPathTimeout_kept (n dir : Fin 2) (s : State) :
    ∃ z, execSyncPathTimeout n dir s = .next z ∧ z.kept = s.kept := by
  unfold execSyncPathTimeout; (try dsimp only); (repeat' split)
  all_goals exact ⟨_, rfl, by simp [kept_foldl]⟩

theorem execHoldoverExpiry_kept (d : Fin 9) (s : State) :
    ∃ z, execHoldoverExpiry d s = .next z ∧ z.kept = s.kept := by
  unfold execHoldoverExpiry; (try dsimp only); (repeat' split)
  all_goals exact ⟨_, rfl, by simp [kept_foldl]⟩

theorem execPdelayTimer_kept (i : Fin 5) (s : State) :
    ∃ z, execPdelayTimer i s = .next z ∧ z.kept = s.kept := by
  unfold execPdelayTimer; (try dsimp only); (repeat' split)
  all_goals exact ⟨_, rfl, by simp [kept_foldl]⟩

theorem execPdelayReqReceive_kept (i : Fin 5) (f : Frame) (s : State) :
    ∃ z, execPdelayReqReceive i f s = .next z ∧ z.kept = s.kept := by
  unfold execPdelayReqReceive; (try dsimp only); (repeat' split)
  all_goals exact ⟨_, rfl, by simp [kept_foldl]⟩

theorem execPdelayRespReceive_kept (i : Fin 5) (f : Frame) (s : State) :
    ∃ z, execPdelayRespReceive i f s = .next z ∧ z.kept = s.kept := by
  unfold execPdelayRespReceive; (try dsimp only); (repeat' split)
  all_goals exact ⟨_, rfl, by simp [kept_foldl]⟩

theorem execPtpSyncReceive_kept (j : Fin 2) (t : Nat) (s : State) :
    ∃ z, execPtpSyncReceive j t s = .next z ∧ z.kept = s.kept := by
  unfold execPtpSyncReceive; (try dsimp only); (repeat' split)
  all_goals exact ⟨_, rfl, by simp [kept_foldl]⟩

theorem execPtpSyncTimeout_kept (j : Fin 2) (s : State) :
    ∃ z, execPtpSyncTimeout j s = .next z ∧ z.kept = s.kept := by
  unfold execPtpSyncTimeout; (try dsimp only); (repeat' split)
  all_goals exact ⟨_, rfl, by simp [kept_foldl]⟩

theorem execPtpGrandmasterSend_kept (j : Fin 2) (announce : Bool) (s : State) :
    ∃ z, execPtpGrandmasterSend j announce s = .next z ∧ z.kept = s.kept := by
  unfold execPtpGrandmasterSend; (try dsimp only); (repeat' split)
  all_goals exact ⟨_, rfl, by simp [kept_foldl]⟩

theorem execPpsEdge_kept (rising : Bool) (s : State) :
    ∃ z, execPpsEdge rising s = .next z ∧ z.kept = s.kept := by
  unfold execPpsEdge; (try dsimp only); (repeat' split)
  all_goals exact ⟨_, rfl, by simp [kept_foldl]⟩

theorem execPpsTimeout_kept (s : State) :
    ∃ z, execPpsTimeout s = .next z ∧ z.kept = s.kept := by
  unfold execPpsTimeout; (try dsimp only); (repeat' split)
  all_goals exact ⟨_, rfl, by simp [kept_foldl]⟩

theorem execDomainSample_kept (d : Fin 8) (s : State) :
    ∃ z, execDomainSample d s = .next z ∧ z.kept = s.kept := by
  unfold execDomainSample; (try dsimp only); (repeat' split)
  all_goals exact ⟨_, rfl, by simp [kept_foldl]⟩

theorem execTdCmdSet_kept (d : Fin 8) (s : State) :
    ∃ z, execTdCmdSet d s = .next z ∧ z.kept = s.kept := by
  unfold execTdCmdSet; (try dsimp only); (repeat' split)
  all_goals exact ⟨_, rfl, by simp [kept_foldl]⟩

theorem execTdCmdStep_kept (d : Fin 8) (s : State) :
    ∃ z, execTdCmdStep d s = .next z ∧ z.kept = s.kept := by
  unfold execTdCmdStep; (try dsimp only); (repeat' split)
  all_goals exact ⟨_, rfl, by simp [kept_foldl]⟩

theorem execTdCmdSlew_kept (d : Fin 8) (s : State) :
    ∃ z, execTdCmdSlew d s = .next z ∧ z.kept = s.kept := by
  unfold execTdCmdSlew; (try dsimp only); (repeat' split)
  all_goals exact ⟨_, rfl, by simp [kept_foldl]⟩

theorem execSlewDone_kept (d : Fin 8) (s : State) :
    ∃ z, execSlewDone d s = .next z ∧ z.kept = s.kept := by
  unfold execSlewDone; (try dsimp only); (repeat' split)
  all_goals exact ⟨_, rfl, by simp [kept_foldl]⟩

theorem execTdSnapLatch_kept (s : State) :
    ∃ z, execTdSnapLatch s = .next z ∧ z.kept = s.kept := by
  unfold execTdSnapLatch; (try dsimp only); (repeat' split)
  all_goals exact ⟨_, rfl, by simp [kept_foldl]⟩

theorem execPpsOutPulse_kept (s : State) :
    ∃ z, execPpsOutPulse s = .next z ∧ z.kept = s.kept := by
  unfold execPpsOutPulse; (try dsimp only); (repeat' split)
  all_goals exact ⟨_, rfl, by simp [kept_foldl]⟩

theorem execPpsOutEnd_kept (s : State) :
    ∃ z, execPpsOutEnd s = .next z ∧ z.kept = s.kept := by
  unfold execPpsOutEnd; (try dsimp only); (repeat' split)
  all_goals exact ⟨_, rfl, by simp [kept_foldl]⟩

theorem execScheduledEdgeDue_kept (p : Fin 64) (x : Fin 4) (s : State) :
    ∃ z, execScheduledEdgeDue p x s = .next z ∧ z.kept = s.kept := by
  unfold execScheduledEdgeDue; (try dsimp only); (repeat' split)
  all_goals exact ⟨_, rfl, by simp [kept_foldl]⟩

theorem execPinEdge_kept (p : Fin 64) (x : Fin 4) (e : PinEvent) (s : State) :
    ∃ z, execPinEdge p x e s = .next z ∧ z.kept = s.kept := by
  unfold execPinEdge; (try dsimp only); (repeat' split)
  all_goals exact ⟨_, rfl, by simp [kept_foldl]⟩

theorem execChatterEnd_kept (p : Fin 64) (x : Fin 4) (level : Bool) (s : State) :
    ∃ z, execChatterEnd p x level s = .next z ∧ z.kept = s.kept := by
  unfold execChatterEnd; (try dsimp only); (repeat' split)
  all_goals exact ⟨_, rfl, by simp [kept_foldl]⟩

theorem execStuckTimeout_kept (p : Fin 64) (x : Fin 4) (s : State) :
    ∃ z, execStuckTimeout p x s = .next z ∧ z.kept = s.kept := by
  unfold execStuckTimeout; (try dsimp only); (repeat' split)
  all_goals exact ⟨_, rfl, by simp [kept_foldl]⟩

theorem execDoCurrentLimitLatch_kept (p : Fin 64) (x : Fin 4) (hot : Bool) (s : State) :
    ∃ z, execDoCurrentLimitLatch p x hot s = .next z ∧ z.kept = s.kept := by
  unfold execDoCurrentLimitLatch; (try dsimp only); (repeat' split)
  all_goals exact ⟨_, rfl, by simp [kept_foldl]⟩

theorem execDoRetry_kept (p : Fin 64) (x : Fin 4) (s : State) :
    ∃ z, execDoRetry p x s = .next z ∧ z.kept = s.kept := by
  unfold execDoRetry; (try dsimp only); (repeat' split)
  all_goals exact ⟨_, rfl, by simp [kept_foldl]⟩

theorem execDriverOverheat_kept (p : Fin 64) (d : Fin 3) (s : State) :
    ∃ z, execDriverOverheat p d s = .next z ∧ z.kept = s.kept := by
  unfold execDriverOverheat; (try dsimp only); (repeat' split)
  all_goals exact ⟨_, rfl, by simp [kept_foldl]⟩

theorem execDriverCooled_kept (p : Fin 64) (d : Fin 3) (s : State) :
    ∃ z, execDriverCooled p d s = .next z ∧ z.kept = s.kept := by
  unfold execDriverCooled; (try dsimp only); (repeat' split)
  all_goals exact ⟨_, rfl, by simp [kept_foldl]⟩

theorem execFpBreakerTrip_kept (p : Fin 64) (s : State) :
    ∃ z, execFpBreakerTrip p s = .next z ∧ z.kept = s.kept := by
  unfold execFpBreakerTrip; (try dsimp only); (repeat' split)
  all_goals exact ⟨_, rfl, by simp [kept_foldl]⟩

theorem execFpTripClear_kept (p : Fin 64) (s : State) :
    ∃ z, execFpTripClear p s = .next z ∧ z.kept = s.kept := by
  unfold execFpTripClear; (try dsimp only); (repeat' split)
  all_goals exact ⟨_, rfl, by simp [kept_foldl]⟩

theorem execFieldConditionDetect_kept (p : Fin 64) (x : Fin 5) (short on : Bool) (s : State) :
    ∃ z, execFieldConditionDetect p x short on s = .next z ∧ z.kept = s.kept := by
  unfold execFieldConditionDetect; (try dsimp only); (repeat' split)
  all_goals exact ⟨_, rfl, by simp [kept_foldl]⟩

theorem execFieldPowerLoss_kept (s : State) :
    ∃ z, execFieldPowerLoss s = .next z ∧ z.kept = s.kept := by
  unfold execFieldPowerLoss; (try dsimp only); (repeat' split)
  all_goals exact ⟨_, rfl, by simp [kept_foldl]⟩

theorem execFieldPowerReturn_kept (s : State) :
    ∃ z, execFieldPowerReturn s = .next z ∧ z.kept = s.kept := by
  unfold execFieldPowerReturn; (try dsimp only); (repeat' split)
  all_goals exact ⟨_, rfl, by simp [kept_foldl]⟩

theorem execDerateStep_kept (s : State) :
    ∃ z, execDerateStep s = .next z ∧ z.kept = s.kept := by
  unfold execDerateStep; (try dsimp only); (repeat' split)
  all_goals exact ⟨_, rfl, by simp [kept_foldl]⟩

theorem execRestoreStep_kept (s : State) :
    ∃ z, execRestoreStep s = .next z ∧ z.kept = s.kept := by
  unfold execRestoreStep; (try dsimp only); (repeat' split)
  all_goals exact ⟨_, rfl, by simp [kept_foldl]⟩

theorem execTjMaxReached_kept (s : State) :
    ∃ z, execTjMaxReached s = .next z ∧ z.kept = s.kept := by
  unfold execTjMaxReached; (try dsimp only); (repeat' split)
  all_goals exact ⟨_, rfl, by simp [kept_foldl]⟩

theorem execAiConditionDetect_kept (c : Fin 256) (short on : Bool) (s : State) :
    ∃ z, execAiConditionDetect c short on s = .next z ∧ z.kept = s.kept := by
  unfold execAiConditionDetect; (try dsimp only); (repeat' split)
  all_goals exact ⟨_, rfl, by simp [kept_foldl]⟩

theorem execI20ShuntReclose_kept (c : Fin 256) (s : State) :
    ∃ z, execI20ShuntReclose c s = .next z ∧ z.kept = s.kept := by
  unfold execI20ShuntReclose; (try dsimp only); (repeat' split)
  all_goals exact ⟨_, rfl, by simp [kept_foldl]⟩

theorem execBgCalVisit_kept (c : Fin 256) (g o : BitVec 64) (s : State) :
    ∃ z, execBgCalVisit c g o s = .next z ∧ z.kept = s.kept := by
  unfold execBgCalVisit; (try dsimp only); (repeat' split)
  all_goals exact ⟨_, rfl, by simp [kept_foldl]⟩

theorem execScalZero_kept (c : Fin 256) (s : State) :
    ∃ z, execScalZero c s = .next z ∧ z.kept = s.kept := by
  unfold execScalZero; (try dsimp only); (repeat' split)
  all_goals exact ⟨_, rfl, by simp [kept_foldl]⟩

theorem execScalSpan_kept (c : Fin 256) (s : State) :
    ∃ z, execScalSpan c s = .next z ∧ z.kept = s.kept := by
  unfold execScalSpan; (try dsimp only); (repeat' split)
  all_goals exact ⟨_, rfl, by simp [kept_foldl]⟩

theorem execScalDone_kept (codes : List (Int × Int × Int)) (s : State) :
    ∃ z, execScalDone codes s = .next z ∧ z.kept = s.kept := by
  unfold execScalDone; (try dsimp only); (repeat' split)
  all_goals exact ⟨_, rfl, by simp [kept_foldl]⟩

theorem execAoShortLatch_kept (p : Fin 64) (s : State) :
    ∃ z, execAoShortLatch p s = .next z ∧ z.kept = s.kept := by
  unfold execAoShortLatch; (try dsimp only); (repeat' split)
  all_goals exact ⟨_, rfl, by simp [kept_foldl]⟩

theorem execAoRetry_kept (p : Fin 64) (s : State) :
    ∃ z, execAoRetry p s = .next z ∧ z.kept = s.kept := by
  unfold execAoRetry; (try dsimp only); (repeat' split)
  all_goals exact ⟨_, rfl, by simp [kept_foldl]⟩

theorem execAoOpenDetect_kept (p : Fin 64) (on : Bool) (s : State) :
    ∃ z, execAoOpenDetect p on s = .next z ∧ z.kept = s.kept := by
  unfold execAoOpenDetect; (try dsimp only); (repeat' split)
  all_goals exact ⟨_, rfl, by simp [kept_foldl]⟩

theorem execCanFrameReceive_kept (i : Fin 32) (item : BusFrame) (ok : Bool) (tec rec : Nat) (s : State) :
    ∃ z, execCanFrameReceive i item ok tec rec s = .next z ∧ z.kept = s.kept := by
  unfold execCanFrameReceive; (try dsimp only); (repeat' split)
  all_goals exact ⟨_, rfl, by simp [kept_foldl]⟩

theorem execSpeFrameReceive_kept (i : Fin 16) (b : BusFrame) (fcsOk : Bool) (s : State) :
    ∃ z, execSpeFrameReceive i b fcsOk s = .next z ∧ z.kept = s.kept := by
  unfold execSpeFrameReceive; (try dsimp only); (repeat' split)
  all_goals exact ⟨_, rfl, by simp [kept_foldl]⟩

theorem execUartBlockEnd_kept (i : Fin 64) (item : BusFrame) (s : State) :
    ∃ z, execUartBlockEnd i item s = .next z ∧ z.kept = s.kept := by
  unfold execUartBlockEnd; (try dsimp only); (repeat' split)
  all_goals exact ⟨_, rfl, by simp [kept_foldl]⟩

theorem execModbusResponse_kept (i : Fin 64) (x : ModbusRsp) (s : State) :
    ∃ z, execModbusResponse i x s = .next z ∧ z.kept = s.kept := by
  unfold execModbusResponse; (try dsimp only); (repeat' split)
  all_goals exact ⟨_, rfl, by simp [kept_foldl]⟩

theorem execModbusRspTimeout_kept (i : Fin 64) (s : State) :
    ∃ z, execModbusRspTimeout i s = .next z ∧ z.kept = s.kept := by
  unfold execModbusRspTimeout; (try dsimp only); (repeat' split)
  all_goals exact ⟨_, rfl, by simp [kept_foldl]⟩

theorem execIolPdReceive_kept (p : Fin 64) (valid : Bool) (data : List Byte) (s : State) :
    ∃ z, execIolPdReceive p valid data s = .next z ∧ z.kept = s.kept := by
  unfold execIolPdReceive; (try dsimp only); (repeat' split)
  all_goals exact ⟨_, rfl, by simp [kept_foldl]⟩

theorem execIolEventReceive_kept (p : Fin 64) (data : List Byte) (s : State) :
    ∃ z, execIolEventReceive p data s = .next z ∧ z.kept = s.kept := by
  unfold execIolEventReceive; (try dsimp only); (repeat' split)
  all_goals exact ⟨_, rfl, by simp [kept_foldl]⟩

theorem execRawSendDone_kept (k : Fin 5) (i : Fin 64) (ok : Bool) (s : State) :
    ∃ z, execRawSendDone k i ok s = .next z ∧ z.kept = s.kept := by
  unfold execRawSendDone; (try dsimp only); (repeat' split)
  all_goals exact ⟨_, rfl, by simp [kept_foldl]⟩

theorem execAutoRateStep_kept (k : AutoStep) (i : Fin 64) (s : State) :
    ∃ z, execAutoRateStep k i s = .next z ∧ z.kept = s.kept := by
  unfold execAutoRateStep; (try dsimp only); (repeat' split)
  all_goals exact ⟨_, rfl, by simp [kept_foldl]⟩

theorem execIolWakeup_kept (p : Fin 64) (com : Option (Nat × Nat × Nat)) (s : State) :
    ∃ z, execIolWakeup p com s = .next z ∧ z.kept = s.kept := by
  unfold execIolWakeup; (try dsimp only); (repeat' split)
  all_goals exact ⟨_, rfl, by simp [kept_foldl]⟩

theorem execIolPowerRetry_kept (p : Fin 64) (s : State) :
    ∃ z, execIolPowerRetry p s = .next z ∧ z.kept = s.kept := by
  unfold execIolPowerRetry; (try dsimp only); (repeat' split)
  all_goals exact ⟨_, rfl, by simp [kept_foldl]⟩

theorem execCanBusOff_kept (i : Fin 32) (s : State) :
    ∃ z, execCanBusOff i s = .next z ∧ z.kept = s.kept := by
  unfold execCanBusOff; (try dsimp only); (repeat' split)
  all_goals exact ⟨_, rfl, by simp [kept_foldl]⟩

theorem execCanAutoRecover_kept (i : Fin 32) (s : State) :
    ∃ z, execCanAutoRecover i s = .next z ∧ z.kept = s.kept := by
  unfold execCanAutoRecover; (try dsimp only); (repeat' split)
  all_goals exact ⟨_, rfl, by simp [kept_foldl]⟩

theorem execCanRecover_kept (i : Fin 32) (s : State) :
    ∃ z, execCanRecover i s = .next z ∧ z.kept = s.kept := by
  unfold execCanRecover; (try dsimp only); (repeat' split)
  all_goals exact ⟨_, rfl, by simp [kept_foldl]⟩

theorem execIolRestart_kept (p : Fin 64) (s : State) :
    ∃ z, execIolRestart p s = .next z ∧ z.kept = s.kept := by
  unfold execIolRestart; (try dsimp only); (repeat' split)
  all_goals exact ⟨_, rfl, by simp [kept_foldl]⟩

theorem execControllerError_kept (k : Fin 5) (i : Fin 64) (uncorrectable : Bool) (s : State) :
    ∃ z, execControllerError k i uncorrectable s = .next z ∧ z.kept = s.kept := by
  unfold execControllerError; (try dsimp only); (repeat' split)
  all_goals exact ⟨_, rfl, by simp [kept_foldl]⟩

theorem execBridgeServe_kept (p : Fin 64) (s : State) :
    ∃ z, execBridgeServe p s = .next z ∧ z.kept = s.kept := by
  unfold execBridgeServe; (try dsimp only); (repeat' split)
  all_goals exact ⟨_, rfl, by simp [kept_foldl]⟩

theorem execCacheFlush_kept (s : State) :
    ∃ z, execCacheFlush s = .next z ∧ z.kept = s.kept := by
  unfold execCacheFlush; (try dsimp only); (repeat' split)
  all_goals exact ⟨_, rfl, by simp [kept_foldl]⟩

theorem execLockWindowClose_kept (p : Fin 64) (s : State) :
    ∃ z, execLockWindowClose p s = .next z ∧ z.kept = s.kept := by
  unfold execLockWindowClose; (try dsimp only); (repeat' split)
  all_goals exact ⟨_, rfl, by simp [kept_foldl]⟩

theorem execLockGrant_kept (p : Fin 64) (s : State) :
    ∃ z, execLockGrant p s = .next z ∧ z.kept = s.kept := by
  unfold execLockGrant; (try dsimp only); (repeat' split)
  all_goals exact ⟨_, rfl, by simp [kept_foldl]⟩

theorem execLockExpiry_kept (p : Fin 64) (s : State) :
    ∃ z, execLockExpiry p s = .next z ∧ z.kept = s.kept := by
  unfold execLockExpiry; (try dsimp only); (repeat' split)
  all_goals exact ⟨_, rfl, by simp [kept_foldl]⟩

theorem execLockRelease_kept (p : Fin 64) (src tn id : Nat) (s : State) :
    ∃ z, execLockRelease p src tn id s = .next z ∧ z.kept = s.kept := by
  unfold execLockRelease; (try dsimp only); (repeat' split)
  all_goals exact ⟨_, rfl, by simp [kept_foldl]⟩

theorem execTunReceive_kept (i : Fin 4) (f : Frame) (s : State) :
    ∃ z, execTunReceive i f s = .next z ∧ z.kept = s.kept := by
  unfold execTunReceive; (try dsimp only); (repeat' split)
  all_goals exact ⟨_, rfl, by simp [kept_foldl]⟩

theorem execTunReplayDue_kept (t : Fin 64) (s : State) :
    ∃ z, execTunReplayDue t s = .next z ∧ z.kept = s.kept := by
  unfold execTunReplayDue; (try dsimp only); (repeat' split)
  all_goals exact ⟨_, rfl, by simp [kept_foldl]⟩

theorem execBridgeQueueError_kept (e : BrgError) (s : State) :
    ∃ z, execBridgeQueueError e s = .next z ∧ z.kept = s.kept := by
  unfold execBridgeQueueError; (try dsimp only); (repeat' split)
  all_goals exact ⟨_, rfl, by simp [kept_foldl]⟩

theorem execHeldFrameAdmit_kept (i o : Fin 32) (c : Fin 8) (s : State) :
    ∃ z, execHeldFrameAdmit i o c s = .next z ∧ z.kept = s.kept := by
  unfold execHeldFrameAdmit; (try dsimp only); (repeat' split)
  all_goals exact ⟨_, rfl, by simp [kept_foldl]⟩

theorem execBankRetire_kept (b : Fin 16) (hit : List Nat) (s : State) :
    ∃ z, execBankRetire b hit s = .next z ∧ z.kept = s.kept := by
  unfold execBankRetire; (try dsimp only); (repeat' split)
  all_goals exact ⟨_, rfl, by simp [kept_foldl]⟩

theorem execDrainComplete_kept (s : State) :
    ∃ z, execDrainComplete s = .next z ∧ z.kept = s.kept := by
  unfold execDrainComplete; (try dsimp only); (repeat' split)
  all_goals exact ⟨_, rfl, by simp [kept_foldl]⟩

theorem execBufferAudit_kept (lost cross : List (Nat × Nat)) (s : State) :
    ∃ z, execBufferAudit lost cross s = .next z ∧ z.kept = s.kept := by
  unfold execBufferAudit; (try dsimp only); (repeat' split)
  all_goals exact ⟨_, rfl, by simp [kept_foldl]⟩

theorem execSchedulerError_kept (at_ : Option Nat) (s : State) :
    ∃ z, execSchedulerError at_ s = .next z ∧ z.kept = s.kept := by
  unfold execSchedulerError; (try dsimp only); (repeat' split)
  all_goals exact ⟨_, rfl, by simp [kept_foldl]⟩

theorem execTableSyncDone_kept (r : Fin 4) (s : State) :
    ∃ z, execTableSyncDone r s = .next z ∧ z.kept = s.kept := by
  unfold execTableSyncDone; (try dsimp only); (repeat' split)
  all_goals exact ⟨_, rfl, by simp [kept_foldl]⟩

theorem execReflexMemoryError_kept (e : RfxError) (s : State) :
    ∃ z, execReflexMemoryError e s = .next z ∧ z.kept = s.kept := by
  unfold execReflexMemoryError; (try dsimp only); (repeat' split)
  all_goals exact ⟨_, rfl, by simp [kept_foldl]⟩

theorem execBriarJmp_kept (e c : Fin 16) (lv : Fin 16) (s : State) :
    ∃ z, execBriarJmp e c lv s = .next z ∧ z.kept = s.kept := by
  unfold execBriarJmp; (try dsimp only); (repeat' split)
  all_goals exact ⟨_, rfl, by simp [kept_foldl]⟩

theorem execBriarWait_kept (e c : Fin 16) (lv : Fin 16) (s : State) :
    ∃ z, execBriarWait e c lv s = .next z ∧ z.kept = s.kept := by
  unfold execBriarWait; (try dsimp only); (repeat' split)
  all_goals exact ⟨_, rfl, by simp [kept_foldl]⟩

theorem execBriarIn_kept (e c : Fin 16) (lv : Fin 16) (s : State) :
    ∃ z, execBriarIn e c lv s = .next z ∧ z.kept = s.kept := by
  unfold execBriarIn; (try dsimp only); (repeat' split)
  all_goals exact ⟨_, rfl, by simp [kept_foldl]⟩

theorem execBriarOut_kept (e c : Fin 16) (s : State) :
    ∃ z, execBriarOut e c s = .next z ∧ z.kept = s.kept := by
  unfold execBriarOut; (try dsimp only); (repeat' split)
  all_goals exact ⟨_, rfl, by simp [kept_foldl]⟩

theorem execBriarPush_kept (e c : Fin 16) (s : State) :
    ∃ z, execBriarPush e c s = .next z ∧ z.kept = s.kept := by
  unfold execBriarPush; (try dsimp only); (repeat' split)
  all_goals exact ⟨_, rfl, by simp [kept_foldl]⟩

theorem execBriarPull_kept (e c : Fin 16) (s : State) :
    ∃ z, execBriarPull e c s = .next z ∧ z.kept = s.kept := by
  unfold execBriarPull; (try dsimp only); (repeat' split)
  all_goals exact ⟨_, rfl, by simp [kept_foldl]⟩

theorem execBriarMov_kept (e c : Fin 16) (lv : Fin 16) (s : State) :
    ∃ z, execBriarMov e c lv s = .next z ∧ z.kept = s.kept := by
  unfold execBriarMov; (try dsimp only); (repeat' split)
  all_goals exact ⟨_, rfl, by simp [kept_foldl]⟩

theorem execBriarSet_kept (e c : Fin 16) (s : State) :
    ∃ z, execBriarSet e c s = .next z ∧ z.kept = s.kept := by
  unfold execBriarSet; (try dsimp only); (repeat' split)
  all_goals exact ⟨_, rfl, by simp [kept_foldl]⟩

theorem execBriarIrq_kept (e c : Fin 16) (s : State) :
    ∃ z, execBriarIrq e c s = .next z ∧ z.kept = s.kept := by
  unfold execBriarIrq; (try dsimp only); (repeat' split)
  all_goals exact ⟨_, rfl, by simp [kept_foldl]⟩

theorem execBriarTimewait_kept (e c : Fin 16) (s : State) :
    ∃ z, execBriarTimewait e c s = .next z ∧ z.kept = s.kept := by
  unfold execBriarTimewait; (try dsimp only); (repeat' split)
  all_goals exact ⟨_, rfl, by simp [kept_foldl]⟩

theorem execBriarCnt_kept (e c : Fin 16) (s : State) :
    ∃ z, execBriarCnt e c s = .next z ∧ z.kept = s.kept := by
  unfold execBriarCnt; (try dsimp only); (repeat' split)
  all_goals exact ⟨_, rfl, by simp [kept_foldl]⟩

theorem execBriarNop_kept (e c : Fin 16) (s : State) :
    ∃ z, execBriarNop e c s = .next z ∧ z.kept = s.kept := by
  unfold execBriarNop; (try dsimp only); (repeat' split)
  all_goals exact ⟨_, rfl, by simp [kept_foldl]⟩

theorem execChannelStallResume_kept (e c : Fin 16) (lv : Fin 16) (s : State) :
    ∃ z, execChannelStallResume e c lv s = .next z ∧ z.kept = s.kept := by
  unfold execChannelStallResume; (try dsimp only); (repeat' split)
  all_goals exact ⟨_, rfl, by simp [kept_foldl]⟩

theorem execSwapDeadline_kept (e c : Fin 16) (s : State) :
    ∃ z, execSwapDeadline e c s = .next z ∧ z.kept = s.kept := by
  unfold execSwapDeadline; (try dsimp only); (repeat' split)
  all_goals exact ⟨_, rfl, by simp [kept_foldl]⟩

theorem execFifoEccError_kept (e c : Fin 16) (err : BriarError) (s : State) :
    ∃ z, execFifoEccError e c err s = .next z ∧ z.kept = s.kept := by
  unfold execFifoEccError; (try dsimp only); (repeat' split)
  all_goals exact ⟨_, rfl, by simp [kept_foldl]⟩

theorem execEngStop_kept (e : Fin 16) (mask : BitVec 16) (s : State) :
    ∃ z, execEngStop e mask s = .next z ∧ z.kept = s.kept := by
  unfold execEngStop; (try dsimp only); (repeat' split)
  all_goals exact ⟨_, rfl, by simp [kept_foldl]⟩

theorem execEngRestart_kept (e : Fin 16) (mask : BitVec 16) (s : State) :
    ∃ z, execEngRestart e mask s = .next z ∧ z.kept = s.kept := by
  unfold execEngRestart; (try dsimp only); (repeat' split)
  all_goals exact ⟨_, rfl, by simp [kept_foldl]⟩

theorem execEngStartTWrite_kept (e : Fin 16) (t : BitVec 64) (s : State) :
    ∃ z, execEngStartTWrite e t s = .next z ∧ z.kept = s.kept := by
  unfold execEngStartTWrite; (try dsimp only); (repeat' split)
  all_goals exact ⟨_, rfl, by simp [kept_foldl]⟩

theorem execChannelTimedStart_kept (e : Fin 16) (s : State) :
    ∃ z, execChannelTimedStart e s = .next z ∧ z.kept = s.kept := by
  unfold execChannelTimedStart; (try dsimp only); (repeat' split)
  all_goals exact ⟨_, rfl, by simp [kept_foldl]⟩

theorem execTwinForm_kept (digest : BitVec 384) (peerActive : Bool) (s : State) :
    ∃ z, execTwinForm digest peerActive s = .next z ∧ z.kept = s.kept := by
  unfold execTwinForm; (try dsimp only); (repeat' split)
  all_goals exact ⟨_, rfl, by simp [kept_foldl]⟩

theorem execFormTimeout_kept (s : State) :
    ∃ z, execFormTimeout s = .next z ∧ z.kept = s.kept := by
  unfold execFormTimeout; (try dsimp only); (repeat' split)
  all_goals exact ⟨_, rfl, by simp [kept_foldl]⟩

theorem execPeerAnnounceAbsence_kept (s : State) :
    ∃ z, execPeerAnnounceAbsence s = .next z ∧ z.kept = s.kept := by
  unfold execPeerAnnounceAbsence; (try dsimp only); (repeat' split)
  all_goals exact ⟨_, rfl, by simp [kept_foldl]⟩

theorem execDeltaReceive_kept (d : Delta) (s : State) :
    ∃ z, execDeltaReceive d s = .next z ∧ z.kept = s.kept := by
  unfold execDeltaReceive; (try dsimp only); (repeat' split)
  all_goals exact ⟨_, rfl, by simp [kept_foldl]⟩

theorem execDeltaWindowExpiry_kept (s : State) :
    ∃ z, execDeltaWindowExpiry s = .next z ∧ z.kept = s.kept := by
  unfold execDeltaWindowExpiry; (try dsimp only); (repeat' split)
  all_goals exact ⟨_, rfl, by simp [kept_foldl]⟩

theorem execResync_kept (s : State) :
    ∃ z, execResync s = .next z ∧ z.kept = s.kept := by
  unfold execResync; (try dsimp only); (repeat' split)
  all_goals exact ⟨_, rfl, by simp [kept_foldl]⟩

theorem execSwitchover_kept (s : State) :
    ∃ z, execSwitchover s = .next z ∧ z.kept = s.kept := by
  unfold execSwitchover; (try dsimp only); (repeat' split)
  all_goals exact ⟨_, rfl, by simp [kept_foldl]⟩

theorem execTakeover_kept (c : TakeCause) (s : State) :
    ∃ z, execTakeover c s = .next z ∧ z.kept = s.kept := by
  unfold execTakeover; (try dsimp only); (repeat' split)
  all_goals exact ⟨_, rfl, by simp [kept_foldl]⟩

theorem execTestPulse_kept (peer : Option (Fin 65536)) (s : State) :
    ∃ z, execTestPulse peer s = .next z ∧ z.kept = s.kept := by
  unfold execTestPulse; (try dsimp only); (repeat' split)
  all_goals exact ⟨_, rfl, by simp [kept_foldl]⟩

theorem execTestPulseEnd_kept (pass : Bool) (s : State) :
    ∃ z, execTestPulseEnd pass s = .next z ∧ z.kept = s.kept := by
  unfold execTestPulseEnd; (try dsimp only); (repeat' split)
  all_goals exact ⟨_, rfl, by simp [kept_foldl]⟩

theorem execRelinquishConfirm_kept (s : State) :
    ∃ z, execRelinquishConfirm s = .next z ∧ z.kept = s.kept := by
  unfold execRelinquishConfirm; (try dsimp only); (repeat' split)
  all_goals exact ⟨_, rfl, by simp [kept_foldl]⟩

theorem execRelinquishTimeout_kept (s : State) :
    ∃ z, execRelinquishTimeout s = .next z ∧ z.kept = s.kept := by
  unfold execRelinquishTimeout; (try dsimp only); (repeat' split)
  all_goals exact ⟨_, rfl, by simp [kept_foldl]⟩

theorem execHello_kept (i : Fin 5) (fs : List Frame) (s : State) :
    ∃ z, execHello i fs s = .next z ∧ z.kept = s.kept := by
  unfold execHello; (try dsimp only); (repeat' split)
  all_goals exact ⟨_, rfl, by simp [kept_foldl]⟩

theorem execReply_kept (i : Fin 5) (fs : List Frame) (s : State) :
    ∃ z, execReply i fs s = .next z ∧ z.kept = s.kept := by
  unfold execReply; (try dsimp only); (repeat' split)
  all_goals exact ⟨_, rfl, by simp [kept_foldl]⟩

theorem execCert_kept (i : Fin 5) (fs : List Frame) (s : State) :
    ∃ z, execCert i fs s = .next z ∧ z.kept = s.kept := by
  unfold execCert; (try dsimp only); (repeat' split)
  all_goals exact ⟨_, rfl, by simp [kept_foldl]⟩

theorem execProof_kept (i : Fin 5) (fs : List Frame) (s : State) :
    ∃ z, execProof i fs s = .next z ∧ z.kept = s.kept := by
  unfold execProof; (try dsimp only); (repeat' split)
  all_goals exact ⟨_, rfl, by simp [kept_foldl]⟩

theorem execFinish_kept (i : Fin 5) (fs : List Frame) (s : State) :
    ∃ z, execFinish i fs s = .next z ∧ z.kept = s.kept := by
  unfold execFinish; (try dsimp only); (repeat' split)
  all_goals exact ⟨_, rfl, by simp [kept_foldl]⟩

theorem execRekey_kept (i : Fin 5) (fs : List Frame) (s : State) :
    ∃ z, execRekey i fs s = .next z ∧ z.kept = s.kept := by
  unfold execRekey; (try dsimp only); (repeat' split)
  all_goals exact ⟨_, rfl, by simp [kept_foldl]⟩

theorem execRekeyReply_kept (i : Fin 5) (fs : List Frame) (s : State) :
    ∃ z, execRekeyReply i fs s = .next z ∧ z.kept = s.kept := by
  unfold execRekeyReply; (try dsimp only); (repeat' split)
  all_goals exact ⟨_, rfl, by simp [kept_foldl]⟩

theorem execRekeyFinish_kept (i : Fin 5) (fs : List Frame) (s : State) :
    ∃ z, execRekeyFinish i fs s = .next z ∧ z.kept = s.kept := by
  unfold execRekeyFinish; (try dsimp only); (repeat' split)
  all_goals exact ⟨_, rfl, by simp [kept_foldl]⟩

theorem execRekeyReq_kept (i : Fin 5) (fs : List Frame) (s : State) :
    ∃ z, execRekeyReq i fs s = .next z ∧ z.kept = s.kept := by
  unfold execRekeyReq; (try dsimp only); (repeat' split)
  all_goals exact ⟨_, rfl, by simp [kept_foldl]⟩

theorem execReject_kept (i : Fin 5) (fs : List Frame) (s : State) :
    ∃ z, execReject i fs s = .next z ∧ z.kept = s.kept := by
  unfold execReject; (try dsimp only); (repeat' split)
  all_goals exact ⟨_, rfl, by simp [kept_foldl]⟩

theorem execAuthStepTimeout_kept (i : Fin 5) (s : State) :
    ∃ z, execAuthStepTimeout i s = .next z ∧ z.kept = s.kept := by
  unfold execAuthStepTimeout; (try dsimp only); (repeat' split)
  all_goals exact ⟨_, rfl, by simp [kept_foldl]⟩

theorem execRekeyTimer_kept (i : Fin 5) (s : State) :
    ∃ z, execRekeyTimer i s = .next z ∧ z.kept = s.kept := by
  unfold execRekeyTimer; (try dsimp only); (repeat' split)
  all_goals exact ⟨_, rfl, by simp [kept_foldl]⟩

theorem execRekeyStepTimeout_kept (i : Fin 5) (s : State) :
    ∃ z, execRekeyStepTimeout i s = .next z ∧ z.kept = s.kept := by
  unfold execRekeyStepTimeout; (try dsimp only); (repeat' split)
  all_goals exact ⟨_, rfl, by simp [kept_foldl]⟩

theorem execSpdmRequest_kept (t : Fin 16) (b : List Byte) (e : SpdmEffect) (s : State) :
    ∃ z, execSpdmRequest t b e s = .next z ∧ z.kept = s.kept := by
  unfold execSpdmRequest; (try dsimp only); (repeat' split)
  all_goals exact ⟨_, rfl, by simp [kept_foldl]⟩

theorem execSpdmSessionEnd_kept (t : Fin 16) (s : State) :
    ∃ z, execSpdmSessionEnd t s = .next z ∧ z.kept = s.kept := by
  unfold execSpdmSessionEnd; (try dsimp only); (repeat' split)
  all_goals exact ⟨_, rfl, by simp [kept_foldl]⟩

theorem execGetChallenge_kept (s : State) :
    ∃ z, execGetChallenge s = .next z ∧ z.kept = s.kept := by
  unfold execGetChallenge; (try dsimp only); (repeat' split)
  all_goals exact ⟨_, rfl, by simp [kept_foldl]⟩

theorem execSubmitToken_kept (len : Fin 16385) (s : State) :
    ∃ z, execSubmitToken len s = .next z ∧ z.kept = s.kept := by
  unfold execSubmitToken; (try dsimp only); (repeat' split)
  all_goals exact ⟨_, rfl, by simp [kept_foldl]⟩

theorem execGetCert_kept (len : Fin 16385) (s : State) :
    ∃ z, execGetCert len s = .next z ∧ z.kept = s.kept := by
  unfold execGetCert; (try dsimp only); (repeat' split)
  all_goals exact ⟨_, rfl, by simp [kept_foldl]⟩

theorem execAttest_kept (len : Fin 16385) (s : State) :
    ∃ z, execAttest len s = .next z ∧ z.kept = s.kept := by
  unfold execAttest; (try dsimp only); (repeat' split)
  all_goals exact ⟨_, rfl, by simp [kept_foldl]⟩

theorem execRandom_kept (len : Fin 16385) (s : State) :
    ∃ z, execRandom len s = .next z ∧ z.kept = s.kept := by
  unfold execRandom; (try dsimp only); (repeat' split)
  all_goals exact ⟨_, rfl, by simp [kept_foldl]⟩

theorem execDbgRead_kept (len : Fin 16385) (s : State) :
    ∃ z, execDbgRead len s = .next z ∧ z.kept = s.kept := by
  unfold execDbgRead; (try dsimp only); (repeat' split)
  all_goals exact ⟨_, rfl, by simp [kept_foldl]⟩

theorem execDbgWrite_kept (len : Fin 16385) (s : State) :
    ∃ z, execDbgWrite len s = .next z ∧ z.kept = s.kept := by
  unfold execDbgWrite; (try dsimp only); (repeat' split)
  all_goals exact ⟨_, rfl, by simp [kept_foldl]⟩

theorem execChallengeExpiry_kept (s : State) :
    ∃ z, execChallengeExpiry s = .next z ∧ z.kept = s.kept := by
  unfold execChallengeExpiry; (try dsimp only); (repeat' split)
  all_goals exact ⟨_, rfl, by simp [kept_foldl]⟩

theorem execTamperDetect_kept (src : Fin 4) (s : State) :
    ∃ z, execTamperDetect src s = .next z ∧ z.kept = s.kept := by
  unfold execTamperDetect; (try dsimp only); (repeat' split)
  all_goals exact ⟨_, rfl, by simp [kept_foldl]⟩

theorem execDrbgHealthFail_kept (s : State) :
    ∃ z, execDrbgHealthFail s = .next z ∧ z.kept = s.kept := by
  unfold execDrbgHealthFail; (try dsimp only); (repeat' split)
  all_goals exact ⟨_, rfl, by simp [kept_foldl]⟩

theorem execDrbgRetest_kept (pass : Bool) (s : State) :
    ∃ z, execDrbgRetest pass s = .next z ∧ z.kept = s.kept := by
  unfold execDrbgRetest; (try dsimp only); (repeat' split)
  all_goals exact ⟨_, rfl, by simp [kept_foldl]⟩

theorem execDrbgReseed_kept (s : State) :
    ∃ z, execDrbgReseed s = .next z ∧ z.kept = s.kept := by
  unfold execDrbgReseed; (try dsimp only); (repeat' split)
  all_goals exact ⟨_, rfl, by simp [kept_foldl]⟩

theorem execFaultOccurrence_kept (b : Fin 49) (c : FClass) (detail : BitVec 32) (s : State) :
    ∃ z, execFaultOccurrence b c detail s = .next z ∧ z.kept = s.kept := by
  unfold execFaultOccurrence; (try dsimp only); (repeat' split)
  all_goals exact ⟨_, rfl, by simp [kept_foldl]⟩

theorem execFaultClear_kept (b : Fin 49) (s : State) :
    ∃ z, execFaultClear b s = .next z ∧ z.kept = s.kept := by
  unfold execFaultClear; (try dsimp only); (repeat' split)
  all_goals exact ⟨_, rfl, by simp [kept_foldl]⟩

theorem execCollectorSelfFault_kept (s : State) :
    ∃ z, execCollectorSelfFault s = .next z ∧ z.kept = s.kept := by
  unfold execCollectorSelfFault; (try dsimp only); (repeat' split)
  all_goals exact ⟨_, rfl, by simp [kept_foldl]⟩

theorem execSafeEnter_kept (s : State) :
    ∃ z, execSafeEnter s = .next z ∧ z.kept = s.kept := by
  unfold execSafeEnter; (try dsimp only); (repeat' split)
  all_goals exact ⟨_, rfl, by simp [kept_foldl]⟩

theorem execSafeExit_kept (s : State) :
    ∃ z, execSafeExit s = .next z ∧ z.kept = s.kept := by
  unfold execSafeExit; (try dsimp only); (repeat' split)
  all_goals exact ⟨_, rfl, by simp [kept_foldl]⟩

theorem execLogFlush_kept (l : Fin 2) (ok : Bool) (s : State) :
    ∃ z, execLogFlush l ok s = .next z ∧ z.kept = s.kept := by
  unfold execLogFlush; (try dsimp only); (repeat' split)
  all_goals exact ⟨_, rfl, by simp [kept_foldl]⟩

theorem execLogWriteRetry_kept (ok : Bool) (s : State) :
    ∃ z, execLogWriteRetry ok s = .next z ∧ z.kept = s.kept := by
  unfold execLogWriteRetry; (try dsimp only); (repeat' split)
  all_goals exact ⟨_, rfl, by simp [kept_foldl]⟩

theorem execLogRead_kept (l : Fin 2) (seq : Option (BitVec 32)) (s : State) :
    ∃ z, execLogRead l seq s = .next z ∧ z.kept = s.kept := by
  unfold execLogRead; (try dsimp only); (repeat' split)
  all_goals exact ⟨_, rfl, by simp [kept_foldl]⟩

theorem execLogCopyDone_kept (ok : Bool) (s : State) :
    ∃ z, execLogCopyDone ok s = .next z ∧ z.kept = s.kept := by
  unfold execLogCopyDone; (try dsimp only); (repeat' split)
  all_goals exact ⟨_, rfl, by simp [kept_foldl]⟩

theorem execFeedPresent_kept (n : Fin 4) (s : State) :
    ∃ z, execFeedPresent n s = .next z ∧ z.kept = s.kept := by
  unfold execFeedPresent; (try dsimp only); (repeat' split)
  all_goals exact ⟨_, rfl, by simp [kept_foldl]⟩

theorem execFeedAbsent_kept (n : Fin 4) (s : State) :
    ∃ z, execFeedAbsent n s = .next z ∧ z.kept = s.kept := by
  unfold execFeedAbsent; (try dsimp only); (repeat' split)
  all_goals exact ⟨_, rfl, by simp [kept_foldl]⟩

theorem execFeedOv_kept (n : Fin 4) (s : State) :
    ∃ z, execFeedOv n s = .next z ∧ z.kept = s.kept := by
  unfold execFeedOv; (try dsimp only); (repeat' split)
  all_goals exact ⟨_, rfl, by simp [kept_foldl]⟩

theorem execOvRecover_kept (n : Fin 4) (s : State) :
    ∃ z, execOvRecover n s = .next z ∧ z.kept = s.kept := by
  unfold execOvRecover; (try dsimp only); (repeat' split)
  all_goals exact ⟨_, rfl, by simp [kept_foldl]⟩

theorem execBoardUnseated_kept (s : State) :
    ∃ z, execBoardUnseated s = .next z ∧ z.kept = s.kept := by
  unfold execBoardUnseated; (try dsimp only); (repeat' split)
  all_goals exact ⟨_, rfl, by simp [kept_foldl]⟩

theorem execPathTrip_kept (n : Fin 4) (cause : Fin 4) (s : State) :
    ∃ z, execPathTrip n cause s = .next z ∧ z.kept = s.kept := by
  unfold execPathTrip; (try dsimp only); (repeat' split)
  all_goals exact ⟨_, rfl, by simp [kept_foldl]⟩

theorem execBreakerRearm_kept (b : Fin 68) (s : State) :
    ∃ z, execBreakerRearm b s = .next z ∧ z.kept = s.kept := by
  unfold execBreakerRearm; (try dsimp only); (repeat' split)
  all_goals exact ⟨_, rfl, by simp [kept_foldl]⟩

theorem execBreakerRetry_kept (b : Fin 68) (s : State) :
    ∃ z, execBreakerRetry b s = .next z ∧ z.kept = s.kept := by
  unfold execBreakerRetry; (try dsimp only); (repeat' split)
  all_goals exact ⟨_, rfl, by simp [kept_foldl]⟩

theorem execTripClear_kept (n : Fin 4) (s : State) :
    ∃ z, execTripClear n s = .next z ∧ z.kept = s.kept := by
  unfold execTripClear; (try dsimp only); (repeat' split)
  all_goals exact ⟨_, rfl, by simp [kept_foldl]⟩

theorem execRailWarning_kept (r : Fin 12) (s : State) :
    ∃ z, execRailWarning r s = .next z ∧ z.kept = s.kept := by
  unfold execRailWarning; (try dsimp only); (repeat' split)
  all_goals exact ⟨_, rfl, by simp [kept_foldl]⟩

theorem execRailRegulationFail_kept (r : Fin 12) (s : State) :
    ∃ z, execRailRegulationFail r s = .next z ∧ z.kept = s.kept := by
  unfold execRailRegulationFail; (try dsimp only); (repeat' split)
  all_goals exact ⟨_, rfl, by simp [kept_foldl]⟩

theorem execRailRestart_kept (s : State) :
    ∃ z, execRailRestart s = .next z ∧ z.kept = s.kept := by
  unfold execRailRestart; (try dsimp only); (repeat' split)
  all_goals exact ⟨_, rfl, by simp [kept_foldl]⟩

theorem execFeedsLost_kept (vbat : Bool) (s : State) :
    ∃ z, execFeedsLost vbat s = .next z ∧ s.kept.Mono z.kept := by
  unfold execFeedsLost; dsimp only; (repeat' split)
  · exact ⟨_, rfl, .refl _⟩
  · exact ⟨_, rfl, .of_eq (by simp)⟩
  · refine ⟨_, rfl, ?_⟩
    simp [-kept_eta, pending_kept, fwMirror_kept, bndMirror_kept, fwCtr_kept, bndCtr_kept]
    exact ⟨rfl, le_refl _, le_refl _, fun _ => Nat.zero_le _, fun _ => Nat.zero_le _⟩

theorem execDozeEntry_kept (s : State) :
    ∃ z, execDozeEntry s = .next z ∧ z.kept = s.kept := by
  unfold execDozeEntry; (try dsimp only); (repeat' split)
  all_goals exact ⟨_, rfl, by simp [kept_foldl]⟩

theorem execWakeEvent_kept (src : Fin 5) (s : State) :
    ∃ z, execWakeEvent src s = .next z ∧ z.kept = s.kept := by
  unfold execWakeEvent; (try dsimp only); (repeat' split)
  all_goals exact ⟨_, rfl, by simp [kept_foldl]⟩

theorem execDozeExit_kept (failed : List (Fin 8)) (banks : List (Fin 16)) (s : State) :
    ∃ z, execDozeExit failed banks s = .next z ∧ z.kept = s.kept := by
  unfold execDozeExit; (try dsimp only); (repeat' split)
  all_goals exact ⟨_, rfl, by simp [kept_foldl]⟩

theorem execRetentionReloadDone_kept (b : Fin 8) (s : State) :
    ∃ z, execRetentionReloadDone b s = .next z ∧ z.kept = s.kept := by
  unfold execRetentionReloadDone; (try dsimp only); (repeat' split)
  all_goals exact ⟨_, rfl, by simp [kept_foldl]⟩

theorem execPllLock_kept (a b : Bool) (s : State) :
    ∃ z, execPllLock a b s = .next z ∧ z.kept = s.kept := by
  unfold execPllLock; (try dsimp only); (repeat' split)
  all_goals exact ⟨_, rfl, by simp [kept_foldl]⟩

theorem execDormantEntry_kept (s : State) :
    ∃ z, execDormantEntry s = .next z ∧ z.kept = s.kept := by
  unfold execDormantEntry; (try dsimp only); (repeat' split)
  all_goals exact ⟨_, rfl, by simp [kept_foldl]⟩

theorem execDormantWake_kept (src : Fin 5) (s : State) :
    ∃ z, execDormantWake src s = .next z ∧ z.kept = s.kept := by
  unfold execDormantWake; (try dsimp only); (repeat' split)
  all_goals exact ⟨_, rfl, by simp [kept_foldl]⟩

theorem execVltTimerAlarm_kept (s : State) :
    ∃ z, execVltTimerAlarm s = .next z ∧ z.kept = s.kept := by
  unfold execVltTimerAlarm; (try dsimp only); (repeat' split)
  all_goals exact ⟨_, rfl, by simp [kept_foldl]⟩

theorem execClockFail_kept (n : Fin 7) (s : State) :
    ∃ z, execClockFail n s = .next z ∧ z.kept = s.kept := by
  unfold execClockFail; (try dsimp only); (repeat' split)
  all_goals exact ⟨_, rfl, by simp [kept_foldl]⟩

theorem execIslandSwitch_kept (i : Fin 41) (sel : Bool) (s : State) :
    ∃ z, execIslandSwitch i sel s = .next z ∧ z.kept = s.kept := by
  unfold execIslandSwitch; (try dsimp only); (repeat' split)
  all_goals exact ⟨_, rfl, by simp [kept_foldl]⟩

theorem execIslandSwitchDone_kept (i : Fin 41) (s : State) :
    ∃ z, execIslandSwitchDone i s = .next z ∧ z.kept = s.kept := by
  unfold execIslandSwitchDone; (try dsimp only); (repeat' split)
  all_goals exact ⟨_, rfl, by simp [kept_foldl]⟩

theorem execClockGateWrite_kept (g : Gate) (on words : Bool) (s : State) :
    ∃ z, execClockGateWrite g on words s = .next z ∧ z.kept = s.kept := by
  unfold execClockGateWrite; (try dsimp only); (repeat' split)
  all_goals exact ⟨_, rfl, by simp [kept_foldl]⟩

theorem execFcntGo_kept (s : State) :
    ∃ z, execFcntGo s = .next z ∧ z.kept = s.kept := by
  unfold execFcntGo; (try dsimp only); (repeat' split)
  all_goals exact ⟨_, rfl, by simp [kept_foldl]⟩

theorem execFcntDone_kept (tgt ref : BitVec 32) (edges : Bool) (s : State) :
    ∃ z, execFcntDone tgt ref edges s = .next z ∧ z.kept = s.kept := by
  unfold execFcntDone; (try dsimp only); (repeat' split)
  all_goals exact ⟨_, rfl, by simp [kept_foldl]⟩

theorem execCoreError_kept (uncorrectable : Bool) (s : State) :
    ∃ z, execCoreError uncorrectable s = .next z ∧ z.kept = s.kept := by
  unfold execCoreError; (try dsimp only); (repeat' split)
  all_goals exact ⟨_, rfl, by simp [kept_foldl]⟩

theorem execD2dCrcFail_kept (d : Fin 3) (s : State) :
    ∃ z, execD2dCrcFail d s = .next z ∧ z.kept = s.kept := by
  unfold execD2dCrcFail; (try dsimp only); (repeat' split)
  all_goals exact ⟨_, rfl, by simp [kept_foldl]⟩

theorem execD2dRetrain_kept (d : Fin 3) (ok : Bool) (lost : List (Fin 65536)) (s : State) :
    ∃ z, execD2dRetrain d ok lost s = .next z ∧ z.kept = s.kept := by
  unfold execD2dRetrain; (try dsimp only); (repeat' split)
  all_goals exact ⟨_, rfl, by simp [kept_foldl]⟩

theorem execVmodOverload_kept (i : Fin 5) (s : State) :
    ∃ z, execVmodOverload i s = .next z ∧ z.kept = s.kept := by
  unfold execVmodOverload; (try dsimp only); (repeat' split)
  all_goals exact ⟨_, rfl, by simp [kept_foldl]⟩

theorem execVmodRetry_kept (i : Fin 5) (s : State) :
    ∃ z, execVmodRetry i s = .next z ∧ z.kept = s.kept := by
  unfold execVmodRetry; (try dsimp only); (repeat' split)
  all_goals exact ⟨_, rfl, by simp [kept_foldl]⟩

theorem execMsgDeliveryReceive_kept (f : Frame) (s : State) :
    ∃ z, execMsgDeliveryReceive f s = .next z ∧ z.kept = s.kept := by
  unfold execMsgDeliveryReceive; (try dsimp only); (repeat' split)
  all_goals exact ⟨_, rfl, by simp [kept_foldl]⟩

theorem execMsgInterruptReceive_kept (f : Frame) (s : State) :
    ∃ z, execMsgInterruptReceive f s = .next z ∧ z.kept = s.kept := by
  unfold execMsgInterruptReceive; (try dsimp only); (repeat' split)
  all_goals exact ⟨_, rfl, by simp [kept_foldl]⟩

theorem execMsgMessageReceive_kept (f : Frame) (s : State) :
    ∃ z, execMsgMessageReceive f s = .next z ∧ z.kept = s.kept := by
  unfold execMsgMessageReceive; (try dsimp only); (repeat' split)
  all_goals exact ⟨_, rfl, by simp [kept_foldl]⟩

theorem execUplinkLinkUp_kept (i : Fin 2) (s : State) :
    ∃ z, execUplinkLinkUp i s = .next z ∧ z.kept = s.kept := by
  unfold execUplinkLinkUp; (try dsimp only); (repeat' split)
  all_goals exact ⟨_, rfl, by simp [kept_foldl]⟩

theorem execPcieLinkUp_kept (bme : List (Fin 16 × List MsixEntry)) (ide : List (Fin 17)) (s : State) :
    ∃ z, execPcieLinkUp bme ide s = .next z ∧ z.kept = s.kept := by
  unfold execPcieLinkUp; (try dsimp only); (repeat' split)
  all_goals exact ⟨_, rfl, by simp [kept_foldl]⟩

theorem execReverseTurnOff_kept (n : Fin 4) (s : State) :
    ∃ z, execReverseTurnOff n s = .next z ∧ z.kept = s.kept := by
  unfold execReverseTurnOff; (try dsimp only); (repeat' split)
  all_goals exact ⟨_, rfl, by simp [kept_foldl]⟩

theorem execIsduResponse_kept (p : Fin 64) (x : IsduRsp) (s : State) :
    ∃ z, execIsduResponse p x s = .next z ∧ z.kept = s.kept := by
  unfold execIsduResponse; (try dsimp only); (repeat' split)
  all_goals exact ⟨_, rfl, by simp [kept_foldl]⟩

theorem execIsduTimeout_kept (p : Fin 64) (s : State) :
    ∃ z, execIsduTimeout p s = .next z ∧ z.kept = s.kept := by
  unfold execIsduTimeout; (try dsimp only); (repeat' split)
  all_goals exact ⟨_, rfl, by simp [kept_foldl]⟩

theorem execObjectFrameSent_kept (k : Fin 5) (i : Fin 64) (s : State) :
    ∃ z, execObjectFrameSent k i s = .next z ∧ z.kept = s.kept := by
  unfold execObjectFrameSent; (try dsimp only); (repeat' split)
  all_goals exact ⟨_, rfl, by simp [kept_foldl]⟩

theorem execCanBusDominant_kept (i : Fin 32) (on : Bool) (s : State) :
    ∃ z, execCanBusDominant i on s = .next z ∧ z.kept = s.kept := by
  unfold execCanBusDominant; (try dsimp only); (repeat' split)
  all_goals exact ⟨_, rfl, by simp [kept_foldl]⟩

theorem execSpeLinkDown_kept (i : Fin 16) (s : State) :
    ∃ z, execSpeLinkDown i s = .next z ∧ z.kept = s.kept := by
  unfold execSpeLinkDown; (try dsimp only); (repeat' split)
  all_goals exact ⟨_, rfl, by simp [kept_foldl]⟩

theorem execSpeLinkUp_kept (i : Fin 16) (s : State) :
    ∃ z, execSpeLinkUp i s = .next z ∧ z.kept = s.kept := by
  unfold execSpeLinkUp; (try dsimp only); (repeat' split)
  all_goals exact ⟨_, rfl, by simp [kept_foldl]⟩

theorem execIolDeviceLost_kept (p : Fin 64) (s : State) :
    ∃ z, execIolDeviceLost p s = .next z ∧ z.kept = s.kept := by
  unfold execIolDeviceLost; (try dsimp only); (repeat' split)
  all_goals exact ⟨_, rfl, by simp [kept_foldl]⟩

theorem execPtpDelayReqTimer_kept (j : Fin 2) (s : State) :
    ∃ z, execPtpDelayReqTimer j s = .next z ∧ z.kept = s.kept := by
  unfold execPtpDelayReqTimer; (try dsimp only); (repeat' split)
  all_goals exact ⟨_, rfl, by simp [kept_foldl]⟩

theorem execTwinSafeNotice_kept (on : Bool) (s : State) :
    ∃ z, execTwinSafeNotice on s = .next z ∧ z.kept = s.kept := by
  unfold execTwinSafeNotice; (try dsimp only); (repeat' split)
  all_goals exact ⟨_, rfl, by simp [kept_foldl]⟩

theorem execDvfsDone_kept (s : State) :
    ∃ z, execDvfsDone s = .next z ∧ z.kept = s.kept := by
  unfold execDvfsDone; (try dsimp only); (repeat' split)
  all_goals exact ⟨_, rfl, by simp [kept_foldl]⟩

theorem execSwitchCellTime_kept (s : State) :
    ∃ z, execSwitchCellTime s = .next z ∧ z.kept = s.kept := by
  unfold execSwitchCellTime; (try dsimp only); (repeat' split)
  all_goals exact ⟨_, rfl, by simp [kept_foldl]⟩

theorem execRingOutputFree_kept (i : Fin 5) (s : State) :
    ∃ z, execRingOutputFree i s = .next z ∧ z.kept = s.kept := by
  unfold execRingOutputFree; (try dsimp only); (repeat' split)
  all_goals exact ⟨_, rfl, by simp [kept_foldl]⟩

theorem execLatchedRegisterRead_kept (q : Requester) (off : BitVec 22) (wide : Bool) (s : State) :
    ∃ z, execLatchedRegisterRead q off wide s = .next z ∧ z.kept = s.kept := by
  unfold execLatchedRegisterRead; (try dsimp only); (repeat' split)
  all_goals exact ⟨_, rfl, by simp [kept_foldl]⟩

end Sys2Proof.Machine
end

