-- ==== Sys2Proof/Laws/Maps.lean ====
section
/-!
SUPPORT. Laws of sparse maps, of bit fields and of byte memories: a read after a write, and the canonical form.
-/

set_option Elab.async false
set_option linter.unusedSimpArgs false
set_option linter.unusedTactic false

namespace Sys2Proof

variable {α : Type}

theorem NMap.get_erase_same (d : Nat → α) (m : NMap α) (k : Nat) : NMap.get d (NMap.erase m k) k = d k := by
  induction m with
  | nil => rfl
  | cons x r ih =>
    obtain ⟨a, x⟩ := x
    simp only [NMap.erase]; split
    · exact ih
    · rename_i h; simp only [NMap.get, if_neg h]; exact ih

theorem NMap.get_erase_ne (d : Nat → α) (m : NMap α) {k j : Nat} (h : j ≠ k) : NMap.get d (NMap.erase m k) j = NMap.get d m j := by
  induction m with
  | nil => rfl
  | cons x r ih =>
    obtain ⟨a, x⟩ := x
    simp only [NMap.erase]; split
    · rename_i ha; rw [ih, NMap.get, if_neg (by omega)]
    · simp only [NMap.get, ih]

theorem NMap.get_insert_same (d : Nat → α) (m : NMap α) (k : Nat) (v : α) : NMap.get d (NMap.insert m k v) k = v := by
  induction m with
  | nil => simp [NMap.insert, NMap.get]
  | cons x r ih =>
    obtain ⟨a, x⟩ := x
    simp only [NMap.insert]; (repeat' split) <;> simp_all [NMap.get]

theorem NMap.get_insert_ne (d : Nat → α) (m : NMap α) {k j : Nat} (v : α) (h : j ≠ k) :
    NMap.get d (NMap.insert m k v) j = NMap.get d m j := by
  induction m with
  | nil => simp [NMap.insert, NMap.get, h.symm]
  | cons x r ih =>
    obtain ⟨a, x⟩ := x
    simp only [NMap.insert]; (repeat' split) <;> simp_all [NMap.get, h.symm]

@[simp] theorem NMap.get_set_same [DecidableEq α] (d : Nat → α) (m : NMap α) (k : Nat) (v : α) :
    NMap.get d (NMap.set d m k v) k = v := by
  unfold NMap.set; split
  · rename_i h; rw [get_erase_same, h]
  · exact get_insert_same d m k v

theorem NMap.get_set_ne [DecidableEq α] (d : Nat → α) (m : NMap α) {k j : Nat} (v : α) (h : j ≠ k) :
    NMap.get d (NMap.set d m k v) j = NMap.get d m j := by
  unfold NMap.set; split
  · exact get_erase_ne d m h
  · exact get_insert_ne d m v h

/-! ### The canonical form -/

theorem NMap.wfFrom_weaken [DecidableEq α] {d : Nat → α} {m : NMap α} {lo : Option Nat} {b : Nat}
    (h : NMap.wfFrom d (some b) m = true) (k : ∀ c, lo = some c → c ≤ b) : NMap.wfFrom d lo m = true := by
  cases m with
  | nil => rfl
  | cons x r =>
    obtain ⟨a, x⟩ := x
    simp only [NMap.wfFrom, Bool.and_eq_true, decide_eq_true_eq] at h ⊢
    refine ⟨⟨?_, h.1.2⟩, h.2⟩
    cases lo with
    | none => rfl
    | some c => have := k c rfl; simp; omega

theorem NMap.wfFrom_erase [DecidableEq α] {d : Nat → α} {m : NMap α} {lo : Option Nat} (k : Nat)
    (h : NMap.wfFrom d lo m = true) : NMap.wfFrom d lo (NMap.erase m k) = true := by
  induction m generalizing lo with
  | nil => exact h
  | cons x r ih =>
    obtain ⟨a, x⟩ := x
    simp only [NMap.wfFrom, Bool.and_eq_true, decide_eq_true_eq] at h
    simp only [NMap.erase]; split
    · refine NMap.wfFrom_weaken (ih h.2) ?_
      rintro c rfl
      have := h.1.1; simp at this; omega
    · simp only [NMap.wfFrom, Bool.and_eq_true, decide_eq_true_eq]; exact ⟨h.1, ih h.2⟩

theorem NMap.wfFrom_insert [DecidableEq α] {d : Nat → α} {m : NMap α} {lo : Option Nat} {k : Nat} {v : α}
    (h : NMap.wfFrom d lo m = true) (hv : v ≠ d k) (hk : ∀ c, lo = some c → c < k) : NMap.wfFrom d lo (NMap.insert m k v) = true := by
  induction m generalizing lo with
  | nil => cases lo <;> simp_all [NMap.insert, NMap.wfFrom]
  | cons x r ih =>
    obtain ⟨a, x⟩ := x
    simp only [NMap.wfFrom, Bool.and_eq_true, decide_eq_true_eq] at h
    simp only [NMap.insert]; split
    · rename_i hka
      cases lo <;> simp_all [NMap.wfFrom]
    · split
      · rename_i _ hak; subst hak
        cases lo <;> simp_all [NMap.wfFrom]
      · simp only [NMap.wfFrom, Bool.and_eq_true, decide_eq_true_eq]
        refine ⟨h.1, ih h.2 ?_⟩
        rintro c ⟨⟩; omega

theorem NMap.wf_set [DecidableEq α] {d : Nat → α} {m : NMap α} (k : Nat) (v : α) (h : NMap.wf d m = true) :
    NMap.wf d (NMap.set d m k v) = true := by
  unfold NMap.set; split
  · exact NMap.wfFrom_erase k h
  · rename_i hv; exact NMap.wfFrom_insert h hv (by simp)

theorem memWrite_wf {m : NMap Byte} (a : Nat) (bs : List Byte) (h : NMap.wf (fun _ => (0 : Byte)) m = true) :
    NMap.wf (fun _ => (0 : Byte)) (memWrite m a bs) = true := by
  induction bs generalizing m a with
  | nil => exact h
  | cons b r ih => exact ih _ (NMap.wf_set a b h)

/-- A read of one byte after a write: a byte that the write covers is the byte written, every other byte is as before. -/
theorem get_memWrite (m : NMap Byte) (a : Nat) (bs : List Byte) (x : Nat) :
    NMap.get (fun _ => 0) (memWrite m a bs) x =
      if a ≤ x then bs.getD (x - a) (NMap.get (fun _ => 0) m x) else NMap.get (fun _ => 0) m x := by
  induction bs generalizing m a with
  | nil => simp [memWrite]
  | cons b r ih =>
    rw [memWrite, ih]
    by_cases h1 : a = x
    · subst h1
      simp [NMap.get_set_same]
    · by_cases h2 : a ≤ x
      · rw [if_pos (by omega), if_pos h2, NMap.get_set_ne _ _ _ (by omega)]
        obtain ⟨n, rfl⟩ : ∃ n, x = a + 1 + n := ⟨x - (a + 1), by omega⟩
        rw [show a + 1 + n - (a + 1) = n by omega, show a + 1 + n - a = n + 1 by omega]
        simp
      · rw [if_neg (by omega), if_neg h2, NMap.get_set_ne _ _ _ (by omega)]

/-! ### Bit fields -/

theorem bits_lt (x lo n : Nat) : bits x lo n < 2 ^ n := Nat.mod_lt _ (Nat.two_pow_pos n)

theorem bits_eq (x lo n : Nat) : bits x lo n = (x >>> lo) % 2 ^ n := by rw [bits, Nat.shiftRight_eq_div_pow]

theorem testBit_bits (x lo n i : Nat) : (bits x lo n).testBit i = (decide (i < n) && x.testBit (lo + i)) := by
  rw [bits_eq, Nat.testBit_mod_two_pow, Nat.testBit_shiftRight]

/-- A number as its three parts around a field. -/
theorem split3 (x lo n : Nat) : x = x / 2 ^ (lo + n) * 2 ^ (lo + n) + (bits x lo n * 2 ^ lo + x % 2 ^ lo) := by
  have h1 := Nat.div_add_mod x (2 ^ lo)
  have h2 := Nat.div_add_mod (x / 2 ^ lo) (2 ^ n)
  rw [Nat.div_div_eq_div_mul, ← pow_add] at h2
  unfold bits
  have h3 : 2 ^ lo * (x / 2 ^ lo) = 2 ^ lo * (2 ^ n * (x / 2 ^ (lo + n)) + x / 2 ^ lo % 2 ^ n) := by rw [h2]
  have h4 : x / 2 ^ (lo + n) * 2 ^ (lo + n) = 2 ^ lo * (2 ^ n * (x / 2 ^ (lo + n))) := by rw [pow_add]; ring
  have h5 : 2 ^ lo * (2 ^ n * (x / 2 ^ (lo + n)) + x / 2 ^ lo % 2 ^ n)
      = 2 ^ lo * (2 ^ n * (x / 2 ^ (lo + n))) + x / 2 ^ lo % 2 ^ n * 2 ^ lo := by ring
  omega

theorem setBits_eq (x lo n v : Nat) :
    setBits x lo n v = x / 2 ^ (lo + n) * 2 ^ (lo + n) + (v % 2 ^ n * 2 ^ lo + x % 2 ^ lo) := by
  have h := split3 x lo n
  unfold setBits
  omega

theorem testBit_three (a b c lo n i : Nat) (hb : b < 2 ^ n) (hc : c < 2 ^ lo) :
    (a * 2 ^ (lo + n) + (b * 2 ^ lo + c)).testBit i =
      if i < lo then c.testBit i else if i < lo + n then b.testBit (i - lo) else a.testBit (i - (lo + n)) := by
  have h1 : b * 2 ^ lo + c < 2 ^ (lo + n) := by
    have : (b + 1) * 2 ^ lo ≤ 2 ^ n * 2 ^ lo := Nat.mul_le_mul_right _ hb
    rw [pow_add, Nat.mul_comm (2 ^ lo)]; rw [Nat.add_mul] at this; omega
  rw [Nat.mul_comm a, Nat.testBit_two_pow_mul_add a h1]
  rw [Nat.mul_comm b]
  split
  · rw [Nat.testBit_two_pow_mul_add b hc]
  · rename_i h; rw [if_neg (by omega)]

theorem testBit_setBits (x lo n v i : Nat) :
    (setBits x lo n v).testBit i = if i < lo then x.testBit i else if i < lo + n then v.testBit (i - lo) else x.testBit i := by
  rw [setBits_eq, testBit_three _ _ _ _ _ _ (Nat.mod_lt _ (Nat.two_pow_pos n)) (Nat.mod_lt _ (Nat.two_pow_pos lo))]
  split
  · rename_i h; rw [Nat.testBit_mod_two_pow]; simp [h]
  · split
    · rw [Nat.testBit_mod_two_pow]; rename_i h k; simp; omega
    · rename_i h k; rw [Nat.testBit_div_two_pow]; congr 1; omega

@[simp] theorem bits_setBits_same (x lo n v : Nat) : bits (setBits x lo n v) lo n = v % 2 ^ n := by
  apply Nat.eq_of_testBit_eq; intro i
  rw [testBit_bits, testBit_setBits, Nat.testBit_mod_two_pow]
  by_cases h : i < n
  · rw [if_neg (by omega), if_pos (by omega)]; simp
  · simp [h]

/-- A field that does not meet the field written is as before. -/
theorem bits_setBits_disjoint (x lo n v lo' n' : Nat) (h : lo' + n' ≤ lo ∨ lo + n ≤ lo') :
    bits (setBits x lo n v) lo' n' = bits x lo' n' := by
  apply Nat.eq_of_testBit_eq; intro i
  rw [testBit_bits, testBit_bits, testBit_setBits]
  by_cases hi : i < n'
  · rcases h with h | h
    · rw [if_pos (by omega)]
    · rw [if_neg (by omega), if_neg (by omega)]
  · simp [hi]

theorem setBits_lt (x lo n v w : Nat) (hx : x < 2 ^ w) (h : lo + n ≤ w) : setBits x lo n v < 2 ^ w := by
  apply Nat.lt_pow_two_of_testBit; intro i hi
  rw [testBit_setBits, if_neg (by omega), if_neg (by omega)]
  exact Nat.testBit_lt_two_pow (lt_of_lt_of_le hx (Nat.pow_le_pow_right (by decide) hi))

theorem bit_eq (x i : Nat) : bit x i = x.testBit i := by
  rw [bit, Nat.testBit_eq_decide_div_mod_eq]

end Sys2Proof
end

