-- ==== Sys2Proof/Laws/Regs.lean ====
section
/-!
SUPPORT. What each update of a state leaves as it was, and what a register field reads after one.
-/

set_option Elab.async false
set_option linter.unusedSimpArgs false
set_option linter.unusedTactic false

namespace Sys2Proof.Machine

/-! ### Registers -/

theorem State.word_lt (s : State) (off : Nat) : s.word off < 2 ^ 32 := BitVec.isLt _

@[simp] theorem State.word_setWord_same (s : State) (off v : Nat) : (s.setWord off v).word off = v % 2 ^ 32 := by
  simp [State.word, State.setWord, NMap.get_set_same]

theorem State.word_setWord_ne (s : State) {off o : Nat} (v : Nat) (h : o ≠ off) : (s.setWord off v).word o = s.word o := by
  simp [State.word, State.setWord, NMap.get_set_ne _ _ _ h]

/-- A field reads what was last written to it. -/
theorem State.rd_wr_same (s : State) (f : Fld) (v : Nat) (h : f.lo + f.width ≤ 32) : (s.wr f v).rd f = v % 2 ^ f.width := by
  rw [State.rd, State.wr, State.word_setWord_same, Nat.mod_eq_of_lt (setBits_lt _ _ _ _ _ (s.word_lt _) h), bits_setBits_same]

/-- A field of another word, or of other bits of the same word, is as before. -/
theorem State.rd_wr_ne (s : State) {f g : Fld} (v : Nat) (h : f.lo + f.width ≤ 32)
    (k : f.off ≠ g.off ∨ g.lo + g.width ≤ f.lo ∨ f.lo + f.width ≤ g.lo) : (s.wr f v).rd g = s.rd g := by
  by_cases e : g.off = f.off
  · rw [State.rd, State.wr, e, State.word_setWord_same, Nat.mod_eq_of_lt (setBits_lt _ _ _ _ _ (s.word_lt _) h), bits_setBits_disjoint, State.rd, e]
    rcases k with k | k
    · exact absurd e.symm k
    · exact k
  · rw [State.rd, State.wr, State.word_setWord_ne _ _ e, State.rd]

theorem State.rd_lt (s : State) (f : Fld) : s.rd f < 2 ^ f.width := bits_lt _ _ _

theorem State.rd_of_regs {s t : State} (h : t.regs = s.regs) (f : Fld) : t.rd f = s.rd f := by
  simp only [State.rd, State.word, h]

theorem State.flag_of_regs {s t : State} (h : t.regs = s.regs) (f : Fld) : t.flag f = s.flag f := by
  simp only [State.flag, State.rd_of_regs h]

/-! ### What each update leaves -/

@[simp] theorem State.setWord_pending (s : State) (off v : Nat) : (s.setWord off v).pending = s.pending := (rfl)
@[simp] theorem State.setWord_now (s : State) (off v : Nat) : (s.setWord off v).now = s.now := (rfl)
@[simp] theorem State.setWord_drawn (s : State) (off v : Nat) : (s.setWord off v).drawn = s.drawn := (rfl)
@[simp] theorem State.setWord_emitted (s : State) (off v : Nat) : (s.setWord off v).emitted = s.emitted := (rfl)
@[simp] theorem State.setWord_hif (s : State) (off v : Nat) : (s.setWord off v).hif = s.hif := (rfl)
@[simp] theorem State.setWord_tgt (s : State) (off v : Nat) : (s.setWord off v).tgt = s.tgt := (rfl)
@[simp] theorem State.setWord_pts (s : State) (off v : Nat) : (s.setWord off v).pts = s.pts := (rfl)
@[simp] theorem State.setWord_ring (s : State) (off v : Nat) : (s.setWord off v).ring = s.ring := (rfl)
@[simp] theorem State.setWord_sw (s : State) (off v : Nat) : (s.setWord off v).sw = s.sw := (rfl)
@[simp] theorem State.setWord_flt (s : State) (off v : Nat) : (s.setWord off v).flt = s.flt := (rfl)
@[simp] theorem State.setWord_td (s : State) (off v : Nat) : (s.setWord off v).td = s.td := (rfl)
@[simp] theorem State.setWord_brg (s : State) (off v : Nat) : (s.setWord off v).brg = s.brg := (rfl)
@[simp] theorem State.setWord_cyc (s : State) (off v : Nat) : (s.setWord off v).cyc = s.cyc := (rfl)
@[simp] theorem State.setWord_fld (s : State) (off v : Nat) : (s.setWord off v).fld = s.fld := (rfl)
@[simp] theorem State.setWord_pctl (s : State) (off v : Nat) : (s.setWord off v).pctl = s.pctl := (rfl)
@[simp] theorem State.setWord_rfx (s : State) (off v : Nat) : (s.setWord off v).rfx = s.rfx := (rfl)
@[simp] theorem State.setWord_meas (s : State) (off v : Nat) : (s.setWord off v).meas = s.meas := (rfl)
@[simp] theorem State.setWord_pwr (s : State) (off v : Nat) : (s.setWord off v).pwr = s.pwr := (rfl)
@[simp] theorem State.setWord_eng (s : State) (off v : Nat) : (s.setWord off v).eng = s.eng := (rfl)
@[simp] theorem State.setWord_twin (s : State) (off v : Nat) : (s.setWord off v).twin = s.twin := (rfl)
@[simp] theorem State.setWord_sec (s : State) (off v : Nat) : (s.setWord off v).sec = s.sec := (rfl)
@[simp] theorem State.setWord_boot (s : State) (off v : Nat) : (s.setWord off v).boot = s.boot := (rfl)
@[simp] theorem State.setWord_setup (s : State) (off v : Nat) : (s.setWord off v).setup = s.setup := (rfl)

@[simp] theorem State.wr_pending (s : State) (f : Fld) (v : Nat) : (s.wr f v).pending = s.pending := (rfl)
@[simp] theorem State.wr_now (s : State) (f : Fld) (v : Nat) : (s.wr f v).now = s.now := (rfl)
@[simp] theorem State.wr_drawn (s : State) (f : Fld) (v : Nat) : (s.wr f v).drawn = s.drawn := (rfl)
@[simp] theorem State.wr_emitted (s : State) (f : Fld) (v : Nat) : (s.wr f v).emitted = s.emitted := (rfl)
@[simp] theorem State.wr_hif (s : State) (f : Fld) (v : Nat) : (s.wr f v).hif = s.hif := (rfl)
@[simp] theorem State.wr_tgt (s : State) (f : Fld) (v : Nat) : (s.wr f v).tgt = s.tgt := (rfl)
@[simp] theorem State.wr_pts (s : State) (f : Fld) (v : Nat) : (s.wr f v).pts = s.pts := (rfl)
@[simp] theorem State.wr_ring (s : State) (f : Fld) (v : Nat) : (s.wr f v).ring = s.ring := (rfl)
@[simp] theorem State.wr_sw (s : State) (f : Fld) (v : Nat) : (s.wr f v).sw = s.sw := (rfl)
@[simp] theorem State.wr_flt (s : State) (f : Fld) (v : Nat) : (s.wr f v).flt = s.flt := (rfl)
@[simp] theorem State.wr_td (s : State) (f : Fld) (v : Nat) : (s.wr f v).td = s.td := (rfl)
@[simp] theorem State.wr_brg (s : State) (f : Fld) (v : Nat) : (s.wr f v).brg = s.brg := (rfl)
@[simp] theorem State.wr_cyc (s : State) (f : Fld) (v : Nat) : (s.wr f v).cyc = s.cyc := (rfl)
@[simp] theorem State.wr_fld (s : State) (f : Fld) (v : Nat) : (s.wr f v).fld = s.fld := (rfl)
@[simp] theorem State.wr_pctl (s : State) (f : Fld) (v : Nat) : (s.wr f v).pctl = s.pctl := (rfl)
@[simp] theorem State.wr_rfx (s : State) (f : Fld) (v : Nat) : (s.wr f v).rfx = s.rfx := (rfl)
@[simp] theorem State.wr_meas (s : State) (f : Fld) (v : Nat) : (s.wr f v).meas = s.meas := (rfl)
@[simp] theorem State.wr_pwr (s : State) (f : Fld) (v : Nat) : (s.wr f v).pwr = s.pwr := (rfl)
@[simp] theorem State.wr_eng (s : State) (f : Fld) (v : Nat) : (s.wr f v).eng = s.eng := (rfl)
@[simp] theorem State.wr_twin (s : State) (f : Fld) (v : Nat) : (s.wr f v).twin = s.twin := (rfl)
@[simp] theorem State.wr_sec (s : State) (f : Fld) (v : Nat) : (s.wr f v).sec = s.sec := (rfl)
@[simp] theorem State.wr_boot (s : State) (f : Fld) (v : Nat) : (s.wr f v).boot = s.boot := (rfl)
@[simp] theorem State.wr_setup (s : State) (f : Fld) (v : Nat) : (s.wr f v).setup = s.setup := (rfl)

@[simp] theorem State.inc_pending (s : State) (f : Fld) (k : Nat) : (s.inc f k).pending = s.pending := (rfl)
@[simp] theorem State.inc_now (s : State) (f : Fld) (k : Nat) : (s.inc f k).now = s.now := (rfl)
@[simp] theorem State.inc_drawn (s : State) (f : Fld) (k : Nat) : (s.inc f k).drawn = s.drawn := (rfl)
@[simp] theorem State.inc_emitted (s : State) (f : Fld) (k : Nat) : (s.inc f k).emitted = s.emitted := (rfl)
@[simp] theorem State.inc_hif (s : State) (f : Fld) (k : Nat) : (s.inc f k).hif = s.hif := (rfl)
@[simp] theorem State.inc_tgt (s : State) (f : Fld) (k : Nat) : (s.inc f k).tgt = s.tgt := (rfl)
@[simp] theorem State.inc_pts (s : State) (f : Fld) (k : Nat) : (s.inc f k).pts = s.pts := (rfl)
@[simp] theorem State.inc_ring (s : State) (f : Fld) (k : Nat) : (s.inc f k).ring = s.ring := (rfl)
@[simp] theorem State.inc_sw (s : State) (f : Fld) (k : Nat) : (s.inc f k).sw = s.sw := (rfl)
@[simp] theorem State.inc_flt (s : State) (f : Fld) (k : Nat) : (s.inc f k).flt = s.flt := (rfl)
@[simp] theorem State.inc_td (s : State) (f : Fld) (k : Nat) : (s.inc f k).td = s.td := (rfl)
@[simp] theorem State.inc_brg (s : State) (f : Fld) (k : Nat) : (s.inc f k).brg = s.brg := (rfl)
@[simp] theorem State.inc_cyc (s : State) (f : Fld) (k : Nat) : (s.inc f k).cyc = s.cyc := (rfl)
@[simp] theorem State.inc_fld (s : State) (f : Fld) (k : Nat) : (s.inc f k).fld = s.fld := (rfl)
@[simp] theorem State.inc_pctl (s : State) (f : Fld) (k : Nat) : (s.inc f k).pctl = s.pctl := (rfl)
@[simp] theorem State.inc_rfx (s : State) (f : Fld) (k : Nat) : (s.inc f k).rfx = s.rfx := (rfl)
@[simp] theorem State.inc_meas (s : State) (f : Fld) (k : Nat) : (s.inc f k).meas = s.meas := (rfl)
@[simp] theorem State.inc_pwr (s : State) (f : Fld) (k : Nat) : (s.inc f k).pwr = s.pwr := (rfl)
@[simp] theorem State.inc_eng (s : State) (f : Fld) (k : Nat) : (s.inc f k).eng = s.eng := (rfl)
@[simp] theorem State.inc_twin (s : State) (f : Fld) (k : Nat) : (s.inc f k).twin = s.twin := (rfl)
@[simp] theorem State.inc_sec (s : State) (f : Fld) (k : Nat) : (s.inc f k).sec = s.sec := (rfl)
@[simp] theorem State.inc_boot (s : State) (f : Fld) (k : Nat) : (s.inc f k).boot = s.boot := (rfl)
@[simp] theorem State.inc_setup (s : State) (f : Fld) (k : Nat) : (s.inc f k).setup = s.setup := (rfl)

@[simp] theorem State.wrBit_pending (s : State) (f : Fld) (i : Nat) (b : Bool) : (s.wrBit f i b).pending = s.pending := (rfl)
@[simp] theorem State.wrBit_now (s : State) (f : Fld) (i : Nat) (b : Bool) : (s.wrBit f i b).now = s.now := (rfl)
@[simp] theorem State.wrBit_drawn (s : State) (f : Fld) (i : Nat) (b : Bool) : (s.wrBit f i b).drawn = s.drawn := (rfl)
@[simp] theorem State.wrBit_emitted (s : State) (f : Fld) (i : Nat) (b : Bool) : (s.wrBit f i b).emitted = s.emitted := (rfl)
@[simp] theorem State.wrBit_hif (s : State) (f : Fld) (i : Nat) (b : Bool) : (s.wrBit f i b).hif = s.hif := (rfl)
@[simp] theorem State.wrBit_tgt (s : State) (f : Fld) (i : Nat) (b : Bool) : (s.wrBit f i b).tgt = s.tgt := (rfl)
@[simp] theorem State.wrBit_pts (s : State) (f : Fld) (i : Nat) (b : Bool) : (s.wrBit f i b).pts = s.pts := (rfl)
@[simp] theorem State.wrBit_ring (s : State) (f : Fld) (i : Nat) (b : Bool) : (s.wrBit f i b).ring = s.ring := (rfl)
@[simp] theorem State.wrBit_sw (s : State) (f : Fld) (i : Nat) (b : Bool) : (s.wrBit f i b).sw = s.sw := (rfl)
@[simp] theorem State.wrBit_flt (s : State) (f : Fld) (i : Nat) (b : Bool) : (s.wrBit f i b).flt = s.flt := (rfl)
@[simp] theorem State.wrBit_td (s : State) (f : Fld) (i : Nat) (b : Bool) : (s.wrBit f i b).td = s.td := (rfl)
@[simp] theorem State.wrBit_brg (s : State) (f : Fld) (i : Nat) (b : Bool) : (s.wrBit f i b).brg = s.brg := (rfl)
@[simp] theorem State.wrBit_cyc (s : State) (f : Fld) (i : Nat) (b : Bool) : (s.wrBit f i b).cyc = s.cyc := (rfl)
@[simp] theorem State.wrBit_fld (s : State) (f : Fld) (i : Nat) (b : Bool) : (s.wrBit f i b).fld = s.fld := (rfl)
@[simp] theorem State.wrBit_pctl (s : State) (f : Fld) (i : Nat) (b : Bool) : (s.wrBit f i b).pctl = s.pctl := (rfl)
@[simp] theorem State.wrBit_rfx (s : State) (f : Fld) (i : Nat) (b : Bool) : (s.wrBit f i b).rfx = s.rfx := (rfl)
@[simp] theorem State.wrBit_meas (s : State) (f : Fld) (i : Nat) (b : Bool) : (s.wrBit f i b).meas = s.meas := (rfl)
@[simp] theorem State.wrBit_pwr (s : State) (f : Fld) (i : Nat) (b : Bool) : (s.wrBit f i b).pwr = s.pwr := (rfl)
@[simp] theorem State.wrBit_eng (s : State) (f : Fld) (i : Nat) (b : Bool) : (s.wrBit f i b).eng = s.eng := (rfl)
@[simp] theorem State.wrBit_twin (s : State) (f : Fld) (i : Nat) (b : Bool) : (s.wrBit f i b).twin = s.twin := (rfl)
@[simp] theorem State.wrBit_sec (s : State) (f : Fld) (i : Nat) (b : Bool) : (s.wrBit f i b).sec = s.sec := (rfl)
@[simp] theorem State.wrBit_boot (s : State) (f : Fld) (i : Nat) (b : Bool) : (s.wrBit f i b).boot = s.boot := (rfl)
@[simp] theorem State.wrBit_setup (s : State) (f : Fld) (i : Nat) (b : Bool) : (s.wrBit f i b).setup = s.setup := (rfl)

@[simp] theorem State.emit_pending (s : State) (e : Emit) : (s.emit e).pending = s.pending := (rfl)
@[simp] theorem State.emit_regs (s : State) (e : Emit) : (s.emit e).regs = s.regs := (rfl)
@[simp] theorem State.emit_now (s : State) (e : Emit) : (s.emit e).now = s.now := (rfl)
@[simp] theorem State.emit_drawn (s : State) (e : Emit) : (s.emit e).drawn = s.drawn := (rfl)
@[simp] theorem State.emit_hif (s : State) (e : Emit) : (s.emit e).hif = s.hif := (rfl)
@[simp] theorem State.emit_tgt (s : State) (e : Emit) : (s.emit e).tgt = s.tgt := (rfl)
@[simp] theorem State.emit_pts (s : State) (e : Emit) : (s.emit e).pts = s.pts := (rfl)
@[simp] theorem State.emit_ring (s : State) (e : Emit) : (s.emit e).ring = s.ring := (rfl)
@[simp] theorem State.emit_sw (s : State) (e : Emit) : (s.emit e).sw = s.sw := (rfl)
@[simp] theorem State.emit_flt (s : State) (e : Emit) : (s.emit e).flt = s.flt := (rfl)
@[simp] theorem State.emit_td (s : State) (e : Emit) : (s.emit e).td = s.td := (rfl)
@[simp] theorem State.emit_brg (s : State) (e : Emit) : (s.emit e).brg = s.brg := (rfl)
@[simp] theorem State.emit_cyc (s : State) (e : Emit) : (s.emit e).cyc = s.cyc := (rfl)
@[simp] theorem State.emit_fld (s : State) (e : Emit) : (s.emit e).fld = s.fld := (rfl)
@[simp] theorem State.emit_pctl (s : State) (e : Emit) : (s.emit e).pctl = s.pctl := (rfl)
@[simp] theorem State.emit_rfx (s : State) (e : Emit) : (s.emit e).rfx = s.rfx := (rfl)
@[simp] theorem State.emit_meas (s : State) (e : Emit) : (s.emit e).meas = s.meas := (rfl)
@[simp] theorem State.emit_pwr (s : State) (e : Emit) : (s.emit e).pwr = s.pwr := (rfl)
@[simp] theorem State.emit_eng (s : State) (e : Emit) : (s.emit e).eng = s.eng := (rfl)
@[simp] theorem State.emit_twin (s : State) (e : Emit) : (s.emit e).twin = s.twin := (rfl)
@[simp] theorem State.emit_sec (s : State) (e : Emit) : (s.emit e).sec = s.sec := (rfl)
@[simp] theorem State.emit_boot (s : State) (e : Emit) : (s.emit e).boot = s.boot := (rfl)
@[simp] theorem State.emit_setup (s : State) (e : Emit) : (s.emit e).setup = s.setup := (rfl)
@[simp] theorem State.emit_rd (s : State) (e : Emit) (f : Fld) : (s.emit e).rd f = s.rd f := (rfl)
@[simp] theorem State.emit_flag (s : State) (e : Emit) (f : Fld) : (s.emit e).flag f = s.flag f := (rfl)

@[simp] theorem State.setPair_pending (s : State) (p : Nat) (x : Pair) : (s.setPair p x).pending = s.pending := (rfl)
@[simp] theorem State.setPair_regs (s : State) (p : Nat) (x : Pair) : (s.setPair p x).regs = s.regs := (rfl)
@[simp] theorem State.setPair_now (s : State) (p : Nat) (x : Pair) : (s.setPair p x).now = s.now := (rfl)
@[simp] theorem State.setPair_drawn (s : State) (p : Nat) (x : Pair) : (s.setPair p x).drawn = s.drawn := (rfl)
@[simp] theorem State.setPair_emitted (s : State) (p : Nat) (x : Pair) : (s.setPair p x).emitted = s.emitted := (rfl)
@[simp] theorem State.setPair_tgt (s : State) (p : Nat) (x : Pair) : (s.setPair p x).tgt = s.tgt := (rfl)
@[simp] theorem State.setPair_pts (s : State) (p : Nat) (x : Pair) : (s.setPair p x).pts = s.pts := (rfl)
@[simp] theorem State.setPair_ring (s : State) (p : Nat) (x : Pair) : (s.setPair p x).ring = s.ring := (rfl)
@[simp] theorem State.setPair_sw (s : State) (p : Nat) (x : Pair) : (s.setPair p x).sw = s.sw := (rfl)
@[simp] theorem State.setPair_flt (s : State) (p : Nat) (x : Pair) : (s.setPair p x).flt = s.flt := (rfl)
@[simp] theorem State.setPair_td (s : State) (p : Nat) (x : Pair) : (s.setPair p x).td = s.td := (rfl)
@[simp] theorem State.setPair_brg (s : State) (p : Nat) (x : Pair) : (s.setPair p x).brg = s.brg := (rfl)
@[simp] theorem State.setPair_cyc (s : State) (p : Nat) (x : Pair) : (s.setPair p x).cyc = s.cyc := (rfl)
@[simp] theorem State.setPair_fld (s : State) (p : Nat) (x : Pair) : (s.setPair p x).fld = s.fld := (rfl)
@[simp] theorem State.setPair_pctl (s : State) (p : Nat) (x : Pair) : (s.setPair p x).pctl = s.pctl := (rfl)
@[simp] theorem State.setPair_rfx (s : State) (p : Nat) (x : Pair) : (s.setPair p x).rfx = s.rfx := (rfl)
@[simp] theorem State.setPair_meas (s : State) (p : Nat) (x : Pair) : (s.setPair p x).meas = s.meas := (rfl)
@[simp] theorem State.setPair_pwr (s : State) (p : Nat) (x : Pair) : (s.setPair p x).pwr = s.pwr := (rfl)
@[simp] theorem State.setPair_eng (s : State) (p : Nat) (x : Pair) : (s.setPair p x).eng = s.eng := (rfl)
@[simp] theorem State.setPair_twin (s : State) (p : Nat) (x : Pair) : (s.setPair p x).twin = s.twin := (rfl)
@[simp] theorem State.setPair_sec (s : State) (p : Nat) (x : Pair) : (s.setPair p x).sec = s.sec := (rfl)
@[simp] theorem State.setPair_boot (s : State) (p : Nat) (x : Pair) : (s.setPair p x).boot = s.boot := (rfl)
@[simp] theorem State.setPair_setup (s : State) (p : Nat) (x : Pair) : (s.setPair p x).setup = s.setup := (rfl)
@[simp] theorem State.setPair_rd (s : State) (p : Nat) (x : Pair) (f : Fld) : (s.setPair p x).rd f = s.rd f := (rfl)
@[simp] theorem State.setPair_flag (s : State) (p : Nat) (x : Pair) (f : Fld) : (s.setPair p x).flag f = s.flag f := (rfl)
@[simp] theorem State.setPair_pair (s : State) (p : Nat) (x : Pair) : (s.setPair p x).pair p = x := NMap.get_set_same _ _ _ _
theorem State.setPair_pair_ne (s : State) (p : Nat) (x : Pair) {j : Nat} (h : j ≠ p) : (s.setPair p x).pair j = s.pair j := NMap.get_set_ne _ _ _ h

@[simp] theorem State.setSlot_pending (s : State) (t : Nat) (x : Slot) : (s.setSlot t x).pending = s.pending := (rfl)
@[simp] theorem State.setSlot_regs (s : State) (t : Nat) (x : Slot) : (s.setSlot t x).regs = s.regs := (rfl)
@[simp] theorem State.setSlot_now (s : State) (t : Nat) (x : Slot) : (s.setSlot t x).now = s.now := (rfl)
@[simp] theorem State.setSlot_drawn (s : State) (t : Nat) (x : Slot) : (s.setSlot t x).drawn = s.drawn := (rfl)
@[simp] theorem State.setSlot_emitted (s : State) (t : Nat) (x : Slot) : (s.setSlot t x).emitted = s.emitted := (rfl)
@[simp] theorem State.setSlot_tgt (s : State) (t : Nat) (x : Slot) : (s.setSlot t x).tgt = s.tgt := (rfl)
@[simp] theorem State.setSlot_pts (s : State) (t : Nat) (x : Slot) : (s.setSlot t x).pts = s.pts := (rfl)
@[simp] theorem State.setSlot_ring (s : State) (t : Nat) (x : Slot) : (s.setSlot t x).ring = s.ring := (rfl)
@[simp] theorem State.setSlot_sw (s : State) (t : Nat) (x : Slot) : (s.setSlot t x).sw = s.sw := (rfl)
@[simp] theorem State.setSlot_flt (s : State) (t : Nat) (x : Slot) : (s.setSlot t x).flt = s.flt := (rfl)
@[simp] theorem State.setSlot_td (s : State) (t : Nat) (x : Slot) : (s.setSlot t x).td = s.td := (rfl)
@[simp] theorem State.setSlot_brg (s : State) (t : Nat) (x : Slot) : (s.setSlot t x).brg = s.brg := (rfl)
@[simp] theorem State.setSlot_cyc (s : State) (t : Nat) (x : Slot) : (s.setSlot t x).cyc = s.cyc := (rfl)
@[simp] theorem State.setSlot_fld (s : State) (t : Nat) (x : Slot) : (s.setSlot t x).fld = s.fld := (rfl)
@[simp] theorem State.setSlot_pctl (s : State) (t : Nat) (x : Slot) : (s.setSlot t x).pctl = s.pctl := (rfl)
@[simp] theorem State.setSlot_rfx (s : State) (t : Nat) (x : Slot) : (s.setSlot t x).rfx = s.rfx := (rfl)
@[simp] theorem State.setSlot_meas (s : State) (t : Nat) (x : Slot) : (s.setSlot t x).meas = s.meas := (rfl)
@[simp] theorem State.setSlot_pwr (s : State) (t : Nat) (x : Slot) : (s.setSlot t x).pwr = s.pwr := (rfl)
@[simp] theorem State.setSlot_eng (s : State) (t : Nat) (x : Slot) : (s.setSlot t x).eng = s.eng := (rfl)
@[simp] theorem State.setSlot_twin (s : State) (t : Nat) (x : Slot) : (s.setSlot t x).twin = s.twin := (rfl)
@[simp] theorem State.setSlot_sec (s : State) (t : Nat) (x : Slot) : (s.setSlot t x).sec = s.sec := (rfl)
@[simp] theorem State.setSlot_boot (s : State) (t : Nat) (x : Slot) : (s.setSlot t x).boot = s.boot := (rfl)
@[simp] theorem State.setSlot_setup (s : State) (t : Nat) (x : Slot) : (s.setSlot t x).setup = s.setup := (rfl)
@[simp] theorem State.setSlot_rd (s : State) (t : Nat) (x : Slot) (f : Fld) : (s.setSlot t x).rd f = s.rd f := (rfl)
@[simp] theorem State.setSlot_flag (s : State) (t : Nat) (x : Slot) (f : Fld) : (s.setSlot t x).flag f = s.flag f := (rfl)
@[simp] theorem State.setSlot_slot (s : State) (t : Nat) (x : Slot) : (s.setSlot t x).slot t = x := NMap.get_set_same _ _ _ _
theorem State.setSlot_slot_ne (s : State) (t : Nat) (x : Slot) {j : Nat} (h : j ≠ t) : (s.setSlot t x).slot j = s.slot j := NMap.get_set_ne _ _ _ h

@[simp] theorem State.setTag_pending (s : State) (k : Nat) (x : Tag) : (s.setTag k x).pending = s.pending := (rfl)
@[simp] theorem State.setTag_regs (s : State) (k : Nat) (x : Tag) : (s.setTag k x).regs = s.regs := (rfl)
@[simp] theorem State.setTag_now (s : State) (k : Nat) (x : Tag) : (s.setTag k x).now = s.now := (rfl)
@[simp] theorem State.setTag_drawn (s : State) (k : Nat) (x : Tag) : (s.setTag k x).drawn = s.drawn := (rfl)
@[simp] theorem State.setTag_emitted (s : State) (k : Nat) (x : Tag) : (s.setTag k x).emitted = s.emitted := (rfl)
@[simp] theorem State.setTag_tgt (s : State) (k : Nat) (x : Tag) : (s.setTag k x).tgt = s.tgt := (rfl)
@[simp] theorem State.setTag_pts (s : State) (k : Nat) (x : Tag) : (s.setTag k x).pts = s.pts := (rfl)
@[simp] theorem State.setTag_ring (s : State) (k : Nat) (x : Tag) : (s.setTag k x).ring = s.ring := (rfl)
@[simp] theorem State.setTag_sw (s : State) (k : Nat) (x : Tag) : (s.setTag k x).sw = s.sw := (rfl)
@[simp] theorem State.setTag_flt (s : State) (k : Nat) (x : Tag) : (s.setTag k x).flt = s.flt := (rfl)
@[simp] theorem State.setTag_td (s : State) (k : Nat) (x : Tag) : (s.setTag k x).td = s.td := (rfl)
@[simp] theorem State.setTag_brg (s : State) (k : Nat) (x : Tag) : (s.setTag k x).brg = s.brg := (rfl)
@[simp] theorem State.setTag_cyc (s : State) (k : Nat) (x : Tag) : (s.setTag k x).cyc = s.cyc := (rfl)
@[simp] theorem State.setTag_fld (s : State) (k : Nat) (x : Tag) : (s.setTag k x).fld = s.fld := (rfl)
@[simp] theorem State.setTag_pctl (s : State) (k : Nat) (x : Tag) : (s.setTag k x).pctl = s.pctl := (rfl)
@[simp] theorem State.setTag_rfx (s : State) (k : Nat) (x : Tag) : (s.setTag k x).rfx = s.rfx := (rfl)
@[simp] theorem State.setTag_meas (s : State) (k : Nat) (x : Tag) : (s.setTag k x).meas = s.meas := (rfl)
@[simp] theorem State.setTag_pwr (s : State) (k : Nat) (x : Tag) : (s.setTag k x).pwr = s.pwr := (rfl)
@[simp] theorem State.setTag_eng (s : State) (k : Nat) (x : Tag) : (s.setTag k x).eng = s.eng := (rfl)
@[simp] theorem State.setTag_twin (s : State) (k : Nat) (x : Tag) : (s.setTag k x).twin = s.twin := (rfl)
@[simp] theorem State.setTag_sec (s : State) (k : Nat) (x : Tag) : (s.setTag k x).sec = s.sec := (rfl)
@[simp] theorem State.setTag_boot (s : State) (k : Nat) (x : Tag) : (s.setTag k x).boot = s.boot := (rfl)
@[simp] theorem State.setTag_setup (s : State) (k : Nat) (x : Tag) : (s.setTag k x).setup = s.setup := (rfl)
@[simp] theorem State.setTag_rd (s : State) (k : Nat) (x : Tag) (f : Fld) : (s.setTag k x).rd f = s.rd f := (rfl)
@[simp] theorem State.setTag_flag (s : State) (k : Nat) (x : Tag) (f : Fld) : (s.setTag k x).flag f = s.flag f := (rfl)
@[simp] theorem State.setTag_tag (s : State) (k : Nat) (x : Tag) : (s.setTag k x).tag k = x := NMap.get_set_same _ _ _ _
theorem State.setTag_tag_ne (s : State) (k : Nat) (x : Tag) {j : Nat} (h : j ≠ k) : (s.setTag k x).tag j = s.tag j := NMap.get_set_ne _ _ _ h

@[simp] theorem State.setPort_pending (s : State) (i : Nat) (x : Port) : (s.setPort i x).pending = s.pending := (rfl)
@[simp] theorem State.setPort_regs (s : State) (i : Nat) (x : Port) : (s.setPort i x).regs = s.regs := (rfl)
@[simp] theorem State.setPort_now (s : State) (i : Nat) (x : Port) : (s.setPort i x).now = s.now := (rfl)
@[simp] theorem State.setPort_drawn (s : State) (i : Nat) (x : Port) : (s.setPort i x).drawn = s.drawn := (rfl)
@[simp] theorem State.setPort_emitted (s : State) (i : Nat) (x : Port) : (s.setPort i x).emitted = s.emitted := (rfl)
@[simp] theorem State.setPort_hif (s : State) (i : Nat) (x : Port) : (s.setPort i x).hif = s.hif := (rfl)
@[simp] theorem State.setPort_tgt (s : State) (i : Nat) (x : Port) : (s.setPort i x).tgt = s.tgt := (rfl)
@[simp] theorem State.setPort_pts (s : State) (i : Nat) (x : Port) : (s.setPort i x).pts = s.pts := (rfl)
@[simp] theorem State.setPort_sw (s : State) (i : Nat) (x : Port) : (s.setPort i x).sw = s.sw := (rfl)
@[simp] theorem State.setPort_flt (s : State) (i : Nat) (x : Port) : (s.setPort i x).flt = s.flt := (rfl)
@[simp] theorem State.setPort_td (s : State) (i : Nat) (x : Port) : (s.setPort i x).td = s.td := (rfl)
@[simp] theorem State.setPort_brg (s : State) (i : Nat) (x : Port) : (s.setPort i x).brg = s.brg := (rfl)
@[simp] theorem State.setPort_cyc (s : State) (i : Nat) (x : Port) : (s.setPort i x).cyc = s.cyc := (rfl)
@[simp] theorem State.setPort_fld (s : State) (i : Nat) (x : Port) : (s.setPort i x).fld = s.fld := (rfl)
@[simp] theorem State.setPort_pctl (s : State) (i : Nat) (x : Port) : (s.setPort i x).pctl = s.pctl := (rfl)
@[simp] theorem State.setPort_rfx (s : State) (i : Nat) (x : Port) : (s.setPort i x).rfx = s.rfx := (rfl)
@[simp] theorem State.setPort_meas (s : State) (i : Nat) (x : Port) : (s.setPort i x).meas = s.meas := (rfl)
@[simp] theorem State.setPort_pwr (s : State) (i : Nat) (x : Port) : (s.setPort i x).pwr = s.pwr := (rfl)
@[simp] theorem State.setPort_eng (s : State) (i : Nat) (x : Port) : (s.setPort i x).eng = s.eng := (rfl)
@[simp] theorem State.setPort_twin (s : State) (i : Nat) (x : Port) : (s.setPort i x).twin = s.twin := (rfl)
@[simp] theorem State.setPort_sec (s : State) (i : Nat) (x : Port) : (s.setPort i x).sec = s.sec := (rfl)
@[simp] theorem State.setPort_boot (s : State) (i : Nat) (x : Port) : (s.setPort i x).boot = s.boot := (rfl)
@[simp] theorem State.setPort_setup (s : State) (i : Nat) (x : Port) : (s.setPort i x).setup = s.setup := (rfl)
@[simp] theorem State.setPort_rd (s : State) (i : Nat) (x : Port) (f : Fld) : (s.setPort i x).rd f = s.rd f := (rfl)
@[simp] theorem State.setPort_flag (s : State) (i : Nat) (x : Port) (f : Fld) : (s.setPort i x).flag f = s.flag f := (rfl)
@[simp] theorem State.setPort_port (s : State) (i : Nat) (x : Port) : (s.setPort i x).port i = x := NMap.get_set_same _ _ _ _
theorem State.setPort_port_ne (s : State) (i : Nat) (x : Port) {j : Nat} (h : j ≠ i) : (s.setPort i x).port j = s.port j := NMap.get_set_ne _ _ _ h

@[simp] theorem State.setPoint_pending (s : State) (n : Nat) (x : Point) : (s.setPoint n x).pending = s.pending := (rfl)
@[simp] theorem State.setPoint_regs (s : State) (n : Nat) (x : Point) : (s.setPoint n x).regs = s.regs := (rfl)
@[simp] theorem State.setPoint_now (s : State) (n : Nat) (x : Point) : (s.setPoint n x).now = s.now := (rfl)
@[simp] theorem State.setPoint_drawn (s : State) (n : Nat) (x : Point) : (s.setPoint n x).drawn = s.drawn := (rfl)
@[simp] theorem State.setPoint_emitted (s : State) (n : Nat) (x : Point) : (s.setPoint n x).emitted = s.emitted := (rfl)
@[simp] theorem State.setPoint_hif (s : State) (n : Nat) (x : Point) : (s.setPoint n x).hif = s.hif := (rfl)
@[simp] theorem State.setPoint_tgt (s : State) (n : Nat) (x : Point) : (s.setPoint n x).tgt = s.tgt := (rfl)
@[simp] theorem State.setPoint_ring (s : State) (n : Nat) (x : Point) : (s.setPoint n x).ring = s.ring := (rfl)
@[simp] theorem State.setPoint_sw (s : State) (n : Nat) (x : Point) : (s.setPoint n x).sw = s.sw := (rfl)
@[simp] theorem State.setPoint_flt (s : State) (n : Nat) (x : Point) : (s.setPoint n x).flt = s.flt := (rfl)
@[simp] theorem State.setPoint_td (s : State) (n : Nat) (x : Point) : (s.setPoint n x).td = s.td := (rfl)
@[simp] theorem State.setPoint_brg (s : State) (n : Nat) (x : Point) : (s.setPoint n x).brg = s.brg := (rfl)
@[simp] theorem State.setPoint_cyc (s : State) (n : Nat) (x : Point) : (s.setPoint n x).cyc = s.cyc := (rfl)
@[simp] theorem State.setPoint_fld (s : State) (n : Nat) (x : Point) : (s.setPoint n x).fld = s.fld := (rfl)
@[simp] theorem State.setPoint_pctl (s : State) (n : Nat) (x : Point) : (s.setPoint n x).pctl = s.pctl := (rfl)
@[simp] theorem State.setPoint_rfx (s : State) (n : Nat) (x : Point) : (s.setPoint n x).rfx = s.rfx := (rfl)
@[simp] theorem State.setPoint_meas (s : State) (n : Nat) (x : Point) : (s.setPoint n x).meas = s.meas := (rfl)
@[simp] theorem State.setPoint_pwr (s : State) (n : Nat) (x : Point) : (s.setPoint n x).pwr = s.pwr := (rfl)
@[simp] theorem State.setPoint_eng (s : State) (n : Nat) (x : Point) : (s.setPoint n x).eng = s.eng := (rfl)
@[simp] theorem State.setPoint_twin (s : State) (n : Nat) (x : Point) : (s.setPoint n x).twin = s.twin := (rfl)
@[simp] theorem State.setPoint_sec (s : State) (n : Nat) (x : Point) : (s.setPoint n x).sec = s.sec := (rfl)
@[simp] theorem State.setPoint_boot (s : State) (n : Nat) (x : Point) : (s.setPoint n x).boot = s.boot := (rfl)
@[simp] theorem State.setPoint_setup (s : State) (n : Nat) (x : Point) : (s.setPoint n x).setup = s.setup := (rfl)
@[simp] theorem State.setPoint_rd (s : State) (n : Nat) (x : Point) (f : Fld) : (s.setPoint n x).rd f = s.rd f := (rfl)
@[simp] theorem State.setPoint_flag (s : State) (n : Nat) (x : Point) (f : Fld) : (s.setPoint n x).flag f = s.flag f := (rfl)
@[simp] theorem State.setPoint_point (s : State) (n : Nat) (x : Point) : (s.setPoint n x).point n = x := NMap.get_set_same _ _ _ _
theorem State.setPoint_point_ne (s : State) (n : Nat) (x : Point) {j : Nat} (h : j ≠ n) : (s.setPoint n x).point j = s.point j := NMap.get_set_ne _ _ _ h

@[simp] theorem State.setChan_pending (s : State) (e c : Nat) (x : Chan) : (s.setChan e c x).pending = s.pending := (rfl)
@[simp] theorem State.setChan_regs (s : State) (e c : Nat) (x : Chan) : (s.setChan e c x).regs = s.regs := (rfl)
@[simp] theorem State.setChan_now (s : State) (e c : Nat) (x : Chan) : (s.setChan e c x).now = s.now := (rfl)
@[simp] theorem State.setChan_drawn (s : State) (e c : Nat) (x : Chan) : (s.setChan e c x).drawn = s.drawn := (rfl)
@[simp] theorem State.setChan_emitted (s : State) (e c : Nat) (x : Chan) : (s.setChan e c x).emitted = s.emitted := (rfl)
@[simp] theorem State.setChan_hif (s : State) (e c : Nat) (x : Chan) : (s.setChan e c x).hif = s.hif := (rfl)
@[simp] theorem State.setChan_tgt (s : State) (e c : Nat) (x : Chan) : (s.setChan e c x).tgt = s.tgt := (rfl)
@[simp] theorem State.setChan_pts (s : State) (e c : Nat) (x : Chan) : (s.setChan e c x).pts = s.pts := (rfl)
@[simp] theorem State.setChan_ring (s : State) (e c : Nat) (x : Chan) : (s.setChan e c x).ring = s.ring := (rfl)
@[simp] theorem State.setChan_sw (s : State) (e c : Nat) (x : Chan) : (s.setChan e c x).sw = s.sw := (rfl)
@[simp] theorem State.setChan_flt (s : State) (e c : Nat) (x : Chan) : (s.setChan e c x).flt = s.flt := (rfl)
@[simp] theorem State.setChan_td (s : State) (e c : Nat) (x : Chan) : (s.setChan e c x).td = s.td := (rfl)
@[simp] theorem State.setChan_brg (s : State) (e c : Nat) (x : Chan) : (s.setChan e c x).brg = s.brg := (rfl)
@[simp] theorem State.setChan_cyc (s : State) (e c : Nat) (x : Chan) : (s.setChan e c x).cyc = s.cyc := (rfl)
@[simp] theorem State.setChan_fld (s : State) (e c : Nat) (x : Chan) : (s.setChan e c x).fld = s.fld := (rfl)
@[simp] theorem State.setChan_pctl (s : State) (e c : Nat) (x : Chan) : (s.setChan e c x).pctl = s.pctl := (rfl)
@[simp] theorem State.setChan_rfx (s : State) (e c : Nat) (x : Chan) : (s.setChan e c x).rfx = s.rfx := (rfl)
@[simp] theorem State.setChan_meas (s : State) (e c : Nat) (x : Chan) : (s.setChan e c x).meas = s.meas := (rfl)
@[simp] theorem State.setChan_pwr (s : State) (e c : Nat) (x : Chan) : (s.setChan e c x).pwr = s.pwr := (rfl)
@[simp] theorem State.setChan_twin (s : State) (e c : Nat) (x : Chan) : (s.setChan e c x).twin = s.twin := (rfl)
@[simp] theorem State.setChan_sec (s : State) (e c : Nat) (x : Chan) : (s.setChan e c x).sec = s.sec := (rfl)
@[simp] theorem State.setChan_boot (s : State) (e c : Nat) (x : Chan) : (s.setChan e c x).boot = s.boot := (rfl)
@[simp] theorem State.setChan_setup (s : State) (e c : Nat) (x : Chan) : (s.setChan e c x).setup = s.setup := (rfl)
@[simp] theorem State.setChan_rd (s : State) (e c : Nat) (x : Chan) (f : Fld) : (s.setChan e c x).rd f = s.rd f := (rfl)
@[simp] theorem State.setChan_flag (s : State) (e c : Nat) (x : Chan) (f : Fld) : (s.setChan e c x).flag f = s.flag f := (rfl)

@[simp] theorem State.setPin_pending (s : State) (p i : Nat) (x : Pin) : (s.setPin p i x).pending = s.pending := (rfl)
@[simp] theorem State.setPin_regs (s : State) (p i : Nat) (x : Pin) : (s.setPin p i x).regs = s.regs := (rfl)
@[simp] theorem State.setPin_now (s : State) (p i : Nat) (x : Pin) : (s.setPin p i x).now = s.now := (rfl)
@[simp] theorem State.setPin_drawn (s : State) (p i : Nat) (x : Pin) : (s.setPin p i x).drawn = s.drawn := (rfl)
@[simp] theorem State.setPin_emitted (s : State) (p i : Nat) (x : Pin) : (s.setPin p i x).emitted = s.emitted := (rfl)
@[simp] theorem State.setPin_hif (s : State) (p i : Nat) (x : Pin) : (s.setPin p i x).hif = s.hif := (rfl)
@[simp] theorem State.setPin_tgt (s : State) (p i : Nat) (x : Pin) : (s.setPin p i x).tgt = s.tgt := (rfl)
@[simp] theorem State.setPin_pts (s : State) (p i : Nat) (x : Pin) : (s.setPin p i x).pts = s.pts := (rfl)
@[simp] theorem State.setPin_ring (s : State) (p i : Nat) (x : Pin) : (s.setPin p i x).ring = s.ring := (rfl)
@[simp] theorem State.setPin_sw (s : State) (p i : Nat) (x : Pin) : (s.setPin p i x).sw = s.sw := (rfl)
@[simp] theorem State.setPin_flt (s : State) (p i : Nat) (x : Pin) : (s.setPin p i x).flt = s.flt := (rfl)
@[simp] theorem State.setPin_td (s : State) (p i : Nat) (x : Pin) : (s.setPin p i x).td = s.td := (rfl)
@[simp] theorem State.setPin_brg (s : State) (p i : Nat) (x : Pin) : (s.setPin p i x).brg = s.brg := (rfl)
@[simp] theorem State.setPin_cyc (s : State) (p i : Nat) (x : Pin) : (s.setPin p i x).cyc = s.cyc := (rfl)
@[simp] theorem State.setPin_pctl (s : State) (p i : Nat) (x : Pin) : (s.setPin p i x).pctl = s.pctl := (rfl)
@[simp] theorem State.setPin_rfx (s : State) (p i : Nat) (x : Pin) : (s.setPin p i x).rfx = s.rfx := (rfl)
@[simp] theorem State.setPin_meas (s : State) (p i : Nat) (x : Pin) : (s.setPin p i x).meas = s.meas := (rfl)
@[simp] theorem State.setPin_pwr (s : State) (p i : Nat) (x : Pin) : (s.setPin p i x).pwr = s.pwr := (rfl)
@[simp] theorem State.setPin_eng (s : State) (p i : Nat) (x : Pin) : (s.setPin p i x).eng = s.eng := (rfl)
@[simp] theorem State.setPin_twin (s : State) (p i : Nat) (x : Pin) : (s.setPin p i x).twin = s.twin := (rfl)
@[simp] theorem State.setPin_sec (s : State) (p i : Nat) (x : Pin) : (s.setPin p i x).sec = s.sec := (rfl)
@[simp] theorem State.setPin_boot (s : State) (p i : Nat) (x : Pin) : (s.setPin p i x).boot = s.boot := (rfl)
@[simp] theorem State.setPin_setup (s : State) (p i : Nat) (x : Pin) : (s.setPin p i x).setup = s.setup := (rfl)
@[simp] theorem State.setPin_rd (s : State) (p i : Nat) (x : Pin) (f : Fld) : (s.setPin p i x).rd f = s.rd f := (rfl)
@[simp] theorem State.setPin_flag (s : State) (p i : Nat) (x : Pin) (f : Fld) : (s.setPin p i x).flag f = s.flag f := (rfl)

@[simp] theorem State.setDomain_pending (s : State) (d : Nat) (x : Domain) : (s.setDomain d x).pending = s.pending := (rfl)
@[simp] theorem State.setDomain_regs (s : State) (d : Nat) (x : Domain) : (s.setDomain d x).regs = s.regs := (rfl)
@[simp] theorem State.setDomain_now (s : State) (d : Nat) (x : Domain) : (s.setDomain d x).now = s.now := (rfl)
@[simp] theorem State.setDomain_drawn (s : State) (d : Nat) (x : Domain) : (s.setDomain d x).drawn = s.drawn := (rfl)
@[simp] theorem State.setDomain_emitted (s : State) (d : Nat) (x : Domain) : (s.setDomain d x).emitted = s.emitted := (rfl)
@[simp] theorem State.setDomain_hif (s : State) (d : Nat) (x : Domain) : (s.setDomain d x).hif = s.hif := (rfl)
@[simp] theorem State.setDomain_tgt (s : State) (d : Nat) (x : Domain) : (s.setDomain d x).tgt = s.tgt := (rfl)
@[simp] theorem State.setDomain_pts (s : State) (d : Nat) (x : Domain) : (s.setDomain d x).pts = s.pts := (rfl)
@[simp] theorem State.setDomain_ring (s : State) (d : Nat) (x : Domain) : (s.setDomain d x).ring = s.ring := (rfl)
@[simp] theorem State.setDomain_sw (s : State) (d : Nat) (x : Domain) : (s.setDomain d x).sw = s.sw := (rfl)
@[simp] theorem State.setDomain_flt (s : State) (d : Nat) (x : Domain) : (s.setDomain d x).flt = s.flt := (rfl)
@[simp] theorem State.setDomain_brg (s : State) (d : Nat) (x : Domain) : (s.setDomain d x).brg = s.brg := (rfl)
@[simp] theorem State.setDomain_cyc (s : State) (d : Nat) (x : Domain) : (s.setDomain d x).cyc = s.cyc := (rfl)
@[simp] theorem State.setDomain_fld (s : State) (d : Nat) (x : Domain) : (s.setDomain d x).fld = s.fld := (rfl)
@[simp] theorem State.setDomain_pctl (s : State) (d : Nat) (x : Domain) : (s.setDomain d x).pctl = s.pctl := (rfl)
@[simp] theorem State.setDomain_rfx (s : State) (d : Nat) (x : Domain) : (s.setDomain d x).rfx = s.rfx := (rfl)
@[simp] theorem State.setDomain_meas (s : State) (d : Nat) (x : Domain) : (s.setDomain d x).meas = s.meas := (rfl)
@[simp] theorem State.setDomain_pwr (s : State) (d : Nat) (x : Domain) : (s.setDomain d x).pwr = s.pwr := (rfl)
@[simp] theorem State.setDomain_eng (s : State) (d : Nat) (x : Domain) : (s.setDomain d x).eng = s.eng := (rfl)
@[simp] theorem State.setDomain_twin (s : State) (d : Nat) (x : Domain) : (s.setDomain d x).twin = s.twin := (rfl)
@[simp] theorem State.setDomain_sec (s : State) (d : Nat) (x : Domain) : (s.setDomain d x).sec = s.sec := (rfl)
@[simp] theorem State.setDomain_boot (s : State) (d : Nat) (x : Domain) : (s.setDomain d x).boot = s.boot := (rfl)
@[simp] theorem State.setDomain_setup (s : State) (d : Nat) (x : Domain) : (s.setDomain d x).setup = s.setup := (rfl)
@[simp] theorem State.setDomain_rd (s : State) (d : Nat) (x : Domain) (f : Fld) : (s.setDomain d x).rd f = s.rd f := (rfl)
@[simp] theorem State.setDomain_flag (s : State) (d : Nat) (x : Domain) (f : Fld) : (s.setDomain d x).flag f = s.flag f := (rfl)
@[simp] theorem State.setDomain_domain (s : State) (d : Nat) (x : Domain) : (s.setDomain d x).domain d = x := NMap.get_set_same _ _ _ _
theorem State.setDomain_domain_ne (s : State) (d : Nat) (x : Domain) {j : Nat} (h : j ≠ d) : (s.setDomain d x).domain j = s.domain j := NMap.get_set_ne _ _ _ h

@[simp] theorem State.setMeasCh_pending (s : State) (c : Nat) (x : MeasCh) : (s.setMeasCh c x).pending = s.pending := (rfl)
@[simp] theorem State.setMeasCh_regs (s : State) (c : Nat) (x : MeasCh) : (s.setMeasCh c x).regs = s.regs := (rfl)
@[simp] theorem State.setMeasCh_now (s : State) (c : Nat) (x : MeasCh) : (s.setMeasCh c x).now = s.now := (rfl)
@[simp] theorem State.setMeasCh_drawn (s : State) (c : Nat) (x : MeasCh) : (s.setMeasCh c x).drawn = s.drawn := (rfl)
@[simp] theorem State.setMeasCh_emitted (s : State) (c : Nat) (x : MeasCh) : (s.setMeasCh c x).emitted = s.emitted := (rfl)
@[simp] theorem State.setMeasCh_hif (s : State) (c : Nat) (x : MeasCh) : (s.setMeasCh c x).hif = s.hif := (rfl)
@[simp] theorem State.setMeasCh_tgt (s : State) (c : Nat) (x : MeasCh) : (s.setMeasCh c x).tgt = s.tgt := (rfl)
@[simp] theorem State.setMeasCh_pts (s : State) (c : Nat) (x : MeasCh) : (s.setMeasCh c x).pts = s.pts := (rfl)
@[simp] theorem State.setMeasCh_ring (s : State) (c : Nat) (x : MeasCh) : (s.setMeasCh c x).ring = s.ring := (rfl)
@[simp] theorem State.setMeasCh_sw (s : State) (c : Nat) (x : MeasCh) : (s.setMeasCh c x).sw = s.sw := (rfl)
@[simp] theorem State.setMeasCh_flt (s : State) (c : Nat) (x : MeasCh) : (s.setMeasCh c x).flt = s.flt := (rfl)
@[simp] theorem State.setMeasCh_td (s : State) (c : Nat) (x : MeasCh) : (s.setMeasCh c x).td = s.td := (rfl)
@[simp] theorem State.setMeasCh_brg (s : State) (c : Nat) (x : MeasCh) : (s.setMeasCh c x).brg = s.brg := (rfl)
@[simp] theorem State.setMeasCh_cyc (s : State) (c : Nat) (x : MeasCh) : (s.setMeasCh c x).cyc = s.cyc := (rfl)
@[simp] theorem State.setMeasCh_fld (s : State) (c : Nat) (x : MeasCh) : (s.setMeasCh c x).fld = s.fld := (rfl)
@[simp] theorem State.setMeasCh_pctl (s : State) (c : Nat) (x : MeasCh) : (s.setMeasCh c x).pctl = s.pctl := (rfl)
@[simp] theorem State.setMeasCh_rfx (s : State) (c : Nat) (x : MeasCh) : (s.setMeasCh c x).rfx = s.rfx := (rfl)
@[simp] theorem State.setMeasCh_pwr (s : State) (c : Nat) (x : MeasCh) : (s.setMeasCh c x).pwr = s.pwr := (rfl)
@[simp] theorem State.setMeasCh_eng (s : State) (c : Nat) (x : MeasCh) : (s.setMeasCh c x).eng = s.eng := (rfl)
@[simp] theorem State.setMeasCh_twin (s : State) (c : Nat) (x : MeasCh) : (s.setMeasCh c x).twin = s.twin := (rfl)
@[simp] theorem State.setMeasCh_sec (s : State) (c : Nat) (x : MeasCh) : (s.setMeasCh c x).sec = s.sec := (rfl)
@[simp] theorem State.setMeasCh_boot (s : State) (c : Nat) (x : MeasCh) : (s.setMeasCh c x).boot = s.boot := (rfl)
@[simp] theorem State.setMeasCh_setup (s : State) (c : Nat) (x : MeasCh) : (s.setMeasCh c x).setup = s.setup := (rfl)
@[simp] theorem State.setMeasCh_rd (s : State) (c : Nat) (x : MeasCh) (f : Fld) : (s.setMeasCh c x).rd f = s.rd f := (rfl)
@[simp] theorem State.setMeasCh_flag (s : State) (c : Nat) (x : MeasCh) (f : Fld) : (s.setMeasCh c x).flag f = s.flag f := (rfl)
@[simp] theorem State.setMeasCh_measCh (s : State) (c : Nat) (x : MeasCh) : (s.setMeasCh c x).measCh c = x := NMap.get_set_same _ _ _ _
theorem State.setMeasCh_measCh_ne (s : State) (c : Nat) (x : MeasCh) {j : Nat} (h : j ≠ c) : (s.setMeasCh c x).measCh j = s.measCh j := NMap.get_set_ne _ _ _ h

@[simp] theorem State.setPwr_pending (s : State) (x : PwrSt) : (s.setPwr x).pending = s.pending := (rfl)
@[simp] theorem State.setPwr_regs (s : State) (x : PwrSt) : (s.setPwr x).regs = s.regs := (rfl)
@[simp] theorem State.setPwr_now (s : State) (x : PwrSt) : (s.setPwr x).now = s.now := (rfl)
@[simp] theorem State.setPwr_drawn (s : State) (x : PwrSt) : (s.setPwr x).drawn = s.drawn := (rfl)
@[simp] theorem State.setPwr_emitted (s : State) (x : PwrSt) : (s.setPwr x).emitted = s.emitted := (rfl)
@[simp] theorem State.setPwr_hif (s : State) (x : PwrSt) : (s.setPwr x).hif = s.hif := (rfl)
@[simp] theorem State.setPwr_tgt (s : State) (x : PwrSt) : (s.setPwr x).tgt = s.tgt := (rfl)
@[simp] theorem State.setPwr_pts (s : State) (x : PwrSt) : (s.setPwr x).pts = s.pts := (rfl)
@[simp] theorem State.setPwr_ring (s : State) (x : PwrSt) : (s.setPwr x).ring = s.ring := (rfl)
@[simp] theorem State.setPwr_sw (s : State) (x : PwrSt) : (s.setPwr x).sw = s.sw := (rfl)
@[simp] theorem State.setPwr_flt (s : State) (x : PwrSt) : (s.setPwr x).flt = s.flt := (rfl)
@[simp] theorem State.setPwr_td (s : State) (x : PwrSt) : (s.setPwr x).td = s.td := (rfl)
@[simp] theorem State.setPwr_brg (s : State) (x : PwrSt) : (s.setPwr x).brg = s.brg := (rfl)
@[simp] theorem State.setPwr_cyc (s : State) (x : PwrSt) : (s.setPwr x).cyc = s.cyc := (rfl)
@[simp] theorem State.setPwr_fld (s : State) (x : PwrSt) : (s.setPwr x).fld = s.fld := (rfl)
@[simp] theorem State.setPwr_pctl (s : State) (x : PwrSt) : (s.setPwr x).pctl = s.pctl := (rfl)
@[simp] theorem State.setPwr_rfx (s : State) (x : PwrSt) : (s.setPwr x).rfx = s.rfx := (rfl)
@[simp] theorem State.setPwr_meas (s : State) (x : PwrSt) : (s.setPwr x).meas = s.meas := (rfl)
@[simp] theorem State.setPwr_eng (s : State) (x : PwrSt) : (s.setPwr x).eng = s.eng := (rfl)
@[simp] theorem State.setPwr_twin (s : State) (x : PwrSt) : (s.setPwr x).twin = s.twin := (rfl)
@[simp] theorem State.setPwr_sec (s : State) (x : PwrSt) : (s.setPwr x).sec = s.sec := (rfl)
@[simp] theorem State.setPwr_boot (s : State) (x : PwrSt) : (s.setPwr x).boot = s.boot := (rfl)
@[simp] theorem State.setPwr_setup (s : State) (x : PwrSt) : (s.setPwr x).setup = s.setup := (rfl)
@[simp] theorem State.setPwr_rd (s : State) (x : PwrSt) (f : Fld) : (s.setPwr x).rd f = s.rd f := (rfl)
@[simp] theorem State.setPwr_flag (s : State) (x : PwrSt) (f : Fld) : (s.setPwr x).flag f = s.flag f := (rfl)

@[simp] theorem State.setSec_pending (s : State) (i : Nat) (x : Lane) : (s.setSec i x).pending = s.pending := (rfl)
@[simp] theorem State.setSec_regs (s : State) (i : Nat) (x : Lane) : (s.setSec i x).regs = s.regs := (rfl)
@[simp] theorem State.setSec_now (s : State) (i : Nat) (x : Lane) : (s.setSec i x).now = s.now := (rfl)
@[simp] theorem State.setSec_drawn (s : State) (i : Nat) (x : Lane) : (s.setSec i x).drawn = s.drawn := (rfl)
@[simp] theorem State.setSec_emitted (s : State) (i : Nat) (x : Lane) : (s.setSec i x).emitted = s.emitted := (rfl)
@[simp] theorem State.setSec_hif (s : State) (i : Nat) (x : Lane) : (s.setSec i x).hif = s.hif := (rfl)
@[simp] theorem State.setSec_tgt (s : State) (i : Nat) (x : Lane) : (s.setSec i x).tgt = s.tgt := (rfl)
@[simp] theorem State.setSec_pts (s : State) (i : Nat) (x : Lane) : (s.setSec i x).pts = s.pts := (rfl)
@[simp] theorem State.setSec_ring (s : State) (i : Nat) (x : Lane) : (s.setSec i x).ring = s.ring := (rfl)
@[simp] theorem State.setSec_sw (s : State) (i : Nat) (x : Lane) : (s.setSec i x).sw = s.sw := (rfl)
@[simp] theorem State.setSec_flt (s : State) (i : Nat) (x : Lane) : (s.setSec i x).flt = s.flt := (rfl)
@[simp] theorem State.setSec_td (s : State) (i : Nat) (x : Lane) : (s.setSec i x).td = s.td := (rfl)
@[simp] theorem State.setSec_brg (s : State) (i : Nat) (x : Lane) : (s.setSec i x).brg = s.brg := (rfl)
@[simp] theorem State.setSec_cyc (s : State) (i : Nat) (x : Lane) : (s.setSec i x).cyc = s.cyc := (rfl)
@[simp] theorem State.setSec_fld (s : State) (i : Nat) (x : Lane) : (s.setSec i x).fld = s.fld := (rfl)
@[simp] theorem State.setSec_pctl (s : State) (i : Nat) (x : Lane) : (s.setSec i x).pctl = s.pctl := (rfl)
@[simp] theorem State.setSec_rfx (s : State) (i : Nat) (x : Lane) : (s.setSec i x).rfx = s.rfx := (rfl)
@[simp] theorem State.setSec_meas (s : State) (i : Nat) (x : Lane) : (s.setSec i x).meas = s.meas := (rfl)
@[simp] theorem State.setSec_pwr (s : State) (i : Nat) (x : Lane) : (s.setSec i x).pwr = s.pwr := (rfl)
@[simp] theorem State.setSec_eng (s : State) (i : Nat) (x : Lane) : (s.setSec i x).eng = s.eng := (rfl)
@[simp] theorem State.setSec_twin (s : State) (i : Nat) (x : Lane) : (s.setSec i x).twin = s.twin := (rfl)
@[simp] theorem State.setSec_boot (s : State) (i : Nat) (x : Lane) : (s.setSec i x).boot = s.boot := (rfl)
@[simp] theorem State.setSec_setup (s : State) (i : Nat) (x : Lane) : (s.setSec i x).setup = s.setup := (rfl)
@[simp] theorem State.setSec_rd (s : State) (i : Nat) (x : Lane) (f : Fld) : (s.setSec i x).rd f = s.rd f := (rfl)
@[simp] theorem State.setSec_flag (s : State) (i : Nat) (x : Lane) (f : Fld) : (s.setSec i x).flag f = s.flag f := (rfl)
@[simp] theorem State.setSec_sec_ (s : State) (i : Nat) (x : Lane) : (s.setSec i x).sec_ i = x := NMap.get_set_same _ _ _ _
theorem State.setSec_sec__ne (s : State) (i : Nat) (x : Lane) {j : Nat} (h : j ≠ i) : (s.setSec i x).sec_ j = s.sec_ j := NMap.get_set_ne _ _ _ h

@[simp] theorem State.setBusLock_pending (s : State) (p : Nat) (x : BusLock) : (s.setBusLock p x).pending = s.pending := (rfl)
@[simp] theorem State.setBusLock_regs (s : State) (p : Nat) (x : BusLock) : (s.setBusLock p x).regs = s.regs := (rfl)
@[simp] theorem State.setBusLock_now (s : State) (p : Nat) (x : BusLock) : (s.setBusLock p x).now = s.now := (rfl)
@[simp] theorem State.setBusLock_drawn (s : State) (p : Nat) (x : BusLock) : (s.setBusLock p x).drawn = s.drawn := (rfl)
@[simp] theorem State.setBusLock_emitted (s : State) (p : Nat) (x : BusLock) : (s.setBusLock p x).emitted = s.emitted := (rfl)
@[simp] theorem State.setBusLock_hif (s : State) (p : Nat) (x : BusLock) : (s.setBusLock p x).hif = s.hif := (rfl)
@[simp] theorem State.setBusLock_tgt (s : State) (p : Nat) (x : BusLock) : (s.setBusLock p x).tgt = s.tgt := (rfl)
@[simp] theorem State.setBusLock_pts (s : State) (p : Nat) (x : BusLock) : (s.setBusLock p x).pts = s.pts := (rfl)
@[simp] theorem State.setBusLock_ring (s : State) (p : Nat) (x : BusLock) : (s.setBusLock p x).ring = s.ring := (rfl)
@[simp] theorem State.setBusLock_sw (s : State) (p : Nat) (x : BusLock) : (s.setBusLock p x).sw = s.sw := (rfl)
@[simp] theorem State.setBusLock_flt (s : State) (p : Nat) (x : BusLock) : (s.setBusLock p x).flt = s.flt := (rfl)
@[simp] theorem State.setBusLock_td (s : State) (p : Nat) (x : BusLock) : (s.setBusLock p x).td = s.td := (rfl)
@[simp] theorem State.setBusLock_cyc (s : State) (p : Nat) (x : BusLock) : (s.setBusLock p x).cyc = s.cyc := (rfl)
@[simp] theorem State.setBusLock_fld (s : State) (p : Nat) (x : BusLock) : (s.setBusLock p x).fld = s.fld := (rfl)
@[simp] theorem State.setBusLock_pctl (s : State) (p : Nat) (x : BusLock) : (s.setBusLock p x).pctl = s.pctl := (rfl)
@[simp] theorem State.setBusLock_rfx (s : State) (p : Nat) (x : BusLock) : (s.setBusLock p x).rfx = s.rfx := (rfl)
@[simp] theorem State.setBusLock_meas (s : State) (p : Nat) (x : BusLock) : (s.setBusLock p x).meas = s.meas := (rfl)
@[simp] theorem State.setBusLock_pwr (s : State) (p : Nat) (x : BusLock) : (s.setBusLock p x).pwr = s.pwr := (rfl)
@[simp] theorem State.setBusLock_eng (s : State) (p : Nat) (x : BusLock) : (s.setBusLock p x).eng = s.eng := (rfl)
@[simp] theorem State.setBusLock_twin (s : State) (p : Nat) (x : BusLock) : (s.setBusLock p x).twin = s.twin := (rfl)
@[simp] theorem State.setBusLock_sec (s : State) (p : Nat) (x : BusLock) : (s.setBusLock p x).sec = s.sec := (rfl)
@[simp] theorem State.setBusLock_boot (s : State) (p : Nat) (x : BusLock) : (s.setBusLock p x).boot = s.boot := (rfl)
@[simp] theorem State.setBusLock_setup (s : State) (p : Nat) (x : BusLock) : (s.setBusLock p x).setup = s.setup := (rfl)
@[simp] theorem State.setBusLock_rd (s : State) (p : Nat) (x : BusLock) (f : Fld) : (s.setBusLock p x).rd f = s.rd f := (rfl)
@[simp] theorem State.setBusLock_flag (s : State) (p : Nat) (x : BusLock) (f : Fld) : (s.setBusLock p x).flag f = s.flag f := (rfl)
@[simp] theorem State.setBusLock_busLock (s : State) (p : Nat) (x : BusLock) : (s.setBusLock p x).busLock p = x := NMap.get_set_same _ _ _ _
theorem State.setBusLock_busLock_ne (s : State) (p : Nat) (x : BusLock) {j : Nat} (h : j ≠ p) : (s.setBusLock p x).busLock j = s.busLock j := NMap.get_set_ne _ _ _ h

@[simp] theorem State.setTxq_pending (s : State) (c : Nat) (q : List TxItem) : (s.setTxq c q).pending = s.pending := (rfl)
@[simp] theorem State.setTxq_regs (s : State) (c : Nat) (q : List TxItem) : (s.setTxq c q).regs = s.regs := (rfl)
@[simp] theorem State.setTxq_now (s : State) (c : Nat) (q : List TxItem) : (s.setTxq c q).now = s.now := (rfl)
@[simp] theorem State.setTxq_drawn (s : State) (c : Nat) (q : List TxItem) : (s.setTxq c q).drawn = s.drawn := (rfl)
@[simp] theorem State.setTxq_emitted (s : State) (c : Nat) (q : List TxItem) : (s.setTxq c q).emitted = s.emitted := (rfl)
@[simp] theorem State.setTxq_hif (s : State) (c : Nat) (q : List TxItem) : (s.setTxq c q).hif = s.hif := (rfl)
@[simp] theorem State.setTxq_tgt (s : State) (c : Nat) (q : List TxItem) : (s.setTxq c q).tgt = s.tgt := (rfl)
@[simp] theorem State.setTxq_pts (s : State) (c : Nat) (q : List TxItem) : (s.setTxq c q).pts = s.pts := (rfl)
@[simp] theorem State.setTxq_ring (s : State) (c : Nat) (q : List TxItem) : (s.setTxq c q).ring = s.ring := (rfl)
@[simp] theorem State.setTxq_sw (s : State) (c : Nat) (q : List TxItem) : (s.setTxq c q).sw = s.sw := (rfl)
@[simp] theorem State.setTxq_flt (s : State) (c : Nat) (q : List TxItem) : (s.setTxq c q).flt = s.flt := (rfl)
@[simp] theorem State.setTxq_td (s : State) (c : Nat) (q : List TxItem) : (s.setTxq c q).td = s.td := (rfl)
@[simp] theorem State.setTxq_brg (s : State) (c : Nat) (q : List TxItem) : (s.setTxq c q).brg = s.brg := (rfl)
@[simp] theorem State.setTxq_cyc (s : State) (c : Nat) (q : List TxItem) : (s.setTxq c q).cyc = s.cyc := (rfl)
@[simp] theorem State.setTxq_fld (s : State) (c : Nat) (q : List TxItem) : (s.setTxq c q).fld = s.fld := (rfl)
@[simp] theorem State.setTxq_rfx (s : State) (c : Nat) (q : List TxItem) : (s.setTxq c q).rfx = s.rfx := (rfl)
@[simp] theorem State.setTxq_meas (s : State) (c : Nat) (q : List TxItem) : (s.setTxq c q).meas = s.meas := (rfl)
@[simp] theorem State.setTxq_pwr (s : State) (c : Nat) (q : List TxItem) : (s.setTxq c q).pwr = s.pwr := (rfl)
@[simp] theorem State.setTxq_eng (s : State) (c : Nat) (q : List TxItem) : (s.setTxq c q).eng = s.eng := (rfl)
@[simp] theorem State.setTxq_twin (s : State) (c : Nat) (q : List TxItem) : (s.setTxq c q).twin = s.twin := (rfl)
@[simp] theorem State.setTxq_sec (s : State) (c : Nat) (q : List TxItem) : (s.setTxq c q).sec = s.sec := (rfl)
@[simp] theorem State.setTxq_boot (s : State) (c : Nat) (q : List TxItem) : (s.setTxq c q).boot = s.boot := (rfl)
@[simp] theorem State.setTxq_setup (s : State) (c : Nat) (q : List TxItem) : (s.setTxq c q).setup = s.setup := (rfl)
@[simp] theorem State.setTxq_rd (s : State) (c : Nat) (q : List TxItem) (f : Fld) : (s.setTxq c q).rd f = s.rd f := (rfl)
@[simp] theorem State.setTxq_flag (s : State) (c : Nat) (q : List TxItem) (f : Fld) : (s.setTxq c q).flag f = s.flag f := (rfl)
@[simp] theorem State.setTxq_txq (s : State) (c : Nat) (q : List TxItem) : (s.setTxq c q).txq c = q := NMap.get_set_same _ _ _ _
theorem State.setTxq_txq_ne (s : State) (c : Nat) (q : List TxItem) {j : Nat} (h : j ≠ c) : (s.setTxq c q).txq j = s.txq j := NMap.get_set_ne _ _ _ h

@[simp] theorem State.setRxq_pending (s : State) (p : Nat) (q : List RawItem) : (s.setRxq p q).pending = s.pending := (rfl)
@[simp] theorem State.setRxq_regs (s : State) (p : Nat) (q : List RawItem) : (s.setRxq p q).regs = s.regs := (rfl)
@[simp] theorem State.setRxq_now (s : State) (p : Nat) (q : List RawItem) : (s.setRxq p q).now = s.now := (rfl)
@[simp] theorem State.setRxq_drawn (s : State) (p : Nat) (q : List RawItem) : (s.setRxq p q).drawn = s.drawn := (rfl)
@[simp] theorem State.setRxq_emitted (s : State) (p : Nat) (q : List RawItem) : (s.setRxq p q).emitted = s.emitted := (rfl)
@[simp] theorem State.setRxq_hif (s : State) (p : Nat) (q : List RawItem) : (s.setRxq p q).hif = s.hif := (rfl)
@[simp] theorem State.setRxq_tgt (s : State) (p : Nat) (q : List RawItem) : (s.setRxq p q).tgt = s.tgt := (rfl)
@[simp] theorem State.setRxq_pts (s : State) (p : Nat) (q : List RawItem) : (s.setRxq p q).pts = s.pts := (rfl)
@[simp] theorem State.setRxq_ring (s : State) (p : Nat) (q : List RawItem) : (s.setRxq p q).ring = s.ring := (rfl)
@[simp] theorem State.setRxq_sw (s : State) (p : Nat) (q : List RawItem) : (s.setRxq p q).sw = s.sw := (rfl)
@[simp] theorem State.setRxq_flt (s : State) (p : Nat) (q : List RawItem) : (s.setRxq p q).flt = s.flt := (rfl)
@[simp] theorem State.setRxq_td (s : State) (p : Nat) (q : List RawItem) : (s.setRxq p q).td = s.td := (rfl)
@[simp] theorem State.setRxq_brg (s : State) (p : Nat) (q : List RawItem) : (s.setRxq p q).brg = s.brg := (rfl)
@[simp] theorem State.setRxq_cyc (s : State) (p : Nat) (q : List RawItem) : (s.setRxq p q).cyc = s.cyc := (rfl)
@[simp] theorem State.setRxq_fld (s : State) (p : Nat) (q : List RawItem) : (s.setRxq p q).fld = s.fld := (rfl)
@[simp] theorem State.setRxq_rfx (s : State) (p : Nat) (q : List RawItem) : (s.setRxq p q).rfx = s.rfx := (rfl)
@[simp] theorem State.setRxq_meas (s : State) (p : Nat) (q : List RawItem) : (s.setRxq p q).meas = s.meas := (rfl)
@[simp] theorem State.setRxq_pwr (s : State) (p : Nat) (q : List RawItem) : (s.setRxq p q).pwr = s.pwr := (rfl)
@[simp] theorem State.setRxq_eng (s : State) (p : Nat) (q : List RawItem) : (s.setRxq p q).eng = s.eng := (rfl)
@[simp] theorem State.setRxq_twin (s : State) (p : Nat) (q : List RawItem) : (s.setRxq p q).twin = s.twin := (rfl)
@[simp] theorem State.setRxq_sec (s : State) (p : Nat) (q : List RawItem) : (s.setRxq p q).sec = s.sec := (rfl)
@[simp] theorem State.setRxq_boot (s : State) (p : Nat) (q : List RawItem) : (s.setRxq p q).boot = s.boot := (rfl)
@[simp] theorem State.setRxq_setup (s : State) (p : Nat) (q : List RawItem) : (s.setRxq p q).setup = s.setup := (rfl)
@[simp] theorem State.setRxq_rd (s : State) (p : Nat) (q : List RawItem) (f : Fld) : (s.setRxq p q).rd f = s.rd f := (rfl)
@[simp] theorem State.setRxq_flag (s : State) (p : Nat) (q : List RawItem) (f : Fld) : (s.setRxq p q).flag f = s.flag f := (rfl)
@[simp] theorem State.setRxq_rxq (s : State) (p : Nat) (q : List RawItem) : (s.setRxq p q).rxq p = q := NMap.get_set_same _ _ _ _
theorem State.setRxq_rxq_ne (s : State) (p : Nat) (q : List RawItem) {j : Nat} (h : j ≠ p) : (s.setRxq p q).rxq j = s.rxq j := NMap.get_set_ne _ _ _ h

@[simp] theorem State.setPin_pin (s : State) (p i : Nat) (x : Pin) : (s.setPin p i x).pin p i = x := NMap.get_set_same _ _ _ _

@[simp] theorem State.setChan_chan (s : State) (e c : Nat) (x : Chan) : (s.setChan e c x).chan e c = x := NMap.get_set_same _ _ _ _

@[simp] theorem State.setPwr_pwr (s : State) (x : PwrSt) : (s.setPwr x).pwr = x := (rfl)

@[simp] theorem State.emit_emitted (s : State) (e : Emit) : (s.emit e).emitted = s.emitted ++ [e] := (rfl)

/-- A counter field steps by one and stays at its largest value. -/
theorem State.rd_inc_same (s : State) (f : Fld) (k : Nat) (h : f.lo + f.width ≤ 32) : (s.inc f k).rd f = satAdd f.width (s.rd f) k := by
  rw [State.inc, State.rd_wr_same _ _ _ h, Nat.mod_eq_of_lt]
  exact Nat.lt_of_le_of_lt (Nat.min_le_right _ _) (Nat.sub_lt (Nat.two_pow_pos _) Nat.one_pos)

theorem State.rd_inc_ne (s : State) {f g : Fld} (k : Nat) (h : f.lo + f.width ≤ 32)
    (e : f.off ≠ g.off ∨ g.lo + g.width ≤ f.lo ∨ f.lo + f.width ≤ g.lo) : (s.inc f k).rd g = s.rd g := State.rd_wr_ne s _ h e

end Sys2Proof.Machine
end

