-- ==== Sys2Proof/Laws/Parts.lean ====
section
/-!
SUPPORT. The operations that many commands share touch registers, points, pins, the collector's record and field ports; whatever else a state
holds, they leave. `Quiet g` says that `g` sees none of those, and each lemma says that one operation leaves such a `g`.
-/

set_option Elab.async false
set_option linter.unusedSimpArgs false
set_option linter.unusedTactic false

namespace Sys2Proof.Machine

/-- `g` sees no register, point, pin, port or collector state. -/
structure Quiet {β : Type} (g : State → β) : Prop where
  word : ∀ (s : State) off v, g (s.setWord off v) = g s
  point : ∀ (s : State) n x, g (s.setPoint n x) = g s
  flt : ∀ (s : State) (x : Flt), g { s with flt := x } = g s
  fld : ∀ (s : State) (x : FieldSt), g { s with fld := x } = g s

theorem quiet_pwr : Quiet State.pwr := ⟨fun _ _ _ => rfl, fun _ _ _ => rfl, fun _ _ => rfl, fun _ _ => rfl⟩
theorem quiet_boot : Quiet State.boot := ⟨fun _ _ _ => rfl, fun _ _ _ => rfl, fun _ _ => rfl, fun _ _ => rfl⟩
theorem quiet_sec : Quiet State.sec := ⟨fun _ _ _ => rfl, fun _ _ _ => rfl, fun _ _ => rfl, fun _ _ => rfl⟩
theorem quiet_hif : Quiet State.hif := ⟨fun _ _ _ => rfl, fun _ _ _ => rfl, fun _ _ => rfl, fun _ _ => rfl⟩
theorem quiet_tgt : Quiet State.tgt := ⟨fun _ _ _ => rfl, fun _ _ _ => rfl, fun _ _ => rfl, fun _ _ => rfl⟩
theorem quiet_ring : Quiet State.ring := ⟨fun _ _ _ => rfl, fun _ _ _ => rfl, fun _ _ => rfl, fun _ _ => rfl⟩
theorem quiet_td : Quiet State.td := ⟨fun _ _ _ => rfl, fun _ _ _ => rfl, fun _ _ => rfl, fun _ _ => rfl⟩
theorem quiet_brg : Quiet State.brg := ⟨fun _ _ _ => rfl, fun _ _ _ => rfl, fun _ _ => rfl, fun _ _ => rfl⟩
theorem quiet_pctl : Quiet State.pctl := ⟨fun _ _ _ => rfl, fun _ _ _ => rfl, fun _ _ => rfl, fun _ _ => rfl⟩
theorem quiet_meas : Quiet State.meas := ⟨fun _ _ _ => rfl, fun _ _ _ => rfl, fun _ _ => rfl, fun _ _ => rfl⟩
theorem quiet_eng : Quiet State.eng := ⟨fun _ _ _ => rfl, fun _ _ _ => rfl, fun _ _ => rfl, fun _ _ => rfl⟩
theorem quiet_twin : Quiet State.twin := ⟨fun _ _ _ => rfl, fun _ _ _ => rfl, fun _ _ => rfl, fun _ _ => rfl⟩
theorem quiet_emitted : Quiet State.emitted := ⟨fun _ _ _ => rfl, fun _ _ _ => rfl, fun _ _ => rfl, fun _ _ => rfl⟩
theorem quiet_pending : Quiet State.pending := ⟨fun _ _ _ => rfl, fun _ _ _ => rfl, fun _ _ => rfl, fun _ _ => rfl⟩

namespace Quiet

variable {β : Type} {g : State → β} (q : Quiet g)
include q

omit q in
theorem foldl {α : Type} (f : State → α → State) (h : ∀ s x, g (f s x) = g s) (l : List α) (s : State) : g (l.foldl f s) = g s := by
  induction l generalizing s with
  | nil => rfl
  | cons a l ih => rw [List.foldl_cons, ih, h]

theorem wr (s : State) (f : Fld) (v : Nat) : g (s.wr f v) = g s := q.word s _ _
theorem inc (s : State) (f : Fld) (k : Nat) : g (s.inc f k) = g s := q.word s _ _
theorem wrBit (s : State) (f : Fld) (i : Nat) (b : Bool) : g (s.wrBit f i b) = g s := q.word s _ _
theorem setPin (s : State) (p i : Nat) (x : Pin) : g (s.setPin p i x) = g s := q.fld s _
theorem pinOff (s : State) (p i : Nat) : g (s.pinOff p i) = g s := q.fld s _
theorem logFault (s : State) (a b c d e : Nat) : g (s.logFault a b c d e) = g s := by
  unfold State.logFault; dsimp only; split
  · rw [q.inc, q.flt]
  · exact q.flt s _
theorem logAudit (s : State) (a b c d e f : Nat) : g (s.logAudit a b c d e f) = g s := by
  unfold State.logAudit State.logAuditAt; dsimp only; split
  · rw [q.inc, q.flt]
  · exact q.flt s _
theorem persists (s : State) (b : Nat) (c : FClass) (on : Bool) (d : Nat) : g (s.persists b c on d) = g s := q.flt s _

theorem setWords (s : State) (off n v : Nat) : g (s.setWords off n v) = g s := by
  induction n generalizing s off v with
  | zero => rfl
  | succ n ih => rw [State.setWords, ih, q.word]

theorem refreshPoint (s : State) (n : Nat) : g (s.refreshPoint n) = g s := by
  unfold State.refreshPoint; dsimp only; (repeat' split) <;> simp only [q.point]

theorem refreshPort (s : State) (p : Nat) : g (s.refreshPort p) = g s := Quiet.foldl _ q.refreshPoint _ s

theorem suspendPin (s : State) (p i : Nat) : g (s.suspendPin p i) = g s := q.setPin s _ _ _

theorem unlatch (s : State) (p x : Nat) : g (s.unlatch p x) = g s := by
  unfold State.unlatch; split
  · rw [q.refreshPort, q.wrBit, q.setPin]
  · rfl

theorem setFp (s : State) (p : Nat) (on : Bool) : g (s.setFp p on) = g s := by rw [State.setFp, q.refreshPort, q.wr]

theorem fieldPowerLoss (s : State) : g s.fieldPowerLoss = g s := by
  unfold State.fieldPowerLoss; dsimp only
  rw [Quiet.foldl (g := g), q.fld]
  intro s p
  rw [q.refreshPort, q.wr, Quiet.foldl (g := g)]
  intro s x; split
  · exact q.suspendPin s p x
  · rfl

theorem showVault (s : State) : g s.showVault = g s := by
  unfold State.showVault; dsimp only
  simp only [q.wr, q.setWords]

theorem showPower (s : State) : g s.showPower = g s := by
  unfold State.showPower; dsimp only
  rw [q.wr]
  have h : ∀ (c : Prop) [Decidable c] (t : State), g (if c then t.fieldPowerLoss else t) = g t := fun c _ t => by
    split
    · exact q.fieldPowerLoss t
    · rfl
  rw [h, q.persists, q.persists, q.wr, q.wr, q.wr, q.wr, Quiet.foldl (g := g)]
  intro s n; rw [q.wr, q.wr]

theorem firstOccurrence (s : State) (b : Nat) (c : FClass) (d : Nat) : g (s.firstOccurrence b c d) = g s := by
  unfold State.firstOccurrence; dsimp only
  simp only [q.wr, q.logFault]

theorem repeatOccurrence (s : State) (b : Nat) (c : FClass) : g (s.repeatOccurrence b c) = g s := by
  unfold State.repeatOccurrence; dsimp only
  (repeat' split) <;> simp only [q.wr, q.logFault]

/-- A fault of class C changes nothing but the collector's record. -/
theorem raiseC (s : State) (b d : Nat) : g (s.raise b .C d) = g s := by
  unfold State.raise; dsimp only
  (repeat' split) <;> simp_all [q.firstOccurrence, q.repeatOccurrence]

end Quiet

/-! ### Each part -/

@[simp] theorem State.showPower_pwr (s : State) : (s.showPower).pwr = s.pwr := quiet_pwr.showPower s
@[simp] theorem State.showVault_pwr (s : State) : (s.showVault).pwr = s.pwr := quiet_pwr.showVault s
@[simp] theorem State.fieldPowerLoss_pwr (s : State) : (s.fieldPowerLoss).pwr = s.pwr := quiet_pwr.fieldPowerLoss s
@[simp] theorem State.setWords_pwr (s : State) (off n v : Nat) : (s.setWords off n v).pwr = s.pwr := quiet_pwr.setWords s off n v
@[simp] theorem State.refreshPort_pwr (s : State) (p : Nat) : (s.refreshPort p).pwr = s.pwr := quiet_pwr.refreshPort s p
@[simp] theorem State.unlatch_pwr (s : State) (p x : Nat) : (s.unlatch p x).pwr = s.pwr := quiet_pwr.unlatch s p x
@[simp] theorem State.setFp_pwr (s : State) (p : Nat) (on : Bool) : (s.setFp p on).pwr = s.pwr := quiet_pwr.setFp s p on
@[simp] theorem State.pinOff_pwr (s : State) (p i : Nat) : (s.pinOff p i).pwr = s.pwr := quiet_pwr.pinOff s p i
@[simp] theorem State.suspendPin_pwr (s : State) (p i : Nat) : (s.suspendPin p i).pwr = s.pwr := quiet_pwr.suspendPin s p i
@[simp] theorem State.logFault_pwr (s : State) (a b c d e : Nat) : (s.logFault a b c d e).pwr = s.pwr := quiet_pwr.logFault s a b c d e
@[simp] theorem State.logAudit_pwr (s : State) (a b c d e f : Nat) : (s.logAudit a b c d e f).pwr = s.pwr := quiet_pwr.logAudit s a b c d e f
@[simp] theorem State.persists_pwr (s : State) (b : Nat) (c : FClass) (on : Bool) (d : Nat) : (s.persists b c on d).pwr = s.pwr := quiet_pwr.persists s b c on d
@[simp] theorem State.firstOccurrence_pwr (s : State) (b : Nat) (c : FClass) (d : Nat) : (s.firstOccurrence b c d).pwr = s.pwr := quiet_pwr.firstOccurrence s b c d
@[simp] theorem State.raiseC_pwr (s : State) (b d : Nat) : (s.raise b .C d).pwr = s.pwr := quiet_pwr.raiseC s b d

@[simp] theorem State.showPower_boot (s : State) : (s.showPower).boot = s.boot := quiet_boot.showPower s
@[simp] theorem State.showVault_boot (s : State) : (s.showVault).boot = s.boot := quiet_boot.showVault s
@[simp] theorem State.fieldPowerLoss_boot (s : State) : (s.fieldPowerLoss).boot = s.boot := quiet_boot.fieldPowerLoss s
@[simp] theorem State.setWords_boot (s : State) (off n v : Nat) : (s.setWords off n v).boot = s.boot := quiet_boot.setWords s off n v
@[simp] theorem State.refreshPort_boot (s : State) (p : Nat) : (s.refreshPort p).boot = s.boot := quiet_boot.refreshPort s p
@[simp] theorem State.unlatch_boot (s : State) (p x : Nat) : (s.unlatch p x).boot = s.boot := quiet_boot.unlatch s p x
@[simp] theorem State.setFp_boot (s : State) (p : Nat) (on : Bool) : (s.setFp p on).boot = s.boot := quiet_boot.setFp s p on
@[simp] theorem State.pinOff_boot (s : State) (p i : Nat) : (s.pinOff p i).boot = s.boot := quiet_boot.pinOff s p i
@[simp] theorem State.suspendPin_boot (s : State) (p i : Nat) : (s.suspendPin p i).boot = s.boot := quiet_boot.suspendPin s p i
@[simp] theorem State.logFault_boot (s : State) (a b c d e : Nat) : (s.logFault a b c d e).boot = s.boot := quiet_boot.logFault s a b c d e
@[simp] theorem State.logAudit_boot (s : State) (a b c d e f : Nat) : (s.logAudit a b c d e f).boot = s.boot := quiet_boot.logAudit s a b c d e f
@[simp] theorem State.persists_boot (s : State) (b : Nat) (c : FClass) (on : Bool) (d : Nat) : (s.persists b c on d).boot = s.boot := quiet_boot.persists s b c on d
@[simp] theorem State.firstOccurrence_boot (s : State) (b : Nat) (c : FClass) (d : Nat) : (s.firstOccurrence b c d).boot = s.boot := quiet_boot.firstOccurrence s b c d
@[simp] theorem State.raiseC_boot (s : State) (b d : Nat) : (s.raise b .C d).boot = s.boot := quiet_boot.raiseC s b d

@[simp] theorem State.showPower_sec (s : State) : (s.showPower).sec = s.sec := quiet_sec.showPower s
@[simp] theorem State.showVault_sec (s : State) : (s.showVault).sec = s.sec := quiet_sec.showVault s
@[simp] theorem State.fieldPowerLoss_sec (s : State) : (s.fieldPowerLoss).sec = s.sec := quiet_sec.fieldPowerLoss s
@[simp] theorem State.setWords_sec (s : State) (off n v : Nat) : (s.setWords off n v).sec = s.sec := quiet_sec.setWords s off n v
@[simp] theorem State.refreshPort_sec (s : State) (p : Nat) : (s.refreshPort p).sec = s.sec := quiet_sec.refreshPort s p
@[simp] theorem State.unlatch_sec (s : State) (p x : Nat) : (s.unlatch p x).sec = s.sec := quiet_sec.unlatch s p x
@[simp] theorem State.setFp_sec (s : State) (p : Nat) (on : Bool) : (s.setFp p on).sec = s.sec := quiet_sec.setFp s p on
@[simp] theorem State.pinOff_sec (s : State) (p i : Nat) : (s.pinOff p i).sec = s.sec := quiet_sec.pinOff s p i
@[simp] theorem State.suspendPin_sec (s : State) (p i : Nat) : (s.suspendPin p i).sec = s.sec := quiet_sec.suspendPin s p i
@[simp] theorem State.logFault_sec (s : State) (a b c d e : Nat) : (s.logFault a b c d e).sec = s.sec := quiet_sec.logFault s a b c d e
@[simp] theorem State.logAudit_sec (s : State) (a b c d e f : Nat) : (s.logAudit a b c d e f).sec = s.sec := quiet_sec.logAudit s a b c d e f
@[simp] theorem State.persists_sec (s : State) (b : Nat) (c : FClass) (on : Bool) (d : Nat) : (s.persists b c on d).sec = s.sec := quiet_sec.persists s b c on d
@[simp] theorem State.firstOccurrence_sec (s : State) (b : Nat) (c : FClass) (d : Nat) : (s.firstOccurrence b c d).sec = s.sec := quiet_sec.firstOccurrence s b c d
@[simp] theorem State.raiseC_sec (s : State) (b d : Nat) : (s.raise b .C d).sec = s.sec := quiet_sec.raiseC s b d

@[simp] theorem State.showPower_hif (s : State) : (s.showPower).hif = s.hif := quiet_hif.showPower s
@[simp] theorem State.showVault_hif (s : State) : (s.showVault).hif = s.hif := quiet_hif.showVault s
@[simp] theorem State.fieldPowerLoss_hif (s : State) : (s.fieldPowerLoss).hif = s.hif := quiet_hif.fieldPowerLoss s
@[simp] theorem State.setWords_hif (s : State) (off n v : Nat) : (s.setWords off n v).hif = s.hif := quiet_hif.setWords s off n v
@[simp] theorem State.refreshPort_hif (s : State) (p : Nat) : (s.refreshPort p).hif = s.hif := quiet_hif.refreshPort s p
@[simp] theorem State.unlatch_hif (s : State) (p x : Nat) : (s.unlatch p x).hif = s.hif := quiet_hif.unlatch s p x
@[simp] theorem State.setFp_hif (s : State) (p : Nat) (on : Bool) : (s.setFp p on).hif = s.hif := quiet_hif.setFp s p on
@[simp] theorem State.pinOff_hif (s : State) (p i : Nat) : (s.pinOff p i).hif = s.hif := quiet_hif.pinOff s p i
@[simp] theorem State.suspendPin_hif (s : State) (p i : Nat) : (s.suspendPin p i).hif = s.hif := quiet_hif.suspendPin s p i
@[simp] theorem State.logFault_hif (s : State) (a b c d e : Nat) : (s.logFault a b c d e).hif = s.hif := quiet_hif.logFault s a b c d e
@[simp] theorem State.logAudit_hif (s : State) (a b c d e f : Nat) : (s.logAudit a b c d e f).hif = s.hif := quiet_hif.logAudit s a b c d e f
@[simp] theorem State.persists_hif (s : State) (b : Nat) (c : FClass) (on : Bool) (d : Nat) : (s.persists b c on d).hif = s.hif := quiet_hif.persists s b c on d
@[simp] theorem State.firstOccurrence_hif (s : State) (b : Nat) (c : FClass) (d : Nat) : (s.firstOccurrence b c d).hif = s.hif := quiet_hif.firstOccurrence s b c d
@[simp] theorem State.raiseC_hif (s : State) (b d : Nat) : (s.raise b .C d).hif = s.hif := quiet_hif.raiseC s b d

@[simp] theorem State.showPower_tgt (s : State) : (s.showPower).tgt = s.tgt := quiet_tgt.showPower s
@[simp] theorem State.showVault_tgt (s : State) : (s.showVault).tgt = s.tgt := quiet_tgt.showVault s
@[simp] theorem State.fieldPowerLoss_tgt (s : State) : (s.fieldPowerLoss).tgt = s.tgt := quiet_tgt.fieldPowerLoss s
@[simp] theorem State.setWords_tgt (s : State) (off n v : Nat) : (s.setWords off n v).tgt = s.tgt := quiet_tgt.setWords s off n v
@[simp] theorem State.refreshPort_tgt (s : State) (p : Nat) : (s.refreshPort p).tgt = s.tgt := quiet_tgt.refreshPort s p
@[simp] theorem State.unlatch_tgt (s : State) (p x : Nat) : (s.unlatch p x).tgt = s.tgt := quiet_tgt.unlatch s p x
@[simp] theorem State.setFp_tgt (s : State) (p : Nat) (on : Bool) : (s.setFp p on).tgt = s.tgt := quiet_tgt.setFp s p on
@[simp] theorem State.pinOff_tgt (s : State) (p i : Nat) : (s.pinOff p i).tgt = s.tgt := quiet_tgt.pinOff s p i
@[simp] theorem State.suspendPin_tgt (s : State) (p i : Nat) : (s.suspendPin p i).tgt = s.tgt := quiet_tgt.suspendPin s p i
@[simp] theorem State.logFault_tgt (s : State) (a b c d e : Nat) : (s.logFault a b c d e).tgt = s.tgt := quiet_tgt.logFault s a b c d e
@[simp] theorem State.logAudit_tgt (s : State) (a b c d e f : Nat) : (s.logAudit a b c d e f).tgt = s.tgt := quiet_tgt.logAudit s a b c d e f
@[simp] theorem State.persists_tgt (s : State) (b : Nat) (c : FClass) (on : Bool) (d : Nat) : (s.persists b c on d).tgt = s.tgt := quiet_tgt.persists s b c on d
@[simp] theorem State.firstOccurrence_tgt (s : State) (b : Nat) (c : FClass) (d : Nat) : (s.firstOccurrence b c d).tgt = s.tgt := quiet_tgt.firstOccurrence s b c d
@[simp] theorem State.raiseC_tgt (s : State) (b d : Nat) : (s.raise b .C d).tgt = s.tgt := quiet_tgt.raiseC s b d

@[simp] theorem State.showPower_ring (s : State) : (s.showPower).ring = s.ring := quiet_ring.showPower s
@[simp] theorem State.showVault_ring (s : State) : (s.showVault).ring = s.ring := quiet_ring.showVault s
@[simp] theorem State.fieldPowerLoss_ring (s : State) : (s.fieldPowerLoss).ring = s.ring := quiet_ring.fieldPowerLoss s
@[simp] theorem State.setWords_ring (s : State) (off n v : Nat) : (s.setWords off n v).ring = s.ring := quiet_ring.setWords s off n v
@[simp] theorem State.refreshPort_ring (s : State) (p : Nat) : (s.refreshPort p).ring = s.ring := quiet_ring.refreshPort s p
@[simp] theorem State.unlatch_ring (s : State) (p x : Nat) : (s.unlatch p x).ring = s.ring := quiet_ring.unlatch s p x
@[simp] theorem State.setFp_ring (s : State) (p : Nat) (on : Bool) : (s.setFp p on).ring = s.ring := quiet_ring.setFp s p on
@[simp] theorem State.pinOff_ring (s : State) (p i : Nat) : (s.pinOff p i).ring = s.ring := quiet_ring.pinOff s p i
@[simp] theorem State.suspendPin_ring (s : State) (p i : Nat) : (s.suspendPin p i).ring = s.ring := quiet_ring.suspendPin s p i
@[simp] theorem State.logFault_ring (s : State) (a b c d e : Nat) : (s.logFault a b c d e).ring = s.ring := quiet_ring.logFault s a b c d e
@[simp] theorem State.logAudit_ring (s : State) (a b c d e f : Nat) : (s.logAudit a b c d e f).ring = s.ring := quiet_ring.logAudit s a b c d e f
@[simp] theorem State.persists_ring (s : State) (b : Nat) (c : FClass) (on : Bool) (d : Nat) : (s.persists b c on d).ring = s.ring := quiet_ring.persists s b c on d
@[simp] theorem State.firstOccurrence_ring (s : State) (b : Nat) (c : FClass) (d : Nat) : (s.firstOccurrence b c d).ring = s.ring := quiet_ring.firstOccurrence s b c d
@[simp] theorem State.raiseC_ring (s : State) (b d : Nat) : (s.raise b .C d).ring = s.ring := quiet_ring.raiseC s b d

@[simp] theorem State.showPower_td (s : State) : (s.showPower).td = s.td := quiet_td.showPower s
@[simp] theorem State.showVault_td (s : State) : (s.showVault).td = s.td := quiet_td.showVault s
@[simp] theorem State.fieldPowerLoss_td (s : State) : (s.fieldPowerLoss).td = s.td := quiet_td.fieldPowerLoss s
@[simp] theorem State.setWords_td (s : State) (off n v : Nat) : (s.setWords off n v).td = s.td := quiet_td.setWords s off n v
@[simp] theorem State.refreshPort_td (s : State) (p : Nat) : (s.refreshPort p).td = s.td := quiet_td.refreshPort s p
@[simp] theorem State.unlatch_td (s : State) (p x : Nat) : (s.unlatch p x).td = s.td := quiet_td.unlatch s p x
@[simp] theorem State.setFp_td (s : State) (p : Nat) (on : Bool) : (s.setFp p on).td = s.td := quiet_td.setFp s p on
@[simp] theorem State.pinOff_td (s : State) (p i : Nat) : (s.pinOff p i).td = s.td := quiet_td.pinOff s p i
@[simp] theorem State.suspendPin_td (s : State) (p i : Nat) : (s.suspendPin p i).td = s.td := quiet_td.suspendPin s p i
@[simp] theorem State.logFault_td (s : State) (a b c d e : Nat) : (s.logFault a b c d e).td = s.td := quiet_td.logFault s a b c d e
@[simp] theorem State.logAudit_td (s : State) (a b c d e f : Nat) : (s.logAudit a b c d e f).td = s.td := quiet_td.logAudit s a b c d e f
@[simp] theorem State.persists_td (s : State) (b : Nat) (c : FClass) (on : Bool) (d : Nat) : (s.persists b c on d).td = s.td := quiet_td.persists s b c on d
@[simp] theorem State.firstOccurrence_td (s : State) (b : Nat) (c : FClass) (d : Nat) : (s.firstOccurrence b c d).td = s.td := quiet_td.firstOccurrence s b c d
@[simp] theorem State.raiseC_td (s : State) (b d : Nat) : (s.raise b .C d).td = s.td := quiet_td.raiseC s b d

@[simp] theorem State.showPower_brg (s : State) : (s.showPower).brg = s.brg := quiet_brg.showPower s
@[simp] theorem State.showVault_brg (s : State) : (s.showVault).brg = s.brg := quiet_brg.showVault s
@[simp] theorem State.fieldPowerLoss_brg (s : State) : (s.fieldPowerLoss).brg = s.brg := quiet_brg.fieldPowerLoss s
@[simp] theorem State.setWords_brg (s : State) (off n v : Nat) : (s.setWords off n v).brg = s.brg := quiet_brg.setWords s off n v
@[simp] theorem State.refreshPort_brg (s : State) (p : Nat) : (s.refreshPort p).brg = s.brg := quiet_brg.refreshPort s p
@[simp] theorem State.unlatch_brg (s : State) (p x : Nat) : (s.unlatch p x).brg = s.brg := quiet_brg.unlatch s p x
@[simp] theorem State.setFp_brg (s : State) (p : Nat) (on : Bool) : (s.setFp p on).brg = s.brg := quiet_brg.setFp s p on
@[simp] theorem State.pinOff_brg (s : State) (p i : Nat) : (s.pinOff p i).brg = s.brg := quiet_brg.pinOff s p i
@[simp] theorem State.suspendPin_brg (s : State) (p i : Nat) : (s.suspendPin p i).brg = s.brg := quiet_brg.suspendPin s p i
@[simp] theorem State.logFault_brg (s : State) (a b c d e : Nat) : (s.logFault a b c d e).brg = s.brg := quiet_brg.logFault s a b c d e
@[simp] theorem State.logAudit_brg (s : State) (a b c d e f : Nat) : (s.logAudit a b c d e f).brg = s.brg := quiet_brg.logAudit s a b c d e f
@[simp] theorem State.persists_brg (s : State) (b : Nat) (c : FClass) (on : Bool) (d : Nat) : (s.persists b c on d).brg = s.brg := quiet_brg.persists s b c on d
@[simp] theorem State.firstOccurrence_brg (s : State) (b : Nat) (c : FClass) (d : Nat) : (s.firstOccurrence b c d).brg = s.brg := quiet_brg.firstOccurrence s b c d
@[simp] theorem State.raiseC_brg (s : State) (b d : Nat) : (s.raise b .C d).brg = s.brg := quiet_brg.raiseC s b d

@[simp] theorem State.showPower_pctl (s : State) : (s.showPower).pctl = s.pctl := quiet_pctl.showPower s
@[simp] theorem State.showVault_pctl (s : State) : (s.showVault).pctl = s.pctl := quiet_pctl.showVault s
@[simp] theorem State.fieldPowerLoss_pctl (s : State) : (s.fieldPowerLoss).pctl = s.pctl := quiet_pctl.fieldPowerLoss s
@[simp] theorem State.setWords_pctl (s : State) (off n v : Nat) : (s.setWords off n v).pctl = s.pctl := quiet_pctl.setWords s off n v
@[simp] theorem State.refreshPort_pctl (s : State) (p : Nat) : (s.refreshPort p).pctl = s.pctl := quiet_pctl.refreshPort s p
@[simp] theorem State.unlatch_pctl (s : State) (p x : Nat) : (s.unlatch p x).pctl = s.pctl := quiet_pctl.unlatch s p x
@[simp] theorem State.setFp_pctl (s : State) (p : Nat) (on : Bool) : (s.setFp p on).pctl = s.pctl := quiet_pctl.setFp s p on
@[simp] theorem State.pinOff_pctl (s : State) (p i : Nat) : (s.pinOff p i).pctl = s.pctl := quiet_pctl.pinOff s p i
@[simp] theorem State.suspendPin_pctl (s : State) (p i : Nat) : (s.suspendPin p i).pctl = s.pctl := quiet_pctl.suspendPin s p i
@[simp] theorem State.logFault_pctl (s : State) (a b c d e : Nat) : (s.logFault a b c d e).pctl = s.pctl := quiet_pctl.logFault s a b c d e
@[simp] theorem State.logAudit_pctl (s : State) (a b c d e f : Nat) : (s.logAudit a b c d e f).pctl = s.pctl := quiet_pctl.logAudit s a b c d e f
@[simp] theorem State.persists_pctl (s : State) (b : Nat) (c : FClass) (on : Bool) (d : Nat) : (s.persists b c on d).pctl = s.pctl := quiet_pctl.persists s b c on d
@[simp] theorem State.firstOccurrence_pctl (s : State) (b : Nat) (c : FClass) (d : Nat) : (s.firstOccurrence b c d).pctl = s.pctl := quiet_pctl.firstOccurrence s b c d
@[simp] theorem State.raiseC_pctl (s : State) (b d : Nat) : (s.raise b .C d).pctl = s.pctl := quiet_pctl.raiseC s b d

@[simp] theorem State.showPower_meas (s : State) : (s.showPower).meas = s.meas := quiet_meas.showPower s
@[simp] theorem State.showVault_meas (s : State) : (s.showVault).meas = s.meas := quiet_meas.showVault s
@[simp] theorem State.fieldPowerLoss_meas (s : State) : (s.fieldPowerLoss).meas = s.meas := quiet_meas.fieldPowerLoss s
@[simp] theorem State.setWords_meas (s : State) (off n v : Nat) : (s.setWords off n v).meas = s.meas := quiet_meas.setWords s off n v
@[simp] theorem State.refreshPort_meas (s : State) (p : Nat) : (s.refreshPort p).meas = s.meas := quiet_meas.refreshPort s p
@[simp] theorem State.unlatch_meas (s : State) (p x : Nat) : (s.unlatch p x).meas = s.meas := quiet_meas.unlatch s p x
@[simp] theorem State.setFp_meas (s : State) (p : Nat) (on : Bool) : (s.setFp p on).meas = s.meas := quiet_meas.setFp s p on
@[simp] theorem State.pinOff_meas (s : State) (p i : Nat) : (s.pinOff p i).meas = s.meas := quiet_meas.pinOff s p i
@[simp] theorem State.suspendPin_meas (s : State) (p i : Nat) : (s.suspendPin p i).meas = s.meas := quiet_meas.suspendPin s p i
@[simp] theorem State.logFault_meas (s : State) (a b c d e : Nat) : (s.logFault a b c d e).meas = s.meas := quiet_meas.logFault s a b c d e
@[simp] theorem State.logAudit_meas (s : State) (a b c d e f : Nat) : (s.logAudit a b c d e f).meas = s.meas := quiet_meas.logAudit s a b c d e f
@[simp] theorem State.persists_meas (s : State) (b : Nat) (c : FClass) (on : Bool) (d : Nat) : (s.persists b c on d).meas = s.meas := quiet_meas.persists s b c on d
@[simp] theorem State.firstOccurrence_meas (s : State) (b : Nat) (c : FClass) (d : Nat) : (s.firstOccurrence b c d).meas = s.meas := quiet_meas.firstOccurrence s b c d
@[simp] theorem State.raiseC_meas (s : State) (b d : Nat) : (s.raise b .C d).meas = s.meas := quiet_meas.raiseC s b d

@[simp] theorem State.showPower_eng (s : State) : (s.showPower).eng = s.eng := quiet_eng.showPower s
@[simp] theorem State.showVault_eng (s : State) : (s.showVault).eng = s.eng := quiet_eng.showVault s
@[simp] theorem State.fieldPowerLoss_eng (s : State) : (s.fieldPowerLoss).eng = s.eng := quiet_eng.fieldPowerLoss s
@[simp] theorem State.setWords_eng (s : State) (off n v : Nat) : (s.setWords off n v).eng = s.eng := quiet_eng.setWords s off n v
@[simp] theorem State.refreshPort_eng (s : State) (p : Nat) : (s.refreshPort p).eng = s.eng := quiet_eng.refreshPort s p
@[simp] theorem State.unlatch_eng (s : State) (p x : Nat) : (s.unlatch p x).eng = s.eng := quiet_eng.unlatch s p x
@[simp] theorem State.setFp_eng (s : State) (p : Nat) (on : Bool) : (s.setFp p on).eng = s.eng := quiet_eng.setFp s p on
@[simp] theorem State.pinOff_eng (s : State) (p i : Nat) : (s.pinOff p i).eng = s.eng := quiet_eng.pinOff s p i
@[simp] theorem State.suspendPin_eng (s : State) (p i : Nat) : (s.suspendPin p i).eng = s.eng := quiet_eng.suspendPin s p i
@[simp] theorem State.logFault_eng (s : State) (a b c d e : Nat) : (s.logFault a b c d e).eng = s.eng := quiet_eng.logFault s a b c d e
@[simp] theorem State.logAudit_eng (s : State) (a b c d e f : Nat) : (s.logAudit a b c d e f).eng = s.eng := quiet_eng.logAudit s a b c d e f
@[simp] theorem State.persists_eng (s : State) (b : Nat) (c : FClass) (on : Bool) (d : Nat) : (s.persists b c on d).eng = s.eng := quiet_eng.persists s b c on d
@[simp] theorem State.firstOccurrence_eng (s : State) (b : Nat) (c : FClass) (d : Nat) : (s.firstOccurrence b c d).eng = s.eng := quiet_eng.firstOccurrence s b c d
@[simp] theorem State.raiseC_eng (s : State) (b d : Nat) : (s.raise b .C d).eng = s.eng := quiet_eng.raiseC s b d

@[simp] theorem State.showPower_twin (s : State) : (s.showPower).twin = s.twin := quiet_twin.showPower s
@[simp] theorem State.showVault_twin (s : State) : (s.showVault).twin = s.twin := quiet_twin.showVault s
@[simp] theorem State.fieldPowerLoss_twin (s : State) : (s.fieldPowerLoss).twin = s.twin := quiet_twin.fieldPowerLoss s
@[simp] theorem State.setWords_twin (s : State) (off n v : Nat) : (s.setWords off n v).twin = s.twin := quiet_twin.setWords s off n v
@[simp] theorem State.refreshPort_twin (s : State) (p : Nat) : (s.refreshPort p).twin = s.twin := quiet_twin.refreshPort s p
@[simp] theorem State.unlatch_twin (s : State) (p x : Nat) : (s.unlatch p x).twin = s.twin := quiet_twin.unlatch s p x
@[simp] theorem State.setFp_twin (s : State) (p : Nat) (on : Bool) : (s.setFp p on).twin = s.twin := quiet_twin.setFp s p on
@[simp] theorem State.pinOff_twin (s : State) (p i : Nat) : (s.pinOff p i).twin = s.twin := quiet_twin.pinOff s p i
@[simp] theorem State.suspendPin_twin (s : State) (p i : Nat) : (s.suspendPin p i).twin = s.twin := quiet_twin.suspendPin s p i
@[simp] theorem State.logFault_twin (s : State) (a b c d e : Nat) : (s.logFault a b c d e).twin = s.twin := quiet_twin.logFault s a b c d e
@[simp] theorem State.logAudit_twin (s : State) (a b c d e f : Nat) : (s.logAudit a b c d e f).twin = s.twin := quiet_twin.logAudit s a b c d e f
@[simp] theorem State.persists_twin (s : State) (b : Nat) (c : FClass) (on : Bool) (d : Nat) : (s.persists b c on d).twin = s.twin := quiet_twin.persists s b c on d
@[simp] theorem State.firstOccurrence_twin (s : State) (b : Nat) (c : FClass) (d : Nat) : (s.firstOccurrence b c d).twin = s.twin := quiet_twin.firstOccurrence s b c d
@[simp] theorem State.raiseC_twin (s : State) (b d : Nat) : (s.raise b .C d).twin = s.twin := quiet_twin.raiseC s b d

@[simp] theorem State.showPower_emitted (s : State) : (s.showPower).emitted = s.emitted := quiet_emitted.showPower s
@[simp] theorem State.showVault_emitted (s : State) : (s.showVault).emitted = s.emitted := quiet_emitted.showVault s
@[simp] theorem State.fieldPowerLoss_emitted (s : State) : (s.fieldPowerLoss).emitted = s.emitted := quiet_emitted.fieldPowerLoss s
@[simp] theorem State.setWords_emitted (s : State) (off n v : Nat) : (s.setWords off n v).emitted = s.emitted := quiet_emitted.setWords s off n v
@[simp] theorem State.refreshPort_emitted (s : State) (p : Nat) : (s.refreshPort p).emitted = s.emitted := quiet_emitted.refreshPort s p
@[simp] theorem State.unlatch_emitted (s : State) (p x : Nat) : (s.unlatch p x).emitted = s.emitted := quiet_emitted.unlatch s p x
@[simp] theorem State.setFp_emitted (s : State) (p : Nat) (on : Bool) : (s.setFp p on).emitted = s.emitted := quiet_emitted.setFp s p on
@[simp] theorem State.pinOff_emitted (s : State) (p i : Nat) : (s.pinOff p i).emitted = s.emitted := quiet_emitted.pinOff s p i
@[simp] theorem State.suspendPin_emitted (s : State) (p i : Nat) : (s.suspendPin p i).emitted = s.emitted := quiet_emitted.suspendPin s p i
@[simp] theorem State.logFault_emitted (s : State) (a b c d e : Nat) : (s.logFault a b c d e).emitted = s.emitted := quiet_emitted.logFault s a b c d e
@[simp] theorem State.logAudit_emitted (s : State) (a b c d e f : Nat) : (s.logAudit a b c d e f).emitted = s.emitted := quiet_emitted.logAudit s a b c d e f
@[simp] theorem State.persists_emitted (s : State) (b : Nat) (c : FClass) (on : Bool) (d : Nat) : (s.persists b c on d).emitted = s.emitted := quiet_emitted.persists s b c on d
@[simp] theorem State.firstOccurrence_emitted (s : State) (b : Nat) (c : FClass) (d : Nat) : (s.firstOccurrence b c d).emitted = s.emitted := quiet_emitted.firstOccurrence s b c d
@[simp] theorem State.raiseC_emitted (s : State) (b d : Nat) : (s.raise b .C d).emitted = s.emitted := quiet_emitted.raiseC s b d

@[simp] theorem State.showPower_pending (s : State) : (s.showPower).pending = s.pending := quiet_pending.showPower s
@[simp] theorem State.showVault_pending (s : State) : (s.showVault).pending = s.pending := quiet_pending.showVault s
@[simp] theorem State.fieldPowerLoss_pending (s : State) : (s.fieldPowerLoss).pending = s.pending := quiet_pending.fieldPowerLoss s
@[simp] theorem State.setWords_pending (s : State) (off n v : Nat) : (s.setWords off n v).pending = s.pending := quiet_pending.setWords s off n v
@[simp] theorem State.refreshPort_pending (s : State) (p : Nat) : (s.refreshPort p).pending = s.pending := quiet_pending.refreshPort s p
@[simp] theorem State.unlatch_pending (s : State) (p x : Nat) : (s.unlatch p x).pending = s.pending := quiet_pending.unlatch s p x
@[simp] theorem State.setFp_pending (s : State) (p : Nat) (on : Bool) : (s.setFp p on).pending = s.pending := quiet_pending.setFp s p on
@[simp] theorem State.pinOff_pending (s : State) (p i : Nat) : (s.pinOff p i).pending = s.pending := quiet_pending.pinOff s p i
@[simp] theorem State.suspendPin_pending (s : State) (p i : Nat) : (s.suspendPin p i).pending = s.pending := quiet_pending.suspendPin s p i
@[simp] theorem State.logFault_pending (s : State) (a b c d e : Nat) : (s.logFault a b c d e).pending = s.pending := quiet_pending.logFault s a b c d e
@[simp] theorem State.logAudit_pending (s : State) (a b c d e f : Nat) : (s.logAudit a b c d e f).pending = s.pending := quiet_pending.logAudit s a b c d e f
@[simp] theorem State.persists_pending (s : State) (b : Nat) (c : FClass) (on : Bool) (d : Nat) : (s.persists b c on d).pending = s.pending := quiet_pending.persists s b c on d
@[simp] theorem State.firstOccurrence_pending (s : State) (b : Nat) (c : FClass) (d : Nat) : (s.firstOccurrence b c d).pending = s.pending := quiet_pending.firstOccurrence s b c d
@[simp] theorem State.raiseC_pending (s : State) (b d : Nat) : (s.raise b .C d).pending = s.pending := quiet_pending.raiseC s b d

/-! ### A power-on reset -/

theorem State.restart_vault (s : State) : s.restart.sec.vault =
    { s.sec.vault with ticks := s.vaultTicks, debugNext := s.sec.vault.debugNext && !s.flag R.SEC_STAT_DEBUG } := by
  unfold State.restart; extract_lets t; rw [State.showVault_sec]

@[simp] theorem State.restart_fwCtr (s : State) : s.restart.sec.vault.fwCtr = s.sec.vault.fwCtr := by rw [State.restart_vault]
@[simp] theorem State.restart_bndCtr (s : State) : s.restart.sec.vault.bndCtr = s.sec.vault.bndCtr := by rw [State.restart_vault]
@[simp] theorem State.restart_owner (s : State) : s.restart.sec.vault.owner = s.sec.vault.owner := by rw [State.restart_vault]
@[simp] theorem State.restart_lock (s : State) : s.restart.sec.vault.lock = s.sec.vault.lock := by rw [State.restart_vault]
@[simp] theorem State.restart_latch (s : State) : s.restart.sec.vault.latch = s.sec.vault.latch := by rw [State.restart_vault]
@[simp] theorem State.restart_stage (s : State) : s.restart.boot.stage = .rom := by
  unfold State.restart; extract_lets t; rw [State.showVault_boot]
@[simp] theorem State.restart_pending (s : State) : s.restart.pending = s.pending := by
  unfold State.restart; extract_lets t; rw [State.showVault_pending]
@[simp] theorem State.restart_present (s : State) : s.restart.pwr.present = s.pwr.present := by
  unfold State.restart; extract_lets t; rw [State.showVault_pwr]
@[simp] theorem State.restart_held (s : State) : s.restart.pwr.held = s.pwr.held := by
  unfold State.restart; extract_lets t; rw [State.showVault_pwr]
@[simp] theorem State.restart_seated (s : State) : s.restart.pwr.seated = s.pwr.seated := by
  unfold State.restart; extract_lets t; rw [State.showVault_pwr]

end Sys2Proof.Machine
end

