-- ==== Sys2Proof/Laws/Taken.lean ====
section
/-!
SUPPORT. A command that takes its request from those admitted changes nothing else: every other part reads as before.
-/

set_option Elab.async false
set_option linter.unusedSimpArgs false
set_option linter.unusedTactic false

namespace Sys2Proof.Machine

@[simp] theorem State.taken_pending (s : State) (r : Req) : (s.taken r).pending = s.pending := (rfl)
@[simp] theorem State.taken_regs (s : State) (r : Req) : (s.taken r).regs = s.regs := (rfl)
@[simp] theorem State.taken_now (s : State) (r : Req) : (s.taken r).now = s.now := (rfl)
@[simp] theorem State.taken_drawn (s : State) (r : Req) : (s.taken r).drawn = s.drawn := (rfl)
@[simp] theorem State.taken_emitted (s : State) (r : Req) : (s.taken r).emitted = s.emitted := (rfl)
@[simp] theorem State.taken_hif (s : State) (r : Req) : (s.taken r).hif = s.hif := (rfl)
@[simp] theorem State.taken_pts (s : State) (r : Req) : (s.taken r).pts = s.pts := (rfl)
@[simp] theorem State.taken_ring (s : State) (r : Req) : (s.taken r).ring = s.ring := (rfl)
@[simp] theorem State.taken_sw (s : State) (r : Req) : (s.taken r).sw = s.sw := (rfl)
@[simp] theorem State.taken_flt (s : State) (r : Req) : (s.taken r).flt = s.flt := (rfl)
@[simp] theorem State.taken_td (s : State) (r : Req) : (s.taken r).td = s.td := (rfl)
@[simp] theorem State.taken_brg (s : State) (r : Req) : (s.taken r).brg = s.brg := (rfl)
@[simp] theorem State.taken_cyc (s : State) (r : Req) : (s.taken r).cyc = s.cyc := (rfl)
@[simp] theorem State.taken_fld (s : State) (r : Req) : (s.taken r).fld = s.fld := (rfl)
@[simp] theorem State.taken_pctl (s : State) (r : Req) : (s.taken r).pctl = s.pctl := (rfl)
@[simp] theorem State.taken_rfx (s : State) (r : Req) : (s.taken r).rfx = s.rfx := (rfl)
@[simp] theorem State.taken_meas (s : State) (r : Req) : (s.taken r).meas = s.meas := (rfl)
@[simp] theorem State.taken_pwr (s : State) (r : Req) : (s.taken r).pwr = s.pwr := (rfl)
@[simp] theorem State.taken_eng (s : State) (r : Req) : (s.taken r).eng = s.eng := (rfl)
@[simp] theorem State.taken_twin (s : State) (r : Req) : (s.taken r).twin = s.twin := (rfl)
@[simp] theorem State.taken_sec (s : State) (r : Req) : (s.taken r).sec = s.sec := (rfl)
@[simp] theorem State.taken_boot (s : State) (r : Req) : (s.taken r).boot = s.boot := (rfl)
@[simp] theorem State.taken_setup (s : State) (r : Req) : (s.taken r).setup = s.setup := (rfl)
@[simp] theorem State.taken_ns (s : State) (r : Req)  : (s.taken r).ns  = s.ns  := (rfl)
@[simp] theorem State.taken_node0 (s : State) (r : Req)  : (s.taken r).node0  = s.node0  := (rfl)
@[simp] theorem State.taken_standby (s : State) (r : Req)  : (s.taken r).standby  = s.standby  := (rfl)
@[simp] theorem State.taken_inSafe (s : State) (r : Req)  : (s.taken r).inSafe  = s.inSafe  := (rfl)
@[simp] theorem State.taken_rd (s : State) (r : Req) (f : Fld) : (s.taken r).rd f = s.rd f := (rfl)
@[simp] theorem State.taken_flag (s : State) (r : Req) (f : Fld) : (s.taken r).flag f = s.flag f := (rfl)
@[simp] theorem State.taken_point (s : State) (r : Req) (n : Nat) : (s.taken r).point n = s.point n := (rfl)
@[simp] theorem State.taken_slotOf (s : State) (r : Req) (q : Req) : (s.taken r).slotOf q = s.slotOf q := (rfl)
@[simp] theorem State.taken_who (s : State) (r : Req) (q : Req) : (s.taken r).who q = s.who q := (rfl)
@[simp] theorem State.taken_devTarget (s : State) (r : Req) (p : Nat) : (s.taken r).devTarget p = s.devTarget p := (rfl)
@[simp] theorem State.taken_lockOk (s : State) (r : Req) (p : Nat) : (s.taken r).lockOk p = s.lockOk p := (rfl)
@[simp] theorem State.taken_ctlRaw (s : State) (r : Req) (k i : Nat) : (s.taken r).ctlRaw k i = s.ctlRaw k i := (rfl)
@[simp] theorem State.taken_busLock (s : State) (r : Req) (p : Nat) : (s.taken r).busLock p = s.busLock p := (rfl)
@[simp] theorem State.taken_isMine (s : State) (r : Req) (n : Nat) : (s.taken r).isMine n = s.isMine n := (rfl)
@[simp] theorem State.taken_tdEnc (s : State) (r : Req) (d : Nat) : (s.taken r).tdEnc d = s.tdEnc d := (rfl)
@[simp] theorem State.taken_tdNow (s : State) (r : Req) (d : Nat) : (s.taken r).tdNow d = s.tdNow d := (rfl)
@[simp] theorem State.taken_slotOn (s : State) (r : Req) (t : Nat) : (s.taken r).slotOn t = s.slotOn t := (rfl)
@[simp] theorem State.taken_canSend (s : State) (r : Req) (t : Nat) : (s.taken r).canSend t = s.canSend t := (rfl)
@[simp] theorem State.taken_kind (s : State) (r : Req) (t : Nat) : (s.taken r).kind t = s.kind t := (rfl)
@[simp] theorem State.taken_regionAddr (s : State) (r : Req) (o : Nat) : (s.taken r).regionAddr o = s.regionAddr o := (rfl)
@[simp] theorem State.taken_tableClosed (s : State) (r : Req) (o n : Nat) : (s.taken r).tableClosed o n = s.tableClosed o n := (rfl)
@[simp] theorem State.taken_lockSeq (s : State) (r : Req) (t i : Nat) : (s.taken r).lockSeq t i = s.lockSeq t i := (rfl)
@[simp] theorem State.taken_flight (s : State) (r : Req) (k : Nat) : (s.taken r).flight k = s.flight k := (rfl)
@[simp] theorem State.taken_flights (s : State) (r : Req)  : (s.taken r).flights  = s.flights  := (rfl)
@[simp] theorem State.taken_rxq (s : State) (r : Req) (p : Nat) : (s.taken r).rxq p = s.rxq p := (rfl)
@[simp] theorem State.taken_txq (s : State) (r : Req) (k : Nat) : (s.taken r).txq k = s.txq k := (rfl)
@[simp] theorem State.taken_tag (s : State) (r : Req) (k : Nat) : (s.taken r).tag k = s.tag k := (rfl)
@[simp] theorem State.taken_pair (s : State) (r : Req) (p : Nat) : (s.taken r).pair p = s.pair p := (rfl)
@[simp] theorem State.taken_slot (s : State) (r : Req) (t : Nat) : (s.taken r).slot t = s.slot t := (rfl)
@[simp] theorem State.taken_subsFull (s : State) (r : Req) (q : Req) : (s.taken r).subsFull q = s.subsFull q := (rfl)
@[simp] theorem State.taken_held (s : State) (r : Req) (t : Nat) : (s.taken r).held t = s.held t := (rfl)
@[simp] theorem State.taken_rawTarget (s : State) (r : Req) (p : Nat) (b : List Byte) : (s.taken r).rawTarget p b = s.rawTarget p b := (rfl)
@[simp] theorem State.taken_staging (s : State) (r : Req) (k : Nat) : (s.taken r).staging k = s.staging k := (rfl)
@[simp] theorem State.taken_refusals (s : State) (r : Req) (e : StopEnv) : (s.taken r).refusals e = s.refusals e := (rfl)
@[simp] theorem State.taken_powerRefused (s : State) (r : Req)  : (s.taken r).powerRefused  = s.powerRefused  := (rfl)
@[simp] theorem State.taken_txOf (s : State) (r : Req) (q : Req) : (s.taken r).txOf q = s.txOf q := (rfl)
@[simp] theorem State.taken_readPoints (s : State) (r : Req) (o n : Nat) : (s.taken r).readPoints o n = s.readPoints o n := (rfl)
@[simp] theorem State.taken_tableBytes (s : State) (r : Req) (o n : Nat) : (s.taken r).tableBytes o n = s.tableBytes o n := (rfl)
@[simp] theorem State.taken_rngEntry (s : State) (r : Req) (a b c : Nat) : (s.taken r).rngEntry a b c = s.rngEntry a b c := (rfl)
@[simp] theorem State.taken_isJoined (s : State) (r : Req)  : (s.taken r).isJoined  = s.isJoined  := (rfl)
@[simp] theorem State.taken_holds (s : State) (r : Req) (p : Nat) (q : Req) : (s.taken r).holds p q = s.holds p q := (rfl)
@[simp] theorem State.taken_mayManage (s : State) (r : Req) (q : Req) : (s.taken r).mayManage q = s.mayManage q := (rfl)
@[simp] theorem State.taken_topo (s : State) (r : Req) (n t : Nat) : (s.taken r).topo n t = s.topo n t := (rfl)
@[simp] theorem State.taken_cqFree (s : State) (r : Req) (p : Nat) : (s.taken r).cqFree p = s.cqFree p := (rfl)
@[simp] theorem State.taken_route (s : State) (r : Req) (n : Nat) (b : Bool) : (s.taken r).route n b = s.route n b := (rfl)
@[simp] theorem State.taken_accepted (s : State) (r : Req) : (s.taken r).tgt.accepted = s.tgt.accepted.erase r := (rfl)
@[simp] theorem State.taken_heldReqs (s : State) (r : Req) : (s.taken r).tgt.held = s.tgt.held := (rfl)

end Sys2Proof.Machine
end

