-- ==== Sys2Proof/Laws/Readers.lean ====
section
/-!
SUPPORT. An emission and a write of a register leave every port, pair, tag, point, pin, channel and queue as it reads.
-/

set_option Elab.async false
set_option linter.unusedSimpArgs false
set_option linter.unusedTactic false

namespace Sys2Proof.Machine

@[simp] theorem State.emit_port (s : State) (x : Emit) (i : Nat) : (s.emit x).port i = s.port i := (rfl)
@[simp] theorem State.emit_pair (s : State) (x : Emit) (p : Nat) : (s.emit x).pair p = s.pair p := (rfl)
@[simp] theorem State.emit_slot (s : State) (x : Emit) (t : Nat) : (s.emit x).slot t = s.slot t := (rfl)
@[simp] theorem State.emit_tag (s : State) (x : Emit) (k : Nat) : (s.emit x).tag k = s.tag k := (rfl)
@[simp] theorem State.emit_flight (s : State) (x : Emit) (k : Nat) : (s.emit x).flight k = s.flight k := (rfl)
@[simp] theorem State.emit_topo (s : State) (x : Emit) (n t : Nat) : (s.emit x).topo n t = s.topo n t := (rfl)
@[simp] theorem State.emit_point (s : State) (x : Emit) (n : Nat) : (s.emit x).point n = s.point n := (rfl)
@[simp] theorem State.emit_busLock (s : State) (x : Emit) (p : Nat) : (s.emit x).busLock p = s.busLock p := (rfl)
@[simp] theorem State.emit_cycOf (s : State) (x : Emit) (n : Nat) : (s.emit x).cycOf n = s.cycOf n := (rfl)
@[simp] theorem State.emit_joinOf (s : State) (x : Emit) (n : Nat) : (s.emit x).joinOf n = s.joinOf n := (rfl)
@[simp] theorem State.emit_chan (s : State) (x : Emit) (e c : Nat) : (s.emit x).chan e c = s.chan e c := (rfl)
@[simp] theorem State.emit_sec_ (s : State) (x : Emit) (i : Nat) : (s.emit x).sec_ i = s.sec_ i := (rfl)
@[simp] theorem State.emit_pin (s : State) (x : Emit) (p c : Nat) : (s.emit x).pin p c = s.pin p c := (rfl)
@[simp] theorem State.emit_measCh (s : State) (x : Emit) (c : Nat) : (s.emit x).measCh c = s.measCh c := (rfl)
@[simp] theorem State.emit_poll (s : State) (x : Emit) (i : Nat) : (s.emit x).poll i = s.poll i := (rfl)
@[simp] theorem State.emit_path (s : State) (x : Emit) (n d : Nat) : (s.emit x).path n d = s.path n d := (rfl)
@[simp] theorem State.emit_rop (s : State) (x : Emit) (j : Nat) : (s.emit x).rop j = s.rop j := (rfl)
@[simp] theorem State.emit_row (s : State) (x : Emit) (r : Nat) : (s.emit x).row r = s.row r := (rfl)
@[simp] theorem State.emit_txq (s : State) (x : Emit) (k : Nat) : (s.emit x).txq k = s.txq k := (rfl)
@[simp] theorem State.emit_rxq (s : State) (x : Emit) (p : Nat) : (s.emit x).rxq p = s.rxq p := (rfl)
@[simp] theorem State.emit_brgq (s : State) (x : Emit) (p : Nat) : (s.emit x).brgq p = s.brgq p := (rfl)
@[simp] theorem State.emit_domain (s : State) (x : Emit) (d : Nat) : (s.emit x).domain d = s.domain d := (rfl)
@[simp] theorem State.wr_port (s : State) (f : Fld) (v : Nat) (i : Nat) : (s.wr f v).port i = s.port i := (rfl)
@[simp] theorem State.wr_pair (s : State) (f : Fld) (v : Nat) (p : Nat) : (s.wr f v).pair p = s.pair p := (rfl)
@[simp] theorem State.wr_slot (s : State) (f : Fld) (v : Nat) (t : Nat) : (s.wr f v).slot t = s.slot t := (rfl)
@[simp] theorem State.wr_tag (s : State) (f : Fld) (v : Nat) (k : Nat) : (s.wr f v).tag k = s.tag k := (rfl)
@[simp] theorem State.wr_flight (s : State) (f : Fld) (v : Nat) (k : Nat) : (s.wr f v).flight k = s.flight k := (rfl)
@[simp] theorem State.wr_topo (s : State) (f : Fld) (v : Nat) (n t : Nat) : (s.wr f v).topo n t = s.topo n t := (rfl)
@[simp] theorem State.wr_point (s : State) (f : Fld) (v : Nat) (n : Nat) : (s.wr f v).point n = s.point n := (rfl)
@[simp] theorem State.wr_busLock (s : State) (f : Fld) (v : Nat) (p : Nat) : (s.wr f v).busLock p = s.busLock p := (rfl)
@[simp] theorem State.wr_cycOf (s : State) (f : Fld) (v : Nat) (n : Nat) : (s.wr f v).cycOf n = s.cycOf n := (rfl)
@[simp] theorem State.wr_joinOf (s : State) (f : Fld) (v : Nat) (n : Nat) : (s.wr f v).joinOf n = s.joinOf n := (rfl)
@[simp] theorem State.wr_chan (s : State) (f : Fld) (v : Nat) (e c : Nat) : (s.wr f v).chan e c = s.chan e c := (rfl)
@[simp] theorem State.wr_sec_ (s : State) (f : Fld) (v : Nat) (i : Nat) : (s.wr f v).sec_ i = s.sec_ i := (rfl)
@[simp] theorem State.wr_pin (s : State) (f : Fld) (v : Nat) (p c : Nat) : (s.wr f v).pin p c = s.pin p c := (rfl)
@[simp] theorem State.wr_measCh (s : State) (f : Fld) (v : Nat) (c : Nat) : (s.wr f v).measCh c = s.measCh c := (rfl)
@[simp] theorem State.wr_poll (s : State) (f : Fld) (v : Nat) (i : Nat) : (s.wr f v).poll i = s.poll i := (rfl)
@[simp] theorem State.wr_path (s : State) (f : Fld) (v : Nat) (n d : Nat) : (s.wr f v).path n d = s.path n d := (rfl)
@[simp] theorem State.wr_rop (s : State) (f : Fld) (v : Nat) (j : Nat) : (s.wr f v).rop j = s.rop j := (rfl)
@[simp] theorem State.wr_row (s : State) (f : Fld) (v : Nat) (r : Nat) : (s.wr f v).row r = s.row r := (rfl)
@[simp] theorem State.wr_txq (s : State) (f : Fld) (v : Nat) (k : Nat) : (s.wr f v).txq k = s.txq k := (rfl)
@[simp] theorem State.wr_rxq (s : State) (f : Fld) (v : Nat) (p : Nat) : (s.wr f v).rxq p = s.rxq p := (rfl)
@[simp] theorem State.wr_brgq (s : State) (f : Fld) (v : Nat) (p : Nat) : (s.wr f v).brgq p = s.brgq p := (rfl)
@[simp] theorem State.wr_domain (s : State) (f : Fld) (v : Nat) (d : Nat) : (s.wr f v).domain d = s.domain d := (rfl)
@[simp] theorem State.setWord_port (s : State) (a v : Nat) (i : Nat) : (s.setWord a v).port i = s.port i := (rfl)
@[simp] theorem State.setWord_pair (s : State) (a v : Nat) (p : Nat) : (s.setWord a v).pair p = s.pair p := (rfl)
@[simp] theorem State.setWord_slot (s : State) (a v : Nat) (t : Nat) : (s.setWord a v).slot t = s.slot t := (rfl)
@[simp] theorem State.setWord_tag (s : State) (a v : Nat) (k : Nat) : (s.setWord a v).tag k = s.tag k := (rfl)
@[simp] theorem State.setWord_flight (s : State) (a v : Nat) (k : Nat) : (s.setWord a v).flight k = s.flight k := (rfl)
@[simp] theorem State.setWord_topo (s : State) (a v : Nat) (n t : Nat) : (s.setWord a v).topo n t = s.topo n t := (rfl)
@[simp] theorem State.setWord_point (s : State) (a v : Nat) (n : Nat) : (s.setWord a v).point n = s.point n := (rfl)
@[simp] theorem State.setWord_busLock (s : State) (a v : Nat) (p : Nat) : (s.setWord a v).busLock p = s.busLock p := (rfl)
@[simp] theorem State.setWord_cycOf (s : State) (a v : Nat) (n : Nat) : (s.setWord a v).cycOf n = s.cycOf n := (rfl)
@[simp] theorem State.setWord_joinOf (s : State) (a v : Nat) (n : Nat) : (s.setWord a v).joinOf n = s.joinOf n := (rfl)
@[simp] theorem State.setWord_chan (s : State) (a v : Nat) (e c : Nat) : (s.setWord a v).chan e c = s.chan e c := (rfl)
@[simp] theorem State.setWord_sec_ (s : State) (a v : Nat) (i : Nat) : (s.setWord a v).sec_ i = s.sec_ i := (rfl)
@[simp] theorem State.setWord_pin (s : State) (a v : Nat) (p c : Nat) : (s.setWord a v).pin p c = s.pin p c := (rfl)
@[simp] theorem State.setWord_measCh (s : State) (a v : Nat) (c : Nat) : (s.setWord a v).measCh c = s.measCh c := (rfl)
@[simp] theorem State.setWord_poll (s : State) (a v : Nat) (i : Nat) : (s.setWord a v).poll i = s.poll i := (rfl)
@[simp] theorem State.setWord_path (s : State) (a v : Nat) (n d : Nat) : (s.setWord a v).path n d = s.path n d := (rfl)
@[simp] theorem State.setWord_rop (s : State) (a v : Nat) (j : Nat) : (s.setWord a v).rop j = s.rop j := (rfl)
@[simp] theorem State.setWord_row (s : State) (a v : Nat) (r : Nat) : (s.setWord a v).row r = s.row r := (rfl)
@[simp] theorem State.setWord_txq (s : State) (a v : Nat) (k : Nat) : (s.setWord a v).txq k = s.txq k := (rfl)
@[simp] theorem State.setWord_rxq (s : State) (a v : Nat) (p : Nat) : (s.setWord a v).rxq p = s.rxq p := (rfl)
@[simp] theorem State.setWord_brgq (s : State) (a v : Nat) (p : Nat) : (s.setWord a v).brgq p = s.brgq p := (rfl)
@[simp] theorem State.setWord_domain (s : State) (a v : Nat) (d : Nat) : (s.setWord a v).domain d = s.domain d := (rfl)

end Sys2Proof.Machine
end

