-- ==== Sys2Proof/WellFormed.lean ====
section
/-!
DEFINITION. Well-formed commands: an operand that carries a bit field of the manual as a number lies within that field, and a byte string has a
length that its carrier allows. Operands whose type bounds them (`Fin`, `BitVec`, `Bool`) need no check.
-/

namespace Sys2Proof

/-- A slot of a SWEEP frame (Table 06-2): its station, and parts of at most 255 units of 4 bytes. -/
def Slice.wf (x : Slice) : Bool :=
  decide (1 ≤ x.station ∧ x.station ≤ 254 ∧ x.cycle < 2 ^ 32 ∧ x.outPart.length + x.outMiss ≤ 1024 ∧ x.inPart.length + x.inMiss ≤ 1024
    ∧ (x.mark ≠ .cut → x.outMiss = 0 ∧ x.inMiss = 0) ∧ x.rsv < 2 ^ 35)

/-- A block has eight bytes. -/
def Block.wf (b : Block) : Bool := decide (b.body.length = 8)

/-- A ring frame (Tables 05-4 to 05-6): every header field within its bits, the 32-byte extension of REQ and RSP frames and of no other, of
which a frame that was cut short may lack bytes, and slices in SWEEP frames alone. -/
def Frame.wf (f : Frame) : Bool :=
  decide (f.typ < 16 ∧ f.ver < 16 ∧ f.wrap < 4 ∧ f.tc < 8 ∧ f.xcnt < 16 ∧ f.hops < 1024 ∧ f.dst < 2 ^ 18 ∧ f.tn < 16 ∧ f.src < 2 ^ 18)
    && decide (f.gen < 8 ∧ f.tag < 8192 ∧ f.lseq < 4096 ∧ f.td < 8 ∧ f.op < 256 ∧ f.sub < 256 ∧ f.fcnt < 2 ^ 32 ∧ f.arg < 2 ^ 64)
    && (let e := if f.typ = 2 ∨ f.typ = 3 then 32 else 0
        decide (f.ext.length ≤ e ∧ (f.mark ≠ .cut → f.ext.length = e ∧ f.missing = 0) ∧ f.payload.length + f.missing ≤ 2048))
    && decide ((f.slices ≠ [] → f.typ = 1) ∧ f.rsv < 2 ^ 31)
    && f.slices.all Slice.wf

/-- A request (Tables 04-1, 05-5, 05-7). -/
def Req.wf (r : Req) : Bool :=
  decide (r.src < 2 ^ 18 ∧ r.tn < 16 ∧ r.tag < 8192 ∧ r.gen < 8 ∧ r.op < 256 ∧ r.opx < 256 ∧ r.node < 2 ^ 18 ∧ r.space < 2 ^ 14 ∧ r.off < 2 ^ 32)
    && decide (r.len ≤ 2048 ∧ r.tc < 8 ∧ r.lockId < 2 ^ 16 ∧ r.time < 2 ^ 96 ∧ r.td < 8 ∧ r.operand.length = 16 ∧ r.data.length ≤ 2048)

/-- A reply to a read of host memory: at most the 2,048 bytes of a buffer. -/
def HostData.wf : HostData → Bool
  | .data b => decide (b.length ≤ 2048)
  | .failed => true

def RspIn.wf : RspIn → Bool
  | .frame p f => decide (p < 5) && f.wf
  | .cqWrite p _ => decide (p < 512)
  | .dataWrite k _ => decide (k < 8192)
  | .sumWrite p _ => decide (p < 512)

/-- A requester of a set-up access: functions 1 to 15 are virtual. -/
def Requester.wf : Requester → Bool
  | .pf0 => true
  | .vf t => decide (1 ≤ t ∧ t ≤ 15)
  | .ring src tn => decide (src < 2 ^ 18 ∧ tn < 16)

/-- A Modbus response carries at most 250 data bytes (Table 10-4). -/
def ModbusRsp.wf : ModbusRsp → Bool
  | .data b => decide (b.length ≤ 250)
  | .exception c => decide (c < 256)
  | .bad => true

/-- An ISDU response carries at most 232 data bytes, or ErrorCode and AdditionalCode. -/
def IsduRsp.wf : IsduRsp → Bool
  | .data b => decide (b.length ≤ 232)
  | .error c => decide (c < 2 ^ 16)

/-- A state delta: its points, channels, rows and machines exist, and records have 64 bytes (R400). -/
def Delta.wf (d : Delta) : Bool :=
  decide (d.k < 2 ^ 64) && d.points.all (fun x => decide (x.n < 65536 ∧ x.record.length = 64))
    && d.chans.all (fun x => decide (x.1 < 256)) && d.rows.all (fun x => decide (x.1 < 4096)) && d.machines.all fun x => decide (x.1 < 256 ∧ x.2.1 < 64)

/-- What a boot finds: slots 0 and 1, lanes 0 to 4, channels 0 to 255. -/
def BootObs.wf (o : BootObs) : Bool :=
  o.badFw.all (fun x => decide (x < 2)) && o.badBnd.all (fun x => decide (x < 2)) && o.lanes.all (fun x => decide (x < 5))
    && o.gains.all fun x => decide (x < 256)

/-- The operands of a command lie within the ranges that their fields have. -/
def Instr.wellFormed (i : Instr) : Bool :=
  match i with
  | .powerPathStart => true
  | .seatingConfirmed => true
  | .railsGood => true
  | .boot o => o.wf
  | .bootReset _ => true
  | .bootRecover _ => true
  | .rcvChunkGo _ _ _ => true
  | .rcvServeStart _ _ => true
  | .rcvTransferDone _ _ peer image => decide (peer < 2 ^ 128) && decide (image.length ≤ 96 * 2 ^ 20)
  | .commit => true
  | .registerWrite q _ _ _ => q.wf
  | .pcieReset _ => true
  | .functionLevelReset _ => true
  | .summaryEnable _ _ => true
  | .slotDisable _ => true
  | .regionDisable _ => true
  | .qEnable _ => true
  | .qReset _ _ => true
  | .summaryPoll _ => true
  | .summaryReadDone _ d => d.wf
  | .doorbellReadDone _ d => d.wf
  | .descriptorArrival _ d buf => d.wf && buf.wf
  | .coalesceTimer _ => true
  | .quarantineEnd _ => true
  | .transactionTimeout _ => true
  | .rspReceive x => x.wf
  | .pathLoss _ _ => true
  | .queueManagerError _ => true
  | .pcieLinkLoss _ => true
  | .reqReceive f => f.wf
  | .read r d => r.wf && d.wf
  | .write r => r.wf
  | .rmwSwap r => r.wf
  | .rmwCas r => r.wf
  | .rmwAdd r => r.wf
  | .rmwAnd r => r.wf
  | .rmwOr r => r.wf
  | .rmwXor r => r.wf
  | .rmwMasked r => r.wf
  | .lock r => r.wf
  | .unlock r => r.wf
  | .send r => r.wf
  | .recv r => r.wf
  | .subscribeCyclic r => r.wf
  | .subscribeOnChange r => r.wf
  | .unsubscribe r => r.wf
  | .tableLoad r => r.wf
  | .tableLoadActivate r => r.wf
  | .fenceSq r => r.wf
  | .fenceSlot r => r.wf
  | .fenceDone _ => true
  | .queryTime r => r.wf
  | .queryTopology r => r.wf
  | .queryIdentity r => r.wf
  | .queryTags r => r.wf
  | .powerRun r => r.wf
  | .powerTrim r => r.wf
  | .powerDoze r => r.wf
  | .powerDormant r => r.wf
  | .updateFirmware r _ _ => r.wf
  | .updateBundle r _ _ => r.wf
  | .timedOpDue r => r.wf
  | .stationAssignment _ f => f.wf
  | .frameForward _ f _ => f.wf
  | .junctionRoute _ f _ => f.wf
  | .ackReceive _ q => q.a.wf && q.b.wf
  | .nakReceive _ q => q.a.wf && q.b.wf
  | .ackTimer _ => true
  | .replayTimerExpiry _ => true
  | .silentTimeout _ => true
  | .signalLoss _ => true
  | .linkRestartTimer _ => true
  | .linkRetryTimer _ => true
  | .bringupTimeout _ => true
  | .signalLocked _ => true
  | .trainBlockLockHeld _ => true
  | .readySetReceive x => x.2.a.wf && x.2.b.wf
  | .probeReceive _ => true
  | .echoReceive _ t => decide (t < 2 ^ 64)
  | .probeRetry _ => true
  | .linkStateReceive _ f => f.wf
  | .uplinkFrameReceive _ _ b => decide (b.length < 2 ^ 16)
  | .uplinkLockLoss _ => true
  | .joinTimerExpiry _ => true
  | .announceReceive _ f => f.wf
  | .announceTimer _ => true
  | .stationAgeOut _ _ => true
  | .masterClaimTimer _ => true
  | .cycleStart _ k => decide (k < 2 ^ 64)
  | .sweepSliceReceive _ f => f.wf
  | .captureInstant _ k m _ => decide (k < 2 ^ 64) && (m.all fun y => decide (y.1 < 256))
  | .exchangeClose _ k => decide (k < 2 ^ 64)
  | .remoteFetchDeadline => true
  | .reflexOverrun => true
  | .outputFreeze => true
  | .outputDeadline => true
  | .syncSend _ => true
  | .syncReceive _ f res => f.wf && decide (res < 2 ^ 64)
  | .syncPathTimeout _ _ => true
  | .holdoverExpiry _ => true
  | .pdelayTimer _ => true
  | .pdelayReqReceive _ f => f.wf
  | .pdelayRespReceive _ f => f.wf
  | .ptpSyncReceive _ t => decide (t < 2 ^ 96)
  | .ptpSyncTimeout _ => true
  | .ptpGrandmasterSend _ _ => true
  | .ppsEdge _ => true
  | .ppsTimeout => true
  | .domainSample _ => true
  | .tdCmdSet _ => true
  | .tdCmdStep _ => true
  | .tdCmdSlew _ => true
  | .slewDone _ => true
  | .tdSnapLatch => true
  | .ppsOutPulse => true
  | .ppsOutEnd => true
  | .scheduledEdgeDue _ _ => true
  | .pinEdge _ _ _ => true
  | .chatterEnd _ _ _ => true
  | .stuckTimeout _ _ => true
  | .doCurrentLimitLatch _ _ _ => true
  | .doRetry _ _ => true
  | .driverOverheat _ _ => true
  | .driverCooled _ _ => true
  | .fpBreakerTrip _ => true
  | .fpTripClear _ => true
  | .fieldConditionDetect _ _ _ _ => true
  | .fieldPowerLoss => true
  | .fieldPowerReturn => true
  | .derateStep => true
  | .restoreStep => true
  | .tjMaxReached => true
  | .aiConditionDetect _ _ _ => true
  | .i20ShuntReclose _ => true
  | .bgCalVisit _ _ _ => true
  | .scalZero _ => true
  | .scalSpan _ => true
  | .scalDone codes => codes.length = 16
  | .aoShortLatch _ => true
  | .aoRetry _ => true
  | .aoOpenDetect _ _ => true
  | .canFrameReceive _ item _ tec rec => decide (16 ≤ item.bytes.length ∧ item.bytes.length ≤ 2064) && decide (tec < 512) && decide (rec < 512)
  | .speFrameReceive _ b _ => decide (b.bytes.length < 2 ^ 16)
  | .uartBlockEnd _ item => decide (17 ≤ item.bytes.length ∧ item.bytes.length ≤ 272)
  | .modbusResponse _ x => x.wf
  | .modbusRspTimeout _ => true
  | .iolPdReceive _ _ data => decide (data.length ≤ 32)
  | .iolEventReceive _ data => decide (data.length ≤ 32)
  | .rawSendDone _ _ _ => true
  | .autoRateStep _ _ => true
  | .iolWakeup _ com => (com.all fun y => decide (1 ≤ y.1 ∧ y.1 ≤ 3))
  | .iolPowerRetry _ => true
  | .canBusOff _ => true
  | .canAutoRecover _ => true
  | .canRecover _ => true
  | .iolRestart _ => true
  | .controllerError _ _ _ => true
  | .bridgeServe _ => true
  | .cacheFlush => true
  | .lockWindowClose _ => true
  | .lockGrant _ => true
  | .lockExpiry _ => true
  | .lockRelease _ src tn id => decide (src < 2 ^ 18) && decide (tn < 16) && decide (id < 2 ^ 16)
  | .tunReceive _ f => f.wf
  | .tunReplayDue _ => true
  | .bridgeQueueError _ => true
  | .heldFrameAdmit _ _ _ => true
  | .bankRetire _ _ => true
  | .drainComplete => true
  | .bufferAudit lost cross => (lost.all fun y => decide (y.1 < 65536)) && (cross.all fun y => decide (y.1 < 8448 ∧ y.2 < 8448))
  | .schedulerError _ => true
  | .tableSyncDone _ => true
  | .reflexMemoryError _ => true
  | .briarJmp _ _ _ => true
  | .briarWait _ _ _ => true
  | .briarIn _ _ _ => true
  | .briarOut _ _ => true
  | .briarPush _ _ => true
  | .briarPull _ _ => true
  | .briarMov _ _ _ => true
  | .briarSet _ _ => true
  | .briarIrq _ _ => true
  | .briarTimewait _ _ => true
  | .briarCnt _ _ => true
  | .briarNop _ _ => true
  | .channelStallResume _ _ _ => true
  | .swapDeadline _ _ => true
  | .fifoEccError _ _ _ => true
  | .engStop _ _ => true
  | .engRestart _ _ => true
  | .engStartTWrite _ _ => true
  | .channelTimedStart _ => true
  | .twinForm _ _ => true
  | .formTimeout => true
  | .peerAnnounceAbsence => true
  | .deltaReceive d => d.wf
  | .deltaWindowExpiry => true
  | .resync => true
  | .switchover => true
  | .takeover _ => true
  | .testPulse _ => true
  | .testPulseEnd _ => true
  | .relinquishConfirm => true
  | .relinquishTimeout => true
  | .hello _ fs => fs.all Frame.wf
  | .reply _ fs => fs.all Frame.wf
  | .cert _ fs => fs.all Frame.wf
  | .proof _ fs => fs.all Frame.wf
  | .finish _ fs => fs.all Frame.wf
  | .rekey _ fs => fs.all Frame.wf
  | .rekeyReply _ fs => fs.all Frame.wf
  | .rekeyFinish _ fs => fs.all Frame.wf
  | .rekeyReq _ fs => fs.all Frame.wf
  | .reject _ fs => fs.all Frame.wf
  | .authStepTimeout _ => true
  | .rekeyTimer _ => true
  | .rekeyStepTimeout _ => true
  | .spdmRequest _ b _ => decide (b.length < 2 ^ 20)
  | .spdmSessionEnd _ => true
  | .getChallenge => true
  | .submitToken _ => true
  | .getCert _ => true
  | .attest _ => true
  | .random _ => true
  | .dbgRead _ => true
  | .dbgWrite _ => true
  | .challengeExpiry => true
  | .tamperDetect _ => true
  | .drbgHealthFail => true
  | .drbgRetest _ => true
  | .drbgReseed => true
  | .faultOccurrence _ _ _ => true
  | .faultClear _ => true
  | .collectorSelfFault => true
  | .safeEnter => true
  | .safeExit => true
  | .logFlush _ _ => true
  | .logWriteRetry _ => true
  | .logRead _ _ => true
  | .logCopyDone _ => true
  | .feedPresent _ => true
  | .feedAbsent _ => true
  | .feedOv _ => true
  | .ovRecover _ => true
  | .boardUnseated => true
  | .pathTrip _ _ => true
  | .breakerRearm _ => true
  | .breakerRetry _ => true
  | .tripClear _ => true
  | .railWarning _ => true
  | .railRegulationFail _ => true
  | .railRestart => true
  | .feedsLost _ => true
  | .dozeEntry => true
  | .wakeEvent _ => true
  | .dozeExit _ _ => true
  | .retentionReloadDone _ => true
  | .pllLock _ _ => true
  | .dormantEntry => true
  | .dormantWake _ => true
  | .vltTimerAlarm => true
  | .clockFail _ => true
  | .islandSwitch _ _ => true
  | .islandSwitchDone _ => true
  | .clockGateWrite _ _ _ => true
  | .fcntGo => true
  | .fcntDone _ _ _ => true
  | .coreError _ => true
  | .d2dCrcFail _ => true
  | .d2dRetrain _ _ _ => true
  | .vmodOverload _ => true
  | .vmodRetry _ => true
  | .msgDeliveryReceive f => f.wf
  | .msgInterruptReceive f => f.wf
  | .msgMessageReceive f => f.wf
  | .uplinkLinkUp _ => true
  | .pcieLinkUp _ _ => true
  | .reverseTurnOff _ => true
  | .isduResponse _ x => x.wf
  | .isduTimeout _ => true
  | .objectFrameSent _ _ => true
  | .canBusDominant _ _ => true
  | .speLinkDown _ => true
  | .speLinkUp _ => true
  | .iolDeviceLost _ => true
  | .ptpDelayReqTimer _ => true
  | .twinSafeNotice _ => true
  | .dvfsDone => true
  | .switchCellTime => true
  | .ringOutputFree _ => true
  | .latchedRegisterRead q _ _ => q.wf

end Sys2Proof
end

