-- ==== Sys2Proof/Tests/Slice0.lean ====
section
/-!
SUPPORT. Tests. Well-formedness refuses ill-formed terms; a few values worked out by hand from the manual; and for every statement that has
hypotheses a state and operands that meet them, clause by clause. The functions that stand for cryptography are opaque: where a clause asks that one
of them accepts, its witness is given for any functions that accept (`proof_accepted`, `slot_accepted` and the witnesses of LinkAuthentication,
SecurityUnit and BootAndCommit).
-/

set_option Elab.async false
set_option linter.unusedVariables false

namespace Sys2Proof.Tests
open Sys2Proof.Machine

/-! ### Well-formedness: for each check, a term that it refuses -/

theorem test_wf_slice : ([{ station := 1 }, { station := 254 }] : List Slice).all (·.wf) = true ∧
    ([{ station := 0 }, { station := 255 }, { station := 1, cycle := 2 ^ 32 }, { station := 1, outPart := List.replicate 1025 0 },
      { station := 1, inPart := List.replicate 1025 0 }, { station := 1, rsv := 2 ^ 35 }, { station := 1, outMiss := 1 }] : List Slice).any (·.wf) = false := by decide +kernel

theorem test_wf_frame : ({} : Frame).wf = true ∧ ({ typ := 2, ext := List.replicate 32 0 } : Frame).wf = true ∧
    ([{ typ := 16 }, { ver := 16 }, { wrap := 4 }, { tc := 8 }, { xcnt := 16 }, { hops := 1024 }, { dst := 2 ^ 18 }, { tn := 16 }, { src := 2 ^ 18 },
      { gen := 8 }, { tag := 8192 }, { lseq := 4096 }, { td := 8 }, { op := 256 }, { sub := 256 }, { fcnt := 2 ^ 32 }, { arg := 2 ^ 64 },
      { typ := 2 }, { ext := [0] }, { payload := List.replicate 2049 0 }, { typ := 4, slices := [{ station := 1 }] },
      { typ := 1, slices := [{ station := 0 }] }, { rsv := 2 ^ 31 }, { missing := 1 }] : List Frame).any (·.wf) = false := by decide +kernel

/-- A request with 16 operand bytes. -/
abbrev req0 : Req := { operand := List.replicate 16 0 }

theorem test_wf_req : req0.wf = true ∧
    ([{ req0 with src := 2 ^ 18 }, { req0 with tn := 16 }, { req0 with tag := 8192 }, { req0 with gen := 8 }, { req0 with op := 256 },
      { req0 with opx := 256 }, { req0 with node := 2 ^ 18 }, { req0 with space := 2 ^ 14 }, { req0 with off := 2 ^ 32 }, { req0 with len := 2049 },
      { req0 with tc := 8 }, { req0 with lockId := 2 ^ 16 }, { req0 with time := 2 ^ 96 }, { req0 with td := 8 }, { req0 with operand := [] },
      { req0 with data := List.replicate 2049 0 }] : List Req).any (·.wf) = false := by decide +kernel

theorem test_wf_delta : ({ k := 0 } : Delta).wf = true ∧
    ([{ k := 2 ^ 64 }, { k := 0, points := [{ n := 65536, record := List.replicate 64 0 }] }, { k := 0, points := [{ n := 0, record := [] }] },
      { k := 0, chans := [(256, {})] }, { k := 0, rows := [(4096, {})] }, { k := 0, machines := [(256, 0, 0)] },
      { k := 0, machines := [(0, 64, 0)] }] : List Delta).any (·.wf) = false := by decide +kernel

theorem test_wf_boot : ({} : BootObs).wf = true ∧
    ([{ badFw := [2] }, { badBnd := [2] }, { lanes := [5] }, { gains := [256] }] : List BootObs).any (·.wf) = false := by decide +kernel

theorem test_wf_commands : ([.read req0 .failed, .rspReceive (.cqWrite 511 true), .spdmRequest 0 [] .none] : List Instr).all (·.wellFormed) = true ∧
    ([.summaryReadDone 0 (.data (List.replicate 2049 0)), .rspReceive (.frame 5 {}), .rspReceive (.frame 0 { typ := 16 }), .rspReceive (.cqWrite 512 true),
      .registerWrite (.vf 0) 0 false 0, .registerWrite (.vf 16) 0 false 0, .registerWrite (.ring (2 ^ 18) 0) 0 false 0,
      .registerWrite (.ring 0 16) 0 false 0, .modbusResponse 0 (.data (List.replicate 251 0)), .modbusResponse 0 (.exception 256),
      .isduResponse 0 (.data (List.replicate 233 0)), .isduResponse 0 (.error (2 ^ 16)), .rcvTransferDone 0 true (2 ^ 128) [], .echoReceive 0 (2 ^ 64),
      .ackReceive 0 ⟨⟨true, []⟩, ⟨true, List.replicate 8 0⟩⟩, .nakReceive 0 ⟨⟨true, List.replicate 8 0⟩, ⟨true, []⟩⟩, .rspReceive (.dataWrite 8192 true),
      .cycleStart 0 (2 ^ 64), .captureInstant 0 (2 ^ 64) [] [],
      .captureInstant 0 0 [(256, [])] [], .exchangeClose 0 (2 ^ 64), .syncReceive 0 {} (2 ^ 64), .ptpSyncReceive 0 (2 ^ 96),
      .canFrameReceive 0 ⟨List.replicate 2065 0, 0⟩ true 0 0, .canFrameReceive 0 ⟨List.replicate 15 0, 0⟩ true 0 0,
      .canFrameReceive 0 ⟨List.replicate 16 0, 0⟩ true 512 0, .canFrameReceive 0 ⟨List.replicate 16 0, 0⟩ true 0 512,
      .uartBlockEnd 0 ⟨List.replicate 273 0, 0⟩, .uartBlockEnd 0 ⟨List.replicate 16 0, 0⟩, .iolPdReceive 0 true (List.replicate 33 0),
      .iolEventReceive 0 (List.replicate 33 0), .iolWakeup 0 (some (4, 0, 0)), .iolWakeup 0 (some (0, 0, 0)), .lockRelease 0 (2 ^ 18) 0 0,
      .lockRelease 0 0 16 0, .lockRelease 0 0 0 (2 ^ 16), .bufferAudit [(65536, 0)] [], .bufferAudit [] [(8448, 0)],
      .bufferAudit [] [(0, 8448)], .scalDone (List.replicate 15 (0, 0, 0)), .rspReceive (.sumWrite 512 true)] : List Instr).any (·.wellFormed) = false := by decide +kernel

theorem test_wf_ethernet : (Instr.uplinkFrameReceive 0 true (List.replicate 65536 0)).wellFormed = false ∧
    (Instr.speFrameReceive 0 ⟨List.replicate 65536 0, 0⟩ true).wellFormed = false := by
  simp only [Instr.wellFormed, List.length_replicate]; decide

/-! ### Values worked out by hand from the manual's tables -/

/-- Node ID of station 5 on ring 1 (Table 01-1: RING in bits 17..8, STATION in bits 7..0). -/
theorem test_node_id : nodeId 1 5 = 0x105 := by decide

/-- A 16-bit counter stays at its largest value (R166). -/
theorem test_counter_saturates : satAdd 16 0xFFFF 1 = 0xFFFF ∧ satAdd 16 0xFFFE 1 = 0xFFFF := by decide

/-- A delta of 2 points, 1 channel, 3 rows and 1 machine: 64 + 144 + 256 + 48 + 8 bytes (R400). -/
theorem test_delta_length : deltaBytes 2 1 3 1 = 520 := by decide

/-- Bytes are little-endian (R4). -/
theorem test_little_endian : leNat [0x44, 0x48, 0x40, 0x76] = 0x76404844 := by decide

/-- An ACK of LSEQ 0x123 as a block of the lane (Tables 05-2 and 05-3), and what two such blocks, and one beside an idle block, stand for (R137). -/
theorem test_ordered_set : setBlock 1 0x123 = ⟨true, [0x4B, 0x01, 0x23, 0x01, 0x05, 0, 0, 0]⟩ ∧ setOf (twinSets 1 0x123) = some (1, 0x123) ∧
    setOf ⟨setBlock 1 0x123, ⟨true, 0x1E :: List.replicate 7 0⟩⟩ = none ∧ setOf (twinSets 4 0) = none := by decide

/-- The check value of CRC-32C over the ASCII digits 1 to 9. -/
theorem test_crc32c : crc32c [0x31, 0x32, 0x33, 0x34, 0x35, 0x36, 0x37, 0x38, 0x39] = 0xE3069283#32 := by decide +kernel

/-- binary64: 1 + 2 = 3. -/
theorem test_binary64_add : f64.sub 0x4008000000000000 0x3FF0000000000000 = 0x4000000000000000 := by decide +kernel

/-- After reset the hub is not READY, waits with an empty queue, and an idle step answers a next state (the log's entry 2). -/
theorem test_reset_idles : State.reset.pending = [] ∧ State.reset.ready = false ∧
    Machine.step State.reset = .next { State.reset with now := State.reset.now + 65536 } := ⟨rfl, by decide +kernel, rfl⟩

/-- No row of the table gives a command bits, so no word spells one. -/
theorem test_no_words : decodeTableWord 32 0 = none ∧ State.withFetchWord State.reset 32 0 = State.reset := ⟨rfl, rfl⟩

/-- R443, R508: RES 8 % fast of IOSC fails; 0.6 % off a sound VRES fails; and a VRES 10 % off both fails in place of RES. -/
theorem test_resonator : resOk {} = true ∧ resOk { res := 54000000 } = false ∧ resOk { res := 50300000 } = false ∧
    resOk { vres := 36000000 } = true ∧ vresOk { vres := 36000000 } = false ∧ vresOk {} = true := by decide +kernel

/-- R517, the example: WINDOW 1,000,000 and REF RES give 50,000,000. -/
theorem test_frequency_counter : (State.reset.wr R.CLK_FCNT_WIN_WINDOW 1000000).refEdges 0 = 50000000 := by decide +kernel

/-! ### States and terms that the witnesses share -/

abbrev tx0 : Tx := { slot := 0, pair := 0, cid := 0, req := {} }
abbrev lock0 : LockSeq := { id := 1, slot := 0, pair := 0 }
abbrev raw0 : RawItem := ⟨0, []⟩
abbrev op0 : BusOp := { req := {} }
abbrev slice0 : Slice := {}
abbrev stg0 : Staging := ⟨[], 0⟩
theorem pickTag_free (s : State) (h : s.hif.tags = []) :
    s.pickTag = (some (((Config.freeValue s.drawn).toNat + 0) % 8192), { s with drawn := s.drawn + 1 }) := by
  have e : List.range 8192 = 0 :: List.range' 1 8191 := by rw [List.range_eq_range', show 8192 = 8191 + 1 from rfl, List.range'_succ]
  simp only [State.pickTag, State.draw, e, List.map_cons, List.find?_cons]
  simp [State.tag, h, NMap.get]
/-- READY, with pair 0 of port 0 a bus of mode `m` and controller 0 of kind `k`. -/
abbrev busOn (k m : Nat) : State :=
  ((((((((State.reset.wr R.ID_STATE_READY 1).wr (R.PORT_FN_FN_A 0) fnPair).wr (R.PORT_FN_FN_B 0) fnPair).wr (R.PORT_PAIR_MODE0 0) m).wr
    (R.PORT_PAIR_KIND0 0) k).wr (R.PCTL_UART_CFG_EN 0) 1).wr (R.PCTL_CAN_CFG_EN 0) 1).wr (R.PCTL_SPE_CFG_EN 0) 1)
/-- READY, with an IO-Link master of MODE `m` at port 0. -/
abbrev iolOn (m : Nat) : State :=
  ((((State.reset.wr R.ID_STATE_READY 1).wr (R.PORT_FN_FN_C 0) fnIol).wr (R.PORT_FN_FP_MODE 0) 3).wr (R.PCTL_IOL_CFG_EN 0) 1).wr
    (R.PCTL_IOL_CFG_MODE 0) m
/-- A hub at station 5 of ring 1, joined. -/
abbrev onRing (s : State) : State :=
  ((s.wr R.RING_NODE_STATE_RING 1).wr R.RING_NODE_STATE_STATION 5).wr R.RING_NODE_STATE_JOINED 1
/-- The PCIe link is up and every function is bus master. -/
abbrev hostUp (s : State) : State := { s with hif.pcieUp := true, hif.busMaster := List.range 16 }
abbrev recv0 (x : List Byte) : Tx := { tx0 with req := { op := opRecv, operand := x } }
abbrev sub0 : Sub := { num := 0, point := 0, slot := none, node := 0, tn := 0, pair := 0, onChange := false }
abbrev rsub0 : RemSub := { node := 0, slot := 0, num := 0, point := 0, pair := 0 }
theorem leBytes_length (n x : Nat) : (leBytes n x).length = n := by
  induction n generalizing x with
  | zero => rfl
  | succ n ih => simp [leBytes, ih]
theorem leNat_leBytes (n x : Nat) : leNat (leBytes n x) = x % 256 ^ n := by
  induction n generalizing x with
  | zero => simp [leNat, leBytes, Nat.mod_one]
  | succ n ih => simp [leNat, leBytes, ih, Nat.pow_succ', Nat.mod_mul]
theorem leAt_last (a : List Byte) (i n x : Nat) (h : a.length = i) : leAt (a ++ leBytes n x) i n = x % 256 ^ n := by
  simp [leAt, slice, ← h, List.take_of_length_le, leBytes_length, leNat_leBytes]
theorem leAt_serial (a : List Byte) (i : Nat) (h : a.length = i) :
    leAt (a ++ leBytes 16 Config.partSerial.toNat) i 16 = Config.partSerial.toNat := by
  rw [leAt_last a i 16 _ h]; exact Nat.mod_eq_of_lt Config.partSerial.isLt
theorem leAt_not_serial (a : List Byte) (i : Nat) (h : a.length = i) :
    leAt (a ++ leBytes 16 (Config.partSerial + 1).toNat) i 16 ≠ Config.partSerial.toNat := by
  rw [leAt_last a i 16 _ h, show 256 ^ 16 = 2 ^ 128 from rfl, Nat.mod_eq_of_lt (Config.partSerial + 1).isLt]
  intro e
  have := BitVec.eq_of_toNat_eq e
  simp at this
abbrev qf0 : QFrame := { inp := 0, out := 0, cls := 0, cells := 1, frame := {} }
abbrev edge0 : Edge := ⟨0, true, 0, 0⟩
abbrev hand0 : Hand := { want := 0 }
abbrev frz0 : Freeze := { k := 0 }
abbrev txi0 : TxItem := { item := [] }
abbrev tun0 : TunFrame := ⟨0, 0, 0, [], 0⟩
abbrev line0 : CacheLine := ⟨0, 0, 0, [], false, 0⟩
abbrev rec0 : LogRec := ⟨0, []⟩
abbrev rq0 : Rq := ⟨0, 0, 0⟩
abbrev delta0 : Delta := { k := 0 }
abbrev dpt0 : DeltaPoint := { n := 0, record := [] }
abbrev row0 : Row := Row.ofBytes []
/-- A message of the link authentication in one fragment. -/
abbrev msg0 (m : Byte) (b : List Byte) : List Frame := [{ typ := fMgmt, op := 4, payload := [m, 0, 1, 0] ++ leBytes 4 b.length ++ b }]
/-- Lane `i` in authentication (`st` 1) or UP, with a hand of each kind that wants message `m`. -/
abbrev handAt (i : Nat) (st : PortSt) (m : Nat) : State :=
  ((State.reset.setPort i { st := st }).setSec i { auth := some { want := m }, rekey := some { want := m } }).wr R.SEC_STAT_DRBG_OK 1
/-- The mailbox holds the bytes `b` and the state accepts commands. -/
abbrev mbx0 (b : NMap Byte) : State := { State.reset.wr R.ID_STATE_READY 1 with sec.mbx := b }
theorem joinFrags_one (m : Byte) (b : List Byte) (h : b.length = 48) :
    joinFrags m.toNat [[m, 0, 1, 0] ++ leBytes 4 b.length ++ b] = some b := by
  have e : leBytes 4 b.length = [48, 0, 0, 0] := by rw [h]; rfl
  rw [e]
  simp [joinFrags, leAt, slice, leNat, h]
theorem authIn_one (s : State) (i : Nat) (m : Byte) (b : List Byte) (h : b.length = 48) : (s.authIn i m.toNat (msg0 m b)).1 = some b := by
  simpa [State.authIn, State.readTag, msg0] using joinFrags_one m b h
theorem expects_one (i : Nat) (m : Byte) (b : List Byte) (hl : b.length = 48)
    (h : ((handAt i .auth m.toNat).sec_ i).auth = some { want := m.toNat }) (h2 : (handAt i .auth m.toNat).authOpen i = true) :
    (handAt i .auth m.toNat).expects i m.toNat (msg0 m b) = some ({ want := m.toNat }, b) := by
  simp only [State.expects, h, authIn_one _ i m b hl, h2]; simp
theorem expects_rekey_one (i : Nat) (m : Byte) (b : List Byte) (hl : b.length = 48)
    (h : ((handAt i .up m.toNat).sec_ i).rekey = some { want := m.toNat }) (h2 : (handAt i .up m.toNat).isUp i = true) :
    (handAt i .up m.toNat).expectsRekey i m.toNat (msg0 m b) = some ({ want := m.toNat }, b) := by
  simp only [State.expectsRekey, h, authIn_one _ i m b hl, h2]; simp
theorem proof_accepted (he : ∀ k m g, Config.ecdsaOk k m g = true) (hm : ∀ k m g, Config.mldsaOk k m g = true)
    (hs : Config.chainSerial [] = 0) (hv : Config.chainSvn [] = 0) (hd : Config.chainDebug [] = false) :
    (handAt 0 .auth 4).proofReason 0 { want := 4 } (List.replicate 4843 0) = 0 := by
  have e : (handAt 0 .auth 4).proofOk 0 { want := 4 } (List.replicate 4843 0) = true := by
    simp only [State.proofOk, he, hm, hs, hv, hd]; decide +kernel
  simp only [State.proofReason, e, hv]; decide +kernel
theorem joinFrags_three (m : Byte) (a b c : List Byte) (ha : a.length = 2000) (hb : b.length = 2000) (hc : c.length = 843) :
    joinFrags m.toNat [[m, 0, 3, 0] ++ leBytes 4 4843 ++ a, [m, 1, 3, 0] ++ leBytes 4 4843 ++ b, [m, 2, 3, 0] ++ leBytes 4 4843 ++ c] =
      some (a ++ (b ++ c)) := by
  have e : leBytes 4 4843 = [0xEB, 0x12, 0, 0] := rfl
  rw [e]
  simp [joinFrags, leAt, slice, leNat, ha, hb, hc]
abbrev part0 (k : Byte) (x : List Byte) : Frame := { typ := fMgmt, op := 4, payload := [4, k, 3, 0] ++ leBytes 4 4843 ++ x }
theorem authIn_three (s : State) (i : Nat) (a b c : List Byte) (ha : a.length = 2000) (hb : b.length = 2000) (hc : c.length = 843) :
    (s.authIn i 4 [part0 0 a, part0 1 b, part0 2 c]).1 = some (a ++ (b ++ c)) := by
  simpa [State.authIn, State.readTag, part0] using joinFrags_three 4 a b c ha hb hc
theorem expects_three (a b c : List Byte) (ha : a.length = 2000) (hb : b.length = 2000) (hc : c.length = 843) :
    (handAt 0 .auth 4).expects 0 4 [part0 0 a, part0 1 b, part0 2 c] = some ({ want := 4 }, a ++ (b ++ c)) := by
  have h : ((handAt 0 .auth 4).sec_ 0).auth = some { want := 4 } := rfl
  have h2 : (handAt 0 .auth 4).authOpen 0 = true := by decide +kernel
  simp only [State.expects, h, authIn_three _ 0 a b c ha hb hc, h2]; rfl
theorem zeros_4843 (x : Byte) : List.replicate 2000 x ++ (List.replicate 2000 x ++ List.replicate 843 x) = List.replicate 4843 x := by
  rw [List.replicate_append_replicate, List.replicate_append_replicate]
/-- The ROM's state with the object `b` in firmware slot 0, GOOD. -/
abbrev stored0 (b : List Byte) : State := { State.reset with boot.stage := .rom, boot.fw0 := ⟨2, b⟩ }
theorem slot_accepted (b : List Byte) (h1 : checkHeader 1 b.length b = 0) (h2 : checkSigner 1 0 b = 0) (h3 : checkBody b = 0) :
    ∃ t', (let t := ((stored0 b).showSlots.wr R.SEC_STAT_DRBG_OK 1)
     let t := t.wr R.SEC_STAT_DEBUG (bnat t.sec.vault.debugNext)
     t.trySlots 1 ({} : BootObs).badFw (t.slotOrder 1)) = (some 0, t') := by
  generalize hu : (let t := (stored0 b).showSlots.wr R.SEC_STAT_DRBG_OK 1; t.wr R.SEC_STAT_DEBUG (bnat t.sec.vault.debugNext)) = u
  have e : u.slotOrder 1 = [0] := by subst hu; rfl
  have c : u.checkObject 1 false (u.boot.obj 1 0).bytes = 0 := by
    subst hu
    show firstReason [0, checkHeader 1 b.length b, checkSigner 1 0 b, checkBody b, 0] = 0
    rw [h1, h2, h3]; rfl
  have f : u.trySlots 1 [] (u.slotOrder 1) = (some 0, u) := by
    rw [e, State.trySlots]
    exact if_pos c
  subst hu
  exact ⟨_, f⟩
/-- Channel 0 of engine 0 holds every slot, is bound to port 0, whose pin 0 is a LOGIC pin of the engine, has the registers `x`, and finds the word
`w` at 0 of its program. -/
abbrev briar0 (w : Word) (x : Chan) : State :=
  { (((((State.reset.wr R.ID_STATE_READY 1).wr (R.ENG_SLOTEN_EN 0) 1).wr (R.ENG_CH_CFG_PORT_EN 0 0) 1).wr (R.PORT_FN_FN_A 0) fnLogicBriar).setChan 0 0 { x with st := chRun })
    with eng.prog := [(0, w)] }
abbrev cq0 : CqEntry := {}
/-- A millisecond after reset. -/
abbrev later : State := { State.reset with now := 65536 * 1000000 }
theorem slot_checked (b : List Byte) (h1 : checkHeader 1 b.length b = 0) (h2 : checkSigner 1 0 b = 0) (h3 : checkBody b = 0) :
    (stored0 b).checkObject 1 false ((stored0 b).boot.obj 1 0).bytes = 0 := by
  show firstReason [0, checkHeader 1 b.length b, checkSigner 1 0 b, checkBody b, 0] = 0
  rw [h1, h2, h3]; rfl

/-! ### Witnesses -/

theorem witness_PowerInputs :
    (∃ (n : Fin 4) (s : State), n.val ∉ s.pwr.present) ∧
    (∃ (n : Fin 4) (s : State), n.val ∈ s.pwr.present ∧ bit (s.rd R.PWR_CFG_EXPECT) n = false) ∧
    (∃ (n : Fin 4) (s : State), n.val ∈ s.pwr.present ∧ bit (s.rd R.PWR_CFG_EXPECT) n = true) ∧
    (∃ (n : Fin 4) (s : State), n.val ∉ s.pwr.overV) ∧
    (∃ (n : Fin 4) (s : State), s.conducts n = true) :=
  ⟨⟨(0 : Fin 4), State.reset, by decide +kernel⟩,
   ⟨(0 : Fin 4), (({ State.reset with pwr.present := [(0 : Fin 4)] }).wr R.PWR_CFG_EXPECT 0), by decide +kernel⟩,
   ⟨(0 : Fin 4), (({ State.reset with pwr.present := [(0 : Fin 4)] }).wr R.PWR_CFG_EXPECT (2^((0 : Fin 4):Nat))), by decide +kernel⟩,
   ⟨(0 : Fin 4), State.reset, by decide +kernel⟩,
   ⟨(0 : Fin 4), ({ { { State.reset with pwr.present := [0,1,2,3] } with pwr.path := .good } with pwr.seated := true }), by decide +kernel⟩⟩

theorem witness_PowerSequence :
    (∃ (s : State), s.pwr.path = .none ∧ s.pwr.arrived = true ∧ (0 ∈ s.pwr.present ∨ 1 ∈ s.pwr.present)) ∧
    (∃ (n : Fin 2) (s : State), s.pwr.path = .seated ∧ 0 ∉ s.pwr.brkHot ∧ 1 ∉ s.pwr.brkHot ∧ s.conducts n = true) ∧
    (∃ (s : State), s.pwr.path = .good) ∧
    (∃ (s : State), 0 ∉ s.pwr.present ∧ 1 ∉ s.pwr.present) ∧
    (∃ (s : State), 0 ∉ s.pwr.present ∧ 1 ∉ s.pwr.present) :=
  ⟨⟨({ { { State.reset with pwr.path := .none } with pwr.arrived := true } with pwr.present := [0] }), by decide +kernel⟩,
   ⟨(0 : Fin 2), { State.reset with pwr.present := [0, 1, 2, 3], pwr.path := .seated }, by decide +kernel⟩,
   ⟨({ State.reset with pwr.path := .good }), by decide +kernel⟩,
   ⟨State.reset, by decide +kernel⟩,
   ⟨State.reset, by decide +kernel⟩⟩

theorem witness_RailFaults :
    (∃ (r : Fin 12) (s : State), s.pwr.path = .good) ∧
    (∃ (r : Fin 12) (s : State), s.pwr.path = .good) ∧
    (∃ (r : Fin 12) (s : State), s.pwr.path ≠ .good) :=
  ⟨⟨(0 : Fin 12), ({ State.reset with pwr.path := .good }), by decide +kernel⟩,
   ⟨(0 : Fin 12), ({ State.reset with pwr.path := .good }), by decide +kernel⟩,
   ⟨(0 : Fin 12), State.reset, by decide +kernel⟩⟩

theorem witness_Breakers :
    (∃ (n : Fin 4) (cause : Fin 4) (s : State), s.flag (R.PWR_BRK_STAT_TRIP n) = false ∧ s.conducts n = true) ∧
    (∃ (b : Fin 68) (s : State), b.val ∉ s.pwr.brkEvt) ∧
    (∃ (n : Fin 4) (s : State), n.val ∈ s.pwr.brkEvt ∧ s.flag (R.PWR_BRK_STAT_TRIP n) = true) ∧
    (∃ (n : Fin 4) (s : State), s.rd (R.PWR_BRK_CFG_RETRY n) ≠ 0 ∧ s.flag (R.PWR_BRK_STAT_TRIP n) = true ∧ n.val ∉ s.pwr.brkHot) ∧
    (∃ (n : Fin 4) (s : State), s.flag (R.PWR_BRK_STAT_TRIP n) = true ∧ n.val ∈ s.pwr.brkHot) ∧
    (∃ (n : Fin 4) (s : State), s.flag (R.PWR_BRK_STAT_TRIP n) = true ∧ n.val ∉ s.pwr.brkHot) ∧
    (∃ (s : State), s.pwr.seated = true ∧ s.pwr.path ≠ .good) ∧
    (∃ (s : State), s.pwr.seated = true ∧ s.pwr.path = .good) :=
  ⟨⟨(0 : Fin 4), (0 : Fin 4),
     ({ { { (State.reset).wr (R.PWR_BRK_STAT_TRIP (0 : Fin 4)) 0 with pwr.present := [0,1,2,3] } with pwr.path := .good } with pwr.seated := true }),
     by decide +kernel⟩,
   ⟨(0 : Fin 68), State.reset, by decide +kernel⟩,
   ⟨(0 : Fin 4), (({ State.reset with pwr.brkEvt := [(0 : Fin 4)] }).wr (R.PWR_BRK_STAT_TRIP (0 : Fin 4)) 1), by decide +kernel⟩,
   ⟨(0 : Fin 4), (((State.reset).wr (R.PWR_BRK_CFG_RETRY (0 : Fin 4)) 1).wr (R.PWR_BRK_STAT_TRIP (0 : Fin 4)) 1), by decide +kernel⟩,
   ⟨(0 : Fin 4), ({ (State.reset).wr (R.PWR_BRK_STAT_TRIP (0 : Fin 4)) 1 with pwr.brkHot := [(0 : Fin 4)] }), by decide +kernel⟩,
   ⟨(0 : Fin 4), ((State.reset).wr (R.PWR_BRK_STAT_TRIP (0 : Fin 4)) 1), by decide +kernel⟩,
   ⟨({ State.reset with pwr.seated := true }), by decide +kernel⟩,
   ⟨({ { State.reset with pwr.seated := true } with pwr.path := .good }), by decide +kernel⟩⟩

theorem witness_BootAndCommit :
    (∃ (o : BootObs) (s : State), s.boot.stage = .rom ∧ o.tests = false) ∧
    (∃ (o : BootObs) (s : State), s.boot.stage = .rom ∧ o.tests = true ∧ o.recovery = true) ∧
    (∃ (o : BootObs) (s : State), s.boot.stage = .rom ∧ o.tests = true ∧ o.recovery = false ∧ s.boot.fw0.st ≠ 1 ∧ s.boot.fw0.st ≠ 2 ∧ s.boot.fw1.st ≠ 1 ∧
      s.boot.fw1.st ≠ 2) ∧
    (∀ b, checkHeader 1 b.length b = 0 → checkSigner 1 0 b = 0 → checkBody b = 0 → ∃ (o : BootObs) (n : Nat) (ns : List Nat) (s : State),
      s.boot.stage = .rom ∧ o.tests = true ∧ o.drbg = true ∧ o.recovery = false ∧ s.slotOrder 1 = n :: ns ∧
      s.checkObject 1 (o.badFw.contains n) (s.boot.obj 1 n).bytes = 0) ∧
    (∃ (e : StopEnv) (s : State), s.takesCmd = true ∧ s.refusals e = 0) ∧
    (∃ (e : StopEnv) (s : State), s.takesCmd = true ∧ s.refusals e = 0) ∧
    (∃ (e : StopEnv) (s : State), s.takesCmd = true ∧ s.refusals e ≠ 0) ∧
    (∃ (s : State) (t : State) (u : State), s.ready = true ∧ s.flag R.ID_COMMIT_COMMITTED = false ∧
      t = ((s.loadRules.recomputeGuar.wr R.ID_COMMIT_COMMITTED 1).wr R.ID_COMMIT_UNLOCKED 0).inc R.ID_COMMIT_COUNT ∧ u = t.measure7) ∧
    (∃ (s : State), s.ready = true ∧ s.flag R.ID_COMMIT_COMMITTED = true) ∧
    (∃ (s : State), s.ready = true ∧ s.flag R.ID_COMMIT_COMMITTED = false) :=
  ⟨⟨({ tests := false } : BootObs), ({ State.reset with boot.stage := .rom }), by decide +kernel⟩,
   ⟨({ tests := true, recovery := true } : BootObs), ({ State.reset with boot.stage := .rom }), by decide +kernel⟩,
   ⟨({ tests := true, recovery := false } : BootObs), ({ State.reset with boot.stage := .rom }), by decide +kernel⟩,
   fun b h1 h2 h3 => ⟨{}, 0, [], stored0 b, rfl, rfl, rfl, rfl, rfl, slot_checked b h1 h2 h3⟩,
   ⟨⟨false, false⟩, ((State.reset).wr R.ID_STATE_READY 1), by decide +kernel⟩,
   ⟨⟨false, false⟩, ((State.reset).wr R.ID_STATE_READY 1), by decide +kernel⟩,
   ⟨⟨false, true⟩, ((State.reset).wr R.ID_STATE_READY 1), by decide +kernel⟩,
   ⟨State.reset.wr R.ID_STATE_READY 1, _, _, by decide +kernel, by decide +kernel, rfl, rfl⟩,
   ⟨(((State.reset).wr R.ID_STATE_READY 1).wr R.ID_COMMIT_COMMITTED 1), by decide +kernel⟩,
   ⟨(((State.reset).wr R.ID_STATE_READY 1).wr R.ID_COMMIT_COMMITTED 0), by decide +kernel⟩⟩

theorem witness_RecoveryDownload :
    (∃ (len : Fin 32768) (last : Bool) (s : State), s.boot.stage = .recovery) ∧
    (∃ (len : Fin 32768) (last : Bool) (s : State), s.boot.stage = .recovery ∧ s.rd R.ID_RCV_OFS_OFS = 0 ∧ len.val + 1 < 512) ∧
    (∃ (len : Fin 32768) (g : Staging) (s : State), s.boot.stage = .recovery ∧ s.rd R.ID_RCV_OFS_OFS ≠ 0 ∧ s.boot.fwStg = some g ∧
      g.bytes.length = s.rd R.ID_RCV_OFS_OFS ∧ g.total = s.rd R.ID_RCV_TOTAL_TOTAL ∧ s.rd R.ID_RCV_OFS_OFS + (len.val + 1) ≤ s.rd R.ID_RCV_TOTAL_TOTAL) ∧
    (∃ (i : Fin 5) (fw : Fin 2) (s : State), s.ready = true ∧ s.boot.serve = none ∧ (s.boot.obj 1 fw).st = 2) ∧
    (∃ (i : Fin 5) (fw : Fin 2) (s : State), s.ready = true ∧ s.boot.serve = none ∧ (s.boot.obj 1 fw).st ≠ 2) ∧
    (∃ (i : Fin 5) (ok : Bool) (peer : Nat) (image : List Byte) (s : State), s.boot.stage ≠ .recovery ∧ s.serves i = true) :=
  ⟨⟨(0 : Fin 32768), true, ({ State.reset with boot.stage := .recovery }), by decide +kernel⟩,
   ⟨(0 : Fin 32768), true, (({ State.reset with boot.stage := .recovery }).wr R.ID_RCV_OFS_OFS (0)), by decide +kernel⟩,
   ⟨(0 : Fin 32768), ⟨[0], 2⟩,
     (({ ({ State.reset with boot.stage := .recovery }).wr R.ID_RCV_OFS_OFS 1 with boot.fwStg := some ⟨[0], 2⟩ }).wr R.ID_RCV_TOTAL_TOTAL 2),
     by decide +kernel⟩,
   ⟨(0 : Fin 5), (0 : Fin 2), ({ { (State.reset).wr R.ID_STATE_READY 1 with boot.serve := none } with boot.fw0 := ⟨2, []⟩ }), by decide +kernel⟩,
   ⟨(0 : Fin 5), (0 : Fin 2), ({ (State.reset).wr R.ID_STATE_READY 1 with boot.serve := none }), by decide +kernel⟩,
   ⟨(0 : Fin 5), true, 0, [], ({ State.reset with boot.serve := some (0, 0) }), by decide +kernel⟩⟩

theorem witness_SetupAccess :
    (∃ (q : Requester) (off : BitVec 22) (wide : Bool) (v : BitVec 64) (s : State), okAccess off.toNat wide = true ∧ s.pwr.asleep = true) ∧
    (∃ (q : Requester) (off : BitVec 22) (wide : Bool) (s : State), okAccess off.toNat wide = true ∧ s.pwr.asleep = true) ∧
    (∃ (off : BitVec 22) (wide : Bool) (v : BitVec 64) (s : State), okAccess off.toNat wide = true ∧ s.pwr.asleep = false ∧ s.responds off.toNat = true ∧
      s.vfWindow off.toNat = false) ∧
    (∃ (off : BitVec 22) (wide : Bool) (s : State), okAccess off.toNat wide = true ∧ s.pwr.asleep = false ∧ s.responds off.toNat = true) ∧
    (∃ (q : Requester) (off : BitVec 22) (wide : Bool) (v : BitVec 64) (s : State), okAccess off.toNat wide = false) :=
  ⟨⟨.pf0, 0, true, 0, ({ State.reset with pwr.asleep := true }), by decide +kernel⟩,
   ⟨.pf0, 0, true, ({ State.reset with pwr.asleep := true }), by decide +kernel⟩,
   ⟨0, true, 0, (({ State.reset with pwr.asleep := false }).wr R.ID_STATE_READY 1), by decide +kernel⟩,
   ⟨0, true, (({ State.reset with pwr.asleep := false }).wr R.ID_STATE_READY 1), by decide +kernel⟩,
   ⟨.pf0, 4, true, 0, State.reset, by decide +kernel⟩⟩

theorem witness_SlotControls :
    (∃ (t : Fin 16) (addr : BitVec 64) (s : State), s.flag (R.HIF_SUM_ADDR_EN t) = false ∧ s.windowOpen t = true) ∧
    (∃ (t : Fin 16) (addr : BitVec 64) (s : State), s.flag (R.HIF_SUM_ADDR_EN t) = true) ∧
    (∃ (t : Fin 16) (s : State), t.val ≠ 0 ∧ s.flag R.ID_COMMIT_COMMITTED = false ∧ s.slotOn t = true) ∧
    (∃ (t : Fin 16) (s : State), (t.val = 0 ∨ s.flag R.ID_COMMIT_COMMITTED = true)) ∧
    (∃ (t : Fin 16) (s : State), s.windowOpen t = true) ∧
    (∃ (p : Fin 512) (s : State), (s.pair p).st = .idle ∧ s.slotOn (p.val / 32) = true ∧ s.flag (R.HIF_SUM_ADDR_EN (p.val / 32)) = true ∧
      s.mayRun (p.val / 32) = true) ∧
    (∃ (p : Fin 512) (s : State), (s.pair p).st = .run) ∧
    (∃ (t : Fin 16) (s : State), s.kind t ≠ kRing) ∧
    (∃ (t : Fin 16) (s : State), s.kind t = kRing) ∧
    (∃ (down : Bool) (s : State), (s.hif.pcieUp = false ∨ down = false)) ∧
    (∃ (s : State), s.hif.pcieUp = true) :=
  ⟨⟨(0 : Fin 16), 0, ((State.reset).wr (R.HIF_SUM_ADDR_EN (0 : Fin 16)) 0), by decide +kernel⟩,
   ⟨(0 : Fin 16), 0, ((State.reset).wr (R.HIF_SUM_ADDR_EN (0 : Fin 16)) 1), by decide +kernel⟩,
   ⟨(15 : Fin 16), (((State.reset).wr R.ID_COMMIT_COMMITTED 0).wr (R.HIF_TEN_EN (15 : Fin 16)) 1), by decide +kernel⟩,
   ⟨(0 : Fin 16), State.reset, by decide +kernel⟩,
   ⟨(0 : Fin 16), State.reset, by decide +kernel⟩,
   ⟨(0 : Fin 512),
     ((((State.reset).setPair (0 : Fin 512) { st := .idle }).wr (R.HIF_TEN_EN ((0 : Fin 512).val / 32)) 1).wr (R.HIF_SUM_ADDR_EN ((0 : Fin 512).val / 32)) 1),
     by decide +kernel⟩,
   ⟨(0 : Fin 512), ((State.reset).setPair (0 : Fin 512) { st := .run }), by decide +kernel⟩,
   ⟨(0 : Fin 16), State.reset, by decide +kernel⟩,
   ⟨(0 : Fin 16), ((State.reset).wr (R.HIF_TEN_KIND 0) kRing), by decide +kernel⟩,
   ⟨true, ({ State.reset with hif.pcieUp := false ∨ true = false }), by decide +kernel⟩,
   ⟨({ State.reset with hif.pcieUp := true }), by decide +kernel⟩⟩

theorem witness_Polling :
    (∃ (t : Fin 16) (s : State), s.slotOn t = true ∧ s.flag (R.HIF_SUM_ADDR_EN t) = true ∧ (s.slot t).asked = false ∧ s.hif.fetchHold = false ∧
      s.kind t ≠ kRing) ∧
    (∃ (t : Fin 16) (s : State), s.slotOn t = true ∧ s.flag (R.HIF_SUM_ADDR_EN t) = true ∧ (s.slot t).asked = false ∧ s.hif.fetchHold = false ∧
      s.kind t = kRing) ∧
    (∃ (t : Fin 16) (line : List Byte) (s : State), (s.slot t).asked = true) ∧
    (∃ (t : Fin 16) (s : State), (s.slot t).asked = true) ∧
    (∃ (p : Fin 512) (w : List Byte) (s : State), (s.pair p).st = .run ∧ leAt w 0 2 < s.sqDepth p ∧ leAt w 4 2 < s.cqDepth p) ∧
    (∃ (p : Fin 512) (w : List Byte) (s : State), (s.pair p).st = .run ∧ s.sqDepth p ≤ leAt w 0 2) ∧
    (∃ (p : Fin 512) (s : State), (s.pair p).st = .run) ∧
    (∃ (p : Fin 512) (s : State), (s.pair p).coal ≠ 0) ∧
    (∃ (k : Fin 8192) (x : Nat) (s : State), (s.tag k).use = .quarantine x) :=
  ⟨⟨(0 : Fin 16),
     ({ (((State.reset).wr (R.HIF_TEN_EN (0 : Fin 16)) 1).wr (R.HIF_SUM_ADDR_EN (0 : Fin 16)) 1).setSlot (0 : Fin 16) { asked := false } with hif.fetchHold := false }),
     by decide +kernel⟩,
   ⟨(0 : Fin 16),
     ((({ (((State.reset).wr (R.HIF_TEN_EN (0 : Fin 16)) 1).wr (R.HIF_SUM_ADDR_EN (0 : Fin 16)) 1).setSlot (0 : Fin 16) { asked := false } with hif.fetchHold := false }).wr (R.HIF_TEN_KIND 0) kRing).wr (R.HIF_TEN_HOST_NODE 0) 257),
     by decide +kernel⟩,
   ⟨(0 : Fin 16), [], ((State.reset).setSlot (0 : Fin 16) { asked := true }), by decide +kernel⟩,
   ⟨(0 : Fin 16), ((State.reset).setSlot (0 : Fin 16) { asked := true }), by decide +kernel⟩,
   ⟨(0 : Fin 512), [], ((State.reset).setPair (0 : Fin 512) { st := .run }), by decide +kernel⟩,
   ⟨(0 : Fin 512), [16, 0], (State.reset.setPair 0 { st := .run }), by decide +kernel⟩,
   ⟨(0 : Fin 512), ((State.reset).setPair (0 : Fin 512) { st := .run }), by decide +kernel⟩,
   ⟨(0 : Fin 512), ((State.reset).setPair (0 : Fin 512) { coal := 1 }), by decide +kernel⟩,
   ⟨(0 : Fin 8192), 0, ((State.reset).setTag (0 : Fin 8192) { use := .quarantine 0 }), by decide +kernel⟩⟩

theorem witness_HostErrors :
    (∃ (s : State), s.hif.pcieUp = true) ∧
    (∃ (s : State), s.hif.pcieUp = false) :=
  ⟨⟨({ State.reset with hif.pcieUp := true }), by decide +kernel⟩,
   ⟨({ State.reset with hif.pcieUp := false }), by decide +kernel⟩⟩

theorem witness_Descriptors :
    (∃ (p : Fin 512) (buf : HostData) (s : State), (s.pair p).st = .run ∧ (s.pair p).asked ≠ 0 ∧ s.fenced p = false) ∧
    (∃ (p : Fin 512) (k : Nat) (b : List Byte) (buf : HostData) (s : State) (u : State), (s.pair p).st = .run ∧ (s.pair p).asked ≠ 0 ∧ s.fenced p = false ∧
      s.pickTag = (some k, u) ∧ b.length = 64 ∧ (leAt b 0 1 = 0 ∨ 14 < leAt b 0 1)) ∧
    (∃ (p : Fin 512) (k : Nat) (b : List Byte) (buf : HostData) (s : State) (u : State), (s.pair p).st = .run ∧ (s.pair p).asked ≠ 0 ∧ s.fenced p = false ∧
      s.pickTag = (some k, u) ∧ b.length = 64 ∧ p.val / 32 ≠ 0 ∧ (leAt b 0 1 = 10 ∨ leAt b 0 1 = 13 ∨ leAt b 0 1 = 14) ∧ leAt b 7 1 ≤ 1 ∧ ((leAt b 0 1 = 10 →
      bits (leAt b 8 8) 32 14 = 0x300))) ∧
    (∃ (p : Fin 512) (k : Nat) (b : List Byte) (buf : HostData) (s : State) (u : State) (v : State) (t : Tx), (s.pair p).st = .run ∧ (s.pair p).asked ≠ 0 ∧
      s.fenced p = false ∧ s.pickTag = (some k, u) ∧ b.length = 64 ∧ t.req = (u.advance p).descReq p k b ∧
      t = { slot := p / 32, pair := p, cid := leAt b 2 2, req := t.req, haddr := leAt b 0x10 8, seq := s.hif.seq, startAt := s.ns, tmo := s.rd (R.HIF_TMO_TMO (p / 32)) } ∧
      v = (({ u.advance p with hif := { (u.advance p).hif with seq := s.hif.seq + 1 } }).fly k t) ∧ v.descCheck t.req t.haddr = none) ∧
    (∃ (p : Fin 512) (d : HostData) (buf : HostData) (s : State), ((s.pair p).st ≠ .run ∨ s.fenced p = true)) :=
  ⟨⟨(0 : Fin 512), HostData.failed, ((State.reset).setPair (0 : Fin 512) { st := .run, asked := 1 }), by decide +kernel⟩,
   ⟨511, (((Config.freeValue 0).toNat + 0) % 8192), 15 :: List.replicate 63 0, .failed, (State.reset.setPair 511 { st := .run, asked := 1 }), _,
     by decide +kernel, by decide +kernel, by decide +kernel, pickTag_free _ rfl, by decide +kernel, by decide +kernel⟩,
   ⟨32, (((Config.freeValue 0).toNat + 0) % 8192), 13 :: List.replicate 63 0, .failed, (State.reset.setPair 32 { st := .run, asked := 1 }), _,
     by decide +kernel, by decide +kernel, by decide +kernel, pickTag_free _ rfl, by decide +kernel, by decide +kernel, by decide +kernel, by decide +kernel,
     by decide +kernel⟩,
   ⟨0, (((Config.freeValue 0).toNat + 0) % 8192), 4 :: List.replicate 63 0, .failed, (State.reset.setPair 0 { st := .run, asked := 1 }), _, _,
     { slot := 0, pair := 0, cid := 0, req := _, haddr := 0, seq := 0, startAt := 0, tmo := _ }, by decide +kernel, by decide +kernel, by decide +kernel,
     pickTag_free _ rfl, by decide +kernel, rfl, rfl, rfl, rfl⟩,
   ⟨(0 : Fin 512), HostData.failed, HostData.failed, State.reset, by decide +kernel⟩⟩

theorem witness_TransactionEnds :
    (∃ (k : Fin 8192) (t : Tx) (s : State), s.flight k = some t ∧ t.done = false ∧ t.detached = false ∧ t.rop = none ∧ t.req.op ≠ opRecv ∧
      t.req.op ≠ opFence ∧ t.req.op ≠ opUpdate) ∧
    (∃ (k : Fin 8192) (t : Tx) (s : State), s.flight k = some t ∧ (t.req.op = opRecv ∨ t.req.op = opFence ∨ t.req.op = opUpdate)) ∧
    (∃ (n : Fin 2) (t : Tx) (f : Frame) (s : State), f.typ = fRsp ∧ f.mark = .valid ∧ s.consumes f = true ∧ s.pwr.asleep = false ∧ f.ceEcho = false ∧
      s.flight f.tag = some t ∧ f.gen = (s.tag f.tag).gen ∧ t.done = false ∧ t.req.op ≠ opUnlock) ∧
    (∃ (n : Fin 2) (f : Frame) (s : State), f.typ = fRsp ∧ f.mark = .valid ∧ s.consumes f = true ∧ s.pwr.asleep = false ∧ f.ceEcho = false ∧
      s.flight f.tag = none) ∧
    (∃ (p : Fin 512) (s : State), (s.pair p).unconf ≠ 0 ∧ (s.pair p).irqDue = []) ∧
    (∃ (p : Fin 512) (s : State), (s.pair p).unconf ≠ 0 ∧ (s.pair p).irqDue = [1]) ∧
    (∃ (p : Fin 512) (s : State), (s.pair p).unconf ≠ 0) ∧
    (∃ (k : Fin 8192) (ok : Bool) (t : Tx) (e : CqEntry) (s : State), s.flight k = some t ∧ t.confirm = some e) ∧
    (∃ (k : Fin 8192) (g : Fin 8) (s : State), (s.tag k).gen ≠ g) ∧
    (∃ (k : Fin 8192) (g : Fin 8) (t : Tx) (s : State), (s.tag k).gen = g ∧ s.flight k = some t ∧ t.remote = true ∧ t.done = false ∧ reissuable t.req = true ∧
      t.reissued = false ∧ s.hops t.ring t.via (1 - t.dir) ≠ 0xFF) ∧
    (∃ (k : Fin 8192) (g : Fin 8) (t : Tx) (s : State), (s.tag k).gen = g ∧ s.flight k = some t ∧ t.remote = true ∧ t.done = false ∧
      (reissuable t.req = false ∨ t.reissued = true)) :=
  ⟨⟨(0 : Fin 8192), ({ tx0 with done := false, detached := false, rop := none } : Tx),
     ((State.reset).setTag (0 : Fin 8192) { use := .flight ({ tx0 with done := false, detached := false, rop := none } : Tx) }), by decide +kernel⟩,
   ⟨(0 : Fin 8192), { tx0 with req := { op := opFence } }, ((State.reset).setTag (0 : Fin 8192) { use := .flight { tx0 with req := { op := opFence } } }),
     by decide +kernel⟩,
   ⟨(0 : Fin 2), ({ tx0 with done := false } : Tx), ({ typ := fRsp, mark := .valid, dst := 261, ceEcho := false, gen := 0 } : Frame),
     (({ ((State.reset).wr R.RING_NODE_STATE_RING 1).wr R.RING_NODE_STATE_STATION 5 with pwr.asleep := false }).setTag 0 { use := .flight ({ tx0 with done := false } : Tx) }),
     by decide +kernel⟩,
   ⟨(0 : Fin 2), ({ typ := fRsp, mark := .valid, dst := 261, ceEcho := false } : Frame),
     ({ ((State.reset).wr R.RING_NODE_STATE_RING 1).wr R.RING_NODE_STATE_STATION 5 with pwr.asleep := false }), by decide +kernel⟩,
   ⟨(0 : Fin 512), ((State.reset).setPair (0 : Fin 512) { unconf := 1, irqDue := [] }), by decide +kernel⟩,
   ⟨(0 : Fin 512), ((State.reset).setPair (0 : Fin 512) { unconf := 1, irqDue := [1] }), by decide +kernel⟩,
   ⟨(0 : Fin 512), ((State.reset).setPair (0 : Fin 512) { unconf := 1 }), by decide +kernel⟩,
   ⟨(0 : Fin 8192), true, { tx0 with confirm := some cq0 }, cq0, (State.reset.setTag 0 { use := .flight { tx0 with confirm := some cq0 } }),
     by decide +kernel⟩,
   ⟨(0 : Fin 8192), (7 : Fin 8), State.reset, by decide +kernel⟩,
   ⟨(0 : Fin 8192), (0 : Fin 8), ({ tx0 with remote := true, done := false, reissued := false, req := { op := opRead, space := 0x100 } } : Tx),
     ((State.reset.setTag 0 { use := .flight { tx0 with remote := true, req := { op := opRead, space := 0x100 } } }).setTopo 0 0 { hopsA := 1, hopsB := 1 }),
     by decide +kernel⟩,
   ⟨(0 : Fin 8192), (0 : Fin 8), ({ tx0 with remote := true, done := false } : Tx),
     ((State.reset).setTag (0 : Fin 8192) { gen := (0 : Fin 8), use := .flight ({ tx0 with remote := true, done := false } : Tx) }), by decide +kernel⟩⟩

theorem witness_LocalOpcodes :
    (∃ (r : Req) (k : Nat) (t : Tx) (q : LockSeq) (s : State), r ∈ s.tgt.accepted ∧ r.op = opUnlock ∧ r.origin = .here k ∧ s.flight k = some t ∧
      s.lockSeq r.tn r.lockId = some q ∧ q.dead s.ns = false ∧ ((∀ b ∈ q.sent, s.isMine b.1 = true))) ∧
    (∃ (r : Req) (s : State), r ∈ s.tgt.accepted ∧ r.op = opRecv ∧ leAt r.operand 0 1 = 0) ∧
    (∃ (r : Req) (k : Nat) (t : Tx) (x : RawItem) (xs : List RawItem) (s : State), r ∈ s.tgt.accepted ∧ r.op = opRecv ∧ leAt r.operand 0 1 = 1 ∧
      s.rxq (leAt r.operand 1 1) = x :: xs ∧ (s.taken r).recvFor r.tn 1 (leAt r.operand 1 1) none = some (k, t)) ∧
    (∃ (r : Req) (k : Nat) (t : Tx) (s : State), r ∈ s.tgt.accepted ∧ r.op = opFence ∧ r.opx = 0 ∧ r.origin = .here k ∧ s.flight k = some t ∧ t.req.opx = 0) ∧
    (∃ (r : Req) (k : Nat) (t : Tx) (s : State), r ∈ s.tgt.accepted ∧ r.op = opFence ∧ r.opx = 1 ∧ r.origin = .here k ∧ s.flight k = some t ∧ t.req.opx = 1) ∧
    (∃ (k : Fin 8192) (t : Tx) (s : State), s.flight k = some t ∧ t.req.op = opFence ∧ t.done = false ∧ t.req ∉ s.tgt.accepted ∧ s.fenceWaits t = false) ∧
    (∃ (r : Req) (s : State), r ∈ s.tgt.accepted ∧ r.op = opPower ∧ r.opx = 0 ∧ s.pwr.opReq = none ∧ s.pwr.opWait = [] ∧ s.rd R.PWR_STAT_OP ≠ 0) ∧
    (∃ (r : Req) (s : State), r ∈ s.tgt.accepted ∧ r.op = opPower ∧ r.opx = 1 ∧ s.pwr.opReq = none ∧ s.pwr.opWait = [] ∧
      s.rd R.PWR_STAT_OP ≠ leAt r.operand 0 1 % 4) ∧
    (∃ (r : Req) (s : State), r ∈ s.tgt.accepted ∧ r.op = opPower ∧ r.opx = 2 ∧ s.pwr.opReq = none ∧ s.pwr.opWait = [] ∧ s.powerRefused = false) ∧
    (∃ (r : Req) (s : State), r ∈ s.tgt.accepted ∧ r.op = opPower ∧ r.opx = 3 ∧ s.pwr.opReq = none ∧ s.pwr.opWait = [] ∧ s.powerRefused = false) ∧
    (∃ (r : Req) (s : State), r ∈ s.tgt.accepted ∧ r.op = opPower ∧ 2 ≤ r.opx ∧ s.pwr.opReq = none ∧ s.pwr.opWait = [] ∧ s.powerRefused = true) ∧
    (∃ (r : Req) (e : StopEnv) (g : Staging) (s : State), r ∈ s.tgt.accepted ∧ r.op = opUpdate ∧ r.opx = 0 ∧ s.boot.fwStg = some g ∧
      leAt r.operand 0 4 = g.bytes.length ∧ 0 < g.bytes.length ∧ leAt r.operand 4 4 = g.total ∧ g.bytes.length + r.len ≤ g.total ∧
      bit (leAt r.operand 8 1) 0 = false ∧ s.pwr.kaolinLost = false) ∧
    (∃ (r : Req) (e : StopEnv) (g : Staging) (s : State), r ∈ s.tgt.accepted ∧ r.op = opUpdate ∧ r.opx = 1 ∧ s.boot.bndStg = some g ∧
      leAt r.operand 0 4 = g.bytes.length ∧ 0 < g.bytes.length ∧ leAt r.operand 4 4 = g.total ∧ g.bytes.length + r.len ≤ g.total ∧
      bit (leAt r.operand 8 1) 0 = false ∧ s.pwr.kaolinLost = false) ∧
    (∃ (r : Req) (e : StopEnv) (err : Bool) (s : State), r ∈ s.tgt.accepted ∧ r.op = opUpdate ∧ r.opx ≤ 1 ∧ (s.taken r).refusals e ≠ 0 ∧
      (leAt r.operand 0 4 = 0 ∨ bit (leAt r.operand 8 1) 0 = true)) :=
  ⟨⟨{ op := opUnlock, lockId := 1, origin := .here 0 }, 0, tx0, lock0,
     { (State.reset.setTag 0 { use := .flight tx0 }) with tgt.accepted := [{ op := opUnlock, lockId := 1, origin := .here 0 }], hif.locks := [lock0] },
     by decide +kernel⟩,
   ⟨({ op := opRecv } : Req), ({ State.reset with tgt.accepted := [({ op := opRecv } : Req)] }), by decide +kernel⟩,
   ⟨{ op := opRecv, operand := [1] }, 0, { tx0 with req := { op := opRecv, operand := [1] } }, raw0, [],
     { (State.reset.setTag 0 { use := .flight { tx0 with req := { op := opRecv, operand := [1] } } }) with tgt.accepted := [{ op := opRecv, operand := [1] }], pctl.rx := [(0, [raw0])] },
     by decide +kernel⟩,
   ⟨({ op := opFence, opx := 0, origin := .here 0 } : Req), 0, ({ tx0 with req.opx := 0 } : Tx),
     (({ State.reset with tgt.accepted := [({ op := opFence, opx := 0, origin := .here 0 } : Req)] }).setTag 0 { use := .flight ({ tx0 with req.opx := 0 } : Tx) }),
     by decide +kernel⟩,
   ⟨({ op := opFence, opx := 1, origin := .here 0 } : Req), 0, ({ tx0 with req.opx := 1 } : Tx),
     (({ State.reset with tgt.accepted := [({ op := opFence, opx := 1, origin := .here 0 } : Req)] }).setTag 0 { use := .flight ({ tx0 with req.opx := 1 } : Tx) }),
     by decide +kernel⟩,
   ⟨(0 : Fin 8192), ({ tx0 with req.op := opFence, done := false } : Tx),
     ((State.reset).setTag (0 : Fin 8192) { use := .flight ({ tx0 with req.op := opFence, done := false } : Tx) }), by decide +kernel⟩,
   ⟨({ op := opPower, opx := 0 } : Req),
     (({ { { State.reset with tgt.accepted := [({ op := opPower, opx := 0 } : Req)] } with pwr.opReq := none } with pwr.opWait := [] }).wr R.PWR_STAT_OP 1),
     by decide +kernel⟩,
   ⟨({ op := opPower, opx := 1, operand := [1] } : Req),
     ({ { { State.reset with tgt.accepted := [({ op := opPower, opx := 1, operand := [1] } : Req)] } with pwr.opReq := none } with pwr.opWait := [] }),
     by decide +kernel⟩,
   ⟨({ op := opPower, opx := 2 } : Req),
     ({ { { State.reset with tgt.accepted := [({ op := opPower, opx := 2 } : Req)] } with pwr.opReq := none } with pwr.opWait := [] }), by decide +kernel⟩,
   ⟨({ op := opPower, opx := 3 } : Req),
     ({ { { State.reset with tgt.accepted := [({ op := opPower, opx := 3 } : Req)] } with pwr.opReq := none } with pwr.opWait := [] }), by decide +kernel⟩,
   ⟨({ op := opPower, opx := 2 } : Req),
     (({ { { State.reset with tgt.accepted := [({ op := opPower, opx := 2 } : Req)] } with pwr.opReq := none } with pwr.opWait := [] }).wr R.TWIN_CFG_EN 1),
     by decide +kernel⟩,
   ⟨{ op := opUpdate, opx := 0, operand := [1, 0, 0, 0, 2], len := 1 }, {}, ⟨[0], 2⟩,
     { State.reset with tgt.accepted := [{ op := opUpdate, opx := 0, operand := [1, 0, 0, 0, 2], len := 1 }], boot.fwStg := some ⟨[0], 2⟩ },
     by decide +kernel⟩,
   ⟨{ op := opUpdate, opx := 1, operand := [1, 0, 0, 0, 2], len := 1 }, {}, ⟨[0], 2⟩,
     { State.reset with tgt.accepted := [{ op := opUpdate, opx := 1, operand := [1, 0, 0, 0, 2], len := 1 }], boot.bndStg := some ⟨[0], 2⟩ },
     by decide +kernel⟩,
   ⟨({ op := opUpdate } : Req), ⟨false, true⟩, true, ({ State.reset with tgt.accepted := [({ op := opUpdate } : Req)] }), by decide +kernel⟩⟩

theorem witness_Admission :
    (∃ (f : Frame) (st : Nat) (s : State), f.typ = fReq ∧ f.mark = .valid ∧ s.consumes f = true ∧ s.isJoined f.dst = true ∧ s.pwr.asleep = false ∧
      f.op ≠ opUnlock ∧ s.targetCheck (Req.ofFrame f) = some st ∧ st ≠ stNoRoute) ∧
    (∃ (f : Frame) (s : State), f.typ = fReq ∧ f.mark = .valid ∧ s.consumes f = true ∧ s.isJoined f.dst = true ∧ s.pwr.asleep = false ∧ f.op ≠ opUnlock ∧
      s.targetCheck (Req.ofFrame f) = some stNoRoute) ∧
    (∃ (f : Frame) (s : State), f.typ = fReq ∧ f.mark = .valid ∧ s.consumes f = true ∧ s.isJoined f.dst = true ∧ s.pwr.asleep = false ∧ f.op ≠ opUnlock ∧
      s.targetCheck (Req.ofFrame f) = none ∧ s.inSafe = true ∧ safeRefuses (Req.ofFrame f) = true) ∧
    (∃ (f : Frame) (s : State), f.typ = fReq ∧ f.mark = .valid ∧ s.consumes f = true ∧ s.isJoined f.dst = true ∧ s.pwr.asleep = false ∧ f.op ≠ opUnlock ∧
      s.targetCheck (Req.ofFrame f) = none ∧ s.inSafe = false ∧ (Req.ofFrame f).timed = false) ∧
    (∃ (f : Frame) (s : State), f.typ = fReq ∧ f.mark = .valid ∧ s.consumes f = true ∧ s.isJoined f.dst = true ∧ s.pwr.asleep = false ∧ f.op ≠ opUnlock ∧
      s.targetCheck (Req.ofFrame f) = none ∧ s.inSafe = false ∧ (Req.ofFrame f).timed = true ∧ s.flag (R.TD_CFG_EN f.td) = true ∧
      s.tdNow f.td < timeDec (Req.ofFrame f).time ∧ s.tgt.held.length < 1024) ∧
    (∃ (f : Frame) (s : State), (s.isJoined f.dst = false ∨ s.pwr.asleep = true ∨ s.consumes f = false)) ∧
    (∃ (r : Req) (s : State), r ∈ s.tgt.held ∧ timeDec r.time ≤ s.tdNow r.td) :=
  ⟨⟨({ typ := fReq, mark := .valid, dst := 261, op := opRead, arg := 0x20000000000 } : Frame), stDenied,
     ({ (((onRing State.reset)).wr R.RING_NODE_STATE_RING 1).wr R.RING_NODE_STATE_STATION 5 with pwr.asleep := false }), by decide +kernel⟩,
   ⟨({ typ := fReq, mark := .valid, dst := 261, op := opRead, arg := 0x12300000000 } : Frame),
     ({ (((onRing State.reset)).wr R.RING_NODE_STATE_RING 1).wr R.RING_NODE_STATE_STATION 5 with pwr.asleep := false }), by decide +kernel⟩,
   ⟨({ typ := fReq, mark := .valid, dst := 261, op := opSend, arg := 0x40000000000 } : Frame),
     (({ (((onRing State.reset)).wr R.RING_NODE_STATE_RING 1).wr R.RING_NODE_STATE_STATION 5 with pwr.asleep := false }).wr R.FLT_SAFE_SAFE 1),
     by decide +kernel⟩,
   ⟨({ typ := fReq, mark := .valid, dst := 261 } : Frame),
     ((({ ((State.reset).wr R.RING_NODE_STATE_RING 1).wr R.RING_NODE_STATE_STATION 5 with pwr.asleep := false }).wr R.FLT_SAFE_SAFE 0).wr R.RING_NODE_STATE_JOINED 1),
     by decide +kernel⟩,
   ⟨({ typ := fReq, mark := .valid, dst := 261, op := opSend, td := 0, arg := 0x40000000000, ext := (List.replicate 20 0 ++ [1] ++ List.replicate 8 0 ++ [16, 0, 0]) } : Frame),
     ((({ (((onRing State.reset)).wr R.RING_NODE_STATE_RING 1).wr R.RING_NODE_STATE_STATION 5 with pwr.asleep := false }).wr R.FLT_SAFE_SAFE 0).wr (R.TD_CFG_EN ({ typ := fReq, mark := .valid, dst := 261, op := opSend, td := 0, arg := 0x40000000000, ext := (List.replicate 20 0 ++ [1] ++ List.replicate 8 0 ++ [16, 0, 0]) } : Frame).td) 1),
     by decide +kernel⟩,
   ⟨({} : Frame), State.reset, by decide +kernel⟩,
   ⟨({} : Req), ({ State.reset with tgt.held := [({} : Req)] }), by decide +kernel⟩⟩

theorem witness_Reads :
    (∃ (r : Req) (d : HostData) (s : State), r ∈ s.tgt.accepted ∧ r.op = opRead ∧ r.space = 0x100 ∧ 1 ≤ r.len ∧ r.off % 64 + r.len ≤ 64) ∧
    (∃ (r : Req) (d : HostData) (s : State), r ∈ s.tgt.accepted ∧ r.op = opRead ∧ r.space = 0x300 ∧ r.off / 2 ^ 24 < 4) ∧
    (∃ (r : Req) (d : HostData) (b : List Byte) (s : State) (u : State), r ∈ s.tgt.accepted ∧ r.op = opRead ∧ r.space = 0x200 ∧ r.locked = true ∧
      (s.taken r).setupRead r.off r.len = (b, u)) ∧
    (∃ (r : Req) (b : List Byte) (s : State), r ∈ s.tgt.accepted ∧ r.op = opRead ∧ r.space = 0x400 ∧ s.canSend (r.off / 2 ^ 28) = true) ∧
    (∃ (r : Req) (s : State), r ∈ s.tgt.accepted ∧ r.op = opRead ∧ r.space = 0x400 ∧ s.canSend (r.off / 2 ^ 28) = true) ∧
    (∃ (r : Req) (d : HostData) (s : State), r ∈ s.tgt.accepted ∧ r.op = opRead ∧ r.space = 0x400 ∧ s.canSend (r.off / 2 ^ 28) = false) ∧
    (∃ (r : Req) (d : HostData) (s : State), s.inTurn r = true ∧ r.op = opRead ∧ r.space < 64 ∧ s.devTarget r.space = none) :=
  ⟨⟨({ op := opRead, space := 0x100, len := 64 } : Req), HostData.failed,
     ({ State.reset with tgt.accepted := [({ op := opRead, space := 0x100, len := 64 } : Req)] }), by decide +kernel⟩,
   ⟨({ op := opRead, space := 0x300 } : Req), HostData.failed, ({ State.reset with tgt.accepted := [({ op := opRead, space := 0x300 } : Req)] }),
     by decide +kernel⟩,
   ⟨{ op := opRead, space := 0x200, locked := true, len := 4 }, .failed, _,
     { State.reset with tgt.accepted := [{ op := opRead, space := 0x200, locked := true, len := 4 }] }, _, by decide +kernel, by decide +kernel,
     by decide +kernel, by decide +kernel, rfl⟩,
   ⟨({ op := opRead, space := 0x400 } : Req), [], ({ (hostUp State.reset) with tgt.accepted := [({ op := opRead, space := 0x400 } : Req)] }),
     by decide +kernel⟩,
   ⟨({ op := opRead, space := 0x400 } : Req), ({ (hostUp State.reset) with tgt.accepted := [({ op := opRead, space := 0x400 } : Req)] }), by decide +kernel⟩,
   ⟨({ op := opRead, space := 0x400 } : Req), HostData.failed, ({ State.reset with tgt.accepted := [({ op := opRead, space := 0x400 } : Req)] }),
     by decide +kernel⟩,
   ⟨({ op := opRead } : Req), HostData.failed, ({ State.reset with tgt.accepted := [({ op := opRead } : Req)] }), by decide +kernel⟩⟩

theorem witness_Writes :
    (∃ (r : Req) (n : Nat) (s : State), r ∈ s.tgt.accepted ∧ r.op = opWrite ∧ r.space = 0x100 ∧ r.off = 64 * n ∧ r.data.length = 8 ∧ (s.point n).hub = false ∧
      s.slotOf r = some (s.point n).writerSlot ∧ (s.point n).isForced = false ∧ (¬ (isNaN (s.point n).type (leNat r.data) = true ∧
      (s.point n).isOutput = true))) ∧
    (∃ (r : Req) (n : Nat) (s : State), r ∈ s.tgt.accepted ∧ r.op = opWrite ∧ r.space = 0x100 ∧ r.off = 64 * n ∧ r.data.length = 8 ∧
      (s.point n).refusesWrite (s.who r) (s.flag R.ID_COMMIT_COMMITTED) 0 8 = false ∧ isNaN (s.point n).type (leNat r.data) = true ∧
      (s.point n).isOutput = true) ∧
    (∃ (r : Req) (n : Nat) (s : State), r ∈ s.tgt.accepted ∧ r.op = opWrite ∧ r.space = 0x100 ∧ r.off = 64 * n ∧ r.data.length = 8 ∧
      ((s.point n).hub = true ∨ s.slotOf r ≠ some (s.point n).writerSlot) ∧ (s.point n).isForced = false) ∧
    (∃ (r : Req) (n : Nat) (s : State), r ∈ s.tgt.accepted ∧ r.op = opWrite ∧ r.space = 0x100 ∧ r.off = 64 * n ∧ r.data.length = 8 ∧ s.slotOf r = some 0 ∧
      (s.point n).isForced = true ∧ (¬ (isNaN (s.point n).type (leNat r.data) = true ∧ (s.point n).isOutput = true))) ∧
    (∃ (r : Req) (s : State), r ∈ s.tgt.accepted ∧ r.op = opWrite ∧ r.space = 0x200 ∧
      ((s.taken r).pf0Write r.off r.len (leNat r.data)).boot.stage = s.boot.stage) ∧
    (∃ (r : Req) (s : State), r ∈ s.tgt.accepted ∧ r.op = opWrite ∧ r.space = 0x300 ∧ r.off / 2 ^ 24 < 4 ∧ s.flag (armedFld (r.off / 2 ^ 24)) = false ∧
      s.flag (syncingFld (r.off / 2 ^ 24)) = false) ∧
    (∃ (r : Req) (s : State), r ∈ s.tgt.accepted ∧ r.op = opWrite ∧ r.space = 0x300 ∧ r.off / 2 ^ 24 < 4 ∧
      (s.flag (armedFld (r.off / 2 ^ 24)) = true ∨ s.flag (syncingFld (r.off / 2 ^ 24)) = true)) ∧
    (∃ (r : Req) (s : State), r ∈ s.tgt.accepted ∧ r.op = opWrite ∧ r.space = 0x400 ∧ s.canSend (r.off / 2 ^ 28) = true) ∧
    (∃ (r : Req) (s : State), s.inTurn r = true ∧ r.op = opWrite ∧ r.space < 64 ∧ s.devTarget r.space = none) :=
  ⟨⟨{ op := opWrite, space := 0x100, origin := .here 0, data := [1, 2, 3, 4, 5, 6, 7, 8] }, 0,
     { (State.reset.setPoint 0 { type := 1 }) with tgt.accepted := [{ op := opWrite, space := 0x100, origin := .here 0, data := [1, 2, 3, 4, 5, 6, 7, 8] }] },
     by decide +kernel⟩,
   ⟨{ op := opWrite, space := 0x100, len := 8, origin := .here 0, data := leBytes 8 0x7FF8000000000000 }, 0,
     { (State.reset.setPoint 0 { type := tFloat64, flags := 0x100 }) with tgt.accepted := [{ op := opWrite, space := 0x100, len := 8, origin := .here 0, data := leBytes 8 0x7FF8000000000000 }] },
     by decide +kernel⟩,
   ⟨{ op := opWrite, space := 0x100, origin := .here 0, data := [1, 2, 3, 4, 5, 6, 7, 8] }, 0,
     { (State.reset.setPoint 0 { type := 1, writer := 0x80 }) with tgt.accepted := [{ op := opWrite, space := 0x100, origin := .here 0, data := [1, 2, 3, 4, 5, 6, 7, 8] }] },
     by decide +kernel⟩,
   ⟨{ op := opWrite, space := 0x100, origin := .here 0, data := [1, 2, 3, 4, 5, 6, 7, 8] }, 0,
     { (State.reset.setPoint 0 { type := 1, flags := 2 ^ 10 }) with tgt.accepted := [{ op := opWrite, space := 0x100, origin := .here 0, data := [1, 2, 3, 4, 5, 6, 7, 8] }] },
     by decide +kernel⟩,
   ⟨({ op := opWrite, space := 0x200 } : Req), ({ State.reset with tgt.accepted := [({ op := opWrite, space := 0x200 } : Req)] }), by decide +kernel⟩,
   ⟨({ op := opWrite, space := 0x300 } : Req), ({ State.reset with tgt.accepted := [({ op := opWrite, space := 0x300 } : Req)] }), by decide +kernel⟩,
   ⟨({ op := opWrite, space := 0x300 } : Req), (({ State.reset with tgt.accepted := [({ op := opWrite, space := 0x300 } : Req)] }).wr (armedFld 0) 1),
     by decide +kernel⟩,
   ⟨({ op := opWrite, space := 0x400 } : Req), ({ (hostUp State.reset) with tgt.accepted := [({ op := opWrite, space := 0x400 } : Req)] }), by decide +kernel⟩,
   ⟨({ op := opWrite } : Req), ({ State.reset with tgt.accepted := [({ op := opWrite } : Req)] }), by decide +kernel⟩⟩

theorem witness_ReadModifyWrite :
    (∃ (r : Req) (n : Nat) (v : BitVec 64) (a : BitVec 64) (b : BitVec 64) (s : State), s.mayRmw r n 0 8 ∧ (s.point n).value % 2 ^ 64 = v.toNat ∧
      leAt r.operand 0 8 = a.toNat ∧ leAt r.operand 8 8 = b.toNat ∧ (¬ (isNaN (s.point n).type a.toNat = true ∧ (s.point n).isOutput = true))) ∧
    (∃ (r : Req) (n : Nat) (v : BitVec 64) (a : BitVec 64) (b : BitVec 64) (s : State), s.mayRmw r n 2 8 ∧ (s.point n).value % 2 ^ 64 = v.toNat ∧
      leAt r.operand 0 8 = a.toNat ∧ leAt r.operand 8 8 = b.toNat ∧ (¬ (isNaN (s.point n).type (v + a).toNat = true ∧ (s.point n).isOutput = true))) ∧
    (∃ (r : Req) (n : Nat) (v : BitVec 64) (a : BitVec 64) (b : BitVec 64) (s : State), s.mayRmw r n 3 8 ∧ (s.point n).value % 2 ^ 64 = v.toNat ∧
      leAt r.operand 0 8 = a.toNat ∧ leAt r.operand 8 8 = b.toNat ∧ (¬ (isNaN (s.point n).type (v &&& a).toNat = true ∧ (s.point n).isOutput = true))) ∧
    (∃ (r : Req) (n : Nat) (v : BitVec 64) (a : BitVec 64) (b : BitVec 64) (s : State), s.mayRmw r n 4 8 ∧ (s.point n).value % 2 ^ 64 = v.toNat ∧
      leAt r.operand 0 8 = a.toNat ∧ leAt r.operand 8 8 = b.toNat ∧ (¬ (isNaN (s.point n).type (v ||| a).toNat = true ∧ (s.point n).isOutput = true))) ∧
    (∃ (r : Req) (n : Nat) (v : BitVec 64) (a : BitVec 64) (b : BitVec 64) (s : State), s.mayRmw r n 5 8 ∧ (s.point n).value % 2 ^ 64 = v.toNat ∧
      leAt r.operand 0 8 = a.toNat ∧ leAt r.operand 8 8 = b.toNat ∧ (¬ (isNaN (s.point n).type (v ^^^ a).toNat = true ∧ (s.point n).isOutput = true))) ∧
    (∃ (r : Req) (n : Nat) (v : BitVec 64) (a : BitVec 64) (b : BitVec 64) (s : State), s.mayRmw r n 6 8 ∧ (s.point n).value % 2 ^ 64 = v.toNat ∧
      leAt r.operand 0 8 = a.toNat ∧ leAt r.operand 8 8 = b.toNat ∧ (¬ (isNaN (s.point n).type ((v &&& ~~~b) ||| (a &&& b)).toNat = true ∧
      (s.point n).isOutput = true))) ∧
    (∃ (r : Req) (n : Nat) (v : BitVec 64) (a : BitVec 64) (s : State), s.mayRmw r n 1 8 ∧ (s.point n).value % 2 ^ 64 = v.toNat ∧
      leAt r.operand 0 8 = a.toNat ∧ leAt r.operand 8 8 = v.toNat ∧ (¬ (isNaN (s.point n).type a.toNat = true ∧ (s.point n).isOutput = true))) ∧
    (∃ (r : Req) (n : Nat) (v : BitVec 64) (s : State), s.mayRmw r n 1 8 ∧ (s.point n).value % 2 ^ 64 = v.toNat ∧ leAt r.operand 8 8 ≠ v.toNat) ∧
    (∃ (r : Req) (n : Nat) (x : Nat) (s : State) (t : State), s.mayRmw r n r.opx 4 ∧
      rmwValue r.opx 4 ((s.point n).value % 2 ^ 32) (leAt r.operand 0 4) (leAt r.operand 8 4) = some x ∧
      (¬ (isNaN (s.point n).type (encodeBy (s.point n).type x % 2 ^ 64) = true ∧ (s.point n).isOutput = true)) ∧
      t = (((s.taken r).deliver n ⟨encodeBy (s.point n).type x % 2 ^ 64, s.tdEnc (s.point n).dom, none⟩).ok r ((s.point n).value % 2 ^ 32) 4).settle) ∧
    (∃ (r : Req) (d : List Byte) (x : Nat) (s : State) (u : State) (t : State), r ∈ s.tgt.accepted ∧ r.op = opRmw ∧ r.space = 0x200 ∧
      (s.taken r).setupRead r.off r.len = (d, u) ∧ rmwValue r.opx r.len (leNat d) (leAt r.operand 0 r.len) (leAt r.operand 8 r.len) = some x ∧
      t = (u.writeSetup r x (leNat d)).settle) ∧
    (∃ (r : Req) (k : Nat) (i : Nat) (s : State), s.inTurn r = true ∧ r.op = opRmw ∧ r.space < 64 ∧ r.locked = false ∧ s.devTarget r.space = some (k, i) ∧
      s.ctlRaw k i = false) :=
  ⟨⟨{ op := opRmw, opx := 0, space := 0x100, len := 8, origin := .here 0, operand := [7, 0, 0, 0, 0, 0, 0, 0, 6] }, 0, 5, 7, 6,
     { (State.reset.setPoint 0 { type := 3, value := 5 }) with tgt.accepted := [{ op := opRmw, opx := 0, space := 0x100, len := 8, origin := .here 0, operand := [7, 0, 0, 0, 0, 0, 0, 0, 6] }] },
     by decide +kernel⟩,
   ⟨{ op := opRmw, opx := 2, space := 0x100, len := 8, origin := .here 0, operand := [7, 0, 0, 0, 0, 0, 0, 0, 6] }, 0, 5, 7, 6,
     { (State.reset.setPoint 0 { type := 3, value := 5 }) with tgt.accepted := [{ op := opRmw, opx := 2, space := 0x100, len := 8, origin := .here 0, operand := [7, 0, 0, 0, 0, 0, 0, 0, 6] }] },
     by decide +kernel⟩,
   ⟨{ op := opRmw, opx := 3, space := 0x100, len := 8, origin := .here 0, operand := [7, 0, 0, 0, 0, 0, 0, 0, 6] }, 0, 5, 7, 6,
     { (State.reset.setPoint 0 { type := 3, value := 5 }) with tgt.accepted := [{ op := opRmw, opx := 3, space := 0x100, len := 8, origin := .here 0, operand := [7, 0, 0, 0, 0, 0, 0, 0, 6] }] },
     by decide +kernel⟩,
   ⟨{ op := opRmw, opx := 4, space := 0x100, len := 8, origin := .here 0, operand := [7, 0, 0, 0, 0, 0, 0, 0, 6] }, 0, 5, 7, 6,
     { (State.reset.setPoint 0 { type := 3, value := 5 }) with tgt.accepted := [{ op := opRmw, opx := 4, space := 0x100, len := 8, origin := .here 0, operand := [7, 0, 0, 0, 0, 0, 0, 0, 6] }] },
     by decide +kernel⟩,
   ⟨{ op := opRmw, opx := 5, space := 0x100, len := 8, origin := .here 0, operand := [7, 0, 0, 0, 0, 0, 0, 0, 6] }, 0, 5, 7, 6,
     { (State.reset.setPoint 0 { type := 3, value := 5 }) with tgt.accepted := [{ op := opRmw, opx := 5, space := 0x100, len := 8, origin := .here 0, operand := [7, 0, 0, 0, 0, 0, 0, 0, 6] }] },
     by decide +kernel⟩,
   ⟨{ op := opRmw, opx := 6, space := 0x100, len := 8, origin := .here 0, operand := [7, 0, 0, 0, 0, 0, 0, 0, 6] }, 0, 5, 7, 6,
     { (State.reset.setPoint 0 { type := 3, value := 5 }) with tgt.accepted := [{ op := opRmw, opx := 6, space := 0x100, len := 8, origin := .here 0, operand := [7, 0, 0, 0, 0, 0, 0, 0, 6] }] },
     by decide +kernel⟩,
   ⟨{ op := opRmw, opx := 1, space := 0x100, len := 8, origin := .here 0, operand := [7, 0, 0, 0, 0, 0, 0, 0, 5] }, 0, 5, 7,
     { (State.reset.setPoint 0 { type := 3, value := 5 }) with tgt.accepted := [{ op := opRmw, opx := 1, space := 0x100, len := 8, origin := .here 0, operand := [7, 0, 0, 0, 0, 0, 0, 0, 5] }] },
     by decide +kernel⟩,
   ⟨{ op := opRmw, opx := 1, space := 0x100, len := 8, origin := .here 0, operand := [7, 0, 0, 0, 0, 0, 0, 0, 6] }, 0, 5,
     { (State.reset.setPoint 0 { type := 3, value := 5 }) with tgt.accepted := [{ op := opRmw, opx := 1, space := 0x100, len := 8, origin := .here 0, operand := [7, 0, 0, 0, 0, 0, 0, 0, 6] }] },
     by decide +kernel⟩,
   ⟨{ op := opRmw, space := 0x100, len := 4, origin := .here 0, operand := [7] }, 0, 7,
     { (State.reset.setPoint 0 { type := tUint32, value := 5 }) with tgt.accepted := [{ op := opRmw, space := 0x100, len := 4, origin := .here 0, operand := [7] }] },
     _, by decide +kernel, by decide +kernel, by decide +kernel, rfl⟩,
   ⟨{ op := opRmw, space := 0x200, len := 4, origin := .here 0, operand := [7] }, _, 7,
     { State.reset with tgt.accepted := [{ op := opRmw, space := 0x200, len := 4, origin := .here 0, operand := [7] }] }, _, _, by decide +kernel,
     by decide +kernel, by decide +kernel, Prod.mk.eta.symm, rfl, rfl⟩,
   ⟨({ op := opRmw, locked := false } : Req), 1, 0, ({ (busOn cUart 0) with tgt.accepted := [({ op := opRmw, locked := false } : Req)] }), by decide +kernel⟩⟩

theorem witness_LockAndSend :
    (∃ (r : Req) (k : Nat) (i : Nat) (s : State), r ∈ s.tgt.accepted ∧ r.op = opLock ∧ s.devTarget r.space = some (k, i) ∧ s.lockOk r.space = false) ∧
    (∃ (r : Req) (k : Nat) (i : Nat) (s : State), r ∈ s.tgt.accepted ∧ r.op = opLock ∧ s.devTarget r.space = some (k, i) ∧ s.lockOk r.space = true ∧
      k ≠ cCan ∧ k ≠ cSpe ∧ s.ctlRaw k i = false ∧ (s.busLock r.space).holder = none ∧ (s.busLock r.space).winner = none) ∧
    (∃ (r : Req) (k : Nat) (i : Nat) (node : Nat) (tn : Nat) (id : Nat) (s : State), r ∈ s.tgt.accepted ∧ r.op = opLock ∧ s.devTarget r.space = some (k, i) ∧
      s.lockOk r.space = true ∧ k ≠ cCan ∧ k ≠ cSpe ∧ s.ctlRaw k i = false ∧ (s.busLock r.space).holder = some (node, tn, id)) ∧
    (∃ (r : Req) (s : State), r ∈ s.tgt.accepted ∧ r.op = opSend ∧ 64 ≤ r.space ∧ s.slotOn (r.off / 2 ^ 28) = false) ∧
    (∃ (r : Req) (s : State), r ∈ s.tgt.accepted ∧ r.op = opSend ∧ 64 ≤ r.space ∧ s.slotOn (r.off / 2 ^ 28) = true ∧
      (s.taken r).recvFor (r.off / 2 ^ 28) 0 (r.off % 256) (some (r.src, r.tn)) = none) ∧
    (∃ (r : Req) (k : Nat) (t : Tx) (s : State), r ∈ s.tgt.accepted ∧ r.op = opSend ∧ 64 ≤ r.space ∧ s.slotOn (r.off / 2 ^ 28) = true ∧
      (s.taken r).recvFor (r.off / 2 ^ 28) 0 (r.off % 256) (some (r.src, r.tn)) = some (k, t)) ∧
    (∃ (r : Req) (s : State), r ∈ s.tgt.accepted ∧ r.op = opSend ∧ r.space < 64 ∧ s.inSafe = false ∧ s.slotOf r ≠ some (s.rd (R.PCTL_PORT_RAW_OWN r.space))) ∧
    (∃ (r : Req) (k : Nat) (i : Nat) (s : State), r ∈ s.tgt.accepted ∧ r.op = opSend ∧ r.space < 64 ∧ s.inSafe = false ∧
      s.slotOf r = some (s.rd (R.PCTL_PORT_RAW_OWN r.space)) ∧ dlenFits r.data = true ∧ leAt r.data 2 2 + 16 = r.len ∧ s.rawTarget r.space r.data = some (k,
      i) ∧ s.ctlRaw k i = true ∧ k ≠ cCan) ∧
    (∃ (r : Req) (s : State), r ∈ s.tgt.accepted ∧ r.op = opSend ∧ r.space < 64 ∧ s.inSafe = true) :=
  ⟨⟨({ op := opLock } : Req), 1, 0, ({ (busOn cUart 0) with tgt.accepted := [({ op := opLock } : Req)] }), by decide +kernel⟩,
   ⟨({ op := opLock } : Req), 1, 0,
     ({ (((busOn cUart 0).wr (R.BRG_RNG_CFG_VALID 255) 1).wr (R.BRG_RNG_CFG_LOCK_OK 255) 1) with tgt.accepted := [({ op := opLock } : Req)] }),
     by decide +kernel⟩,
   ⟨({ op := opLock } : Req), 1, 0, 9, 0, 1,
     ({ ((((busOn cUart 0).wr (R.BRG_RNG_CFG_VALID 255) 1).wr (R.BRG_RNG_CFG_LOCK_OK 255) 1).setBusLock 0 { holder := some (9, 0, 1) }) with tgt.accepted := [({ op := opLock } : Req)] }),
     by decide +kernel⟩,
   ⟨({ op := opSend, space := 0x400, off := 0x10000000 } : Req),
     ({ State.reset with tgt.accepted := [({ op := opSend, space := 0x400, off := 0x10000000 } : Req)] }), by decide +kernel⟩,
   ⟨({ op := opSend, space := 0x400 } : Req),
     (({ State.reset with tgt.accepted := [({ op := opSend, space := 0x400 } : Req)] }).wr (R.HIF_TEN_EN (({ op := opSend, space := 0x400 } : Req).off / 2 ^ 28)) 1),
     by decide +kernel⟩,
   ⟨({ op := opSend, space := 0x400 } : Req), 0, (recv0 []),
     ((({ State.reset with tgt.accepted := [({ op := opSend, space := 0x400 } : Req)] }).wr (R.HIF_TEN_EN (({ op := opSend, space := 0x400 } : Req).off / 2 ^ 28)) 1).setTag 0 { use := .flight (recv0 []) }),
     by decide +kernel⟩,
   ⟨({ op := opSend } : Req), (({ State.reset with tgt.accepted := [({ op := opSend } : Req)] }).wr R.FLT_SAFE_SAFE 0), by decide +kernel⟩,
   ⟨{ op := opSend, origin := .here 0, data := [3, 0, 1, 0, 0, 0, 0, 0, 0, 0, 0, 0, 0, 0, 0, 0, 0xAA], len := 17 }, cUart, 0,
     { ((busOn cUart 0).wr (R.PCTL_UART_CFG_RAW 0) 1) with tgt.accepted := [{ op := opSend, origin := .here 0, data := [3, 0, 1, 0, 0, 0, 0, 0, 0, 0, 0, 0, 0, 0, 0, 0, 0xAA], len := 17 }] },
     by decide +kernel⟩,
   ⟨({ op := opSend } : Req), (({ State.reset with tgt.accepted := [({ op := opSend } : Req)] }).wr R.FLT_SAFE_SAFE 1), by decide +kernel⟩⟩

theorem witness_Subscriptions :
    (∃ (r : Req) (u : Sub) (s : State), r ∈ s.tgt.accepted ∧ r.op = opSubscribe) ∧
    (∃ (r : Req) (s : State), r ∈ s.tgt.accepted ∧ r.op = opSubscribe) ∧
    (∃ (r : Req) (s : State), r ∈ s.tgt.accepted ∧ r.op = opSubscribe ∧ r.opx = 0) ∧
    (∃ (r : Req) (s : State), r ∈ s.tgt.accepted ∧ r.op = opSubscribe ∧ r.opx = 1) ∧
    (∃ (r : Req) (u : Sub) (s : State), r ∈ s.tgt.accepted ∧ r.op = opUnsubscribe) ∧
    (∃ (r : Req) (s : State), r ∈ s.tgt.accepted ∧ r.op = opUnsubscribe) :=
  ⟨⟨({ op := opSubscribe } : Req), sub0, ({ State.reset with tgt.accepted := [({ op := opSubscribe } : Req)] }), by decide +kernel⟩,
   ⟨({ op := opSubscribe } : Req), ({ State.reset with tgt.accepted := [({ op := opSubscribe } : Req)] }), by decide +kernel⟩,
   ⟨({ op := opSubscribe, opx := 0 } : Req), ({ State.reset with tgt.accepted := [({ op := opSubscribe, opx := 0 } : Req)] }), by decide +kernel⟩,
   ⟨({ op := opSubscribe, opx := 1 } : Req), ({ State.reset with tgt.accepted := [({ op := opSubscribe, opx := 1 } : Req)] }), by decide +kernel⟩,
   ⟨({ op := opUnsubscribe } : Req), sub0, ({ State.reset with tgt.accepted := [({ op := opUnsubscribe } : Req)] }), by decide +kernel⟩,
   ⟨({ op := opUnsubscribe } : Req), ({ State.reset with tgt.accepted := [({ op := opUnsubscribe } : Req)] }), by decide +kernel⟩⟩

theorem witness_TablesAndQueries :
    (∃ (r : Req) (s : State), r ∈ s.tgt.accepted ∧ r.op = opTableLoad ∧ r.opx = 0 ∧ r.off / 2 ^ 24 < 4 ∧ s.flag (armedFld (r.off / 2 ^ 24)) = false ∧
      s.flag (syncingFld (r.off / 2 ^ 24)) = false) ∧
    (∃ (r : Req) (s : State), r ∈ s.tgt.accepted ∧ r.op = opTableLoad ∧ r.opx = 1 ∧ r.off / 2 ^ 24 < 4 ∧ s.flag (armedFld (r.off / 2 ^ 24)) = false ∧
      s.flag (syncingFld (r.off / 2 ^ 24)) = false) ∧
    (∃ (r : Req) (s : State), r ∈ s.tgt.accepted ∧ r.op = opTableLoad ∧ s.tableClosed r.off r.len = true) ∧
    (∃ (r : Req) (s : State), r ∈ s.tgt.accepted ∧ r.op = opQuery ∧ r.opx = 0) ∧
    (∃ (r : Req) (a : Nat) (b : Nat) (s : State) (u : State) (v : State), r ∈ s.tgt.accepted ∧ r.op = opQuery ∧ r.opx = 1 ∧ (s.taken r).readWord 0x50020 = (a,
      u) ∧ u.readWord 0x50018 = (b, v)) ∧
    (∃ (r : Req) (b : List Byte) (s : State) (u : State), r ∈ s.tgt.accepted ∧ r.op = opQuery ∧ r.opx = 2 ∧ (s.taken r).identity = (b, u)) ∧
    (∃ (r : Req) (s : State), r ∈ s.tgt.accepted ∧ r.op = opQuery ∧ r.opx = 3) :=
  ⟨⟨({ op := opTableLoad, opx := 0 } : Req), ({ State.reset with tgt.accepted := [({ op := opTableLoad, opx := 0 } : Req)] }), by decide +kernel⟩,
   ⟨({ op := opTableLoad, opx := 1 } : Req), ({ State.reset with tgt.accepted := [({ op := opTableLoad, opx := 1 } : Req)] }), by decide +kernel⟩,
   ⟨({ op := opTableLoad, len := 1 } : Req), (({ State.reset with tgt.accepted := [({ op := opTableLoad, len := 1 } : Req)] }).wr (armedFld 0) 1),
     by decide +kernel⟩,
   ⟨({ op := opQuery, opx := 0 } : Req), ({ State.reset with tgt.accepted := [({ op := opQuery, opx := 0 } : Req)] }), by decide +kernel⟩,
   ⟨{ op := opQuery, opx := 1 }, _, _, { State.reset with tgt.accepted := [{ op := opQuery, opx := 1 }] }, _, _, by decide +kernel, by decide +kernel,
     by decide +kernel, rfl, rfl⟩,
   ⟨{ op := opQuery, opx := 2 }, _, { State.reset with tgt.accepted := [{ op := opQuery, opx := 2 }] }, _, by decide +kernel, by decide +kernel,
     by decide +kernel, rfl⟩,
   ⟨({ op := opQuery, opx := 3 } : Req), ({ State.reset with tgt.accepted := [({ op := opQuery, opx := 3 } : Req)] }), by decide +kernel⟩⟩

theorem witness_Messages :
    (∃ (f : Frame) (k : Nat) (t : Tx) (s : State), f.typ = fMsg ∧ f.op = 3 ∧ f.mark = .valid ∧ isBc f = true ∧ s.isMine f.src = false ∧
      s.isJoined f.dst = true ∧ s.pwr.asleep = false ∧ bits f.arg 32 14 = 0x400 ∧ s.slotOn (bits f.arg 0 32 / 2 ^ 28) = true ∧
      s.recvFor (bits f.arg 0 32 / 2 ^ 28) 0 (bits f.arg 0 32 % 256) (some (f.src, f.tn)) = some (k, t)) ∧
    (∃ (f : Frame) (s : State), s.recvFor (bits f.arg 0 32 / 2 ^ 28) 0 (bits f.arg 0 32 % 256) (some (f.src, f.tn)) = none) ∧
    (∃ (f : Frame) (u : RemSub) (s : State), f.typ = fMsg ∧ f.op = 1 ∧ f.mark = .valid ∧ s.consumes f = true ∧ s.pwr.asleep = false) ∧
    (∃ (f : Frame) (s : State), f.typ = fMsg ∧ f.op = 2 ∧ f.mark = .valid ∧ s.consumes f = true ∧ s.pwr.asleep = false ∧ s.regionOpen f.tn = true ∧
      s.isPeer f.tn f.src none = true ∧ 128 * f.tn + leAt f.payload 0 1 % 128 ∈ s.hif.msixOpen ∧ s.canSend f.tn = true) ∧
    (∃ (f : Frame) (s : State), f.typ = fMsg ∧ f.op = 2 ∧ f.mark = .valid ∧ s.consumes f = true ∧ s.pwr.asleep = false ∧ s.regionOpen f.tn = true ∧
      s.isPeer f.tn f.src none = true ∧ (128 * f.tn + leAt f.payload 0 1 % 128 ∉ s.hif.msixOpen ∨ s.canSend f.tn = false)) ∧
    (∃ (f : Frame) (s : State), (s.regionOpen f.tn = false ∨ s.isPeer f.tn f.src none = false)) :=
  ⟨⟨({ typ := fMsg, op := 3, mark := .valid, dst := 511, src := 262, arg := 0x40000000000 } : Frame), 0, (recv0 []),
     (((({ (onRing State.reset) with pwr.asleep := false }).wr (R.HIF_TEN_EN (bits ({ typ := fMsg, op := 3, mark := .valid, dst := 511, src := 262, arg := 0x40000000000 } : Frame).arg 0 32 / 2 ^ 28)) 1).setTag 0 { use := .flight (recv0 []) }).wr (R.HIF_TEN_EN 0) 1),
     by decide +kernel⟩,
   ⟨({} : Frame), State.reset, by decide +kernel⟩,
   ⟨({ typ := fMsg, op := 1, mark := .valid, dst := 261 } : Frame), rsub0,
     ({ ((State.reset).wr R.RING_NODE_STATE_RING 1).wr R.RING_NODE_STATE_STATION 5 with pwr.asleep := false }), by decide +kernel⟩,
   ⟨({ typ := fMsg, op := 2, mark := .valid, dst := 261 } : Frame),
     ({ { { ((({ ((State.reset).wr R.RING_NODE_STATE_RING 1).wr R.RING_NODE_STATE_STATION 5 with pwr.asleep := false }).wr (R.HIF_TEN_EN 0) 1).wr (R.HIF_RGN_BASE_EN 0) 1).wr (R.HIF_RGN_PEER_VALID 0 7) 1 with hif.msixOpen := [0] } with hif.pcieUp := true } with hif.busMaster := [0] }),
     by decide +kernel⟩,
   ⟨({ typ := fMsg, op := 2, mark := .valid, dst := 261 } : Frame),
     (((({ ((State.reset).wr R.RING_NODE_STATE_RING 1).wr R.RING_NODE_STATE_STATION 5 with pwr.asleep := false }).wr (R.HIF_TEN_EN 0) 1).wr (R.HIF_RGN_BASE_EN 0) 1).wr (R.HIF_RGN_PEER_VALID 0 7) 1),
     by decide +kernel⟩,
   ⟨({} : Frame), State.reset, by decide +kernel⟩⟩

theorem witness_FrameArrival :
    (∃ (i : Fin 4) (g : Frame) (f : Frame) (s : State), s.readTag i g = f ∧ s.isUp i = true ∧ s.crosses i f = false ∧ f.replayed = true ∧ f.mark = .valid ∧
      f.epoch = (s.port i).rxEpoch ∧ f.lseq ≠ (s.port i).next) ∧
    (∃ (i : Fin 4) (g : Frame) (f : Frame) (s : State), s.readTag i g = f ∧ s.isUp i = true ∧ s.crosses i f = false ∧ f.replayed = true ∧ f.mark = .valid ∧
      f.epoch = (s.port i).rxEpoch ∧ f.lseq = (s.port i).next ∧ f.ver = 1 ∧ isBc f = false ∧ s.consumes f = true ∧ s.pwr.asleep = false) ∧
    (∃ (i : Fin 4) (g : Frame) (f : Frame) (s : State), s.readTag i g = f ∧ s.isUp i = true ∧ s.crosses i f = false ∧ f.replayed = true ∧ f.mark = .valid ∧
      f.epoch = (s.port i).rxEpoch ∧ f.lseq = (s.port i).next ∧ isBc f = false ∧ s.consumes f = false ∧ s.isMine f.src = false) ∧
    (∃ (i : Nat) (o : Nat) (f : Frame) (s : State), f.hops = 1023) ∧
    (∃ (i : Nat) (o : Nat) (f : Frame) (s : State), f.hops ≠ 1023 ∧ s.isUp o = true ∧ (s.port o).busy = true ∧ s.pwr.asleep = false) ∧
    (∃ (i : Fin 4) (g : Frame) (f : Frame) (n : Nat) (via : Nat) (d : Nat) (s : State), s.readTag i g = f ∧ s.isUp i = true ∧ s.crosses i f = true ∧
      f.replayed = true ∧ f.mark = .valid ∧ f.epoch = (s.port i).rxEpoch ∧ f.lseq = (s.port i).next ∧ f.hops ≠ 1023 ∧ s.isMine f.src = false ∧ f.xcnt ≠ 15 ∧
      s.byTable (f.dst / 256) (f.dst % 256) = .to n via d) ∧
    (∃ (i : Fin 4) (g : Frame) (f : Frame) (s : State), s.readTag i g = f ∧ s.isUp i = true ∧ s.crosses i f = true ∧ f.typ = fRsp ∧ f.mark = .valid ∧
      f.epoch = (s.port i).rxEpoch ∧ f.lseq = (s.port i).next ∧ f.hops ≠ 1023 ∧ s.isMine f.src = false ∧ f.xcnt = 15) ∧
    (∃ (i : Fin 4) (g : Frame) (f : Frame) (s : State), s.readTag i g = f ∧ s.isUp i = true ∧ s.crosses i f = true ∧ f.replayed = true ∧ f.mark = .valid ∧
      f.epoch = (s.port i).rxEpoch ∧ f.lseq = (s.port i).next ∧ s.isOwn f = true ∧ f.wrap = 0) ∧
    (∃ (i : Fin 4) (g : Frame) (s : State), ownCommand (s.readTag i g) = true) ∧
    (∃ (i : Fin 4) (f : Frame) (seqRead : Bool) (s : State), s.isUp i = false) :=
  ⟨⟨(0 : Fin 4), ({ typ := fReq, mark := .valid, epoch := false, lseq := 1 } : Frame), ({ typ := fReq, mark := .valid, epoch := false, lseq := 1 } : Frame),
     (((State.reset).setPort (0 : Fin 4) { st := .up }).wr R.TWIN_CFG_EN 1), by decide +kernel⟩,
   ⟨(0 : Fin 4), ({ typ := fReq, mark := .valid, epoch := false, lseq := 0, ver := 1, dst := 261 } : Frame),
     ({ typ := fReq, mark := .valid, epoch := false, lseq := 0, ver := 1, dst := 261 } : Frame),
     ({ ((((State.reset).setPort (0 : Fin 4) { st := .up }).wr R.TWIN_CFG_EN 1).wr R.RING_NODE_STATE_RING 1).wr R.RING_NODE_STATE_STATION 5 with pwr.asleep := false }),
     by decide +kernel⟩,
   ⟨(0 : Fin 4), ({ typ := fReq, mark := .valid, epoch := false, lseq := 0, dst := 262, src := 263 } : Frame),
     ({ typ := fReq, mark := .valid, epoch := false, lseq := 0, dst := 262, src := 263 } : Frame),
     ((((onRing State.reset)).setPort (0 : Fin 4) { st := .up }).wr R.TWIN_CFG_EN 1), by decide +kernel⟩,
   ⟨0, 0, ({ hops := 1023 } : Frame), State.reset, by decide +kernel⟩,
   ⟨0, 0, ({} : Frame), ({ ((State.reset).setPort 0 { st := .up, busy := true }).wr R.TWIN_CFG_EN 1 with pwr.asleep := false }), by decide +kernel⟩,
   ⟨(0 : Fin 4), ({ typ := fReq, mark := .valid, epoch := false, lseq := 0, dst := 521 } : Frame),
     ({ typ := fReq, mark := .valid, epoch := false, lseq := 0, dst := 521 } : Frame), 1, 9, 0,
     (((({ (((((((State.reset.wr R.RING_NODE_STATE_JOINED 1).wr R.RING_NODE_STATE_JOINED1 1).wr R.RING_NODE_ID1_JUNCTION_EN 1).wr R.RING_NODE_STATE_RING 1).wr R.RING_NODE_STATE_STATION 5).wr (R.RING_RT_VALID 2) 1).wr (R.RING_RT_SIDE 2) 1) with ring.ring1 := 2, ring.station1 := 7 }.setTopo 1 9 { hopsA := 1 , present := true})).setPort (0 : Fin 4) { st := .up }).wr R.TWIN_CFG_EN 1),
     by decide +kernel⟩,
   ⟨(0 : Fin 4), ({ typ := fRsp, mark := .valid, epoch := false, lseq := 0, xcnt := 15, dst := 521 } : Frame),
     ({ typ := fRsp, mark := .valid, epoch := false, lseq := 0, xcnt := 15, dst := 521 } : Frame),
     ((({ ((((State.reset.wr R.RING_NODE_ID1_JUNCTION_EN 1).wr R.RING_NODE_STATE_RING 1).wr R.RING_NODE_STATE_STATION 5).wr (R.RING_RT_VALID 2) 1) with ring.ring1 := 2, ring.station1 := 7 }).setPort (0 : Fin 4) { st := .up }).wr R.TWIN_CFG_EN 1),
     by decide +kernel⟩,
   ⟨(0 : Fin 4), ({ typ := fReq, mark := .valid, epoch := false, lseq := 0, wrap := 0, dst := 521, src := 261, hops := 1 } : Frame),
     ({ typ := fReq, mark := .valid, epoch := false, lseq := 0, wrap := 0, dst := 521, src := 261, hops := 1 } : Frame),
     (((({ (((((State.reset.wr R.RING_NODE_ID1_JUNCTION_EN 1).wr R.RING_NODE_STATE_RING 1).wr R.RING_NODE_STATE_STATION 5).wr (R.RING_RT_VALID 2) 1).wr (R.RING_RT_SIDE 2) 1) with ring.ring1 := 2, ring.station1 := 7 }.setTopo 1 9 { hopsA := 1 , present := true})).setPort (0 : Fin 4) { st := .up }).wr R.TWIN_CFG_EN 1),
     by decide +kernel⟩,
   ⟨(0 : Fin 4), { typ := fSweep }, State.reset, by decide +kernel⟩,
   ⟨(0 : Fin 4), ({} : Frame), true, State.reset, by decide +kernel⟩⟩

theorem witness_AckAndReplay :
    (∃ (i : Fin 5) (x : SetPair) (q : Fin 4096) (s : State), setOf x = some (1, q.val) ∧ s.isUp i = true ∧
      (s.port i).fifo.any (fun f => f.lseq = q.val) = true) ∧
    (∃ (i : Fin 5) (x : SetPair) (q : Fin 4096) (s : State), s.isUp i = true ∧ (s.port i).fifo.any (fun f => f.lseq = q.val) = false) ∧
    (∃ (i : Fin 5) (x : SetPair) (s : State), setOf x = none) ∧
    (∃ (code : Nat) (arg : Nat), 1 ≤ code ∧ code ≤ 3 ∧ arg < 2 ^ 16) ∧
    (∃ (i : Fin 5) (x : SetPair) (q : Fin 4096) (f : Frame) (r : List Frame) (s : State), setOf x = some (2, q.val) ∧ s.isUp i = true ∧
      (s.port i).fifo = f :: r ∧ f.lseq ≠ q.val ∧ r.any (fun f => f.lseq = q.val) = true) ∧
    (∃ (i : Fin 5) (x : SetPair) (q : Fin 4096) (f : Frame) (r : List Frame) (s : State), setOf x = some (2, q.val) ∧ s.isUp i = true ∧
      (s.port i).fifo = f :: r ∧ f.lseq = q.val ∧ (s.port i).failed ≠ 3) ∧
    (∃ (i : Fin 5) (f : Frame) (r : List Frame) (s : State), s.isUp i = true ∧ (s.port i).fifo = f :: r ∧ (s.port i).failed ≠ 3) ∧
    (∃ (i : Fin 5) (f : Frame) (r : List Frame) (s : State), s.isUp i = true ∧ (s.port i).fifo = f :: r ∧ (s.port i).failed = 3) ∧
    (∃ (i : Fin 5) (s : State), s.isUp i = true ∧ (s.port i).busy = false) ∧
    (∃ (i : Fin 5) (s : State), s.isUp i = true ∧ (s.port i).busy = true) :=
  ⟨⟨(0 : Fin 5), (twinSets 1 4095), (4095 : Fin 4096), (State.reset.setPort 0 { st := .up, fifo := [{ lseq := 4095 }] }), by decide +kernel⟩,
   ⟨(0 : Fin 5), (twinSets 1 0), (0 : Fin 4096), (((State.reset).setPort (0 : Fin 5) { st := .up }).wr R.TWIN_CFG_EN 1), by decide +kernel⟩,
   ⟨(0 : Fin 5), ⟨⟨false, []⟩, ⟨false, []⟩⟩, State.reset, by decide +kernel⟩,
   ⟨1, 0, by decide +kernel⟩,
   ⟨3, twinSets 2 4095, 4095, {}, [{ lseq := 4095 }], (State.reset.wr R.RING_NODE_ID1_JUNCTION_EN 1).setPort 3 { st := .up, fifo := [{}, { lseq := 4095 }] },
     by decide +kernel⟩,
   ⟨(0 : Fin 5), (twinSets 2 0), (0 : Fin 4096), ({ lseq := (0 : Fin 4096).val } : Frame), [],
     (((State.reset).setPort (0 : Fin 5) { st := .up, fifo := ({ lseq := (0 : Fin 4096).val } : Frame) :: [] }).wr R.TWIN_CFG_EN 1), by decide +kernel⟩,
   ⟨(0 : Fin 5), ({} : Frame), [], (((State.reset).setPort (0 : Fin 5) { st := .up, fifo := ({} : Frame) :: [] }).wr R.TWIN_CFG_EN 1), by decide +kernel⟩,
   ⟨(0 : Fin 5), ({} : Frame), [], (((State.reset).setPort (0 : Fin 5) { st := .up, fifo := ({} : Frame) :: [], failed := 3 }).wr R.TWIN_CFG_EN 1),
     by decide +kernel⟩,
   ⟨(0 : Fin 5), (((State.reset).setPort (0 : Fin 5) { st := .up, busy := false }).wr R.TWIN_CFG_EN 1), by decide +kernel⟩,
   ⟨(0 : Fin 5), (((State.reset).setPort (0 : Fin 5) { st := .up, busy := true }).wr R.TWIN_CFG_EN 1), by decide +kernel⟩⟩

theorem witness_LinkLoss :
    (∃ (i : Fin 5) (s : State), s.isUp i = true) ∧
    (∃ (i : Fin 5) (s : State), s.isUp i = false) :=
  ⟨⟨(0 : Fin 5), (((State.reset).setPort (0 : Fin 5) { st := .up }).wr R.TWIN_CFG_EN 1), by decide +kernel⟩,
   ⟨(0 : Fin 5), State.reset, by decide +kernel⟩⟩

theorem witness_BringUp :
    (∃ (i : Fin 5) (s : State), (s.port i).waitRetry = false ∧ (s.port i).st = .down ∧ s.ringMode i = true ∧ s.portEn i = true ∧
      (s.pwr.asleep = false ∨ i.val < 2)) ∧
    (∃ (i : Fin 5) (s : State), (s.port i).waitRetry = true ∧ (s.port i).st = .down ∧ s.ringMode i = true ∧ s.portEn i = true ∧
      (s.pwr.asleep = false ∨ i.val < 2)) ∧
    (∃ (i : Fin 5) (s : State), (s.port i).st = .signal) ∧
    (∃ (i : Fin 5) (s : State), (s.port i).st = .train) ∧
    (∃ (i : Fin 5) (s : State), (s.port i).st = .auth) ∧
    (∃ (i : Fin 5) (s : State), (s.port i).st = .signal) ∧
    (∃ (i : Fin 5) (s : State), (s.port i).st = .train ∧ (s.port i).readySent = false ∧ (s.port i).readySeen = true ∧ (s.port i).busy = false) ∧
    (∃ (i : Fin 5) (x : SetPair) (a : Nat) (s : State), setOf x = some (3, a) ∧ (s.port i).st = .train ∧ (s.port i).readySeen = false ∧
      (s.port i).readySent = true) ∧
    (∃ (i : Fin 5) (x : SetPair) (a : Nat) (s : State), setOf x = some (3, a) ∧ (s.port i).st = .train ∧ (s.port i).readySeen = false ∧
      (s.port i).readySent = false) ∧
    (∃ (i : Fin 5) (s : State), (s.port i).st = .train) ∧
    (∃ (i : Fin 5) (x : Nat) (s : State), (s.port i).st = .train ∧ (s.port i).probeAt.isSome = true) ∧
    (∃ (i : Fin 5) (s : State), (s.port i).probeAt.isSome = true ∧ (s.port i).st = .train ∧ (s.port i).readySent = true ∧ (s.port i).readySeen = true) ∧
    (∃ (i : Fin 2) (s : State), (s.port (2 + i.val)).st = .uplinkUp) ∧
    (∃ (i : Fin 2) (s : State), s.uplink (2 + i.val) = true ∧ s.portEn (2 + i.val) = true ∧ (s.port (2 + i.val)).st = .down ∧ s.pwr.asleep = false) ∧
    (∃ (j : Fin 2) (b : List Byte) (s : State), (s.port (2 + j.val)).st = .uplinkUp) ∧
    (∃ (j : Fin 2) (b : List Byte) (s : State), (s.port (2 + j.val)).st = .uplinkUp ∧ 60 ≤ b.length ∧ b.length ≤ 1996 ∧
      (b.getD 12 0).toNat * 256 + (b.getD 13 0).toNat ≠ etSTag ∧ (b.getD 12 0).toNat * 256 + (b.getD 13 0).toNat ≠ etControl ∧ etherType b = etPtp) ∧
    (∃ (j : Fin 2) (b : List Byte) (s : State), (s.port (2 + j.val)).st = .uplinkUp ∧ etherType b ≠ etPtp ∧ ((∀ t, t < 64 →
      s.rd (R.BRG_TUN_CFG_KIND t) ≠ 4 + j.val))) ∧
    (∃ (j : Fin 2) (t : Nat) (b : List Byte) (s : State), (s.port (2 + j.val)).st = .uplinkUp ∧ 60 ≤ b.length ∧ b.length ≤ 1996 ∧
      (b.getD 12 0).toNat * 256 + (b.getD 13 0).toNat ≠ etSTag ∧ (b.getD 12 0).toNat * 256 + (b.getD 13 0).toNat ≠ etControl ∧ etherType b ≠ etPtp ∧
      etherType b ≠ 0x8100 ∧ t < 64 ∧ s.tunOk t = true ∧ s.flag (R.BRG_TUN_CFG_DIR t) = false ∧ s.rd (R.BRG_TUN_CFG_KIND t) = 4 + j.val ∧
      s.tunPasses t (ethItem 0 b) = true) :=
  ⟨⟨(0 : Fin 5),
     (({ (State.reset).setPort (0 : Fin 5) { waitRetry := false, st := .down } with pwr.asleep := false ∨ (0 : Fin 5).val < 2 }).wr (R.RING_PORT_CFG_EN 0) 1),
     by decide +kernel⟩,
   ⟨(0 : Fin 5),
     (({ (State.reset).setPort (0 : Fin 5) { waitRetry := true, st := .down } with pwr.asleep := false ∨ (0 : Fin 5).val < 2 }).wr (R.RING_PORT_CFG_EN 0) 1),
     by decide +kernel⟩,
   ⟨(0 : Fin 5), ((State.reset).setPort (0 : Fin 5) { st := .signal }), by decide +kernel⟩,
   ⟨(0 : Fin 5), ((State.reset).setPort (0 : Fin 5) { st := .train }), by decide +kernel⟩,
   ⟨(0 : Fin 5), ((State.reset).setPort (0 : Fin 5) { st := .auth }), by decide +kernel⟩,
   ⟨(0 : Fin 5), ((State.reset).setPort (0 : Fin 5) { st := .signal }), by decide +kernel⟩,
   ⟨(0 : Fin 5), ((State.reset).setPort (0 : Fin 5) { st := .train, readySent := false, readySeen := true, busy := false }), by decide +kernel⟩,
   ⟨(0 : Fin 5), (twinSets 3 0), 0, ((State.reset).setPort (0 : Fin 5) { st := .train, readySeen := false, readySent := true }), by decide +kernel⟩,
   ⟨(0 : Fin 5), (twinSets 3 0), 0, ((State.reset).setPort (0 : Fin 5) { st := .train, readySeen := false, readySent := false }), by decide +kernel⟩,
   ⟨(0 : Fin 5), ((State.reset).setPort (0 : Fin 5) { st := .train }), by decide +kernel⟩,
   ⟨(0 : Fin 5), 0, ((State.reset).setPort (0 : Fin 5) { st := .train, probeAt := some 0 }), by decide +kernel⟩,
   ⟨(0 : Fin 5), ((State.reset).setPort (0 : Fin 5) { st := .train, readySent := true, readySeen := true, probeAt := some 0 }), by decide +kernel⟩,
   ⟨(0 : Fin 2), (State.reset.setPort 2 { st := .uplinkUp }), by decide +kernel⟩,
   ⟨(0 : Fin 2), ((State.reset.wr (R.RING_PORT_CFG_EN 2) 1).wr (R.RING_PORT_CFG_MODE 2) 1), by decide +kernel⟩,
   ⟨(0 : Fin 2), [], (State.reset.setPort 2 { st := .uplinkUp }), by decide +kernel⟩,
   ⟨(0 : Fin 2), List.replicate 12 0 ++ [0x88, 0xF7] ++ List.replicate 46 0, (State.reset.setPort 2 { st := .uplinkUp }), by decide +kernel⟩,
   ⟨(0 : Fin 2), [], (State.reset.setPort 2 { st := .uplinkUp }), by decide +kernel⟩,
   ⟨0, 63, List.replicate 60 0,
     ((((State.reset.setPort 2 { st := .uplinkUp }).wr (R.BRG_TUN_CFG_VALID 63) 1).wr (R.BRG_TUN_CFG_KIND 63) 4).wr (R.BRG_TUN_NODE_NODE 63) 257),
     by decide +kernel⟩⟩

theorem witness_OutputOrder :
    (∃ (i : Fin 5) (f : Frame) (r : List Frame) (s : State), s.isUp i = true ∧ (s.port i).sweep = f :: r ∧ (s.port i).fcnt < 2 ^ 32) ∧
    (∃ (i : Fin 5) (f : Frame) (r : List Frame) (s : State), s.isUp i = true ∧ (s.port i).sweep = [] ∧ (s.port i).sync = [] ∧ (s.port i).rewind = f :: r ∧
      s.windowHolds i f = false) ∧
    (∃ (i : Fin 5) (f : Frame) (r : List Frame) (s : State), s.isUp i = true ∧ (s.port i).sweep = [] ∧ (s.port i).sync = f :: r ∧ s.windowHolds i f = false) ∧
    (∃ (i : Fin 5) (f : Frame) (r : List Frame) (s : State), s.isUp i = true ∧ (s.port i).setsDue = [] ∧ (s.port i).sweep = f :: r) ∧
    (∃ (i : Fin 5) (s : State), s.isUp i = false) ∧
    (∃ (i : Nat) (f : Frame) (s : State), (s.port i).fcnt < 2 ^ 32 ∧ f.replayed = true ∧ f.mark = .valid ∧ (s.sec_ i).rekey = none ∧ s.overThr i f = false) :=
  ⟨⟨(0 : Fin 5), ({} : Frame), [], (((State.reset).setPort (0 : Fin 5) { st := .up, sweep := ({} : Frame) :: [] }).wr R.TWIN_CFG_EN 1), by decide +kernel⟩,
   ⟨(0 : Fin 5), ({} : Frame), [],
     (((State.reset).setPort (0 : Fin 5) { st := .up, sweep := [], sync := [], rewind := ({} : Frame) :: [] }).wr R.TWIN_CFG_EN 1), by decide +kernel⟩,
   ⟨(0 : Fin 5), ({} : Frame), [], (((State.reset).setPort (0 : Fin 5) { st := .up, sweep := [], sync := ({} : Frame) :: [] }).wr R.TWIN_CFG_EN 1),
     by decide +kernel⟩,
   ⟨(0 : Fin 5), ({} : Frame), [], (((State.reset).setPort (0 : Fin 5) { st := .up, setsDue := [], sweep := ({} : Frame) :: [] }).wr R.TWIN_CFG_EN 1),
     by decide +kernel⟩,
   ⟨(0 : Fin 5), State.reset, by decide +kernel⟩,
   ⟨0, ({ typ := fReq, mark := .valid } : Frame), State.reset, by decide +kernel⟩⟩

theorem witness_Joining :
    (∃ (n : Fin 2) (s : State), (s.joinOf n).step = 5 ∧ s.joined n = false) ∧
    (∃ (n : Fin 2) (s : State), ((s.joinOf n).step ≠ 5 ∨ s.joined n = true)) ∧
    (∃ (i : Fin 4) (f : Frame) (s : State), f.mark = .valid ∧ f.ver = 1 ∧ f.typ = fReq ∧ isBc f = true ∧ f.op = opWrite ∧ bits f.arg 32 14 = 0x3FFF ∧
      bits f.arg 0 32 = 0x3004 ∧ f.payload.length = 20 ∧ s.station (i / 2) = 0 ∧ (s.joinOf (i / 2)).step = 3 ∧ leAt f.payload 4 16 = s.serial ∧
      leAt f.payload 0 1 ≠ 0 ∧ leAt f.payload 0 1 ≠ 255 ∧ s.mayManage (Req.ofFrame f) = true) ∧
    (∃ (i : Fin 4) (f : Frame) (s : State), (s.station (i / 2) ≠ 0 ∨ leAt f.payload 4 16 ≠ s.serial ∨ s.mayManage (Req.ofFrame f) = false)) ∧
    (∃ (n : Nat) (st : Nat) (s : State), st ≠ 0 ∧ (s.topo n st).present = false) ∧
    (∃ (n : Fin 2) (s : State), s.station n ≠ 0 ∧ s.isUp (lane n 0) = false ∧ s.isUp (lane n 1) = false) :=
  ⟨⟨(0 : Fin 2), ((State.reset.setJoin 0 { step := 5 })), by decide +kernel⟩,
   ⟨(0 : Fin 2), State.reset, by decide +kernel⟩,
   ⟨(0 : Fin 4),
     ({ typ := fReq, op := opWrite, dst := 0x3FFFF, src := 257, arg := 0x3FFF * 2 ^ 32 + 0x3004, payload := [9, 0, 0, 0] ++ leBytes 16 Config.partSerial.toNat } : Frame),
     (((State.reset.wr (R.SEC_MGMT_VALID 0) 1).wr (R.SEC_MGMT_NODE 0) 257).setJoin 0 { step := 3 }), by decide +kernel, by decide +kernel, by decide +kernel,
     by decide +kernel, by decide +kernel, by decide +kernel, by decide +kernel, by simp [leBytes_length], by decide +kernel, by decide +kernel,
     leAt_serial [9, 0, 0, 0] 4 rfl, by decide +kernel, by decide +kernel, by decide +kernel⟩,
   ⟨(0 : Fin 4), {}, State.reset, .inr (.inr (by decide +kernel))⟩,
   ⟨0, 1, State.reset, by decide +kernel⟩,
   ⟨(0 : Fin 2), ((onRing State.reset)), by decide +kernel⟩⟩

theorem witness_Announces :
    (∃ (i : Fin 4) (f : Frame) (s : State), s.isUp i = true ∧ f.mark = .valid ∧ f.ver = 1 ∧ f.typ = fMgmt ∧ f.op = 1 ∧ bit (leAt f.payload 8 1) 3 = false ∧
      leAt f.payload 0 4 % 2 ^ 18 % 256 ≠ 0 ∧ leAt f.payload 0 4 % 2 ^ 18 % 256 ≠ 255 ∧ leAt f.payload 16 16 ≠ s.serial ∧
      leAt f.payload 0 4 % 2 ^ 18 ≠ nodeId (s.ringId (i / 2)) (s.station (i / 2))) ∧
    (∃ (i : Fin 4) (f : Frame) (s : State), s.isUp i = true ∧ f.mark = .valid ∧ f.ver = 1 ∧ f.typ = fMgmt ∧ f.op = 1 ∧ leAt f.payload 16 16 = s.serial) ∧
    (∃ (i : Fin 4) (f : Frame) (s : State), s.isUp i = true ∧ f.mark = .valid ∧ f.ver = 1 ∧ f.typ = fMgmt ∧ f.op = 1 ∧
      leAt f.payload 0 4 % 2 ^ 18 = nodeId (s.ringId (i / 2)) (s.station (i / 2)) ∧ s.joined (i / 2) = true) ∧
    (∃ (n : Fin 2) (s : State), s.hasRing n = true ∧ s.joined n = true) ∧
    (∃ (n : Fin 2) (s : State), s.joined n = false) ∧
    (∃ (n : Fin 2) (st : Fin 256) (s : State), (s.topo n st).present = true ∧ st.val ≠ s.station n) ∧
    (∃ (i : Fin 4) (f : Frame) (s : State), s.isUp i = true ∧ f.mark = .valid ∧ f.ver = 1 ∧ f.typ = fMgmt ∧ f.op = 2 ∧ s.stationOf (i / 2) f.src ≠ 0 ∧
      s.hops (i / 2) (s.stationOf (i / 2) f.src) (leAt f.payload 0 1 % 2) ≠ 0xFF ∧ leAt f.payload 0 1 % 2 = 0) :=
  ⟨⟨(0 : Fin 4), { typ := fMgmt, op := 1, payload := [9, 1] ++ List.replicate 14 0 ++ leBytes 16 (Config.partSerial + 1).toNat },
     (onRing (State.reset.setPort 0 { st := .up })), by decide +kernel, by decide +kernel, by decide +kernel, by decide +kernel, by decide +kernel,
     by decide +kernel, by decide +kernel, by decide +kernel, leAt_not_serial ([9, 1] ++ List.replicate 14 0) 16 rfl, by decide +kernel⟩,
   ⟨(0 : Fin 4), { typ := fMgmt, op := 1, payload := List.replicate 16 0 ++ leBytes 16 Config.partSerial.toNat },
     (onRing (State.reset.setPort 0 { st := .up })), by decide +kernel, by decide +kernel, by decide +kernel, by decide +kernel, by decide +kernel,
     leAt_serial (List.replicate 16 0) 16 rfl⟩,
   ⟨(0 : Fin 4), { typ := fMgmt, op := 1, payload := [5, 1, 0, 0] }, (onRing (State.reset.setPort 0 { st := .up })), by decide +kernel⟩,
   ⟨(0 : Fin 2), (((State.reset).wr R.RING_NODE_STATE_JOINED 1).wr R.RING_NODE_STATE_JOINED1 1), by decide +kernel⟩,
   ⟨(0 : Fin 2), State.reset, by decide +kernel⟩,
   ⟨(0 : Fin 2), (9 : Fin 256), ((onRing State.reset).setTopo 0 9 { present := true }), by decide +kernel⟩,
   ⟨(0 : Fin 4), { typ := fMgmt, op := 2, src := 265 }, (((onRing (State.reset.setPort 0 { st := .up }))).setTopo 0 9 { hopsA := 3, present := true }),
     by decide +kernel⟩⟩

theorem witness_Masters :
    (∃ (n : Fin 2) (s : State), s.ready = true ∧ s.hasRing n = true ∧ s.rd (R.RING_CYC_CFG_PRIO n) ≠ 0 ∧ s.isMaster n = false ∧
      (s.isUp (2 * n) = true ∨ s.isUp (2 * n + 1) = true) ∧ s.claimOpen n = true ∧ s.standby = false ∧ (s.joinOf n).step ≠ 2) ∧
    (∃ (n : Fin 2) (s : State), (s.rd (R.RING_CYC_CFG_PRIO n) = 0 ∨ s.isMaster n = true ∨ s.claimOpen n = false)) ∧
    (∃ (n : Fin 2) (k : Nat) (j : Nat) (s : State), (s.cycOf n).sentK = some j ∧ (k ≤ j ∨ k ≠ s.cycleNow n)) ∧
    (∃ (n : Fin 2) (k : Nat) (j : Nat) (s : State), s.isMaster n = true ∧ s.hasRing n = true ∧ (s.cycOf n).sentK = some j ∧ j < k ∧ k = s.cycleNow n ∧
      (s.cycOf n).passed k = false ∧ s.tailNear n = true) ∧
    (∃ (n : Fin 2) (k : Nat) (s : State), s.isMaster n = true ∧ s.hasRing n = true ∧ (s.cycOf n).sentK = none ∧ (s.cycOf n).passed k = false ∧
      k = s.cycleNow n ∧ s.buildSlices n k = []) ∧
    (∃ (n : Fin 2) (k : Nat) (s : State), s.isMaster n = true ∧ s.hasRing n = true ∧ (s.cycOf n).sentK = none ∧ (s.cycOf n).passed k = false ∧
      k = s.cycleNow n ∧ s.buildSlices n k ≠ [] ∧ s.isUp (lane n 0) = false ∧ s.isUp (lane n 1) = false) ∧
    (∃ (n : Fin 2) (k : Nat) (f : Frame) (s : State), s.isMaster n = true ∧ s.hasRing n = true ∧ k = s.cycleNow n ∧ (s.cycOf n).passed k = false ∧
      (s.cycOf n).sentK.any (fun j => decide (k ≤ j)) = false ∧ ((s.cycOf n).sentK = none ∨ s.tailNear n = false) ∧
      f = { typ := fSweep, tc := 7, dst := nodeId (s.ringId n) 255, src := s.node0, op := s.dueBits n k, arg := k, slices := s.buildSlices n k } ∧
      f.slices ≠ []) :=
  ⟨⟨(0 : Fin 2), (((State.reset.wr R.ID_STATE_READY 1).setPort 0 { st := .up }).wr (R.RING_CYC_CFG_PRIO 0) 1), by decide +kernel⟩,
   ⟨(0 : Fin 2), State.reset, by decide +kernel⟩,
   ⟨(0 : Fin 2), 5, 5, ((State.reset.setCyc 0 { sentK := some 5 })), by decide +kernel⟩,
   ⟨(0 : Fin 2), 1000, 5, ((later.wr (R.RING_CYC_STAT_ROLE 0) 1).setCyc 0 { sentK := some 5, sentNs := 2000000 }), by decide +kernel⟩,
   ⟨(0 : Fin 2), 0, ((State.reset).wr (R.RING_CYC_STAT_ROLE (0 : Fin 2)) 1), by decide +kernel⟩,
   ⟨(0 : Fin 2), 0, (((State.reset).wr (R.RING_CYC_STAT_ROLE (0 : Fin 2)) 1).wr (R.RING_SLOT_STATION 0 0) 9), by decide +kernel⟩,
   ⟨0, 0, _, ((((State.reset.wr (R.RING_CYC_STAT_ROLE 0) 1).wr (R.RING_SLOT_STATION 0 0) 9))), by decide +kernel, by decide +kernel, by decide +kernel,
     by decide +kernel, by decide +kernel, .inl rfl, rfl, by decide +kernel⟩⟩

theorem witness_SweepCopies :
    (∃ (i : Fin 4) (g : Frame) (f : Frame) (s : State), s.readTag i g = f ∧ s.isUp i = true ∧ f.typ = fSweep ∧ f.ver = 1 ∧ ((∀ x ∈ f.slices,
      x.mark = .valid)) ∧ f.epoch = (s.port i).rxEpoch ∧ s.heeds (i / 2) f = false ∧ (s.isMine f.src = false ∨ s.standby = true)) ∧
    (∃ (i : Fin 4) (g : Frame) (f : Frame) (s : State), s.readTag i g = f ∧ s.isUp i = true ∧ f.typ = fSweep ∧ f.ver = 1 ∧ ((∀ x ∈ f.slices,
      x.mark = .valid)) ∧ f.epoch = (s.port i).rxEpoch ∧ s.heeds (i / 2) f = false ∧ s.isMine f.src = true ∧ s.standby = false ∧ f.wrap = 0) ∧
    (∃ (n : Nat) (k : Nat) (x : Slice) (s : State), x.station = s.station n ∧ x.mark = .valid ∧ x.written = false ∧ s.standby = false) ∧
    (∃ (n : Nat) (k : Nat) (x : Slice) (s : State), x.station ≠ s.station n) ∧
    (∃ (i : Nat) (f : Frame) (s : State), f.hops ≠ 1023 ∧ s.isUp (mate i) = false ∧ f.wrap = 0) :=
  ⟨⟨(0 : Fin 4), ({ typ := fSweep, ver := 1, epoch := false } : Frame), ({ typ := fSweep, ver := 1, epoch := false } : Frame),
     (((State.reset).setPort (0 : Fin 4) { st := .up }).wr R.TWIN_CFG_EN 1), by decide +kernel⟩,
   ⟨(0 : Fin 4), ({ typ := fSweep, ver := 1, epoch := false, wrap := 0, src := 261 } : Frame),
     ({ typ := fSweep, ver := 1, epoch := false, wrap := 0, src := 261 } : Frame),
     ((((onRing State.reset)).setPort (0 : Fin 4) { st := .up }).wr R.TWIN_CFG_EN 1), by decide +kernel⟩,
   ⟨0, 0, slice0, State.reset, by decide +kernel⟩,
   ⟨0, 0, { station := 7 }, State.reset, by decide +kernel⟩,
   ⟨0, ({ wrap := 0 } : Frame), State.reset, by decide +kernel⟩⟩

theorem witness_CyclePhases :
    (∃ (k : Nat) (m : Measured) (cj : List (Fin 64 × Int)) (s : State), s.ready = true ∧ s.junction = true ∧ s.captureIs 1 k = true ∧
      (s.cycOf 1).mayRun (s.cycOf 1).captured k = true) ∧
    (∃ (k : Nat) (m : Measured) (cj : List (Fin 64 × Int)) (s : State), s.ready = true ∧ s.captureIs 0 k = true ∧
      (s.cycOf 0).mayRun (s.cycOf 0).captured k = true) ∧
    (∃ (n : Fin 2) (k : Nat) (m : Measured) (cj : List (Fin 64 × Int)) (s : State),
      (s.captureIs n k = false ∨ (s.cycOf n).mayRun (s.cycOf n).captured k = false)) ∧
    (∃ (n : Fin 2) (k : Nat) (s : State), (s.closeIs n k = false ∨ (s.cycOf n).mayRun (s.cycOf n).closed k = false)) ∧
    (∃ (n : Fin 2) (k : Nat) (m : Measured) (cj : List (Fin 64 × Int)) (s : State), s.ready = false) ∧
    (∃ (k : Nat) (s : State), s.ready = true ∧ s.junction = true ∧ s.closeIs 1 k = true ∧ (s.cycOf 1).mayRun (s.cycOf 1).closed k = true) ∧
    (∃ (k : Nat) (s : State), s.ready = true ∧ s.closeIs 0 k = true ∧ (s.cycOf 0).mayRun (s.cycOf 0).closed k = true) ∧
    (∃ (r : Nat) (j : Nat) (s : State), s.rfx.old = none ∧ s.rfx.todo = [r] ∧ (rowOf s.rfx.act r).remotes = [j] ∧ (s.rop j).settled = false ∧
      (s.rop j).resp = none) ∧
    (∃ (s : State), s.ready = true ∧ s.rfx.todo ≠ []) ∧
    (∃ (s : State), s.ready = true ∧ s.rfx.todo = []) ∧
    (∃ (f : Freeze) (rest : List Freeze) (s : State), s.cyc.freezes = f :: rest) ∧
    (∃ (s : State), s.cyc.freezes = []) :=
  ⟨⟨1, [], [], (((State.reset.wr R.RING_NODE_ID1_JUNCTION_EN 1)).wr R.ID_STATE_READY 1), by decide +kernel⟩,
   ⟨1, [], [], ((State.reset).wr R.ID_STATE_READY 1), by decide +kernel⟩,
   ⟨(0 : Fin 2), 0, [], [], State.reset, by decide +kernel⟩,
   ⟨(0 : Fin 2), 0, State.reset, by decide +kernel⟩,
   ⟨(0 : Fin 2), 0, [], [], State.reset, by decide +kernel⟩,
   ⟨999, ((later.wr R.ID_STATE_READY 1).wr R.RING_NODE_ID1_JUNCTION_EN 1), by decide +kernel⟩,
   ⟨999, (later.wr R.ID_STATE_READY 1), by decide +kernel⟩,
   ⟨0, 0, { State.reset with rfx.todo := [0], rfx.act := [(tblKey 0 7, 0x60)] }, by decide +kernel⟩,
   ⟨({ (State.reset).wr R.ID_STATE_READY 1 with rfx.todo := [0] }), by decide +kernel⟩,
   ⟨({ (State.reset).wr R.ID_STATE_READY 1 with rfx.todo := [] }), by decide +kernel⟩,
   ⟨frz0, [], ({ { State.reset with cyc.freezes := frz0 :: [] } with cyc.freezes := [frz0] }), by decide +kernel⟩,
   ⟨({ State.reset with cyc.freezes := [] }), by decide +kernel⟩⟩

theorem witness_SyncFrames :
    (∃ (n : Fin 2) (s : State), s.isMaster n = true ∧ s.hasRing n = true ∧ (s.cycOf n).sentK = some (s.cycleNow n) ∧ (s.cycOf n).syncK ≠ some (s.cycleNow n) ∧
      s.syncCycle n (s.cycleNow n) = true ∧ s.isUp (lane n 0) = false ∧ s.isUp (lane n 1) = true ∧ (s.port (lane n 1)).busy = true) ∧
    (∃ (i : Nat) (f : Frame) (s : State), f.typ = fTime ∧ f.op = 1 ∧ f.hops = 0) ∧
    (∃ (i : Nat) (f : Frame) (s : State), f.typ = fTime ∧ f.op = 1 ∧ f.hops = 0) ∧
    (∃ (n : Fin 2) (s : State), (s.isMaster n = false ∨ (s.cycOf n).syncK = some (s.cycleNow n) ∨ s.syncCycle n (s.cycleNow n) = false)) ∧
    (∃ (i : Fin 4) (g : Frame) (f : Frame) (res : Nat) (s : State), s.readTag i g = f ∧ s.isUp i = true ∧ f.ver = 1 ∧ f.typ = fTime ∧ f.op = 1 ∧
      f.mark = .valid ∧ f.epoch = (s.port i).rxEpoch ∧ badTime (leAt f.payload 0 12) = true) ∧
    (∃ (i : Fin 4) (g : Frame) (f : Frame) (res : Nat) (s : State), s.readTag i g = f ∧ s.isUp i = true ∧ f.ver = 1 ∧ f.typ = fTime ∧ f.op = 1 ∧
      f.mark = .valid ∧ f.epoch = (s.port i).rxEpoch ∧ badTime (leAt f.payload 0 12) = false ∧ leAt f.payload 0x17 1 % 8 = 0 ∧ s.isMine f.src = true ∧
      s.standby = false) ∧
    (∃ (i : Fin 4) (g : Frame) (f : Frame) (res : Nat) (s : State), s.readTag i g = f ∧ s.isUp i = true ∧ f.ver = 1 ∧ f.typ = fTime ∧ f.op = 1 ∧
      f.mark = .valid ∧ f.epoch = (s.port i).rxEpoch ∧ badTime (leAt f.payload 0 12) = false ∧ leAt f.payload 0x17 1 % 8 = 0 ∧
      (s.isMine f.src = false ∨ s.standby = true)) ∧
    (∃ (n : Nat) (dir : Nat) (hops : Nat) (x : Int) (s : State), s.pwr.asleep = false) ∧
    (∃ (n : Fin 2) (dir : Fin 2) (s : State), (s.path n dir).avail = true ∧ s.followsRing (ringDomain n) = false) ∧
    (∃ (n : Fin 2) (dir : Fin 2) (s : State), (s.path n dir).avail = false) :=
  ⟨⟨(0 : Fin 2), (((later.wr (R.RING_CYC_STAT_ROLE 0) 1).setCyc 0 { sentK := some 1000 }).setPort 1 { st := .up, busy := true }), by decide +kernel⟩,
   ⟨0, ({ typ := fTime, op := 1, hops := 0 } : Frame), State.reset, by decide +kernel⟩,
   ⟨0, ({ typ := fTime, op := 1, hops := 0 } : Frame), State.reset, by decide +kernel⟩,
   ⟨(0 : Fin 2), State.reset, by decide +kernel⟩,
   ⟨(0 : Fin 4), ({ ver := 1, typ := fTime, op := 1, mark := .valid, epoch := false, payload := List.replicate 12 255 } : Frame),
     ({ ver := 1, typ := fTime, op := 1, mark := .valid, epoch := false, payload := List.replicate 12 255 } : Frame), 0,
     (((State.reset).setPort (0 : Fin 4) { st := .up }).wr R.TWIN_CFG_EN 1), by decide +kernel⟩,
   ⟨(0 : Fin 4), ({ ver := 1, typ := fTime, op := 1, mark := .valid, epoch := false, src := 261 } : Frame),
     ({ ver := 1, typ := fTime, op := 1, mark := .valid, epoch := false, src := 261 } : Frame), 0,
     ((((onRing State.reset)).setPort (0 : Fin 4) { st := .up }).wr R.TWIN_CFG_EN 1), by decide +kernel⟩,
   ⟨(0 : Fin 4), ({ ver := 1, typ := fTime, op := 1, mark := .valid, epoch := false } : Frame),
     ({ ver := 1, typ := fTime, op := 1, mark := .valid, epoch := false } : Frame), 0, (((State.reset).setPort (0 : Fin 4) { st := .up }).wr R.TWIN_CFG_EN 1),
     by decide +kernel⟩,
   ⟨0, 0, 0, 0, ({ State.reset with pwr.asleep := false }), by decide +kernel⟩,
   ⟨(0 : Fin 2), (0 : Fin 2), ((State.reset.setPath 0 0 { avail := true }).wr (R.RING_CYC_STAT_ROLE 0) 1), by decide +kernel⟩,
   ⟨(0 : Fin 2), (0 : Fin 2), State.reset, by decide +kernel⟩⟩

theorem witness_LinkDelays :
    (∃ (i : Fin 5) (s : State), s.isUp i = true) ∧
    (∃ (i : Fin 5) (g : Frame) (f : Frame) (s : State), s.readTag i g = f ∧ s.isUp i = true ∧ f.ver = 1 ∧ f.typ = fTime ∧ f.op = 2 ∧ f.mark = .valid ∧
      f.epoch = (s.port i).rxEpoch) ∧
    (∃ (i : Nat) (f : Frame) (s : State), f.typ = fTime ∧ f.op = 3 ∧ f.hops = 0) ∧
    (∃ (i : Fin 5) (g : Frame) (f : Frame) (t1 : Nat) (d : Int) (s : State), s.readTag i g = f ∧ s.isUp i = true ∧ f.ver = 1 ∧ f.typ = fTime ∧ f.op = 3 ∧
      f.mark = .valid ∧ f.epoch = (s.port i).rxEpoch ∧ badTime (leAt f.payload 0 12) = false ∧ badTime (leAt f.payload 12 12) = false ∧ NMap.get (fun _ => (0,
      0)) s.td.pdelay i = (f.arg + 1, t1) ∧ d = (((s.rxStamp i : Int) - t1) - ((timeDec (leAt f.payload 12 12) : Int) - timeDec (leAt f.payload 0 12))) / 2 ∧
      (d - ((s.port i).rtt * 32768 : Nat)).natAbs ≤ 20 * 65536 ∧ i.val ∈ s.td.pdelayHave ∧ 0 ≤ d ∧ d < 2 ^ 31) ∧
    (∃ (i : Fin 5) (g : Frame) (f : Frame) (q : Nat) (t1 : Nat) (s : State), s.readTag i g = f ∧ s.isUp i = true ∧ f.ver = 1 ∧ f.typ = fTime ∧ f.op = 3 ∧
      f.mark = .valid ∧ f.epoch = (s.port i).rxEpoch ∧ badTime (leAt f.payload 0 12) = false ∧ badTime (leAt f.payload 12 12) = false ∧ NMap.get (fun _ => (0,
      0)) s.td.pdelay i = (q, t1) ∧ (q = 0 ∨ f.arg ≠ q - 1)) :=
  ⟨⟨(0 : Fin 5), (((State.reset).setPort (0 : Fin 5) { st := .up }).wr R.TWIN_CFG_EN 1), by decide +kernel⟩,
   ⟨(0 : Fin 5), ({ ver := 1, typ := fTime, op := 2, mark := .valid, epoch := false } : Frame),
     ({ ver := 1, typ := fTime, op := 2, mark := .valid, epoch := false } : Frame), (((State.reset).setPort (0 : Fin 5) { st := .up }).wr R.TWIN_CFG_EN 1),
     by decide +kernel⟩,
   ⟨0, ({ typ := fTime, op := 3, hops := 0 } : Frame), State.reset, by decide +kernel⟩,
   ⟨(0 : Fin 5), ({ ver := 1, typ := fTime, op := 3, mark := .valid, epoch := false } : Frame),
     ({ ver := 1, typ := fTime, op := 3, mark := .valid, epoch := false } : Frame), 0, 0,
     { State.reset.setPort 0 { st := .up } with td.pdelay := [(0, 1, 0)], td.pdelayHave := [0] }, by decide +kernel⟩,
   ⟨(0 : Fin 5), ({ ver := 1, typ := fTime, op := 3, mark := .valid, epoch := false } : Frame),
     ({ ver := 1, typ := fTime, op := 3, mark := .valid, epoch := false } : Frame), 0, 0,
     (((State.reset).setPort (0 : Fin 5) { st := .up }).wr R.TWIN_CFG_EN 1), by decide +kernel⟩⟩

theorem witness_PtpAndPps :
    (∃ (j : Fin 2) (x : Nat) (s : State), s.ptpOn j false = true ∧ (s.ptpMaster j).isSome = true) ∧
    (∃ (j : Fin 2) (s : State), (s.ptpPort j).avail = true) ∧
    (∃ (j : Fin 2) (s : State), s.ptpOn j true = true) ∧
    (∃ (j : Fin 2) (s : State), s.ptpOn j true = true) ∧
    (∃ (j : Fin 2) (s : State), s.ptpOn j false = true ∧ s.rd (R.TD_PTP_PROFILE j) = 0) ∧
    (∃ (j : Fin 2) (s : State), s.ptpOn j true = true ∧ s.rd (R.TD_PTP_PROFILE j) ≠ 0) ∧
    (∃ (j : Fin 2) (b : List Byte) (s : State), leAt b 4 1 = s.rd (R.TD_PTP_DOMNUM j) ∧ leAt b 0 1 % 16 = 0xB ∧ s.ptpOn j false = true ∧
      (s.ptpPort j).best = none) ∧
    (∃ (j : Fin 2) (b : List Byte) (s : State), leAt b 4 1 = s.rd (R.TD_PTP_DOMNUM j) ∧ leAt b 0 1 % 16 = 1 ∧ s.ptpOn j true = true ∧
      s.rd (R.TD_PTP_PROFILE j) = 0) ∧
    (∃ (rising : Bool) (s : State), s.flag R.TD_PPS_IN_EN = true ∧ s.flag R.TD_PPS_IN_EDGE = !rising ∧ s.td.ppsAt = none) ∧
    (∃ (rising : Bool) (x : Nat) (s : State), s.td.ppsAt = some x ∧ s.now < x + 65536 * 500000000) ∧
    (∃ (s : State), s.td.ppsOk = true) ∧
    (∃ (s : State), s.flag R.TD_PPS_OUT_EN = true ∧ s.flag (R.TD_CFG_EN (s.rd R.TD_PPS_OUT_TD)) = true) :=
  ⟨⟨(0 : Fin 2), 0, ((((State.reset.setPort 2 { st := .uplinkUp }).wr (R.TD_PTP_EN 0) 1)).setPtpPort 0 { best := some (0, 0), annEnd := 2 ^ 64 }),
     by decide +kernel⟩,
   ⟨(0 : Fin 2), (State.reset.setPtpPort 0 { best := some (0, 0), avail := true }), by decide +kernel⟩,
   ⟨(0 : Fin 2), ((((State.reset.setPort 2 { st := .uplinkUp }).wr (R.TD_PTP_EN 0) 1).wr (R.TD_PTP_ROLE 0) 1).wr (R.TD_PTP_PROFILE 0) 1), by decide +kernel⟩,
   ⟨(0 : Fin 2), ((((State.reset.setPort 2 { st := .uplinkUp }).wr (R.TD_PTP_EN 0) 1).wr (R.TD_PTP_ROLE 0) 1).wr (R.TD_PTP_PROFILE 0) 1), by decide +kernel⟩,
   ⟨(0 : Fin 2), ((State.reset.setPort 2 { st := .uplinkUp }).wr (R.TD_PTP_EN 0) 1), by decide +kernel⟩,
   ⟨(0 : Fin 2), ((((State.reset.setPort 2 { st := .uplinkUp }).wr (R.TD_PTP_EN 0) 1).wr (R.TD_PTP_ROLE 0) 1).wr (R.TD_PTP_PROFILE 0) 1), by decide +kernel⟩,
   ⟨(0 : Fin 2), [0xB], ((State.reset.setPort 2 { st := .uplinkUp }).wr (R.TD_PTP_EN 0) 1), by decide +kernel⟩,
   ⟨(0 : Fin 2), [1], (((State.reset.setPort 2 { st := .uplinkUp }).wr (R.TD_PTP_EN 0) 1).wr (R.TD_PTP_ROLE 0) 1), by decide +kernel⟩,
   ⟨true, ({ (State.reset).wr R.TD_PPS_IN_EN 1 with td.ppsAt := none }), by decide +kernel⟩,
   ⟨true, 0, ({ State.reset with td.ppsAt := some 0 }), by decide +kernel⟩,
   ⟨({ State.reset with td.ppsOk := true }), by decide +kernel⟩,
   ⟨((State.reset.wr R.TD_PPS_OUT_EN 1).wr (R.TD_CFG_EN 0) 1), by decide +kernel⟩⟩

theorem witness_DomainCommands :
    (∃ (d : Fin 8) (s : State), s.tdAccepts d = true ∧ badTime (s.words (0x40120 + 0x40 * d) 3) = false) ∧
    (∃ (d : Fin 8) (s : State), s.tdAccepts d = true) ∧
    (∃ (d : Fin 8) (s : State), s.tdAccepts d = true ∧ s.tdSetOfs d < 0) ∧
    (∃ (d : Fin 8) (s : State), s.tdAccepts d = true ∧ 0 < s.tdSetOfs d) ∧
    (∃ (d : Fin 8) (s : State), s.tdAccepts d = false) ∧
    (∃ (d : Fin 8) (s : State), (s.domain d).slew ≠ 0) ∧
    (∃ (d : Fin 8) (s : State), s.source d false ≠ 7 ∧ s.source d true = 7 ∧ s.followsRing d = false ∧ s.flag (R.TD_CFG_EN (s.rd (R.TD_CFG_FOLLOW d))) = true) ∧
    (∃ (d : Fin 8) (s : State), s.source d false ≠ 7 ∧ s.source d true ≠ 7) ∧
    (∃ (p : Fin 64) (x : Fin 4) (e : Edge) (r : List Edge) (s : State), NMap.get (fun _ => []) s.td.edges (4 * p + x) = e :: r) ∧
    (∃ (d : Fin 9) (s : State), (s.domain d).st = dHoldover) ∧
    (∃ (d : Fin 9) (s : State), (s.domain d).st ≠ dHoldover) :=
  ⟨⟨(1 : Fin 8), (State.reset.wr (R.TD_CFG_SERVO 1) 1), by decide +kernel⟩,
   ⟨(1 : Fin 8), (State.reset.wr (R.TD_CFG_SERVO 1) 1), by decide +kernel⟩,
   ⟨(1 : Fin 8), ((State.reset.wr (R.TD_CFG_SERVO 1) 1).setWord 0x40164 0x80000000), by decide +kernel⟩,
   ⟨(1 : Fin 8), ((State.reset.wr (R.TD_CFG_SERVO 1) 1).setWord 0x40160 1), by decide +kernel⟩,
   ⟨(0 : Fin 8), State.reset, by decide +kernel⟩,
   ⟨(0 : Fin 8), (State.reset.setDomain 0 { slew := 1 }), by decide +kernel⟩,
   ⟨(1 : Fin 8), ((State.reset.wr (R.TD_CFG_SRC_S 1) 7).wr (R.TD_CFG_EN 0) 1), by decide +kernel⟩,
   ⟨(0 : Fin 8), State.reset, by decide +kernel⟩,
   ⟨(0 : Fin 64), (0 : Fin 4), edge0, [], { State.reset with td.edges := [(0, [edge0])] }, by decide +kernel⟩,
   ⟨(0 : Fin 9), (State.reset.setDomain 0 { st := dHoldover }), by decide +kernel⟩,
   ⟨(0 : Fin 9), State.reset, by decide +kernel⟩⟩

theorem witness_DigitalInputs :
    (∃ (p : Fin 64) (x : Fin 4) (level : Bool) (s : State), s.digital p x = true ∧ bit (s.rd (R.PORT_DIAG_CHAT p)) x = false ∧ s.invert p x level = true ∧
      bit (s.rd (R.PORT_STAT_LEVEL p)) x = false) ∧
    (∃ (p : Fin 64) (x : Fin 4) (level : Bool) (s : State), s.digital p x = true ∧ bit (s.rd (R.PORT_DIAG_CHAT p)) x = false ∧ s.invert p x level = false ∧
      bit (s.rd (R.PORT_STAT_LEVEL p)) x = true) ∧
    (∃ (p : Fin 64) (x : Fin 4) (level : Bool) (s : State), s.digital p x = true ∧ bit (s.rd (R.PORT_DIAG_CHAT p)) x = false ∧
      bit (s.rd (R.PORT_STAT_LEVEL p)) x = s.invert p x level) ∧
    (∃ (p : Fin 64) (x : Fin 4) (rising : Bool) (s : State), s.digital p x = true ∧ bit (s.rd (R.PORT_DIAG_CHAT p)) x = false ∧
      s.rd (R.PORT_DIT_CHAT_N p x) ≠ 0 ∧ s.rd (R.PORT_DIT_CHAT_N p x) ≤ (s.pin p x).raw + 1) ∧
    (∃ (p : Fin 64) (x : Fin 4) (level : Bool) (s : State), bit (s.rd (R.PORT_DIAG_CHAT p)) x = true) ∧
    (∃ (p : Fin 64) (x : Fin 4) (e : PinEvent) (s : State), s.digital p x = false) ∧
    (∃ (p : Fin 64) (x : Fin 4) (level : Bool) (s : State), bit (s.rd (R.PORT_DIAG_CHAT p)) x = true) ∧
    (∃ (p : Fin 64) (x : Fin 4) (level : Bool) (s : State), bit (s.rd (R.PORT_DIAG_CHAT p)) x = false) ∧
    (∃ (p : Fin 64) (x : Fin 4) (s : State), s.digital p x = true ∧ bit (s.rd (R.PORT_STAT_LEVEL p)) x = true ∧ s.rd (R.PORT_DIT_STUCK p x) ≠ 0) ∧
    (∃ (p : Fin 64) (x : Fin 4) (s : State), bit (s.rd (R.PORT_STAT_LEVEL p)) x = false) :=
  ⟨⟨(0 : Fin 64), (0 : Fin 4), true, (((((State.reset.wr R.ID_STATE_READY 1).wr ⟨0xC0000 + 0x400 * 0, 0,
     4⟩ 1)).wr (R.PORT_DIAG_CHAT (0 : Fin 64)) 0).wr (R.PORT_STAT_LEVEL (0 : Fin 64)) 0), by decide +kernel⟩,
   ⟨(0 : Fin 64), (0 : Fin 4), false, (((State.reset.wr R.ID_STATE_READY 1).wr (R.PORT_FN_FN_A 0) fnDi24).wr (R.PORT_STAT_LEVEL 0) 1), by decide +kernel⟩,
   ⟨(0 : Fin 64), (0 : Fin 4), false, ((((State.reset.wr R.ID_STATE_READY 1).wr ⟨0xC0000 + 0x400 * 0, 0, 4⟩ 1)).wr (R.PORT_DIAG_CHAT (0 : Fin 64)) 0),
     by decide +kernel⟩,
   ⟨(0 : Fin 64), (0 : Fin 4), true, ((((((State.reset.wr R.ID_STATE_READY 1).wr ⟨0xC0000 + 0x400 * 0, 0,
     4⟩ 1).setPin 0 0 { raw := 4095 })).wr (R.PORT_DIAG_CHAT (0 : Fin 64)) 0).wr (R.PORT_DIT_CHAT_N (0 : Fin 64) (0 : Fin 4)) 1), by decide +kernel⟩,
   ⟨(0 : Fin 64), (0 : Fin 4), true, ((State.reset).wr (R.PORT_DIAG_CHAT (0 : Fin 64)) (2^((0 : Fin 4):Nat))), by decide +kernel⟩,
   ⟨(0 : Fin 64), (0 : Fin 4), .raw true, State.reset, by decide +kernel⟩,
   ⟨(0 : Fin 64), (0 : Fin 4), true, ((State.reset).wr (R.PORT_DIAG_CHAT (0 : Fin 64)) (2^((0 : Fin 4):Nat))), by decide +kernel⟩,
   ⟨(0 : Fin 64), (0 : Fin 4), true, ((State.reset).wr (R.PORT_DIAG_CHAT (0 : Fin 64)) 0), by decide +kernel⟩,
   ⟨(0 : Fin 64), (0 : Fin 4), (((((State.reset.wr R.ID_STATE_READY 1).wr ⟨0xC0000 + 0x400 * 0, 0,
     4⟩ 1)).wr (R.PORT_STAT_LEVEL (0 : Fin 64)) (2^((0 : Fin 4):Nat))).wr (R.PORT_DIT_STUCK (0 : Fin 64) (0 : Fin 4)) 1), by decide +kernel⟩,
   ⟨(0 : Fin 64), (0 : Fin 4), ((State.reset).wr (R.PORT_STAT_LEVEL (0 : Fin 64)) 0), by decide +kernel⟩⟩

theorem witness_OutputDrivers :
    (∃ (p : Fin 64) (x : Fin 4) (s : State), (s.fn p x = fnDoHs ∨ s.fn p x = fnDoPp) ∧ (s.pin p x).driving = true) ∧
    (∃ (p : Fin 64) (x : Fin 4) (s : State), (s.fn p x = fnDoHs ∨ s.fn p x = fnDoPp) ∧ (s.pin p x).driving = true) ∧
    (∃ (p : Fin 64) (x : Fin 4) (hot : Bool) (s : State), (s.pin p x).driving = false) ∧
    (∃ (p : Fin 64) (x : Fin 4) (s : State), s.rd (R.PORT_DO_RETRY p x) ≠ 0 ∧ (x.val ≠ 2 ∨ s.fn p x ≠ fnAo) ∧ (s.pin p x).latched = true) ∧
    (∃ (p : Fin 64) (x : Fin 4) (s : State), s.rd (R.PORT_DO_RETRY p x) = 0) ∧
    (∃ (p : Fin 64) (s : State), s.fn p 2 = fnAo ∧ s.rd (R.MEAS_AO_RANGE p) ≠ 2 ∧ (s.pin p 2).driving = true) ∧
    (∃ (p : Fin 64) (s : State), s.fn p 2 = fnAo ∧ (s.pin p 2).latched = true) ∧
    (∃ (p : Fin 64) (on : Bool) (s : State), s.fn p 2 = fnAo ∧ s.rd (R.MEAS_AO_RANGE p) = 2) ∧
    (∃ (p : Fin 64) (s : State), s.fn p 2 = fnAo) ∧
    (∃ (p : Fin 64) (d : Fin 3) (s : State), s.standby = true) ∧
    (∃ (p : Fin 64) (s : State), s.fn p 2 = fnAo ∧ s.standby = false) ∧
    (∃ (p : Fin 64) (i : Fin 2) (d : Fin 3) (s : State), d.val = i.val ∧ s.pairOn p d = true ∧ s.standby = false) ∧
    (∃ (p : Fin 64) (d : Fin 3) (s : State), d.val ≠ 2) ∧
    (∃ (p : Nat) (x : Nat) (s : State), (s.pin p x).held = true ∧ s.stageOn p x = true) ∧
    (∃ (p : Nat) (x : Nat) (s : State), ((s.pin p x).held = false ∨ s.stageOn p x = false)) ∧
    (∃ (p : Fin 64) (s : State), (s.pin p 2).hot = true ∧ (s.pin p 2).latched = false ∧ s.shed p 2 = false ∧ s.standby = false ∧ s.powered = true) :=
  ⟨⟨(0 : Fin 64), (2 : Fin 4), (((State.reset.wr R.ID_STATE_READY 1).wr ⟨0xC0000 + 0x400 * 0, 8, 4⟩ fnDoHs).setPin 0 2 { driving := true }),
     by decide +kernel⟩,
   ⟨(0 : Fin 64), (2 : Fin 4), (((State.reset.wr R.ID_STATE_READY 1).wr ⟨0xC0000 + 0x400 * 0, 8, 4⟩ fnDoHs).setPin 0 2 { driving := true }),
     by decide +kernel⟩,
   ⟨(0 : Fin 64), (0 : Fin 4), true, ((State.reset).setPin (0 : Fin 64) (0 : Fin 4) { driving := false }), by decide +kernel⟩,
   ⟨(0 : Fin 64), (2 : Fin 4), ((((State.reset.wr R.ID_STATE_READY 1).wr ⟨0xC0000 + 0x400 * 0, 8,
     4⟩ fnDoHs).setPin 0 2 { latched := true }).wr (R.PORT_DO_RETRY 0 2) 1), by decide +kernel⟩,
   ⟨(0 : Fin 64), (0 : Fin 4), ((State.reset).wr (R.PORT_DO_RETRY (0 : Fin 64) (0 : Fin 4)) (0)), by decide +kernel⟩,
   ⟨(0 : Fin 64), (((State.reset.wr R.ID_STATE_READY 1).wr ⟨0xC0000 + 0x400 * 0, 8, 4⟩ fnAo).setPin 0 2 { driving := true }), by decide +kernel⟩,
   ⟨(0 : Fin 64), (((State.reset.wr R.ID_STATE_READY 1).wr ⟨0xC0000 + 0x400 * 0, 8, 4⟩ fnAo).setPin 0 2 { latched := true }), by decide +kernel⟩,
   ⟨(0 : Fin 64), true, (((State.reset.wr R.ID_STATE_READY 1).wr ⟨0xC0000 + 0x400 * 0, 8, 4⟩ fnAo).wr (R.MEAS_AO_RANGE 0) 2), by decide +kernel⟩,
   ⟨(0 : Fin 64), ((State.reset.wr R.ID_STATE_READY 1).wr ⟨0xC0000 + 0x400 * 0, 8, 4⟩ fnAo), by decide +kernel⟩,
   ⟨(0 : Fin 64), (0 : Fin 3), ((State.reset).wr R.TWIN_STAT_ROLE 2), by decide +kernel⟩,
   ⟨(0 : Fin 64), ((State.reset.wr R.ID_STATE_READY 1).wr ⟨0xC0000 + 0x400 * 0, 8, 4⟩ fnAo), by decide +kernel⟩,
   ⟨(0 : Fin 64), (0 : Fin 2), (0 : Fin 3), (busOn 2 2), by decide +kernel⟩,
   ⟨(0 : Fin 64), (0 : Fin 3), State.reset, by decide +kernel⟩,
   ⟨0, 0, ((State.reset).setPin 0 0 { held := true }), by decide +kernel⟩,
   ⟨0, 0, State.reset, by decide +kernel⟩,
   ⟨(0 : Fin 64), { State.reset.setPin 0 2 { hot := true } with fld.power := true }, by decide +kernel⟩⟩

theorem witness_PinValues :
    (∃ (p : Nat) (x : Nat) (s : State), s.takesLevel p x = true ∧ s.mayDrive p x = true) ∧
    (∃ (p : Nat) (x : Nat) (s : State), s.takesLevel p x = true ∧ (s.pin p x).latched = true ∧ s.inSafe = false) ∧
    (∃ (p : Nat) (x : Nat) (b : Bool) (s : State), s.takesLevel p x = true ∧ (s.pin p x).latched = true ∧ s.inSafe = true) ∧
    (∃ (p : Nat) (x : Nat) (b : Bool) (s : State), s.takesLevel p x = false ∧ s.fn p x ≠ fnLogicBriar) ∧
    (∃ (p : Nat) (type : Nat) (v : Nat) (s : State), s.fn p 2 = fnAo ∧ s.mayDrive p 2 = true) ∧
    (∃ (p : Nat) (v : Nat) (s : State), s.rd (R.MEAS_AO_RANGE p) = 1 ∧ 32767 < sext 64 v) ∧
    (∃ (p : Nat) (v : Nat) (s : State), s.rd (R.MEAS_AO_RANGE p) = 0 ∧ sext 64 v < 0) :=
  ⟨⟨0, 3, ((State.reset.wr R.ID_STATE_READY 1).wr ⟨0xC0000 + 0x400 * 0, 12, 4⟩ fnLogicOut), by decide +kernel⟩,
   ⟨0, 2, (((State.reset.wr R.ID_STATE_READY 1).wr ⟨0xC0000 + 0x400 * 0, 8, 4⟩ fnDoHs).setPin 0 2 { latched := true }), by decide +kernel⟩,
   ⟨0, 0, true, ((((State.reset.wr R.ID_STATE_READY 1).wr (R.PORT_FN_FN_A 0) fnDoHs).setPin 0 0 { latched := true }).wr R.FLT_SAFE_SAFE 1), by decide +kernel⟩,
   ⟨0, 0, true, State.reset, by decide +kernel⟩,
   ⟨0, 0, 0, { ((State.reset.wr R.ID_STATE_READY 1).wr ⟨0xC0000 + 0x400 * 0, 8, 4⟩ fnAo) with fld.power := true }, by decide +kernel⟩,
   ⟨0, 40000, ((State.reset).wr (R.MEAS_AO_RANGE 0) (1)), by decide +kernel⟩,
   ⟨0, 2 ^ 63, ((State.reset).wr (R.MEAS_AO_RANGE 0) (0)), by decide +kernel⟩⟩

theorem witness_FieldPower :
    (∃ (p : Fin 64) (s : State), s.flag (R.PORT_STAT_FP_ON p) = true) ∧
    (∃ (p : Fin 64) (s : State), s.flag (R.PORT_STAT_FP_TRIP p) = true ∧ 4 + p.val ∉ s.pwr.brkHot) ∧
    (∃ (p : Fin 64) (s : State), s.flag (R.PORT_STAT_FP_TRIP p) = true ∧ 4 + p.val ∈ s.pwr.brkHot) ∧
    (∃ (p : Fin 64) (s : State), s.flag (R.PORT_STAT_FP_TRIP p) = false) ∧
    (∃ (p : Fin 64) (x : Fin 4) (on : Bool) (s : State), s.fn p x = fnDoHs ∧ s.flag (R.PORT_DO_OL_EN p x) = true ∧ (s.pin p x).latched = false) ∧
    (∃ (p : Fin 64) (on : Bool) (s : State), s.flag (R.PORT_FP_CFG_OL_EN p) = true ∧ s.fpMode p ≠ 0) ∧
    (∃ (p : Fin 64) (x : Fin 4) (s : State), s.fn p x = fnDi24) ∧
    (∃ (p : Fin 64) (x : Fin 5) (short : Bool) (on : Bool) (s : State), ((on = true ∧ s.detects p x short = false) ∨ (on = false ∧ s.ends p x = false))) :=
  ⟨⟨(0 : Fin 64), ((State.reset).wr (R.PORT_STAT_FP_ON (0 : Fin 64)) 1), by decide +kernel⟩,
   ⟨(0 : Fin 64), ((State.reset).wr (R.PORT_STAT_FP_TRIP (0 : Fin 64)) 1), by decide +kernel⟩,
   ⟨(0 : Fin 64), ({ (State.reset).wr (R.PORT_STAT_FP_TRIP (0 : Fin 64)) 1 with pwr.brkHot := [4] }), by decide +kernel⟩,
   ⟨(0 : Fin 64), ((State.reset).wr (R.PORT_STAT_FP_TRIP (0 : Fin 64)) 0), by decide +kernel⟩,
   ⟨(0 : Fin 64), (2 : Fin 4), true, (((((State.reset.wr R.ID_STATE_READY 1).wr ⟨0xC0000 + 0x400 * 0, 8,
     4⟩ fnDoHs)).wr (R.PORT_DO_OL_EN (0 : Fin 64) (2 : Fin 4)) 1).setPin (0 : Fin 64) (2 : Fin 4) { latched := false }), by decide +kernel⟩,
   ⟨(0 : Fin 64), true, ((((State.reset.wr R.ID_STATE_READY 1).wr (R.PORT_FN_FP_MODE 0) 1)).wr (R.PORT_FP_CFG_OL_EN (0 : Fin 64)) 1), by decide +kernel⟩,
   ⟨(0 : Fin 64), (0 : Fin 4), ((State.reset.wr R.ID_STATE_READY 1).wr ⟨0xC0000 + 0x400 * 0, 0, 4⟩ fnDi24), by decide +kernel⟩,
   ⟨(0 : Fin 64), (0 : Fin 5), true, true, State.reset, by decide +kernel⟩⟩

theorem witness_ThermalBudget :
    (∃ (k : Nat) (s : State), s.nextDerate = some k ∧ k % 8 < 4) ∧
    (∃ (k : Nat) (s : State), s.nextDerate = some k ∧ 4 ≤ k % 8) ∧
    (∃ (k : Nat) (r : List Nat) (s : State), s.fld.derated = k :: r) ∧
    (∃ (s : State), s.nextDerate = none) ∧
    (∃ (s : State), s.fld.derated = []) ∧
    (∃ (k : Nat) (s : State), s.nextDerate = some k) :=
  ⟨⟨2, { State.reset with fld.admitted := [(2, 5)] }, by decide +kernel⟩,
   ⟨4, { State.reset with fld.admitted := [(4, 5)] }, by decide +kernel⟩,
   ⟨0, [], ({ State.reset with fld.derated := 0 :: [] }), by decide +kernel⟩,
   ⟨State.reset, by decide +kernel⟩,
   ⟨({ State.reset with fld.derated := [] }), by decide +kernel⟩,
   ⟨2, { State.reset with fld.admitted := [(2, 5)] }, by decide +kernel⟩⟩

theorem witness_Measurement :
    (∃ (c : Fin 256) (s : State), s.fn (c / 4) (c % 4) = fnAi ∧ s.isSense c = false ∧ s.standby = false ∧ s.range c = 2) ∧
    (∃ (c : Fin 256) (on : Bool) (s : State), s.fn (c / 4) (c % 4) = fnAi ∧ s.isSense c = false ∧ (on && s.standby) = false ∧ (s.range c = 2 ∨ s.range c = 4)) ∧
    (∃ (c : Fin 256) (s : State), s.fn (c / 4) (c % 4) = fnAi ∧ s.flag (R.MEAS_STAT_OPEN c) = true) ∧
    (∃ (c : Fin 256) (short : Bool) (on : Bool) (s : State), (s.fn (c / 4) (c % 4) ≠ fnAi ∨ s.isSense c = true ∨ s.range c = 0 ∨ s.range c = 1 ∨ (on = true ∧
      s.standby = true)) ∧ (s.fn (c / 4) (c % 4) ≠ fnAi ∨ on = true ∨ s.flag (if short then R.MEAS_STAT_SHORT c else R.MEAS_STAT_OPEN c) = false)) ∧
    (∃ (c : Fin 256) (s : State), (s.measCh c).shuntOpen = true) ∧
    (∃ (c : Fin 256) (g : BitVec 64) (o : BitVec 64) (s : State), s.flag (R.MEAS_CFG_BG_EN (s.cfgOf c)) = true ∧ s.fn (c / 4) (c % 4) = fnAi ∧
      f64Far g.toNat (s.measCh c).gain (f64rat 5 1000) = false ∧ f64Far o.toNat (s.measCh c).ofs (f64.mul (s.fullScale c) (f64rat 5 1000)) = false) ∧
    (∃ (c : Fin 256) (s : State), s.rd R.MEAS_SCAL_STAT_STATE ≠ 1) ∧
    (∃ (c : Fin 256) (s : State), s.rd R.MEAS_SCAL_STAT_STATE = 1) ∧
    (∃ (c : Fin 256) (codes : List (Int × Int × Int)) (s : State), s.meas.scal = some (c.val, 1) ∧ s.fn (c / 4) (c % 4) = fnAi ∧ codes.length = 16) ∧
    (∃ (c : Nat) (op : Nat) (codes : List (Int × Int × Int)) (s : State), s.meas.scal = some (c, op) ∧ codes.length = 16 ∧ s.fn (c / 4) (c % 4) ≠ fnAi) :=
  ⟨⟨(0 : Fin 256), (((State.reset.wr R.ID_STATE_READY 1).wr ⟨0xC0000 + 0x400 * 0, 0, 4⟩ fnAi).wr (R.MEAS_CFG_RANGE 0) 2), by decide +kernel⟩,
   ⟨(0 : Fin 256), true, (((State.reset.wr R.ID_STATE_READY 1).wr ⟨0xC0000 + 0x400 * 0, 0, 4⟩ fnAi).wr (R.MEAS_CFG_RANGE 0) 2), by decide +kernel⟩,
   ⟨(0 : Fin 256), (((State.reset.wr R.ID_STATE_READY 1).wr ⟨0xC0000 + 0x400 * 0, 0, 4⟩ fnAi).wr (R.MEAS_STAT_OPEN 0) 1), by decide +kernel⟩,
   ⟨(0 : Fin 256), true, true, State.reset, by decide +kernel⟩,
   ⟨(0 : Fin 256), (State.reset.setMeasCh 0 { shuntOpen := true }), by decide +kernel⟩,
   ⟨(0 : Fin 256), 0x3FF0000000000000, 0, (((State.reset.wr R.ID_STATE_READY 1).wr ⟨0xC0000 + 0x400 * 0, 0, 4⟩ fnAi).wr (R.MEAS_CFG_BG_EN 0) 1),
     by decide +kernel⟩,
   ⟨(0 : Fin 256), ((State.reset).wr R.MEAS_SCAL_STAT_STATE 0), by decide +kernel⟩,
   ⟨(0 : Fin 256), ((State.reset).wr R.MEAS_SCAL_STAT_STATE (1)), by decide +kernel⟩,
   ⟨(0 : Fin 256), (List.replicate 16 (0, 0, 0)),
     ({ ((State.reset.wr R.ID_STATE_READY 1).wr ⟨0xC0000 + 0x400 * 0, 0, 4⟩ fnAi) with meas.scal := some ((0 : Fin 256).val, 1) }), by decide +kernel⟩,
   ⟨0, 0, (List.replicate 16 (0, 0, 0)), ({ State.reset with meas.scal := some (0, 0) }), by decide +kernel⟩⟩

theorem witness_BusReception :
    (∃ (i : Fin 32) (p : Nat) (x : Nat) (tec : Nat) (rec : Nat) (f : BusFrame) (s : State), s.ctlPlace cCan i = some (p, x) ∧ s.ctlOn cCan i = true ∧
      s.rd (R.PCTL_CAN_STAT_STATE i) ≠ 2 ∧ s.searching cCan i = false ∧ s.ctlRaw cCan i = true) ∧
    (∃ (i : Fin 32) (p : Nat) (x : Nat) (tec : Nat) (rec : Nat) (m : Nat) (f : BusFrame) (s : State), s.ctlPlace cCan i = some (p, x) ∧
      s.ctlOn cCan i = true ∧ s.rd (R.PCTL_CAN_STAT_STATE i) ≠ 2 ∧ s.searching cCan i = false ∧ s.ctlRaw cCan i = false ∧
      s.canMatch i (withPair f.bytes x) = some m) ∧
    (∃ (i : Fin 32) (p : Nat) (x : Nat) (tec : Nat) (rec : Nat) (f : BusFrame) (s : State), s.ctlPlace cCan i = some (p, x) ∧ s.ctlOn cCan i = true ∧
      s.rd (R.PCTL_CAN_STAT_STATE i) ≠ 2) ∧
    (∃ (i : Fin 32) (tec : Nat) (rec : Nat) (f : BusFrame) (ok : Bool) (s : State), (s.ctlOn cCan i = false ∨ s.rd (R.PCTL_CAN_STAT_STATE i) = 2)) ∧
    (∃ (i : Fin 32) (s : State), s.ctlOn cCan i = true ∧ s.rd (R.PCTL_CAN_STAT_STATE i) ≠ 2) ∧
    (∃ (i : Fin 32) (s : State), s.rd (R.PCTL_CAN_STAT_STATE i) = 2) ∧
    (∃ (i : Fin 32) (s : State), s.rd (R.PCTL_CAN_STAT_STATE i) ≠ 2) ∧
    (∃ (i : Fin 32) (on : Bool) (s : State), s.ctlOn cCan i = true) ∧
    (∃ (i : Fin 16) (p : Nat) (x : Nat) (f : BusFrame) (s : State), s.ctlPlace cSpe i = some (p, x) ∧ s.ctlOn cSpe i = true ∧ s.speAccepts i f.bytes = true ∧
      s.ctlRaw cSpe i = true) ∧
    (∃ (i : Fin 16) (p : Nat) (x : Nat) (m : Nat) (f : BusFrame) (s : State), s.ctlPlace cSpe i = some (p, x) ∧ s.ctlOn cSpe i = true ∧
      s.speAccepts i f.bytes = true ∧ s.ctlRaw cSpe i = false ∧ s.speMatch i f.bytes = some m) ∧
    (∃ (i : Fin 16) (p : Nat) (x : Nat) (f : BusFrame) (s : State), s.ctlPlace cSpe i = some (p, x) ∧ s.ctlOn cSpe i = true) ∧
    (∃ (i : Fin 16) (s : State), s.ctlOn cSpe i = true) ∧
    (∃ (i : Fin 16) (s : State), s.ctlOn cSpe i = true ∧ s.flag (R.PCTL_SPE_STAT_LINK i) = true ∧ s.speT1L i = true) ∧
    (∃ (i : Fin 16) (s : State), s.ctlOn cSpe i = true ∧ s.flag (R.PCTL_SPE_STAT_LINK i) = false ∧ s.speT1L i = true) ∧
    (∃ (i : Fin 16) (s : State), s.ctlOn cSpe i = false) ∧
    (∃ (p : Nat) (item : List Byte) (s : State), s.standby = false ∧ item.length ≤ 2048 ∧ (leAt item 0 1 ≠ 2 ∨ leAt item 2 2 ≤ 1518) ∧
      s.recvFor (s.rd (R.PCTL_PORT_RAW_OWN p)) 1 p none = none) ∧
    (∃ (p : Nat) (k : Nat) (x : Tx) (item : List Byte) (s : State), s.standby = false ∧ item.length ≤ 2048 ∧ (leAt item 0 1 ≠ 2 ∨ leAt item 2 2 ≤ 1518) ∧
      s.recvFor (s.rd (R.PCTL_PORT_RAW_OWN p)) 1 p none = some (k, x)) ∧
    (∃ (i : Nat) (s : State), s.searching cCan i = true) ∧
    (∃ (k : Fin 5) (i : Fin 64) (s : State), k.val = cCan ∧ s.searching k i = true ∧ s.ctlOn k i = true) ∧
    (∃ (k : Fin 5) (i : Fin 64) (s : State), s.searching k i = false) ∧
    (∃ (q : Fin 2) (seen : Fin 5) (i : Fin 64) (s : State), s.fn i (2 * q) = fnPair) ∧
    (∃ (q : Fin 2) (seen : Fin 5) (i : Fin 64) (s : State), s.fn i (2 * q) ≠ fnPair) ∧
    (∃ (k : Fin 5) (i : Fin 64) (s : State), k.val ≠ 0) :=
  ⟨⟨(0 : Fin 32), 0, 0, 0, 0, ({ bytes := [] } : BusFrame), ((busOn 2 2).wr (R.PCTL_CAN_CFG_RAW 0) 1), by decide +kernel⟩,
   ⟨(0 : Fin 32), 0, 0, 0, 0, 0, ({ bytes := [] } : BusFrame),
     (((((busOn 2 2)).wr (R.PCTL_MOBJ_VALID 0) 1).wr (R.PCTL_MOBJ_KIND 0) 1).wr (R.PCTL_CAN_CFG_FRAMES 0) 0), by decide +kernel⟩,
   ⟨(0 : Fin 32), 0, 0, 0, 0, ({ bytes := [] } : BusFrame), (busOn 2 2), by decide +kernel⟩,
   ⟨(0 : Fin 32), 0, 0, ({ bytes := [] } : BusFrame), true, State.reset, by decide +kernel⟩,
   ⟨(0 : Fin 32), (busOn 2 2), by decide +kernel⟩,
   ⟨(0 : Fin 32), ((State.reset).wr (R.PCTL_CAN_STAT_STATE (0 : Fin 32)) (2)), by decide +kernel⟩,
   ⟨(0 : Fin 32), ((State.reset).wr (R.PCTL_CAN_STAT_STATE (0 : Fin 32)) 0), by decide +kernel⟩,
   ⟨(0 : Fin 32), true, (busOn 2 2), by decide +kernel⟩,
   ⟨(0 : Fin 16), 0, 0, { bytes := [1] }, ((busOn 3 4).wr (R.PCTL_SPE_CFG_RAW 0) 1), by decide +kernel⟩,
   ⟨(0 : Fin 16), 0, 0, 0, { bytes := [1] }, ((((busOn 3 4)).wr (R.PCTL_MOBJ_VALID 0) 1).wr (R.PCTL_MOBJ_KIND 0) 2), by decide +kernel⟩,
   ⟨(0 : Fin 16), 0, 0, ({ bytes := [] } : BusFrame), (busOn 3 4), by decide +kernel⟩,
   ⟨(0 : Fin 16), (busOn 3 4), by decide +kernel⟩,
   ⟨(0 : Fin 16), ((busOn 3 5).wr (R.PCTL_SPE_STAT_LINK 0) 1), by decide +kernel⟩,
   ⟨(0 : Fin 16), (busOn 3 5), by decide +kernel⟩,
   ⟨(0 : Fin 16), State.reset, by decide +kernel⟩,
   ⟨0, [], State.reset, by decide +kernel⟩,
   ⟨0, 5, recv0 [1, 0], [], (State.reset.setTag 5 { use := .flight (recv0 [1, 0]) }), by decide +kernel⟩,
   ⟨0, (State.reset.wr (R.PCTL_CAN_CFG_AUTO 0) 1), by decide +kernel⟩,
   ⟨(2 : Fin 5), (0 : Fin 64), ((busOn 2 2).wr (R.PCTL_CAN_CFG_AUTO 0) 1), by decide +kernel⟩,
   ⟨(0 : Fin 5), (0 : Fin 64), State.reset, by decide +kernel⟩,
   ⟨(0 : Fin 2), (0 : Fin 5), (0 : Fin 64), (busOn 2 2), by decide +kernel⟩,
   ⟨(0 : Fin 2), (0 : Fin 5), (0 : Fin 64), State.reset, by decide +kernel⟩,
   ⟨(1 : Fin 5), (0 : Fin 64), State.reset, by decide +kernel⟩⟩

theorem witness_SerialBuses :
    (∃ (i : Fin 64) (p : Nat) (x : Nat) (f : BusFrame) (s : State), s.ctlPlace cUart i = some (p, x) ∧ s.ctlOn cUart i = true ∧ s.ctlRaw cUart i = true ∧
      bit (leAt (withPair f.bytes x) 4 1) 1 = true) ∧
    (∃ (i : Fin 64) (p : Nat) (x : Nat) (f : BusFrame) (s : State), s.ctlPlace cUart i = some (p, x) ∧ s.ctlOn cUart i = true ∧ s.searching cUart i = false ∧
      bit (leAt (withPair f.bytes x) 4 1) 1 = false ∧ s.ctlRaw cUart i = true) ∧
    (∃ (i : Fin 64) (m : Nat) (b : List Byte) (s : State), s.poll i = some m ∧ s.pollCode m ≠ 0x10 ∧ b.length = 2 * s.pollRegs m ∧
      s.searching cUart i = false ∧ s.ctlOn cUart i = true ∧ s.ctlRaw cUart i = false) ∧
    (∃ (i : Fin 64) (m : Nat) (s : State), s.poll i = some m) ∧
    (∃ (i : Fin 64) (x : ModbusRsp) (s : State), (s.ctlOn cUart i = false ∨ s.ctlRaw cUart i = true)) ∧
    (∃ (i : Nat) (s : State), s.uartQueued i = false ∧ s.polls i = []) ∧
    (∃ (i : Fin 64) (p : Nat) (o : BusOp) (b : List Byte) (s : State), s.poll i = none ∧ s.ctlOp cUart i = some (p, o) ∧ o.broadcast = false ∧
      b.length = o.expects ∧ s.ctlOn cUart i = true ∧ s.ctlRaw cUart i = false) ∧
    (∃ (i : Fin 64) (p : Nat) (c : Nat) (o : BusOp) (s : State), s.poll i = none ∧ s.ctlOp cUart i = some (p, o) ∧ o.broadcast = false ∧
      s.ctlOn cUart i = true ∧ s.ctlRaw cUart i = false) ∧
    (∃ (i : Fin 64) (p : Nat) (o : BusOp) (s : State), s.poll i = none ∧ s.ctlOp cUart i = some (p, o) ∧ o.broadcast = true) ∧
    (∃ (p : Fin 64) (q : Nat) (c : Nat) (b : List Byte) (o : BusOp) (s : State), s.ctlOp cIol p = some (q, o)) ∧
    (∃ (p : Nat) (k : Nat) (i : Nat) (o : BusOp) (b : List Byte) (s : State), o.req.op = opRmw ∧ o.phase = 1) ∧
    (∃ (k : Fin 5) (i : Fin 64) (x : TxItem) (r : Req) (s : State), s.nextTx k i = some x ∧ x.obj = none ∧ x.req = some r ∧ s.maySendBus k i = true ∧
      k.val ≠ cIol) ∧
    (∃ (i : Fin 64) (x : TxItem) (r : Req) (s : State), s.nextTx cIol i = some x ∧ x.obj = none ∧ x.req = some r ∧ s.maySendBus cIol i = true) ∧
    (∃ (k : Fin 5) (i : Fin 64) (ok : Bool) (s : State), (s.nextTx k i = none ∨ s.maySendBus k i = false)) ∧
    (∃ (k : Fin 5) (i : Fin 64) (x : TxItem) (s : State), s.nextTx k i = some x ∧ x.obj.isSome = true ∧ x.req = none ∧ s.maySendBus k i = true) ∧
    (∃ (p : Fin 64) (d : List Byte) (s : State), s.iolComm p = true ∧ s.rd (R.PCTL_IOL_STAT_STATE p) = iolOperate ∧ s.ctlRaw cIol p = false ∧
      s.flag (R.PCTL_IOL_FMT_IN_EN p) = true) ∧
    (∃ (p : Fin 64) (d : List Byte) (s : State), s.iolComm p = true ∧ s.rd (R.PCTL_IOL_STAT_COM_DET p) ≠ 0 ∧ s.ctlRaw cIol p = false) ∧
    (∃ (p : Fin 64) (c : Nat) (v : Nat) (d : Nat) (s : State), s.iolComm p = true ∧ (s.standby = true ∨ s.flag (R.PORT_STAT_FP_ON p) = true) ∧ c < 4 ∧
      s.rd (R.PCTL_IOL_CFG_CHECK p) = 0) ∧
    (∃ (p : Fin 64) (s : State), s.iolComm p = true ∧ (s.standby = true ∨ s.flag (R.PORT_STAT_FP_ON p) = true) ∧ s.iolTries p = 0) ∧
    (∃ (p : Fin 64) (s : State), p.val ∈ s.pctl.lplusOff) ∧
    (∃ (p : Fin 64) (s : State), p.val ∉ s.pctl.lplusOff) ∧
    (∃ (p : Fin 64) (s : State), s.ctlOn cIol p = true) ∧
    (∃ (p : Fin 64) (s : State), s.ctlOn cIol p = false) ∧
    (∃ (p : Fin 64) (s : State), s.iolComm p = true ∧ s.rd (R.PCTL_IOL_STAT_COM_DET p) ≠ 0) :=
  ⟨⟨(0 : Fin 64), 0, 0, { bytes := [0, 0, 0, 0, 2] }, ((busOn 1 0).wr (R.PCTL_UART_CFG_RAW 0) 1), by decide +kernel⟩,
   ⟨(0 : Fin 64), 0, 0, ({ bytes := [] } : BusFrame), ((busOn 1 0).wr (R.PCTL_UART_CFG_RAW 0) 1), by decide +kernel⟩,
   ⟨(0 : Fin 64), 3, [], ((busOn 1 0).setPoll 0 (some 3)), by decide +kernel⟩,
   ⟨(0 : Fin 64), 3, (State.reset.setPoll 0 (some 3)), by decide +kernel⟩,
   ⟨(0 : Fin 64), .bad, State.reset, by decide +kernel⟩,
   ⟨0, State.reset, by decide +kernel⟩,
   ⟨(0 : Fin 64), 0, { req := { op := opRead } }, [], ((busOn 1 0).setBusOp 0 (some { req := { op := opRead } })), by decide +kernel⟩,
   ⟨(0 : Fin 64), 0, 0, { req := { op := opRead } }, ((busOn 1 0).setBusOp 0 (some { req := { op := opRead } })), by decide +kernel⟩,
   ⟨(0 : Fin 64), 0, { req := { op := opWrite } }, ((busOn 1 0).setBusOp 0 (some { req := { op := opWrite } })), by decide +kernel⟩,
   ⟨(0 : Fin 64), 0, 0, [], op0, (((iolOn 3).wr (R.PCTL_PORT_DEV_SEL 0) 2).setBusOp 0 (some op0)), by decide +kernel⟩,
   ⟨0, 0, 0, { req := { op := opRmw }, phase := 1 }, [], State.reset, by decide +kernel⟩,
   ⟨(1 : Fin 5), (0 : Fin 64), { req := some {}, item := [] }, {}, ((busOn 1 0).setTxq (ctlKey 1 0) [{ req := some {}, item := [] }]), by decide +kernel⟩,
   ⟨(0 : Fin 64), { req := some {}, item := [] }, {}, ((iolOn 3).setTxq (ctlKey 4 0) [{ req := some {}, item := [] }]), by decide +kernel⟩,
   ⟨(0 : Fin 5), (0 : Fin 64), true, State.reset, by decide +kernel⟩,
   ⟨(1 : Fin 5), (0 : Fin 64), { obj := some 3, item := [] }, ((busOn 1 0).setTxq (ctlKey 1 0) [{ obj := some 3, item := [] }]), by decide +kernel⟩,
   ⟨(0 : Fin 64), [], (((iolOn 3).wr (R.PCTL_IOL_STAT_STATE 0) iolOperate).wr (R.PCTL_IOL_FMT_IN_EN 0) 1), by decide +kernel⟩,
   ⟨(0 : Fin 64), [], ((iolOn 3).wr (R.PCTL_IOL_STAT_COM_DET 0) 1), by decide +kernel⟩,
   ⟨(0 : Fin 64), 0, 0, 0, ((iolOn 3).wr (R.PORT_STAT_FP_ON 0) 1), by decide +kernel⟩,
   ⟨(0 : Fin 64), ((iolOn 3).wr (R.PORT_STAT_FP_ON 0) 1), by decide +kernel⟩,
   ⟨(0 : Fin 64), { State.reset with pctl.lplusOff := [0] }, by decide +kernel⟩,
   ⟨(0 : Fin 64), State.reset, by decide +kernel⟩,
   ⟨(0 : Fin 64), (iolOn 3), by decide +kernel⟩,
   ⟨(0 : Fin 64), State.reset, by decide +kernel⟩,
   ⟨(0 : Fin 64), ((iolOn 3).wr (R.PCTL_IOL_STAT_COM_DET 0) 1), by decide +kernel⟩⟩

theorem witness_BridgeQueues :
    (∃ (p : Fin 64) (s : State), s.busIdle p = false) ∧
    (∃ (p : Fin 64) (o : BusOp) (r : List BusOp) (s : State), s.busIdle p = true ∧ (s.busLock p).winner = none ∧ s.lockq p = o :: r) ∧
    (∃ (p : Fin 64) (s : State), (s.busLock p).winner.isSome = true) ∧
    (∃ (p : Fin 64) (s : State), s.lockq p = [] ∧ (s.busLock p).holder.isSome = true) ∧
    (∃ (p : Fin 64) (o : BusOp) (r : List BusOp) (s : State), s.busIdle p = true ∧ s.lockq p = [] ∧ (s.busLock p).holder = none ∧
      (s.busLock p).winner = none ∧ s.brgq p = o :: r) ∧
    (∃ (p : Nat) (i : Nat) (o : BusOp) (s : State), s.devTarget p = some (cUart, i) ∧ o.req.op = opWrite) ∧
    (∃ (p : Nat) (i : Nat) (o : BusOp) (s : State), s.devTarget p = some (cIol, i) ∧ o.req.op = opWrite) ∧
    (∃ (p : Nat) (i : Nat) (o : BusOp) (s : State), s.devTarget p = some (cCan, i) ∧ o.req.op = opRead ∧
      o.req.len ≤ (NMap.get (fun _ => []) s.pctl.last o.req.off).length) ∧
    (∃ (p : Nat) (i : Nat) (o : BusOp) (b : List Byte) (s : State), o.req.op = opRead ∧ o.range = none ∧ o.req.len ≤ b.length) ∧
    (∃ (p : Nat) (i : Nat) (o : BusOp) (b : List Byte) (s : State), o.req.op = opRead ∧ o.range = none ∧ b.length < o.req.len) ∧
    (∃ (p : Nat) (i : Nat) (o : BusOp) (b : List Byte) (s : State), o.req.op = opWrite ∧ o.phase = 2) ∧
    (∃ (p : Nat) (i : Nat) (x : Nat) (o : BusOp) (b : List Byte) (s : State), o.req.op = opRmw ∧ o.phase = 0 ∧ o.req.len ≤ b.length ∧
      rmwValue o.req.opx o.req.len (beNat (b.take o.req.len)) (leAt o.req.operand 0 8 % 2 ^ (8 * o.req.len)) (leAt o.req.operand 8 8 % 2 ^ (8 * o.req.len)) = some x) ∧
    (∃ (p : Nat) (o : BusOp) (s : State), 32 ≤ (s.brgq p).length) ∧
    (∃ (p : Fin 64) (n : Nat) (o : BusOp) (s : State), s.lockq p = [] ∧ (s.brgq p)[n]? = some o ∧ o.posted = false) ∧
    (∃ (p : Fin 64) (n : Nat) (o : BusOp) (s : State), (s.lockq p)[n]? = some o ∧ o.posted = false) ∧
    (∃ (t : Fin 64) (n : Nat) (s : State), n < (s.tunq t).length) ∧
    (∃ (n : Nat) (x : CacheLine) (s : State), s.brg.cache[n]? = some x) :=
  ⟨⟨(0 : Fin 64), State.reset, by decide +kernel⟩,
   ⟨(0 : Fin 64), op0, [], ((busOn 1 0).setLockq 0 [op0]), by decide +kernel⟩,
   ⟨(0 : Fin 64), (State.reset.setBusLock 0 { winner := some {} }), by decide +kernel⟩,
   ⟨(0 : Fin 64), (State.reset.setBusLock 0 { holder := some (1, 1, 1) }), by decide +kernel⟩,
   ⟨(0 : Fin 64), op0, [], ((busOn 1 0).setBrgq 0 [op0]), by decide +kernel⟩,
   ⟨0, 0, { req := { op := opWrite } }, (busOn 1 0), by decide +kernel⟩,
   ⟨0, 0, { req := { op := opWrite } }, ((iolOn 3).wr (R.PCTL_PORT_DEV_SEL 0) 2), by decide +kernel⟩,
   ⟨0, 0, { req := { op := opRead } }, (busOn 2 2), by decide +kernel⟩,
   ⟨0, 0, { req := { op := opRead } }, [], State.reset, by decide +kernel⟩,
   ⟨0, 0, { req := { op := opRead, len := 1 } }, [], State.reset, by decide +kernel⟩,
   ⟨0, 0, { req := { op := opWrite }, phase := 2 }, [], State.reset, by decide +kernel⟩,
   ⟨0, 0, 0, { req := { op := opRmw } }, [], State.reset, by decide +kernel⟩,
   ⟨0, op0, (State.reset.setBrgq 0 (List.replicate 32 op0)), by decide +kernel⟩,
   ⟨(0 : Fin 64), 0, op0, (State.reset.setBrgq 0 [op0]), by decide +kernel⟩,
   ⟨(0 : Fin 64), 0, op0, (State.reset.setLockq 0 [op0]), by decide +kernel⟩,
   ⟨(0 : Fin 64), 0, (State.reset.setTunq 0 [tun0]), by decide +kernel⟩,
   ⟨0, line0, { State.reset with brg.cache := [line0] }, by decide +kernel⟩⟩

theorem witness_LocksAndTunnels :
    (∃ (p : Fin 64) (r : Req) (s : State), (s.busLock p).windowOpen = true ∧ (s.busLock p).contenders = [r]) ∧
    (∃ (p : Fin 64) (s : State), (s.busLock p).windowOpen = false) ∧
    (∃ (p : Fin 64) (w : Req) (s : State), (s.busLock p).winner = some w) ∧
    (∃ (p : Nat) (r : Req) (s : State), r.locked = true) ∧
    (∃ (p : Nat) (node : Nat) (x : Nat × Nat) (k : Nat) (i : Nat) (r : Req) (s : State), s.devTarget p = some (k, i) ∧ s.lockOk p = true ∧ k ≠ cCan ∧
      k ≠ cSpe ∧ s.ctlRaw k i = false ∧ (s.busLock p).holder = some (node, x)) ∧
    (∃ (a : Req) (b : Req), a.src < b.src) ∧
    (∃ (p : Fin 64) (src : Nat) (tn : Nat) (id : Nat) (s : State), (s.busLock p).holder = some (src, tn, id) ∧ s.isMine src = false ∧
      (s.busOp p).isSome = true) ∧
    (∃ (p : Nat) (src : Nat) (tn : Nat) (id : Nat) (s : State), (s.busLock p).holder = some (src, tn, id) ∧ (s.busLock p).expired = true) ∧
    (∃ (p : Fin 64) (src : Nat) (tn : Nat) (id : Nat) (s : State), (s.busLock p).holder = some (src, tn, id) ∧ s.isMine src = false ∧ s.busOp p = none) ∧
    (∃ (p : Fin 64) (s : State), (s.busLock p).holder = none) ∧
    (∃ (p : Fin 64) (src : Nat) (tn : Nat) (id : Nat) (s : State), (s.busLock p).holder = some (src, tn, id)) ∧
    (∃ (p : Fin 64) (src : Nat) (tn : Nat) (id : Nat) (s : State), (s.busLock p).holder ≠ some (src, tn, id)) ∧
    (∃ (i : Fin 4) (f : Frame) (s : State), f.typ = fTun ∧ f.mark = .valid ∧ s.isMine f.dst = true ∧ ((∀ t < 64, s.tunOk t = true →
      s.rd (R.BRG_TUN_NODE_NODE t) ≠ f.src))) ∧
    (∃ (i : Fin 4) (t : Nat) (f : Frame) (s : State), f.typ = fTun ∧ f.mark = .valid ∧ s.isMine f.dst = true) ∧
    (∃ (t : Nat) (f : Frame) (s : State), t ∉ s.brg.seqSeen ∧ s.tunUplink t = false ∧ s.inSafe = true) ∧
    (∃ (t : Fin 64) (x : TunFrame) (r : List TunFrame) (s : State), s.tunq t = x :: r ∧ x.due ≤ s.tdNow x.td ∧ s.tunUplink t = true ∧
      (s.port (2 + (s.rd (R.BRG_TUN_CFG_KIND t) - 4))).st = .uplinkUp) ∧
    (∃ (t : Fin 64) (x : TunFrame) (r : List TunFrame) (s : State), s.tunq t = x :: r ∧ s.tdNow x.td < x.due) ∧
    (∃ (t : Nat) (tc : Nat) (item : List Byte) (s : State), s.tunUplink t = true ∧ (s.port (2 + (s.rd (R.BRG_TUN_CFG_KIND t) - 4))).st ≠ .uplinkUp) ∧
    (∃ (t : Fin 64) (s : State), s.tunq t = []) ∧
    (∃ (t : Nat) (at_ : Nat) (item : List Byte) (s : State), 2032 < item.length) ∧
    (∃ (t : Nat) (at_ : Nat) (item : List Byte) (s : State), item.length ≤ 2032) :=
  ⟨⟨(0 : Fin 64), ({} : Req), (State.reset.setBusLock 0 { windowOpen := true, contenders := [{}] }), by decide +kernel⟩,
   ⟨(0 : Fin 64), State.reset, by decide +kernel⟩,
   ⟨(0 : Fin 64), {}, (State.reset.setBusLock 0 { winner := some {} }), by decide +kernel⟩,
   ⟨0, { locked := true, lockId := 1 }, State.reset, by decide +kernel⟩,
   ⟨0, 1, (1, 1), 1, 0, ({} : Req), ((((busOn 1 0).setBusLock 0 { holder := some (1, 1, 1) }).wr (R.BRG_RNG_CFG_VALID 0) 1).wr (R.BRG_RNG_CFG_LOCK_OK 0) 1),
     by decide +kernel⟩,
   ⟨({} : Req), { src := 1 }, by decide +kernel⟩,
   ⟨(0 : Fin 64), 1, 1, 1, ((State.reset.setBusLock 0 { holder := some (1, 1, 1) }).setBusOp 0 (some op0)), by decide +kernel⟩,
   ⟨0, 1, 1, 1, (State.reset.setBusLock 0 { holder := some (1, 1, 1), expired := true }), by decide +kernel⟩,
   ⟨(0 : Fin 64), 1, 1, 1, (State.reset.setBusLock 0 { holder := some (1, 1, 1) }), by decide +kernel⟩,
   ⟨(0 : Fin 64), State.reset, by decide +kernel⟩,
   ⟨(0 : Fin 64), 1, 1, 1, (State.reset.setBusLock 0 { holder := some (1, 1, 1) }), by decide +kernel⟩,
   ⟨(0 : Fin 64), 0, 0, 0, State.reset, by decide +kernel⟩,
   ⟨(0 : Fin 4), ({ typ := fTun, mark := .valid, dst := 261 } : Frame), (((State.reset).wr R.RING_NODE_STATE_RING 1).wr R.RING_NODE_STATE_STATION 5),
     by decide +kernel⟩,
   ⟨(0 : Fin 4), 0, ({ typ := fTun, mark := .valid, dst := 261 } : Frame), (((State.reset).wr R.RING_NODE_STATE_RING 1).wr R.RING_NODE_STATE_STATION 5),
     by decide +kernel⟩,
   ⟨0, ({} : Frame), (State.reset.wr R.FLT_SAFE_SAFE 1), by decide +kernel⟩,
   ⟨(0 : Fin 64), tun0, [], (((State.reset.setTunq 0 [tun0]).wr (R.BRG_TUN_CFG_KIND 0) 4).setPort 2 { st := .uplinkUp }), by decide +kernel⟩,
   ⟨(0 : Fin 64), ⟨0, 0, 2 ^ 64, [], 0⟩, [], (State.reset.setTunq 0 [⟨0, 0, 2 ^ 64, [], 0⟩]), by decide +kernel⟩,
   ⟨0, 0, [], (State.reset.wr (R.BRG_TUN_CFG_KIND 0) 4), by decide +kernel⟩,
   ⟨(0 : Fin 64), State.reset, by decide +kernel⟩,
   ⟨0, 0, (List.replicate 2033 0), State.reset, by decide +kernel⟩,
   ⟨0, 0, [], State.reset, by decide +kernel⟩⟩

theorem witness_SwitchCore :
    (∃ (s : State), s.pwr.asleep = false ∧ s.sw.queue = []) ∧
    (∃ (m1 : List Rq) (m2 : List Rq) (m3 : List Rq) (s : State), s.pwr.asleep = false ∧ m1 = s.iteration [] ∧ m2 = s.iteration m1 ∧
      m3 = s.iteration (m1 ++ m2)) ∧
    (∃ (s : State), s.pwr.asleep = true) ∧
    (∃ (r : Rq) (x : QFrame) (a : List QFrame) (b : List QFrame) (s : State), s.sw.queue = a ++ x :: b ∧ x.inp = r.i ∧ x.out = r.o ∧ x.cls = r.c ∧
      x.moved = 0 ∧ 0 < x.cells ∧ ((∀ y ∈ a, ¬ (y.inp = r.i ∧ y.out = r.o ∧ y.cls = r.c ∧ y.moved < y.cells))) ∧ x ∉ a ∧ ((∀ y ∈ b, ¬ (y.inp = r.i ∧
      y.out = r.o ∧ y.cls = r.c ∧ y.moved ≠ 0 ∧ y.moved < y.cells)))) ∧
    (∃ (r : Rq) (x : QFrame) (a : List QFrame) (b : List QFrame) (s : State), s.sw.queue = a ++ x :: b ∧ x.inp = r.i ∧ x.out = r.o ∧ x.cls = r.c ∧
      x.moved ≠ 0 ∧ x.moved < x.cells ∧ ((∀ y ∈ a, ¬ (y.inp = r.i ∧ y.out = r.o ∧ y.cls = r.c ∧ y.moved ≠ 0 ∧ y.moved < y.cells))) ∧ x ∉ a) ∧
    (∃ (rs : List Rq) (key : Rq → Nat) (p : Nat) (r : Rq), choose rs key p = some r) ∧
    (∃ (done : List Rq) (r : Rq) (s : State), r ∈ s.iteration done) ∧
    (∃ (i : Fin 32) (o : Fin 32) (c : Fin 8) (x : QFrame) (s : State), i.val ≠ 4) ∧
    (∃ (d : Delta) (l : List Delta) (i : Fin 32) (o : Fin 32) (c : Fin 8) (s : State), i.val = 4 ∧ o.val = bPoints ∧ c.val = 6 ∧ s.twin.inbox = d :: l ∧
      s.admits i o c (deltaFrame d).cells = true ∧ s.isStandby = true ∧ s.pairIs pReady = true) ∧
    (∃ (i : Fin 32) (o : Fin 32) (c : Fin 8) (s : State), i.val ≠ 4) ∧
    (∃ (s : State), s.rd R.SW_STAT_MODE = mDrain ∧ ((∀ x ∈ s.sw.queue, x.voq = true))) ∧
    (∃ (s : State), (s.rd R.SW_STAT_MODE ≠ mDrain ∨ (∃ x ∈ s.sw.queue, x.voq = false))) ∧
    (∃ (k : Nat) (x : QFrame) (s : State), s.sw.queue[k]? = some x ∧ x.voq = true) ∧
    (∃ (x : QFrame) (s : State), x.started = false) ∧
    (∃ (lost : List (Nat × Nat)) (s : State), ((∀ x ∈ lost, x ∉ s.sw.orphans))) ∧
    (∃ (lost : List (Nat × Nat)) (s : State), ((∃ x ∈ lost, x ∈ s.sw.orphans))) :=
  ⟨⟨({ { State.reset with pwr.asleep := false } with sw.queue := [] }), by decide +kernel⟩,
   ⟨[], [], [], ({ State.reset with pwr.asleep := false }), by decide +kernel⟩,
   ⟨({ State.reset with pwr.asleep := true }), by decide +kernel⟩,
   ⟨rq0, qf0, [], [], { State.reset with sw.queue := [qf0] }, by decide +kernel⟩,
   ⟨rq0, { qf0 with cells := 2, moved := 1 }, [], [], { State.reset with sw.queue := [{ qf0 with cells := 2, moved := 1 }] }, by decide +kernel⟩,
   ⟨[rq0], (fun r => r.i), 0, rq0, by decide +kernel⟩,
   ⟨[], rq0, { State.reset with sw.queue := [qf0] }, by decide +kernel⟩,
   ⟨(0 : Fin 32), (0 : Fin 32), (0 : Fin 8), qf0, State.reset, by decide +kernel⟩,
   ⟨delta0, [], (4 : Fin 32), (26 : Fin 32), (6 : Fin 8), { (State.reset.wr R.TWIN_STAT_ROLE 2).wr R.TWIN_STAT_PAIR pReady with twin.inbox := [delta0] },
     by decide +kernel⟩,
   ⟨(0 : Fin 32), (0 : Fin 32), (0 : Fin 8), State.reset, by decide +kernel⟩,
   ⟨((State.reset).wr R.SW_STAT_MODE (mDrain)), by decide +kernel⟩,
   ⟨State.reset, by decide +kernel⟩,
   ⟨0, { qf0 with voq := true }, { State.reset with sw.queue := [{ qf0 with voq := true }] }, by decide +kernel⟩,
   ⟨({ qf0 with started := false } : QFrame), State.reset, by decide +kernel⟩,
   ⟨[], State.reset, by decide +kernel⟩,
   ⟨[(0, 0)], { State.reset with sw.orphans := [(0, 0)] }, by decide +kernel⟩⟩

theorem witness_ReflexEngine :
    (∃ (w : Row) (x : RowSt) (t : Nat) (v : Nat) (s : State), w.op = 6 ∧ w.a.src ≠ 0 ∧ w.b.src ≠ 0 ∧ w.c.src = 0) ∧
    (∃ (w : Row) (x : RowSt) (t : Nat) (v : Nat) (s : State), w.op = 7 ∧ w.a.src ≠ 0 ∧ w.b.src ≠ 0 ∧ w.c.src = 0) ∧
    (∃ (w : Row) (x : RowSt) (t : Nat) (v : Nat) (s : State), w.op = 2) ∧
    (∃ (w : Row) (x : RowSt) (t : Nat) (v : Nat) (s : State), w.op = 8 ∧ (s.operand w.a).log = false ∧ (s.operand w.b).log = false) ∧
    (∃ (w : Row) (x : RowSt) (t : Nat) (v : Nat) (s : State), w.op = 10 ∧ x.ran = true ∧ (s.evalRow w x t v).reason ≠ qNone) ∧
    (∃ (w : Row) (x : RowSt) (t : Nat) (v : Nat) (s : State), w.op = 11 ∧ s.curveAt (w.p0 % 1024) (s.operand w.a).num = none) ∧
    (∃ (x : RowSt) (n : Nat) (s : State), x.reason = qFault ∧ (s.point n).isOutput = true) ∧
    (∃ (m : Nat) (t : Nat) (s : State), (s.smState m (s.rd (R.RFX_SM_STATE_STATE m))).trans = []) ∧
    (∃ (r : Fin 4) (s : State), s.flag (syncingFld r) = true) ∧
    (∃ (r : Fin 4) (s : State), s.flag (syncingFld r) = false) :=
  ⟨⟨{ row0 with op := 6, a.src := 1, b.src := 1 }, {}, 0, 0, State.reset, by decide +kernel⟩,
   ⟨{ row0 with op := 7, a.src := 1, b.src := 1 }, {}, 0, 0, State.reset, by decide +kernel⟩,
   ⟨({ row0 with op := 2 } : Row), {}, 0, 0, State.reset, by decide +kernel⟩,
   ⟨({ row0 with op := 8 } : Row), {}, 0, 0, State.reset, by decide +kernel⟩,
   ⟨{ row0 with op := 10, a.src := 1 }, { ran := true }, 0, 0, (State.reset.setPoint 0 { quality := 7 }), by decide +kernel⟩,
   ⟨({ row0 with op := 11 } : Row), {}, 0, 0, State.reset, by decide +kernel⟩,
   ⟨{ reason := qFault }, 0, (State.reset.setPoint 0 { flags := 256 }), by decide +kernel⟩,
   ⟨0, 0, State.reset, by decide +kernel⟩,
   ⟨(0 : Fin 4), (State.reset.wr (syncingFld 0) 1), by decide +kernel⟩,
   ⟨(0 : Fin 4), State.reset, by decide +kernel⟩⟩

theorem witness_BriarInstructions :
    (∃ (e : Fin 16) (c : Fin 16) (lv : Fin 16) (w : Nat) (s : State), s.fetches e c 0 w ∧ bits w 14 4 = 0) ∧
    (∃ (e : Fin 16) (c : Fin 16) (lv : Fin 16) (w : Nat) (s : State), s.fetches e c 0 w ∧ bits w 14 4 = 1 ∧ bit w 13 = false ∧ (s.chan e c).x = 0) ∧
    (∃ (e : Fin 16) (c : Fin 16) (lv : Fin 16) (w : Nat) (s : State), s.fetches e c 0 w ∧ bits w 14 4 = 1 ∧ bit w 13 = false ∧ (s.chan e c).x ≠ 0) ∧
    (∃ (e : Fin 16) (c : Fin 16) (lv : Fin 16) (w : Nat) (s : State), s.fetches e c 0 w ∧ bits w 14 4 = 3 ∧ bit w 13 = false ∧ 1 < (s.chan e c).x ∧
      (s.chan e c).x < 2 ^ 32) ∧
    (∃ (e : Fin 16) (c : Fin 16) (lv : Fin 16) (w : Nat) (s : State), s.fetches e c 0 w ∧ bits w 14 4 = 6 ∧
      s.pinRead (s.chanPort e c) lv (bits w 11 2) = true) ∧
    (∃ (e : Fin 16) (c : Fin 16) (lv : Fin 16) (w : Nat) (s : State), s.fetches e c 0 w ∧ bits w 14 4 = 6 ∧
      s.pinRead (s.chanPort e c) lv (bits w 11 2) = false) ∧
    (∃ (e : Fin 16) (c : Fin 16) (lv : Fin 16) (w : Nat) (s : State), s.fetches e c 1 w ∧ bits w 15 2 = 0 ∧
      s.pinRead (s.chanPort e c) lv (bits w 12 3) ≠ bit w 17) ∧
    (∃ (e : Fin 16) (c : Fin 16) (lv : Fin 16) (w : Nat) (s : State), s.fetches e c 1 w ∧ bits w 15 2 = 0 ∧
      s.pinRead (s.chanPort e c) lv (bits w 12 3) = bit w 17) ∧
    (∃ (e : Fin 16) (c : Fin 16) (lv : Fin 16) (w : Nat) (s : State), s.fetches e c 1 w ∧ bits w 15 2 = 1 ∧ bit w 17 = true ∧
      bit (s.chan e c).flags (bits w 12 3) = true ∧ bit w 11 = true) ∧
    (∃ (e : Fin 16) (c : Fin 16) (lv : Fin 16) (w : Nat) (s : State), s.fetches e c 1 w ∧ bits w 15 2 = 2) ∧
    (∃ (e : Fin 16) (c : Fin 16) (lv : Fin 16) (w : Nat) (s : State), s.fetches e c 2 w ∧ bits w 15 3 = 1 ∧ s.flag (R.ENG_CH_CFG_IN_DIR e c) = false ∧
      s.flag (R.ENG_CH_CFG_AUTOPUSH e c) = false) ∧
    (∃ (e : Fin 16) (c : Fin 16) (lv : Fin 16) (w : Nat) (s : State), s.fetches e c 2 w ∧ bits w 15 3 = 6 ∧ s.flag (R.ENG_CH_CFG_IN_DIR e c) = true ∧
      s.flag (R.ENG_CH_CFG_AUTOPUSH e c) = false) ∧
    (∃ (e : Fin 16) (c : Fin 16) (w : Nat) (s : State), s.fetches e c 3 w ∧ bits w 15 3 = 1 ∧ s.flag (R.ENG_CH_CFG_OUT_DIR e c) = true ∧
      s.flag (R.ENG_CH_CFG_AUTOPULL e c) = false) ∧
    (∃ (e : Fin 16) (c : Fin 16) (w : Nat) (s : State), s.fetches e c 3 w ∧ bits w 15 3 = 5 ∧ s.flag (R.ENG_CH_CFG_OUT_DIR e c) = false ∧
      s.flag (R.ENG_CH_CFG_AUTOPULL e c) = false) ∧
    (∃ (e : Fin 16) (c : Fin 16) (w : Nat) (s : State), s.fetches e c 4 w ∧ bit w 17 = false ∧ (s.chan e c).rx.length < 32) ∧
    (∃ (e : Fin 16) (c : Fin 16) (w : Nat) (s : State), s.fetches e c 4 w ∧ bit w 17 = true ∧ (s.chan e c).isrCnt < s.pushThr e c) ∧
    (∃ (e : Fin 16) (c : Fin 16) (w : Nat) (s : State), s.fetches e c 4 w ∧ bit w 17 = false ∧ bit w 16 = true ∧ 32 ≤ (s.chan e c).rx.length) ∧
    (∃ (e : Fin 16) (c : Fin 16) (w : Nat) (s : State), s.fetches e c 4 w ∧ bit w 17 = false ∧ bit w 16 = false ∧ 32 ≤ (s.chan e c).rx.length) ∧
    (∃ (e : Fin 16) (c : Fin 16) (w : Nat) (v : Nat) (r : List Nat) (s : State), s.fetches e c 5 w ∧ bit w 17 = false ∧ (s.chan e c).tx = v :: r) ∧
    (∃ (e : Fin 16) (c : Fin 16) (w : Nat) (s : State), s.fetches e c 5 w ∧ bit w 17 = false ∧ bit w 16 = true ∧ (s.chan e c).tx = []) ∧
    (∃ (e : Fin 16) (c : Fin 16) (w : Nat) (s : State), s.fetches e c 5 w ∧ bit w 17 = false ∧ bit w 16 = false ∧ (s.chan e c).tx = []) ∧
    (∃ (e : Fin 16) (c : Fin 16) (lv : Fin 16) (w : Nat) (s : State), s.fetches e c 6 w ∧ bits w 15 3 = 1 ∧ bits w 13 2 = 1 ∧ bits w 10 3 = 2) ∧
    (∃ (e : Fin 16) (c : Fin 16) (lv : Fin 16) (w : Nat) (s : State), s.fetches e c 6 w ∧ bits w 15 3 = 5 ∧ bits w 13 2 = 0 ∧ bits w 10 3 = 6) ∧
    (∃ (e : Fin 16) (c : Fin 16) (w : Nat) (s : State), s.fetches e c 7 w ∧ bits w 15 3 = 1) ∧
    (∃ (e : Fin 16) (c : Fin 16) (w : Nat) (s : State), s.fetches e c 7 w ∧ bits w 15 3 = 0) ∧
    (∃ (e : Fin 16) (c : Fin 16) (w : Nat) (s : State), s.fetches e c 8 w ∧ bits w 16 2 = 1) ∧
    (∃ (e : Fin 16) (c : Fin 16) (w : Nat) (s : State), s.fetches e c 8 w ∧ bits w 16 2 = 2 ∧ s.flag (R.ENG_EVT_VEC_EN e) = false) ∧
    (∃ (e : Fin 16) (c : Fin 16) (w : Nat) (s : State), s.fetches e c 9 w ∧ s.flag (R.TD_CFG_EN (bits w 13 3)) = false) ∧
    (∃ (e : Fin 16) (c : Fin 16) (w : Nat) (s : State), s.fetches e c 9 w ∧ s.flag (R.TD_CFG_EN (bits w 13 3)) = true ∧ bits w 16 2 = 2) ∧
    (∃ (e : Fin 16) (c : Fin 16) (w : Nat) (s : State), s.fetches e c 10 w ∧ bits w 15 2 = 1 ∧ bit w 17 = false) ∧
    (∃ (e : Fin 16) (c : Fin 16) (w : Nat) (s : State), s.fetches e c 10 w ∧ bits w 15 2 = 0 ∧ bit w 17 = true) ∧
    (∃ (e : Fin 16) (c : Fin 16) (w : Nat) (s : State), s.fetches e c 11 w) ∧
    (∃ (e : Fin 16) (c : Fin 16) (lv : Fin 16) (s : State), (s.chan e c).st = chRun ∧ s.slots e c ≠ 0 ∧ s.flag R.PWR_STAT_ON_OSC = false ∧
      (s.chan e c).delay ≠ 0 ∧ (16 * e.val + c.val) ∉ s.eng.asked) ∧
    (∃ (e : Fin 16) (c : Fin 16) (lv : Fin 16) (op : Nat) (w : Nat) (s : State), s.fetches e c op w) ∧
    (∃ (e : Fin 16) (c : Fin 16) (w : Nat) (pc : Nat) (r : BRes) (s : State), r.s = s ∧ r.jumped = false ∧ pc ≠ s.rd (R.ENG_CH_PROG_WRAP_TOP e c r.x.bank)) ∧
    (∃ (e : Fin 16) (c : Fin 16) (w : Nat) (pc : Nat) (r : BRes) (s : State), r.s = s ∧ r.jumped = false ∧ pc = s.rd (R.ENG_CH_PROG_WRAP_TOP e c r.x.bank) ∧
      r.x.pend = false) ∧
    (∃ (e : Fin 16) (c : Fin 16) (s : State), (s.chan e c).st = chRun ∧ s.slots e c ≠ 0 ∧ s.flag R.PWR_STAT_ON_OSC = false ∧ (s.chan e c).delay = 0 ∧
      (16 * e.val + c.val) ∉ s.eng.asked ∧ badInsn (s.progWord e (s.chan e c).bank (s.chan e c).pc) = true) ∧
    (∃ (e : Fin 16) (c : Fin 16) (lv : Fin 16) (s : State), (s.chan e c).st ≠ chRun ∧ (16 * e.val + c.val) ∉ s.eng.asked) ∧
    (∃ (e : Fin 16) (c : Fin 16) (s : State), (16 * e.val + c.val) ∈ s.eng.asked ∧ s.flag (R.ENG_CH_CFG_EN e c) = true ∧ s.slots e c ≠ 0) :=
  ⟨⟨(0 : Fin 16), (0 : Fin 16), (0 : Fin 16), 0x00000000, (briar0 0x00000000 {}), by decide +kernel⟩,
   ⟨(0 : Fin 16), (0 : Fin 16), (0 : Fin 16), 0x00004000, (briar0 0x00004000 {}), by decide +kernel⟩,
   ⟨(0 : Fin 16), (0 : Fin 16), (0 : Fin 16), 0x00004000, (briar0 0x00004000 { x := 3 }), by decide +kernel⟩,
   ⟨(0 : Fin 16), (0 : Fin 16), (0 : Fin 16), 0x0000C000, (briar0 0x0000C000 { x := 3 }), by decide +kernel⟩,
   ⟨(0 : Fin 16), (0 : Fin 16), (1 : Fin 16), 0x00018000, (briar0 0x00018000 {}), by decide +kernel⟩,
   ⟨(0 : Fin 16), (0 : Fin 16), (0 : Fin 16), 0x00018000, (briar0 0x00018000 {}), by decide +kernel⟩,
   ⟨(0 : Fin 16), (0 : Fin 16), (0 : Fin 16), 0x10020000, (briar0 0x10020000 {}), by decide +kernel⟩,
   ⟨(0 : Fin 16), (0 : Fin 16), (1 : Fin 16), 0x10020000, (briar0 0x10020000 {}), by decide +kernel⟩,
   ⟨(0 : Fin 16), (0 : Fin 16), (0 : Fin 16), 0x10028800, (briar0 0x10028800 { flags := 1 }), by decide +kernel⟩,
   ⟨(0 : Fin 16), (0 : Fin 16), (0 : Fin 16), 0x10010000, (briar0 0x10010000 {}), by decide +kernel⟩,
   ⟨(0 : Fin 16), (0 : Fin 16), (0 : Fin 16), 0x20008003, (briar0 0x20008003 {}), by decide +kernel⟩,
   ⟨(0 : Fin 16), (0 : Fin 16), (0 : Fin 16), 0x20030003, ((briar0 0x20030003 {}).wr (R.ENG_CH_CFG_IN_DIR 0 0) 1), by decide +kernel⟩,
   ⟨(0 : Fin 16), (0 : Fin 16), 0x30008003, ((briar0 0x30008003 {}).wr (R.ENG_CH_CFG_OUT_DIR 0 0) 1), by decide +kernel⟩,
   ⟨(0 : Fin 16), (0 : Fin 16), 0x30028003, (briar0 0x30028003 {}), by decide +kernel⟩,
   ⟨(0 : Fin 16), (0 : Fin 16), 0x40000000, (briar0 0x40000000 {}), by decide +kernel⟩,
   ⟨(0 : Fin 16), (0 : Fin 16), 0x40020000, (briar0 0x40020000 {}), by decide +kernel⟩,
   ⟨(0 : Fin 16), (0 : Fin 16), 0x40010000, (briar0 0x40010000 { rx := List.replicate 32 (0, 0) }), by decide +kernel⟩,
   ⟨(0 : Fin 16), (0 : Fin 16), 0x40000000, (briar0 0x40000000 { rx := List.replicate 32 (0, 0) }), by decide +kernel⟩,
   ⟨(0 : Fin 16), (0 : Fin 16), 0x50000000, 7, [], (briar0 0x50000000 { tx := [7] }), by decide +kernel⟩,
   ⟨(0 : Fin 16), (0 : Fin 16), 0x50010000, (briar0 0x50010000 {}), by decide +kernel⟩,
   ⟨(0 : Fin 16), (0 : Fin 16), 0x50000000, (briar0 0x50000000 {}), by decide +kernel⟩,
   ⟨(0 : Fin 16), (0 : Fin 16), (0 : Fin 16), 0x6000A800, (briar0 0x6000A800 {}), by decide +kernel⟩,
   ⟨(0 : Fin 16), (0 : Fin 16), (0 : Fin 16), 0x60029800, (briar0 0x60029800 {}), by decide +kernel⟩,
   ⟨(0 : Fin 16), (0 : Fin 16), 0x70008005, (briar0 0x70008005 {}), by decide +kernel⟩,
   ⟨(0 : Fin 16), (0 : Fin 16), 0x70000005, (briar0 0x70000005 {}), by decide +kernel⟩,
   ⟨(0 : Fin 16), (0 : Fin 16), 0x80010000, (briar0 0x80010000 {}), by decide +kernel⟩,
   ⟨(0 : Fin 16), (0 : Fin 16), 0x80020000, (briar0 0x80020000 {}), by decide +kernel⟩,
   ⟨(0 : Fin 16), (0 : Fin 16), 0x90002000, (briar0 0x90002000 {}), by decide +kernel⟩,
   ⟨(0 : Fin 16), (0 : Fin 16), 0x90020000, ((briar0 0x90020000 {}).wr (R.TD_CFG_EN 0) 1), by decide +kernel⟩,
   ⟨(0 : Fin 16), (0 : Fin 16), 0xA0008000, (briar0 0xA0008000 {}), by decide +kernel⟩,
   ⟨(0 : Fin 16), (0 : Fin 16), 0xA0020005, (briar0 0xA0020005 {}), by decide +kernel⟩,
   ⟨(0 : Fin 16), (0 : Fin 16), 0xB0000000, (briar0 0xB0000000 {}), by decide +kernel⟩,
   ⟨(0 : Fin 16), (0 : Fin 16), (0 : Fin 16), (briar0 0 { delay := 3 }), by decide +kernel⟩,
   ⟨(0 : Fin 16), (0 : Fin 16), (0 : Fin 16), 11, 0xB0000000, (briar0 0xB0000000 {}), by decide +kernel⟩,
   ⟨(0 : Fin 16), (0 : Fin 16), 0, 5, ⟨State.reset, {}, false, false⟩, State.reset, by decide +kernel⟩,
   ⟨(0 : Fin 16), (0 : Fin 16), 0, 0, ⟨State.reset, {}, false, false⟩, State.reset, by decide +kernel⟩,
   ⟨(0 : Fin 16), (0 : Fin 16), (briar0 0x20038000 {}), by decide +kernel⟩,
   ⟨(0 : Fin 16), (0 : Fin 16), (0 : Fin 16), State.reset, by decide +kernel⟩,
   ⟨(0 : Fin 16), (0 : Fin 16), { (State.reset.wr (R.ENG_SLOTEN_EN 0) 1).wr (R.ENG_CH_CFG_EN 0 0) 1 with eng.asked := [0] }, by decide +kernel⟩⟩

theorem witness_BriarChannels :
    (∃ (e : Fin 16) (c : Fin 16) (lv : Fin 16) (s : State), (s.chan e c).st = chStalled ∧ s.slots e c ≠ 0 ∧ opcodeOf (s.chan e c).insn = 4 ∧
      bit (s.chan e c).insn 17 = false ∧ (s.chan e c).rx.length < 32) ∧
    (∃ (e : Fin 16) (c : Fin 16) (lv : Fin 16) (s : State), (s.chan e c).st = chStalled ∧ s.slots e c ≠ 0 ∧ opcodeOf (s.chan e c).insn = 4 ∧
      bit (s.chan e c).insn 17 = false ∧ bit (s.chan e c).insn 16 = true ∧ 32 ≤ (s.chan e c).rx.length) ∧
    (∃ (e : Fin 16) (c : Fin 16) (lv : Fin 16) (s : State), (s.chan e c).st = chStalled ∧ s.slots e c ≠ 0 ∧ opcodeOf (s.chan e c).insn = 9) ∧
    (∃ (e : Fin 16) (c : Fin 16) (lv : Fin 16) (s : State), ((s.chan e c).st ≠ chStalled ∨ s.slots e c = 0)) ∧
    (∃ (e : Fin 16) (c : Fin 16) (s : State), (s.chan e c).st ≠ chHalted) ∧
    (∃ (e : Fin 16) (c : Fin 16) (s : State), s.flag (R.ENG_CH_CFG_EN e c) = true ∧ s.slots e c ≠ 0 ∧ s.flag (R.ENG_STAT_SWAP_PENDING e) = false) ∧
    (∃ (e : Fin 16) (c : Fin 16) (s : State), s.flag (R.ENG_CH_CFG_EN e c) = true ∧ s.slots e c = 0) ∧
    (∃ (e : Fin 16) (c : Fin 16) (s : State), s.flag (R.ENG_CH_CFG_EN e c) = false) ∧
    (∃ (e : Fin 16) (c : Fin 16) (v : BitVec 64) (s : State), s.rd (R.ENG_START_CFG_MASK e) = 2 ^ c.val ∧ (s.chan e c).st = chHalted ∧
      s.flag (R.ENG_CH_CFG_EN e c) = true ∧ ((∀ d : Fin 16, (s.chan e d).st ≠ chWaitStart)) ∧ nsCount (s.tdNow (s.rd (R.ENG_START_CFG_TD e))) ≤ v.toNat) ∧
    (∃ (e : Fin 16) (c : Fin 16) (s : State), (s.chan e c).st = chWaitStart ∧ (s.chan e c).startT ≤ nsCount (s.tdNow (s.chan e c).startTd) ∧ ((∀ d : Fin 16,
      d ≠ c → (s.chan e d).st ≠ chWaitStart))) ∧
    (∃ (e : Fin 16) (s : State), ((∀ c : Fin 16, (s.chan e c).st = chWaitStart → nsCount (s.tdNow (s.chan e c).startTd) < (s.chan e c).startT))) ∧
    (∃ (e : Fin 16) (c : Fin 16) (s : State), (s.chan e c).pend = true ∧ (s.chan e c).st = chRun) ∧
    (∃ (e : Fin 16) (c : Fin 16) (s : State), (s.chan e c).pend = false) ∧
    (∃ (e : Fin 16) (c : Fin 16) (x : BriarError) (s : State), (x = .fifo ∨ (x = .program ∧ chanLive (s.chan e c) = true))) ∧
    (∃ (e : Fin 16) (c : Fin 16) (s : State), chanLive (s.chan e c) = false) :=
  ⟨⟨(0 : Fin 16), (0 : Fin 16), (0 : Fin 16), ((State.reset.wr (R.ENG_SLOTEN_EN 0) 1).setChan 0 0 { st := chStalled, insn := 0x40000000 }), by decide +kernel⟩,
   ⟨(0 : Fin 16), (0 : Fin 16), (0 : Fin 16),
     ((State.reset.wr (R.ENG_SLOTEN_EN 0) 1).setChan 0 0 { st := chStalled, insn := 0x40010000, rx := List.replicate 32 (0, 0) }), by decide +kernel⟩,
   ⟨(0 : Fin 16), (0 : Fin 16), (0 : Fin 16), ((State.reset.wr (R.ENG_SLOTEN_EN 0) 1).setChan 0 0 { st := chStalled, insn := 0x90000000 }), by decide +kernel⟩,
   ⟨(0 : Fin 16), (0 : Fin 16), (0 : Fin 16), State.reset, by decide +kernel⟩,
   ⟨(0 : Fin 16), (0 : Fin 16), (State.reset.setChan 0 0 { st := chRun }), by decide +kernel⟩,
   ⟨(0 : Fin 16), (0 : Fin 16), ((State.reset.wr (R.ENG_SLOTEN_EN 0) 1).wr (R.ENG_CH_CFG_EN 0 0) 1), by decide +kernel⟩,
   ⟨(0 : Fin 16), (0 : Fin 16), ((State.reset).wr (R.ENG_CH_CFG_EN (0 : Fin 16) (0 : Fin 16)) 1), by decide +kernel⟩,
   ⟨(0 : Fin 16), (0 : Fin 16), ((State.reset).wr (R.ENG_CH_CFG_EN (0 : Fin 16) (0 : Fin 16)) 0), by decide +kernel⟩,
   ⟨(0 : Fin 16), (0 : Fin 16), 0, ((State.reset.wr (R.ENG_START_CFG_MASK 0) 1).wr (R.ENG_CH_CFG_EN 0 0) 1), by decide +kernel⟩,
   ⟨(0 : Fin 16), (0 : Fin 16), ((State.reset).setChan (0 : Fin 16) (0 : Fin 16) { st := chWaitStart }), by decide +kernel⟩,
   ⟨(0 : Fin 16), State.reset, by decide +kernel⟩,
   ⟨(0 : Fin 16), (0 : Fin 16), ((State.reset).setChan (0 : Fin 16) (0 : Fin 16) { pend := true, st := chRun }), by decide +kernel⟩,
   ⟨(0 : Fin 16), (0 : Fin 16), ((State.reset).setChan (0 : Fin 16) (0 : Fin 16) { pend := false }), by decide +kernel⟩,
   ⟨(0 : Fin 16), (0 : Fin 16), .fifo, State.reset, by decide +kernel⟩,
   ⟨(0 : Fin 16), (0 : Fin 16), State.reset, by decide +kernel⟩⟩

theorem witness_TwinPair :
    (∃ (d : BitVec 384) (pa : Bool) (s : State), s.flag R.TWIN_CFG_EN = true ∧ s.ready = true ∧ s.isUp 4 = true ∧ d.toNat = s.ownDigest ∧
      (s.active = true ∨ (pa = false ∧ s.firstHub = true))) ∧
    (∃ (d : BitVec 384) (pa : Bool) (s : State), s.flag R.TWIN_CFG_EN = true ∧ s.ready = true ∧ s.isUp 4 = true ∧ d.toNat = s.ownDigest ∧ s.active = false ∧
      (pa = true ∨ s.firstHub = false)) ∧
    (∃ (d : BitVec 384) (pa : Bool) (s : State), s.flag R.TWIN_CFG_EN = true ∧ s.ready = true ∧ s.isUp 4 = true ∧ d.toNat ≠ s.ownDigest ∧ s.active = true) ∧
    (∃ (p : Nat) (s : State), p < 8) ∧
    (∃ (s : State), s.flag R.TWIN_CFG_EN = true ∧ s.ready = true ∧ s.isUp 4 = false ∧ s.rd R.TWIN_STAT_ROLE = 0 ∧ s.pairIs pForming = true) ∧
    (∃ (s : State), s.twin.waitPeer = true ∧ s.isStandby = true ∧ s.isUp 4 = false ∧ s.inSafe = false) ∧
    (∃ (s : State), (s.inSafe = true ∨ s.isUp 4 = true ∨ s.twin.waitPeer = false)) ∧
    (∃ (s : State), s.active = true ∧ s.twin.out = 2 ∧ s.twin.lateNow = false) ∧
    (∃ (s : State), s.active = false ∧ s.isStandby = false) ∧
    (∃ (s : State), s.active = true ∧ s.pairIs pReady = true) ∧
    (∃ (s : State), s.active = false) ∧
    (∃ (d : Delta) (s : State), s.isStandby = true ∧ s.isUp 4 = true ∧ (s.pairIs pReady = true ∨ s.pairIs pSyncing = true) ∧
      s.admits 4 bPoints 6 (deltaFrame d).cells = true ∧ s.twin.inbox = []) ∧
    (∃ (d : Delta) (s : State), s.isStandby = true ∧ s.isUp 4 = true ∧ (s.pairIs pReady = true ∨ s.pairIs pSyncing = true) ∧
      s.admits 4 bPoints 6 (deltaFrame d).cells = false) ∧
    (∃ (k : Nat) (s : State), s.active = true ∧ s.isUp 4 = true ∧ s.pairIs pReady = true ∧ s.twin.out = 0 ∧ s.twin.resync = false) ∧
    (∃ (k : Nat) (s : State), s.active = true ∧ s.twin.out ≠ 0 ∧ s.ns < s.twin.endAt) ∧
    (∃ (d : Delta) (s : State), (s.isStandby = false ∨ s.isUp 4 = false)) ∧
    (∃ (c : TakeCause) (s : State), s.mayTake c = true) ∧
    (∃ (c : TakeCause) (s : State), (s.inSafe = true ∨ s.isStandby = false ∨ s.pairIs pMismatch = true)) ∧
    (∃ (i : Nat) (s : State), s.isStandby = true ∧ s.inSafe = false ∧ s.pairIs pMismatch = false ∧ s.isUp 4 = false ∧ s.twin.near = [i]) ∧
    (∃ (s : State), s.pairIs pReady = true) ∧
    (∃ (s : State), s.active = true ∧ s.pairIs pReady = true ∧ s.flag R.TWIN_STAT_LAGGING = false ∧ s.twin.relinquish = false) ∧
    (∃ (s : State), s.active = true) ∧
    (∃ (s : State), s.twin.relinquish = true) ∧
    (∃ (s : State), s.twin.relinquish = false) ∧
    (∃ (s : State), s.active = true ∧ s.pairIs pReady = true) ∧
    (∃ (s : State), s.active = true ∧ s.twin.noticed = true) ∧
    (∃ (s : State), s.active = true ∧ s.flag R.TWIN_PULSE_STAT_BUSY = false) ∧
    (∃ (n : Fin 65536) (s : State), s.isStandby = true ∧ s.pairIs pReady = true ∧ (s.point n).bindKind = 3 ∧ (s.point n).bindByte 2 < 4) ∧
    (∃ (n : Nat) (pass : Bool) (s : State), s.twin.pulse = some n ∧ s.active = true) ∧
    (∃ (n : Nat) (s : State), s.twin.pulse = some n ∧ s.active = false) ∧
    (∃ (pass : Bool) (s : State), s.twin.pulse = none) :=
  ⟨⟨0, true, ((((State.reset.wr R.ID_STATE_READY 1).wr R.TWIN_CFG_EN 1).setPort 4 { st := .up }).wr R.TWIN_STAT_ROLE 1), by decide +kernel⟩,
   ⟨0, true, (((((State.reset).wr R.TWIN_CFG_EN 1).wr R.ID_STATE_READY 1).setPort 4 { st := .up }).wr R.TWIN_STAT_ROLE 0), by decide +kernel⟩,
   ⟨1, true, (((((State.reset).wr R.TWIN_CFG_EN 1).wr R.ID_STATE_READY 1).setPort 4 { st := .up }).wr R.TWIN_STAT_ROLE 1), by decide +kernel⟩,
   ⟨0, State.reset, by decide +kernel⟩,
   ⟨(((((State.reset).wr R.TWIN_CFG_EN 1).wr R.ID_STATE_READY 1).wr R.TWIN_STAT_ROLE (0)).wr R.TWIN_STAT_PAIR pForming), by decide +kernel⟩,
   ⟨((({ State.reset with twin.waitPeer := true }).wr R.TWIN_STAT_ROLE 2).wr R.FLT_SAFE_SAFE 0), by decide +kernel⟩,
   ⟨State.reset, by decide +kernel⟩,
   ⟨({ { (State.reset).wr R.TWIN_STAT_ROLE 1 with twin.out := 2 } with twin.lateNow := false }), by decide +kernel⟩,
   ⟨((State.reset).wr R.TWIN_STAT_ROLE 0), by decide +kernel⟩,
   ⟨(((State.reset).wr R.TWIN_STAT_ROLE 1).wr R.TWIN_STAT_PAIR pReady), by decide +kernel⟩,
   ⟨((State.reset).wr R.TWIN_STAT_ROLE 0), by decide +kernel⟩,
   ⟨delta0, (((((State.reset.wr R.ID_STATE_READY 1).wr R.TWIN_CFG_EN 1).setPort 4 { st := .up }).wr R.TWIN_STAT_ROLE 2).wr R.TWIN_STAT_PAIR pReady),
     by decide +kernel⟩,
   ⟨delta0,
     ((((((State.reset.wr R.ID_STATE_READY 1).wr R.TWIN_CFG_EN 1).setPort 4 { st := .up }).wr R.TWIN_STAT_ROLE 2).wr R.TWIN_STAT_PAIR pReady).wr (R.SW_OQ_LIM_MAX 214) 0),
     by decide +kernel⟩,
   ⟨0,
     ({ { ((((State.reset).wr R.TWIN_STAT_ROLE 1).setPort 4 { st := .up }).wr R.TWIN_CFG_EN 1).wr R.TWIN_STAT_PAIR pReady with twin.out := 0 } with twin.resync := false }),
     by decide +kernel⟩,
   ⟨0, { State.reset.wr R.TWIN_STAT_ROLE 1 with twin.out := 1, twin.endAt := 1 }, by decide +kernel⟩,
   ⟨delta0, State.reset, by decide +kernel⟩,
   ⟨.lanesDown, (State.reset.wr R.TWIN_STAT_ROLE 2), by decide +kernel⟩,
   ⟨.lanesDown, State.reset, by decide +kernel⟩,
   ⟨0, ({ (((State.reset).wr R.TWIN_STAT_ROLE 2).wr R.FLT_SAFE_SAFE 0).wr R.TWIN_STAT_PAIR (pMismatch+1) with twin.near := [0] }), by decide +kernel⟩,
   ⟨((State.reset).wr R.TWIN_STAT_PAIR pReady), by decide +kernel⟩,
   ⟨({ (((State.reset).wr R.TWIN_STAT_ROLE 1).wr R.TWIN_STAT_PAIR pReady).wr R.TWIN_STAT_LAGGING 0 with twin.relinquish := false }), by decide +kernel⟩,
   ⟨((State.reset).wr R.TWIN_STAT_ROLE 1), by decide +kernel⟩,
   ⟨({ State.reset with twin.relinquish := true }), by decide +kernel⟩,
   ⟨({ State.reset with twin.relinquish := false }), by decide +kernel⟩,
   ⟨(((State.reset).wr R.TWIN_STAT_ROLE 1).wr R.TWIN_STAT_PAIR pReady), by decide +kernel⟩,
   ⟨({ (State.reset).wr R.TWIN_STAT_ROLE 1 with twin.noticed := true }), by decide +kernel⟩,
   ⟨(((State.reset).wr R.TWIN_STAT_ROLE 1).wr R.TWIN_PULSE_STAT_BUSY 0), by decide +kernel⟩,
   ⟨(0 : Fin 65536),
     ((((((State.reset.wr R.ID_STATE_READY 1).wr R.TWIN_CFG_EN 1).setPort 4 { st := .up }).wr R.TWIN_STAT_ROLE 2).wr R.TWIN_STAT_PAIR pReady).setPoint 0 { binding := [3] }),
     by decide +kernel⟩,
   ⟨0, true, (({ State.reset with twin.pulse := some 0 }).wr R.TWIN_STAT_ROLE 1), by decide +kernel⟩,
   ⟨0, (({ State.reset with twin.pulse := some 0 }).wr R.TWIN_STAT_ROLE 0), by decide +kernel⟩,
   ⟨true, ({ State.reset with twin.pulse := none }), by decide +kernel⟩⟩

theorem witness_LinkAuthentication :
    (∃ (i : Fin 5) (s : State), s.authOpen i = true ∧ (s.sec_ i).auth = none ∧ s.isInit i = true ∧ s.drbgOk = true) ∧
    (∃ (i : Fin 5) (s : State), s.authOpen i = true ∧ (s.sec_ i).auth = none ∧ s.isInit i = true ∧ s.drbgOk = false) ∧
    (∃ (i : Fin 5) (fs : List Frame) (b : List Byte) (s : State), s.authOpen i = true ∧ (s.sec_ i).auth = none ∧ s.isInit i = false ∧ fs ≠ [] ∧
      (s.authIn i 1 fs).1 = some b ∧ b.length = 1697 ∧ s.drbgOk = true) ∧
    (∃ (i : Fin 5) (fs : List Frame) (s : State), (s.authOpen i = false ∨ (s.sec_ i).auth.isSome = true)) ∧
    (∃ (i : Fin 5) (fs : List Frame) (h : Hand) (b : List Byte) (s : State), s.expects i 2 fs = some (h, b) ∧ b.length = 1697 ∧ s.drbgOk = true) ∧
    (∃ (i : Fin 5) (fs : List Frame) (h : Hand) (b : List Byte) (s : State), s.expects i 3 fs = some (h, b)) ∧
    (∃ (i : Fin 5) (fs : List Frame) (h : Hand) (b : List Byte) (s : State), s.expects i 4 fs = some (h, b) ∧ s.proofReason i h b ≠ 0) ∧
    ((∀ k m g, Config.ecdsaOk k m g = true) → (∀ k m g, Config.mldsaOk k m g = true) → Config.chainSerial [] = 0 → Config.chainSvn [] = 0 →
      Config.chainDebug [] = false → ∃ (i : Fin 5) (fs : List Frame) (h : Hand) (b : List Byte) (s : State), s.expects i 4 fs = some (h, b) ∧
      s.proofReason i h b = 0) ∧
    (∃ (i : Fin 5) (h : Hand) (b : List Byte) (s : State), s.proofOk i h b = false) ∧
    (∃ (i : Fin 5) (fs : List Frame) (h : Hand) (b : List Byte) (s : State), s.expects i 5 fs = some (h, b) ∧ s.isInit i = true) ∧
    ((∀ a b, (Config.hmac a b).length = 48) → ∃ (i : Fin 5) (fs : List Frame) (h : Hand) (b : List Byte) (s : State), s.expects i 5 fs = some (h, b) ∧
      s.isInit i = false ∧ b = Config.hmac (finishKey h.prk) h.script) ∧
    (∃ (i : Nat) (k : Lane) (s : State), s.serves i = false ∧ 4 ≤ i) ∧
    (∃ (i : Fin 5) (r : Nat) (s : State), s.authOpen i = true) ∧
    (∃ (i : Nat) (r : Nat) (s : State), s.isUp i = true) ∧
    (∃ (i : Nat) (f : Frame) (again : Bool) (s : State), (s.port i).fcnt < 2 ^ 32 ∧ f.typ = fMgmt ∧ f.op = 4 ∧ leAt f.payload 0 1 = 0x0F ∧
      (s.sec_ i).rekey.any (fun h => h.want = wReject) = true) ∧
    (∃ (i : Fin 5) (fs : List Frame) (s : State), (s.authIn i 0x0F fs).1.isSome = true ∧ s.authOpen i = true) ∧
    (∃ (i : Fin 5) (fs : List Frame) (b : List Byte) (t : State) (s : State), s.authIn i 0x0F fs = (some b, t) ∧ t.isUp i = true) ∧
    (∃ (i : Fin 5) (s : State), s.authOpen i = true ∧ (s.sec_ i).auth.isSome = true) ∧
    (∃ (i : Fin 5) (s : State), (s.authOpen i = false ∨ (s.sec_ i).auth = none)) ∧
    (∃ (i : Fin 5) (s : State), s.isUp i = true ∧ (s.sec_ i).rekey = none ∧ s.isInit i = true) ∧
    (∃ (i : Fin 5) (s : State), s.isUp i = true ∧ (s.sec_ i).rekey = none ∧ s.isInit i = false) ∧
    (∃ (i : Nat) (s : State), s.drbgOk = true) ∧
    (∃ (i : Fin 5) (fs : List Frame) (b : List Byte) (t : State) (s : State), s.authIn i 9 fs = (some b, t) ∧ t.isUp i = true ∧ t.isInit i = true ∧
      (t.sec_ i).rekey = none) ∧
    (∃ (i : Fin 5) (fs : List Frame) (b : List Byte) (t : State) (s : State), s.authIn i 6 fs = (some b, t) ∧ t.isUp i = true ∧ t.isInit i = false ∧
      b.length = 1697 ∧ t.drbgOk = true ∧ (t.sec_ i).rekey.any (fun h => h.want = wReject) = false) ∧
    (∃ (i : Fin 5) (fs : List Frame) (h : Hand) (b : List Byte) (t : State) (s : State), s.expectsRekey i 7 fs = some (h, b) ∧ (s.authIn i 7 fs).2 = t ∧
      b.length = 1697 ∧ t.drbgOk = true) ∧
    (∃ (i : Fin 5) (fs : List Frame) (h : Hand) (b : List Byte) (t : State) (s : State), s.expectsRekey i 8 fs = some (h, b) ∧ (s.authIn i 8 fs).2 = t ∧
      t.isInit i = true) ∧
    ((∀ a b, (Config.hmac a b).length = 48) → ∃ (i : Fin 5) (fs : List Frame) (h : Hand) (t : State) (s : State), s.expectsRekey i 8 fs = some (h,
      Config.hmac (finishKey h.prk) h.script) ∧ (s.authIn i 8 fs).2 = t ∧ t.isInit i = false) ∧
    (∃ (i : Fin 5) (s : State), s.isUp i = true ∧ ((s.sec_ i).rekey.any (fun h => h.want = 7 ∨ h.want = 8) = true) ∧ (s.sec_ i).restarts = 2) ∧
    (∃ (i : Fin 5) (s : State), s.isUp i = true ∧ ((s.sec_ i).rekey.any (fun h => h.want = 7 ∨ h.want = 8) = true) ∧ (s.sec_ i).restarts ≠ 2) :=
  ⟨⟨(0 : Fin 5), (((State.reset).setPort (0 : Fin 5) { st := .auth }).wr R.SEC_STAT_DRBG_OK 1), by decide +kernel⟩,
   ⟨(0 : Fin 5), ((State.reset).setPort (0 : Fin 5) { st := .auth }), by decide +kernel⟩,
   ⟨(1 : Fin 5), (msg0 1 (List.replicate 1697 0)), (List.replicate 1697 0), ((State.reset.setPort 1 { st := .auth }).wr R.SEC_STAT_DRBG_OK 1),
     by decide +kernel⟩,
   ⟨(0 : Fin 5), [], State.reset, by decide +kernel⟩,
   ⟨(0 : Fin 5), (msg0 2 (List.replicate 1697 0)), { want := 2 }, (List.replicate 1697 0), (handAt 0 .auth 2), by decide +kernel⟩,
   ⟨(0 : Fin 5), (msg0 3 []), { want := 3 }, [], (handAt 0 .auth 3), by decide +kernel⟩,
   ⟨(0 : Fin 5), (msg0 4 []), { want := 4 }, [], (handAt 0 .auth 4), by decide +kernel⟩,
   fun he hm hs hv hd => ⟨(0 : Fin 5), [part0 0 (List.replicate 2000 0), part0 1 (List.replicate 2000 0), part0 2 (List.replicate 843 0)], { want := 4 }, _,
     handAt 0 .auth 4, expects_three _ _ _ List.length_replicate List.length_replicate List.length_replicate,
     by rw [zeros_4843]; exact proof_accepted he hm hs hv hd⟩,
   ⟨(0 : Fin 5), hand0, [], State.reset, by decide +kernel⟩,
   ⟨(0 : Fin 5), (msg0 5 []), { want := 5 }, [], (handAt 0 .auth 5), by decide +kernel⟩,
   fun hl => ⟨(1 : Fin 5), msg0 5 (Config.hmac (finishKey 0) []), { want := 5 }, (Config.hmac (finishKey 0) []), handAt 1 .auth 5,
     expects_one 1 5 _ (hl _ _) rfl rfl, by decide +kernel, rfl⟩,
   ⟨4, {}, State.reset, by decide +kernel⟩,
   ⟨(0 : Fin 5), 0, ((State.reset).setPort (0 : Fin 5) { st := .auth }), by decide +kernel⟩,
   ⟨0, 0, (((State.reset).setPort 0 { st := .up }).wr R.TWIN_CFG_EN 1), by decide +kernel⟩,
   ⟨0, { typ := fMgmt, op := 4, payload := [0x0F] }, true, (State.reset.setSec 0 { rekey := some { want := wReject } }), by decide +kernel⟩,
   ⟨(0 : Fin 5), (msg0 15 []), ((State.reset).setPort (0 : Fin 5) { st := .auth }), by decide +kernel⟩,
   ⟨(0 : Fin 5), (msg0 15 []), [], (((State.reset.setPort 0 { st := .up }).wr R.SEC_STAT_DRBG_OK 1).authIn 0 15 (msg0 15 [])).2,
     ((State.reset.setPort 0 { st := .up }).wr R.SEC_STAT_DRBG_OK 1), by decide +kernel⟩,
   ⟨(0 : Fin 5), (handAt 0 .auth 4), by decide +kernel⟩,
   ⟨(0 : Fin 5), State.reset, by decide +kernel⟩,
   ⟨(0 : Fin 5), (((State.reset).setPort (0 : Fin 5) { st := .up }).wr R.TWIN_CFG_EN 1), by decide +kernel⟩,
   ⟨(1 : Fin 5), ((State.reset.setPort 1 { st := .up }).wr R.SEC_STAT_DRBG_OK 1), by decide +kernel⟩,
   ⟨0, ((State.reset).wr R.SEC_STAT_DRBG_OK 1), by decide +kernel⟩,
   ⟨(0 : Fin 5), (msg0 9 []), [], (((State.reset.setPort 0 { st := .up }).wr R.SEC_STAT_DRBG_OK 1).authIn 0 9 (msg0 9 [])).2,
     ((State.reset.setPort 0 { st := .up }).wr R.SEC_STAT_DRBG_OK 1), by decide +kernel⟩,
   ⟨(1 : Fin 5), (msg0 6 (List.replicate 1697 0)), (List.replicate 1697 0),
     (((State.reset.setPort 1 { st := .up }).wr R.SEC_STAT_DRBG_OK 1).authIn 1 6 (msg0 6 (List.replicate 1697 0))).2,
     ((State.reset.setPort 1 { st := .up }).wr R.SEC_STAT_DRBG_OK 1), by decide +kernel⟩,
   ⟨(0 : Fin 5), (msg0 7 (List.replicate 1697 0)), { want := 7 }, (List.replicate 1697 0), ((handAt 0 .up 7).authIn 0 7 (msg0 7 (List.replicate 1697 0))).2,
     (handAt 0 .up 7), by decide +kernel⟩,
   ⟨(0 : Fin 5), (msg0 8 []), { want := 8 }, [], ((handAt 0 .up 8).authIn 0 8 (msg0 8 [])).2, (handAt 0 .up 8), by decide +kernel⟩,
   fun hl => ⟨(1 : Fin 5), msg0 8 (Config.hmac (finishKey 0) []), { want := 8 }, _, handAt 1 .up 8, expects_rekey_one 1 8 _ (hl _ _) rfl rfl, rfl,
     by decide +kernel⟩,
   ⟨(0 : Fin 5), ((State.reset.setPort 0 { st := .up }).setSec 0 { rekey := some { want := 7 }, restarts := 2 }), by decide +kernel⟩,
   ⟨(0 : Fin 5), (handAt 0 .up 7), by decide +kernel⟩⟩

theorem witness_SecurityUnit :
    (∃ (t : Fin 16) (b : List Byte) (s : State), s.answers t = true) ∧
    (∃ (t : Fin 16) (b : List Byte) (e : SpdmEffect) (s : State), s.answers t = false) ∧
    (∃ (u : Fin 17) (b : List Byte) (secure : Bool) (s : State), s.answers 0 = true ∧ ((∃ x ∈ s.sec.sessions, x.slot = 0))) ∧
    (∃ (t : Fin 16) (s : State), s.flag (R.SEC_TEN_TKEY_REQ t) = false) ∧
    (∃ (s : State), s.mbxOpen = true ∧ s.drbgOk = true) ∧
    (∃ (s : State), s.mbxOpen = true ∧ s.drbgOk = false) ∧
    (∃ (n : Fin 16385) (s : State), s.mbxOpen = false) ∧
    (∃ (n : Fin 16385) (s : State), s.mbxOpen = true ∧ s.tokenResult n ≠ 0) ∧
    ((∀ k m g, Config.ecdsaOk k m g = true) → (∀ k m g, Config.mldsaOk k m g = true) → Config.partSerial = 0 → ∃ (n : Fin 16385) (s : State),
      s.mbxOpen = true ∧ s.tokenResult n = 0 ∧ leNat (s.mbxIn 0 1) = 1) ∧
    ((∀ k m g, Config.ecdsaOk k m g = true) → (∀ k m g, Config.mldsaOk k m g = true) → Config.partSerial = 0 → ∃ (n : Fin 16385) (s : State),
      s.mbxOpen = true ∧ s.tokenResult n = 0 ∧ leNat (s.mbxIn 0 1) = 5) ∧
    (∃ (n : Nat) (s : State), (s.sec.challenge ≠ some (s.mbxIn 0x18 48) ∨ leNat (s.mbxIn 8 16) ≠ Config.partSerial.toNat)) ∧
    ((∀ a b c d, (Config.certChain a b c d).length < 2 ^ 15) → ∃ (n : Fin 16385) (s : State), s.mbxOpen = true ∧ n.val ≠ 0 ∧ leNat (s.mbxIn 0 1) ≤ 1 ∧
      (s.chain (leNat (s.mbxIn 0 1))).length < 2 ^ 15) ∧
    (∃ (n : Fin 16385) (s : State), s.mbxOpen = true ∧ n.val ≠ 32) ∧
    (∃ (n : Fin 16385) (s : State), s.mbxOpen = true ∧ n.val = 32) ∧
    (∃ (n : Fin 16385) (s : State), s.mbxOpen = true ∧ 2 ≤ n.val ∧ leNat (s.mbxIn 0 2) ≠ 0 ∧ leNat (s.mbxIn 0 2) ≤ 256 ∧ s.drbgOk = true) ∧
    (∃ (n : Fin 16385) (s : State), s.mbxOpen = true ∧ s.flag R.SEC_STAT_DEBUG = false) ∧
    (∃ (n : Fin 16385) (s : State), s.mbxOpen = true ∧ s.flag R.SEC_STAT_DEBUG = true ∧ 10 ≤ n.val ∧ leNat (s.mbxIn 8 2) ≠ 0 ∧ leNat (s.mbxIn 8 2) ≤ 4096) ∧
    (∃ (n : Fin 16385) (s : State), s.mbxOpen = true ∧ s.flag R.SEC_STAT_DEBUG = true ∧ 8 ≤ n.val) ∧
    (∃ (x : Fin 4) (s : State), s.watched x = true) ∧
    (∃ (x : Fin 4) (s : State), s.watched x = false) ∧
    (∃ (s : State), s.drbgOk = true) ∧
    (∃ (s : State), s.drbgOk = false) ∧
    (∃ (s : State), s.drbgOk = true) :=
  ⟨⟨(0 : Fin 16), [], (State.reset.wr R.ID_STATE_READY 1), by decide +kernel⟩,
   ⟨(0 : Fin 16), [], .none, State.reset, by decide +kernel⟩,
   ⟨(0 : Fin 17), [], true, { State.reset.wr R.ID_STATE_READY 1 with sec.sessions := [⟨0, false, 0⟩] }, by decide +kernel⟩,
   ⟨(0 : Fin 16), ((State.reset).wr (R.SEC_TEN_TKEY_REQ (0 : Fin 16)) 0), by decide +kernel⟩,
   ⟨(((State.reset).wr R.ID_STATE_READY 1).wr R.SEC_STAT_DRBG_OK 1), by decide +kernel⟩,
   ⟨((State.reset).wr R.ID_STATE_READY 1), by decide +kernel⟩,
   ⟨(0 : Fin 16385), State.reset, by decide +kernel⟩,
   ⟨(0 : Fin 16385), ((State.reset).wr R.ID_STATE_READY 1), by decide +kernel⟩,
   fun he hm hp => ⟨(0x12BB : Fin 16385),
     { mbx0 [(0, 1), (2, 0xBB), (3, 0x12)] with sec.challenge := some (List.replicate 48 0), sec.vault.latch := true, boot.bnd0 := ⟨2, [0]⟩ },
     by decide +kernel, by simpa [State.tokenResult, State.tokenSigned, he, hm, hp, firstReason] using (by decide +kernel : _), by decide +kernel⟩,
   fun he hm hp => ⟨(0x12BB : Fin 16385),
     { mbx0 [(0, 5), (2, 0xBB), (3, 0x12)] with sec.challenge := some (List.replicate 48 0), sec.vault.latch := true, boot.bnd0 := ⟨2, [0]⟩ },
     by decide +kernel, by simpa [State.tokenResult, State.tokenSigned, he, hm, hp, firstReason] using (by decide +kernel : _), by decide +kernel⟩,
   ⟨0, State.reset, by decide +kernel⟩,
   fun h => ⟨(1 : Fin 16385), (State.reset.wr R.ID_STATE_READY 1), by decide +kernel, by decide +kernel, by decide +kernel, h _ _ _ _⟩,
   ⟨(0 : Fin 16385), ((State.reset).wr R.ID_STATE_READY 1), by decide +kernel⟩,
   ⟨(32 : Fin 16385), ((State.reset).wr R.ID_STATE_READY 1), by decide +kernel⟩,
   ⟨(2 : Fin 16385), ((mbx0 [(0, 1)]).wr R.SEC_STAT_DRBG_OK 1), by decide +kernel⟩,
   ⟨(0 : Fin 16385), (((State.reset).wr R.ID_STATE_READY 1).wr R.SEC_STAT_DEBUG 0), by decide +kernel⟩,
   ⟨(10 : Fin 16385), ((mbx0 [(8, 1)]).wr R.SEC_STAT_DEBUG 1), by decide +kernel⟩,
   ⟨(8 : Fin 16385), (((State.reset).wr R.ID_STATE_READY 1).wr R.SEC_STAT_DEBUG 1), by decide +kernel⟩,
   ⟨(1 : Fin 4), { State.reset with pwr.state := .run }, by decide +kernel⟩,
   ⟨(0 : Fin 4), State.reset, by decide +kernel⟩,
   ⟨((State.reset).wr R.SEC_STAT_DRBG_OK 1), by decide +kernel⟩,
   ⟨State.reset, by decide +kernel⟩,
   ⟨((State.reset).wr R.SEC_STAT_DRBG_OK 1), by decide +kernel⟩⟩

theorem witness_FaultsAndLogs :
    (∃ (b : Nat) (d : Nat) (s : State), b < 49 ∧ s.flt.selfFault = false ∧ s.flag (fltBit b) = false) ∧
    (∃ (b : Nat) (d : Nat) (s : State), b < 49 ∧ s.flt.selfFault = false ∧ s.flag (fltBit b) = true ∧ 1 ≤ s.rd (R.FLT_SRC_CLASS b)) ∧
    (∃ (b : Nat) (d : Nat) (s : State), b < 49 ∧ s.flt.selfFault = false ∧ s.flag (fltBit b) = true ∧ s.rd (R.FLT_SRC_CLASS b) < 2 ∧
      s.flag (escBit b) = false) ∧
    (∃ (b : Nat) (d : Nat) (c : FClass) (s : State), s.flt.selfFault = true) ∧
    (∃ (b : Nat) (d : Nat) (s : State), b < 49 ∧ s.flt.selfFault = false ∧ s.flag (fltBit b) = false) ∧
    (∃ (cause : Nat) (k : Nat) (r : Nat) (s : State), cause < 256 ∧ s.inSafe = false) ∧
    (∃ (cause : Nat) (k : Nat) (r : Nat) (s : State), s.inSafe = true) ∧
    (∃ (b : Fin 49) (c : FClass) (d : BitVec 32) (s : State), mayRaise b c = false) ∧
    (∃ (b : Fin 49) (c : FClass) (d : BitVec 32) (s : State), mayRaise b c = true ∧ b.val ≠ 18 ∧ c ≠ .F) ∧
    (∃ (b : Fin 49) (s : State), s.flag (fltBit b) = true ∧ ((∀ x ∈ s.flt.persist, x.1 ≠ b.val))) ∧
    (∃ (b : Fin 49) (k : Nat) (d : Nat) (c : FClass) (s : State), s.flag (fltBit b) = true ∧ s.flt.persist.find? (fun x => x.1 = b.val) = some (k, c, d)) ∧
    (∃ (b : Fin 49) (s : State), s.flag (fltBit b) = false) ∧
    (∃ (s : State), s.flt.selfFault = false) ∧
    (∃ (s : State), s.flt.selfFault = true) ∧
    (∃ (s : State), s.inSafe = true ∧ s.mayExit = true) ∧
    (∃ (s : State), s.inSafe = true ∧ s.mayExit = false) ∧
    (∃ (s : State), s.inSafe = false) ∧
    (∃ (s : State), (s.sec.vault.latch = true ∨ (∃ b < 49, s.flag (fltBit b) = true ∧ s.rd (R.FLT_SRC_CLASS b) = 3))) ∧
    (∃ (s : State), s.flt.writeError = false ∧ s.pwr.kaolinLost = false) ∧
    (∃ (s : State), s.flt.writeError = false ∧ s.pwr.kaolinLost = false) ∧
    (∃ (l : Fin 2) (s : State), s.flt.writeError = false) ∧
    (∃ (l : Fin 2) (ok : Bool) (s : State), s.flt.writeError = true) ∧
    (∃ (s : State), s.flt.writeError = true ∧ s.pwr.kaolinLost = false) ∧
    (∃ (l : Fin 2) (q : BitVec 32) (s : State), s.rd R.FLT_LOG_RDSTAT_STATE ≠ 1) ∧
    (∃ (l : Nat) (q : Nat) (x : LogRec) (r : List LogRec) (s : State), s.flt.copy = some (l, q) ∧ (s.log l).copy q = x :: r ∧ s.pwr.kaolinLost = false) ∧
    (∃ (l : Nat) (q : Nat) (x : LogRec) (s : State), s.flt.copy = some (l, q) ∧ s.pwr.kaolinLost = true ∧ x ∈ (s.log l).copy q ∧ x ∈ (s.log l).stored) ∧
    (∃ (l : Nat) (q : Nat) (s : State), s.flt.copy = some (l, q)) :=
  ⟨⟨0, 0, ({ State.reset with flt.selfFault := false }), by decide +kernel⟩,
   ⟨9, 0, ((State.reset.wr (fltBit 9) 1).wr (R.FLT_SRC_CLASS 9) 1), by decide +kernel⟩,
   ⟨9, 0, (State.reset.wr (fltBit 9) 1), by decide +kernel⟩,
   ⟨0, 0, .U, ({ State.reset with flt.selfFault := true }), by decide +kernel⟩,
   ⟨0, 0, ({ State.reset with flt.selfFault := false }), by decide +kernel⟩,
   ⟨0, 0, 0, ((State.reset).wr R.FLT_SAFE_SAFE 0), by decide +kernel⟩,
   ⟨0, 0, 0, ((State.reset).wr R.FLT_SAFE_SAFE 1), by decide +kernel⟩,
   ⟨(9 : Fin 49), .F, 0, State.reset, by decide +kernel⟩,
   ⟨(0 : Fin 49), .U, 0, State.reset, by decide +kernel⟩,
   ⟨(9 : Fin 49), (State.reset.wr (fltBit 9) 1), by decide +kernel⟩,
   ⟨(0 : Fin 49), 0, 1, .C, { State.reset.wr (fltBit 0) 1 with flt.persist := [(0, .C, 1)] }, by decide +kernel⟩,
   ⟨(0 : Fin 49), State.reset, by decide +kernel⟩,
   ⟨({ State.reset with flt.selfFault := false }), by decide +kernel⟩,
   ⟨({ State.reset with flt.selfFault := true }), by decide +kernel⟩,
   ⟨((State.reset).wr R.FLT_SAFE_SAFE 1), by decide +kernel⟩,
   ⟨{ State.reset.wr R.FLT_SAFE_SAFE 1 with sec.vault.latch := true }, by decide +kernel⟩,
   ⟨((State.reset).wr R.FLT_SAFE_SAFE 0), by decide +kernel⟩,
   ⟨{ State.reset with sec.vault.latch := true }, .inl rfl⟩,
   ⟨({ { State.reset with flt.writeError := false } with pwr.kaolinLost := false }), by decide +kernel⟩,
   ⟨({ { State.reset with flt.writeError := false } with pwr.kaolinLost := false }), by decide +kernel⟩,
   ⟨(0 : Fin 2), ({ State.reset with flt.writeError := false }), by decide +kernel⟩,
   ⟨(0 : Fin 2), true, ({ State.reset with flt.writeError := true }), by decide +kernel⟩,
   ⟨({ { State.reset with flt.writeError := true } with pwr.kaolinLost := false }), by decide +kernel⟩,
   ⟨(0 : Fin 2), 0, ((State.reset).wr R.FLT_LOG_RDSTAT_STATE 0), by decide +kernel⟩,
   ⟨0, 0, rec0, [], { State.reset with flt.copy := some (0, 0), flt.fault.stored := [rec0] }, by decide +kernel⟩,
   ⟨0, 0, rec0, { State.reset with flt.copy := some (0, 0), flt.fault.stored := [rec0], pwr.kaolinLost := true }, by decide +kernel⟩,
   ⟨0, 0, ({ State.reset with flt.copy := some (0, 0) }), by decide +kernel⟩⟩

theorem witness_PowerStates :
    (∃ (r : Req) (op : Nat) (s : State), s.pwr.opReq = some (r, op) ∧ s.pwr.opWait = [] ∧ op < 4) ∧
    (∃ (s : State), s.pwr.opReq = none) ∧
    (∃ (s : State), s.pwr.entry = some false ∧ s.drained = true) ∧
    (∃ (s : State), (s.pwr.entry ≠ some false ∨ s.drained = false)) ∧
    (∃ (n : Fin 5) (s : State), bit (s.word 0x20040) n = true ∧ s.pwr.entry.isSome = true) ∧
    (∃ (n : Fin 5) (s : State), bit (s.word 0x20040) n = true ∧ s.pwr.entry = none ∧ s.pwr.asleep = true) ∧
    (∃ (n : Fin 5) (s : State), (bit (s.word 0x20040) n = false ∨ (s.pwr.entry = none ∧ s.pwr.asleep = false))) ∧
    (∃ (s : State), s.pwr.asleep = true ∧ s.pwr.early ≠ 0) ∧
    (∃ (f : List (Fin 8)) (b : List (Fin 16)) (s : State), (s.pwr.asleep = false ∨ s.pwr.early = 0)) ∧
    (∃ (b : Fin 8) (s : State), bit (s.rd R.PWR_RET_STAT_RELOAD) b = true) ∧
    (∃ (b : Fin 8) (s : State), bit (s.rd R.PWR_RET_STAT_RELOAD) b = false) ∧
    (∃ (s : State), s.pwr.entry = some true ∧ s.drained = true ∧ s.pwr.early = 0) ∧
    (∃ (s : State), (s.pwr.entry ≠ some true ∨ s.drained = false)) ∧
    (∃ (s : State), s.pwr.state = .dormant ∧ s.pwr.path = .none ∧ (0 ∈ s.pwr.present ∨ 1 ∈ s.pwr.present)) ∧
    (∃ (s : State), 0 ∉ s.pwr.present ∧ 1 ∉ s.pwr.present) ∧
    (∃ (s : State), s.words 0x100048 2 = 0) ∧
    (∃ (s : State), s.words 0x100048 2 ≠ 0 ∧ s.pwr.state ≠ .dormant) ∧
    (∃ (s : State), s.words 0x100048 2 ≠ 0 ∧ s.pwr.state = .dormant) :=
  ⟨⟨({} : Req), 0, ({ { State.reset with pwr.opReq := some (({} : Req), 0) } with pwr.opWait := [] }), by decide +kernel⟩,
   ⟨({ State.reset with pwr.opReq := none }), by decide +kernel⟩,
   ⟨({ State.reset with pwr.entry := some false }), by decide +kernel⟩,
   ⟨State.reset, by decide +kernel⟩,
   ⟨(0 : Fin 5), { State.reset.setWord 0x20040 1 with pwr.entry := some false }, by decide +kernel⟩,
   ⟨(0 : Fin 5), ({ { State.reset with pwr.entry := none } with pwr.asleep := true }), by decide +kernel⟩,
   ⟨(0 : Fin 5), State.reset, by decide +kernel⟩,
   ⟨{ State.reset with pwr.asleep := true, pwr.early := 1 }, by decide +kernel⟩,
   ⟨[], [], State.reset, .inl rfl⟩,
   ⟨(0 : Fin 8), ((State.reset).wr R.PWR_RET_STAT_RELOAD (2^((0 : Fin 8):Nat))), by decide +kernel⟩,
   ⟨(0 : Fin 8), ((State.reset).wr R.PWR_RET_STAT_RELOAD 0), by decide +kernel⟩,
   ⟨({ { State.reset with pwr.entry := some true } with pwr.early := 0 }), by decide +kernel⟩,
   ⟨State.reset, by decide +kernel⟩,
   ⟨({ { { State.reset with pwr.state := .dormant } with pwr.path := .none } with pwr.present := [0] }), by decide +kernel⟩,
   ⟨State.reset, by decide +kernel⟩,
   ⟨State.reset, by decide +kernel⟩,
   ⟨(State.reset.setWord 0x100048 1), by decide +kernel⟩,
   ⟨{ State.reset.setWord 0x100048 1 with pwr.state := .dormant }, by decide +kernel⟩⟩

theorem witness_ClocksAndModules :
    (∃ (s : State), s.flag R.PWR_CFG_AUTO_PLL = true ∧ s.pwr.autoOsc = true) ∧
    (∃ (a : Bool) (b : Bool) (s : State), (s.flag R.PWR_CFG_AUTO_PLL = false ∨ s.pwr.autoOsc = false)) ∧
    (∃ (n : Fin 7) (s : State), s.srcRuns n = false) ∧
    (∃ (n : Fin 7) (s : State), s.srcRuns n = true) ∧
    (∃ (s : State), s.srcRuns 4 = true ∧ s.srcRuns 1 = true ∧ s.td.ref = .own) ∧
    (∃ (j : Nat) (s : State), s.srcRuns 4 = true ∧ s.srcRuns 1 = true ∧ s.td.ref = .port j ∧ s.clockOf (1 - j) = true) ∧
    (∃ (s : State), s.isRoot = true ∧ s.pwr.asleep = false) ∧
    (∃ (n : Nat) (i : Nat) (s : State), i < 41 ∧ s.hitBy n i = true) ∧
    (∃ (n : Nat) (i : Nat) (s : State), i < 41 ∧ s.hitBy n i = false) ∧
    (∃ (i : Fin 41) (sel : Bool) (s : State), isSwitchable i = true ∧ s.flag (R.CLK_ISL_PENDING i) = false ∧ s.flag (R.CLK_ISL_SEL i) ≠ sel ∧
      s.flag R.PWR_STAT_DVFS_BUSY = false ∧ s.srcRuns (if sel then pllOf i else 0) = true) ∧
    (∃ (i : Fin 41) (sel : Bool) (s : State), isSwitchable i = true ∧ s.flag (R.CLK_ISL_PENDING i) = true) ∧
    (∃ (i : Fin 41) (sel : Bool) (s : State), isSwitchable i = false) ∧
    (∃ (i : Fin 41) (s : State), s.flag (R.CLK_ISL_PENDING i) = true ∧ s.srcRuns (s.rd (R.CLK_ISL_CUR i)) = true ∧
      s.srcRuns (if s.flag (R.CLK_ISL_SEL i) then pllOf i else 0) = true) ∧
    (∃ (i : Fin 41) (s : State),
      (s.flag (R.CLK_ISL_PENDING i) = false ∨ s.srcRuns (s.rd (R.CLK_ISL_CUR i)) = false ∨ s.srcRuns (if s.flag (R.CLK_ISL_SEL i) then pllOf i else 0) = false)) ∧
    (∃ (i : Fin 41) (s : State), isSwitchable i = true ∧ i.val ≠ 1 ∧ i.val ≠ 12 ∧ s.flag (R.CLK_ISL_EN i) = true ∧ s.islandEnabled i = true) ∧
    (∃ (i : Fin 41) (s : State), isSwitchable i = true ∧ i.val ≠ 1 ∧ i.val ≠ 12) ∧
    (∃ (s : State), s.rd R.CLK_FCNT_STAT_STATE ≠ 1) ∧
    (∃ (s : State), s.rd R.CLK_FCNT_STAT_STATE = 1) ∧
    (∃ (a : BitVec 32) (b : BitVec 32) (s : State), s.rd R.CLK_FCNT_STAT_STATE = 1 ∧ s.clockGated (s.rd R.CLK_FCNT_CFG_TGT) = false) ∧
    (∃ (k : Nat) (s : State), s.rd R.CLK_FCNT_CFG_REF = 1) ∧
    (∃ (a : BitVec 32) (b : BitVec 32) (s : State), s.rd R.CLK_FCNT_STAT_STATE = 1) ∧
    (∃ (a : BitVec 32) (b : BitVec 32) (e : Bool) (s : State), s.rd R.CLK_FCNT_STAT_STATE ≠ 1) ∧
    (∃ (i : Fin 5) (s : State), s.vmodOn i = true) ∧
    (∃ (i : Fin 5) (s : State), s.vmodOn i = false) :=
  ⟨⟨({ (State.reset).wr R.PWR_CFG_AUTO_PLL 1 with pwr.autoOsc := true }), by decide +kernel⟩,
   ⟨true, true, State.reset, by decide +kernel⟩,
   ⟨(0 : Fin 7), ((State.reset).wr R.CLK_STATUS_RUN 0), by decide +kernel⟩,
   ⟨(0 : Fin 7), ((State.reset).wr R.CLK_STATUS_RUN 127), by decide +kernel⟩,
   ⟨({ (State.reset).wr R.CLK_STATUS_RUN 127 with td.ref := .own }), by decide +kernel⟩,
   ⟨0, { (((State.reset.wr R.CLK_STATUS_RUN 0x1F).setPort 0 { st := .up }).setPort 1 { st := .up }) with td.ref := .port 0 }, by decide +kernel⟩,
   ⟨(State.reset.wr (R.RING_CYC_STAT_ROLE 0) 1), by decide +kernel⟩,
   ⟨5, 9, (State.reset.wr (R.CLK_ISL_CUR 9) 5), by decide +kernel⟩,
   ⟨0, 0, State.reset, by decide +kernel⟩,
   ⟨(9 : Fin 41), true, (State.reset.wr R.CLK_STATUS_RUN 127), by decide +kernel⟩,
   ⟨(9 : Fin 41), true, (State.reset.wr (R.CLK_ISL_PENDING 9) 1), by decide +kernel⟩,
   ⟨(0 : Fin 41), true, State.reset, by decide +kernel⟩,
   ⟨(0 : Fin 41), ((State.reset.wr R.CLK_STATUS_RUN 127).wr (R.CLK_ISL_PENDING 0) 1), by decide +kernel⟩,
   ⟨(0 : Fin 41), State.reset, by decide +kernel⟩,
   ⟨(9 : Fin 41), (State.reset.wr (R.CLK_ISL_EN 9) 1), by decide +kernel⟩,
   ⟨(9 : Fin 41), State.reset, by decide +kernel⟩,
   ⟨((State.reset).wr R.CLK_FCNT_STAT_STATE 0), by decide +kernel⟩,
   ⟨((State.reset).wr R.CLK_FCNT_STAT_STATE (1)), by decide +kernel⟩,
   ⟨0, 0, ((State.reset).wr R.CLK_FCNT_STAT_STATE (1)), by decide +kernel⟩,
   ⟨0, ((State.reset).wr R.CLK_FCNT_CFG_REF (1)), by decide +kernel⟩,
   ⟨0, 0, ((State.reset).wr R.CLK_FCNT_STAT_STATE (1)), by decide +kernel⟩,
   ⟨0, 0, true, ((State.reset).wr R.CLK_FCNT_STAT_STATE 0), by decide +kernel⟩,
   ⟨(0 : Fin 5), { State.reset.wr (R.RING_PORT_CFG_EN 0) 1 with pwr.path := .good }, by decide +kernel⟩,
   ⟨(0 : Fin 5), State.reset, by decide +kernel⟩⟩

theorem witness_StepRunsFront :
    ∃ (s : State), s.pending = [] :=
  ⟨State.reset, by decide +kernel⟩

theorem witness_PairsApart :
    (∃ (p : Nat) (q : Nat) (r : Nat) (s : State), q ≠ p) ∧
    (∃ (p : Nat) (k : Nat) (s : State), ((∀ t, (k, t) ∈ s.flights → t.pair ≠ p))) ∧
    (∃ (t : Nat) (i : Nat) (s : State), i < 32) ∧
    (∃ (t : Nat) (q : Nat) (s : State), q / 32 ≠ t) :=
  ⟨⟨0, 1, 0, State.reset, by decide +kernel⟩,
   ⟨0, 0, State.reset, fun t h => absurd h List.not_mem_nil⟩,
   ⟨0, 0, State.reset, by decide +kernel⟩,
   ⟨0, 32, State.reset, by decide +kernel⟩⟩

theorem witness_QueueEnable :
    (∃ (p : Fin 512) (s : State), (s.pair p).st = .idle ∧ s.slotOn (p.val / 32) = true ∧ s.flag (R.HIF_SUM_ADDR_EN (p.val / 32)) = true ∧
      s.mayRun (p.val / 32) = true) ∧
    (∃ (p : Fin 512) (s : State), (s.pair p).st = .idle ∧
      (s.slotOn (p.val / 32) = false ∨ s.flag (R.HIF_SUM_ADDR_EN (p.val / 32)) = false ∨ s.mayRun (p.val / 32) = false)) ∧
    (∃ (p : Fin 512) (s : State), (s.pair p).st = .run) ∧
    (∃ (p : Fin 512) (s : State), (s.pair p).st = .stopped) :=
  ⟨⟨(0 : Fin 512),
     ((((State.reset).setPair (0 : Fin 512) { st := .idle }).wr (R.HIF_TEN_EN ((0 : Fin 512).val / 32)) 1).wr (R.HIF_SUM_ADDR_EN ((0 : Fin 512).val / 32)) 1),
     by decide +kernel⟩,
   ⟨(0 : Fin 512), ((State.reset).setPair (0 : Fin 512) { st := .idle }), by decide +kernel⟩,
   ⟨(0 : Fin 512), ((State.reset).setPair (0 : Fin 512) { st := .run }), by decide +kernel⟩,
   ⟨(0 : Fin 512), ((State.reset).setPair (0 : Fin 512) { st := .stopped }), by decide +kernel⟩⟩

end Sys2Proof.Tests
end

section
/-!
PROOFS. Host queues: what a stop and a reset of a pair leave of the other pairs, their tags and their slots (R93), and what a write of Q_CTRL.EN
does (R77).
-/

namespace Sys2Proof.Machine

/-! ### Frames that the hub sends leave the host queues -/

@[simp] theorem State.toTransit_hif (s : State) (i o : Nat) (f : Frame) : (s.toTransit i o f).hif = s.hif := by
  simp only [State.toTransit, apply_ite State.hif, State.setPort_hif, ite_self]

@[simp] theorem State.admitFrame_hif (s : State) (i o c : Nat) (f : Frame) : (s.admitFrame i o c f).hif = s.hif := by
  simp only [State.admitFrame, apply_ite State.hif, State.inc_hif, State.wr_hif, ite_self]

@[simp] theorem State.submit_hif (s : State) (i o : Nat) (f : Frame) : (s.submit i o f).hif = s.hif := by
  simp only [State.submit, apply_ite State.hif, State.toTransit_hif, State.admitFrame_hif, State.inc_hif, ite_self]

@[simp] theorem State.sendTo_hif (s : State) (inp node : Nat) (f : Frame) : (s.sendTo inp node f).hif = s.hif := by
  unfold State.sendTo; split
  · exact State.submit_hif _ _ _ _
  · rfl

/-! ### Signals reach the pending MSI-X vectors alone -/

/-- Of the host queues a vector that is raised touches the pending MSI-X vectors alone (R83). -/
theorem State.raiseVector_hif (s : State) (t vec : Nat) : ∃ l, (s.raiseVector t vec).hif = { s.hif with msixPend := l } := by
  unfold State.raiseVector; dsimp only; split
  · exact ⟨_, State.emit_hif _ _⟩
  · split
    · exact ⟨_, rfl⟩
    · exact ⟨_, rfl⟩

theorem State.signal_hif (s : State) (t vec : Nat) (err : Bool) : ∃ l, (s.signal t vec err).hif = { s.hif with msixPend := l } := by
  unfold State.signal; split
  · exact ⟨_, State.sendTo_hif _ _ _ _⟩
  · exact s.raiseVector_hif t vec

theorem State.signalErr_hif (s : State) (t : Nat) : ∃ l, (s.signalErr t).hif = { s.hif with msixPend := l } := by
  unfold State.signalErr; split
  · exact s.signal_hif t _ true
  · exact ⟨_, rfl⟩

@[simp] theorem State.signalErr_pair (s : State) (t q : Nat) : (s.signalErr t).pair q = s.pair q := by
  obtain ⟨l, h⟩ := s.signalErr_hif t; simp only [State.pair, h]

@[simp] theorem State.signalErr_tag (s : State) (t k : Nat) : (s.signalErr t).tag k = s.tag k := by
  obtain ⟨l, h⟩ := s.signalErr_hif t; simp only [State.tag, h]

@[simp] theorem State.signalErr_slot (s : State) (t u : Nat) : (s.signalErr t).slot u = s.slot u := by
  obtain ⟨l, h⟩ := s.signalErr_hif t; simp only [State.slot, h]

/-! ### Pairs, tags and slots are held apart -/

@[simp] theorem State.setPair_tag (s : State) (p : Nat) (x : Pair) (k : Nat) : (s.setPair p x).tag k = s.tag k := (rfl)
@[simp] theorem State.setPair_slot (s : State) (p : Nat) (x : Pair) (t : Nat) : (s.setPair p x).slot t = s.slot t := (rfl)
@[simp] theorem State.setTag_pair (s : State) (k : Nat) (x : Tag) (p : Nat) : (s.setTag k x).pair p = s.pair p := (rfl)
@[simp] theorem State.setTag_slot (s : State) (k : Nat) (x : Tag) (t : Nat) : (s.setTag k x).slot t = s.slot t := (rfl)

/-! ### A stop (R91) -/

theorem State.stop_pair_ne (s : State) (p r : Nat) {q : Nat} (h : q ≠ p) : (s.stop p r).pair q = s.pair q := by
  unfold State.stop State.stopFor; split
  · rw [State.signalErr_pair, State.setPair_pair_ne _ _ _ h]
  · rfl

@[simp] theorem State.stop_tag (s : State) (p r k : Nat) : (s.stop p r).tag k = s.tag k := by
  unfold State.stop State.stopFor; split
  · rw [State.signalErr_tag, State.setPair_tag]
  · rfl

@[simp] theorem State.stop_slot (s : State) (p r t : Nat) : (s.stop p r).slot t = s.slot t := by
  unfold State.stop State.stopFor; split
  · rw [State.signalErr_slot, State.setPair_slot]
  · rfl

/-! ### Transactions that are detached (R90, R94) -/

/-- A retirement writes the tag that it retires, or nothing. -/
theorem State.retire_cases (s : State) (k : Nat) (abn : Bool) : s.retire k abn = s ∨ ∃ x, s.retire k abn = s.setTag k x := by
  unfold State.retire; split
  · exact .inr ⟨_, rfl⟩
  · exact .inl rfl

/-- To detach a transaction counts it in Q_DROP, and writes its own tag or nothing. -/
theorem State.detach_cases (s : State) (k : Nat) (t : Tx) (abn : Bool) :
    ∃ f, s.detach k t abn = s.inc f ∨ ∃ x, s.detach k t abn = (s.inc f).setTag k x := by
  refine ⟨R.Q_DROP_COUNT (t.pair / 32) (t.pair % 32), ?_⟩
  unfold State.detach; dsimp only; split
  · exact State.retire_cases _ _ _
  · split
    · exact State.retire_cases _ _ _
    · split
      · exact State.retire_cases _ _ _
      · exact .inr ⟨_, rfl⟩

@[simp] theorem State.detach_pair (s : State) (k : Nat) (t : Tx) (abn : Bool) (q : Nat) : (s.detach k t abn).pair q = s.pair q := by
  obtain ⟨f, h | ⟨x, h⟩⟩ := s.detach_cases k t abn <;> rw [h] <;> rfl

@[simp] theorem State.detach_slot (s : State) (k : Nat) (t : Tx) (abn : Bool) (u : Nat) : (s.detach k t abn).slot u = s.slot u := by
  obtain ⟨f, h | ⟨x, h⟩⟩ := s.detach_cases k t abn <;> rw [h] <;> rfl

theorem State.detach_tag_ne (s : State) {k j : Nat} (t : Tx) (abn : Bool) (h : j ≠ k) : (s.detach k t abn).tag j = s.tag j := by
  obtain ⟨f, e | ⟨x, e⟩⟩ := s.detach_cases k t abn
  · rw [e]; rfl
  · rw [e, State.setTag_tag_ne _ _ _ h]; rfl

@[simp] theorem State.detachAll_pair (s : State) (p : Nat) (abn : Bool) (q : Nat) : (s.detachAll p abn).pair q = s.pair q := by
  unfold State.detachAll
  refine Quiet.foldl (g := fun u => u.pair q) _ ?_ _ s
  rintro u ⟨k, x⟩
  exact u.detach_pair k x abn q

@[simp] theorem State.detachAll_slot (s : State) (p : Nat) (abn : Bool) (t : Nat) : (s.detachAll p abn).slot t = s.slot t := by
  unfold State.detachAll
  refine Quiet.foldl (g := fun u => u.slot t) _ ?_ _ s
  rintro u ⟨k, x⟩
  exact u.detach_slot k x abn t

/-- A tag that no transaction of the pair holds is left: each transaction that is detached is one of the pair's, and writes its own tag alone. -/
theorem State.detachAll_tag (s : State) {p k : Nat} (abn : Bool) (h : ∀ t, (k, t) ∈ s.flights → t.pair ≠ p) :
    (s.detachAll p abn).tag k = s.tag k := by
  unfold State.detachAll
  refine List.foldlRecOn (motive := fun u : State => u.tag k = s.tag k) _ _ rfl fun u ih x hx => ?_
  obtain ⟨j, t⟩ := x
  obtain ⟨hin, hp⟩ := List.mem_filter.mp hx
  have hkj : k ≠ j := by
    rintro rfl
    exact h t hin (of_decide_eq_true hp).1
  exact (u.detach_tag_ne t abn hkj).trans ih

/-! ### A reset (R90) -/

@[simp] theorem State.endSub_hif (s : State) (u : Sub) : (s.endSub u.num).hif = s.hif := (rfl)

@[simp] theorem State.endPairSubs_hif (s : State) (p : Nat) : (s.endPairSubs p).hif = s.hif :=
  Quiet.foldl (g := State.hif) _ State.endSub_hif _ s

@[simp] theorem State.endPairSubs_pair (s : State) (p q : Nat) : (s.endPairSubs p).pair q = s.pair q := by
  simp only [State.pair, State.endPairSubs_hif]

@[simp] theorem State.endPairSubs_tag (s : State) (p k : Nat) : (s.endPairSubs p).tag k = s.tag k := by
  simp only [State.tag, State.endPairSubs_hif]

@[simp] theorem State.endPairSubs_slot (s : State) (p t : Nat) : (s.endPairSubs p).slot t = s.slot t := by
  simp only [State.slot, State.endPairSubs_hif]

@[simp] theorem State.resetPair_pair_same (s : State) (p : Nat) : (s.resetPair p).pair p = {} := State.setPair_pair _ _ _

theorem State.resetPair_pair_ne (s : State) {p q : Nat} (h : q ≠ p) : (s.resetPair p).pair q = s.pair q := calc
  (s.resetPair p).pair q = ((s.detachAll p false).endPairSubs p).pair q := State.setPair_pair_ne _ _ _ h
  _ = s.pair q := by rw [State.endPairSubs_pair, State.detachAll_pair]

@[simp] theorem State.resetPair_slot (s : State) (p t : Nat) : (s.resetPair p).slot t = s.slot t := calc
  (s.resetPair p).slot t = ((s.detachAll p false).endPairSubs p).slot t := rfl
  _ = s.slot t := by rw [State.endPairSubs_slot, State.detachAll_slot]

theorem State.resetPair_tag (s : State) {p k : Nat} (h : ∀ t, (k, t) ∈ s.flights → t.pair ≠ p) : (s.resetPair p).tag k = s.tag k := calc
  (s.resetPair p).tag k = ((s.detachAll p false).endPairSubs p).tag k := rfl
  _ = s.tag k := by rw [State.endPairSubs_tag, s.detachAll_tag false h]

/-- The reset of the first `n` pairs of a slot empties those, and leaves every other pair. -/
theorem State.resetPairs_pair (s : State) (t n q : Nat) :
    ((List.range n).foldl (fun s i => s.resetPair (32 * t + i)) s).pair q = if 32 * t ≤ q ∧ q < 32 * t + n then {} else s.pair q := by
  induction n with
  | zero => rw [if_neg (by omega)]; rfl
  | succ n ih =>
    rw [List.range_succ, List.foldl_append, List.foldl_cons, List.foldl_nil]
    by_cases hq : q = 32 * t + n
    · subst hq; rw [State.resetPair_pair_same, if_pos (by omega)]
    · rw [State.resetPair_pair_ne _ hq, ih]
      congr 1
      exact propext (by omega)

/-- A slot-wide reset empties the pairs of its slot, and leaves every other pair. -/
theorem State.resetSlot_pair (s : State) (t q : Nat) : (s.resetSlot t).pair q = if q / 32 = t then {} else s.pair q := by
  rw [State.resetSlot, State.resetPairs_pair]
  congr 1
  exact propext (by omega)

/-- Settles O4: a stop writes the pair and the error signal's vectors, a reset the pair, its own tags and its subscriptions, and the reset of a
slot is that of its 32 pairs. -/
theorem pairsApart : Obligations.PairsApart := by
  refine ⟨fun p q r s h => ⟨s.stop_pair_ne p r h, s.resetPair_pair_ne h, s.detachAll_pair p true q⟩, fun p r k s => s.stop_tag p r k,
    fun p k s h => ⟨s.resetPair_tag h, s.detachAll_tag true h⟩,
    fun p r t s => ⟨s.stop_slot p r t, s.resetPair_slot p t, s.detachAll_slot p true t⟩, fun t i s hi => ?_, fun t q s hq => ?_⟩
  · rw [State.resetSlot_pair, if_pos (by omega)]
  · rw [State.resetSlot_pair, if_neg hq]

/-! ### Q_CTRL.EN (R77) -/

theorem exec_qEnable (p : Fin 512) (s : State) : exec (.qEnable p) s = .next (s.qEnable p) := (rfl)

/-- EN written 0 outside RUN is ignored. -/
theorem exec_qReset_ignored (p : Fin 512) (s : State) (h : (s.pair p).st ≠ .run) : exec (.qReset p true) s = .next s := if_pos ⟨rfl, h⟩

/-- EN written 0 in RUN resets the pair, as Q_CTRL.RESET does. -/
theorem exec_qReset_run (p : Fin 512) (enZero : Bool) (s : State) (h : (s.pair p).st = .run) :
    exec (.qReset p enZero) s = .next (s.resetPair p).settle := if_neg fun c => c.2 h

/-- The slot of pair `p` lets an IDLE pair run: it is enabled and polled, and R425 and R427 allow it. -/
def State.letsRun (s : State) (p : Nat) : Prop :=
  s.slotOn (p / 32) = true ∧ s.flag (R.HIF_SUM_ADDR_EN (p / 32)) = true ∧ s.mayRun (p / 32) = true

theorem State.qEnable_run {s : State} {p : Nat} (h : (s.pair p).st = .idle) (hs : s.letsRun p) : s.qEnable p = s.setPair p { st := .run } :=
  if_pos ⟨h, hs⟩

theorem State.qEnable_not_idle {s : State} {p : Nat} (h : (s.pair p).st ≠ .idle) : s.qEnable p = s := if_neg fun c => h c.1

theorem State.qEnable_held {s : State} {p : Nat} (h : ¬ s.letsRun p) : s.qEnable p = s := if_neg fun c => h c.2

/-- Settles O5, by the state of the pair and by whether its slot lets it run. -/
theorem queueEnable : Obligations.QueueEnable := by
  refine ⟨fun p s hi hon hsum hmay => ⟨s.qEnable p, exec_qEnable p s, ?_⟩, fun p s hi hoff => ⟨s.qEnable p, exec_qEnable p s, ?_⟩,
    fun p s hr => ⟨exec_qReset_run p true s hr, ?_⟩, fun p s hst => ⟨?_, ?_⟩⟩
  · rw [State.qEnable_run hi ⟨hon, hsum, hmay⟩]
    exact ⟨by rw [State.setPair_pair], fun q hq => State.setPair_pair_ne _ _ _ hq⟩
  · have hs : ¬ s.letsRun p := by
      rintro ⟨hon, hsum, hmay⟩
      simp [hon, hsum, hmay] at hoff
    rw [State.qEnable_held hs]
    exact hi
  · rw [exec_qReset_run p false s hr, exec_qReset_run p true s hr]
  · rw [exec_qEnable, State.qEnable_not_idle (by simp [hst])]
  · exact exec_qReset_ignored p s (by simp [hst])

end Sys2Proof.Machine
end

section
/-!
PROOFS. Every step answers a next state, takes the front of the queue and nothing else, and never lets a counter of old versions fall (R452).
-/

namespace Sys2Proof.Machine

/-- Command `c` in state `s` completes, and does to the kept part no more than a step may. -/
def Keeps (c : Instr) (s : State) : Prop := ∃ z, exec c s = .next z ∧ s.kept.Mono z.kept

/-- A command that leaves the kept part as it is keeps it. -/
theorem Keeps.of_eq {c : Instr} {s : State} (h : ∃ z, exec c s = .next z ∧ z.kept = s.kept) : Keeps c s :=
  h.imp fun _ hz => ⟨hz.1, .of_eq hz.2⟩

/-- Every command keeps the kept part: BOOT and FEEDS_LOST alone write it, the one to raise the counters, the other to lose the vault. -/
theorem exec_keeps (c : Instr) (s : State) : Keeps c s :=
  match c with
  | .powerPathStart => .of_eq (execPowerPathStart_kept s)
  | .seatingConfirmed => .of_eq (execSeatingConfirmed_kept s)
  | .railsGood => .of_eq (execRailsGood_kept s)
  | .boot o => execBoot_kept o s
  | .bootReset e => .of_eq (execBootReset_kept e s)
  | .bootRecover e => .of_eq (execBootRecover_kept e s)
  | .rcvChunkGo len last err => .of_eq (execRcvChunkGo_kept len last err s)
  | .rcvServeStart ix fw => .of_eq (execRcvServeStart_kept ix fw s)
  | .rcvTransferDone ix ok peer image => .of_eq (execRcvTransferDone_kept ix ok peer image s)
  | .commit => .of_eq (execCommit_kept s)
  | .registerWrite q off wide v => .of_eq (execRegisterWrite_kept q off wide v s)
  | .pcieReset down => .of_eq (execPcieReset_kept down s)
  | .functionLevelReset t => .of_eq (execFunctionLevelReset_kept t s)
  | .summaryEnable t addr => .of_eq (execSummaryEnable_kept t addr s)
  | .slotDisable t => .of_eq (execSlotDisable_kept t s)
  | .regionDisable t => .of_eq (execRegionDisable_kept t s)
  | .qEnable p => .of_eq (execQEnable_kept p s)
  | .qReset p enZero => .of_eq (execQReset_kept p enZero s)
  | .summaryPoll t => .of_eq (execSummaryPoll_kept t s)
  | .summaryReadDone t d => .of_eq (execSummaryReadDone_kept t d s)
  | .doorbellReadDone p d => .of_eq (execDoorbellReadDone_kept p d s)
  | .descriptorArrival p d buf => .of_eq (execDescriptorArrival_kept p d buf s)
  | .coalesceTimer p => .of_eq (execCoalesceTimer_kept p s)
  | .quarantineEnd k => .of_eq (execQuarantineEnd_kept k s)
  | .transactionTimeout k => .of_eq (execTransactionTimeout_kept k s)
  | .rspReceive x => .of_eq (execRspReceive_kept x s)
  | .pathLoss k g => .of_eq (execPathLoss_kept k g s)
  | .queueManagerError e => .of_eq (execQueueManagerError_kept e s)
  | .pcieLinkLoss lost => .of_eq (execPcieLinkLoss_kept lost s)
  | .reqReceive f => .of_eq (execReqReceive_kept f s)
  | .read r d => .of_eq (execRead_kept r d s)
  | .write r => .of_eq (execWrite_kept r s)
  | .rmwSwap r => .of_eq (execRmwSwap_kept r s)
  | .rmwCas r => .of_eq (execRmwCas_kept r s)
  | .rmwAdd r => .of_eq (execRmwAdd_kept r s)
  | .rmwAnd r => .of_eq (execRmwAnd_kept r s)
  | .rmwOr r => .of_eq (execRmwOr_kept r s)
  | .rmwXor r => .of_eq (execRmwXor_kept r s)
  | .rmwMasked r => .of_eq (execRmwMasked_kept r s)
  | .lock r => .of_eq (execLock_kept r s)
  | .unlock r => .of_eq (execUnlock_kept r s)
  | .send r => .of_eq (execSend_kept r s)
  | .recv r => .of_eq (execRecv_kept r s)
  | .subscribeCyclic r => .of_eq (execSubscribeCyclic_kept r s)
  | .subscribeOnChange r => .of_eq (execSubscribeOnChange_kept r s)
  | .unsubscribe r => .of_eq (execUnsubscribe_kept r s)
  | .tableLoad r => .of_eq (execTableLoad_kept r s)
  | .tableLoadActivate r => .of_eq (execTableLoadActivate_kept r s)
  | .fenceSq r => .of_eq (execFenceSq_kept r s)
  | .fenceSlot r => .of_eq (execFenceSlot_kept r s)
  | .fenceDone k => .of_eq (execFenceDone_kept k s)
  | .queryTime r => .of_eq (execQueryTime_kept r s)
  | .queryTopology r => .of_eq (execQueryTopology_kept r s)
  | .queryIdentity r => .of_eq (execQueryIdentity_kept r s)
  | .queryTags r => .of_eq (execQueryTags_kept r s)
  | .powerRun r => .of_eq (execPowerRun_kept r s)
  | .powerTrim r => .of_eq (execPowerTrim_kept r s)
  | .powerDoze r => .of_eq (execPowerDoze_kept r s)
  | .powerDormant r => .of_eq (execPowerDormant_kept r s)
  | .updateFirmware r e err => .of_eq (execUpdateFirmware_kept r e err s)
  | .updateBundle r e err => .of_eq (execUpdateBundle_kept r e err s)
  | .timedOpDue r => .of_eq (execTimedOpDue_kept r s)
  | .stationAssignment ix f => .of_eq (execStationAssignment_kept ix f s)
  | .frameForward ix f seqRead => .of_eq (execFrameForward_kept ix f seqRead s)
  | .junctionRoute ix f seqRead => .of_eq (execJunctionRoute_kept ix f seqRead s)
  | .ackReceive ix q => .of_eq (execAckReceive_kept ix q s)
  | .nakReceive ix q => .of_eq (execNakReceive_kept ix q s)
  | .ackTimer ix => .of_eq (execAckTimer_kept ix s)
  | .replayTimerExpiry ix => .of_eq (execReplayTimerExpiry_kept ix s)
  | .silentTimeout ix => .of_eq (execSilentTimeout_kept ix s)
  | .signalLoss ix => .of_eq (execSignalLoss_kept ix s)
  | .linkRestartTimer ix => .of_eq (execLinkRestartTimer_kept ix s)
  | .linkRetryTimer ix => .of_eq (execLinkRetryTimer_kept ix s)
  | .bringupTimeout ix => .of_eq (execBringupTimeout_kept ix s)
  | .signalLocked ix => .of_eq (execSignalLocked_kept ix s)
  | .trainBlockLockHeld ix => .of_eq (execTrainBlockLockHeld_kept ix s)
  | .readySetReceive ix => .of_eq (execReadySetReceive_kept ix s)
  | .probeReceive ix => .of_eq (execProbeReceive_kept ix s)
  | .echoReceive ix t => .of_eq (execEchoReceive_kept ix t s)
  | .probeRetry ix => .of_eq (execProbeRetry_kept ix s)
  | .linkStateReceive ix f => .of_eq (execLinkStateReceive_kept ix f s)
  | .uplinkFrameReceive j fcsOk b => .of_eq (execUplinkFrameReceive_kept j fcsOk b s)
  | .uplinkLockLoss ix => .of_eq (execUplinkLockLoss_kept ix s)
  | .joinTimerExpiry n => .of_eq (execJoinTimerExpiry_kept n s)
  | .announceReceive ix f => .of_eq (execAnnounceReceive_kept ix f s)
  | .announceTimer n => .of_eq (execAnnounceTimer_kept n s)
  | .stationAgeOut n st => .of_eq (execStationAgeOut_kept n st s)
  | .masterClaimTimer n => .of_eq (execMasterClaimTimer_kept n s)
  | .cycleStart n k => .of_eq (execCycleStart_kept n k s)
  | .sweepSliceReceive ix f => .of_eq (execSweepSliceReceive_kept ix f s)
  | .captureInstant n k m cj => .of_eq (execCaptureInstant_kept n k m cj s)
  | .exchangeClose n k => .of_eq (execExchangeClose_kept n k s)
  | .remoteFetchDeadline => .of_eq (execRemoteFetchDeadline_kept s)
  | .reflexOverrun => .of_eq (execReflexOverrun_kept s)
  | .outputFreeze => .of_eq (execOutputFreeze_kept s)
  | .outputDeadline => .of_eq (execOutputDeadline_kept s)
  | .syncSend n => .of_eq (execSyncSend_kept n s)
  | .syncReceive ix f res => .of_eq (execSyncReceive_kept ix f res s)
  | .syncPathTimeout n dir => .of_eq (execSyncPathTimeout_kept n dir s)
  | .holdoverExpiry d => .of_eq (execHoldoverExpiry_kept d s)
  | .pdelayTimer ix => .of_eq (execPdelayTimer_kept ix s)
  | .pdelayReqReceive ix f => .of_eq (execPdelayReqReceive_kept ix f s)
  | .pdelayRespReceive ix f => .of_eq (execPdelayRespReceive_kept ix f s)
  | .ptpSyncReceive j t => .of_eq (execPtpSyncReceive_kept j t s)
  | .ptpSyncTimeout j => .of_eq (execPtpSyncTimeout_kept j s)
  | .ptpGrandmasterSend j announce => .of_eq (execPtpGrandmasterSend_kept j announce s)
  | .ppsEdge rising => .of_eq (execPpsEdge_kept rising s)
  | .ppsTimeout => .of_eq (execPpsTimeout_kept s)
  | .domainSample d => .of_eq (execDomainSample_kept d s)
  | .tdCmdSet d => .of_eq (execTdCmdSet_kept d s)
  | .tdCmdStep d => .of_eq (execTdCmdStep_kept d s)
  | .tdCmdSlew d => .of_eq (execTdCmdSlew_kept d s)
  | .slewDone d => .of_eq (execSlewDone_kept d s)
  | .tdSnapLatch => .of_eq (execTdSnapLatch_kept s)
  | .ppsOutPulse => .of_eq (execPpsOutPulse_kept s)
  | .ppsOutEnd => .of_eq (execPpsOutEnd_kept s)
  | .scheduledEdgeDue p x => .of_eq (execScheduledEdgeDue_kept p x s)
  | .pinEdge p x e => .of_eq (execPinEdge_kept p x e s)
  | .chatterEnd p x level => .of_eq (execChatterEnd_kept p x level s)
  | .stuckTimeout p x => .of_eq (execStuckTimeout_kept p x s)
  | .doCurrentLimitLatch p x hot => .of_eq (execDoCurrentLimitLatch_kept p x hot s)
  | .doRetry p x => .of_eq (execDoRetry_kept p x s)
  | .driverOverheat p d => .of_eq (execDriverOverheat_kept p d s)
  | .driverCooled p d => .of_eq (execDriverCooled_kept p d s)
  | .fpBreakerTrip p => .of_eq (execFpBreakerTrip_kept p s)
  | .fpTripClear p => .of_eq (execFpTripClear_kept p s)
  | .fieldConditionDetect p x short on => .of_eq (execFieldConditionDetect_kept p x short on s)
  | .fieldPowerLoss => .of_eq (execFieldPowerLoss_kept s)
  | .fieldPowerReturn => .of_eq (execFieldPowerReturn_kept s)
  | .derateStep => .of_eq (execDerateStep_kept s)
  | .restoreStep => .of_eq (execRestoreStep_kept s)
  | .tjMaxReached => .of_eq (execTjMaxReached_kept s)
  | .aiConditionDetect c short on => .of_eq (execAiConditionDetect_kept c short on s)
  | .i20ShuntReclose c => .of_eq (execI20ShuntReclose_kept c s)
  | .bgCalVisit c g o => .of_eq (execBgCalVisit_kept c g o s)
  | .scalZero c => .of_eq (execScalZero_kept c s)
  | .scalSpan c => .of_eq (execScalSpan_kept c s)
  | .scalDone codes => .of_eq (execScalDone_kept codes s)
  | .aoShortLatch p => .of_eq (execAoShortLatch_kept p s)
  | .aoRetry p => .of_eq (execAoRetry_kept p s)
  | .aoOpenDetect p on => .of_eq (execAoOpenDetect_kept p on s)
  | .canFrameReceive ix item ok tec rec => .of_eq (execCanFrameReceive_kept ix item ok tec rec s)
  | .speFrameReceive ix b fcsOk => .of_eq (execSpeFrameReceive_kept ix b fcsOk s)
  | .uartBlockEnd ix item => .of_eq (execUartBlockEnd_kept ix item s)
  | .modbusResponse ix x => .of_eq (execModbusResponse_kept ix x s)
  | .modbusRspTimeout ix => .of_eq (execModbusRspTimeout_kept ix s)
  | .iolPdReceive p valid data => .of_eq (execIolPdReceive_kept p valid data s)
  | .iolEventReceive p data => .of_eq (execIolEventReceive_kept p data s)
  | .rawSendDone k ix ok => .of_eq (execRawSendDone_kept k ix ok s)
  | .autoRateStep k ix => .of_eq (execAutoRateStep_kept k ix s)
  | .iolWakeup p com => .of_eq (execIolWakeup_kept p com s)
  | .iolPowerRetry p => .of_eq (execIolPowerRetry_kept p s)
  | .canBusOff ix => .of_eq (execCanBusOff_kept ix s)
  | .canAutoRecover ix => .of_eq (execCanAutoRecover_kept ix s)
  | .canRecover ix => .of_eq (execCanRecover_kept ix s)
  | .iolRestart p => .of_eq (execIolRestart_kept p s)
  | .controllerError k ix uncorrectable => .of_eq (execControllerError_kept k ix uncorrectable s)
  | .bridgeServe p => .of_eq (execBridgeServe_kept p s)
  | .cacheFlush => .of_eq (execCacheFlush_kept s)
  | .lockWindowClose p => .of_eq (execLockWindowClose_kept p s)
  | .lockGrant p => .of_eq (execLockGrant_kept p s)
  | .lockExpiry p => .of_eq (execLockExpiry_kept p s)
  | .lockRelease p src tn id => .of_eq (execLockRelease_kept p src tn id s)
  | .tunReceive ix f => .of_eq (execTunReceive_kept ix f s)
  | .tunReplayDue t => .of_eq (execTunReplayDue_kept t s)
  | .bridgeQueueError e => .of_eq (execBridgeQueueError_kept e s)
  | .heldFrameAdmit ix o c => .of_eq (execHeldFrameAdmit_kept ix o c s)
  | .bankRetire b hit => .of_eq (execBankRetire_kept b hit s)
  | .drainComplete => .of_eq (execDrainComplete_kept s)
  | .bufferAudit lost cross => .of_eq (execBufferAudit_kept lost cross s)
  | .schedulerError at_ => .of_eq (execSchedulerError_kept at_ s)
  | .tableSyncDone r => .of_eq (execTableSyncDone_kept r s)
  | .reflexMemoryError e => .of_eq (execReflexMemoryError_kept e s)
  | .briarJmp e c lv => .of_eq (execBriarJmp_kept e c lv s)
  | .briarWait e c lv => .of_eq (execBriarWait_kept e c lv s)
  | .briarIn e c lv => .of_eq (execBriarIn_kept e c lv s)
  | .briarOut e c => .of_eq (execBriarOut_kept e c s)
  | .briarPush e c => .of_eq (execBriarPush_kept e c s)
  | .briarPull e c => .of_eq (execBriarPull_kept e c s)
  | .briarMov e c lv => .of_eq (execBriarMov_kept e c lv s)
  | .briarSet e c => .of_eq (execBriarSet_kept e c s)
  | .briarIrq e c => .of_eq (execBriarIrq_kept e c s)
  | .briarTimewait e c => .of_eq (execBriarTimewait_kept e c s)
  | .briarCnt e c => .of_eq (execBriarCnt_kept e c s)
  | .briarNop e c => .of_eq (execBriarNop_kept e c s)
  | .channelStallResume e c lv => .of_eq (execChannelStallResume_kept e c lv s)
  | .swapDeadline e c => .of_eq (execSwapDeadline_kept e c s)
  | .fifoEccError e c err => .of_eq (execFifoEccError_kept e c err s)
  | .engStop e mask => .of_eq (execEngStop_kept e mask s)
  | .engRestart e mask => .of_eq (execEngRestart_kept e mask s)
  | .engStartTWrite e t => .of_eq (execEngStartTWrite_kept e t s)
  | .channelTimedStart e => .of_eq (execChannelTimedStart_kept e s)
  | .twinForm equal peerActive => .of_eq (execTwinForm_kept equal peerActive s)
  | .formTimeout => .of_eq (execFormTimeout_kept s)
  | .peerAnnounceAbsence => .of_eq (execPeerAnnounceAbsence_kept s)
  | .deltaReceive d => .of_eq (execDeltaReceive_kept d s)
  | .deltaWindowExpiry => .of_eq (execDeltaWindowExpiry_kept s)
  | .resync => .of_eq (execResync_kept s)
  | .switchover => .of_eq (execSwitchover_kept s)
  | .takeover c => .of_eq (execTakeover_kept c s)
  | .testPulse peer => .of_eq (execTestPulse_kept peer s)
  | .testPulseEnd pass => .of_eq (execTestPulseEnd_kept pass s)
  | .relinquishConfirm => .of_eq (execRelinquishConfirm_kept s)
  | .relinquishTimeout => .of_eq (execRelinquishTimeout_kept s)
  | .hello ix fs => .of_eq (execHello_kept ix fs s)
  | .reply ix fs => .of_eq (execReply_kept ix fs s)
  | .cert ix fs => .of_eq (execCert_kept ix fs s)
  | .proof ix fs => .of_eq (execProof_kept ix fs s)
  | .finish ix fs => .of_eq (execFinish_kept ix fs s)
  | .rekey ix fs => .of_eq (execRekey_kept ix fs s)
  | .rekeyReply ix fs => .of_eq (execRekeyReply_kept ix fs s)
  | .rekeyFinish ix fs => .of_eq (execRekeyFinish_kept ix fs s)
  | .rekeyReq ix fs => .of_eq (execRekeyReq_kept ix fs s)
  | .reject ix fs => .of_eq (execReject_kept ix fs s)
  | .authStepTimeout ix => .of_eq (execAuthStepTimeout_kept ix s)
  | .rekeyTimer ix => .of_eq (execRekeyTimer_kept ix s)
  | .rekeyStepTimeout ix => .of_eq (execRekeyStepTimeout_kept ix s)
  | .spdmRequest t b e => .of_eq (execSpdmRequest_kept t b e s)
  | .spdmSessionEnd t => .of_eq (execSpdmSessionEnd_kept t s)
  | .getChallenge => .of_eq (execGetChallenge_kept s)
  | .submitToken len => .of_eq (execSubmitToken_kept len s)
  | .getCert len => .of_eq (execGetCert_kept len s)
  | .attest len => .of_eq (execAttest_kept len s)
  | .random len => .of_eq (execRandom_kept len s)
  | .dbgRead len => .of_eq (execDbgRead_kept len s)
  | .dbgWrite len => .of_eq (execDbgWrite_kept len s)
  | .challengeExpiry => .of_eq (execChallengeExpiry_kept s)
  | .tamperDetect src => .of_eq (execTamperDetect_kept src s)
  | .drbgHealthFail => .of_eq (execDrbgHealthFail_kept s)
  | .drbgRetest pass => .of_eq (execDrbgRetest_kept pass s)
  | .drbgReseed => .of_eq (execDrbgReseed_kept s)
  | .faultOccurrence b c detail => .of_eq (execFaultOccurrence_kept b c detail s)
  | .faultClear b => .of_eq (execFaultClear_kept b s)
  | .collectorSelfFault => .of_eq (execCollectorSelfFault_kept s)
  | .safeEnter => .of_eq (execSafeEnter_kept s)
  | .safeExit => .of_eq (execSafeExit_kept s)
  | .logFlush l ok => .of_eq (execLogFlush_kept l ok s)
  | .logWriteRetry ok => .of_eq (execLogWriteRetry_kept ok s)
  | .logRead l seq => .of_eq (execLogRead_kept l seq s)
  | .logCopyDone ok => .of_eq (execLogCopyDone_kept ok s)
  | .feedPresent n => .of_eq (execFeedPresent_kept n s)
  | .feedAbsent n => .of_eq (execFeedAbsent_kept n s)
  | .feedOv n => .of_eq (execFeedOv_kept n s)
  | .ovRecover n => .of_eq (execOvRecover_kept n s)
  | .boardUnseated => .of_eq (execBoardUnseated_kept s)
  | .pathTrip n cause => .of_eq (execPathTrip_kept n cause s)
  | .breakerRearm b => .of_eq (execBreakerRearm_kept b s)
  | .breakerRetry b => .of_eq (execBreakerRetry_kept b s)
  | .tripClear n => .of_eq (execTripClear_kept n s)
  | .railWarning r => .of_eq (execRailWarning_kept r s)
  | .railRegulationFail r => .of_eq (execRailRegulationFail_kept r s)
  | .railRestart => .of_eq (execRailRestart_kept s)
  | .feedsLost vbat => execFeedsLost_kept vbat s
  | .dozeEntry => .of_eq (execDozeEntry_kept s)
  | .wakeEvent src => .of_eq (execWakeEvent_kept src s)
  | .dozeExit failed banks => .of_eq (execDozeExit_kept failed banks s)
  | .retentionReloadDone b => .of_eq (execRetentionReloadDone_kept b s)
  | .pllLock a b => .of_eq (execPllLock_kept a b s)
  | .dormantEntry => .of_eq (execDormantEntry_kept s)
  | .dormantWake src => .of_eq (execDormantWake_kept src s)
  | .vltTimerAlarm => .of_eq (execVltTimerAlarm_kept s)
  | .clockFail n => .of_eq (execClockFail_kept n s)
  | .islandSwitch ix sel => .of_eq (execIslandSwitch_kept ix sel s)
  | .islandSwitchDone ix => .of_eq (execIslandSwitchDone_kept ix s)
  | .clockGateWrite g on words => .of_eq (execClockGateWrite_kept g on words s)
  | .fcntGo => .of_eq (execFcntGo_kept s)
  | .fcntDone tgt ref edges => .of_eq (execFcntDone_kept tgt ref edges s)
  | .coreError uncorrectable => .of_eq (execCoreError_kept uncorrectable s)
  | .d2dCrcFail d => .of_eq (execD2dCrcFail_kept d s)
  | .d2dRetrain d ok lost => .of_eq (execD2dRetrain_kept d ok lost s)
  | .vmodOverload ix => .of_eq (execVmodOverload_kept ix s)
  | .vmodRetry ix => .of_eq (execVmodRetry_kept ix s)
  | .msgDeliveryReceive f => .of_eq (execMsgDeliveryReceive_kept f s)
  | .msgInterruptReceive f => .of_eq (execMsgInterruptReceive_kept f s)
  | .msgMessageReceive f => .of_eq (execMsgMessageReceive_kept f s)
  | .uplinkLinkUp ix => .of_eq (execUplinkLinkUp_kept ix s)
  | .pcieLinkUp bme ide => .of_eq (execPcieLinkUp_kept bme ide s)
  | .reverseTurnOff n => .of_eq (execReverseTurnOff_kept n s)
  | .isduResponse p x => .of_eq (execIsduResponse_kept p x s)
  | .isduTimeout p => .of_eq (execIsduTimeout_kept p s)
  | .objectFrameSent k ix => .of_eq (execObjectFrameSent_kept k ix s)
  | .canBusDominant ix on => .of_eq (execCanBusDominant_kept ix on s)
  | .speLinkDown ix => .of_eq (execSpeLinkDown_kept ix s)
  | .speLinkUp ix => .of_eq (execSpeLinkUp_kept ix s)
  | .iolDeviceLost p => .of_eq (execIolDeviceLost_kept p s)
  | .ptpDelayReqTimer j => .of_eq (execPtpDelayReqTimer_kept j s)
  | .twinSafeNotice on => .of_eq (execTwinSafeNotice_kept on s)
  | .dvfsDone => .of_eq (execDvfsDone_kept s)
  | .switchCellTime => .of_eq (execSwitchCellTime_kept s)
  | .ringOutputFree ix => .of_eq (execRingOutputFree_kept ix s)
  | .latchedRegisterRead q off wide => .of_eq (execLatchedRegisterRead_kept q off wide s)

/-- Where the mirrors cover the vault's counters, the values that the hub uses are the mirrors, and a step that keeps the kept part keeps all three. -/
theorem Kept.Mono.covered {s t : State} (h : s.kept.Mono t.kept) (hs : s.covered) :
    t.covered ∧ s.fwFloor ≤ t.fwFloor ∧ s.bndFloor ≤ t.bndFloor := by
  obtain ⟨hfw, hbnd⟩ := hs
  have floors (u : State) (hu : u.covered) : u.fwFloor = u.boot.fwMirror ∧ u.bndFloor = u.boot.bndMirror := ⟨max_eq_right hu.1, max_eq_right hu.2⟩
  have ht : t.covered := ⟨h.fwCtr hfw, h.bndCtr hbnd⟩
  obtain ⟨hsf, hsb⟩ := floors s ⟨hfw, hbnd⟩
  obtain ⟨htf, htb⟩ := floors t ht
  rw [hsf, hsb, htf, htb]
  exact ⟨ht, h.fwMirror, h.bndMirror⟩

theorem step_idle {s : State} (h : s.pending = []) : step s = .next { s with now := s.now + 65536 } := by rw [step, h]

theorem step_front (c : Instr) (rest : List Instr) (s : State) :
    step { s with pending := c :: rest } = exec c { s with pending := rest } := (rfl)

/-- A step takes the front of the queue, and does to the kept part no more than a step may. -/
theorem step_keeps (s : State) : ∃ z, step s = .next z ∧ { s.kept with pending := s.pending.tail }.Mono z.kept := by
  cases hp : s.pending with
  | nil =>
    refine ⟨_, step_idle hp, .of_eq ?_⟩
    rw [kept_mk, hp]; rfl
  | cons c rest =>
    obtain ⟨z, hz, hk⟩ := exec_keeps c { s with pending := rest }
    exact ⟨z, by rw [step, hp]; exact hz, hk⟩

/-- Settles O3: a step keeps the kept part up to the queue's front, and the mirrors that cover the vault's counters are the values in use. -/
theorem countersNeverFall : Obligations.CountersNeverFall := by
  intro s
  obtain ⟨z, hz, hk⟩ := step_keeps s
  exact ⟨z, hz, hk.pending, hk.fwMirror, hk.bndMirror, hk.covered (s := { s with pending := s.pending.tail })⟩

/-- Settles O1, by the definition of a step. -/
theorem stepRunsFront : Obligations.StepRunsFront := ⟨step_front, fun _ h => step_idle h⟩

end Sys2Proof.Machine
end

section
/-!
PROOFS. Reading the register file: a flag that was written, fields of other places, a field through the operations that write whole words.
-/

namespace Sys2Proof.Machine

theorem State.flag_wr_ne (s : State) {f g : Fld} (v : Nat) (h : f.lo + f.width ≤ 32)
    (k : f.off ≠ g.off ∨ g.lo + g.width ≤ f.lo ∨ f.lo + f.width ≤ g.lo) : (s.wr f v).flag g = s.flag g := by
  rw [State.flag, State.rd_wr_ne s v h k, State.flag]

theorem State.flag_inc_ne (s : State) {f g : Fld} (n : Nat) (h : f.lo + f.width ≤ 32)
    (k : f.off ≠ g.off ∨ g.lo + g.width ≤ f.lo ∨ f.lo + f.width ≤ g.lo) : (s.inc f n).flag g = s.flag g :=
  State.flag_wr_ne s _ h k

/-- A flag that was written is set when the value's lowest bit is. -/
theorem State.flag_wr_same (s : State) (f : Fld) (v : Nat) (h : f.lo + f.width ≤ 32) : (s.wr f v).flag f = decide (v % 2 ^ f.width ≠ 0) := by
  rw [State.flag, State.rd_wr_same s f v h]

theorem State.word_setWords_ne (s : State) {off n o : Nat} (v : Nat) (h : o < off ∨ off + 4 * n ≤ o) :
    (s.setWords off n v).word o = s.word o := by
  induction n generalizing s off v with
  | zero => rfl
  | succ n ih => rw [State.setWords, ih _ _ (by omega), State.word_setWord_ne _ _ (by omega)]

theorem State.rd_setWords_ne (s : State) {off n : Nat} {f : Fld} (v : Nat) (h : f.off < off ∨ off + 4 * n ≤ f.off) :
    (s.setWords off n v).rd f = s.rd f := by rw [State.rd, State.word_setWords_ne s v h, State.rd]

theorem State.flag_setWords_ne (s : State) {off n : Nat} {f : Fld} (v : Nat) (h : f.off < off ∨ off + 4 * n ≤ f.off) :
    (s.setWords off n v).flag f = s.flag f := by rw [State.flag, State.rd_setWords_ne s v h, State.flag]

end Sys2Proof.Machine
end

section
/-!
PROOFS. The part of a state that neither the shared operations nor a fault touch, even one that enters the safe state: the local time, power (but
for the clearing events that breakers remember), security, boot, set-up latches, measurement, cycles, engines, the time unit but for its
scheduled edges, the topology record, the tables, the twin's state, whether the queue manager holds back, what the buses' controllers,
the bridge and the field ports keep besides what a release or the safe state ends,
    and the ring ports but for their transit stores and counts of frames.
-/

namespace Sys2Proof.Machine

/-- A port but for its transit store and the frames that it has discarded, lost and wrapped. -/
def Port.still (p : Port) : Port := { p with transit := [], discard := 0, lost := 0, wrapped := 0 }

/-- The part that answers, deliveries, faults and the safe state leave. -/
structure Deep where
  now : Nat
  power : PwrSt
  sec : SecSt
  boot : BootSt
  setup : SetSt
  meas : MeasSt
  cyc : CycSt
  eng : EngSt
  clocks : TimeSt
  record : RingSt
  tables : Rfx
  twin : TwinSt
  buses : PctlSt
  bridge : Brg
  field : FieldSt
  ports : Nat → Port
  fetchHold : Bool

def State.deep (s : State) : Deep := ⟨s.now, { s.pwr with brkEvt := [] }, s.sec, s.boot, s.setup, s.meas, s.cyc, s.eng, { s.td with edges := [] },
    { s.ring with ports := [] }, { s.rfx with rops := [] }, { s.twin with relinquish := false }, { s.pctl with tx := [], pdOut := [] },
        { s.brg with locks := [], queue := [], lockedOps := [], active := [], tun := [] }, { s.fld with pins := [] }, fun i => (NMap.get
            (fun _ => {}) s.ring.ports i).still, s.hif.fetchHold⟩

@[simp] theorem deep_mk (pending' : List Instr) (regs' : NMap Word) (now' : Nat) (drawn' : Nat) (emitted' : List Emit) (hif' : Hif) (tgt' : Tgt)
    (pts' : Pts) (ring' : RingSt) (sw' : Switch) (flt' : Flt) (td' : TimeSt) (brg' : Brg) (cyc' : CycSt) (fld' : FieldSt) (pctl' : PctlSt)
        (rfx' : Rfx) (meas' : MeasSt) (pwr' : PwrSt) (eng' : EngSt) (twin' : TwinSt) (sec' : SecSt) (boot' : BootSt) (setup' : SetSt) :
    (State.mk pending' regs' now' drawn' emitted' hif' tgt' pts' ring' sw' flt' td' brg' cyc' fld' pctl' rfx' meas' pwr' eng' twin' sec' boot' setup').deep = ⟨now', { pwr' with brkEvt := [] }, sec', boot', setup', meas', cyc', eng', { td' with edges := [] }, { ring' with ports := [] }, { rfx' with rops := [] }, { twin' with relinquish := false }, { pctl' with tx := [], pdOut := [] }, { brg' with locks := [], queue := [], lockedOps := [], active := [], tun := [] }, { fld' with pins := [] }, fun i => (NMap.get (fun _ => {}) ring'.ports i).still, hif'.fetchHold⟩ := (rfl)

@[simp] theorem deep_eta (s : State) : (⟨s.now, { s.pwr with brkEvt := [] }, s.sec, s.boot, s.setup, s.meas, s.cyc, s.eng, { s.td with edges :=
    [] }, { s.ring with ports := [] }, { s.rfx with rops := [] }, { s.twin with relinquish := false }, { s.pctl with tx := [], pdOut := [] },
        { s.brg with locks := [], queue := [], lockedOps := [], active := [], tun := [] }, { s.fld with pins := [] }, fun i => (NMap.get
            (fun _ => {}) s.ring.ports i).still, s.hif.fetchHold⟩ : Deep) = s.deep := (rfl)

@[simp] theorem deep_ite (c : Prop) [Decidable c] (s t : State) : (if c then s else t).deep = if c then s.deep else t.deep := by
  split <;> rfl

theorem deep_foldl {α : Type} (f : State → α → State) (h : ∀ s x, (f s x).deep = s.deep) (l : List α) (s : State) :
    (l.foldl f s).deep = s.deep := Quiet.foldl (g := State.deep) f h l s

@[simp] theorem State.setWord_deep (s : State) (off v : Nat) :
    (State.setWord s off v).deep = s.deep := by
  simp [State.setWord]

@[simp] theorem State.wr_deep (s : State) (f : Fld) (v : Nat) :
    (State.wr s f v).deep = s.deep := by
  simp [State.wr]

@[simp] theorem State.inc_deep (s : State) (f : Fld) (k : Nat) :
    (State.inc s f k).deep = s.deep := by
  simp [State.inc]

@[simp] theorem State.emit_deep (s : State) (e : Emit) :
    (State.emit s e).deep = s.deep := by
  simp [State.emit]

@[simp] theorem State.draw_deep (s : State) :
    (State.draw s).2.deep = s.deep := by
  simp [State.draw]

@[simp] theorem State.setWords_deep (s : State) (off : Nat) (n0 : Nat) (n1 : Nat) :
    (State.setWords s off n0 n1).deep = s.deep := by
  induction n0 generalizing s off n1 with
  | zero => rfl
  | succ n ih => simp [State.setWords, ih]

@[simp] theorem State.setPair_deep (s : State) (p : Nat) (x : Pair) :
    (State.setPair s p x).deep = s.deep := by
  simp [State.setPair]

@[simp] theorem State.setSlot_deep (s : State) (t : Nat) (x : Slot) :
    (State.setSlot s t x).deep = s.deep := by
  simp [State.setSlot]

@[simp] theorem State.setTag_deep (s : State) (k : Nat) (x : Tag) :
    (State.setTag s k x).deep = s.deep := by
  simp [State.setTag]

/-- A port changes no more than its transit store and its counts of frames. -/
theorem State.setPort_deep {s : State} {i : Nat} {x : Port} (h : x.still = (s.port i).still) : (s.setPort i x).deep = s.deep := by
  have hp : (fun j => ((s.setPort i x).port j).still) = fun j => (s.port j).still := funext fun j => by
    by_cases hj : j = i
    · rw [hj, State.setPort_port, h]
    · rw [State.setPort_port_ne _ _ _ hj]
  exact congrArg (fun f => ({ s.deep with ports := f } : Deep)) hp

@[simp] theorem State.setPoint_deep (s : State) (n : Nat) (x : Point) :
    (State.setPoint s n x).deep = s.deep := by
  simp [State.setPoint]

@[simp] theorem State.logFault_deep (s : State) (type bit cls rep detail : Nat) :
    (State.logFault s type bit cls rep detail).deep = s.deep := by
  simp [State.logFault]

@[simp] theorem State.logAuditAt_deep (s : State) (time type b1 b2 : Nat) (arg : Nat) (node tn : Nat) :
    (State.logAuditAt s time type b1 b2 arg node tn).deep = s.deep := by
  simp [State.logAuditAt]

@[simp] theorem State.logAudit_deep (s : State) (type b1 b2 : Nat) (arg : Nat) (node tn : Nat) :
    (State.logAudit s type b1 b2 arg node tn).deep = s.deep := by
  simp [State.logAudit]

@[simp] theorem State.admitFrame_deep (s : State) (i o c : Nat) (f : Frame) :
    (State.admitFrame s i o c f).deep = s.deep := by
  simp [State.admitFrame]

@[simp] theorem State.toTransit_deep (s : State) (i o : Nat) (f : Frame) : (s.toTransit i o f).deep = s.deep := by
  unfold State.toTransit
  dsimp only
  split
  · exact State.setPort_deep rfl
  split
  · exact State.setPort_deep rfl
  · rfl

@[simp] theorem State.submit_deep (s : State) (i o : Nat) (f : Frame) :
    (State.submit s i o f).deep = s.deep := by
  simp [State.submit]

@[simp] theorem State.sendTo_deep (s : State) (inp node : Nat) (f : Frame) :
    (State.sendTo s inp node f).deep = s.deep := by
  unfold State.sendTo; repeat' split
  all_goals simp

@[simp] theorem State.hostReq_deep (s : State) (t op addr len : Nat) (data : List Byte) :
    (State.hostReq s t op addr len data).deep = s.deep := by
  simp [State.hostReq]

@[simp] theorem State.hostRead_deep (s : State) (t addr len : Nat) (what : String) :
    (State.hostRead s t addr len what).deep = s.deep := by
  simp [State.hostRead]

@[simp] theorem State.hostWrite_deep (s : State) (t addr : Nat) (b : List Byte) :
    (State.hostWrite s t addr b).deep = s.deep := by
  simp [State.hostWrite]

@[simp] theorem State.raiseVector_deep (s : State) (t vec : Nat) :
    (State.raiseVector s t vec).deep = s.deep := by
  simp [State.raiseVector]

@[simp] theorem State.signal_deep (s : State) (t vec : Nat) (err : Bool) :
    (State.signal s t vec err).deep = s.deep := by
  simp [State.signal]

@[simp] theorem State.signalErr_deep (s : State) (t : Nat) :
    (State.signalErr s t).deep = s.deep := by
  simp [State.signalErr]

@[simp] theorem State.retire_deep (s : State) (k : Nat) (abnormal : Bool) :
    (State.retire s k abnormal).deep = s.deep := by
  unfold State.retire; repeat' split
  all_goals simp

@[simp] theorem State.interrupt_deep (s : State) (p : Nat) :
    (State.interrupt s p).deep = s.deep := by
  simp [State.interrupt]

@[simp] theorem State.coalesce_deep (s : State) (p : Nat) (status : Nat) :
    (State.coalesce s p status).deep = s.deep := by
  simp [State.coalesce]

@[simp] theorem State.putEntry_deep (s : State) (p : Nat) (e : CqEntry) :
    (State.putEntry s p e).deep = s.deep := by
  simp only [State.putEntry]; repeat' split
  all_goals simp_all

@[simp] theorem State.stopFor_deep (s : State) (p reason : Nat) (entry : Bool) :
    (State.stopFor s p reason entry).deep = s.deep := by
  simp [State.stopFor]

@[simp] theorem State.stop_deep (s : State) (p reason : Nat) :
    (State.stop s p reason).deep = s.deep := by
  simp [State.stop]

@[simp] theorem State.drainCq_deep (s : State) (p : Nat) (n0 : Nat) :
    (State.drainCq s p n0).deep = s.deep := by
  induction n0 generalizing s with
  | zero => rfl
  | succ n ih =>
    unfold State.drainCq; dsimp only; repeat' split
    all_goals simp [ih]

@[simp] theorem State.post_deep (s : State) (p : Nat) (e : CqEntry) :
    (State.post s p e).deep = s.deep := by
  simp [State.post]

@[simp] theorem State.deliverData_deep (s : State) (t : Tx) (o : Outc) :
    (State.deliverData s t o).1.deep = s.deep := by
  unfold State.deliverData; repeat' split
  all_goals simp

@[simp] theorem State.answerRop_deep (s : State) (j seq status : Nat) (data : List Byte) :
    (State.answerRop s j seq status data).deep = s.deep := by
  simp [State.answerRop]

@[simp] theorem State.mapLocks_deep (s : State) (f : List LockSeq → List LockSeq) :
    (State.mapLocks s f).deep = s.deep := by
  simp [State.mapLocks]

@[simp] theorem State.lockEnds_deep (s : State) (t : Tx) (o : Outc) :
    (State.lockEnds s t o).deep = s.deep := by
  simp [State.lockEnds]

@[simp] theorem State.noteEnd_deep (s : State) (t : Tx) (o : Outc) :
    (State.noteEnd s t o).deep = s.deep := by
  simp [State.noteEnd]

@[simp] theorem State.complete_deep (s : State) (k : Nat) (t : Tx) (o : Outc) :
    (State.complete s k t o).deep = s.deep := by
  simp only [State.complete]; repeat' split
  all_goals simp_all

@[simp] theorem State.finish_deep (s : State) (k g : Nat) (o : Outc) :
    (State.finish s k g o).deep = s.deep := by
  unfold State.finish; repeat' split
  all_goals simp

@[simp] theorem State.respond_deep (s : State) (r : Req) (o : Outc) :
    (State.respond s r o).deep = s.deep := by
  unfold State.respond; repeat' split
  all_goals simp

@[simp] theorem State.refuse_deep (s : State) (r : Req) (status : Nat) :
    (State.refuse s r status).deep = s.deep := by
  simp [State.refuse]

@[simp] theorem State.ok_deep (s : State) (r : Req) (result xfer : Nat) (data : List Byte) :
    (State.ok s r result xfer data).deep = s.deep := by
  simp [State.ok]

@[simp] theorem State.setSub_deep (s : State) (u : Sub) :
    (State.setSub s u).deep = s.deep := by
  simp [State.setSub]

@[simp] theorem State.setRemSub_deep (s : State) (u : RemSub) (v : Option RemSub) :
    (State.setRemSub s u v).deep = s.deep := by
  simp [State.setRemSub]

@[simp] theorem State.endSub_deep (s : State) (num : Nat) :
    (State.endSub s num).deep = s.deep := by
  simp [State.endSub]

@[simp] theorem State.drainSubs_deep (s : State) (p : Nat) (n0 : Nat) :
    (State.drainSubs s p n0).deep = s.deep := by
  induction n0 generalizing s with
  | zero => rfl
  | succ n ih =>
    unfold State.drainSubs; dsimp only; repeat' split
    all_goals simp [ih]

@[simp] theorem State.drain_deep (s : State) (p : Nat) :
    (State.drain s p).deep = s.deep := by
  simp [State.drain]

@[simp] theorem State.setPin_deep (s : State) (p x : Nat) (v : Pin) :
    (State.setPin s p x v).deep = s.deep := by
  simp [State.setPin]

@[simp] theorem State.wrBit_deep (s : State) (f : Fld) (i : Nat) (b : Bool) :
    (State.wrBit s f i b).deep = s.deep := by
  simp [State.wrBit]

@[simp] theorem State.refreshPoint_deep (s : State) (n : Nat) :
    (State.refreshPoint s n).deep = s.deep := by
  simp [State.refreshPoint]

@[simp] theorem State.refreshAll_deep (s : State) :
    (State.refreshAll s).deep = s.deep := by
  simp [State.refreshAll, deep_foldl]

@[simp] theorem State.refreshPort_deep (s : State) (p : Nat) :
    (State.refreshPort s p).deep = s.deep := by
  unfold State.refreshPort; refine (deep_foldl _ ?_ _ _).trans ?_
  · intro s x; simp
  · simp

@[simp] theorem State.setLevel_deep (s : State) (p x : Nat) (b : Bool) :
    (State.setLevel s p x b).deep = s.deep := by
  simp [State.setLevel]

@[simp] theorem State.unlatch_deep (s : State) (p x : Nat) :
    (State.unlatch s p x).deep = s.deep := by
  simp [State.unlatch]

@[simp] theorem State.applyDo_deep (s : State) (p x : Nat) (b : Bool) :
    (State.applyDo s p x b).deep = s.deep := by
  simp [State.applyDo]

@[simp] theorem State.pinOff_deep (s : State) (p x : Nat) :
    (State.pinOff s p x).deep = s.deep := by
  simp [State.pinOff]

@[simp] theorem State.setFp_deep (s : State) (p : Nat) (on : Bool) :
    (State.setFp s p on).deep = s.deep := by
  simp [State.setFp]

@[simp] theorem State.fpClearEvent_deep (s : State) (p : Nat) :
    (State.fpClearEvent s p).deep = s.deep := by
  simp [State.fpClearEvent]

@[simp] theorem State.driveFp_deep (s : State) (p : Nat) (on : Bool) :
    (State.driveFp s p on).deep = s.deep := by
  simp [State.driveFp]

@[simp] theorem State.applyFp_deep (s : State) (p : Nat) (on : Bool) :
    (State.applyFp s p on).deep = s.deep := by
  simp [State.applyFp]

@[simp] theorem State.applyAo_deep (s : State) (p type v : Nat) :
    (State.applyAo s p type v).deep = s.deep := by
  simp [State.applyAo]

@[simp] theorem State.applyValue_deep (s : State) (q : Point) (v : Nat) :
    (State.applyValue s q v).deep = s.deep := by
  simp [State.applyValue]

@[simp] theorem State.applySafe_deep (s : State) (q : Point) :
    (State.applySafe s q).deep = s.deep := by
  simp [State.applySafe]

@[simp] theorem State.safeOutputs_deep (s : State) :
    (State.safeOutputs s).deep = s.deep := by
  simp [State.safeOutputs, deep_foldl]

@[simp] theorem State.setBusLock_deep (s : State) (p : Nat) (x : BusLock) :
    (State.setBusLock s p x).deep = s.deep := by
  simp [State.setBusLock]

@[simp] theorem State.freeBus_deep (s : State) (p : Nat) :
    (State.freeBus s p).deep = s.deep := by
  simp [State.freeBus]

@[simp] theorem State.postFail_deep (s : State) (r : Req) :
    (State.postFail s r).deep = s.deep := by
  simp [State.postFail]

@[simp] theorem State.dropOp_deep (s : State) (o : BusOp) (status : Nat) :
    (State.dropOp s o status).deep = s.deep := by
  simp [State.dropOp]

@[simp] theorem State.releaseBus_deep (s : State) (p src tn id : Nat) :
    (State.releaseBus s p src tn id).deep = s.deep := by
  simp [State.releaseBus, deep_foldl]

@[simp] theorem State.safeTwin_deep (s : State) :
    (State.safeTwin s).deep = s.deep := by
  simp [State.safeTwin]

@[simp] theorem State.safeEdges_deep (s : State) :
    (State.safeEdges s).deep = s.deep := by
  simp [State.safeEdges]

@[simp] theorem State.safeLocks_deep (s : State) :
    (State.safeLocks s).deep = s.deep := by
  unfold State.safeLocks; refine deep_foldl _ ?_ _ _
  intro s x; dsimp only; rw [deep_foldl _ (fun s x => by simp)]
  split <;> simp

@[simp] theorem State.safeBridgeOp_deep (s : State) (o : BusOp) :
    (State.safeBridgeOp s o).deep = s.deep := by
  simp [State.safeBridgeOp]

@[simp] theorem State.dropTunnelled_deep (s : State) :
    (State.dropTunnelled s).deep = s.deep := by
  simp [State.dropTunnelled, deep_foldl]

@[simp] theorem State.safeQueued_deep (s : State) :
    (State.safeQueued s).deep = s.deep := by
  unfold State.safeQueued; dsimp only
  rw [State.dropTunnelled_deep]
  simp only [deep_mk, deep_eta]
  refine (deep_foldl _ ?_ _ _).trans ((deep_foldl _ ?_ _ _).trans ((deep_foldl _ ?_ _ _).trans ?_))
  · rintro s ⟨t, q⟩; dsimp only; rw [deep_foldl]
    · simp
    · intro s x; cases x.req <;> simp
  · rintro s ⟨t, q⟩; dsimp only; rw [deep_foldl _ (fun s x => by simp)]; simp
  · intro s x; simp
  · simp

@[simp] theorem State.safeRest_deep (s : State) :
    (State.safeRest s).deep = s.deep := by
  simp [State.safeRest]

@[simp] theorem State.enterSafe_deep (s : State) (cause cls rep : Nat) :
    (State.enterSafe s cause cls rep).deep = s.deep := by
  simp [State.enterSafe]

@[simp] theorem State.firstOccurrence_deep (s : State) (b : Nat) (c : FClass) (detail : Nat) :
    (State.firstOccurrence s b c detail).deep = s.deep := by
  simp [State.firstOccurrence]

@[simp] theorem State.repeatOccurrence_deep (s : State) (b : Nat) (c : FClass) :
    (State.repeatOccurrence s b c).deep = s.deep := by
  simp [State.repeatOccurrence]

@[simp] theorem State.raise_deep (s : State) (b : Nat) (c : FClass) (detail : Nat) :
    (State.raise s b c detail).deep = s.deep := by
  simp [State.raise]

@[simp] theorem State.persists_deep (s : State) (b : Nat) (c : FClass) (on : Bool) (detail : Nat) :
    (State.persists s b c on detail).deep = s.deep := by
  simp [State.persists]

@[simp] theorem State.raise_now (s : State) (b : Nat) (c : FClass) (d : Nat) : (s.raise b c d).now = s.now := congrArg Deep.now (s.raise_deep b c d)
@[simp] theorem State.raise_sec (s : State) (b : Nat) (c : FClass) (d : Nat) : (s.raise b c d).sec = s.sec := congrArg Deep.sec (s.raise_deep b c d)
@[simp] theorem State.raise_boot (s : State) (b : Nat) (c : FClass) (d : Nat) : (s.raise b c d).boot = s.boot := congrArg Deep.boot
    (s.raise_deep b c d)
@[simp] theorem State.raise_setup (s : State) (b : Nat) (c : FClass) (d : Nat) : (s.raise b c d).setup = s.setup := congrArg Deep.setup
    (s.raise_deep b c d)
@[simp] theorem State.raise_meas (s : State) (b : Nat) (c : FClass) (d : Nat) : (s.raise b c d).meas = s.meas := congrArg Deep.meas
    (s.raise_deep b c d)
@[simp] theorem State.raise_cyc (s : State) (b : Nat) (c : FClass) (d : Nat) : (s.raise b c d).cyc = s.cyc := congrArg Deep.cyc (s.raise_deep b c d)
@[simp] theorem State.raise_eng (s : State) (b : Nat) (c : FClass) (d : Nat) : (s.raise b c d).eng = s.eng := congrArg Deep.eng (s.raise_deep b c d)

end Sys2Proof.Machine
end

section
/-!
PROOFS. BOOT, the commands of ID_BOOT_CMD, COMMIT, and the download in recovery mode.
-/

namespace Sys2Proof.Machine

/-! ### The boot (R443 to R446) -/

theorem BootSt.setObj_obj (b : BootSt) (kind n : Nat) : b.setObj kind n (b.obj kind n) = b := by
  unfold BootSt.setObj BootSt.obj; (repeat' split) <;> rfl

@[simp] theorem State.setObj_boot (s : State) (kind n : Nat) (x : Obj) : (s.setObj kind n x).boot = s.boot.setObj kind n x := (rfl)
@[simp] theorem State.setObj_sec (s : State) (kind n : Nat) (x : Obj) : (s.setObj kind n x).sec = s.sec := (rfl)

/-- To show the slots writes registers alone. -/
@[simp] theorem State.showSlots_boot (s : State) : s.showSlots.boot = s.boot := by
  simp only [State.showSlots, List.foldl_cons, List.foldl_nil, State.setObj_boot, State.wr_boot, BootSt.setObj_obj]

@[simp] theorem State.showSlots_sec (s : State) : s.showSlots.sec = s.sec := by
  simp only [State.showSlots, List.foldl_cons, List.foldl_nil, State.setObj_sec, State.wr_sec]

@[simp] theorem State.enterRecovery_stage (s : State) : s.enterRecovery.boot.stage = .recovery := by
  simp only [State.enterRecovery, State.setWords_boot, State.wr_boot]

theorem State.enterRecovery_mode (s : State) : s.enterRecovery.rd R.ID_BOOT_STAT_MODE = 3 := by
  simp [State.enterRecovery, State.rd_setWords_ne, State.rd_wr_ne, State.rd_wr_same, R.ID_BOOT_STAT_MODE, R.ID_STATE_RECOVERY]

theorem State.enterRecovery_flag (s : State) : s.enterRecovery.flag R.ID_STATE_RECOVERY = true := by
  simp [State.enterRecovery, State.flag_setWords_ne, State.flag_wr_same, R.ID_STATE_RECOVERY]

theorem State.stepPort_port (s : State) (i j : Nat) (f : Port → Port) : (s.stepPort i f).port j = if j = i then f (s.port i) else s.port j := by
  unfold State.stepPort; split
  · subst j; exact State.setPort_port _ _ _
  · exact State.setPort_port_ne _ _ _ ‹_›

/-- A boot that stops leaves every port DOWN (R446). -/
theorem State.bootStops_down (s : State) (i : Fin 5) : (s.bootStops.port i).st = .down := by
  simp only [State.bootStops, List.foldl_cons, List.foldl_nil, State.stepPort_port]
  fin_cases i <;> rfl

/-- `bootStops` ends in the stage that only a reset leaves. -/
theorem State.bootStops_stage (s : State) : s.bootStops.boot.stage = .stopped := by
  simp only [State.bootStops, List.foldl_cons, List.foldl_nil, State.stepPort, State.setPort_boot]

/-- What the ROM has done before it looks for firmware, with a DRBG that started: it has written registers. -/
def State.romStart (s : State) : State := (s.showSlots.wr R.SEC_STAT_DRBG_OK 1).wr R.SEC_STAT_DEBUG (bnat s.sec.vault.debugNext)

@[simp] theorem State.romStart_boot (s : State) : s.romStart.boot = s.boot := by
  simp only [State.romStart, State.wr_boot, State.showSlots_boot]
@[simp] theorem State.romStart_sec (s : State) : s.romStart.sec = s.sec := by
  simp only [State.romStart, State.wr_sec, State.showSlots_sec]


theorem State.slotOrder_congr {s t : State} (hb : t.boot = s.boot) (hs : t.sec = s.sec) (k : Nat) : t.slotOrder k = s.slotOrder k := by
  simp only [State.slotOrder, hb, hs]

theorem State.counter_congr {s t : State} (hb : t.boot = s.boot) (hs : t.sec = s.sec) (k : Nat) : t.counter k = s.counter k := by
  rw [State.counter, hb, hs, State.counter]

theorem State.ownerOk_congr {s t : State} (hs : t.sec = s.sec) (b : List Byte) : t.ownerOk b = s.ownerOk b := by
  rw [State.ownerOk, hs, State.ownerOk]

theorem State.checkObject_congr {s t : State} (hb : t.boot = s.boot) (hs : t.sec = s.sec) (k : Nat) (bad : Bool) (b : List Byte) :
    t.checkObject k bad b = s.checkObject k bad b := by
  rw [State.checkObject, State.counter_congr hb hs, State.ownerOk_congr hs, State.checkObject]

/-- Where the first slot of the order passes its check, nothing else is tried. -/
theorem State.trySlots_first {s : State} {k n : Nat} {bad ns : List Nat} (h : s.checkObject k (bad.contains n) (s.boot.obj k n).bytes = 0) :
    s.trySlots k bad (n :: ns) = (some n, s) := if_pos h

/-- The boot of a part that passes its tests runs the first firmware of the order that passes its check. -/
theorem State.boot_runs_first {s t : State} {o : BootObs} {n : Nat} (ht : o.tests = true) (hd : o.drbg = true) (hr : o.recovery = false)
    (h : s.romStart.trySlots 1 o.badFw (s.romStart.slotOrder 1) = (some n, t)) :
    s.boot_ o = (t.runFirmware n (s.romStart.slotOrder 1)).bootRest o := by
  unfold State.romStart at h ⊢
  simp only [State.boot_, hd, ht, hr, State.wr_sec, State.showSlots_sec, h, if_true, not_true_eq_false, if_false, Bool.false_eq_true]

/-- Without a STAGED and without a GOOD slot there is no firmware to try. -/
theorem State.slotOrder_none {s : State} (h0 : s.boot.fw0.st ≠ 1) (h0' : s.boot.fw0.st ≠ 2) (h1 : s.boot.fw1.st ≠ 1) (h1' : s.boot.fw1.st ≠ 2) :
    s.slotOrder 1 = [] := by
  have hst (n : Nat) : (s.boot.obj 1 n).st ≠ 1 ∧ (s.boot.obj 1 n).st ≠ 2 := by
    unfold BootSt.obj; by_cases hn : n = 0 <;> simp [hn, h0, h0', h1, h1']
  simp [State.slotOrder, (hst _).1, (hst _).2]

/-- A boot that finds no firmware enters recovery mode. -/
theorem State.boot_finds_none {s : State} {o : BootObs} (ht : o.tests = true) (hr : o.recovery = false) (h0 : s.boot.fw0.st ≠ 1)
    (h0' : s.boot.fw0.st ≠ 2) (h1 : s.boot.fw1.st ≠ 1) (h1' : s.boot.fw1.st ≠ 2) : ∃ t : State, s.boot_ o = t.enterRecovery := by
  have hn {t : State} (hb : t.boot = s.boot) : t.slotOrder 1 = [] :=
    State.slotOrder_none (hb ▸ h0) (hb ▸ h0') (hb ▸ h1) (hb ▸ h1')
  simp only [State.boot_, ht, hr, not_true_eq_false, if_false, Bool.false_eq_true]
  cases o.drbg
  · rw [hn (by simp)]; exact ⟨_, rfl⟩
  · rw [hn (by simp)]; exact ⟨_, rfl⟩

theorem State.runFirmware_boots (s : State) (n : Nat) (order : List Nat) :
    (s.runFirmware n order).boot.boots = (s.boot.boots + 1) % 2 ^ 32 ∧ (s.runFirmware n order).boot.stage = .run := by
  simp only [State.runFirmware, State.setWords_boot, State.wr_boot, and_self]

theorem State.runFirmware_showsBoots (s : State) (n : Nat) (order : List Nat) :
    (s.runFirmware n order).rd R.ID_BOOTS_BOOTS = (s.runFirmware n order).boot.boots := by
  simp [State.runFirmware, State.rd_setWords_ne, State.rd_wr_same, R.ID_BOOTS_BOOTS]

/-- MODE of a boot whose firmware is the first of the order (Table 21-2). -/
theorem State.runFirmware_mode (s : State) (n : Nat) (ns : List Nat) :
    (s.runFirmware n (n :: ns)).rd R.ID_BOOT_STAT_MODE = if (s.boot.obj 1 n).st = 1 then 2 else if s.boot.fellBack then 1 else 0 := by
  have hm : (s.runFirmware n (n :: ns)).rd R.ID_BOOT_STAT_MODE
      = (if (s.boot.obj 1 n).st = 1 then 2 else if ¬ s.boot.fellBack then 0 else 1) % 2 ^ 2 := by
    simp only [State.runFirmware]
    rw [State.rd_setWords_ne _ _ (by decide), State.rd_wr_ne _ _ (by decide) (by decide), State.rd_wr_ne _ _ (by decide) (by decide),
      State.rd_wr_ne _ _ (by decide) (by decide)]
    rw [show ∀ t : State, ∀ b, ({ t with boot := b } : State).rd R.ID_BOOT_STAT_MODE = t.rd R.ID_BOOT_STAT_MODE from fun _ _ => rfl]
    rw [State.rd_wr_ne _ _ (by decide) (by decide), State.rd_wr_same _ _ _ (by decide)]
    simp [R.ID_BOOT_STAT_MODE]
  rw [hm]; split
  · rfl
  · cases s.boot.fellBack <;> rfl

/-! ### The commands of ID_BOOT_CMD (R450, R451) -/

/-- A reset of the hub keeps the queue, the feeds, the owner and the vault's counter, and ends where a boot begins. -/
theorem State.resetHub_keeps (s : State) : s.resetHub.boot.stage = .rom ∧ s.resetHub.pending = s.pending ∧ s.resetHub.pwr.present = s.pwr.present
    ∧ s.resetHub.sec.vault.fwCtr = s.sec.vault.fwCtr ∧ s.resetHub.sec.vault.owner = s.sec.vault.owner := by
  simp [State.resetHub, State.flushLogs]

theorem State.bootCmd_reset {s : State} {e : StopEnv} (h : s.takesCmd = true) (hr : s.refusals e = 0) : s.bootCmd false e = s.resetHub := by
  simp [State.bootCmd, h, hr]

theorem State.bootCmd_recover {s : State} {e : StopEnv} (h : s.takesCmd = true) (hr : s.refusals e = 0) :
    s.bootCmd true e = s.resetHub.enterRecovery := by simp [State.bootCmd, h, hr]

theorem State.bootCmd_refused {s : State} {e : StopEnv} (h : s.takesCmd = true) (hr : s.refusals e ≠ 0) (recover : Bool) :
    s.bootCmd recover e = s.wr R.ID_UPD_STAT_REFUSE (s.refusals e) := by simp [State.bootCmd, h, hr]

/-! ### COMMIT (R528) -/

/-- The set-up space as a COMMIT leaves it: the rules of R531 and GUAR applied, locked, and counted. -/
def State.locked (s : State) : State :=
  ((s.loadRules.recomputeGuar.wr R.ID_COMMIT_COMMITTED 1).wr R.ID_COMMIT_UNLOCKED 0).inc R.ID_COMMIT_COUNT

theorem State.commit_fresh {s : State} (h : s.flag R.ID_COMMIT_COMMITTED = false) :
    s.commit = s.locked.measure7.logAudit 0x22 0 0 (s.locked.measure7.sec.block7 % 2 ^ 64) s.locked.measure7.node0 0 := by
  simp only [State.commit, h, Bool.false_eq_true, if_false, State.locked]

theorem State.commit_again {s : State} (h : s.flag R.ID_COMMIT_COMMITTED = true) : s.commit = s := if_pos h

theorem State.locked_committed (s : State) : s.locked.flag R.ID_COMMIT_COMMITTED = true := by
  simp [State.locked, State.flag_inc_ne, State.flag_wr_ne, State.flag_wr_same, R.ID_COMMIT_COMMITTED, R.ID_COMMIT_UNLOCKED, R.ID_COMMIT_COUNT]

theorem State.locked_unlocked (s : State) : s.locked.rd R.ID_COMMIT_UNLOCKED = 0 := by
  simp [State.locked, State.rd_inc_ne, State.rd_wr_same, R.ID_COMMIT_UNLOCKED, R.ID_COMMIT_COUNT]

@[simp] theorem State.measure7_rd (s : State) (f : Fld) : s.measure7.rd f = s.rd f := (rfl)
@[simp] theorem State.measure7_flag (s : State) (f : Fld) : s.measure7.flag f = s.flag f := (rfl)

/-- An audit record writes no register but the counter of lost records. -/
theorem State.rd_logAudit (s : State) (a b c d e g : Nat) {f : Fld} (h : f.off ≠ 0x30040) : (s.logAudit a b c d e g).rd f = s.rd f := by
  unfold State.logAudit State.logAuditAt; dsimp only; split
  · rw [State.rd_inc_ne _ _ (by decide) (.inl h.symm)]; rfl
  · rfl

theorem State.flag_logAudit (s : State) (a b c d e g : Nat) {f : Fld} (h : f.off ≠ 0x30040) :
    (s.logAudit a b c d e g).flag f = s.flag f := by rw [State.flag, State.rd_logAudit s a b c d e g h, State.flag]

theorem exec_bootReset (e : StopEnv) (s : State) : exec (.bootReset e) s = .next (s.bootCmd false e) := (rfl)

theorem exec_bootRecover (e : StopEnv) (s : State) : exec (.bootRecover e) s = .next (s.bootCmd true e) := (rfl)

theorem exec_commit (s : State) (h : s.ready = true) : exec .commit s = .next s.commit.settle := if_pos h

/-- Settles O10, by the stage of the boot and the conditions of each command. -/
theorem bootAndCommit : Obligations.BootAndCommit := by
  refine ⟨fun o s hs ht => ⟨s.boot_ o, if_pos hs, ?_⟩, fun o s hs ht hr => ⟨s.boot_ o, if_pos hs, ?_⟩,
    fun o s hs ht hr h0 h0' h1 h1' => ⟨s.boot_ o, if_pos hs, ?_⟩, fun o n ns s hs ht hd hr ho hc => ?_,
    fun e s hc hr => ⟨s.resetHub, by rw [exec_bootReset, State.bootCmd_reset hc hr, id], s.resetHub_keeps⟩,
    fun e s hc hr => ⟨s.resetHub.enterRecovery, by rw [exec_bootRecover, State.bootCmd_recover hc hr, id],
      State.enterRecovery_stage _, State.enterRecovery_flag _⟩,
    fun e s hc hr => ⟨by rw [exec_bootReset, State.bootCmd_refused hc hr], by rw [exec_bootRecover, State.bootCmd_refused hc hr]⟩,
    ?_, fun s hr hc => ?_, fun s hr hc => ⟨s.commit, exec_commit s hr, ?_⟩⟩
  · simp only [State.boot_, ht, Bool.false_eq_true, not_false_eq_true, if_true]
    exact ⟨State.bootStops_stage _, State.bootStops_down _⟩
  · simp only [State.boot_, ht, hr, not_true_eq_false, if_false, if_true]
    exact ⟨State.enterRecovery_stage _, State.enterRecovery_mode _, State.enterRecovery_flag _⟩
  · obtain ⟨t, ht⟩ := State.boot_finds_none ht hr h0 h0' h1 h1'
    rw [ht]
    exact ⟨State.enterRecovery_stage _, State.enterRecovery_mode _, State.enterRecovery_flag _⟩
  · have hord : s.romStart.slotOrder 1 = n :: ns := (State.slotOrder_congr s.romStart_boot s.romStart_sec 1).trans ho
    have hchk : s.romStart.checkObject 1 (o.badFw.contains n) (s.romStart.boot.obj 1 n).bytes = 0 := by
      rw [State.checkObject_congr s.romStart_boot s.romStart_sec, s.romStart_boot, hc]
    refine ⟨s.romStart.runFirmware n (n :: ns), ?_, ?_⟩
    · rw [show exec (.boot o) s = .next (s.boot_ o).settle from if_pos hs,
        State.boot_runs_first ht hd hr (by rw [hord]; exact State.trySlots_first hchk), hord]
    · obtain ⟨hb, hst⟩ := s.romStart.runFirmware_boots n (n :: ns)
      rw [State.runFirmware_mode, State.runFirmware_showsBoots, hb, hst, s.romStart_boot]
      exact ⟨rfl, rfl, rfl, rfl⟩
  · rintro s t u hr hc rfl rfl
    rw [exec_commit s hr, State.commit_fresh hc, State.locked]
  · rw [exec_commit s hr, State.commit_again hc]
  · rw [State.commit_fresh hc]
    refine ⟨?_, ?_, s.locked, s.locked_committed, ?_⟩
    · rw [State.flag_logAudit (f := R.ID_COMMIT_COMMITTED) (h := by decide), State.measure7_flag, s.locked_committed]
    · rw [State.rd_logAudit (f := R.ID_COMMIT_UNLOCKED) (h := by decide), State.measure7_rd, s.locked_unlocked]
    · rw [State.logAudit_sec]; rfl

/-! ### A download in recovery mode (R455 to R457) -/

theorem exec_rcvChunkGo {s : State} (h : s.boot.stage = .recovery) (len : Fin 32768) (last err : Bool) :
    exec (.rcvChunkGo len last err) s = .next (s.rcvChunk (len + 1) last err) := if_pos h

/-- A first chunk that a header does not fit in ends the download. -/
theorem State.rcvChunk_short {s : State} {len : Nat} (h0 : s.rd R.ID_RCV_OFS_OFS = 0) (hl : len < 512) (last : Bool) :
    s.rcvChunk len last false = s.rcvEnd 1 := by simp [State.rcvChunk, h0, hl]

/-- A chunk that follows on, and is not the last, is added to the image. -/
theorem State.rcvChunk_next {s : State} {len : Nat} {g : Staging} (h0 : s.rd R.ID_RCV_OFS_OFS ≠ 0) (hg : s.boot.fwStg = some g)
    (hlen : g.bytes.length = s.rd R.ID_RCV_OFS_OFS) (htot : g.total = s.rd R.ID_RCV_TOTAL_TOTAL)
    (hfit : s.rd R.ID_RCV_OFS_OFS + len ≤ s.rd R.ID_RCV_TOTAL_TOTAL) :
    s.rcvChunk len false false = (s.setStaging 1 (some ⟨g.bytes ++ memRead s.boot.rcvBuf 0 len, g.total⟩) 1).rcvEnd 0 := by
  simp [State.rcvChunk, State.staging, h0, hg, hlen, htot, hfit]

@[simp] theorem State.rcvEnd_boot (s : State) (r : Nat) : (s.rcvEnd r).boot = s.boot := by
  simp only [State.rcvEnd, State.wr_boot]

theorem State.rcvEnd_state (s : State) (r : Nat) : (s.rcvEnd r).rd R.ID_RCV_STAT_STATE = if r = 0 then 2 else 3 := by
  rw [State.rcvEnd, State.rd_wr_ne _ _ (by decide) (by decide), State.rd_wr_same _ _ _ (by decide)]
  split <;> rfl

theorem State.rcvEnd_reason (s : State) {r : Nat} (h : r < 256) : (s.rcvEnd r).rd R.ID_RCV_STAT_REASON = r := by
  rw [State.rcvEnd, State.rd_wr_same _ _ _ (by decide)]
  exact Nat.mod_eq_of_lt h

theorem exec_rcvServeStart {s : State} (h : s.ready = true) (i : Fin 5) (fw : Fin 2) :
    exec (.rcvServeStart i fw) s = .next (s.rcvServe i fw).settle := if_pos h

/-- What a service of a slot that is not GOOD leaves: its port and slot are shown, and it has FAILED. -/
def State.notServing (s : State) (i fw : Nat) : State :=
  ((s.wr R.ID_RCV_SERVE_PORT i).wr R.ID_RCV_SERVE_SLOT fw).wr R.ID_RCV_SERVE_STATE 3

theorem State.rcvServe_notGood {s : State} {i fw : Nat} (hn : s.boot.serve = none) (h : (s.boot.obj 1 fw).st ≠ 2) :
    s.rcvServe i fw = s.notServing i fw := by
  simp [State.rcvServe, State.notServing, hn, h]

/-- The port as a service takes it: DOWN, and the slot noted. -/
def State.serving (s : State) (i fw : Nat) : State :=
  let s := (((s.wr R.ID_RCV_SERVE_PORT i).wr R.ID_RCV_SERVE_SLOT fw).wr R.ID_RCV_SERVE_STATE 1).disablePort i
  { s with boot := { s.boot with serve := some (i, fw) } }

theorem State.rcvServe_good {s : State} {i fw : Nat} (hn : s.boot.serve = none) (h : (s.boot.obj 1 fw).st = 2) :
    s.rcvServe i fw = (s.serving i fw).startPort i := by
  simp [State.rcvServe, State.serving, hn, h]

/-- A service has ended: STATE shows how it went. -/
def State.served (s : State) (ok : Bool) : State :=
  ({ s with boot := { s.boot with serve := none } }).wr R.ID_RCV_SERVE_STATE (if ok then 2 else 3)

theorem exec_rcvTransferDone {s : State} {i : Fin 5} (hs : s.boot.stage ≠ .recovery) (hv : s.serves i = true) (ok : Bool) (peer : Nat)
    (image : List Byte) : exec (.rcvTransferDone i ok peer image) s =
      .next (((s.served ok).disablePort i).startPort i).settle := by
  show execRcvTransferDone i ok peer image s = _
  simp only [execRcvTransferDone, State.served, hs, hv, not_true_eq_false, if_false]

/-- Settles O11, by what the chunk and the slot are. -/
theorem recoveryDownload : Obligations.RecoveryDownload := by
  refine ⟨fun len last s hs => ⟨_, exec_rcvChunkGo hs len last true, rfl⟩, fun len last s hs h0 hl => ⟨s.rcvEnd 1, ?_, ?_⟩,
    fun len g s hs h0 hg hlen htot hfit => ?_, fun i fw s hr hn hst => ?_, fun i fw s hr hn hst => ?_, fun i ok peer image s hs hv => ?_⟩
  · rw [exec_rcvChunkGo hs, State.rcvChunk_short h0 hl, id]
  · exact ⟨s.rcvEnd_state 1, s.rcvEnd_reason (by decide), s.rcvEnd_boot 1⟩
  · refine ⟨_, by rw [exec_rcvChunkGo hs, State.rcvChunk_next h0 hg hlen htot hfit, id], ?_, State.rcvEnd_state _ 0⟩
    rw [State.rcvEnd_boot]; rfl
  · exact ⟨s.serving i fw, by rw [exec_rcvServeStart hr, State.rcvServe_good hn hst], rfl⟩
  · refine ⟨s.notServing i fw, by rw [exec_rcvServeStart hr, State.rcvServe_notGood hn hst], ?_, ?_⟩
    · rw [State.notServing, State.rd_wr_same _ _ _ (by decide)]; rfl
    · simp only [State.notServing, State.wr_boot]
  · refine ⟨s.served ok, exec_rcvTransferDone hs hv ok peer image, rfl, ?_⟩
    rw [State.served, State.rd_wr_same _ _ _ (by decide)]
    cases ok <;> rfl

end Sys2Proof.Machine
end

section
/-!
PROOFS. The host side: the controls of a slot, polls and doorbells, and the errors of the queue manager and the PCIe link.
-/

namespace Sys2Proof.Machine

/-! ### What the reset of a slot leaves -/

/-- The host queues without the pairs, tags and lock sequences that the reset of a pair writes. -/
def State.hostLink (s : State) : Hif := { s.hif with pairs := [], tags := [], locks := [] }

@[simp] theorem State.setTag_hostLink (s : State) (k : Nat) (x : Tag) : (s.setTag k x).hostLink = s.hostLink := (rfl)

@[simp] theorem State.retire_hostLink (s : State) (k : Nat) (abn : Bool) : (s.retire k abn).hostLink = s.hostLink := by
  obtain h | ⟨x, h⟩ := s.retire_cases k abn <;> rw [h]
  exact State.setTag_hostLink _ _ _

@[simp] theorem State.wr_hostLink (s : State) (f : Fld) (v : Nat) : (s.wr f v).hostLink = s.hostLink := (rfl)

@[simp] theorem State.inc_hostLink (s : State) (f : Fld) (n : Nat) : (s.inc f n).hostLink = s.hostLink := by
  simp only [State.hostLink, State.inc_hif]

@[simp] theorem State.detach_hostLink (s : State) (k : Nat) (t : Tx) (abn : Bool) : (s.detach k t abn).hostLink = s.hostLink := by
  obtain ⟨f, h | ⟨x, h⟩⟩ := s.detach_cases k t abn <;> rw [h] <;> simp only [State.setTag_hostLink, State.inc_hostLink]

@[simp] theorem State.detachAll_hostLink (s : State) (p : Nat) (abn : Bool) : (s.detachAll p abn).hostLink = s.hostLink := by
  unfold State.detachAll
  refine Quiet.foldl (g := State.hostLink) _ ?_ _ s
  rintro u ⟨k, x⟩
  exact u.detach_hostLink k x abn

@[simp] theorem State.endPairSubs_hostLink (s : State) (p : Nat) : (s.endPairSubs p).hostLink = s.hostLink := by
  rw [State.hostLink, State.endPairSubs_hif, State.hostLink]

/-- A pair is reset once its transactions are detached and its subscriptions ended: its lock sequences are marked and it is emptied. -/
theorem State.resetPair_eq (s : State) (p : Nat) : ∃ l, s.resetPair p =
    ({ (s.detachAll p false).endPairSubs p with hif := { ((s.detachAll p false).endPairSubs p).hif with locks := l } } : State).setPair p {} :=
  ⟨_, rfl⟩

@[simp] theorem State.resetPair_hostLink (s : State) (p : Nat) : (s.resetPair p).hostLink = s.hostLink := by
  obtain ⟨l, h⟩ := s.resetPair_eq p
  have hh : (s.resetPair p).hostLink = ((s.detachAll p false).endPairSubs p).hostLink := by rw [h]; rfl
  rw [hh, State.endPairSubs_hostLink, State.detachAll_hostLink]

@[simp] theorem State.resetSlot_hostLink (s : State) (t : Nat) : (s.resetSlot t).hostLink = s.hostLink := by
  unfold State.resetSlot
  exact Quiet.foldl (g := State.hostLink) _ (fun u i => u.resetPair_hostLink _) _ s

@[simp] theorem State.detachAll_sec (s : State) (p : Nat) (abn : Bool) : (s.detachAll p abn).sec = s.sec := by
  unfold State.detachAll
  refine Quiet.foldl (g := State.sec) _ ?_ _ s
  rintro u ⟨k, x⟩
  obtain ⟨f, h | ⟨y, h⟩⟩ := u.detach_cases k x abn <;> simp only [h, State.setTag_sec, State.inc_sec]

@[simp] theorem State.endPairSubs_sec (s : State) (p : Nat) : (s.endPairSubs p).sec = s.sec := by
  unfold State.endPairSubs
  exact Quiet.foldl (g := State.sec) _ (fun u x => by simp only [State.endSub, State.wr_sec]) _ s

@[simp] theorem State.resetPair_sec (s : State) (p : Nat) : (s.resetPair p).sec = s.sec := by
  obtain ⟨l, h⟩ := s.resetPair_eq p
  rw [h, State.setPair_sec, State.endPairSubs_sec, State.detachAll_sec]

@[simp] theorem State.resetSlot_sec (s : State) (t : Nat) : (s.resetSlot t).sec = s.sec := by
  unfold State.resetSlot
  exact Quiet.foldl (g := State.sec) _ (fun u i => u.resetPair_sec _) _ s

theorem exec_qReset_always (p : Fin 512) (s : State) : exec (.qReset p false) s = .next (s.resetPair p).settle := by
  show execQReset p false s = _
  rw [execQReset, if_neg (by simp)]

/-! ### The controls of a slot (R66, R69, R80) -/

/-- What is read of the functions that the host has set up follows from the host link. -/
theorem State.functions_of_hostLink {s t : State} (h : t.hostLink = s.hostLink) :
    t.hif.busMaster = s.hif.busMaster ∧ t.hif.ideSecure = s.hif.ideSecure ∧ t.hif.ideLost = s.hif.ideLost := by
  show t.hostLink.busMaster = s.hostLink.busMaster ∧ t.hostLink.ideSecure = s.hostLink.ideSecure ∧ t.hostLink.ideLost = s.hostLink.ideLost
  rw [h]; exact ⟨rfl, rfl, rfl⟩

theorem exec_summaryEnable (t : Fin 16) (a : BitVec 64) (s : State) : exec (.summaryEnable t a) s = .next (s.summaryEnable t a.toNat) := (rfl)

/-- The slot's summary line is enabled at an address. -/
def State.polled (s : State) (t addr : Nat) : State :=
  (((s.wr (R.HIF_SUM_ADDR_ADDR_W1 t) (addr / 2 ^ 32)).wr (R.HIF_SUM_ADDR_ADDR_W0 t) (addr / 64)).wr (R.HIF_SUM_ADDR_EN t) 1).setSlot t
    { interval := 8000, polledAt := s.ns }

theorem State.summaryEnable_fresh {s : State} {t : Nat} (h : s.flag (R.HIF_SUM_ADDR_EN t) = false) (hw : s.windowOpen t = true) (addr : Nat) :
    s.summaryEnable t addr = s.polled t addr := by
  simp only [State.summaryEnable, State.polled, h, hw, Bool.false_eq_true, not_true_eq_false, or_self, if_false, State.ns, State.wr_now]

theorem State.summaryEnable_again {s : State} {t : Nat} (h : s.flag (R.HIF_SUM_ADDR_EN t) = true) (addr : Nat) : s.summaryEnable t addr = s :=
  if_pos (.inl h)

/-- HIF_SUM_ADDR reads the line's address, a multiple of 64 (R80). -/
theorem State.polled_sumAddr (s : State) (t : Nat) (addr : BitVec 64) : (s.polled t addr.toNat).sumAddr t = addr.toNat / 64 * 64 := by
  have hi : (s.polled t addr.toNat).rd (R.HIF_SUM_ADDR_ADDR_W1 t) = addr.toNat / 2 ^ 32 % 2 ^ 32 := by
    simp [State.polled, State.rd_wr_ne, State.rd_wr_same, R.HIF_SUM_ADDR_ADDR_W1, R.HIF_SUM_ADDR_ADDR_W0, R.HIF_SUM_ADDR_EN]
  have lo : (s.polled t addr.toNat).rd (R.HIF_SUM_ADDR_ADDR_W0 t) = addr.toNat / 64 % 2 ^ 26 := by
    simp [State.polled, State.rd_wr_ne, State.rd_wr_same, R.HIF_SUM_ADDR_ADDR_W0, R.HIF_SUM_ADDR_EN]
  rw [State.sumAddr, State.rdAddr, hi, lo]
  have := addr.isLt
  simp only [R.HIF_SUM_ADDR_ADDR_W0]
  omega

theorem State.polled_enabled (s : State) (t addr : Nat) : (s.polled t addr).flag (R.HIF_SUM_ADDR_EN t) = true := by
  simp [State.polled, State.flag_wr_same, R.HIF_SUM_ADDR_EN]

theorem State.polled_slot (s : State) (t addr : Nat) : (s.polled t addr).slot t = { interval := 8000, polledAt := s.ns } :=
  State.setSlot_slot _ _ _

/-- The part of a disabled slot's end that comes before GUAR is computed again. -/
def State.slotEnded (s : State) (t : Nat) : State :=
  let subs := s.pts.subs.filter fun u => s.subSlot u = some t
  let s := subs.foldl (fun s u => s.endSub u.num) ((s.wr (R.HIF_TEN_EN t) 0).resetSlot t)
  ({ s with pts := { s.pts with remote := s.pts.remote.filter fun u => u.slot ≠ t } }).wr (R.HIF_RGN_BASE_EN t) 0

theorem State.slotDisable_open {s : State} {t : Nat} (ht : t ≠ 0) (hc : s.flag R.ID_COMMIT_COMMITTED = false) (hon : s.slotOn t = true) :
    s.slotDisable t = (s.slotEnded t).recomputeGuar := by
  simp only [State.slotDisable, State.slotEnded, ht, hc, hon, Bool.false_eq_true, not_true_eq_false, or_self, if_false]

theorem State.slotDisable_fixed {s : State} {t : Nat} (h : t = 0 ∨ s.flag R.ID_COMMIT_COMMITTED = true) : s.slotDisable t = s :=
  if_pos (h.imp_right .inl)

theorem State.slotEnded_remote (s : State) (t : Nat) : ∀ x ∈ (s.slotEnded t).pts.remote, x.slot ≠ t := by
  intro x hx
  simpa using (List.mem_filter.mp hx).2

theorem State.regionEn_off (s : State) (t : Nat) : (s.wr (R.HIF_RGN_BASE_EN t) 0).flag (R.HIF_RGN_BASE_EN t) = false := by
  simp [State.flag_wr_same, R.HIF_RGN_BASE_EN]

theorem exec_slotDisable (t : Fin 16) (s : State) : exec (.slotDisable t) s = .next (s.slotDisable t).settle := (rfl)

/-- What a function-level reset takes from the functions that the host has set up. -/
def State.functionCleared (s : State) (t : Nat) : State :=
  { s with hif := { s.hif with
    busMaster := s.hif.busMaster.filter (· ≠ t), ideSecure := s.hif.ideSecure.filter (· ≠ t), ideLost := s.hif.ideLost.filter (· ≠ t)
    msixTab := s.hif.msixTab.filter fun x => x.1 / 128 ≠ t
    msixOpen := s.hif.msixOpen.filter (· / 128 ≠ t), msixPend := s.hif.msixPend.filter (· / 128 ≠ t) } }

/-- The end of a function's sessions changes the host queues as the reset of its slot does, or not at all. -/
theorem State.endSessions_hostLink (s : State) (t : Nat) : (s.endSessions t).hostLink = s.hostLink := by
  unfold State.endSessions State.reprove; dsimp only; split
  · rw [State.resetSlot_hostLink, State.wr_hostLink]; rfl
  · rw [State.wr_hostLink]; rfl

theorem State.endSessions_sessions (s : State) (t : Nat) : ∀ x ∈ (s.endSessions t).sec.sessions, x.slot ≠ t := by
  have h : (s.endSessions t).sec.sessions = s.sec.sessions.filter fun x => x.slot ≠ t := by
    unfold State.endSessions State.reprove; dsimp only; split
    · rw [State.resetSlot_sec, State.wr_sec]
    · rw [State.wr_sec]
  intro x hx
  rw [h] at hx
  simpa using (List.mem_filter.mp hx).2

theorem exec_functionLevelReset {t : Fin 16} {s : State} (h : s.kind t ≠ kRing) :
    exec (.functionLevelReset t) s = .next (((s.functionCleared t).endSessions t).resetSlot t).settle := if_neg h

/-- The functions as a PCIe reset leaves them, with the link up or down. -/
def State.functionsReset (s : State) (up : Bool) : State :=
  { s with hif := { s.hif with pcieUp := up, busMaster := [], ideSecure := [], ideLost := [], msixTab := [], msixOpen := [], msixPend := [] } }

/-- Settles O13, by the state of the slot and the kind of the reset. -/
theorem slotControls : Obligations.SlotControls := by
  refine ⟨fun t a s he hw => ⟨s.polled t a.toNat, ?_, s.polled_sumAddr t a, s.polled_enabled t _, ?_, ?_, ?_⟩,
    fun t a s he => by rw [exec_summaryEnable, State.summaryEnable_again he],
    fun t s ht hc hon => ⟨s.slotEnded t, by rw [exec_slotDisable, State.slotDisable_open ht hc hon], State.regionEn_off _ t, s.slotEnded_remote t⟩,
    fun t s h => by rw [exec_slotDisable, State.slotDisable_fixed h],
    fun t s hw => ⟨s.wr (R.HIF_RGN_BASE_EN t) 0, congrArg _ (if_pos hw), s.regionEn_off t, rfl⟩,
    fun p s hi hon hsum hmay => ⟨s.setPair p { st := .run }, ?_, State.setPair_pair _ _ _, rfl⟩,
    fun p s => ⟨s.resetPair p, exec_qReset_always p s, s.resetPair_pair_same p⟩,
    fun p s hr => ⟨s.resetPair p, exec_qReset_run p true s hr, s.resetPair_pair_same p⟩,
    fun t s hk => ⟨(s.functionCleared t).endSessions t, exec_functionLevelReset hk, ?_⟩, fun t s hk => if_pos hk,
    fun down s h => ⟨s.functionsReset (s.hif.pcieUp && !down), ?_, rfl, rfl, rfl, rfl, rfl⟩,
    fun s h => ⟨s.functionsReset false, ?_, rfl, rfl, rfl, rfl, rfl⟩⟩
  · rw [exec_summaryEnable, State.summaryEnable_fresh he hw, id]
  · rw [State.polled_slot]
  · rw [State.polled_slot]
  · rw [State.polled_slot]
  · rw [exec_qEnable, State.qEnable_run hi ⟨hon, hsum, hmay⟩, id]
  · obtain ⟨hbm, hsec, hlost⟩ := State.functions_of_hostLink ((s.functionCleared t).endSessions_hostLink t)
    rw [hbm, hsec, hlost]
    refine ⟨?_, ?_, ?_, State.endSessions_sessions _ t⟩ <;> simp [State.functionCleared]
  · show execPcieReset down s = _
    have hd : (s.hif.pcieUp && down) = false := by cases h <;> simp [*]
    simp only [execPcieReset, hd, Bool.false_eq_true, if_false]; rfl
  · show execPcieReset true s = _
    simp only [execPcieReset, h, Bool.and_true, if_true]; rfl

/-! ### Polls, doorbells and timers (R72, R79 to R84) -/

theorem exec_summaryPoll {t : Fin 16} {s : State} (hon : s.slotOn t = true) (hen : s.flag (R.HIF_SUM_ADDR_EN t) = true)
    (ha : (s.slot t).asked = false) (hh : s.hif.fetchHold = false) :
    exec (.summaryPoll t) s = .next ((s.setSlot t { s.slot t with asked := true }).hostRead t (s.sumAddr t) 64 "summary") := by
  show execSummaryPoll t s = _
  rw [execSummaryPoll, if_pos (by simp [hon, hen, ha, hh])]

theorem exec_summaryPoll_host {t : Fin 16} {s : State} (hon : s.slotOn t = true) (hen : s.flag (R.HIF_SUM_ADDR_EN t) = true)
    (ha : (s.slot t).asked = false) (hh : s.hif.fetchHold = false) (hk : s.kind t ≠ kRing) :
    exec (.summaryPoll t) s = .next ((s.setSlot t { s.slot t with asked := true }).emit (.hostRead t (s.sumAddr t) 64 "summary")) := by
  rw [exec_summaryPoll hon hen ha hh, State.hostRead, if_neg (by exact hk)]

theorem exec_summaryPoll_ring {t : Fin 16} {s : State} (hon : s.slotOn t = true) (hen : s.flag (R.HIF_SUM_ADDR_EN t) = true)
    (ha : (s.slot t).asked = false) (hh : s.hif.fetchHold = false) (hk : s.kind t = kRing) :
    exec (.summaryPoll t) s = .next ((s.setSlot t { s.slot t with asked := true }).hostReq t 1 (s.sumAddr t) 64 []) := by
  rw [exec_summaryPoll hon hen ha hh, State.hostRead, if_pos (by exact hk)]

/-- The slot after a poll whose line was read, with `found` a pending byte in it (R80). -/
def State.lineRead (s : State) (t : Nat) (found : Bool) : State :=
  s.setSlot t { s.slot t with asked := false, polledAt := s.ns, interval := if found then 250 else min 8000 (2 * (s.slot t).interval) }

theorem exec_summaryReadDone_data {t : Fin 16} {s : State} (ha : (s.slot t).asked = true) (line : List Byte) :
    exec (.summaryReadDone t (.data line)) s =
      .next ((List.range 32).foldl (fun s i => s.servePair t line i) (s.lineRead t ((line.take 32).any (· ≠ 0)))) := by
  show execSummaryReadDone t (.data line) s = _
  rw [execSummaryReadDone, State.summaryDone, if_neg (by simp [ha])]; rfl

/-- The slot after a poll that failed. -/
def State.lineLost (s : State) (t : Nat) : State :=
  (s.setSlot t { s.slot t with asked := false, polledAt := s.ns, interval := 8000 }).wr (R.HIF_TEN_STAT_SUM_ERR t) 1

theorem exec_summaryReadDone_failed {t : Fin 16} {s : State} (ha : (s.slot t).asked = true) :
    exec (.summaryReadDone t .failed) s =
      .next ((List.range 32).foldl (fun s i => s.servePair t [] i) (((s.lineLost t).signalErr t).stopRing t)) := by
  show execSummaryReadDone t .failed s = _
  rw [execSummaryReadDone, State.summaryDone, if_neg (by simp [ha])]; rfl

theorem exec_doorbellReadDone (p : Fin 512) (d : HostData) (s : State) :
    exec (.doorbellReadDone p d) s = .next (s.doorbellDone p d).settle := (rfl)

theorem State.doorbellDone_failed {s : State} {p : Nat} (h : (s.pair p).st = .run) : s.doorbellDone p .failed = (s.stop p 5).drain p :=
  if_neg (not_not.mpr h)

/-- A tail out of range stops the pair. -/
theorem State.doorbellDone_tail {s : State} {p : Nat} {w : List Byte} (h : (s.pair p).st = .run) (ht : s.sqDepth p ≤ leAt w 0 2) :
    s.doorbellDone p (.data w) = (s.stop p 1).drain p := by
  simp only [State.doorbellDone, h, ht, ne_eq, not_true_eq_false, if_false, if_true]

/-- A doorbell whose fields are in range gives the tail and the head. -/
theorem State.doorbellDone_good {s : State} {p : Nat} {w : List Byte} (h : (s.pair p).st = .run) (ht : leAt w 0 2 < s.sqDepth p)
    (hc : leAt w 4 2 < s.cqDepth p) :
    s.doorbellDone p (.data w) = (s.setPair p { s.pair p with sqTail := leAt w 0 2, cqHead := leAt w 4 2 }).drain p := by
  simp only [State.doorbellDone, h, ne_eq, not_true_eq_false, if_false, Nat.not_le.mpr ht, Nat.not_le.mpr hc]

theorem exec_quarantineEnd {k : Fin 8192} {x : Nat} {s : State} (h : (s.tag k).use = .quarantine x) :
    exec (.quarantineEnd k) s = .next (s.setTag k { s.tag k with use := .free }).settle := by
  show execQuarantineEnd k s = _
  simp only [execQuarantineEnd, h]

/-- Settles O14, by what was read and by the kind of the slot. -/
theorem polling : Obligations.Polling := by
  refine ⟨fun t s hon hen ha hh hk => ⟨_, exec_summaryPoll_host hon hen ha hh hk, ?_, rfl, rfl⟩,
    fun t s hon hen ha hh hk => ⟨s.setSlot t { s.slot t with asked := true }, ?_, ?_, rfl, rfl⟩,
    fun t line s ha => ⟨_, exec_summaryReadDone_data ha line, ?_, ?_, rfl, ?_⟩,
    fun t s ha => ⟨_, exec_summaryReadDone_failed ha, ?_, ?_, ?_⟩,
    fun p w s hr ht hc => ⟨_, by rw [exec_doorbellReadDone, State.doorbellDone_good hr ht hc], ?_, ?_, ?_, ?_⟩,
    fun p w s hr ht => by rw [exec_doorbellReadDone, State.doorbellDone_tail hr ht],
    fun p s hr => by rw [exec_doorbellReadDone, State.doorbellDone_failed hr], fun p s hc => if_neg hc,
    fun k x s h => ⟨_, exec_quarantineEnd h, ?_, ?_, rfl⟩⟩
  · exact congrArg Slot.asked (State.setSlot_slot s t _)
  · exact exec_summaryPoll_ring hon hen ha hh hk
  · rw [State.setSlot_slot]
  · rw [State.lineRead, State.setSlot_slot]
  · rw [State.lineRead, State.setSlot_slot]
  · rw [State.lineRead, State.setSlot_slot]
  · rw [State.lineLost, State.wr_slot, State.setSlot_slot]
  · rw [State.lineLost, State.wr_slot, State.setSlot_slot]
  · simp [State.lineLost, State.flag_wr_same, R.HIF_TEN_STAT_SUM_ERR]
  · rw [State.setPair_pair]
  · rw [State.setPair_pair]
  · rw [State.setPair_pair, hr]
  · rfl
  · rw [State.setTag_tag]
  · rw [State.setTag_tag]

/-! ### Errors of the queue manager and of the PCIe link (R94) -/

theorem exec_queueManagerError (e : QmError) (s : State) : exec (.queueManagerError e) s = .next (s.queueManagerError e).settle := (rfl)

/-- An uncorrectable error of a pair detaches its transactions abnormally, and nothing is left to be written to its CQ. -/
def State.pairLost (s : State) (p : Nat) : State :=
  let s := (s.raise 14 .U p).detachAll p true
  s.setPair p { s.pair p with waiting := [] }

theorem State.queueManagerError_pair (s : State) (p : Fin 512) :
    s.queueManagerError (.pair p) = ((s.pairLost p).stop p 6).drain p := by
  simp only [State.queueManagerError, State.pairLost, Nat.mod_eq_of_lt p.isLt]

theorem State.pcieKept (s : State) : ({ s with hif := { s.hif with pcieUp := s.hif.pcieUp && !false } } : State) = s := by
  rw [Bool.not_false, Bool.and_true]

/-- The host's set-up of the functions as the link comes up (R94). -/
def State.linkTrained (s : State) (bme : List (Fin 16 × List MsixEntry)) (ide : List (Fin 17)) : State :=
  let es := bme.flatMap fun x => x.2.map fun (e : MsixEntry) => (128 * x.1.val + e.vec.val, e)
  { s with hif := { s.hif with
    pcieUp := true, pcieWasUp := true, busMaster := bme.map (·.1.val), ideSecure := ide.map (·.val), ideLost := []
    msixTab := es.foldl (fun m x => NMap.set (fun _ => (0, 0)) m x.1 (x.2.addr.toNat, x.2.data.toNat)) []
    msixOpen := (es.filter fun x => ¬ x.2.masked).map (·.1) } }

theorem exec_pcieLinkUp (bme : List (Fin 16 × List MsixEntry)) (ide : List (Fin 17)) (s : State) :
    exec (.pcieLinkUp bme ide) s = .next (s.linkTrained bme ide).sendPending.resumeWrites.settle := (rfl)

/-- The vectors that are open are those that the host has written unmasked. -/
theorem State.linkTrained_open (s : State) (bme : List (Fin 16 × List MsixEntry)) (ide : List (Fin 17)) (k : Nat) :
    k ∈ (s.linkTrained bme ide).hif.msixOpen ↔ ∃ x ∈ bme, ∃ e ∈ x.2, e.masked = false ∧ k = 128 * x.1.val + e.vec.val := by
  simp only [State.linkTrained, List.mem_map, List.mem_filter, List.mem_flatMap]
  constructor
  · rintro ⟨y, ⟨⟨x, hx, e, he, rfl⟩, hm⟩, rfl⟩
    exact ⟨x, hx, e, he, by simpa using hm, rfl⟩
  · rintro ⟨x, hx, e, he, hm, rfl⟩
    exact ⟨(128 * x.1.val + e.vec.val, e), ⟨⟨x, hx, e, he, rfl⟩, by simp [hm]⟩, rfl⟩

/-- Settles O15, by the error and by the state of the link. -/
theorem hostErrors : Obligations.HostErrors := by
  refine ⟨fun s => rfl, fun p s => ⟨s.pairLost p, by rw [exec_queueManagerError, State.queueManagerError_pair], ?_⟩,
    fun s => ⟨_, exec_queueManagerError .shared s, rfl⟩, fun s h => ⟨{ s with hif := { s.hif with pcieUp := false } }, ?_, rfl, rfl⟩,
    fun s h => if_pos ⟨rfl, by simp [h]⟩, fun s => ⟨_, ?_, rfl⟩, fun bme ide s => ⟨_, exec_pcieLinkUp bme ide s, rfl, ?_, ?_, rfl,
      s.linkTrained_open bme ide, rfl, rfl⟩⟩
  · simp only [State.pairLost, State.setPair_pair]
  · show execPcieLinkLoss true s = _
    rw [execPcieLinkLoss, if_neg (by simp [h]), Bool.not_true, Bool.and_false]
  · show execPcieLinkLoss false s = _
    rw [execPcieLinkLoss, if_neg (by simp), State.pcieKept]
  · intro t; simp [State.linkTrained, Fin.val_inj]
  · intro t; simp [State.linkTrained, Fin.val_inj]

end Sys2Proof.Machine
end

section
/-!
PROOFS. A descriptor at the issuing hub: its tag, its checks, and where it goes (R72, R91, R105).
-/

namespace Sys2Proof.Machine

theorem slice_whole {b : List Byte} {n : Nat} (h : b.length = n) : slice b 0 n = b := by
  subst h; simp [slice]

/-- To pick a tag draws one free value, and writes nothing. -/
theorem State.pickTag_state {s u : State} {k : Option Nat} (h : s.pickTag = (k, u)) : u = { s with drawn := s.drawn + 1 } :=
  (congrArg Prod.snd h).symm

/-- The transaction of a descriptor of pair `p` under tag `k`. -/
def State.descTx (s : State) (p k : Nat) (b : List Byte) : Tx :=
  { slot := p / 32, pair := p, cid := leAt b 2 2, req := s.descReq p k b, haddr := leAt b 0x10 8, seq := s.hif.seq, startAt := s.ns
    tmo := s.rd (R.HIF_TMO_TMO (p / 32)) }

/-- The hub with the descriptor's transaction in flight. -/
def State.descFlown (s : State) (p k : Nat) (b : List Byte) : State :=
  ({ s with hif := { s.hif with seq := s.hif.seq + 1 } } : State).fly k (s.descTx p k b)

theorem State.descIn_stops {s : State} {p k st : Nat} {b : List Byte} (buf : HostData)
    (h : (s.descFlown p k b).descCheck (s.descReq p k b) (leAt b 0x10 8) = some st) :
    s.descIn p k b buf = (s.descFlown p k b).complete k (s.descTx p k b) { status := st } := by
  unfold State.descFlown State.descTx at h
  simp only [State.descIn, State.descFlown, State.descTx, h]

theorem State.descIn_goes {s : State} {p k : Nat} {b : List Byte} (buf : HostData)
    (h : (s.descFlown p k b).descCheck (s.descReq p k b) (leAt b 0x10 8) = none) :
    s.descIn p k b buf = (s.descFlown p k b).issue k (s.descTx p k b) buf := by
  unfold State.descFlown State.descTx at h
  simp only [State.descIn, State.descFlown, State.descTx, h]

section
variable {p : Fin 512} {s : State} (hr : (s.pair p).st = .run) (ha : (s.pair p).asked ≠ 0) (hf : s.fenced p = false)
include hr ha hf

theorem exec_descriptorArrival_failed (buf : HostData) :
    exec (.descriptorArrival p .failed buf) s = .next ((s.stop p 3).drain p).settle := by
  show execDescriptorArrival p .failed buf s = _
  simp only [execDescriptorArrival, hr, ha, hf, ne_eq, not_true_eq_false, Bool.false_eq_true, or_self, if_false]

theorem exec_descriptorArrival_data {k : Nat} {u : State} {b : List Byte} (hk : s.pickTag = (some k, u)) (hb : b.length = 64) (buf : HostData) :
    exec (.descriptorArrival p (.data b) buf) s = .next ((u.advance p).descIn p k b buf).settle := by
  show execDescriptorArrival p (.data b) buf s = _
  simp only [execDescriptorArrival, hr, ha, hf, ne_eq, not_true_eq_false, Bool.false_eq_true, or_self, if_false, hk, slice_whole hb]

end

/-- The tag and the head of the pair are taken; nothing of the registers, the time and the sequence number changes. -/
theorem State.advance_pickTag {s u : State} {k : Option Nat} (h : s.pickTag = (k, u)) (p : Nat) :
    (u.advance p).regs = s.regs ∧ (u.advance p).ns = s.ns ∧ (u.advance p).hif.seq = s.hif.seq := by
  rw [State.pickTag_state h]; exact ⟨rfl, rfl, rfl⟩

/-- An opcode that is not defined fails the first check (Table 04-7). -/
theorem State.descCheck_undefined (s : State) {r : Req} (h : r.op = 0 ∨ 14 < r.op) (a : Nat) : s.descCheck r a = some stUnsupported :=
  if_pos (h.imp_right .inl)

/-- The opcodes of slot 0 are denied to the others (R105). -/
theorem State.descCheck_slot0 (s : State) {r : Req} (ho : r.op = opTableLoad ∨ r.op = opPower ∨ r.op = opUpdate) (hx : r.opx ≤ 1) (ht : r.tn ≠ 0)
    (hsp : r.op = opTableLoad → r.space = 0x300) (a : Nat) : s.descCheck r a = some stDenied := by
  have hsub : subOk r.op r.opx = true := by obtain h | h | h := ho <;> simp [subOk, h] <;> omega
  have hspace : spaceOk r = true := by
    obtain h | h | h := ho
    · simp [spaceOk, localOp, h, hsp h]
    · simp [spaceOk, localOp, h]
    · simp [spaceOk, localOp, h]
  have hdef : ¬ (r.op = 0 ∨ 14 < r.op ∨ ¬ subOk r.op r.opx = true ∨ ¬ spaceOk r = true) := by
    have hop : 0 < r.op ∧ r.op ≤ 14 := by obtain h | h | h := ho <;> simp [h, opTableLoad, opPower, opUpdate]
    rintro (h | h | h | h)
    · omega
    · omega
    · exact h hsub
    · exact h hspace
  rw [State.descCheck, if_neg hdef, if_pos ⟨ho, ht⟩]

/-- Settles O16, by what the read of the descriptor gave and by the first check that fails. -/
theorem descriptors : Obligations.Descriptors := by
  refine ⟨fun p buf s hr ha hf => exec_descriptorArrival_failed hr ha hf buf, fun p k b buf s u hr ha hf hk hb ho => ?_,
    fun p k b buf s u hr ha hf hk hb hp ho hx hsp => ?_, fun p k b buf s u v t hr ha hf hk hb hq ht hv hc => ?_, fun p d buf s h => ?_⟩
  · refine ⟨(u.advance p).descFlown p k b, (u.advance p).descTx p k b, rfl, rfl, rfl, rfl, (State.advance_pickTag hk p).1, ?_⟩
    rw [exec_descriptorArrival_data hr ha hf hk hb, State.descIn_stops buf (State.descCheck_undefined _ ho _)]
  · refine ⟨(u.advance p).descFlown p k b, (u.advance p).descTx p k b, rfl, rfl, rfl, (State.advance_pickTag hk p).1, ?_⟩
    have hopx : ((u.advance p).descReq p k b).opx ≤ 1 := by
      simp only [State.descReq]; split <;> omega
    rw [exec_descriptorArrival_data hr ha hf hk hb, State.descIn_stops buf (State.descCheck_slot0 _ ho hopx hp hsp _)]
  · obtain ⟨hregs, hns, hseq⟩ := State.advance_pickTag hk p
    have htx : t = (u.advance p).descTx p k b := by
      rw [ht, hq, State.descTx, hns, hseq, State.rd_of_regs hregs]
    have hfl : v = (u.advance p).descFlown p k b := by rw [hv, htx, State.descFlown, hseq]
    rw [exec_descriptorArrival_data hr ha hf hk hb, hfl, htx, State.descIn_goes buf]
    rw [hfl, htx] at hc
    exact hc
  · exact if_pos (h.imp_right .inr)

end Sys2Proof.Machine
end

section
/-!
PROOFS. How a transaction ends: by its response, its timeout, the loss of its path, or the outcome of a write to the host (R83, R87, R126 to R130).
-/

namespace Sys2Proof.Machine

/-- A transaction is in flight under a tag when the tag is used by it. -/
theorem State.flight_some {s : State} {k : Nat} {t : Tx} : s.flight k = some t ↔ (s.tag k).use = .flight t := by
  unfold State.flight; split
  · rename_i u h; rw [h]; simp
  · rename_i h; simpa using h t

/-- Without a transaction in flight an outcome comes too late. -/
theorem State.finish_late {s : State} {k : Nat} (h : s.flight k = none) (g : Nat) (o : Outc) : s.finish k g o = s.inc R.HIF_LATE_RSP_COUNT := by
  unfold State.finish; split
  · rename_i t ht; rw [State.flight_some.mpr ht] at h; cases h
  · rfl

/-- An outcome of the tag's generation ends a transaction that has not ended. -/
theorem State.finish_ends {s : State} {k g : Nat} {t : Tx} (h : s.flight k = some t) (hg : g = (s.tag k).gen) (hd : t.done = false) (o : Outc) :
    s.finish k g o = (s.noteEnd t o).complete k t o := by
  simp [State.finish, State.flight_some.mp h, hg, hd]

/-- A transaction of a tenant that is aborted is done, and its entry retires the tag abnormally. -/
theorem State.abort_posts {s : State} {k : Nat} {t : Tx} (h : s.flight k = some t) (hd : t.detached = false) (hr : t.rop = none) (st : Nat) :
    s.abort k st = (s.setTag k { s.tag k with use := .flight { t with done := true } }).post t.pair { t.entry k { status := st } with abn := true } := by
  simp [State.abort, State.flight_some.mp h, hd, hr]

theorem exec_transactionTimeout {k : Fin 8192} {t : Tx} {s : State} (h : s.flight k = some t) (hd : t.done = false) (ho : t.req.op ≠ opRecv)
    (hf : t.req.op ≠ opFence) (hu : t.req.op ≠ opUpdate) : exec (.transactionTimeout k) s = .next (s.abort k stTimeout).settle := by
  show execTransactionTimeout k s = _
  simp only [execTransactionTimeout, h, hd, ho, hf, hu, Bool.false_eq_true, or_self, if_false]

theorem exec_transactionTimeout_untimed {k : Fin 8192} {t : Tx} {s : State} (h : s.flight k = some t)
    (ho : t.req.op = opRecv ∨ t.req.op = opFence ∨ t.req.op = opUpdate) : exec (.transactionTimeout k) s = .next s := by
  show execTransactionTimeout k s = _
  simp only [execTransactionTimeout, h]
  exact if_pos (.inr ho)

/-- A response frame that this hub consumes, awake. -/
theorem exec_rspReceive_frame {n : Nat} {f : Frame} {s : State} (ht : f.typ = fRsp) (hm : f.mark = .valid) (hc : s.consumes f = true)
    (ha : s.pwr.asleep = false) : exec (.rspReceive (.frame n f)) s = .next (s.rspIn f).settle :=
  if_pos ⟨ht, hm, hc, by simp [ha]⟩

/-- Of a response to anything but an UNLOCK the outcome is what counts. -/
theorem State.rspIn_flight {s : State} {f : Frame} {t : Tx} (he : f.ceEcho = false) (h : s.flight f.tag = some t) (ho : t.req.op ≠ opUnlock) :
    s.rspIn f = s.finish f.tag f.gen (rspOutc f) := by
  simp only [State.rspIn, he, Bool.false_eq_true, if_false, h, ho, false_and]

theorem State.rspIn_none {s : State} {f : Frame} (he : f.ceEcho = false) (h : s.flight f.tag = none) :
    s.rspIn f = s.finish f.tag f.gen (rspOutc f) := by
  simp only [State.rspIn, he, Bool.false_eq_true, if_false, h]

/-- An entry write of pair `p` has been counted off, and the interrupts that wait for it alone are no longer due. -/
def State.countedOff (s : State) (p : Nat) : State :=
  s.setPair p { s.pair p with unconf := (s.pair p).unconf - 1, irqDue := ((s.pair p).irqDue.map (· - 1)).filter (· ≠ 0) }

theorem State.countedOff_pair (s : State) (p : Nat) : (s.countedOff p).pair p =
    { s.pair p with unconf := (s.pair p).unconf - 1, irqDue := ((s.pair p).irqDue.map (· - 1)).filter (· ≠ 0) } := State.setPair_pair _ _ _

theorem State.cqWritten_ok {s : State} {p : Nat} (h : (s.pair p).unconf ≠ 0) :
    s.cqWritten p true = (((s.pair p).irqDue.map (· - 1)).filter (· = 0)).foldl
      (fun s _ => s.signal (p / 32) (s.rd (R.Q_CFG_VEC (p / 32) (p % 32))) false) (s.countedOff p) := by
  simp only [State.cqWritten, h, if_false, if_true, State.countedOff]

theorem State.cqWritten_failed {s : State} {p : Nat} (h : (s.pair p).unconf ≠ 0) : s.cqWritten p false = (s.countedOff p).stop p 4 := by
  simp only [State.cqWritten, h, if_false, Bool.false_eq_true, State.countedOff]

theorem exec_rspReceive_cqWrite (p : Nat) (ok : Bool) (s : State) : exec (.rspReceive (.cqWrite p ok)) s = .next (s.cqWritten p ok).settle := (rfl)

theorem exec_rspReceive_dataWrite (k : Nat) (ok : Bool) (s : State) :
    exec (.rspReceive (.dataWrite k ok)) s = .next (s.dataWritten k ok).settle := (rfl)

/-- The entry of a transaction follows the write of its data. -/
theorem State.dataWritten_posts {s : State} {k : Nat} {t : Tx} {e : CqEntry} (h : s.flight k = some t) (hc : t.confirm = some e) (ok : Bool) :
    s.dataWritten k ok = (s.fly k { t with confirm := none }).post t.pair (if ok then e else e.busError) := by
  simp only [State.dataWritten, h, hc]

theorem exec_pathLoss (k : Fin 8192) (g : Fin 8) (s : State) : exec (.pathLoss k g) s = .next (s.pathNotice k g).settle := (rfl)

/-- A repeatable read that has lost its path is sent again, once, in the other direction. -/
theorem State.pathLost_again {s : State} {k : Nat} {t : Tx} (h : s.flight k = some t) (hr : t.remote = true) (hd : t.done = false)
    (hre : reissuable t.req = true) (hn : t.reissued = false) (hh : s.hops t.ring t.via (1 - t.dir) ≠ 0xFF) :
    s.pathLost k =
      (s.setTag k { s.tag k with use := .flight { t with req := { t.req with reissue := true }, dir := 1 - t.dir, reissued := true } }).submit
        bHost (lane t.ring (1 - t.dir)) { ({ t.req with reissue := true } : Req).toFrame with dst := t.req.node } := by
  simp only [State.pathLost, h, hr, hd, hre, hn, hh, not_true_eq_false, false_and, Bool.false_eq_true, or_self, if_false, not_false_eq_true,
    ne_eq, and_self, if_true]

theorem State.pathLost_ends {s : State} {k : Nat} {t : Tx} (h : s.flight k = some t) (hr : t.remote = true) (hd : t.done = false)
    (hre : reissuable t.req = false ∨ t.reissued = true) : s.pathLost k = s.abort k stPathLost := by
  have hn : ¬ (t.remote = true ∧ reissuable t.req = true ∧ ¬ t.reissued = true ∧ s.hops t.ring t.via (1 - t.dir) ≠ 0xFF) := by
    rintro ⟨-, h1, h2, -⟩
    obtain h' | h' := hre
    · rw [h'] at h1; cases h1
    · exact h2 h'
  simp only [State.pathLost, h, hn, if_false]
  simp [hr, hd]

/-- Settles O17, by what ends the transaction. -/
theorem transactionEnds : Obligations.TransactionEnds := by
  refine ⟨fun k t s h hd hdt hr ho hf hu => by rw [exec_transactionTimeout h hd ho hf hu, State.abort_posts h hdt hr],
    fun k t s h ho => exec_transactionTimeout_untimed h ho, fun n t f s ht hm hc ha he h hg hd ho => ?_,
    fun n f s ht hm hc ha he h => ?_, fun p s hu hi => ⟨s.countedOff p, ?_, ?_, rfl⟩, fun p s hu hi => ⟨s.countedOff p, ?_, ?_, ?_, rfl⟩,
    fun p s hu => ⟨s.countedOff p, ?_, ?_, rfl⟩, fun k ok t e s h hc => by rw [exec_rspReceive_dataWrite, State.dataWritten_posts h hc],
    fun k g s hg => by rw [exec_pathLoss, State.pathNotice, if_neg hg], fun k g t s hg h hr hd hre hn hh => ?_, fun k g t s hg h hr hd hre => ?_⟩
  · rw [exec_rspReceive_frame ht hm hc ha, State.rspIn_flight he h ho, State.finish_ends h hg hd]
  · rw [exec_rspReceive_frame ht hm hc ha, State.rspIn_none he h, State.finish_late h]
  · rw [exec_rspReceive_cqWrite, State.cqWritten_ok hu, hi]; rfl
  · rw [State.countedOff_pair]
  · rw [exec_rspReceive_cqWrite, State.cqWritten_ok hu, hi]; rfl
  · rw [State.countedOff_pair]
  · rw [State.countedOff_pair, hi]; rfl
  · rw [exec_rspReceive_cqWrite, State.cqWritten_failed hu]
  · rw [State.countedOff_pair]
  · rw [exec_pathLoss, State.pathNotice, if_pos hg, State.pathLost_again h hr hd hre hn hh]
  · rw [exec_pathLoss, State.pathNotice, if_pos hg, State.pathLost_ends h hr hd hre]

end Sys2Proof.Machine
end

section
/-!
PROOFS. The opcodes that act at the issuing hub alone: UNLOCK, RECV, FENCE, POWER and UPDATE.
-/

namespace Sys2Proof.Machine

/-! ### A command that carries out an admitted request -/

theorem State.carry_does {s : State} {r : Req} {c : Bool} (h : s.inTurn r = true) (hc : c = true) (f : State → State) :
    s.carry r c f = (f (s.taken r)).settle := if_pos ⟨h, hc⟩

/-- A request that no bridge queue orders is in its turn once it is admitted. -/
theorem State.inTurn_of_mem {s : State} {r : Req} (h : r ∈ s.tgt.accepted) (hb : forBridge r = false) : s.inTurn r = true := by
  simp [State.inTurn, h, hb]

theorem forBridge_of_op {r : Req} (h : r.op ≠ opRead ∧ r.op ≠ opWrite ∧ r.op ≠ opRmw) : forBridge r = false := by simp [forBridge, h]

theorem forBridge_of_space {r : Req} (h : 64 ≤ r.space) : forBridge r = false := by simp [forBridge, Nat.not_lt.mpr h]

/-- An admitted request of an opcode that goes through no bridge queue is carried out. -/
theorem State.carry_op {s : State} {r : Req} {c : Bool} {op : Nat} (h : r ∈ s.tgt.accepted) (ho : r.op = op) (hc : c = true) (f : State → State)
    (hop : op ≠ opRead ∧ op ≠ opWrite ∧ op ≠ opRmw := by decide) : s.carry r c f = (f (s.taken r)).settle :=
  State.carry_does (State.inTurn_of_mem h (forBridge_of_op (ho ▸ hop))) hc f

theorem State.txOf_here {s : State} {r : Req} {k : Nat} {t : Tx} (h : r.origin = .here k) (ht : s.flight k = some t) : s.txOf r = some (k, t) := by
  simp [State.txOf, h, ht]

/-! ### UNLOCK (R113, R348) -/

@[simp] theorem State.sendRelease_deep (s : State) (slot id : Nat) (bus : Nat × Nat) (k g tc td : Nat) :
    (s.sendRelease slot id bus k g tc td).deep = s.deep := by simp [State.sendRelease]

@[simp] theorem State.closeSeq_deep (s : State) (slot id k g tc td : Nat) : (s.closeSeq slot id k g tc td).deep = s.deep := by
  unfold State.closeSeq; dsimp only; split
  · rfl
  · simp [deep_foldl]

/-- A sequence whose buses are all at this hub has no release to wait for. -/
theorem State.releaseWaits_mine {s : State} {q : LockSeq} (h : ∀ b ∈ q.sent, s.isMine b.1 = true) : s.releaseWaits q = [] := by
  have hf : q.sent.filter (fun b => ¬ s.isMine b.1) = [] := List.filter_eq_nil_iff.mpr fun b hb => by simp [h b hb]
  rw [State.releaseWaits, hf, List.map_nil]

theorem State.unlock_local {s : State} {r : Req} {k : Nat} {t : Tx} {q : LockSeq} (hk : r.origin = .here k) (ht : s.flight k = some t)
    (hq : s.lockSeq r.tn r.lockId = some q) (hd : q.dead s.ns = false) (hm : ∀ b ∈ q.sent, s.isMine b.1 = true) :
    s.unlock r = ((s.fly k { t with need := 0, waits := [], aborted := false }).closeSeq r.tn r.lockId k r.gen r.tc r.td).respond r
      { exec := ((s.fly k { t with need := 0, waits := [], aborted := false }).closeSeq r.tn r.lockId k r.gen r.tc r.td).tdEnc r.td } := by
  have hns (u : State) : (u.closeSeq r.tn r.lockId k r.gen r.tc r.td).ns = u.ns :=
    congrArg (fun d : Deep => d.now / 65536) (u.closeSeq_deep _ _ _ _ _ _)
  have hfly (x : Tx) : (s.fly k x).ns = s.ns := rfl
  simp only [State.unlock, State.txOf_here hk ht, hq, State.releaseWaits_mine hm, List.length_nil, hd, if_true, hns, hfly, Bool.false_eq_true,
    if_false]

/-! ### FENCE (R120) -/

/-- A FENCE drops the descriptor reads of its scope, and touches no other pair. -/
def State.dropReads (s : State) (ps : List Nat) : State := ps.foldl (fun s p => s.setPair p { s.pair p with asked := 0 }) s

theorem State.dropReads_pair (s : State) (ps : List Nat) (q : Nat) :
    (s.dropReads ps).pair q = if q ∈ ps then { s.pair q with asked := 0 } else s.pair q := by
  induction ps generalizing s with
  | nil => rfl
  | cons p ps ih =>
    rw [State.dropReads, List.foldl_cons, ← State.dropReads, ih]
    by_cases hq : q = p
    · subst hq; simp [State.setPair_pair]
    · simp [State.setPair_pair_ne _ _ _ hq, hq]

@[simp] theorem State.dropReads_regs (s : State) (ps : List Nat) : (s.dropReads ps).regs = s.regs :=
  Quiet.foldl (g := State.regs) _ (fun _ _ => State.setPair_regs _ _ _) ps s

@[simp] theorem State.dropReads_tgt (s : State) (ps : List Nat) : (s.dropReads ps).tgt = s.tgt :=
  Quiet.foldl (g := State.tgt) _ (fun _ _ => State.setPair_tgt _ _ _) ps s

theorem State.fence_drops {s : State} {r : Req} {k : Nat} {t : Tx} (hk : r.origin = .here k) (ht : s.flight k = some t) :
    s.fence r = s.dropReads (fenceScope t) := by simp only [State.fence, State.txOf_here hk ht, State.dropReads]

/-- The outcome of a FENCE says nothing of lock sequences and subscriptions. -/
theorem State.noteEnd_fence (s : State) {t : Tx} (h : t.req.op = opFence) (o : Outc) : s.noteEnd t o = s := by
  simp [State.noteEnd, h]

theorem exec_fenceDone {k : Fin 8192} {t : Tx} {s : State} (h : s.flight k = some t) (ho : t.req.op = opFence) (hd : t.done = false)
    (ha : t.req ∉ s.tgt.accepted) (hw : s.fenceWaits t = false) :
    exec (.fenceDone k) s = .next (s.complete k t { exec := s.tdEnc t.req.td }).settle := by
  show execFenceDone k s = _
  have hx : ¬ (t.req.op ≠ opFence ∨ t.done = true ∨ t.req ∈ s.tgt.accepted ∨ s.fenceWaits t = true) := by simp [ho, hd, ha, hw]
  simp only [execFenceDone, h, hx, if_false, State.finish_ends h rfl hd, State.noteEnd_fence _ ho]

/-! ### POWER (R489) -/

section
variable {s : State} {r : Req} (hq : s.pwr.opReq = none) (hw : s.pwr.opWait = [])
include hq hw

/-- A POWER that waits behind none is carried out at once. -/
theorem State.power_alone : s.power r = s.powerGo r := by
  have he : ({ s with pwr := { s.pwr with opWait := [] } } : State) = s := by rw [← hw]
  rw [State.power, he, hw]
  simp only [List.nil_append, State.powerNext, hq, Option.isSome_none, Bool.false_eq_true, if_false]

/-- Another operating point than the one in force waits for the voltage. -/
theorem State.power_waits {op : Nat} (hx : r.opx < 2) (hop : op = if r.opx = 0 then 0 else leAt r.operand 0 1 % 4) (hne : s.rd R.PWR_STAT_OP ≠ op) :
    s.power r = ({ s with pwr := { s.pwr with opReq := some (r, op) } } : State).wr R.PWR_STAT_DVFS_BUSY 1 := by
  rw [State.power_alone hq hw, State.powerGo, if_neg (by omega), ← hop, if_neg hne]

/-- DOZE or DORMANT is to be entered. -/
theorem State.power_sleeps (hx : 2 ≤ r.opx) (hr : s.powerRefused = false) :
    s.power r = (({ s with pwr := { s.pwr with entry := some (decide (r.opx = 3)), early := 0 } } : State).wr R.PWR_STAT_STATE 2).ok r 0 0 := by
  rw [State.power_alone hq hw, State.powerGo, if_pos hx, if_neg (by simp [hr])]

theorem State.power_refused (hx : 2 ≤ r.opx) (hr : s.powerRefused = true) : s.power r = s.refuse r stDenied := by
  rw [State.power_alone hq hw, State.powerGo, if_pos hx, if_pos hr]

end

/-! ### UPDATE (R449, R450) -/

/-- A chunk that follows on, and is not the last, is added to the staging. -/
theorem State.update_next {s : State} {r : Req} {kind refused : Nat} {g : Staging} (hg : s.staging kind = some g)
    (ho : leAt r.operand 0 4 = g.bytes.length) (h0 : 0 < g.bytes.length) (ht : leAt r.operand 4 4 = g.total)
    (hfit : g.bytes.length + r.len ≤ g.total) (hlast : bit (leAt r.operand 8 1) 0 = false) :
    s.update r kind refused false = (s.setStaging kind (some { g with bytes := g.bytes ++ r.data }) 1).updateEnd r kind false := by
  have h0' : g.bytes.length ≠ 0 := by omega
  have hn : ¬ (g.bytes.length ≠ g.bytes.length ∨ g.total ≠ g.total ∨ g.total < g.bytes.length + r.len) := by omega
  simp only [State.update, ho, ht, hlast, h0', hg, hn, Bool.false_eq_true, or_self, false_and, if_false]

theorem State.staging_setStaging (s : State) (kind shown : Nat) (x : Option Staging) : (s.setStaging kind x shown).staging kind = x := by
  unfold State.staging State.setStaging; split <;> rfl

theorem State.updateEnd_more {s : State} {kind : Nat} {g : Staging} (h : s.staging kind = some g) (r : Req) :
    s.updateEnd r kind false = s.ok r 0 r.len := by simp [State.updateEnd, h]

/-- The first and the last chunk are refused while a condition of R450 holds. -/
theorem State.update_refused {s : State} {r : Req} {refused : Nat} (hr : refused ≠ 0)
    (h : leAt r.operand 0 4 = 0 ∨ bit (leAt r.operand 8 1) 0 = true) (kind : Nat) (err : Bool) :
    s.update r kind refused err = (s.wr R.ID_UPD_STAT_REFUSE refused).refuse r stDenied := if_pos ⟨h, hr⟩

/-! ### The commands -/

section
variable {r : Req} {s : State} (hr : r ∈ s.tgt.accepted)
include hr

theorem exec_unlock (ho : r.op = opUnlock) : exec (.unlock r) s = .next ((s.taken r).unlock r).settle :=
  congrArg Host.Outcome.next (State.carry_op hr ho (decide_eq_true ho) _)

theorem exec_recv (ho : r.op = opRecv) : exec (.recv r) s = .next ((s.taken r).recv r).settle :=
  congrArg Host.Outcome.next (State.carry_op hr ho (decide_eq_true ho) _)

theorem exec_fenceSq (ho : r.op = opFence) (hx : r.opx = 0) : exec (.fenceSq r) s = .next ((s.taken r).fence r).settle :=
  congrArg Host.Outcome.next (State.carry_op hr ho (decide_eq_true ⟨ho, hx⟩) _)

theorem exec_fenceSlot (ho : r.op = opFence) (hx : r.opx = 1) : exec (.fenceSlot r) s = .next ((s.taken r).fence r).settle :=
  congrArg Host.Outcome.next (State.carry_op hr ho (decide_eq_true ⟨ho, hx⟩) _)

theorem exec_powerRun (ho : r.op = opPower) (hx : r.opx = 0) : exec (.powerRun r) s = .next ((s.taken r).power r).settle :=
  congrArg Host.Outcome.next (State.carry_op hr ho (decide_eq_true ⟨ho, hx⟩) _)

theorem exec_powerTrim (ho : r.op = opPower) (hx : r.opx = 1) : exec (.powerTrim r) s = .next ((s.taken r).power r).settle :=
  congrArg Host.Outcome.next (State.carry_op hr ho (decide_eq_true ⟨ho, hx⟩) _)

theorem exec_powerDoze (ho : r.op = opPower) (hx : r.opx = 2) : exec (.powerDoze r) s = .next ((s.taken r).power r).settle :=
  congrArg Host.Outcome.next (State.carry_op hr ho (decide_eq_true ⟨ho, hx⟩) _)

theorem exec_powerDormant (ho : r.op = opPower) (hx : r.opx = 3) : exec (.powerDormant r) s = .next ((s.taken r).power r).settle :=
  congrArg Host.Outcome.next (State.carry_op hr ho (decide_eq_true ⟨ho, hx⟩) _)

theorem exec_updateFirmware (ho : r.op = opUpdate) (hx : r.opx = 0) (e : StopEnv) (err : Bool) :
    exec (.updateFirmware r e err) s =
      .next ((s.taken r).update r 1 ((s.taken r).refusals e) (err || (s.taken r).pwr.kaolinLost)).settle :=
  congrArg Host.Outcome.next (State.carry_op hr ho (decide_eq_true ⟨ho, hx⟩) _)

theorem exec_updateBundle (ho : r.op = opUpdate) (hx : r.opx = 1) (e : StopEnv) (err : Bool) :
    exec (.updateBundle r e err) s =
      .next ((s.taken r).update r 2 ((s.taken r).refusals e) (err || (s.taken r).pwr.kaolinLost)).settle :=
  congrArg Host.Outcome.next (State.carry_op hr ho (decide_eq_true ⟨ho, hx⟩) _)

end

/-- A RECV of messages stays posted. -/
theorem State.recv_messages (s : State) {r : Req} (h : leAt r.operand 0 1 = 0) : s.recv r = s := if_pos (by simp [h])

/-- A RECV of raw items takes the oldest that waits. -/
theorem State.recv_raw {s : State} {r : Req} {k : Nat} {t : Tx} {x : RawItem} {xs : List RawItem} (h : leAt r.operand 0 1 = 1)
    (hx : s.rxq (leAt r.operand 1 1) = x :: xs) (hf : s.recvFor r.tn 1 (leAt r.operand 1 1) none = some (k, t)) :
    s.recv r = (s.setRxq (leAt r.operand 1 1) xs).fillRecv k t x.bytes x.at_ (leAt r.operand 1 1) := by
  simp only [State.recv, h, ne_eq, not_true_eq_false, if_false, hx, hf]

theorem fenceScope_sq {t : Tx} (h : t.req.opx = 0) : fenceScope t = [t.pair] := by simp [fenceScope, h]

theorem mem_fenceScope_slot {t : Tx} (h : t.req.opx = 1) (q : Nat) : q ∈ fenceScope t ↔ q / 32 = t.slot := by
  simp only [fenceScope, h, if_true, List.mem_map, List.mem_range]
  exact ⟨fun ⟨i, hi, e⟩ => by omega, fun e => ⟨q % 32, by omega, by omega⟩⟩

theorem State.fwStg_setStaging (s : State) (x : Option Staging) (shown : Nat) : (s.setStaging 1 x shown).boot.fwStg = x :=
  State.staging_setStaging s 1 shown x

theorem State.bndStg_setStaging (s : State) (x : Option Staging) (shown : Nat) : (s.setStaging 2 x shown).boot.bndStg = x :=
  State.staging_setStaging s 2 shown x

@[simp] theorem State.setStaging_hif (s : State) (kind shown : Nat) (x : Option Staging) : (s.setStaging kind x shown).hif = s.hif := by
  simp only [State.setStaging, State.wr_hif]

/-- The chunk of either kind is answered once it is added to its staging. -/
theorem State.update_answers {s : State} {r : Req} {kind refused : Nat} {g : Staging} (hg : s.staging kind = some g)
    (ho : leAt r.operand 0 4 = g.bytes.length) (h0 : 0 < g.bytes.length) (ht : leAt r.operand 4 4 = g.total)
    (hfit : g.bytes.length + r.len ≤ g.total) (hlast : bit (leAt r.operand 8 1) 0 = false) :
    s.update r kind refused false = (s.setStaging kind (some { g with bytes := g.bytes ++ r.data }) 1).ok r 0 r.len := by
  rw [State.update_next hg ho h0 ht hfit hlast, State.updateEnd_more (State.staging_setStaging _ _ _ _)]

/-- DVFS_BUSY is shown while the voltage is awaited. -/
theorem State.busy_shown (s : State) : (s.wr R.PWR_STAT_DVFS_BUSY 1).rd R.PWR_STAT_DVFS_BUSY = 1 := State.rd_wr_same _ _ _ (by decide)

/-- STATE shows that DOZE or DORMANT is being entered. -/
theorem State.entering_shown (s : State) : (s.wr R.PWR_STAT_STATE 2).rd R.PWR_STAT_STATE = 2 := State.rd_wr_same _ _ _ (by decide)

/-- Settles O18, by opcode. -/
theorem localOpcodes : Obligations.LocalOpcodes := by
  refine ⟨fun r k t q s hr ho hk ht hq hd hm => ⟨_, ?_, rfl⟩, fun r s hr ho h0 => by rw [exec_recv hr ho, State.recv_messages _ h0],
    fun r k t x xs s hr ho h1 hx hf => by rw [exec_recv hr ho, State.recv_raw h1 (s := s.taken r) hx hf],
    fun r k t s hr ho hx hk ht htx => ⟨(s.taken r).dropReads (fenceScope t), ?_, ?_, fun p hp => ?_, ?_, ?_⟩,
    fun r k t s hr ho hx hk ht htx => ⟨(s.taken r).dropReads (fenceScope t), ?_, fun i hi => ?_, fun p hp => ?_, ?_⟩,
    fun k t s h ho hd ha hw => exec_fenceDone h ho hd ha hw,
    fun r s hr ho hx hq hw hne => ⟨({ s.taken r with pwr := { s.pwr with opReq := some (r, 0) } } : State).wr R.PWR_STAT_DVFS_BUSY 1,
      ?_, by rw [State.wr_pwr], State.busy_shown _, State.wr_hif ..⟩,
    fun r s hr ho hx hq hw hne => ⟨({ s.taken r with pwr := { s.pwr with opReq := some (r, leAt r.operand 0 1 % 4) } } : State).wr
      R.PWR_STAT_DVFS_BUSY 1, ?_, by rw [State.wr_pwr], State.busy_shown _, State.wr_hif ..⟩,
    fun r s hr ho hx hq hw hp => ⟨({ s.taken r with pwr := { s.pwr with entry := some false, early := 0 } } : State).wr R.PWR_STAT_STATE 2,
      ?_, by rw [State.wr_pwr], State.entering_shown _, by rw [State.wr_pwr]; exact hq, State.wr_hif ..⟩,
    fun r s hr ho hx hq hw hp => ⟨({ s.taken r with pwr := { s.pwr with entry := some true, early := 0 } } : State).wr R.PWR_STAT_STATE 2,
      ?_, by rw [State.wr_pwr], State.entering_shown _, by rw [State.wr_pwr]; exact hq, State.wr_hif ..⟩,
    fun r s hr ho hx hq hw hp => ⟨fun h2 => ⟨s.taken r, ?_, rfl⟩, fun h3 => ⟨s.taken r, ?_, rfl⟩⟩,
    fun r e g s hr ho hx hg hofs h0 ht hfit hl hkl => ⟨(s.taken r).setStaging 1 (some { g with bytes := g.bytes ++ r.data }) 1, ?_,
        State.fwStg_setStaging .., by rw [State.setStaging_hif, State.taken_hif]⟩,
    fun r e g s hr ho hx hg hofs h0 ht hfit hl hkl => ⟨(s.taken r).setStaging 2 (some { g with bytes := g.bytes ++ r.data }) 1, ?_,
        State.bndStg_setStaging .., by rw [State.setStaging_hif, State.taken_hif]⟩,
    fun r e err s hr ho hx hf hc => ⟨fun h0 => ⟨_, ?_, rfl⟩, fun h1 => ⟨_, ?_, rfl⟩⟩⟩
  · rw [exec_unlock hr ho, State.unlock_local hk (s := s.taken r) ht hq hd hm]
  · rw [exec_fenceSq hr ho hx, State.fence_drops hk (s := s.taken r) ht]
  · rw [State.dropReads_pair, fenceScope_sq htx, if_pos (List.mem_singleton.mpr rfl)]
  · rw [State.dropReads_pair, fenceScope_sq htx, if_neg (by simpa using hp), State.taken_pair]
  · rw [State.dropReads_regs, State.taken_regs]
  · rw [State.dropReads_tgt, State.taken_accepted]
  · rw [exec_fenceSlot hr ho hx, State.fence_drops hk (s := s.taken r) ht]
  · rw [State.dropReads_pair, if_pos ((mem_fenceScope_slot htx _).mpr (by omega))]
  · rw [State.dropReads_pair, if_neg (fun h => hp ((mem_fenceScope_slot htx _).mp h)), State.taken_pair]
  · rw [State.dropReads_regs, State.taken_regs]
  · rw [exec_powerRun hr ho hx, State.power_waits (s := s.taken r) hq hw (by omega) (if_pos hx).symm hne, State.taken_pwr]
  · rw [exec_powerTrim hr ho hx, State.power_waits (s := s.taken r) hq hw (by omega) (if_neg (by omega)).symm hne, State.taken_pwr]
  · rw [exec_powerDoze hr ho hx, State.power_sleeps (s := s.taken r) hq hw (by omega) hp, hx]; rfl
  · rw [exec_powerDormant hr ho hx, State.power_sleeps (s := s.taken r) hq hw (by omega) hp, hx]; rfl
  · rw [exec_powerDoze hr ho h2, State.power_refused (s := s.taken r) hq hw hx hp]
  · rw [exec_powerDormant hr ho h3, State.power_refused (s := s.taken r) hq hw hx hp]
  · rw [exec_updateFirmware hr ho hx, State.taken_pwr, hkl, Bool.or_self, State.update_answers (kind := 1) (s := s.taken r) (g :=
      g) hg hofs h0 ht hfit hl]
  · rw [exec_updateBundle hr ho hx, State.taken_pwr, hkl, Bool.or_self, State.update_answers (kind := 2) (s := s.taken r) (g :=
      g) hg hofs h0 ht hfit hl]
  · rw [exec_updateFirmware hr ho h0, State.update_refused hf hc]
  · rw [exec_updateBundle hr ho h1, State.update_refused hf hc]

end Sys2Proof.Machine
end

section
/-!
PROOFS. Requests at their target: the admission of a request, and READ, WRITE and RMW in each space.
-/

namespace Sys2Proof.Machine

/-! ### Admission (R30, R124) -/

section
variable {f : Frame} {s : State} (hf : f.typ = fReq) (hm : f.mark = .valid) (hc : s.consumes f = true) (hj : s.isJoined f.dst = true)
  (ha : s.pwr.asleep = false) (ho : f.op ≠ opUnlock)
include hf hm hc hj ha ho

/-- A hub that has joined and is awake puts a request other than a release through the checks. -/
theorem exec_reqReceive : exec (.reqReceive f) s = .next (s.enter (Req.ofFrame f)).settle := by
  show execReqReceive f s = _
  rw [execReqReceive, if_pos ⟨hf, hm, hc, hj, by simp [ha]⟩]
  exact congrArg (fun t : State => Host.Outcome.next t.settle) (if_neg ho)

end

/-- A hub that has not joined, sleeps, or is not the request's target takes none. -/
theorem exec_reqReceive_none {f : Frame} {s : State} (h : s.isJoined f.dst = false ∨ s.pwr.asleep = true ∨ s.consumes f = false) :
    exec (.reqReceive f) s = .next s := by
  show execReqReceive f s = _
  rw [execReqReceive, if_neg]
  rintro ⟨-, -, hc, hj, ha⟩
  simp [hc, hj, ha] at h

theorem State.enter_refused {s : State} {r : Req} {st : Nat} (h : s.targetCheck r = some st) (hst : st ≠ stNoRoute) : s.enter r = s.refuse r st := by
  simp [State.enter, h, hst]

theorem State.enter_noRoute {s : State} {r : Req} (h : s.targetCheck r = some stNoRoute) :
    s.enter r = (s.inc R.RING_NOROUTE_CNT_MISS).refuse r stNoRoute := by
  simp [State.enter, h, State.refuseRoute]

section
variable {s : State} {r : Req} (h : s.targetCheck r = none)
include h

theorem State.enter_inSafe (hs : s.inSafe = true) (hr : safeRefuses r = true) : s.enter r = s.refuse r stSafe := by
  simp [State.enter, h, hs, hr]

theorem State.enter_queues (hs : s.inSafe = false) (ht : r.timed = false) : s.enter r = s.queueReq r := by
  simp [State.enter, h, hs, ht]

/-- A timed request waits for its TIME. -/
theorem State.enter_holds (hs : s.inSafe = false) (ht : r.timed = true) (he : s.flag (R.TD_CFG_EN r.td) = true)
    (hn : s.tdNow r.td < timeDec r.time) (hl : s.tgt.held.length < 1024) :
    s.enter r = { s with tgt := { s.tgt with held := s.tgt.held ++ [r] } } := by
  simp only [State.enter, h, hs, ht, Bool.false_eq_true, false_and, if_false, if_true, State.admitTimed, he, not_true_eq_false, if_pos hn,
    if_neg (Nat.not_le.mpr hl)]

end

/-- A held request starts once its domain reads TIME. -/
theorem exec_timedOpDue {r : Req} {s : State} (h : r ∈ s.tgt.held ∧ timeDec r.time ≤ s.tdNow r.td) :
    exec (.timedOpDue r) s = .next ({ s with tgt := { s.tgt with held := s.tgt.held.erase r } }.queueReq r) := if_pos h

/-- Settles O19, by the outcome of the checks. -/
theorem admission : Obligations.Admission := by
  refine ⟨fun f st s hf hm hc hj ha ho h hst => ?_, fun f s hf hm hc hj ha ho h => ?_, fun f s hf hm hc hj ha ho h hs hr => ?_,
    fun f s hf hm hc hj ha ho h hs ht => ⟨s.queueReq (Req.ofFrame f), ?_, rfl, rfl, rfl⟩,
    fun f s hf hm hc hj ha ho h hs ht he hn hl => ⟨{ s with tgt := { s.tgt with held := s.tgt.held ++ [Req.ofFrame f] } }, ?_, rfl, rfl⟩,
    fun f s h => exec_reqReceive_none h, fun r s hr ht => ⟨_, exec_timedOpDue ⟨hr, ht⟩, rfl, rfl, rfl, rfl⟩⟩
  · rw [exec_reqReceive hf hm hc hj ha ho, State.enter_refused h hst]
  · rw [exec_reqReceive hf hm hc hj ha ho, State.enter_noRoute h]
  · rw [exec_reqReceive hf hm hc hj ha ho, State.enter_inSafe h hs hr]
  · rw [exec_reqReceive hf hm hc hj ha ho, State.enter_queues h hs ht]
  · rw [exec_reqReceive hf hm hc hj ha ho, State.enter_holds h hs ht he hn hl]

/-! ### READ (R107) -/

/-- A READ of another space than a device's is carried out once it is admitted. -/
theorem exec_read {r : Req} {d : HostData} {s : State} (h : r ∈ s.tgt.accepted) (ho : r.op = opRead) (hb : 64 ≤ r.space) :
    exec (.read r d) s = .next ((s.taken r).read r d).settle :=
  congrArg Host.Outcome.next (State.carry_does (State.inTurn_of_mem h (forBridge_of_space hb)) (decide_eq_true ho) _)

/-- The bytes of a range inside one record are bytes of that record. -/
theorem State.readPoints_one {s : State} {off len : Nat} (h1 : 1 ≤ len) (h : off % 64 + len ≤ 64) :
    s.readPoints off len = slice (s.point (off / 64)).bytes (off % 64) len := by
  have he : (off + len - 1) / 64 = off / 64 := by omega
  simp [State.readPoints, he, List.range_succ]

theorem State.tableBytes_region {s : State} {off n : Nat} (h : off / 2 ^ 24 < 4) :
    s.tableBytes off n = memRead s.rfx.stg (tblKey (off / 2 ^ 24) (off % 2 ^ 24)) n := if_pos h

theorem State.devAccess_noTarget {s : State} {r : Req} (h : s.devTarget r.space = none) :
    s.devAccess r = (s.inc R.RING_NOROUTE_CNT_MISS).refuse r stNoRoute := by
  simp only [State.devAccess, h, State.refuseRoute]

section
variable {s : State} {r : Req} {d : HostData}

theorem State.read_points (h : r.space = 0x100) : s.read r d = s.ok r 0 r.len (s.readPoints r.off r.len) := by simp [State.read, h]

theorem State.read_setup (h : r.space = 0x200) (hl : r.locked = true) :
    s.read r d = (s.setupRead r.off r.len).2.ok r 0 r.len (s.setupRead r.off r.len).1 := by
  simp [State.read, h, State.readSetup, hl, State.readDirect]

theorem State.read_table (h : r.space = 0x300) : s.read r d = s.ok r 0 r.len (s.tableBytes r.off r.len) := by simp [State.read, h]

theorem State.read_host (h : r.space = 0x400) : s.read r d = s.readHost r d := by simp [State.read, h]

theorem State.read_device (h : r.space < 64) : s.read r d = s.devAccess r := if_pos h

end

/-- Settles O20, space by space. -/
theorem reads : Obligations.Reads := by
  refine ⟨fun r d s hr ho h h1 hl => ?_, fun r d s hr ho h hg => ?_, fun r d b s u hr ho h hl hu => ?_, fun r b s hr ho h hc => ?_,
    fun r s hr ho h hc => ?_, fun r d s hr ho h hc => ?_, fun r d s hi ho h hn => ?_⟩
  · rw [exec_read hr ho (by omega), State.read_points h, State.taken_readPoints, State.readPoints_one h1 hl]
  · rw [exec_read hr ho (by omega), State.read_table h, State.taken_tableBytes, State.tableBytes_region hg]
  · rw [exec_read hr ho (by omega), State.read_setup h hl, hu]
  · rw [exec_read hr ho (by omega), State.read_host h]
    simp [State.readHost, hc, -Nat.reducePow]
  · rw [exec_read hr ho (by omega), State.read_host h]
    simp [State.readHost, hc, -Nat.reducePow]
  · rw [exec_read hr ho (by omega), State.read_host h]
    simp [State.readHost, hc, -Nat.reducePow]
  · show Host.Outcome.next (s.carry r _ _) = _
    rw [State.carry_does hi (decide_eq_true ho), State.read_device h, State.devAccess_noTarget (s := s.taken r) hn]

/-! ### WRITE (R108) -/

theorem exec_write {r : Req} {s : State} (h : r ∈ s.tgt.accepted) (ho : r.op = opWrite) (hb : 64 ≤ r.space) :
    exec (.write r) s = .next ((s.taken r).write r).settle :=
  congrArg Host.Outcome.next (State.carry_does (State.inTurn_of_mem h (forBridge_of_space hb)) (decide_eq_true ho) _)

section
variable {s : State} {w : Who} {n : Nat} {data : List Byte} (hl : data.length = 8)
include hl

/-- A write of a point's VALUE that its right refuses. -/
theorem State.writePoint_denied (h : (s.point n).refusesWrite w (s.flag R.ID_COMMIT_COMMITTED) 0 8 = true) :
    s.writePoint w (64 * n) data = (stDenied, s) := by
  simp [State.writePoint, hl, h]

section
variable (h : (s.point n).refusesWrite w (s.flag R.ID_COMMIT_COMMITTED) 0 8 = false)
include h

theorem State.writePoint_nan (hn : isNaN (s.point n).type (leNat data) = true) (ho : (s.point n).isOutput = true) :
    s.writePoint w (64 * n) data = (stDataBad, s) := by
  simp [State.writePoint, hl, h, leAt, slice_whole hl, hn, ho]

theorem State.writePoint_forced (hn : ¬ (isNaN (s.point n).type (leNat data) = true ∧ (s.point n).isOutput = true))
    (hf : (s.point n).isForced = true) : s.writePoint w (64 * n) data = (stOk, s.setPoint n { s.point n with forced := leNat data }) := by
  simp [State.writePoint, hl, h, leAt, slice_whole hl, hf]
  simpa using hn

theorem State.writePoint_delivers (hn : ¬ (isNaN (s.point n).type (leNat data) = true ∧ (s.point n).isOutput = true))
    (hf : (s.point n).isForced = false) :
    s.writePoint w (64 * n) data = (stOk, s.deliver n ⟨leNat data, s.tdEnc (s.point n).dom, none⟩) := by
  simp [State.writePoint, hl, h, leAt, slice_whole hl, hf]
  simpa using hn

end

end

/-- The writer of a point that is not forced may write its VALUE. -/
theorem Point.writer_mayWrite {p : Point} {w : Who} (c : Bool) (hh : p.hub = false) (hw : w.slot = some p.writerSlot) (hf : p.isForced = false) :
    p.refusesWrite w c 0 8 = false := by
  simp [Point.refusesWrite, hh, hw, hf]

/-- Another than the writer may not, while the point is not forced. -/
theorem Point.other_refused {p : Point} {w : Who} (c : Bool) (hw : p.hub = true ∨ w.slot ≠ some p.writerSlot) (hf : p.isForced = false) :
    p.refusesWrite w c 0 8 = true := by
  rcases hw with hw | hw <;> simp [Point.refusesWrite, hw, hf]

/-- PF0 may write a forced point. -/
theorem Point.owner_mayForce {p : Point} {w : Who} (c : Bool) (hw : w.slot = some 0) (hf : p.isForced = true) : p.refusesWrite w c 0 8 = false := by
  simp [Point.refusesWrite, hw, hf]

section
variable {s : State} {r : Req}

theorem State.write_point (h : r.space = 0x100) : s.write r =
    if (s.writePoint (s.who r) r.off r.data).1 = stOk then ((s.writePoint (s.who r) r.off r.data).2.refreshPoint (r.off / 64)).ok r 0 r.len
    else (s.writePoint (s.who r) r.off r.data).2.refuse r (s.writePoint (s.who r) r.off r.data).1 := by
  simp [State.write, h]

theorem State.write_setup (h : r.space = 0x200) : s.write r = s.writeSetup r (leNat r.data) 0 := by simp [State.write, h]

theorem State.write_table (h : r.space = 0x300) : s.write r = s.loadTable r false := by simp [State.write, h]

theorem State.write_host (h : r.space = 0x400) : s.write r = s.writeHost r := by simp [State.write, h]

theorem State.write_device (h : r.space < 64) : s.write r = s.devAccess r := if_pos h

/-- A write of set-up space that does not reset the hub is answered. -/
theorem State.writeSetup_answers {v result : Nat} (h : (s.pf0Write r.off r.len v).boot.stage = s.boot.stage) :
    s.writeSetup r v result = (s.pf0Write r.off r.len v).ok r result r.len := if_pos h

theorem State.tableClosed_region {off n : Nat} (h : off / 2 ^ 24 < 4) :
    s.tableClosed off n = (s.flag (armedFld (off / 2 ^ 24)) || s.flag (syncingFld (off / 2 ^ 24))) := if_pos h

theorem State.storeTable_region {off : Nat} {data : List Byte} (h : off / 2 ^ 24 < 4) :
    s.storeTable off data = { s with rfx := { s.rfx with stg := memWrite s.rfx.stg (tblKey (off / 2 ^ 24) (off % 2 ^ 24)) data } } := if_pos h

/-- A closed region takes no load. -/
theorem State.loadTable_closed {b : Bool} (h : s.tableClosed r.off r.len = true) : s.loadTable r b = s.refuse r stDenied := if_pos h

/-- A region that is open takes the load into its staging copy. -/
theorem State.loadTable_stores (h : s.tableClosed r.off r.len = false) : s.loadTable r false = (s.storeTable r.off r.data).ok r 0 r.len := by
  simp [State.loadTable, h]

/-- With ACTIVATE it is armed as well. -/
theorem State.loadTable_arms (h : s.tableClosed r.off r.len = false) (hg : r.off / 2 ^ 24 < 4) :
    s.loadTable r true = ((s.storeTable r.off r.data).wr (armedFld (r.off / 2 ^ 24)) 1).ok r 0 r.len := by
  simp only [State.loadTable, h, Bool.false_eq_true, if_false, not_true_eq_false, if_pos hg]

end

/-- Settles O21, space by space; in the point store by the right to write. -/
theorem writes : Obligations.Writes := by
  refine ⟨fun r n s hr ho h hoff hl hh hw hf hn => ?_, fun r n s hr ho h hoff hl hm hn hout => ?_, fun r n s hr ho h hoff hl hw hf => ?_,
    fun r n s hr ho h hoff hl hw hf hn => ?_, fun r s hr ho h hst => ?_,
    fun r s hr ho h hg ha hs => ⟨{ s.taken r with rfx := { s.rfx with stg := memWrite s.rfx.stg (tblKey (r.off / 2 ^ 24) (r.off % 2 ^ 24)) r.data } },
      ?_, rfl, rfl⟩, fun r s hr ho h hg hc => ?_, fun r s hr ho h hc => ?_, fun r s hi ho h hn => ?_⟩
  · rw [exec_write hr ho (by omega), State.write_point h, hoff,
      State.writePoint_delivers (s := s.taken r) hl (Point.writer_mayWrite _ hh hw hf) hn hf, if_pos rfl, Nat.mul_div_cancel_left n (by decide),
      State.taken_tdEnc, State.taken_point]
  · rw [exec_write hr ho (by omega), State.write_point h, hoff, State.writePoint_nan (s := s.taken r) (w := (s.taken r).who r) hl hm hn hout]; rfl
  · rw [exec_write hr ho (by omega), State.write_point h, hoff, State.writePoint_denied (s := s.taken r) (w := (s.taken r).who r) hl
        (Point.other_refused (p := s.point n) (w := s.who r) _ hw hf)]; rfl
  · rw [exec_write hr ho (by omega), State.write_point h, hoff,
      State.writePoint_forced (s := s.taken r) hl (Point.owner_mayForce _ hw hf) hn hf, if_pos rfl, Nat.mul_div_cancel_left n (by decide),
      State.taken_point]
  · rw [exec_write hr ho (by omega), State.write_setup h, State.writeSetup_answers hst]
  · rw [exec_write hr ho (by omega), State.write_table h, State.loadTable_stores, State.storeTable_region hg, State.taken_rfx]
    rw [State.taken_tableClosed, State.tableClosed_region hg, ha, hs]; rfl
  · rw [exec_write hr ho (by omega), State.write_table h, State.loadTable_closed]
    rw [State.taken_tableClosed, State.tableClosed_region hg]
    exact Bool.or_eq_true_iff.mpr hc
  · rw [exec_write hr ho (by omega), State.write_host h]
    simp [State.writeHost, hc, -Nat.reducePow]
  · show Host.Outcome.next (s.carry r _ _) = _
    rw [State.carry_does hi (decide_eq_true ho), State.write_device h, State.devAccess_noTarget (s := s.taken r) hn]

/-! ### RMW (R110, Table 04-9) -/

/-- An RMW of any sub-operation is carried out once it is its turn. -/
theorem State.carry_rmw {r : Req} {x : Nat} {s : State} (hi : s.inTurn r = true) (ho : r.op = opRmw) (hx : r.opx = x) :
    s.carry r (r.op = opRmw ∧ r.opx = x) (·.rmw r) = ((s.taken r).rmw r).settle := State.carry_does hi (decide_eq_true ⟨ho, hx⟩) _

section
variable {r : Req} {s : State} (hi : s.inTurn r = true) (ho : r.op = opRmw)
include hi ho

theorem exec_rmwSwap (hx : r.opx = 0) : exec (.rmwSwap r) s = .next ((s.taken r).rmw r).settle :=
  congrArg Host.Outcome.next (State.carry_rmw hi ho hx)

theorem exec_rmwCas (hx : r.opx = 1) : exec (.rmwCas r) s = .next ((s.taken r).rmw r).settle :=
  congrArg Host.Outcome.next (State.carry_rmw hi ho hx)

theorem exec_rmwAdd (hx : r.opx = 2) : exec (.rmwAdd r) s = .next ((s.taken r).rmw r).settle :=
  congrArg Host.Outcome.next (State.carry_rmw hi ho hx)

theorem exec_rmwAnd (hx : r.opx = 3) : exec (.rmwAnd r) s = .next ((s.taken r).rmw r).settle :=
  congrArg Host.Outcome.next (State.carry_rmw hi ho hx)

theorem exec_rmwOr (hx : r.opx = 4) : exec (.rmwOr r) s = .next ((s.taken r).rmw r).settle :=
  congrArg Host.Outcome.next (State.carry_rmw hi ho hx)

theorem exec_rmwXor (hx : r.opx = 5) : exec (.rmwXor r) s = .next ((s.taken r).rmw r).settle :=
  congrArg Host.Outcome.next (State.carry_rmw hi ho hx)

theorem exec_rmwMasked (hx : r.opx = 6) : exec (.rmwMasked r) s = .next ((s.taken r).rmw r).settle :=
  congrArg Host.Outcome.next (State.carry_rmw hi ho hx)

end

theorem leBytes_length (n x : Nat) : (leBytes n x).length = n := by
  induction n generalizing x with
  | zero => rfl
  | succ n ih => rw [leBytes, List.length_cons, ih]

/-- Bytes written and read again give the number, as far as it fits. -/
theorem leNat_leBytes (n x : Nat) : leNat (leBytes n x) = x % 256 ^ n := by
  induction n generalizing x with
  | zero => simp [leNat, leBytes, Nat.mod_one]
  | succ n ih => simp [leNat, leBytes, ih, Nat.pow_succ', Nat.mod_mul]

/-- The value that an RMW of a point hands it: over 4 bytes, as TYPE keeps it. -/
def rmwStored (p : Point) (len x : Nat) : Nat := (if len = 4 then encodeBy p.type x else x) % 2 ^ 64

section
variable {r : Req} {n x len : Nat} {s : State} (h : s.mayRmw r n x len)
include h

theorem State.mayRmw_op : r.op = opRmw := by
  obtain ⟨-, ho, -⟩ := h
  exact ho

theorem State.mayRmw_opx : r.opx = x := by
  obtain ⟨-, -, hx, -⟩ := h
  exact hx

theorem State.mayRmw_inTurn : s.inTurn r = true := by
  obtain ⟨hr, -, -, hs, -⟩ := h
  exact State.inTurn_of_mem hr (forBridge_of_space (by omega))

/-- An RMW whose sub-operation gives a value hands it to the point, and answers with the value read. -/
theorem State.rmw_writes {y : Nat}
    (hy : rmwValue x len ((s.point n).value % 2 ^ (8 * len)) (leAt r.operand 0 len) (leAt r.operand 8 len) = some y)
    (hn : ¬ (isNaN (s.point n).type (rmwStored (s.point n) len y) = true ∧ (s.point n).isOutput = true)) :
    (s.taken r).rmw r = ((s.taken r).deliver n ⟨rmwStored (s.point n) len y, s.tdEnc (s.point n).dom, none⟩).ok r
      ((s.point n).value % 2 ^ (8 * len)) len := by
  obtain ⟨-, -, hx, hs, ho, hl, hh, hw, hf, hm⟩ := h
  have hv : leNat (leBytes 8 (if len = 4 then encodeBy (s.point n).type y else y)) = rmwStored (s.point n) len y := leNat_leBytes ..
  have hd := State.writePoint_delivers (s := s.taken r) (w := s.who r) (leBytes_length 8 (if len = 4 then encodeBy (s.point n).type y else y))
    (Point.writer_mayWrite _ hh hw hf) (by rw [hv]; exact hn) hf
  rw [hv] at hd
  have hq : (s.point n).refusesRmw (s.who r) = false := by
    have : (s.who r).slot = some (s.point n).writerSlot := hw
    simp [Point.refusesRmw, hh, hf, this]
  simp [State.rmw, hs, State.rmwPoint, ho, hl, hx, hm, hq, hy, hd]

/-- One whose sub-operation gives none only answers. -/
theorem State.rmw_reads
    (hy : rmwValue x len ((s.point n).value % 2 ^ (8 * len)) (leAt r.operand 0 len) (leAt r.operand 8 len) = none) :
    (s.taken r).rmw r = (s.taken r).ok r ((s.point n).value % 2 ^ (8 * len)) len := by
  obtain ⟨-, -, hx, hs, ho, hl, hh, hw, hf, hm⟩ := h
  have hq : (s.point n).refusesRmw (s.who r) = false := by
    have : (s.who r).slot = some (s.point n).writerSlot := hw
    simp [Point.refusesRmw, hh, hf, this]
  simp [State.rmw, hs, State.rmwPoint, ho, hl, hx, hm, hq, hy]

end

/-- Over 8 bytes, with operands and result given as words. -/
theorem State.rmw_word {r : Req} {n x : Nat} {v a b y : BitVec 64} {s : State} (h : s.mayRmw r n x 8)
    (hv : (s.point n).value % 2 ^ 64 = v.toNat) (ha : leAt r.operand 0 8 = a.toNat) (hb : leAt r.operand 8 8 = b.toNat)
    (hy : rmwValue x 8 v.toNat a.toNat b.toNat = some y.toNat) (hn : ¬ (isNaN (s.point n).type y.toNat = true ∧ (s.point n).isOutput = true)) :
    (s.taken r).rmw r = ((s.taken r).deliver n ⟨y.toNat, s.tdEnc (s.point n).dom, none⟩).ok r v.toNat 8 := by
  have hs : rmwStored (s.point n) 8 y.toNat = y.toNat := Nat.mod_eq_of_lt y.isLt
  have := State.rmw_writes h (y := y.toNat) (by rw [show (2 : Nat) ^ (8 * 8) = 2 ^ 64 from rfl, hv, ha, hb]; exact hy) (by rw [hs]; exact hn)
  rw [this, hs, show (2 : Nat) ^ (8 * 8) = 2 ^ 64 from rfl, hv]

/-- MASKED as a word operation. -/
theorem rmwValue_masked (v a b : BitVec 64) : rmwValue 6 8 v.toNat a.toNat b.toNat = some ((v &&& ~~~b) ||| (a &&& b)).toNat := by
  rw [BitVec.toNat_or, BitVec.toNat_and, BitVec.toNat_and, BitVec.toNat_not]; rfl

theorem State.rmw_setup {r : Req} {s u : State} {d : List Byte} {x : Nat} (h : r.space = 0x200) (hd : s.setupRead r.off r.len = (d, u))
    (hx : rmwValue r.opx r.len (leNat d) (leAt r.operand 0 r.len) (leAt r.operand 8 r.len) = some x) : s.rmw r = u.writeSetup r x (leNat d) := by
  simp [State.rmw, h, hd, hx]

theorem State.rmw_device {r : Req} {k i : Nat} {s : State} (h : r.space < 64) (ho : r.op = opRmw) (hl : r.locked = false)
    (ht : s.devTarget r.space = some (k, i)) (hc : s.ctlRaw k i = false) : s.rmw r = s.refuse r stDenied := by
  simp [State.rmw, h, State.devAccess, ht, hc, ho, hl]

/-- Settles O22, by the sub-operation. -/
theorem readModifyWrite : Obligations.ReadModifyWrite := by
  refine ⟨fun r n v a b s h hv ha hb hn => ?_, fun r n v a b s h hv ha hb hn => ?_, fun r n v a b s h hv ha hb hn => ?_,
    fun r n v a b s h hv ha hb hn => ?_, fun r n v a b s h hv ha hb hn => ?_, fun r n v a b s h hv ha hb hn => ?_,
    fun r n v a s h hv ha hb hn => ?_, fun r n v s h hv hb => ?_, fun r n x s t h hx hn ht => ?_, fun r d x s u t hr ho hs hd hx ht => ?_,
    fun r k i s hi ho hs hl hk hc => ⟨fun h2 => ?_, fun h0 => ?_⟩⟩
  · rw [exec_rmwSwap (State.mayRmw_inTurn h) (State.mayRmw_op h) (State.mayRmw_opx h), State.rmw_word h hv ha hb rfl hn]
  · rw [exec_rmwAdd (State.mayRmw_inTurn h) (State.mayRmw_op h) (State.mayRmw_opx h), State.rmw_word h hv ha hb (congrArg some
      (BitVec.toNat_add ..).symm) hn]
  · rw [exec_rmwAnd (State.mayRmw_inTurn h) (State.mayRmw_op h) (State.mayRmw_opx h), State.rmw_word h hv ha hb (congrArg some
      (BitVec.toNat_and ..).symm) hn]
  · rw [exec_rmwOr (State.mayRmw_inTurn h) (State.mayRmw_op h) (State.mayRmw_opx h), State.rmw_word h hv ha hb (congrArg some
      (BitVec.toNat_or ..).symm) hn]
  · rw [exec_rmwXor (State.mayRmw_inTurn h) (State.mayRmw_op h) (State.mayRmw_opx h), State.rmw_word h hv ha hb (congrArg some
      (BitVec.toNat_xor ..).symm) hn]
  · rw [exec_rmwMasked (State.mayRmw_inTurn h) (State.mayRmw_op h) (State.mayRmw_opx h), State.rmw_word h hv ha hb (rmwValue_masked v a b) hn]
  · rw [exec_rmwCas (State.mayRmw_inTurn h) (State.mayRmw_op h) (State.mayRmw_opx h), State.rmw_word h hv ha hb (if_pos rfl) hn]
  · have := State.rmw_reads h (by rw [show (2 : Nat) ^ (8 * 8) = 2 ^ 64 from rfl, hv]; exact if_neg (Ne.symm hb))
    rw [exec_rmwCas (State.mayRmw_inTurn h) (State.mayRmw_op h) (State.mayRmw_opx h), this, show (2 : Nat) ^ (8 * 8) = 2 ^ 64 from rfl, hv]
  · have hw := State.rmw_writes h (y := x) hx hn
    replace ht : t = ((s.taken r).rmw r).settle := ht.trans (congrArg State.settle hw.symm)
    rw [ht]
    have hi := State.mayRmw_inTurn h
    have ho := State.mayRmw_op h
    exact ⟨exec_rmwSwap hi ho, exec_rmwCas hi ho, exec_rmwAdd hi ho, exec_rmwAnd hi ho, exec_rmwOr hi ho,
      exec_rmwXor hi ho, exec_rmwMasked hi ho⟩
  · rw [ht, ← State.rmw_setup hs hd hx]
    have hi := State.inTurn_of_mem hr (forBridge_of_space (by omega))
    exact ⟨exec_rmwSwap hi ho, exec_rmwCas hi ho, exec_rmwAdd hi ho, exec_rmwAnd hi ho, exec_rmwOr hi ho,
      exec_rmwXor hi ho, exec_rmwMasked hi ho⟩
  · rw [exec_rmwAdd hi ho h2, State.rmw_device (s := s.taken r) hs ho hl hk hc]
  · rw [exec_rmwSwap hi ho h0, State.rmw_device (s := s.taken r) hs ho hl hk hc]

end Sys2Proof.Machine
end

section
/-!
PROOFS. LOCK, SEND, SUBSCRIBE, UNSUBSCRIBE, TABLE_LOAD and QUERY at their target, and the messages to this hub.
-/

namespace Sys2Proof.Machine

/-! ### LOCK and SEND (R111, R114, R116, R344) -/

section
variable {r : Req} {s : State} (hr : r ∈ s.tgt.accepted)
include hr

theorem exec_lock (ho : r.op = opLock) : exec (.lock r) s = .next ((s.taken r).lockIn r.space r).settle :=
  congrArg Host.Outcome.next (State.carry_op hr ho (decide_eq_true ho) _)

theorem exec_send (ho : r.op = opSend) : exec (.send r) s = .next ((s.taken r).send r).settle :=
  congrArg Host.Outcome.next (State.carry_op hr ho (decide_eq_true ho) _)

end

section
variable {s : State} {p k i : Nat} {r : Req} (ht : s.devTarget p = some (k, i))
include ht

theorem State.lockIn_denied (hl : s.lockOk p = false) : s.lockIn p r = s.refuse r stDenied := by simp [State.lockIn, ht, hl]

section
variable (hl : s.lockOk p = true) (hc : k ≠ cCan) (hs : k ≠ cSpe) (hw : s.ctlRaw k i = false)
include hl hc hs hw

/-- A LOCK of a free bus joins its window. -/
theorem State.lockIn_joins (hh : (s.busLock p).holder = none) (hn : (s.busLock p).winner = none) :
    s.lockIn p r = s.setBusLock p { s.busLock p with windowOpen := true, contenders := (s.busLock p).contenders ++ [r] } := by
  simp [State.lockIn, ht, hl, hc, hs, hw, hh, hn]

theorem State.lockIn_held {node tn id : Nat} (hh : (s.busLock p).holder = some (node, tn, id)) : s.lockIn p r = s.conflict r node := by
  simp [State.lockIn, ht, hl, hc, hs, hw, hh]

end

end

/-- The backoff that a LOCK_CONFLICT names: a free value from 0.5 to 1.5 times that configured; without the DRBG, that configured. -/
def State.backoff (s : State) : Nat :=
  let b := s.rd R.BRG_LOCK_CFG_BACKOFF
  if s.drbgOk then (b + 1) / 2 + s.draw.1 % (3 * b / 2 - (b + 1) / 2 + 1) else b

theorem State.backoff_bounds (s : State) :
    s.rd R.BRG_LOCK_CFG_BACKOFF ≤ 2 * s.backoff ∧ 2 * s.backoff ≤ 3 * s.rd R.BRG_LOCK_CFG_BACKOFF := by
  unfold State.backoff
  dsimp only
  split
  · have := Nat.mod_lt s.draw.1 (Nat.zero_lt_succ (3 * s.rd R.BRG_LOCK_CFG_BACKOFF / 2 - (s.rd R.BRG_LOCK_CFG_BACKOFF + 1) / 2))
    rw [Nat.succ_eq_add_one] at this
    omega
  · omega

theorem State.conflict_eq (s : State) (r : Req) (node : Nat) :
    s.conflict r node = (s.draw.2.inc R.BRG_LOCK_CNT_CONFLICT).respond r { status := stLockConflict, result := s.backoff + node * 2 ^ 32 } := rfl

section
variable {s : State} {r : Req} (h : 64 ≤ r.space)
include h

theorem State.send_off (hs : s.slotOn (r.off / 2 ^ 28) = false) : s.send r = s.refuse r stDenied := by
  simp only [State.send, if_neg (Nat.not_lt.mpr h), hs, Bool.false_eq_true, not_false_eq_true, if_true]

/-- A message to a slot without a RECV that it matches. -/
theorem State.send_unmatched (hs : s.slotOn (r.off / 2 ^ 28) = true)
    (hf : s.recvFor (r.off / 2 ^ 28) 0 (r.off % 256) (some (r.src, r.tn)) = none) : s.send r = s.refuse r stBusNak := by
  simp only [State.send, if_neg (Nat.not_lt.mpr h), hs, not_true_eq_false, if_false, State.message, hf, Bool.false_eq_true]

theorem State.send_fills {k : Nat} {t : Tx} (hs : s.slotOn (r.off / 2 ^ 28) = true)
    (hf : s.recvFor (r.off / 2 ^ 28) 0 (r.off % 256) (some (r.src, r.tn)) = some (k, t)) :
    s.send r = (s.fillRecv k t r.data s.now (r.src + r.tn * 2 ^ 24 + r.off % 256 * 2 ^ 32)).ok r 0 r.len := by
  simp only [State.send, if_neg (Nat.not_lt.mpr h), hs, not_true_eq_false, if_false, State.message, hf, if_true, msgResult]

end

section
variable {s : State} {r : Req} (h : r.space < 64)
include h

theorem State.send_raw : s.send r = s.rawSend r.space r := if_pos h

theorem State.send_safe (hs : s.inSafe = true) : s.send r = s.refuse r stSafe := by rw [State.send_raw h, State.rawSend, if_pos hs]

/-- A raw SEND of a tenant that does not own the port. -/
theorem State.send_notOwner (hs : s.inSafe = false) (ho : s.slotOf r ≠ some (s.rd (R.PCTL_PORT_RAW_OWN r.space))) : s.send r = s.refuse r stDenied :=
  by
  rw [State.send_raw h, State.rawSend, if_neg (by simp [hs]), if_pos ho]

/-- A good one waits in its controller. -/
theorem State.send_waits {k i : Nat} (hs : s.inSafe = false) (ho : s.slotOf r = some (s.rd (R.PCTL_PORT_RAW_OWN r.space)))
    (hd : dlenFits r.data = true) (hl : leAt r.data 2 2 + 16 = r.len) (ht : s.rawTarget r.space r.data = some (k, i)) (hc : s.ctlRaw k i = true)
    (hk : k ≠ cCan) (hq : ((s.txq (ctlKey k i)).filter fun x => x.req.isSome ∧ x.obj.isNone).length < 16) :
    s.send r = s.setTxq (ctlKey k i) (s.txq (ctlKey k i) ++ [{ req := some r, item := r.data }]) := by
  rw [State.send_raw h, State.rawSend, if_neg (by simp [hs]), if_neg (not_not.mpr ho), if_neg (by simp [hd, hl])]
  simp only [ht, hc, hk, false_and, not_true_eq_false, if_false, if_neg (Nat.not_le.mpr hq)]

end

/-- Settles O23: a LOCK by the state of its bus, a SEND by its space. -/
theorem lockAndSend : Obligations.LockAndSend := by
  refine ⟨fun r k i s hr ho ht hl => ?_,
    fun r k i s hr ho ht hl hc hs hw hh hn => ⟨(s.taken r).setBusLock r.space
      { s.busLock r.space with windowOpen := true, contenders := (s.busLock r.space).contenders ++ [r] }, ?_, ?_, ?_, fun p hp => ?_, ?_⟩,
    fun r k i node tn id s hr ho ht hl hc hs hw hh => ⟨(s.taken r).backoff, ?_, ?_, (s.taken r).draw.2.inc R.BRG_LOCK_CNT_CONFLICT, ?_, ?_, ?_⟩,
    fun r s hr ho h hs => ?_, fun r s hr ho h hs hf => ?_, fun r k t s hr ho h hs hf => ?_, fun r s hr ho h hs hw => ?_,
    fun r k i s hr ho h hs hw hd hl ht hc hk hq => ⟨(s.taken r).setTxq (ctlKey k i) (s.txq (ctlKey k i) ++ [{ req := some r, item := r.data }]), ?_,
        ?_, ?_⟩,
    fun r s hr ho h hs => ?_⟩
  · rw [exec_lock hr ho, State.lockIn_denied (s := s.taken r) ht hl]
  · rw [exec_lock hr ho, State.lockIn_joins (s := s.taken r) ht hl hc hs hw hh hn, State.taken_busLock]
  · rw [State.setBusLock_busLock]
  · rw [State.setBusLock_busLock]
  · rw [State.setBusLock_busLock_ne _ _ _ hp, State.taken_busLock]
  · rw [State.setBusLock_regs, State.taken_regs]
  · exact (s.taken r).backoff_bounds.1
  · exact (s.taken r).backoff_bounds.2
  · rw [exec_lock hr ho, State.lockIn_held (s := s.taken r) ht hl hc hs hw hh, State.conflict_eq]
  · exact State.inc_brg ..
  · exact State.inc_hif ..
  · rw [exec_send hr ho, State.send_off (s := s.taken r) h hs]
  · rw [exec_send hr ho, State.send_unmatched (s := s.taken r) h hs hf]
  · rw [exec_send hr ho, State.send_fills (s := s.taken r) h hs hf, State.taken_now]
  · rw [exec_send hr ho, State.send_notOwner (s := s.taken r) h hs hw]
  · rw [exec_send hr ho, State.send_waits (s := s.taken r) h hs hw hd hl ht hc hk hq, State.taken_txq]
  · rw [State.setTxq_txq]
  · rw [State.setTxq_regs, State.taken_regs]
  · rw [exec_send hr ho, State.send_safe (s := s.taken r) h hs]

/-! ### SUBSCRIBE and UNSUBSCRIBE (R58 to R60, R117, R118) -/

section
variable {r : Req} {s : State} (hr : r ∈ s.tgt.accepted)
include hr

theorem exec_subscribeCyclic (ho : r.op = opSubscribe) (hx : r.opx = 0) :
    exec (.subscribeCyclic r) s = .next ((s.taken r).subscribe r false).settle :=
  congrArg Host.Outcome.next (State.carry_op hr ho (decide_eq_true ⟨ho, hx⟩) _)

theorem exec_subscribeOnChange (ho : r.op = opSubscribe) (hx : r.opx = 1) :
    exec (.subscribeOnChange r) s = .next ((s.taken r).subscribe r true).settle :=
  congrArg Host.Outcome.next (State.carry_op hr ho (decide_eq_true ⟨ho, hx⟩) _)

theorem exec_unsubscribe (ho : r.op = opUnsubscribe) : exec (.unsubscribe r) s = .next ((s.taken r).unsubscribe r).settle :=
  congrArg Host.Outcome.next (State.carry_op hr ho (decide_eq_true ho) _)

end

/-- The free number of a new subscription is none of those in use: among as many candidates as there are numbers in use and one more, one is not. -/
theorem State.freeSub_fresh {s : State} (h : s.pts.subs.length < 32768) : ∀ u ∈ s.pts.subs, u.num ≠ s.freeSub.1 := by
  intro u hu
  let used := s.pts.subs.map (·.num)
  let cand := (List.range (used.length + 1)).map fun i => (s.draw.1 + i) % 32768
  have hnum : s.freeSub.1 = (cand.find? (· ∉ used)).getD 0 := rfl
  have hlen : used.length < 32768 := by simpa [used] using h
  have hnd : cand.Nodup := List.Nodup.map_on
    (fun i hi j hj e => by have := List.mem_range.mp hi; have := List.mem_range.mp hj; omega) List.nodup_range
  cases hf : cand.find? (· ∉ used) with
  | none =>
    have hsub : cand ⊆ used := fun x hx => by simpa using List.find?_eq_none.mp hf x hx
    have := (List.subperm_of_subset hnd hsub).length_le
    simp [cand] at this
  | some n =>
    have hn : n ∉ used := by simpa using List.find?_some hf
    rw [hnum, hf]
    exact fun e => hn (show n ∈ used from (show u.num = n from e) ▸ List.mem_map_of_mem hu)

/-- The subscription that a SUBSCRIBE makes. -/
def newSub (r : Req) (num : Nat) (onChange : Bool) : Sub :=
  { num := num, point := r.off / 64, slot := (match r.origin with | .here _ => some r.tn | .ring => none), node := r.src, tn := r.tn
    pair := leAt r.operand 8 1 % 32, onChange := onChange, deadband := leAt r.operand 0 8 }

/-- The state once it is made. -/
def State.subscribed (s : State) (r : Req) (onChange : Bool) : State :=
  ({ s.freeSub.2 with pts := { s.pts with subs := s.pts.subs ++ [newSub r s.freeSub.1 onChange] } } : State).wr R.RFX_SUB_USED_COUNT
    (s.pts.subs ++ [newSub r s.freeSub.1 onChange]).length

@[simp] theorem State.subscribed_pts (s : State) (r : Req) (b : Bool) :
    (s.subscribed r b).pts = { s.pts with subs := s.pts.subs ++ [newSub r s.freeSub.1 b] } := by rw [State.subscribed, State.wr_pts]

@[simp] theorem State.subscribed_hif (s : State) (r : Req) (b : Bool) : (s.subscribed r b).hif = s.hif := by
  rw [State.subscribed, State.wr_hif]; rfl

section
variable {s : State} {r : Req} {b : Bool}

/-- The subscription that a repeated SUBSCRIBE finds. -/
abbrev State.standing (s : State) (r : Req) : Option Sub :=
  s.pts.subs.find? fun u => u.ofReq r ∧ u.point = r.off / 64 ∧ u.pair = leAt r.operand 8 1 % 32 ∧ ¬ u.final

theorem State.subscribe_again {u : Sub} (h : s.standing r = some u) :
    s.subscribe r b = (s.setSub { u with onChange := b, deadband := leAt r.operand 0 8 }).ok r u.num 0 := by
  simp only [State.subscribe, show s.pts.subs.find? _ = _ from h]

theorem State.subscribe_full (h : s.standing r = none) (hf : s.subsFull r = true) : s.subscribe r b = s.refuse r stDenied := by
  simp only [State.subscribe, show s.pts.subs.find? _ = _ from h, hf, if_true]

theorem State.subscribe_new (h : s.standing r = none) (hf : s.subsFull r = false) : s.subscribe r b = (s.subscribed r b).ok r s.freeSub.1 0 := by
  simp only [State.subscribe, show s.pts.subs.find? _ = _ from h, hf, Bool.false_eq_true, if_false]
  rfl

theorem State.length_of_not_subsFull (hf : s.subsFull r = false) : s.pts.subs.length < 32768 := by
  simp only [State.subsFull, Bool.or_eq_false_iff, decide_eq_false_iff_not, not_le] at hf
  exact hf.1

end

/-- Settles O24, by whether the subscription stands already. -/
theorem subscriptions : Obligations.Subscriptions := by
  refine ⟨fun r u s hr ho h => ⟨fun hx => ?_, fun hx => ?_⟩, fun r s hr ho h hf => ⟨fun hx => ?_, fun hx => ?_⟩,
    fun r s hr ho hx h hf => ⟨(s.taken r).freeSub.1, State.freeSub_fresh (s := s.taken r) (State.length_of_not_subsFull hf),
      (s.taken r).subscribed r false, ?_, ?_, ?_, newSub r (s.taken r).freeSub.1 false, ?_, rfl, rfl, rfl, rfl, rfl, rfl, rfl⟩,
    fun r s hr ho hx h hf => ⟨(s.taken r).freeSub.1, State.freeSub_fresh (s := s.taken r) (State.length_of_not_subsFull hf),
      (s.taken r).subscribed r true, ?_, ?_, ?_, newSub r (s.taken r).freeSub.1 true, ?_, rfl, rfl, rfl, rfl, rfl, rfl, rfl⟩,
    fun r u s hr ho h => ?_, fun r s hr ho h => ?_⟩
  · rw [exec_subscribeCyclic hr ho hx, State.subscribe_again (s := s.taken r) h]
  · rw [exec_subscribeOnChange hr ho hx, State.subscribe_again (s := s.taken r) h]
  · rw [exec_subscribeCyclic hr ho hx, State.subscribe_full (s := s.taken r) h hf]
  · rw [exec_subscribeOnChange hr ho hx, State.subscribe_full (s := s.taken r) h hf]
  · rw [exec_subscribeCyclic hr ho hx, State.subscribe_new (s := s.taken r) h hf]
  · rw [State.subscribed_pts, State.taken_pts]
  · rw [State.subscribed_hif, State.taken_hif]
  · rw [State.subscribed_pts, State.taken_pts]
  · rw [exec_subscribeOnChange hr ho hx, State.subscribe_new (s := s.taken r) h hf]
  · rw [State.subscribed_pts, State.taken_pts]
  · rw [State.subscribed_hif, State.taken_hif]
  · rw [State.subscribed_pts, State.taken_pts]
  · rw [exec_unsubscribe hr ho]
    simp only [State.unsubscribe, State.taken_pts, h]
  · rw [exec_unsubscribe hr ho]
    simp only [State.unsubscribe, State.taken_pts, h]

/-! ### TABLE_LOAD and QUERY (R119, R121) -/

section
variable {r : Req} {s : State} (hr : r ∈ s.tgt.accepted)
include hr

theorem exec_tableLoad (ho : r.op = opTableLoad) (hx : r.opx = 0) : exec (.tableLoad r) s = .next ((s.taken r).loadTable r false).settle :=
  congrArg Host.Outcome.next (State.carry_op hr ho (decide_eq_true ⟨ho, hx⟩) _)

theorem exec_tableLoadActivate (ho : r.op = opTableLoad) (hx : r.opx = 1) :
    exec (.tableLoadActivate r) s = .next ((s.taken r).loadTable r true).settle :=
  congrArg Host.Outcome.next (State.carry_op hr ho (decide_eq_true ⟨ho, hx⟩) _)

theorem exec_queryTime (ho : r.op = opQuery) (hx : r.opx = 0) : exec (.queryTime r) s = .next ((s.taken r).ok r 0 0).settle :=
  congrArg Host.Outcome.next (State.carry_op hr ho (decide_eq_true ⟨ho, hx⟩) _)

theorem exec_queryTopology (ho : r.op = opQuery) (hx : r.opx = 1) : exec (.queryTopology r) s = .next ((s.taken r).queryTopo r).settle :=
  congrArg Host.Outcome.next (State.carry_op hr ho (decide_eq_true ⟨ho, hx⟩) _)

theorem exec_queryIdentity (ho : r.op = opQuery) (hx : r.opx = 2) : exec (.queryIdentity r) s = .next ((s.taken r).queryIdentity r).settle :=
  congrArg Host.Outcome.next (State.carry_op hr ho (decide_eq_true ⟨ho, hx⟩) _)

theorem exec_queryTags (ho : r.op = opQuery) (hx : r.opx = 3) : exec (.queryTags r) s = .next ((s.taken r).queryTags r).settle :=
  congrArg Host.Outcome.next (State.carry_op hr ho (decide_eq_true ⟨ho, hx⟩) _)

end

/-- A region that is neither ARMED nor SYNCING is open. -/
theorem State.tableOpen {s : State} {off : Nat} (n : Nat) (hg : off / 2 ^ 24 < 4) (ha : s.flag (armedFld (off / 2 ^ 24)) = false)
    (hs : s.flag (syncingFld (off / 2 ^ 24)) = false) : s.tableClosed off n = false := by
  rw [State.tableClosed_region hg, ha, hs]; rfl

/-- ARMED reads 1 once it is written. -/
theorem State.armed_shown (s : State) {g : Nat} (h : g < 4) : (s.wr (armedFld g) 1).flag (armedFld g) = true := by
  rw [State.flag_wr_same]
  · rfl
  · show 8 * g + 7 + 1 ≤ 32
    omega

/-- Settles O25: the loads by the state of the region, the queries one by one. -/
theorem tablesAndQueries : Obligations.TablesAndQueries := by
  refine ⟨fun r s hr ho hx hg ha hs => ⟨(s.taken r).storeTable r.off r.data, ?_, ?_, ?_⟩,
    fun r s hr ho hx hg ha hs => ⟨((s.taken r).storeTable r.off r.data).wr (armedFld (r.off / 2 ^ 24)) 1, ?_, ?_, State.armed_shown _ hg⟩,
    fun r s hr ho hc => ⟨fun hx => ?_, fun hx => ?_⟩, fun r s hr ho hx => exec_queryTime hr ho hx, fun r a b s u v hr ho hx hu hv => ?_,
    fun r b s u hr ho hx hu => ?_, fun r s hr ho hx => exec_queryTags hr ho hx⟩
  · rw [exec_tableLoad hr ho hx, State.loadTable_stores (s := s.taken r) (State.tableOpen (s := s) r.len hg ha hs)]
  · rw [State.storeTable_region hg, State.taken_rfx]
  · rw [State.storeTable_region hg, State.taken_regs]
  · rw [exec_tableLoadActivate hr ho hx, State.loadTable_arms (s := s.taken r) (State.tableOpen (s := s) r.len hg ha hs) hg]
  · rw [State.wr_rfx, State.storeTable_region hg, State.taken_rfx]
  · rw [exec_tableLoad hr ho hx, State.loadTable_closed (s := s.taken r) hc]
  · rw [exec_tableLoadActivate hr ho hx, State.loadTable_closed (s := s.taken r) hc]
  · rw [exec_queryTopology hr ho hx]
    simp only [State.queryTopo, hu, hv]
  · rw [exec_queryIdentity hr ho hx]
    simp only [State.queryIdentity, hu]

/-! ### Messages to this hub (R61, R114, R118, R144) -/

theorem State.message_fills {s : State} {off node tn k : Nat} {t : Tx} {b : List Byte}
    (h : s.recvFor (off / 2 ^ 28) 0 (off % 256) (some (node, tn)) = some (k, t)) :
    s.message off node tn b = (true, s.fillRecv k t b s.now (msgResult node tn (off % 256))) := by
  simp only [State.message, h]

theorem State.message_lost {s : State} {off node tn : Nat} {b : List Byte}
    (h : s.recvFor (off / 2 ^ 28) 0 (off % 256) (some (node, tn)) = none) : s.message off node tn b = (false, s) := by
  simp only [State.message, h]

/-- A delivery of a subscription that no tenant here has goes to nobody. -/
theorem exec_msgDeliveryReceive_nobody {f : Frame} {s : State}
    (h : (s.pts.remote.find? fun u => u.node = f.src ∧ u.slot = f.tn ∧ u.num = leAt f.payload 0x18 2 % 32768) = none) :
    exec (.msgDeliveryReceive f) s = .next s := by
  show execMsgDeliveryReceive f s = _
  simp only [execMsgDeliveryReceive, h, ite_self]

section
variable {f : Frame} {s : State} (ht : f.typ = fMsg) (hm : f.mark = .valid) (hc : s.consumes f = true) (ha : s.pwr.asleep = false)
include ht hm hc ha

theorem exec_msgDeliveryReceive {u : RemSub} (ho : f.op = 1)
    (h : (s.pts.remote.find? fun u => u.node = f.src ∧ u.slot = f.tn ∧ u.num = leAt f.payload 0x18 2 % 32768) = some u) :
    exec (.msgDeliveryReceive f) s = .next (s.deliverRemote u (msgDlv f.payload) (bit (leAt f.payload 0x18 2) 15)) := by
  show execMsgDeliveryReceive f s = _
  rw [execMsgDeliveryReceive, if_neg (by simp [ht, ho, hm, hc, ha])]
  simp only [h]

theorem exec_msgInterruptReceive (ho : f.op = 2) (hr : s.regionOpen f.tn = true) (hp : s.isPeer f.tn f.src none = true) :
    exec (.msgInterruptReceive f) s = .next (s.raiseVector f.tn (leAt f.payload 0 1)) :=
  if_pos ⟨ht, ho, hm, hc, by simp [ha], hr, hp⟩

end

/-- A delivery for a pair that can take an entry. -/
theorem State.deliverRemote_puts {s : State} {u : RemSub} {d : Dlv} {b : Bool} (hi : (s.pair (32 * u.slot + u.pair)).st ≠ .idle)
    (hp : s.mayPut (32 * u.slot + u.pair) = true) (hd : d.status = stOk) :
    s.deliverRemote u d b = (s.setRemSub u (some u)).putEntry (32 * u.slot + u.pair) (d.entry u.node b) := by
  simp only [State.deliverRemote, hi, if_false, hp, if_true, hd]

/-- A vector that is open is sent. -/
theorem State.raiseVector_sends {s : State} {t v : Nat} (h : 128 * t + v % 128 ∈ s.hif.msixOpen) (hc : s.canSend t = true) :
    s.raiseVector t v = s.emit (.msix t (v % 128) (s.hif.msixTab.get (fun _ => (0, 0)) (128 * t + v % 128)).1
      (s.hif.msixTab.get (fun _ => (0, 0)) (128 * t + v % 128)).2) := if_pos ⟨h, hc⟩

/-- One that is masked or cannot be sent is pending, with those that were. -/
theorem State.raiseVector_pends {s : State} {t v : Nat} (h : 128 * t + v % 128 ∉ s.hif.msixOpen ∨ s.canSend t = false) :
    128 * t + v % 128 ∈ (s.raiseVector t v).hif.msixPend ∧ (∀ k, k ∈ s.hif.msixPend → k ∈ (s.raiseVector t v).hif.msixPend) ∧
      (s.raiseVector t v).emitted = s.emitted ∧ (s.raiseVector t v).regs = s.regs := by
  rw [State.raiseVector]
  dsimp only
  rw [if_neg (by rintro ⟨ho, hc⟩; simp [ho, hc] at h)]
  split
  case isTrue hp => exact ⟨hp, fun _ hk => hk, rfl, rfl⟩
  case isFalse => exact ⟨by simp, fun _ hk => by simp [hk], rfl, rfl⟩

/-- Settles O26, message by message. -/
theorem messages : Obligations.Messages := by
  refine ⟨fun f k t s ht ho hm hb hs hj ha hx hon h => ?_, fun f s h => ?_, fun f u s ht ho hm hc ha h hi hp hd => ?_,
    fun f s h => exec_msgDeliveryReceive_nobody h, fun f s ht ho hm hc ha hr hp h hcs => ⟨s.emit (.msix f.tn (leAt f.payload 0 1 % 128)
      (s.hif.msixTab.get (fun _ => (0, 0)) (128 * f.tn + leAt f.payload 0 1 % 128)).1
      (s.hif.msixTab.get (fun _ => (0, 0)) (128 * f.tn + leAt f.payload 0 1 % 128)).2), ?_, rfl, rfl, rfl⟩,
    fun f s ht ho hm hc ha hr hp h => ⟨_, exec_msgInterruptReceive ht hm hc ha ho hr hp, State.raiseVector_pends h⟩, fun f s h => ?_⟩
  · show execMsgMessageReceive f s = _
    simp only [execMsgMessageReceive, ht, ho, hm, hb, hs, hj, ha, hx, hon, Bool.false_eq_true, not_false_eq_true, and_self, if_true,
      State.message_fills h, msgResult]
  · show execMsgMessageReceive f s = _ ∨ execMsgMessageReceive f s = _
    simp only [execMsgMessageReceive, State.message_lost h]
    split
    · exact .inr rfl
    · exact .inl rfl
  · rw [exec_msgDeliveryReceive ht hm hc ha ho h, State.deliverRemote_puts hi hp hd]
  · rw [exec_msgInterruptReceive ht hm hc ha ho hr hp, State.raiseVector_sends h hcs]; rfl
  · refine if_neg ?_
    rintro ⟨-, -, -, -, -, hr, hp⟩
    simp [hr, hp] at h

end Sys2Proof.Machine
end

section
/-!
PROOFS. Ring links that are lost: a port keeps what the loss leaves it, whatever becomes of its frames and of the topology record.
-/

namespace Sys2Proof.Machine

/-! ### What changes no ring port -/

/-- The ring ports, but for their transit stores and counts of frames. -/
def State.links (s : State) : Nat → Port := fun i => (s.port i).still

/-- What leaves the deep part leaves the ring ports. -/
theorem links_of_deep {s t : State} (h : t.deep = s.deep) : t.links = s.links := congrArg Deep.ports h

/-- What leaves the ring unit's state leaves the ring ports. -/
theorem links_of_ring {s t : State} (h : t.ring = s.ring) : t.links = s.links := by unfold State.links State.port; rw [h]

theorem links_foldl {α : Type} (f : State → α → State) (h : ∀ s x, (f s x).links = s.links) (l : List α) (s : State) :
    (l.foldl f s).links = s.links := Quiet.foldl (g := State.links) f h l s

/-! ### Frames at a failed port -/

@[simp] theorem State.abort_deep (s : State) (k st : Nat) : (s.abort k st).deep = s.deep := by
  unfold State.abort
  split
  case h_1 t h =>
    split
    · simp
    · split <;> simp
  case h_2 => rfl

@[simp] theorem State.pathLost_deep (s : State) (k : Nat) : (s.pathLost k).deep = s.deep := by
  unfold State.pathLost
  split
  · rfl
  · dsimp only
    split
    · rfl
    split <;> simp

@[simp] theorem State.pathNotice_deep (s : State) (k g : Nat) : (s.pathNotice k g).deep = s.deep := by
  unfold State.pathNotice
  split <;> simp

@[simp] theorem State.reportLoss_deep (s : State) (f : Frame) : (s.reportLoss f).deep = s.deep := by
  unfold State.reportLoss
  split
  · simp
  split <;> simp

@[simp] theorem State.loseFrame_deep (s : State) (i : Nat) : (s.loseFrame i).deep = s.deep := State.setPort_deep rfl

@[simp] theorem State.countWrap_deep (s : State) (i : Nat) : (s.countWrap i).deep = s.deep := State.setPort_deep rfl

@[simp] theorem State.countDiscard_deep (s : State) (i : Nat) : (s.countDiscard i).deep = s.deep := State.setPort_deep rfl

@[simp] theorem State.wrapFrame_deep (s : State) (i inp : Nat) (f : Frame) : (s.wrapFrame i inp f).deep = s.deep := by
  unfold State.wrapFrame
  dsimp only
  split
  · simp
  split
  · split <;> simp
  split <;> simp

/-- Whatever becomes of a frame at a failed port, the deep part stays. -/
@[simp] theorem State.failFrame_deep (s : State) (i inp : Nat) (f : Frame) (sent : Bool) : (s.failFrame i inp f sent).deep = s.deep := by
  unfold State.failFrame
  simp only [deep_ite, State.wrapFrame_deep, State.loseFrame_deep, State.reportLoss_deep, ite_self]

@[simp] theorem State.failQueued_deep (s : State) (i : Nat) : (s.failQueued i).deep = s.deep := by
  unfold State.failQueued
  dsimp only
  rw [deep_foldl _ (fun s x => State.failFrame_deep s i _ _ _)]
  rfl

@[simp] theorem State.sendLinkState_deep (s : State) (i : Nat) : (s.sendLinkState i).deep = s.deep := State.submit_deep ..

@[simp] theorem State.checkPaths_deep (s : State) : s.checkPaths.deep = s.deep := deep_foldl _ (fun s _ => State.pathLost_deep s _) _ _

/-! ### The topology record and the time unit -/

@[simp] theorem State.settleDomain_ring (s : State) (d : Nat) : (s.settleDomain d).ring = s.ring := by
  unfold State.settleDomain
  dsimp only
  repeat' split
  all_goals simp only [State.setDomain_ring, State.inc_ring]

@[simp] theorem State.setAvail_ring (s : State) (d : Nat) (second on : Bool) : (s.setAvail d second on).ring = s.ring := by
  unfold State.setAvail
  dsimp only
  split
  · rfl
  · rw [State.settleDomain_ring, State.setDomain_ring]

/-- A choice of the reference changes nothing of the ring unit. -/
@[simp] theorem State.chooseRef_ring (s : State) : s.chooseRef.ring = s.ring := by
  unfold State.chooseRef
  dsimp only
  repeat' split
  all_goals rfl

@[simp] theorem State.showRec_ring (s : State) : s.showRec.ring = s.ring := State.wr_ring ..

@[simp] theorem State.losePath_ring (s : State) (n d : Nat) : (s.losePath n d).ring = s.ring := by
  unfold State.losePath
  dsimp only
  split
  · rw [State.setAvail_ring, State.chooseRef_ring]; rfl
  · rw [State.chooseRef_ring]; rfl

@[simp] theorem State.dropPaths_ring (s : State) : s.dropPaths.ring = s.ring := by
  unfold State.dropPaths
  refine Quiet.foldl (g := State.ring) _ (fun u n => ?_) _ s
  dsimp only
  repeat' split
  all_goals simp only [State.losePath_ring]

@[simp] theorem State.afterTopo_links (s : State) (old : NMap Topo) : (s.afterTopo old).links = s.links := by
  unfold State.afterTopo
  dsimp only
  split
  · rfl
  · exact (links_of_deep (State.checkPaths_deep _)).trans (links_of_ring (by simp only [State.dropPaths_ring, State.wr_ring]))

/-- A change of one entry of the topology record changes no port. -/
theorem State.setTopo_links (s : State) (n st : Nat) (x : Topo) : (s.setTopo n st x).links = s.links := (rfl)

@[simp] theorem State.cutHops_links (s : State) (n d : Nat) (p : Topo → Bool) : (s.cutHops n d p).links = s.links := by
  unfold State.cutHops
  dsimp only
  rw [State.afterTopo_links, links_foldl]
  intro u k
  split
  · exact State.setTopo_links ..
  · rfl

/-! ### A port that goes DOWN (R155, R156) -/

/-- A port as the loss of its link leaves it. -/
def Port.lostBy (p : Port) (cause : Nat) : Port :=
  { p with
    st := .down, cause := cause, downCnt := satAdd 16 p.downCnt 1, rtt := 0, fifo := [], rewind := [], failed := 0, sweep := [], transit := []
    setsDue := [], sync := [], busy := false, nakFor := none, discarding := false, readySent := false, readySeen := false, waitRetry := false
    probeAt := none }

/-- Nothing that follows the loss changes the port again. -/
theorem State.linkDown_port (s : State) (i c : Nat) : ((s.linkDown i c).port i).still = ((s.port i).lostBy c).still := by
  have hend (u : State) : ((u.failQueued i).raise (portBit i) .U).links = u.links := links_of_deep (by simp)
  have hfail (l : List Frame) (b : Bool) (u : State) : (l.foldl (fun s f => s.failFrame i i f b) u).links = u.links :=
    links_foldl _ (fun s f => links_of_deep (State.failFrame_deep s i i f b)) l u
  have hcut (u : State) : (if i < 4 then ((u.cutHops (i / 2) (i % 2) fun _ => true).sendLinkState i) else u).links = u.links := by
    split
    · exact (links_of_deep (State.sendLinkState_deep _ _)).trans (State.cutHops_links ..)
    · rfl
  have href (u : State) : (if i < 2 then u.chooseRef.showRec else u).links = u.links := by
    split
    · exact links_of_ring (by rw [State.showRec_ring, State.chooseRef_ring])
    · rfl
  refine (congrFun (((hend _).trans ((hfail _ _ _).trans ((hfail _ _ _).trans ((hcut _).trans (href _)))))) i).trans ?_
  show Port.still (State.port (State.setPort _ i _) i) = _
  rw [State.setPort_port]
  rfl

/-- Settles O29: the two events by whether the port is UP, the port's state by `State.linkDown_port`. -/
theorem linkLoss : Obligations.LinkLoss := by
  refine ⟨fun i s h => ⟨if_pos h, if_pos h⟩, fun i s h => ⟨if_neg (by simp [h]), if_neg (by simp [h])⟩, fun i c s => ?_⟩
  have h := State.linkDown_port s i c
  exact ⟨congrArg (·.st) h, congrArg (·.cause) h, congrArg (·.downCnt) h, congrArg (·.fifo) h, congrArg (·.rewind) h⟩

end Sys2Proof.Machine
end

section
/-!
PROOFS. Frames on a ring port: those that arrive, their acknowledgement and replay, and what a free output sends next.
-/

namespace Sys2Proof.Machine

/-! ### What a port's own state does not touch -/

@[simp] theorem State.setPort_isMine (s : State) (i : Nat) (x : Port) (n : Nat) : (s.setPort i x).isMine n = s.isMine n := (rfl)

@[simp] theorem State.setPort_byTable (s : State) (i : Nat) (x : Port) (r st : Nat) : (s.setPort i x).byTable r st = s.byTable r st := (rfl)

@[simp] theorem State.setPort_consumes (s : State) (i : Nat) (x : Port) (f : Frame) : (s.setPort i x).consumes f = s.consumes f := (rfl)

@[simp] theorem State.setPort_isOwn (s : State) (i : Nat) (x : Port) (f : Frame) : (s.setPort i x).isOwn f = s.isOwn f := (rfl)

@[simp] theorem State.setPort_windowHolds (s : State) (i : Nat) (x : Port) (j : Nat) (f : Frame) :
    (s.setPort i x).windowHolds j f = s.windowHolds j f := (rfl)

/-! ### A frame at a ring port (R133, R142, R149, R151) -/

/-- A port after a valid frame in sequence. -/
def Port.received (p : Port) (f : Frame) : Port := { p with next := (f.lseq + 1) % 4096, nakFor := none, discarding := false }

section
variable {i : Nat} {f : Frame} {s : State} (hr : f.replayed = true) (hm : f.mark = .valid) (he : f.epoch = (s.port i).rxEpoch)
include hr hm he

theorem State.linkCheck_outOfSequence (hl : f.lseq ≠ (s.port i).next) : s.linkCheck i f true = (false, s.countDiscard i) := by
  simp [State.linkCheck, State.countMark, State.noteEpoch, hr, hm, he, hl]

/-- A valid frame in sequence moves NEXT on. -/
theorem State.linkCheck_inSequence (hl : f.lseq = (s.port i).next) :
    s.linkCheck i f true = (true, s.setPort i ((s.port i).received f)) := by
  simp [State.linkCheck, State.countMark, State.noteEpoch, hr, hm, he, hl, Port.received]

end

/-- The frame types that are replayed are taken by no command of their own. -/
theorem ownCommand_of_replayed {f : Frame} (h : f.replayed = true) : ownCommand f = false := by
  simp only [Frame.replayed, decide_eq_true_eq] at h
  rcases h with h | h | h | h <;> simp [ownCommand, h]

theorem unknownFrame_of_replayed {f : Frame} (h : f.replayed = true) (hv : f.ver = 1) : unknownFrame f = false := by
  simp only [Frame.replayed, decide_eq_true_eq] at h
  rcases h with h | h | h | h <;> simp [unknownFrame, h, hv, fReq, fRsp, fMsg, fTun]

section
variable {i : Fin 4} {g : Frame} {b : Bool} {s : State}

theorem exec_frameForward (hu : s.isUp i = true) (hc : s.crosses i (s.readTag i g) = false) (ho : ownCommand (s.readTag i g) = false) :
    exec (.frameForward i g b) s = .next (s.frameIn i (s.readTag i g) b).settle :=
  if_pos ⟨hu, by simp [hc], by simp [ho]⟩

theorem exec_frameForward_none (h : s.isUp i = false ∨ ownCommand (s.readTag i g) = true) : exec (.frameForward i g b) s = .next s := by
  refine if_neg ?_
  rintro ⟨hu, -, ho⟩
  simp [hu, ho] at h

theorem exec_junctionRoute_none (h : s.isUp i = false ∨ ownCommand (s.readTag i g) = true) : exec (.junctionRoute i g b) s = .next s := by
  refine if_neg ?_
  rintro ⟨hu, -, ho⟩
  simp [hu, ho] at h

/-- A frame for another ring whose link-level checks it passes. -/
theorem exec_junctionRoute {t : State} (hu : s.isUp i = true) (hc : s.crosses i (s.readTag i g) = true) (ho : ownCommand (s.readTag i g) = false)
    (hl : s.linkCheck i (s.readTag i g) b = (true, t)) :
    exec (.junctionRoute i g b) s =
      if (s.readTag i g).hops = 1023 ∨ (t.isOwn (s.readTag i g) ∧ (s.readTag i g).wrap = 0) then .next (t.countDiscard i)
      else .next (t.crossFrame i (s.readTag i g)).settle := by
  show execJunctionRoute i g b s = _
  rw [execJunctionRoute, if_pos ⟨hu, hc, by simp [ho]⟩, hl]
  rfl

end

/-- A frame whose source is not this hub is none of its own. -/
theorem State.isOwn_of_foreign {s : State} {f : Frame} (h : s.isMine f.src = false) : s.isOwn f = false := by simp [State.isOwn, h]

section
variable {i : Nat} {f : Frame} {s t : State} {b : Bool} (hl : s.linkCheck i f b = (true, t)) (hb : isBc f = false)
include hl hb

/-- A frame for this hub goes to its block. -/
theorem State.frameIn_consumes (hc : t.consumes f = true) (hm : f.mark = .valid) (hu : unknownFrame f = false) (ha : t.pwr.asleep = false) :
    s.frameIn i f b = t.submit i (frameBlock f) f := by
  simp [State.frameIn, hl, hb, hc, State.consume, hm, hu, ha]

theorem State.frameIn_onward (hc : t.consumes f = false) (ho : t.isOwn f = false) : s.frameIn i f b = t.onward i (mate i) f := by
  simp [State.frameIn, hl, hb, hc, ho]

end

/-- A busy output takes a frame in transit through the switch core. -/
theorem State.onward_busy {i o : Nat} {f : Frame} {s : State} (hh : f.hops ≠ 1023) (hb : (s.port o).busy = true) (ha : s.pwr.asleep = false) :
    s.onward i o f = s.submit i o f.leaves := by
  simp [State.onward, hh, hb, ha]

theorem State.crossFrame_routes {i n via d : Nat} {f : Frame} {s : State} (hx : f.xcnt ≠ 15)
    (hr : s.byTable (f.dst / 256) (f.dst % 256) = .to n via d) : s.crossFrame i f = s.submit i (lane n d) { f.leaves with xcnt := f.xcnt + 1 } := by
  simp only [State.crossFrame, hx, if_false, hr]

/-- At XCNT 15 a response is only counted. -/
theorem State.crossFrame_loop {i : Nat} {f : Frame} {s : State} (hx : f.xcnt = 15) (hm : f.mark = .valid) (ht : f.typ = fRsp) :
    s.crossFrame i f = s.inc R.RING_NOROUTE_CNT_LOOP := by
  simp [State.crossFrame, hx, hm, State.noRouteBack, ht]

/-- Settles O27, by the outcome of the link-level checks and the frame's way from there. -/
theorem frameArrival : Obligations.FrameArrival := by
  refine ⟨fun i g f s hg hu hc hr hm he hl => ?_,
    fun i g f s hg hu hc hr hm he hl hv hb hcs ha =>
      ⟨s.setPort i ((s.port i).received f), ?_, ?_, ?_, rfl, rfl⟩,
    fun i g f s hg hu hc hr hm he hl hb hcs hs =>
      ⟨s.setPort i ((s.port i).received f), ?_, ?_, rfl, rfl⟩,
    fun i o f s hh => if_pos hh, fun i o f s hh _ hb ha => State.onward_busy hh hb ha,
    fun i g f n via d s hg hu hc hr hm he hl hh hs hx ht =>
      ⟨s.setPort i ((s.port i).received f), ?_, ?_, rfl, rfl⟩,
    fun i g f s hg hu hc ht hm he hl hh hs hx =>
      ⟨s.setPort i ((s.port i).received f), ?_, ?_, rfl⟩,
    fun i g f s hg hu hc hr hm he hl ho hw =>
      ⟨s.setPort i ((s.port i).received f), ?_, ?_, rfl, rfl⟩,
    fun i g s ho => ⟨exec_frameForward_none (.inr ho), exec_junctionRoute_none (.inr ho)⟩,
    fun i f b s hu => ⟨exec_frameForward_none (.inl hu), exec_junctionRoute_none (.inl hu)⟩⟩
  case refine_1 =>
    subst hg
    rw [exec_frameForward hu hc (ownCommand_of_replayed hr), State.frameIn, State.linkCheck_outOfSequence hr hm he hl]
    rfl
  case refine_2 =>
    subst hg
    rw [exec_frameForward hu hc (ownCommand_of_replayed hr), State.frameIn_consumes (State.linkCheck_inSequence hr hm he hl) hb (by rw
        [State.setPort_consumes, hcs]) hm
      (unknownFrame_of_replayed hr hv) ha]
  case refine_5 =>
    subst hg
    rw [exec_frameForward hu hc (ownCommand_of_replayed hr), State.frameIn_onward (State.linkCheck_inSequence hr hm he hl) hb
      (by rw [State.setPort_consumes, hcs]) (by rw [State.setPort_isOwn, State.isOwn_of_foreign hs])]
  case refine_7 =>
    subst hg
    rw [exec_junctionRoute hu hc (ownCommand_of_replayed hr) (State.linkCheck_inSequence hr hm he hl), if_neg, State.crossFrame_routes hx (by rw
        [State.setPort_byTable, ht])]
    exact not_or.mpr ⟨hh, fun h => by simp [State.isOwn_of_foreign hs] at h⟩
  case refine_9 =>
    subst hg
    have hr : (s.readTag i g).replayed = true := by simp [Frame.replayed, ht]
    rw [exec_junctionRoute hu hc (ownCommand_of_replayed hr) (State.linkCheck_inSequence hr hm he hl), if_neg, State.crossFrame_loop (s :=
        s.setPort i _) hx hm ht]
    exact not_or.mpr ⟨hh, fun h => by simp [State.isOwn_of_foreign hs] at h⟩
  case refine_11 =>
    subst hg
    rw [exec_junctionRoute hu hc (ownCommand_of_replayed hr) (State.linkCheck_inSequence hr hm he hl), if_pos]
    exact .inr ⟨by rw [State.setPort_isOwn, ho], hw⟩
  all_goals rw [State.setPort_port, Port.received]

/-! ### Acknowledgement and replay (R137, R151, R152) -/

/-- An ordered set read back from its blocks: code and ARG. -/
theorem setOf_twinSets {code arg : Nat} (h1 : 1 ≤ code) (h3 : code ≤ 3) (ha : arg < 2 ^ 16) : setOf (twinSets code arg) = some (code, arg) := by
  have hb : arg % 256 + 256 * (arg / 256 % 256) = arg := by omega
  obtain rfl | rfl | rfl : code = 1 ∨ code = 2 ∨ code = 3 := by omega
  all_goals simp [setOf, twinSets, setBlock, ctlBlock, leAt, slice, leBytes, leNat, hb]

section
variable {i : Fin 5} {x : SetPair} {s : State}

theorem exec_ackReceive {q : Nat} (hx : setOf x = some (1, q)) (hu : s.isUp i = true) : exec (.ackReceive i x) s = .next (s.ackIn i
  (q % 4096)).settle := by
  show execAckReceive i x s = _
  simp only [execAckReceive, hx, hu, if_true]

theorem exec_nakReceive {q : Nat} (hx : setOf x = some (2, q)) (hu : s.isUp i = true) : exec (.nakReceive i x) s = .next (s.nakIn i
  (q % 4096)).settle := by
  show execNakReceive i x s = _
  simp only [execNakReceive, hx, hu, if_true]

theorem exec_replayTimerExpiry (hu : s.isUp i = true) : exec (.replayTimerExpiry i) s = .next (s.rewindMark i).settle := if_pos hu

theorem exec_ackTimer (hu : s.isUp i = true) : exec (.ackTimer i) s = .next (s.sendSet i 1 (((s.port i).next + 4095) % 4096)) := if_pos hu

end

/-- The port after an ACK that names LSEQ `q`. -/
def Port.acked (p : Port) (q : Nat) : Port :=
  let rest := (p.fifo.dropWhile fun f => f.lseq ≠ q).drop 1
  let gone := p.fifo.take (p.fifo.length - rest.length)
  { p with fifo := rest, failed := 0, rewind := p.rewind.filter fun f => ¬ gone.any fun g => g.lseq = f.lseq }

/-- The port that sends again from LSEQ `q`. -/
def Port.rewound (p : Port) (q : Nat) : Port := { p with rewind := p.fifo.dropWhile (fun f => f.lseq ≠ q), replay := satAdd 16 p.replay 1 }

/-- The port with one more rewind of its mark. -/
def Port.marked (p : Port) : Port := { p with failed := p.failed + 1 }

/-- A rewind to the marked frame sends all of the FIFO again. -/
theorem Port.rewound_mark {p : Port} {f : Frame} {r : List Frame} (h : p.fifo = f :: r) : (p.marked.rewound f.lseq).rewind = f :: r := by
  simp [Port.rewound, Port.marked, h]

section
variable {i q : Nat} {s : State}

theorem State.ackIn_releases (h : (s.port i).fifo.any (fun f => f.lseq = q) = true) :
    s.ackIn i q = (s.setPort i ((s.port i).acked q)).startNext i := by
  unfold State.ackIn
  dsimp only
  rw [if_pos h]
  rfl

theorem State.ackIn_unknown (h : (s.port i).fifo.any (fun f => f.lseq = q) = false) : s.ackIn i q = s := by
  unfold State.ackIn
  dsimp only
  rw [if_neg (by simp [h])]

theorem State.nakIn_unknown (h : (s.port i).fifo.any (fun f => f.lseq = q) = false) : s.nakIn i q = s := by
  unfold State.nakIn
  dsimp only
  rw [if_pos (by simp [h])]

variable {f : Frame} {r : List Frame} (hf : (s.port i).fifo = f :: r)
include hf

/-- The marked frame is sent again, and with it what follows. -/
theorem State.rewindMark_again (h : (s.port i).failed ≠ 3) :
    s.rewindMark i = ((s.setPort i (s.port i).marked).setPort i ((s.port i).marked.rewound f.lseq)).startNext i := by
  unfold State.rewindMark
  rw [hf]
  refine (if_neg h).trans ?_
  show (State.setPort (s.setPort i (s.port i).marked) i (((s.setPort i (s.port i).marked).port i).rewound f.lseq)).startNext i = _
  rw [State.setPort_port]

theorem State.rewindMark_fails (h : (s.port i).failed = 3) : s.rewindMark i = s.linkDown i 6 := by
  unfold State.rewindMark
  rw [hf]
  exact if_pos h

/-- A NAK of the marked frame. -/
theorem State.nakIn_mark (h : f.lseq = q) : s.nakIn i q = s.rewindMark i := by
  simp [State.nakIn, hf, h]

/-- A NAK of a later frame. -/
theorem State.nakIn_later (h : f.lseq ≠ q) (hr : r.any (fun f => f.lseq = q) = true) :
    s.nakIn i q = (s.setPort i ((s.port i).rewound q)).startNext i := by
  have ha : (s.port i).fifo.any (fun f => f.lseq = q) = true := by rw [hf, List.any_cons, hr, Bool.or_true]
  unfold State.nakIn
  dsimp only
  rw [if_neg (by simp [ha]), if_neg (by simp [hf, h])]
  rfl

end

theorem mod_lseq (q : Fin 4096) : q.val % 4096 = q.val := Nat.mod_eq_of_lt q.isLt

/-- A set goes out at once on a free output. -/
theorem State.sendSet_free {s : State} {i code arg : Nat} (h : (s.port i).busy = false) : s.sendSet i code arg = s.emit (.orderedSet i
  (twinSets code arg)) := by
  simp [State.sendSet, h]

/-- On a busy one it waits for the frame to end. -/
theorem State.sendSet_busy {s : State} {i code arg : Nat} (h : (s.port i).busy = true) :
    s.sendSet i code arg = s.setPort i { s.port i with setsDue := (s.port i).setsDue ++ [(code, arg)] } := by
  simp [State.sendSet, h]

/-- Settles O28: the acknowledgements by the frame that they name. -/
theorem ackAndReplay : Obligations.AckAndReplay := by
  refine ⟨fun i x q s hx hu h => ⟨s.setPort i ((s.port i).acked q), ?_, ?_, ?_, State.setPort_regs ..⟩, fun i x q s hu h => ⟨fun hx => ?_,
      fun hx => ?_⟩,
    fun i x s hx => ⟨?_, ?_, if_neg (by simp [hx])⟩, fun code arg h1 h3 ha => setOf_twinSets h1 h3 ha,
    fun i x q f r s hx hu hf hl hr => ⟨s.setPort i ((s.port i).rewound q), ?_, ?_, ?_, ?_⟩,
    fun i x q f r s hx hu hf hl hn => ⟨(s.setPort i (s.port i).marked).setPort i ((s.port i).marked.rewound f.lseq), ?_, ?_, ?_, ?_⟩,
    fun i f r s hu hf hn => ⟨(s.setPort i (s.port i).marked).setPort i ((s.port i).marked.rewound f.lseq), ?_, ?_, ?_, ?_⟩,
    fun i f r s hu hf hn => ?_, fun i s hu hb => ⟨s.emit (.orderedSet i (twinSets 1 (((s.port i).next + 4095) % 4096))), ?_, rfl, rfl, rfl⟩,
    fun i s hu hb => ⟨s.setPort i { s.port i with setsDue := (s.port i).setsDue ++ [(1, ((s.port i).next + 4095) % 4096)] }, ?_, ?_, rfl, rfl⟩⟩
  case refine_1 => rw [exec_ackReceive hx hu, mod_lseq, State.ackIn_releases h]
  case refine_4 => rw [exec_ackReceive hx hu, mod_lseq, State.ackIn_unknown h]
  case refine_5 => rw [exec_nakReceive hx hu, mod_lseq, State.nakIn_unknown h]
  case refine_6 =>
    show execAckReceive i x s = _
    simp only [execAckReceive, hx]
  case refine_7 =>
    show execNakReceive i x s = _
    simp only [execNakReceive, hx]
  case refine_8 => rw [exec_nakReceive hx hu, mod_lseq, State.nakIn_later hf hl hr]
  case refine_9 => simp only [State.setPort_port, Port.rewound, hf, List.dropWhile_cons, hl, ne_eq, not_false_eq_true, decide_true, if_true]
  case refine_12 => rw [exec_nakReceive hx hu, mod_lseq, State.nakIn_mark hf hl, State.rewindMark_again hf hn]
  case refine_16 => rw [exec_replayTimerExpiry hu, State.rewindMark_again hf hn]
  case refine_20 => rw [exec_replayTimerExpiry hu, State.rewindMark_fails hf hn]
  case refine_21 => rw [exec_ackTimer hu, State.sendSet_free hb]; rfl
  case refine_22 => rw [exec_ackTimer hu, State.sendSet_busy hb]; rfl
  case refine_13 | refine_17 => rw [State.setPort_port, Port.rewound_mark hf]
  case refine_2 | refine_3 => rw [State.setPort_port]; rfl
  case refine_23 => rw [State.setPort_port]
  all_goals simp only [State.setPort_port, Port.rewound, Port.marked, hf]

end Sys2Proof.Machine
end

section
/-!
PROOFS. What a free ring output sends next.
-/

namespace Sys2Proof.Machine

/-! ### What the state of a port and of the sweep window is read from -/

theorem State.isUp_of {s t : State} {i : Nat} (hr : t.regs = s.regs) (hp : (t.port i).st = (s.port i).st) : t.isUp i = s.isUp i := by
  have hm : t.ringMode i = s.ringMode i := by
    rw [show t = { t with regs := s.regs } by rw [← hr]]; rfl
  rw [State.isUp, State.isUp, hm, hp]

theorem State.windowHolds_of {s t : State} (hr : t.regs = s.regs) (hc : t.cyc = s.cyc) (ht : t.td = s.td) (hn : t.now = s.now) (i : Nat) (f : Frame) :
    t.windowHolds i f = s.windowHolds i f := by
  rw [show t = { t with regs := s.regs, cyc := s.cyc, td := s.td, now := s.now } by rw [← hr, ← hc, ← ht, ← hn]]
  rfl

/-! ### Between two frames (R135, R137) -/

/-- On a free output each set that waits goes out at once. -/
theorem State.sendSets_free {i : Nat} (l : List (Nat × Nat)) {s : State} (h : (s.port i).busy = false) :
    l.foldl (fun s (c, a) => s.sendSet i c a) s = { s with emitted := s.emitted ++ l.map fun x => .orderedSet i (twinSets x.1 x.2) } := by
  induction l generalizing s with
  | nil => rw [List.map_nil, List.append_nil]; rfl
  | cons x l ih =>
    obtain ⟨c, a⟩ := x
    rw [List.foldl_cons]
    dsimp only
    rw [State.sendSet_free h, ih (s := s.emit _) h, List.map_cons]
    simp only [State.emit, List.append_assoc, List.singleton_append]

theorem State.gap_none {s : State} {i : Nat} (h : (s.port i).setsDue = []) : s.gap i = s.emit (.idle i idleBlock) := if_pos h

theorem State.gap_sets {s : State} {i : Nat} (h : (s.port i).setsDue ≠ []) (hb : (s.port i).busy = false) :
    s.gap i = { s.setPort i { s.port i with setsDue := [] } with
      emitted := s.emitted ++ (s.port i).setsDue.map fun x => .orderedSet i (twinSets x.1 x.2) } :=
  (if_neg h).trans (State.sendSets_free _ (by rw [State.setPort_port, hb]))

/-- The port while its output is free. -/
def Port.freed (p : Port) : Port := { p with busy := false, setsDue := [] }

/-- Output `i` once its frame has ended: the frame's cells are freed, and it is idle. -/
def State.idled (s : State) (i : Nat) : State :=
  ({ s with sw := { s.sw with queue := s.sw.queue.filter fun x => ¬ (x.out = i ∧ x.started) } } : State).setPort i { s.port i with busy := false }

theorem State.idled_port (s : State) (i : Nat) : (s.idled i).port i = { s.port i with busy := false } := State.setPort_port ..

theorem State.idled_isUp (s : State) (i : Nat) : (s.idled i).isUp i = s.isUp i :=
  State.isUp_of (by rw [State.idled, State.setPort_regs]) (by rw [State.idled_port])

theorem State.outputFree_eq (s : State) (i : Nat) :
    s.outputFree i = (if (s.idled i).isUp i then (s.idled i).gap i else s.idled i).startNext i := rfl

/-- What the gap leaves as it is, and the port after it. -/
theorem State.gap_idled (s : State) (i : Nat) :
    ((s.idled i).gap i).port i = (s.port i).freed ∧ ((s.idled i).gap i).regs = s.regs ∧ ((s.idled i).gap i).cyc = s.cyc ∧
      ((s.idled i).gap i).td = s.td ∧ ((s.idled i).gap i).now = s.now := by
  by_cases h : (s.port i).setsDue = []
  · rw [State.gap_none (by rw [State.idled_port, h])]
    refine ⟨?_, by simp [State.idled], by simp [State.idled], by simp [State.idled], by simp [State.idled]⟩
    rw [show ((s.idled i).emit (.idle i idleBlock)).port i = (s.idled i).port i from rfl, State.idled_port, Port.freed, ← h]
  · rw [State.gap_sets (by rw [State.idled_port]; exact h) (by rw [State.idled_port])]
    refine ⟨(State.setPort_port ..).trans (by rw [State.idled_port]; rfl), ?_, ?_, ?_, ?_⟩
    all_goals simp [State.idled]

/-- A free output that is UP starts the next frame from a port that is free. -/
theorem State.outputFree_up {s : State} {i : Nat} (h : s.isUp i = true) :
    ∃ u : State, s.outputFree i = u.startNext i ∧ u.port i = (s.port i).freed ∧ u.regs = s.regs ∧ u.isUp i = true ∧
      ∀ f, u.windowHolds i f = s.windowHolds i f := by
  obtain ⟨hp, hr, hc, ht, hn⟩ := s.gap_idled i
  refine ⟨(s.idled i).gap i, ?_, hp, hr, ?_, State.windowHolds_of hr hc ht hn i⟩
  · rw [State.outputFree_eq, State.idled_isUp, if_pos h]
  · rw [State.isUp_of (s := s) hr (by rw [hp]; rfl), h]

theorem exec_ringOutputFree (i : Fin 5) (s : State) : exec (.ringOutputFree i) s = .next (s.outputFree i).settle := rfl

/-! ### The order of an output (R134, R364) -/

section
variable {s : State} {i : Nat} {f : Frame} {r : List Frame} (hu : s.isUp i = true) (hb : (s.port i).busy = false)
include hu hb

theorem State.startNext_sweep (h : (s.port i).sweep = f :: r) : s.startNext i = (s.setPort i { s.port i with sweep := r }).transmit i f false := by
  simp [State.startNext, hu, hb, h]

theorem State.startNext_sync (h0 : (s.port i).sweep = []) (h : (s.port i).sync = f :: r) (hw : s.windowHolds i f = false) :
    s.startNext i = (s.setPort i { s.port i with sync := r }).transmit i f false := by
  simp [State.startNext, hu, hb, h0, h, hw]

theorem State.startNext_rewind (h0 : (s.port i).sweep = []) (h1 : (s.port i).sync = []) (h : (s.port i).rewind = f :: r)
    (hw : s.windowHolds i f = false) : s.startNext i = (s.setPort i { s.port i with rewind := r }).transmit i f true := by
  simp [State.startNext, hu, hb, h0, h1, h, hw]

end

theorem State.startNext_notUp {s : State} {i : Nat} (h : s.isUp i = false) : s.startNext i = s := by simp [State.startNext, h]

/-! ### A frame that starts (R134, R147, R150) -/

/-- A frame that is replayed as it leaves a port: with the port's epoch, frame counter and next LSEQ. -/
def sentBy (f : Frame) (p : Port) : Frame := { f with epoch := p.epoch, fcnt := p.fcnt, lseq := p.lseq }

/-- The port that has sent a frame and keeps it. -/
def Port.sent (p : Port) (f : Frame) : Port := { p with fcnt := p.fcnt + 1, busy := true, lseq := (p.lseq + 1) % 4096, fifo := p.fifo ++ [f] }

/-- A new replayed frame takes the next LSEQ and is kept. -/
theorem State.transmit_new {s : State} {i : Nat} {f : Frame} (hc : (s.port i).fcnt < 2 ^ 32) (hr : f.replayed = true) (hm : f.mark = .valid)
    (hk : (s.sec_ i).rekey = none) (ho : s.overThr i f = false) :
    s.transmit i f false = (s.emitFrame i (sentBy f (s.port i))).setPort i ((s.port i).sent (sentBy f (s.port i))) := by
  have ht : f.typ ≠ fTime ∧ f.typ ≠ fSweep := by
    simp only [Frame.replayed, decide_eq_true_eq] at hr
    rcases hr with h | h | h | h <;> simp [h]
  have hs : s.stampFrame i (sentBy f (s.port i)) = sentBy f (s.port i) := if_pos (.inl ht.1)
  have hl : s.noteLeft i (sentBy f (s.port i)) = s := if_neg (fun h => ht.2 h.1)
  have hn : s.noteStamp i (sentBy f (s.port i)) = s := if_pos (.inl ht.1)
  have hf : ({ f with epoch := (s.port i).epoch, fcnt := (s.port i).fcnt, lseq := (s.port i).lseq, ce := f.ce || false } : Frame) =
      sentBy f (s.port i) := by rw [Bool.or_false, sentBy]
  unfold State.transmit
  dsimp only
  rw [if_neg (Nat.not_le.mpr hc), ho, if_neg Bool.false_ne_true, if_pos hr, hf, hs, hl, hn, hk]
  have hkeep : (sentBy f (s.port i)).replayed = true ∧ (sentBy f (s.port i)).mark = .valid := ⟨hr, hm⟩
  have ha (u : State) (hu : u.sec = s.sec) : u.afterSend i (sentBy f (s.port i)) = u := by
    have : (u.sec_ i).rekey = none := by rw [← hk]; unfold State.sec_; rw [hu]
    simp only [State.afterSend, this]
  simp only [hkeep, Option.any_none, Bool.false_eq_true, false_and, if_false, not_false_eq_true, and_self, if_true]
  rw [ha _ (by rw [State.setPort_sec]; rfl)]
  rfl

/-- Settles O31, by what waits at the output. -/
theorem outputOrder : Obligations.OutputOrder := by
  refine ⟨fun i f r s hu hs hc => ?_, fun i f r s hu h0 h1 hs hw => ?_, fun i f r s hu h0 hs hw => ?_,
    fun i f r s hu hd hs => ⟨((s.idled i).emit (.idle i idleBlock)).setPort i { s.port i with busy := false, sweep := r }, ?_, rfl⟩,
    fun i s hu => ⟨s.idled i, ?_, ?_, rfl, rfl⟩, fun i f s hc hr hm hk ho => ?_⟩
  · obtain ⟨u, he, hp, hr, hup, -⟩ := State.outputFree_up hu
    refine ⟨u.setPort i { u.port i with sweep := r }, ?_, ?_, ?_, ?_, ?_⟩
    · rw [exec_ringOutputFree, he, State.startNext_sweep hup (by rw [hp]; rfl) (by rw [hp]; exact hs)]
    all_goals simp only [State.setPort_port, State.setPort_regs, hp, hr, Port.freed]
  · obtain ⟨u, he, hp, hr, hup, hwin⟩ := State.outputFree_up hu
    refine ⟨u.setPort i { u.port i with rewind := r }, ?_, ?_, ?_, ?_⟩
    · rw [exec_ringOutputFree, he, State.startNext_rewind hup (by rw [hp]; rfl) (by rw [hp]; exact h0) (by rw [hp]; exact h1) (by rw [hp]; exact hs)
        (by rw [hwin, hw])]
    all_goals simp only [State.setPort_port, State.setPort_regs, hp, hr, Port.freed]
  · obtain ⟨u, he, hp, hr, hup, hwin⟩ := State.outputFree_up hu
    refine ⟨u.setPort i { u.port i with sync := r }, ?_, ?_, ?_, ?_⟩
    · rw [exec_ringOutputFree, he, State.startNext_sync hup (by rw [hp]; rfl) (by rw [hp]; exact h0) (by rw [hp]; exact hs) (by rw [hwin, hw])]
    all_goals simp only [State.setPort_port, State.setPort_regs, hp, hr, Port.freed]
  · have hp : ((s.idled i).emit (.idle i idleBlock)).port i = { s.port i with busy := false } := s.idled_port i
    have hup : ((s.idled i).emit (.idle i idleBlock)).isUp i = true := (s.idled_isUp i).trans hu
    rw [exec_ringOutputFree, State.outputFree_eq, State.idled_isUp, if_pos hu, State.gap_none (by rw [State.idled_port]; exact hd),
      State.startNext_sweep hup (by rw [hp]) (by rw [hp]; exact hs), hp]
  · rw [exec_ringOutputFree, State.outputFree_eq, State.idled_isUp, if_neg (by simp [hu]), State.startNext_notUp (by rw [State.idled_isUp, hu])]
  · rw [State.idled_port]
  · rw [State.transmit_new hc hr hm hk ho, State.setPort_port]
    exact ⟨rfl, rfl, rfl, rfl, rfl⟩

end Sys2Proof.Machine
end

section
/-!
PROOFS. Joining a ring, announces, and the topology record.
-/

namespace Sys2Proof.Machine

/-! ### The words that a lost path leaves: those below the switch core's, but for the count of unroutable requests -/

theorem State.word_wr_ne (s : State) (f : Fld) (v : Nat) {o : Nat} (h : o ≠ f.off) : (s.wr f v).word o = s.word o := State.word_setWord_ne _ _ h

theorem State.word_inc_ne (s : State) (f : Fld) (k : Nat) {o : Nat} (h : o ≠ f.off) : (s.inc f k).word o = s.word o := State.word_setWord_ne _ _ h

theorem State.word_of_regs {s t : State} (h : t.regs = s.regs) (o : Nat) : t.word o = s.word o := by rw [State.word, State.word, h]

theorem State.word_ite (c : Prop) [Decidable c] (s t : State) (o : Nat) : (if c then s else t).word o = if c then s.word o else t.word o := by
  split <;> rfl

theorem State.toTransit_regs (s : State) (i p : Nat) (f : Frame) : (s.toTransit i p f).regs = s.regs := by
  unfold State.toTransit
  dsimp only
  split
  · exact State.setPort_regs ..
  split
  · exact State.setPort_regs ..
  · rfl

theorem State.retire_regs (s : State) (k : Nat) (b : Bool) : (s.retire k b).regs = s.regs := by
  unfold State.retire
  split <;> rfl

theorem State.raiseVector_regs (s : State) (t v : Nat) : (s.raiseVector t v).regs = s.regs := by
  unfold State.raiseVector
  dsimp only
  split
  · rfl
  split <;> rfl

section
variable {o : Nat} (ho : o < 0x80000)
include ho

theorem State.admitFrame_word (s : State) (i p c : Nat) (f : Frame) : (s.admitFrame i p c f).word o = s.word o := by
  have hm (u : State) (q k : Nat) : (u.inc (R.SW_OQ_CNT_MARKED q) k).word o = u.word o :=
    State.word_inc_ne _ _ _ (by show o ≠ 0x8100c + 0x10 * q; omega)
  have hp (u : State) (q v : Nat) : (u.wr (R.SW_OQ_STAT_PEAK q) v).word o = u.word o :=
    State.word_wr_ne _ _ _ (by show o ≠ 0x81008 + 0x10 * q; omega)
  unfold State.admitFrame
  simp only [State.word_ite, hp, hm, ite_self]
  rfl

theorem State.submit_word (s : State) (i p : Nat) (f : Frame) : (s.submit i p f).word o = s.word o := by
  have hr (u : State) (q k : Nat) : (u.inc (R.SW_OQ_CNT_REFUSED q) k).word o = u.word o :=
    State.word_inc_ne _ _ _ (by show o ≠ 0x8100c + 0x10 * q; omega)
  have hd (u : State) (k : Nat) : (u.inc (R.SW_IN_CNT_DROP i) k).word o = u.word o :=
    State.word_inc_ne _ _ _ (by show o ≠ 0x80100 + 0x4 * i; omega)
  have hh (u : State) (k : Nat) : (u.inc (R.SW_IN_CNT_HOLD i) k).word o = u.word o :=
    State.word_inc_ne _ _ _ (by show o ≠ 0x80100 + 0x4 * i; omega)
  unfold State.submit
  split
  · split
    · exact State.word_of_regs (State.toTransit_regs ..) o
    · rfl
  dsimp only
  split
  · exact State.admitFrame_word ho ..
  split
  · rw [hd, hr]
  · rw [hh]
    exact hr s _ _

theorem State.sendTo_word (s : State) (i n : Nat) (f : Frame) : (s.sendTo i n f).word o = s.word o := by
  unfold State.sendTo
  split
  · exact State.submit_word ho ..
  · rfl

theorem State.signal_word (s : State) (t v : Nat) (e : Bool) : (s.signal t v e).word o = s.word o := by
  unfold State.signal
  split
  · exact State.sendTo_word ho ..
  · exact State.word_of_regs (State.raiseVector_regs ..) o

theorem State.stop_word (s : State) (p reason : Nat) : (s.stop p reason).word o = s.word o := by
  unfold State.stop State.stopFor State.signalErr
  split
  · split
    · exact State.signal_word ho ..
    · rfl
  · rfl

theorem State.interrupt_word (s : State) (p : Nat) : (s.interrupt p).word o = s.word o := by
  unfold State.interrupt
  dsimp only
  split
  · rfl
  · exact State.signal_word ho ..

theorem State.coalesce_word (s : State) (p st : Nat) : (s.coalesce p st).word o = s.word o := by
  unfold State.coalesce
  dsimp only
  split
  · rfl
  split
  · exact State.interrupt_word ho ..
  · rfl

variable (hn : o ≠ 0x50024)
include hn

theorem State.hostWrite_word (s : State) (t addr : Nat) (b : List Byte) : (s.hostWrite t addr b).word o = s.word o := by
  unfold State.hostWrite State.hostReq
  split
  · dsimp only
    split
    · exact State.word_inc_ne _ _ _ hn
    · exact State.sendTo_word ho ..
  · rfl

theorem State.putEntry_word (s : State) (p : Nat) (e : CqEntry) : (s.putEntry p e).word o = s.word o := by
  unfold State.putEntry
  dsimp only
  rw [State.coalesce_word ho]
  split
  · rw [State.word_of_regs (State.retire_regs ..) o]
    exact State.hostWrite_word ho hn ..
  · exact State.hostWrite_word ho hn ..

theorem State.drainCq_word (n : Nat) (s : State) (p : Nat) : (s.drainCq p n).word o = s.word o := by
  induction n generalizing s with
  | zero => rfl
  | succ n ih =>
    rw [State.drainCq]
    split
    · rfl
    split
    · split
      · exact State.stop_word ho ..
      · rw [ih, State.putEntry_word ho hn]
        rfl
    · split
      · rw [State.putEntry_word ho hn]
        rfl
      · rfl

theorem State.post_word (s : State) (p : Nat) (e : CqEntry) : (s.post p e).word o = s.word o := by
  unfold State.post
  rw [State.drainCq_word ho hn]
  rfl

theorem State.abort_word (s : State) (k st : Nat) : (s.abort k st).word o = s.word o := by
  unfold State.abort
  split
  · split
    · exact State.word_of_regs (State.retire_regs ..) o
    split
    · unfold State.answerRop
      dsimp only
      split <;> exact State.word_of_regs (State.retire_regs ..) o
    · rw [State.post_word ho hn]
      rfl
  · rfl

theorem State.pathLost_word (s : State) (k : Nat) : (s.pathLost k).word o = s.word o := by
  unfold State.pathLost
  split
  · rfl
  split
  · rfl
  split
  · exact State.submit_word ho ..
  · exact State.abort_word ho hn ..

theorem State.checkPaths_word (s : State) : s.checkPaths.word o = s.word o :=
  Quiet.foldl (g := fun u : State => u.word o) (fun u (x : Nat × Tx) => u.pathLost x.1) (fun u x => State.pathLost_word ho hn u x.1) _ s

end

@[simp] theorem State.chooseRef_regs (s : State) : s.chooseRef.regs = s.regs := by
  unfold State.chooseRef
  dsimp only
  repeat' split
  all_goals rfl

/-- A change of the sources of a ring's domain changes no word but the count of switches of TD0. -/
theorem State.settleDomain_word (s : State) {d o : Nat} (hd : d = 0 ∨ d = 8) (h : o ≠ 0x40108) : (s.settleDomain d).word o = s.word o := by
  have hi (v : State) : (if d < 8 then v.inc (R.TD_STAT_SWITCHES d) else v).word o = v.word o := by
    split
    case isTrue h8 =>
      obtain rfl : d = 0 := by omega
      exact State.word_inc_ne _ _ _ h
    case isFalse => rfl
  unfold State.settleDomain
  dsimp only
  rw [State.word_ite, hi]
  exact ite_self _

/-- So does the loss of a SYNC path. -/
theorem State.losePath_word (s : State) (n d : Nat) {o : Nat} (h : o ≠ 0x40108) : (s.losePath n d).word o = s.word o := by
  unfold State.losePath
  dsimp only
  split
  · unfold State.setAvail
    dsimp only
    split
    · exact State.word_of_regs (State.chooseRef_regs _) o
    · rw [State.settleDomain_word _ (by unfold ringDomain; split <;> simp) h]
      exact State.word_of_regs (State.chooseRef_regs _) o
  · exact State.word_of_regs (State.chooseRef_regs _) o

theorem State.dropPaths_word (s : State) {o : Nat} (h : o ≠ 0x40108) : s.dropPaths.word o = s.word o := by
  unfold State.dropPaths
  refine Quiet.foldl (g := fun u : State => u.word o) _ (fun u n => ?_) _ s
  dsimp only
  split
  · rfl
  · simp only [State.word_ite, State.losePath_word _ _ _ h, ite_self]

/-! ### GEN and the records (R33 to R35) -/

/-- GEN steps by 1 for each field that changes. -/
theorem State.afterTopo_gen (s : State) (old : NMap Topo) :
    (s.afterTopo old).rd R.RING_TOPO_GEN = (s.rd R.RING_TOPO_GEN + topoChanges old s.ring.topo) % 65536 := by
  have hb (u : State) (i v : Nat) : (u.wr (R.RING_CYC_STAT_BROKEN i) v).rd R.RING_TOPO_GEN = u.rd R.RING_TOPO_GEN :=
    State.rd_wr_ne _ _ (by show 28 + 1 ≤ 32; decide) (.inl (by show 0x50054 + 0x20 * i ≠ 0x50020; omega))
  unfold State.afterTopo
  dsimp only
  split
  case isTrue h =>
    rw [h, Nat.add_zero]
    exact (Nat.mod_eq_of_lt (s.rd_lt R.RING_TOPO_GEN)).symm
  case isFalse h =>
    rw [State.rd, State.checkPaths_word (by decide) (by decide), State.dropPaths_word _ (by decide)]
    show State.rd _ R.RING_TOPO_GEN = _
    rw [hb, hb, State.rd_wr_same _ _ _ (by decide)]
    exact Nat.mod_mod _ _

/-- Nothing that follows a change of the record changes the record. -/
@[simp] theorem State.afterTopo_topo (s : State) (old : NMap Topo) (n st : Nat) : (s.afterTopo old).topo n st = s.topo n st := by
  have h : (s.afterTopo old).ring.topo = s.ring.topo := by
    unfold State.afterTopo
    dsimp only
    split
    · rfl
    · refine (congrArg (fun d : Deep => d.record.topo) (State.checkPaths_deep _)).trans ?_
      show (State.dropPaths _).ring.topo = _
      rw [State.dropPaths_ring]
      simp only [State.wr_ring]
  unfold State.topo
  rw [h]

theorem State.setTopo_topo (s : State) (n st : Nat) (x : Topo) : (s.setTopo n st x).topo n st = x := NMap.get_set_same ..

/-- What leaves the deep part leaves the topology record. -/
theorem topo_of_deep {s t : State} (h : t.deep = s.deep) (n st : Nat) : t.topo n st = s.topo n st := by
  have hr : t.ring.topo = s.ring.topo := congrArg (fun d : Deep => d.record.topo) h
  unfold State.topo
  rw [hr]

/-! ### Joining (R31, R32) -/

/-- The hub's own entry. -/
def State.ownEntry (s : State) (n : Nat) : Topo :=
  { hopsA := 0, hopsB := 0, heardAt := s.ns, master := s.isMaster n, junction := s.junction, twin := s.flag R.TWIN_CFG_EN, present := true
    other := if s.junction then (if n = 0 then s.node1 else s.node0) else 0 }

theorem State.showSelf_topo (s : State) (n : Nat) : (s.showSelf n).topo n (s.station n) = s.ownEntry n := by
  unfold State.showSelf
  dsimp only
  rw [State.afterTopo_topo, State.setTopo_topo]
  rfl

/-- A hub with a station that announces itself shows itself in the record. -/
theorem State.announce_topo {s : State} {n : Nat} (h : s.station n ≠ 0) : (s.announce n).topo n (s.station n) = s.ownEntry n := by
  rw [← State.showSelf_topo]
  unfold State.announce
  dsimp only
  rw [if_neg h]
  refine topo_of_deep (deep_foldl _ (fun u d => ?_) _ _) n _
  split
  · exact State.submit_deep ..
  · rfl

/-- The state once a hub has joined ring `n`: JOINED, without conflict, its sweep windows forgotten. -/
def State.joinedAt (s : State) (n : Nat) : State :=
  ((s.wr (joinedFld n) 1).wr (conflictFld n) 0).setCyc n
    { ((s.wr (joinedFld n) 1).wr (conflictFld n) 0).cycOf n with winE := {}, winW := {} }

theorem exec_joinTimerExpiry {n : Fin 2} {s : State} (h5 : (s.joinOf n).step = 5) (hj : s.joined n = false) :
    exec (.joinTimerExpiry n) s = .next (s.joinedAt n) := if_pos ⟨h5, by simp [hj]⟩

theorem State.setCyc_cycOf (s : State) (n : Nat) (c : Cyc) : (s.setCyc n c).cycOf n = c := by
  unfold State.setCyc State.cycOf
  split <;> rfl

theorem State.setCyc_ring (s : State) (n : Nat) (c : Cyc) : (s.setCyc n c).ring = s.ring := (rfl)

theorem State.setCyc_hif (s : State) (n : Nat) (c : Cyc) : (s.setCyc n c).hif = s.hif := (rfl)

theorem State.setCyc_flag (s : State) (n : Nat) (c : Cyc) (f : Fld) : (s.setCyc n c).flag f = s.flag f := (rfl)

theorem joined_of_joinedAt (s : State) (n : Nat) : (s.joinedAt n).joined n = true := by
  have hne : (joinedFld n).off ≠ (conflictFld n).off ∨ (joinedFld n).lo + (joinedFld n).width ≤ (conflictFld n).lo ∨
      (conflictFld n).lo + (conflictFld n).width ≤ (joinedFld n).lo := by
    unfold joinedFld conflictFld
    split <;> decide
  have hw : (joinedFld n).lo + (joinedFld n).width ≤ 32 ∧ (joinedFld n).width = 1 ∧ (conflictFld n).lo + (conflictFld n).width ≤ 32 := by
    unfold joinedFld conflictFld
    split <;> decide
  obtain ⟨hj, h1, hc⟩ := hw
  rw [State.joined, State.joinedAt, State.setCyc_flag, State.flag_wr_ne _ _ hc (by omega), State.flag_wr_same _ _ _ hj, h1]
  rfl

theorem noConflict_of_joinedAt (s : State) (n : Nat) : (s.joinedAt n).flag (conflictFld n) = false := by
  rw [State.joinedAt, State.setCyc_flag, State.flag_wr_same]
  · simp
  · unfold conflictFld
    split <;> decide

/-- A station that nobody shows is taken. -/
theorem State.takeStation_free {s : State} {n st : Nat} (h : (s.topo n st).present = false) : s.takeStation n st = s.putStation n st := by
  simp [State.takeStation, h]

/-- Settles O32. -/
theorem joining : Obligations.Joining := by
  refine ⟨fun n s h5 hj => ⟨s.joinedAt n, exec_joinTimerExpiry h5 hj, joined_of_joinedAt s n, noConflict_of_joinedAt s n, ?_, ?_, ?_, ?_⟩,
    fun n s h => if_neg ?_, fun i f s hm hv ht hb ho hs ha hl h0 h3 hser hn0 hn255 hmg => ?_, fun i f s h => ?_,
    fun n st s _ hp => State.takeStation_free hp, fun n s hs _ _ => ?_⟩
  · rw [State.joinedAt, State.setCyc_cycOf]
  · rw [State.joinedAt, State.setCyc_cycOf]
  · rw [State.joinedAt, State.setCyc_ring, State.wr_ring, State.wr_ring]
  · rw [State.joinedAt, State.setCyc_hif, State.wr_hif, State.wr_hif]
  · rintro ⟨h5, hj⟩
    simp [h5, hj] at h
  · refine congrArg Host.Outcome.next (if_pos ⟨⟨hm, hv, ht, hb, ho, hs, ha, hl⟩, h0, h3, hser, hn0, hn255, hmg⟩)
  · refine congrArg Host.Outcome.next (if_neg ?_)
    rintro ⟨-, h0, -, hser, -, -, hmg⟩
    rcases h with h | h | h
    · exact h h0
    · exact h hser
    · simp [h] at hmg
  · rw [State.announce_topo hs]
    exact ⟨rfl, rfl, rfl, rfl, rfl⟩

/-! ### Announces (R32 to R34) -/

section
variable {i : Fin 4} {f : Frame} {s : State} (hu : s.isUp i = true) (hm : f.mark = .valid) (hv : f.ver = 1) (ht : f.typ = fMgmt)
include hu hm hv ht

theorem exec_announceReceive (ho : f.op = 1) : exec (.announceReceive i f) s = .next (s.announceIn i f).settle := if_pos ⟨hu, hm, hv, ht, ho⟩

theorem exec_linkStateReceive (ho : f.op = 2) : exec (.linkStateReceive i f) s = .next (s.linkStateIn i f).settle := if_pos ⟨hu, hm, hv, ht, ho⟩

end

/-- The node that an announce names, and its entry in the record once it is heard at port `i`. -/
def announced (f : Frame) : Nat := leAt f.payload 0 4 % 2 ^ 18
def State.heardEntry (s : State) (i : Nat) (f : Frame) : Topo :=
  (s.topo (i / 2) (announced f % 256)).heard (i % 2 = 1) (f.hops + 1) (leAt f.payload 16 16) s.ns (leAt f.payload 8 1) (leAt f.payload 4 4 % 2 ^ 18)

/-- A direct announce of the twin notes the port that it came from. -/
def State.nearTwin (s : State) (i : Nat) (f : Frame) : State :=
  if (s.flag R.TWIN_CFG_EN ∧ bit (leAt f.payload 8 1) 0 ∧ leAt f.payload 16 16 = s.peerSerial) ∧ f.hops = 0 then
    { s with twin := { s.twin with near := i :: s.twin.near.filter (· ≠ i) } }
  else s

theorem State.nearTwin_cases (s : State) (i : Nat) (f : Frame) :
    ((s.flag R.TWIN_CFG_EN ∧ bit (leAt f.payload 8 1) 0 ∧ leAt f.payload 16 16 = s.peerSerial) ∧ f.hops = 0) ∧
        s.nearTwin i f = { s with twin := { s.twin with near := i :: s.twin.near.filter (· ≠ i) } } ∨
      ¬ ((s.flag R.TWIN_CFG_EN ∧ bit (leAt f.payload 8 1) 0 ∧ leAt f.payload 16 16 = s.peerSerial) ∧ f.hops = 0) ∧ s.nearTwin i f = s := by
  unfold State.nearTwin
  split
  case isTrue h => exact .inl ⟨h, rfl⟩
  case isFalse h => exact .inr ⟨h, rfl⟩

/-- An announce of another station updates its entry. -/
theorem State.announceIn_other {s : State} {i : Nat} {f : Frame} (h3 : bit (leAt f.payload 8 1) 3 = false) (h0 : announced f % 256 ≠ 0)
    (h255 : announced f % 256 ≠ 255) (hs : leAt f.payload 16 16 ≠ s.serial) (hm : announced f ≠ nodeId (s.ringId (i / 2)) (s.station (i / 2))) :
    s.announceIn i f = ((s.nearTwin i f).setTopo (i / 2) (announced f % 256) (s.heardEntry i f)).afterTopo s.ring.topo := by
  unfold State.announceIn
  dsimp only
  rw [if_neg (by simp only [h3, not_or]; exact ⟨Bool.false_ne_true, h0, h255, hs⟩)]
  have hmine : ¬ (s.station (i / 2) ≠ 0 ∧ leAt f.payload 0 4 % 2 ^ 18 = nodeId (s.ringId (i / 2)) (s.station (i / 2))) := fun h => hm h.2
  rw [if_neg (fun h => hmine h.1), if_neg hmine]
  rcases s.nearTwin_cases i f with ⟨hc, hn⟩ | ⟨hc, hn⟩
  · rw [if_pos hc, hn]; rfl
  · rw [if_neg hc, hn]; rfl

/-- A joined hub that hears a rival for its station, or its twin, changes no more than its note of the twin's port. -/
theorem State.announceIn_mine {s : State} {i : Nat} {f : Frame} (hm : announced f = nodeId (s.ringId (i / 2)) (s.station (i / 2)))
    (hj : s.joined (i / 2) = true) : s.announceIn i f = s ∨ s.announceIn i f = s.nearTwin i f := by
  by_cases h : bit (leAt f.payload 8 1) 3 = true ∨ announced f % 256 = 0 ∨ announced f % 256 = 255 ∨ leAt f.payload 16 16 = s.serial
  · exact .inl (if_pos h)
  have h0 : s.station (i / 2) ≠ 0 := fun h0 => h (.inr (.inl (by rw [hm, h0]; unfold nodeId; omega)))
  have hmine : s.station (i / 2) ≠ 0 ∧ leAt f.payload 0 4 % 2 ^ 18 = nodeId (s.ringId (i / 2)) (s.station (i / 2)) := ⟨h0, hm⟩
  refine .inr ((if_neg h).trans ?_)
  dsimp only
  rw [if_pos hmine]
  rcases s.nearTwin_cases i f with ⟨hc, hn⟩ | ⟨hc, hn⟩
  · rw [if_neg (fun h => h.2 hc.1), if_pos hc, hn]
  · rw [if_neg hc, hn]
    split
    · exact if_pos (.inl hj)
    · rfl

/-- What a note of the twin's port changes. -/
theorem State.nearTwin_spec (s : State) (i : Nat) (f : Frame) : s.nearTwin i f = { s with twin := { s.twin with near :=
  (s.nearTwin i f).twin.near } } ∧
    ((s.nearTwin i f).twin.near ≠ s.twin.near → f.hops = 0 ∧ leAt f.payload 16 16 = s.peerSerial) := by
  rcases s.nearTwin_cases i f with ⟨⟨⟨-, -, hp⟩, hz⟩, hn⟩ | ⟨-, hn⟩
  · rw [hn]
    exact ⟨rfl, fun _ => ⟨hz, hp⟩⟩
  · rw [hn]
    exact ⟨rfl, fun h => absurd rfl h⟩

theorem exec_stationAgeOut {n : Fin 2} {st : Fin 256} {s : State} (h : (s.topo n st).present = true ∧ st.val ≠ s.station n) :
    exec (.stationAgeOut n st) s = .next ((s.setTopo n st { s.topo n st with present := false }).afterTopo s.ring.topo).settle := if_pos h

/-- A LINK_STATE of a station that is reachable cuts the stations beyond it. -/
theorem State.linkStateIn_cuts {s : State} {i : Nat} {f : Frame} (hx : s.stationOf (i / 2) f.src ≠ 0)
    (hh : s.hops (i / 2) (s.stationOf (i / 2) f.src) (leAt f.payload 0 1 % 2) ≠ 0xFF) (hd : leAt f.payload 0 1 % 2 = 0) :
    s.linkStateIn i f = s.cutHops (i / 2) 0 fun t => decide (s.hops (i / 2) (s.stationOf (i / 2) f.src) 0 < t.hopsA) := by
  unfold State.linkStateIn
  dsimp only
  rw [if_neg (not_or.mpr ⟨hx, hh⟩), hd]
  rfl

/-- Settles O33. -/
theorem announces : Obligations.Announces := by
  refine ⟨fun i f s hu hm hv ht ho h3 h0 h255 hs hn =>
      ⟨(s.nearTwin i f).setTopo (i / 2) (announced f % 256) (s.heardEntry i f), ?_, State.setTopo_topo .., ?_⟩,
    fun i f s hu hm hv ht ho hs => ?_, fun i f s hu hm hv ht ho hn hj => ⟨s.announceIn i f, exec_announceReceive hu hm hv ht ho, ?_⟩,
    fun n s hr hj => if_pos ⟨hr, hj⟩, fun n s hj => if_neg (by simp [hj]),
    fun n st s hp hst => ⟨s.setTopo n st { s.topo n st with present := false }, exec_stationAgeOut ⟨hp, hst⟩, State.setTopo_topo .., rfl⟩,
    fun i f s hu hm hv ht ho hx hh hd => ?_, fun old s => State.afterTopo_gen s old⟩
  · rw [exec_announceReceive hu hm hv ht ho, State.announceIn_other h3 h0 h255 hs hn]
  · rw [(s.nearTwin_spec i f).1]; rfl
  · rw [exec_announceReceive hu hm hv ht ho]
    exact congrArg (fun u : State => Host.Outcome.next u.settle) (if_pos (.inr (.inr (.inr hs))))
  · rcases State.announceIn_mine hn hj with h | h
    · rw [h]
      exact ⟨rfl, fun h => absurd rfl h⟩
    · rw [h]
      exact s.nearTwin_spec i f
  · rw [exec_linkStateReceive hu hm hv ht ho, State.linkStateIn_cuts hx hh hd]

end Sys2Proof.Machine
end

section
/-!
PROOFS. The bring-up of a ring port and of an uplink.
-/

namespace Sys2Proof.Machine

/-! ### Ring ports (R153, R208) -/

/-- A port that starts again. -/
def Port.started (p : Port) : Port := { p with st := .signal, waitRetry := false, readySent := false, readySeen := false }

/-- The port whose bring-up has failed with a cause. -/
def Port.failedBy (p : Port) (cause : Nat) : Port :=
  { p with st := .down, cause := cause, readySent := false, readySeen := false, rtt := 0, waitRetry := true, probeAt := none }

/-- The port after the echo of its probe, after `x` of the timebase: RTT, and the sequence numbers at zero. -/
def Port.echoed (p : Port) (x : Nat) : Port :=
  let rtt := (x * 100 - 17 * 256 * 65536 + 50 * 65536) / (100 * 65536)
  { p with st := .auth, rtt := min rtt 65535, probeAt := none, lseq := 0, next := 0 }

section
variable {i : Nat} {s : State}

theorem State.startPort_starts (h : (s.port i).st = .down) (hm : s.ringMode i = true) (he : s.portEn i = true)
    (ha : s.pwr.asleep = false ∨ i < 2) : s.startPort i = s.setPort i (s.port i).started :=
  if_pos ⟨h, hm, he, fun hs => ha.resolve_left (by simp [hs])⟩

/-- A bring-up step that fails leaves the port DOWN until its retry. -/
theorem State.bringupFail_eq (c : Nat) :
    s.bringupFail i c = ((s.dropKeys i).setPort i ((s.port i).failedBy c)).raise (portBit i) .C := rfl

/-- With both ends ready the hub probes. -/
theorem State.probeNow_probes (h : (s.port i).st = .train) (h1 : (s.port i).readySent = true) (h2 : (s.port i).readySeen = true) :
    s.probeNow i = (s.setPort i { s.port i with probeAt := some s.ns }).emit (.probe i false) := if_pos ⟨h, h1, h2⟩

theorem State.probeNow_waits (h : (s.port i).readySent = false) : s.probeNow i = s := if_neg (by simp [h])

end

section
variable {i : Fin 5} {s : State}

theorem exec_linkRestartTimer (h : (s.port i).waitRetry = false) : exec (.linkRestartTimer i) s = .next (s.startPort i) := if_neg (by simp [h])

theorem exec_linkRetryTimer (h : (s.port i).waitRetry = true) : exec (.linkRetryTimer i) s = .next (s.startPort i) := if_pos h

/-- The port once block lock has held: READY is on the lane. -/
theorem exec_trainBlockLockHeld (h : (s.port i).st = .train) (hr : (s.port i).readySent = false) :
    exec (.trainBlockLockHeld i) s = .next (((s.setPort i { s.port i with readySent := true }).sendSet i 3 0).probeNow i) :=
  if_pos ⟨h, by simp [hr]⟩

theorem exec_readySetReceive {x : SetPair} {a : Nat} (hx : setOf x = some (3, a)) (h : (s.port i).st = .train) (hr : (s.port i).readySeen = false) :
    exec (.readySetReceive (i, x)) s = .next ((s.setPort i { s.port i with readySeen := true }).probeNow i) :=
  if_pos ⟨by simp [hx], h, by simp [hr]⟩

end

/-! ### Uplinks (R164) -/

/-- The switch does not take the frame from the uplink. -/
def uplinkBad (fcsOk : Bool) (b : List Byte) : Bool :=
  !fcsOk || decide (b.length + 4 < 64) || decide (2000 < b.length + 4) || (b.getD 12 0).toNat * 256 + (b.getD 13 0).toNat == etSTag
    || (b.getD 12 0).toNat * 256 + (b.getD 13 0).toNat == etControl
    || ((b.getD 12 0).toNat * 256 + (b.getD 13 0).toNat == 0x8100 && etherType b == 0x8100)

/-- A tunnel's ingress entry takes the item from uplink `j`. -/
def State.tunnelTakes (s : State) (j : Nat) (item : List Byte) : Bool :=
  (List.range 64).any fun t => s.tunOk t ∧ ¬ s.flag (R.BRG_TUN_CFG_DIR t) ∧ s.rd (R.BRG_TUN_CFG_KIND t) = 4 + j ∧ s.tunPasses t item

theorem uplinkBad_eq_false {b : List Byte} (h1 : 60 ≤ b.length) (h2 : b.length ≤ 1996)
    (hs : (b.getD 12 0).toNat * 256 + (b.getD 13 0).toNat ≠ etSTag) (hc : (b.getD 12 0).toNat * 256 + (b.getD 13 0).toNat ≠ etControl)
    (hv : etherType b ≠ 0x8100) : uplinkBad true b = false := by
  have ha : ¬ b.length + 4 < 64 := by omega
  have hb : ¬ 2000 < b.length + 4 := by omega
  simp only [uplinkBad, ha, hb, Bool.not_true, decide_false, beq_eq_false_iff_ne.mpr hs, beq_eq_false_iff_ne.mpr hc, beq_eq_false_iff_ne.mpr hv,
    Bool.and_false, Bool.or_false]

section
variable {j : Fin 2} {b : List Byte} {f : Bool} {s : State} (hu : (s.port (2 + j.val)).st = .uplinkUp)
include hu

theorem exec_uplinkFrameReceive : exec (.uplinkFrameReceive j f b) s =
    if uplinkBad f b then .next (s.countDiscard (2 + j.val))
    else if etherType b = etPtp then .next (s.ptpIn j (ptpMsg b))
    else if s.tunnelTakes j (ethItem 0 b) then .next (s.tunnelIn (4 + j.val) none (s.rxStamp (2 + j.val)) (ethItem 0 b)).settle
    else .next (s.countDiscard (2 + j.val)) := if_neg (not_not.mpr hu)

theorem exec_uplinkFrameReceive_bad (hb : uplinkBad f b = true) : exec (.uplinkFrameReceive j f b) s = .next (s.countDiscard (2 + j.val)) := by
  rw [exec_uplinkFrameReceive hu, if_pos hb]

theorem exec_uplinkFrameReceive_ptp (hb : uplinkBad f b = false) (hp : etherType b = etPtp) :
    exec (.uplinkFrameReceive j f b) s = .next (s.ptpIn j (ptpMsg b)) := by
  rw [exec_uplinkFrameReceive hu, if_neg (by simp [hb]), if_pos hp]

theorem exec_uplinkFrameReceive_tunnel (hb : uplinkBad f b = false) (hp : etherType b ≠ etPtp) (ht : s.tunnelTakes j (ethItem 0 b) = true) :
    exec (.uplinkFrameReceive j f b) s = .next (s.tunnelIn (4 + j.val) none (s.rxStamp (2 + j.val)) (ethItem 0 b)).settle := by
  rw [exec_uplinkFrameReceive hu, if_neg (by simp [hb]), if_neg hp, if_pos ht]

/-- A frame that nothing here takes is counted. -/
theorem exec_uplinkFrameReceive_untaken (hp : etherType b ≠ etPtp) (ht : s.tunnelTakes j (ethItem 0 b) = false) :
    exec (.uplinkFrameReceive j f b) s = .next (s.countDiscard (2 + j.val)) := by
  rw [exec_uplinkFrameReceive hu, if_neg hp, if_neg (Bool.eq_false_iff.mp ht), ite_self]

end

/-- With no entry of this uplink no tunnel takes an item. -/
theorem State.tunnelTakes_none {s : State} {j : Nat} (item : List Byte) (h : ∀ t, t < 64 → s.rd (R.BRG_TUN_CFG_KIND t) ≠ 4 + j) :
    s.tunnelTakes j item = false := by
  refine List.any_eq_false.mpr fun t ht => ?_
  rw [decide_eq_true_eq]
  exact fun hh => h t (List.mem_range.mp ht) hh.2.2.1

/-- An ingress entry of this uplink that passes the item takes it. -/
theorem State.tunnelTakes_of {s : State} {j t : Nat} {item : List Byte} (ht : t < 64) (ho : s.tunOk t = true) (hd : s.flag
  (R.BRG_TUN_CFG_DIR t) = false)
    (hk : s.rd (R.BRG_TUN_CFG_KIND t) = 4 + j) (hp : s.tunPasses t item = true) : s.tunnelTakes j item = true :=
  List.any_eq_true.mpr ⟨t, List.mem_range.mpr ht, by simp [ho, hd, hk, hp]⟩

/-- Settles O30: the ring ports by their state, the uplinks by the frame. -/
theorem bringUp : Obligations.BringUp := by
  have hfail (i : Fin 5) (s : State) (c : Nat) : (((s.dropKeys i).setPort i ((s.port i).failedBy c)).port i).st = .down ∧
      (((s.dropKeys i).setPort i ((s.port i).failedBy c)).port i).cause = c ∧
      (((s.dropKeys i).setPort i ((s.port i).failedBy c)).port i).waitRetry = true := by
    rw [State.setPort_port]
    exact ⟨rfl, rfl, rfl⟩
  refine ⟨fun i s hw h hm he ha => ⟨s.setPort i (s.port i).started, ?_, ?_, State.setPort_regs .., fun j hj => State.setPort_port_ne _ _ _ hj⟩,
    fun i s hw h hm he ha => ⟨s.setPort i (s.port i).started, ?_, ?_, ?_, State.setPort_regs ..⟩,
    fun i s h => ⟨(s.dropKeys i).setPort i ((s.port i).failedBy 2), ?_, hfail i s 2⟩,
    fun i s h => ⟨(s.dropKeys i).setPort i ((s.port i).failedBy 3), ?_, hfail i s 3⟩,
    fun i s h => ⟨(s.dropKeys i).setPort i ((s.port i).failedBy 4), ?_, hfail i s 4⟩,
    fun i s h => ⟨s.setPort i { s.port i with st := .train }, if_pos h, ?_, State.setPort_regs ..⟩,
    fun i s h hs hr hb => ?_, fun i x a s hx h hr hs => ?_,
    fun i x a s hx h hr hs => ⟨s.setPort i { s.port i with readySeen := true }, ?_, ?_, ?_, State.setPort_emitted ..⟩,
    fun i s h => ⟨s.emit (.probe i true), if_pos h, rfl, rfl⟩,
    fun i x s h hp => ⟨s.setPort i ((s.port i).echoed x), if_pos ⟨h, hp⟩, ?_, ?_, ?_, ?_, ?_, State.setPort_regs ..⟩,
    fun i s hp h h1 h2 => ⟨(s.setPort i { s.port i with probeAt := some s.ns }).emit (.probe i false), ?_, ?_, rfl⟩,
    fun i s h => ⟨s.setPort (2 + i.val) { s.port (2 + i.val) with st := .down, cause := 2, downCnt := satAdd 16 (s.port (2 + i.val)).downCnt 1 },
      if_pos h, ?_, ?_, State.setPort_regs ..⟩,
    fun i s hu he h ha => ⟨s.setPort (2 + i.val) { s.port (2 + i.val) with st := .uplinkUp }, if_pos ⟨hu, he, h, by simp [ha]⟩, ?_,
      State.setPort_regs ..⟩,
    fun j b s hu => ⟨s.countDiscard (2 + j.val), exec_uplinkFrameReceive_bad hu rfl, ?_, rfl, rfl⟩,
    fun j b s hu h1 h2 hs hc hp => exec_uplinkFrameReceive_ptp hu (uplinkBad_eq_false h1 h2 hs hc (by rw [hp]; decide)) hp,
    fun j b s hu hp hk => exec_uplinkFrameReceive_untaken hu hp (State.tunnelTakes_none _ hk),
    fun j t b s hu h1 h2 hs hc hp hv ht ho hd hk hps =>
      exec_uplinkFrameReceive_tunnel hu (uplinkBad_eq_false h1 h2 hs hc hv) hp (State.tunnelTakes_of ht ho hd hk hps)⟩
  case refine_1 => rw [exec_linkRestartTimer hw, State.startPort_starts h hm he ha]; rfl
  case refine_3 => rw [exec_linkRetryTimer hw, State.startPort_starts h hm he ha]; rfl
  case refine_6 | refine_7 | refine_8 =>
    show execBringupTimeout i s = _
    simp only [execBringupTimeout, h, State.bringupFail_eq]
  case refine_10 =>
    let u := (s.setPort i { s.port i with readySent := true }).emit (.orderedSet i (twinSets 3 0))
    have hp : u.port i = { s.port i with readySent := true } := State.setPort_port ..
    refine ⟨(u.setPort i { u.port i with probeAt := some u.ns }).emit (.probe i false), ?_, ?_, ?_, ?_, rfl⟩
    · rw [exec_trainBlockLockHeld h hs, State.sendSet_free (by rw [State.setPort_port, hb]),
        State.probeNow_probes (s := u) (by rw [hp, h]) (by rw [hp]) (by rw [hp, hr])]
      rfl
    · exact (congrArg Port.readySent (State.setPort_port ..)).trans (congrArg Port.readySent hp)
    · exact congrArg Port.probeAt (State.setPort_port ..)
    · rw [State.emit_emitted, State.setPort_emitted, State.emit_emitted, State.setPort_emitted, List.append_assoc]
      rfl
  case refine_11 =>
    let u := s.setPort i { s.port i with readySeen := true }
    have hp : u.port i = { s.port i with readySeen := true } := State.setPort_port ..
    refine ⟨(u.setPort i { u.port i with probeAt := some u.ns }).emit (.probe i false), ?_, ?_, ?_, rfl, rfl⟩
    · rw [exec_readySetReceive hx h hr, State.probeNow_probes (s := u) (by rw [hp, h]) (by rw [hp, hs]) (by rw [hp])]
      rfl
    · exact (congrArg Port.readySeen (State.setPort_port ..)).trans (congrArg Port.readySeen hp)
    · exact congrArg Port.probeAt (State.setPort_port ..)
  case refine_12 =>
    rw [exec_readySetReceive hx h hr, State.probeNow_waits (by rw [State.setPort_port, hs])]
    rfl
  case refine_20 => exact (if_pos hp).trans (congrArg Host.Outcome.next (State.probeNow_probes h h1 h2))
  case refine_21 => exact congrArg Port.probeAt (State.setPort_port ..)
  case refine_25 => exact congrArg Port.discard (State.setPort_port ..)
  all_goals simp only [State.setPort_port, Port.started, Port.echoed]

end Sys2Proof.Machine
end

section
/-!
PROOFS. The part of a state that messages, queue entries and lost paths leave: all but the registers, what leaves the part, the host
interface (but for its hold of fetches), the ring ports, the switch core and the remote operands.
-/

namespace Sys2Proof.Machine

/-- The part that messages, queue entries and lost paths leave. -/
structure Calm where
  pending : List Instr
  now : Nat
  tgt : Tgt
  pts : Pts
  flt : Flt
  td : TimeSt
  brg : Brg
  cyc : CycSt
  fld : FieldSt
  pctl : PctlSt
  meas : MeasSt
  pwr : PwrSt
  eng : EngSt
  twin : TwinSt
  sec : SecSt
  boot : BootSt
  setup : SetSt
  fetchHold : Bool

def State.calm (s : State) : Calm := ⟨s.pending, s.now, s.tgt, s.pts, s.flt, s.td, s.brg, s.cyc, s.fld, s.pctl, s.meas, s.pwr, s.eng, s.twin, s.sec,
    s.boot, s.setup, s.hif.fetchHold⟩

@[simp] theorem calm_mk (pending' : List Instr) (regs' : NMap Word) (now' : Nat) (drawn' : Nat) (emitted' : List Emit) (hif' : Hif) (tgt' : Tgt)
    (pts' : Pts) (ring' : RingSt) (sw' : Switch) (flt' : Flt) (td' : TimeSt) (brg' : Brg) (cyc' : CycSt) (fld' : FieldSt) (pctl' : PctlSt)
        (rfx' : Rfx) (meas' : MeasSt) (pwr' : PwrSt) (eng' : EngSt) (twin' : TwinSt) (sec' : SecSt) (boot' : BootSt) (setup' : SetSt) :
    (State.mk pending' regs' now' drawn' emitted' hif' tgt' pts' ring' sw' flt' td' brg' cyc' fld' pctl' rfx' meas' pwr' eng' twin' sec' boot' setup').calm = ⟨pending', now', tgt', pts', flt', td', brg', cyc', fld', pctl', meas', pwr', eng', twin', sec', boot', setup', hif'.fetchHold⟩ := (rfl)

@[simp] theorem calm_eta (s : State) : (⟨s.pending, s.now, s.tgt, s.pts, s.flt, s.td, s.brg, s.cyc, s.fld, s.pctl, s.meas, s.pwr, s.eng, s.twin,
    s.sec, s.boot, s.setup, s.hif.fetchHold⟩ : Calm) = s.calm := (rfl)

@[simp] theorem calm_ite (c : Prop) [Decidable c] (s t : State) : (if c then s else t).calm = if c then s.calm else t.calm := by
  split <;> rfl

theorem calm_foldl {α : Type} (f : State → α → State) (h : ∀ s x, (f s x).calm = s.calm) (l : List α) (s : State) :
    (l.foldl f s).calm = s.calm := Quiet.foldl (g := State.calm) f h l s

@[simp] theorem State.setWord_calm (s : State) (off v : Nat) :
    (State.setWord s off v).calm = s.calm := by
  simp [State.setWord]

@[simp] theorem State.wr_calm (s : State) (f : Fld) (v : Nat) :
    (State.wr s f v).calm = s.calm := by
  simp [State.wr]

@[simp] theorem State.inc_calm (s : State) (f : Fld) (k : Nat) :
    (State.inc s f k).calm = s.calm := by
  simp [State.inc]

@[simp] theorem State.emit_calm (s : State) (e : Emit) :
    (State.emit s e).calm = s.calm := by
  simp [State.emit]

@[simp] theorem State.draw_calm (s : State) :
    (State.draw s).2.calm = s.calm := by
  simp [State.draw]

@[simp] theorem State.setPair_calm (s : State) (p : Nat) (x : Pair) :
    (State.setPair s p x).calm = s.calm := by
  simp [State.setPair]

@[simp] theorem State.setSlot_calm (s : State) (t : Nat) (x : Slot) :
    (State.setSlot s t x).calm = s.calm := by
  simp [State.setSlot]

@[simp] theorem State.setTag_calm (s : State) (k : Nat) (x : Tag) :
    (State.setTag s k x).calm = s.calm := by
  simp [State.setTag]

@[simp] theorem State.setPort_calm (s : State) (i : Nat) (x : Port) :
    (State.setPort s i x).calm = s.calm := by
  simp [State.setPort]

@[simp] theorem State.admitFrame_calm (s : State) (i o c : Nat) (f : Frame) :
    (State.admitFrame s i o c f).calm = s.calm := by
  simp [State.admitFrame]

@[simp] theorem State.toTransit_calm (s : State) (i o : Nat) (f : Frame) :
    (State.toTransit s i o f).calm = s.calm := by
  simp [State.toTransit]

@[simp] theorem State.submit_calm (s : State) (i o : Nat) (f : Frame) :
    (State.submit s i o f).calm = s.calm := by
  simp [State.submit]

@[simp] theorem State.sendTo_calm (s : State) (inp node : Nat) (f : Frame) :
    (State.sendTo s inp node f).calm = s.calm := by
  unfold State.sendTo; repeat' split
  all_goals simp

@[simp] theorem State.hostReq_calm (s : State) (t op addr len : Nat) (data : List Byte) :
    (State.hostReq s t op addr len data).calm = s.calm := by
  simp [State.hostReq]

@[simp] theorem State.hostRead_calm (s : State) (t addr len : Nat) (what : String) :
    (State.hostRead s t addr len what).calm = s.calm := by
  simp [State.hostRead]

@[simp] theorem State.hostWrite_calm (s : State) (t addr : Nat) (b : List Byte) :
    (State.hostWrite s t addr b).calm = s.calm := by
  simp [State.hostWrite]

@[simp] theorem State.raiseVector_calm (s : State) (t vec : Nat) :
    (State.raiseVector s t vec).calm = s.calm := by
  simp [State.raiseVector]

@[simp] theorem State.signal_calm (s : State) (t vec : Nat) (err : Bool) :
    (State.signal s t vec err).calm = s.calm := by
  simp [State.signal]

@[simp] theorem State.signalErr_calm (s : State) (t : Nat) :
    (State.signalErr s t).calm = s.calm := by
  simp [State.signalErr]

@[simp] theorem State.retire_calm (s : State) (k : Nat) (abnormal : Bool) :
    (State.retire s k abnormal).calm = s.calm := by
  unfold State.retire; repeat' split
  all_goals simp

@[simp] theorem State.interrupt_calm (s : State) (p : Nat) :
    (State.interrupt s p).calm = s.calm := by
  simp [State.interrupt]

@[simp] theorem State.coalesce_calm (s : State) (p : Nat) (status : Nat) :
    (State.coalesce s p status).calm = s.calm := by
  simp [State.coalesce]

@[simp] theorem State.putEntry_calm (s : State) (p : Nat) (e : CqEntry) :
    (State.putEntry s p e).calm = s.calm := by
  simp only [State.putEntry]; repeat' split
  all_goals simp_all

@[simp] theorem State.stopFor_calm (s : State) (p reason : Nat) (entry : Bool) :
    (State.stopFor s p reason entry).calm = s.calm := by
  simp [State.stopFor]

@[simp] theorem State.stop_calm (s : State) (p reason : Nat) :
    (State.stop s p reason).calm = s.calm := by
  simp [State.stop]

@[simp] theorem State.drainCq_calm (s : State) (p : Nat) (n0 : Nat) :
    (State.drainCq s p n0).calm = s.calm := by
  induction n0 generalizing s with
  | zero => rfl
  | succ n ih =>
    unfold State.drainCq; dsimp only; repeat' split
    all_goals simp [ih]

@[simp] theorem State.post_calm (s : State) (p : Nat) (e : CqEntry) :
    (State.post s p e).calm = s.calm := by
  simp [State.post]

@[simp] theorem State.deliverData_calm (s : State) (t : Tx) (o : Outc) :
    (State.deliverData s t o).1.calm = s.calm := by
  unfold State.deliverData; repeat' split
  all_goals simp

@[simp] theorem State.answerRop_calm (s : State) (j seq status : Nat) (data : List Byte) :
    (State.answerRop s j seq status data).calm = s.calm := by
  simp [State.answerRop]

@[simp] theorem State.mapLocks_calm (s : State) (f : List LockSeq → List LockSeq) :
    (State.mapLocks s f).calm = s.calm := by
  simp [State.mapLocks]

@[simp] theorem State.lockEnds_calm (s : State) (t : Tx) (o : Outc) :
    (State.lockEnds s t o).calm = s.calm := by
  simp [State.lockEnds]

@[simp] theorem State.complete_calm (s : State) (k : Nat) (t : Tx) (o : Outc) :
    (State.complete s k t o).calm = s.calm := by
  simp only [State.complete]; repeat' split
  all_goals simp_all

@[simp] theorem State.abort_calm (s : State) (k st : Nat) : (s.abort k st).calm = s.calm := by
  unfold State.abort
  split
  case h_1 t h =>
    split
    · simp
    · split <;> simp
  case h_2 => rfl

@[simp] theorem State.pathLost_calm (s : State) (k : Nat) : (s.pathLost k).calm = s.calm := by
  unfold State.pathLost
  split
  · rfl
  · dsimp only
    split
    · rfl
    split <;> simp

@[simp] theorem State.checkPaths_calm (s : State) : s.checkPaths.calm = s.calm := calm_foldl _ (fun s _ => State.pathLost_calm s _) _ _

end Sys2Proof.Machine
end

section
/-!
PROOFS. The cycle master, its cycles, and the sweep copies at a port.
-/

namespace Sys2Proof.Machine

/-! ### What only the time unit changes -/

/-- `t` differs from `s` in the time unit, the registers and the count of free values only. -/
def SameButTime (s t : State) : Prop := t = { s with td := t.td, regs := t.regs, drawn := t.drawn }

theorem SameButTime.refl (s : State) : SameButTime s s := rfl

theorem SameButTime.trans {s t u : State} (h : SameButTime s t) (k : SameButTime t u) : SameButTime s u := by
  unfold SameButTime at h k ⊢
  rw [h] at k
  exact k

theorem SameButTime.ite {s t u : State} (c : Prop) [Decidable c] (h : SameButTime s t) (k : SameButTime s u) : SameButTime s (if c then t else u) :=
  by
  split
  · exact h
  · exact k

theorem SameButTime.setDomain (s : State) (d : Nat) (m : Domain) : SameButTime s (s.setDomain d m) := rfl

theorem SameButTime.inc (s : State) (f : Fld) (k : Nat) : SameButTime s (s.inc f k) := rfl

theorem SameButTime.settleDomain (s : State) (d : Nat) : SameButTime s (s.settleDomain d) := by
  unfold State.settleDomain
  dsimp only
  exact .ite _ (.setDomain ..) (.ite _ (.trans (.setDomain ..) (.inc ..)) (.setDomain ..))

theorem SameButTime.setAvail (s : State) (d : Nat) (b on : Bool) : SameButTime s (s.setAvail d b on) := by
  unfold State.setAvail
  dsimp only
  exact .ite _ (.refl s) (.trans (.setDomain ..) (.settleDomain ..))

theorem SameButTime.chooseRef (s : State) : SameButTime s s.chooseRef := by
  unfold State.chooseRef
  dsimp only
  repeat' split
  all_goals rfl

theorem SameButTime.setPath (s : State) (n d : Nat) (x : SyncPath) : SameButTime s (s.setPath n d x) := rfl

theorem SameButTime.losePath (s : State) (n d : Nat) : SameButTime s (s.losePath n d) := by
  have h : SameButTime s (s.setPath n d { s.path n d with avail := false, offset := 0 }).chooseRef := .trans (.setPath ..) (.chooseRef _)
  unfold State.losePath
  exact .ite _ (h.trans (.setAvail ..)) h

theorem SameButTime.foldl {α : Type} {f : State → α → State} (h : ∀ s x, SameButTime s (f s x)) (l : List α) (s : State) :
    SameButTime s (l.foldl f s) := by
  induction l generalizing s with
  | nil => exact .refl s
  | cons x l ih => exact (h s x).trans (ih _)

theorem SameButTime.dropPaths (s : State) : SameButTime s s.dropPaths := by
  unfold State.dropPaths
  refine SameButTime.foldl (fun u n => ?_) _ s
  dsimp only
  split
  · exact .refl u
  · have h : SameButTime u (if (u.topo n (u.stationOf n ‹Master›.node)).hopsB = 0xFF ∧ (u.path n 0).avail then u.losePath n 0 else u) :=
      .ite _ (.losePath ..) (.refl u)
    exact .ite _ (h.trans (.losePath ..)) h

theorem SameButTime.rootChanged (s : State) (on : Bool) : SameButTime s (s.rootChanged on) :=
  .trans (.setDomain ..) (.trans (.settleDomain ..) (.chooseRef _))

/-! ### What an announce leaves: the cycles, the points, the joins and the roles -/

def State.office (s : State) : CycSt × Pts × Join × Join × (Fin 2 → Nat) :=
  (s.cyc, s.pts, s.ring.join0, s.ring.join1, fun n => s.rd (R.RING_CYC_STAT_ROLE n))

theorem office_of {s t : State} (hc : t.cyc = s.cyc) (hp : t.pts = s.pts) (h0 : t.ring.join0 = s.ring.join0) (h1 : t.ring.join1 = s.ring.join1)
    (hr : ∀ n : Fin 2, t.rd (R.RING_CYC_STAT_ROLE n) = s.rd (R.RING_CYC_STAT_ROLE n)) : t.office = s.office := by
  unfold State.office
  rw [hc, hp, h0, h1]
  simp only [hr]

/-- The word of a ring's role. -/
theorem rd_role_of_word {s t : State} {n : Nat} (h : t.word (0x50054 + 0x20 * n) = s.word (0x50054 + 0x20 * n)) :
    t.rd (R.RING_CYC_STAT_ROLE n) = s.rd (R.RING_CYC_STAT_ROLE n) := by
  show bits (t.word (0x50054 + 0x20 * n)) 30 2 = bits (s.word (0x50054 + 0x20 * n)) 30 2
  rw [h]

@[simp] theorem State.submit_office (s : State) (i o : Nat) (f : Frame) : (s.submit i o f).office = s.office := by
  have hd := State.submit_deep s i o f
  have hc := State.submit_calm s i o f
  refine office_of (congrArg Deep.cyc hd) (congrArg Calm.pts hc) (congrArg (·.record.join0) hd) (congrArg (·.record.join1) hd)
    fun n => rd_role_of_word (State.submit_word (by omega) ..)

@[simp] theorem State.checkPaths_office (s : State) : s.checkPaths.office = s.office := by
  have hd := State.checkPaths_deep s
  have hc := State.checkPaths_calm s
  refine office_of (congrArg Deep.cyc hd) (congrArg Calm.pts hc) (congrArg (·.record.join0) hd) (congrArg (·.record.join1) hd)
    fun n => rd_role_of_word (State.checkPaths_word (by omega) (by omega) s)

@[simp] theorem State.dropPaths_office (s : State) : s.dropPaths.office = s.office := by
  have h := SameButTime.dropPaths s
  exact office_of (by rw [h]) (by rw [h]) (by rw [h]) (by rw [h]) fun n => rd_role_of_word (State.dropPaths_word s (by omega))

theorem State.setTopo_office (s : State) (n st : Nat) (x : Topo) : (s.setTopo n st x).office = s.office := (rfl)

theorem State.wr_gen_office (s : State) (v : Nat) : (s.wr R.RING_TOPO_GEN v).office = s.office := by
  refine office_of ?_ ?_ ?_ ?_ fun n => State.rd_wr_ne _ _ (by decide) (.inl (by show 0x50020 ≠ 0x50054 + 0x20 * n.val; omega))
  all_goals simp only [State.wr_cyc, State.wr_pts, State.wr_ring]

theorem State.wr_broken_office (s : State) (i v : Nat) : (s.wr (R.RING_CYC_STAT_BROKEN i) v).office = s.office := by
  refine office_of ?_ ?_ ?_ ?_ fun n => State.rd_wr_ne _ _ (by show 28 + 1 ≤ 32; decide) (.inr (.inr (by show 28 + 1 ≤ 30; decide)))
  all_goals simp only [State.wr_cyc, State.wr_pts, State.wr_ring]

@[simp] theorem State.afterTopo_office (s : State) (old : NMap Topo) : (s.afterTopo old).office = s.office := by
  unfold State.afterTopo
  dsimp only
  split
  · rfl
  · rw [State.checkPaths_office, State.dropPaths_office, State.wr_broken_office, State.wr_broken_office, State.wr_gen_office]

@[simp] theorem State.showSelf_office (s : State) (n : Nat) : (s.showSelf n).office = s.office := by
  unfold State.showSelf
  dsimp only
  rw [State.afterTopo_office, State.setTopo_office]

@[simp] theorem State.announce_office (s : State) (n : Nat) : (s.announce n).office = s.office := by
  have hs : (if s.station n = 0 then s else s.showSelf n).office = s.office := by
    split
    · rfl
    · exact State.showSelf_office ..
  refine Eq.trans (Quiet.foldl (g := State.office) _ (fun u d => ?_) [0, 1] _) hs
  split
  · exact State.submit_office ..
  · rfl

@[simp] theorem State.roleChanged_office (s : State) : s.roleChanged.office = s.office := by
  refine Quiet.foldl (g := State.office) _ (fun u n => ?_) [0, 1] s
  split
  · rfl
  split
  · exact State.announce_office ..
  · exact State.showSelf_office ..

theorem State.rootChanged_office (s : State) (on : Bool) : (s.rootChanged on).office = s.office := by
  have h := SameButTime.rootChanged s on
  refine office_of (by rw [h]) (by rw [h]) (by rw [h]) (by rw [h]) fun n => rd_role_of_word ?_
  rw [State.rootChanged, State.word_of_regs (State.chooseRef_regs _), State.settleDomain_word _ (.inl rfl) (by omega)]
  rfl

/-! ### The master's claim (R167) -/

/-- The state of a hub that has become master of ring `n`, before it tells of it. -/
def State.crowned (s : State) (n : Nat) : State :=
  (s.wr (R.RING_CYC_STAT_ROLE n) 1).setCyc n { (s.wr (R.RING_CYC_STAT_ROLE n) 1).cycOf n with winE := {}, winW := {} }

theorem State.setMaster_office (s : State) (n : Nat) : (s.setMaster n true).office = (s.crowned n).office := by
  unfold State.setMaster
  dsimp only
  rw [State.roleChanged_office]
  split
  · exact State.rootChanged_office ..
  · rfl

/-- What the office of a state says. -/
theorem of_office {s t : State} (h : t.office = s.office) : t.cyc = s.cyc ∧ t.pts = s.pts ∧ t.ring.join0 = s.ring.join0 ∧
    t.ring.join1 = s.ring.join1 ∧ ∀ n : Fin 2, t.rd (R.RING_CYC_STAT_ROLE n) = s.rd (R.RING_CYC_STAT_ROLE n) := by
  simp only [State.office, Prod.mk.injEq] at h
  obtain ⟨hc, hp, h0, h1, hr⟩ := h
  exact ⟨hc, hp, h0, h1, fun n => congrFun hr n⟩

theorem State.cycOf_of {s t : State} (h : t.cyc = s.cyc) (n : Nat) : t.cycOf n = s.cycOf n := by rw [State.cycOf, State.cycOf, h]

theorem State.joinOf_of {s t : State} (h0 : t.ring.join0 = s.ring.join0) (h1 : t.ring.join1 = s.ring.join1) (n : Nat) : t.joinOf n = s.joinOf n := by
  rw [State.joinOf, State.joinOf, h0, h1]

theorem State.crowned_cyc (s : State) (n : Nat) :
    (s.crowned n).cycOf n = { (s.wr (R.RING_CYC_STAT_ROLE n) 1).cycOf n with winE := {}, winW := {} } := State.setCyc_cycOf ..

theorem State.crowned_ring (s : State) (n : Nat) : (s.crowned n).ring = s.ring := by rw [State.crowned, State.setCyc_ring, State.wr_ring]

theorem State.setCyc_rd (s : State) (n : Nat) (c : Cyc) (f : Fld) : (s.setCyc n c).rd f = s.rd f := (rfl)

theorem State.setCyc_pts (s : State) (n : Nat) (c : Cyc) : (s.setCyc n c).pts = s.pts := (rfl)

theorem State.crowned_role (s : State) (n : Nat) : (s.crowned n).rd (R.RING_CYC_STAT_ROLE n) = 1 := by
  rw [State.crowned, State.setCyc_rd, State.rd_wr_same _ _ _ (by show 30 + 2 ≤ 32; decide)]
  rfl

theorem exec_masterClaimTimer {n : Fin 2} {s : State} (hr : s.ready = true) (hh : s.hasRing n = true) (hp : s.rd (R.RING_CYC_CFG_PRIO n) ≠ 0)
    (hm : s.isMaster n = false) (hu : s.isUp (2 * n) = true ∨ s.isUp (2 * n + 1) = true) (hc : s.claimOpen n = true) (hs : s.standby = false) :
    exec (.masterClaimTimer n) s =
      .next (if ((s.setMaster n true).joinOf n).step = 2 then (s.setMaster n true).takeStation n ((s.setMaster n true).cfgStation n)
        else s.setMaster n true) :=
  if_pos ⟨hr, hh, hp, by simp [hm], hu, hc, by simp [hs]⟩

theorem exec_masterClaimTimer_none {n : Fin 2} {s : State}
    (h : s.rd (R.RING_CYC_CFG_PRIO n) = 0 ∨ s.isMaster n = true ∨ s.claimOpen n = false) : exec (.masterClaimTimer n) s = .next s := by
  refine if_neg ?_
  rintro ⟨-, -, hp, hm, -, hc, -⟩
  simp [hp, hm, hc] at h

/-! ### A cycle's start (R173, R174) -/

/-- The frame of cycle `k`. -/
def State.sweepFrame (s : State) (n k : Nat) : Frame :=
  { typ := fSweep, tc := 7, dst := nodeId (s.ringId n) 255, src := s.node0, op := s.dueBits n k, arg := k, slices := s.buildSlices n k }

/-- The ring's cycle once cycle `k` has been used. -/
def Cyc.used (c : Cyc) (k : Nat) : Cyc := { c with sentK := some k, prevK := c.sentK }

/-- The state in which the copies of cycle `k` leave. -/
def State.sweeping (s : State) (n k : Nat) : State :=
  (s.setCyc n { (s.cycOf n).used k with sentNs := laneNs (s.sweepFrame n k) }).wr (R.RING_CYC_STAT_SYNC n) 1

theorem exec_cycleStart (n : Fin 2) (k : Nat) (s : State) : exec (.cycleStart n k) s = .next (s.cycleStart n k).settle := rfl

section
variable {n k : Nat} {s : State}

/-- A cycle that is past, or not the present one, starts nothing. -/
theorem State.cycleStart_none (h : (s.cycOf n).sentK.any (fun j => decide (k ≤ j)) = true ∨ k ≠ s.cycleNow n) : s.cycleStart n k = s := by
  refine if_pos ?_
  rcases h with h | h
  · exact .inr (.inr (.inl h))
  · exact .inr (.inl h)

variable (hm : s.isMaster n = true) (hh : s.hasRing n = true) (hk : k = s.cycleNow n) (hp : (s.cycOf n).passed k = false)
  (hn : (s.cycOf n).sentK.any (fun j => decide (k ≤ j)) = false)
include hm hh hk hp hn

theorem State.cycleStart_due : ¬ (¬ (s.isMaster n = true ∧ s.hasRing n = true) ∨ k ≠ s.cycleNow n ∨
    (s.cycOf n).sentK.any (fun j => decide (k ≤ j)) = true ∨ (s.cycOf n).passed k = true) := by
  simp [hm, hh, ← hk, hp, hn]

/-- A cycle too close behind the last sweep is skipped. -/
theorem State.cycleStart_skips (hs : (s.cycOf n).sentK.isSome = true) (ht : s.tailNear n = true) :
    s.cycleStart n k = ((s.setCyc n ((s.cycOf n).used k)).inc (R.RING_CYC_STAT_SKIPPED n)).raise (8 + 2 * n) .C :=
  (if_neg (State.cycleStart_due hm hh hk hp hn)).trans (if_pos ⟨hs, ht⟩)

variable (hs : (s.cycOf n).sentK = none ∨ s.tailNear n = false)

omit hm hh hk hp hn in
theorem State.cycleStart_far (hs : (s.cycOf n).sentK = none ∨ s.tailNear n = false) : ¬ ((s.cycOf n).sentK.isSome = true ∧ s.tailNear n = true) := by
  rintro ⟨h1, h2⟩
  rcases hs with h | h <;> simp [h] at h1 h2

include hs

/-- With an empty slot table nothing is sent. -/
theorem State.cycleStart_empty (hb : s.buildSlices n k = []) : s.cycleStart n k = s.setCyc n ((s.cycOf n).used k) :=
  (if_neg (State.cycleStart_due hm hh hk hp hn)).trans ((if_neg (State.cycleStart_far hs)).trans (if_pos hb))

/-- Else a copy leaves on each port of the ring that is UP. -/
theorem State.cycleStart_sends (hb : s.buildSlices n k ≠ []) :
    s.cycleStart n k = [0, 1].foldl (fun t d => if t.isUp (lane n d) then t.sendSweep (lane n d) { s.sweepFrame n k with sub := d } else t)
      (s.sweeping n k) :=
  (if_neg (State.cycleStart_due hm hh hk hp hn)).trans ((if_neg (State.cycleStart_far hs)).trans (if_neg hb))

end

theorem State.sweeping_cycOf (s : State) (n k : Nat) :
    (s.sweeping n k).cycOf n = { (s.cycOf n).used k with sentNs := laneNs (s.sweepFrame n k) } := by
  rw [State.sweeping, State.cycOf_of (State.wr_cyc ..), State.setCyc_cycOf]

theorem State.sweeping_sync (s : State) (n k : Nat) : (s.sweeping n k).rd (R.RING_CYC_STAT_SYNC n) = 1 :=
  State.rd_wr_same _ (R.RING_CYC_STAT_SYNC n) 1 (by show 29 + 1 ≤ 32; decide)

theorem State.sweeping_ring (s : State) (n k : Nat) : (s.sweeping n k).ring = s.ring := by rw [State.sweeping, State.wr_ring, State.setCyc_ring]

theorem State.sweeping_emitted (s : State) (n k : Nat) : (s.sweeping n k).emitted = s.emitted := by
  rw [State.sweeping, State.wr_emitted]; rfl

/-- A port that is not UP is not UP in the cycle that starts. -/
theorem State.sweeping_isUp (s : State) (n : Fin 2) (k i : Nat) : (s.sweeping n k).isUp i = s.isUp i := by
  have hj (f : Fld) (h : f.off < 0x50054 ∨ 0x50078 < f.off) : (s.sweeping n k).flag f = s.flag f :=
    State.flag_wr_ne _ _ (by show 29 + 1 ≤ 32; decide) (.inl (by show 0x50054 + 0x20 * n.val ≠ f.off; omega))
  have hm : (s.sweeping n k).ringMode i = s.ringMode i := by
    unfold State.ringMode State.junction
    rw [hj _ (.inl (by decide)), hj _ (.inr (by decide))]
  have hp : (s.sweeping n k).port i = s.port i := by rw [State.port, State.port, State.sweeping_ring]
  rw [State.isUp, State.isUp, hm, hp]

/-- Settles O34: the claim by `State.setMaster_office`, the cycles by whether one is sent. -/
theorem masters : Obligations.Masters := by
  refine ⟨fun n s hr hh hp hm hu hc hs hj => ⟨s.setMaster n true, ?_, ?_, ?_, ?_, ?_⟩, fun n s h => exec_masterClaimTimer_none h,
    fun n k j s hj h => ?_, fun n k j s hm hh hj hjk hk hp ht => ⟨(s.setCyc n ((s.cycOf n).used k)).inc (R.RING_CYC_STAT_SKIPPED n), ?_, ?_, ?_, ?_⟩,
    fun n k s hm hh hn hp hk hb => ⟨s.setCyc n ((s.cycOf n).used k), ?_, ?_, State.setCyc_ring .., rfl⟩,
    fun n k s hm hh hn hp hk hb h0 h1 => ⟨s.sweeping n k, ?_, ?_, State.sweeping_emitted .., State.sweeping_sync ..⟩,
    fun n k f s hm hh hk hp hn hs hf hb => ⟨s.sweeping n k, ?_, ?_, ?_, State.sweeping_sync .., State.sweeping_ring .., State.sweeping_emitted ..⟩⟩
  case refine_1 =>
    obtain ⟨-, -, h0, h1, -⟩ := of_office (State.setMaster_office s n)
    have hjo : (s.setMaster n true).joinOf n = s.joinOf n := by
      rw [State.joinOf_of h0 h1, State.joinOf_of (s := s)] <;> rw [State.crowned_ring]
    rw [exec_masterClaimTimer hr hh hp hm hu hc hs, hjo, if_neg hj]
    rfl
  case refine_2 =>
    obtain ⟨-, -, -, -, hrole⟩ := of_office (State.setMaster_office s n)
    exact decide_eq_true ((hrole n).trans (State.crowned_role s n))
  case refine_3 | refine_4 =>
    obtain ⟨hcyc, -⟩ := of_office (State.setMaster_office s n)
    rw [State.cycOf_of hcyc, State.crowned_cyc]
  case refine_5 =>
    obtain ⟨-, hpts, -⟩ := of_office (State.setMaster_office s n)
    rw [hpts, State.crowned, State.setCyc_pts, State.wr_pts]
  case refine_6 =>
    rw [exec_cycleStart, State.cycleStart_none]
    rw [hj, Option.any_some, decide_eq_true_eq]
    exact h
  case refine_7 =>
    rw [exec_cycleStart, State.cycleStart_skips hm hh hk hp (by simpa [hj] using hjk) (by rw [hj]; rfl) ht]
  case refine_8 => rw [State.cycOf_of (State.inc_cyc ..), State.setCyc_cycOf, Cyc.used]
  case refine_9 =>
    rw [State.cycOf_of (State.inc_cyc ..), State.setCyc_cycOf]
    exact hj
  case refine_10 => rw [State.inc_ring, State.setCyc_ring]
  case refine_11 => rw [exec_cycleStart, State.cycleStart_empty hm hh hk hp (by rw [hn]; rfl) (.inl hn) hb]
  case refine_12 => rw [State.setCyc_cycOf, Cyc.used]
  case refine_13 =>
    rw [exec_cycleStart, State.cycleStart_sends hm hh hk hp (by rw [hn]; rfl) (.inl hn) hb, List.foldl_cons, List.foldl_cons, List.foldl_nil,
      State.sweeping_isUp, h0, if_neg Bool.false_ne_true, State.sweeping_isUp, h1, if_neg Bool.false_ne_true]
  case refine_15 =>
    subst hf
    rw [exec_cycleStart, State.cycleStart_sends hm hh hk hp hn hs hb]
    rfl
  all_goals rw [State.sweeping_cycOf, Cyc.used]

end Sys2Proof.Machine
end

section
/-!
PROOFS. Sweep copies at a port, and the slots that a hub takes from them.
-/

namespace Sys2Proof.Machine

/-! ### A copy as it arrives (R142, R149) -/

/-- A valid slice that leaves is the slice filled up with zeros. -/
theorem Slice.leaves_pad {x : Slice} (h : x.mark = .valid) : Slice.leaves x.pad = x.pad := by
  simp [Slice.leaves, Slice.pad, h]

theorem Slice.leaves_map_pad {l : List Slice} (h : ∀ x ∈ l, x.mark = .valid) : (l.map Slice.pad).map Slice.leaves = l.map Slice.pad := by
  rw [List.map_map]
  exact List.map_congr_left fun x hx => Slice.leaves_pad (h x hx)

/-- Valid slices are not counted. -/
theorem State.countMarks_valid {l : List Slice} (h : ∀ x ∈ l, x.mark = .valid) (s : State) (i : Nat) :
    (l.map Slice.pad).foldl (fun s x => s.countMark i x.mark) s = s := by
  induction l generalizing s with
  | nil => rfl
  | cons x l ih =>
    have hx : (Slice.pad x).mark = .valid := h x (List.mem_cons_self ..)
    rw [List.map_cons, List.foldl_cons, hx]
    exact ih (fun y hy => h y (List.mem_cons_of_mem _ hy)) s

theorem State.noteEpoch_same {s : State} {i : Nat} {f : Frame} (h : f.epoch = (s.port i).rxEpoch) : s.noteEpoch i f = s := if_neg (fun k => k.2 h)

/-- A copy whose master this hub does not heed passes through. -/
theorem State.sweepIn_unheeded {s : State} {i : Nat} {f : Frame} (hv : f.ver = 1) (hs : ∀ x ∈ f.slices, x.mark = .valid)
    (he : f.epoch = (s.port i).rxEpoch) (hh : s.heeds (i / 2) f = false) :
    s.sweepIn i f =
      if s.isMine f.src = true ∧ ¬ s.standby = true ∧ f.wrap = 0 then s.sweepBack (i / 2) f
      else s.forwardSweep i { f with slices := f.slices.map Slice.pad } := by
  unfold State.sweepIn
  extract_lets n g s1 s2 k heed mismatch s3 acts s4
  have hs1 : s1 = s := State.countMarks_valid hs s i
  have hs2 : s2 = s := by
    have he1 : ({ g with mark := .valid } : Frame).epoch = (s1.port i).rxEpoch := by rw [hs1]; exact he
    have hn := State.noteEpoch_same he1
    show (if _ then s1.noteEpoch i { g with mark := .valid } else s1) = s
    rw [hn, hs1]
    exact ite_self _
  have hheed : ¬ heed := by
    rintro ⟨-, h⟩
    have hsame : s2.heeds n g = s.heeds (i / 2) f := by rw [hs2]; rfl
    exact Bool.false_ne_true (hh.symm.trans (hsame.symm.trans h))
  have hs3 : s3 = s := (if_neg fun h => hheed h.1).trans hs2
  have hacts : ¬ acts := fun h => hheed h.1
  have hs4 : s4 = s := (if_neg hacts).trans hs3
  have hl : g.slices.map Slice.leaves = f.slices.map Slice.pad := Slice.leaves_map_pad hs
  have hver : g.ver = 1 := hv
  rw [if_neg hacts, hs4]
  dsimp only
  rw [if_pos hver, hl]
  rfl

theorem exec_sweepSliceReceive {i : Fin 4} {g : Frame} {s : State} (hu : s.isUp i = true) (ht : (s.readTag i g).typ = fSweep) :
    exec (.sweepSliceReceive i g) s = .next (s.sweepIn i (s.readTag i g)).settle := if_pos ⟨hu, ht⟩

/-! ### Slots (R176, R178) -/

section
variable {n k : Nat} {x : Slice} {s : State}

/-- A late slot is counted in a word that says nothing of the twin. -/
theorem State.late_standby (s : State) (n : Nat) : (s.inc (R.RING_CYC_STAT_LATE n)).standby = s.standby := by
  have hl (f : Fld) (h : f.off = 0x60020) : (s.inc (R.RING_CYC_STAT_LATE n)).rd f = s.rd f :=
    State.rd_inc_ne _ _ (by show 0 + 8 ≤ 32; decide) (.inl (by rw [h]; show 0x50054 + 0x20 * n ≠ 0x60020; omega))
  rw [State.standby, State.standby, hl _ rfl, hl _ rfl]

theorem State.takeOut_standby (s : State) (n k : Nat) (x : Slice) : (s.takeOut n k x).standby = s.standby := by
  unfold State.takeOut
  dsimp only
  split
  · rfl
  split
  · exact State.late_standby ..
  · rfl

/-- The hub writes its own slot where nobody has. -/
theorem State.slotIn_own (hx : x.station = s.station n) (hm : x.mark = .valid) (hw : x.written = false) (hs : s.standby = false) :
    (s.slotIn n k x).1 = (s.takeOut n k x).writeSlot n k x := by
  have ht : (s.takeOut n k x).standby = false := (s.takeOut_standby n k x).trans hs
  simp [State.slotIn, hx, hm, hw, ht]

/-- It leaves the slots of others as they are. -/
theorem State.slotIn_other (hx : x.station ≠ s.station n) : (s.slotIn n k x).1 = x := by
  unfold State.slotIn
  dsimp only
  rw [if_neg hx]

/-- A slot that has been taken for its cycle is not taken again. -/
theorem State.takeSlot_again (h : ((s.cycOf n).taken.any fun y => y.1 = k ∧ y.2.station = x.station) = true) : s.takeSlot n k x = s := if_pos h

section
variable (h : ((s.cycOf n).taken.any fun y => y.1 = k ∧ y.2.station = x.station) = false)
include h

theorem State.takeSlot_late (hl : s.isLate n k = true) : s.takeSlot n k x =
    (s.setCyc n { s.cycOf n with taken := (s.cycOf n).taken ++ [(k, { x with fresh := false })] }).inc (R.RING_CYC_STAT_LATE n) := by
  unfold State.takeSlot
  dsimp only
  rw [if_neg (Bool.eq_false_iff.mp h), if_pos hl, if_pos hl]

theorem State.takeSlot_inTime (hl : s.isLate n k = false) :
    ((s.takeSlot n k x).cycOf n).taken = (s.cycOf n).taken ++ [(k, x)] ∧ (s.takeSlot n k x).regs = s.regs := by
  unfold State.takeSlot
  dsimp only
  rw [if_neg (Bool.eq_false_iff.mp h), hl, if_neg Bool.false_ne_true, if_neg Bool.false_ne_true, State.setCyc_cycOf]
  constructor
  · split <;> rfl
  · rfl

end

end

/-- A copy on a ring whose other port is not UP is wrapped. -/
theorem State.forwardSweep_wraps {s : State} {i : Nat} {f : Frame} (hh : f.hops ≠ 1023) (hu : s.isUp (mate i) = false) (hw : f.wrap = 0) :
    s.forwardSweep i f = s.sendSweep i { f with hops := f.hops + 1, wrap := 1 } := by
  simp [State.forwardSweep, hh, hu, hw]

/-- Settles O35: the copies by whether they are the hub's own, the slots by their state. -/
theorem sweepCopies : Obligations.SweepCopies := by
  refine ⟨fun i g f s hg hu ht hv hs he hh hm => ?_, fun i g f s hg hu ht hv hs he hh hm hb hw => ?_,
    fun n k x s hx hm hw hs => State.slotIn_own hx hm hw hs, fun n k x s hx => State.slotIn_other hx, fun n k x s h => State.takeSlot_again h,
    fun n k x s h hl => State.takeSlot_late h hl, fun n k x s h hl => State.takeSlot_inTime h hl,
    fun i f s hh hu hw => State.forwardSweep_wraps hh hu hw⟩
  · subst hg
    rw [exec_sweepSliceReceive hu ht, State.sweepIn_unheeded hv hs he hh, if_neg]
    rintro ⟨h, hn, -⟩
    rcases hm with hm | hm
    · simp [hm] at h
    · exact hn hm
  · subst hg
    rw [exec_sweepSliceReceive hu ht, State.sweepIn_unheeded hv hs he hh, if_pos ⟨hm, by simp [hb], hw⟩]

end Sys2Proof.Machine
end

section
/-!
PROOFS. The state after reset, the rails, the inputs of the power path, its sequence, and its breakers.
-/

namespace Sys2Proof.Machine

/-! ### The removal of the rails -/

/-- The state that the removal of the rails leaves, before its displays. -/
def State.railless (s : State) (path : PathSt) (state : PState) : State :=
  let t := (s.restart.setWords 0x100048 2 (s.words 0x100048 2)).setWord 0x100000 (s.word 0x100000)
  let t := { t with boot := { t.boot with stage := .off } }
  t.setPwr { t.pwr with path := path, state := state, asleep := false, arrived := false }

theorem State.railsOff_eq (s : State) (path : PathSt) (state : PState) : s.railsOff path state = (s.railless path state).showPower := rfl

/-- What removing the rails keeps of the queue, the path and the vault. -/
theorem State.railless_does (s : State) (path : PathSt) (state : PState) :
    (s.railless path state).pending = s.pending ∧ (s.railless path state).pwr.path = path ∧
      (s.railless path state).pwr.state = state ∧ (s.railless path state).pwr.held = s.pwr.held ∧
      (s.railless path state).sec.vault = s.restart.sec.vault ∧ (s.railless path state).boot.stage = .off := by
  unfold State.railless
  simp

/-- The hub without both logic feeds, with the vault's battery or without it. -/
def State.unfed (s : State) (vbat : Bool) : State :=
  let t := s.railsOff .none (if vbat then .dormant else .off)
  t.setPwr { t.pwr with vbat := vbat, held := vbat && t.pwr.held }

/-- What the loss of VBAT takes with it: the vault's timer, its tamper latch and its counters. -/
def State.cleared (s : State) : State :=
  { s with sec := { s.sec with vault := { s.sec.vault with ticks := 0, latch := false, tamperSrc := 0, tamperTime := 0, fwCtr := 0, bndCtr := 0 } } }

theorem State.unfed_does (s : State) (vbat : Bool) :
    (s.unfed vbat).pwr.vbat = vbat ∧ (s.unfed vbat).pwr.path = .none ∧ (s.unfed vbat).pwr.state = (if vbat then .dormant else .off) ∧
      (s.unfed vbat).pwr.held = (vbat && s.pwr.held) ∧ (s.unfed vbat).sec.vault = s.restart.sec.vault := by
  obtain ⟨-, ha, hb, hc, hd, -⟩ := s.railless_does .none (if vbat then .dormant else .off)
  unfold State.unfed
  rw [State.railsOff_eq]
  simp [ha, hb, hc, hd]

theorem exec_feedsLost (vbat : Bool) {s : State} (h0 : 0 ∉ s.pwr.present) (h1 : 1 ∉ s.pwr.present) :
    exec (.feedsLost vbat) s = .next (if vbat then s.unfed vbat else (s.unfed vbat).cleared.showVault) := by
  show execFeedsLost vbat s = _
  rw [execFeedsLost, if_neg (not_or.mpr ⟨h0, h1⟩), apply_ite Host.Outcome.next]
  rfl

/-- The rails are good: the part runs. -/
def State.onRails (s : State) : State := s.setPwr { s.pwr with path := .good, state := .run, asleep := false }

theorem State.onRails_does (s : State) : s.onRails.pwr.path = .good ∧ s.onRails.pwr.state = .run ∧ s.onRails.boot = s.boot ∧
    s.onRails.pending = s.pending ∧ s.onRails.sec = s.sec := ⟨rfl, rfl, rfl, rfl, rfl⟩

theorem exec_railsGood {s : State} (hp : s.pwr.path = .seated) (h0 : 0 ∉ s.pwr.brkHot) (h1 : 1 ∉ s.pwr.brkHot)
    (hc : [0, 1].any s.conducts = true) : exec .railsGood s = .next s.restart.onRails.showPower := by
  show execRailsGood s = _
  rw [execRailsGood, if_pos ⟨hp, h0, h1, hc⟩]
  rfl

/-! ### Members of a filtered list -/

theorem not_mem_filter_ne (a : Nat) (l : List Nat) : a ∉ l.filter (· ≠ a) := by simp

theorem mem_filter_ne {a m : Nat} (h : m ≠ a) (l : List Nat) : m ∈ l.filter (· ≠ a) ↔ m ∈ l := by simp [h]

theorem State.endReverse_reversed (s : State) (n : Nat) : n ∉ (s.endReverse n).pwr.reversed := by simp [State.endReverse]

/-- A path in one of the sets that stop it does not conduct. -/
theorem State.conducts_false {s : State} {n : Nat}
    (h : n ∈ s.pwr.reversed ∨ n ∈ s.pwr.brkHot ∨ s.flag (R.PWR_BRK_STAT_TRIP n) = true) : s.conducts n = false := by
  unfold State.conducts
  obtain h | h | h := h <;> simp [h]

/-! ### The state after reset, and the rails -/

/-- Settles O2: no word is listed after reset, and every part stands at its default. -/
theorem resetState : Obligations.ResetState := by
  unfold Obligations.ResetState
  refine ⟨rfl, rfl, rfl, rfl, fun _ => rfl, fun _ => rfl, fun _ => rfl, ?_, ?_, ?_, ?_, Nat.le_refl _, Nat.le_refl _⟩
  all_goals decide

/-- Settles O8: both commands ask whether the rails are good. -/
theorem railFaults : Obligations.RailFaults := by
  unfold Obligations.RailFaults
  exact ⟨fun _ _ h => if_pos h, fun _ _ h => if_pos h, fun _ _ h => ⟨if_neg h, if_neg h⟩⟩

/-- Settles O6: each input changes its own set and ends a reversal; what follows is the display and the faults. -/
theorem powerInputs : Obligations.PowerInputs := by
  unfold Obligations.PowerInputs
  refine ⟨fun n s h => ?_, fun n s h hx => ?_, fun n s h hx => ?_, fun n s h => ?_, fun n s => ?_, fun n s h => ?_⟩
  · refine ⟨(s.setPwr { s.pwr with present := n.val :: s.pwr.present, arrived := s.pwr.arrived || decide (n.val < 2) }).endReverse n,
      if_neg h, List.mem_cons_self, fun m hm => ?_, State.endReverse_reversed _ _, rfl⟩
    exact List.mem_cons.trans (or_iff_right hm)
  · refine ⟨(s.setPwr { s.pwr with present := s.pwr.present.filter (· ≠ n.val) }).endReverse n, ?_, not_mem_filter_ne _ _,
      fun m hm => mem_filter_ne hm _, rfl⟩
    exact (if_neg (not_not.mpr h)).trans (congrArg (fun u : State => Host.Outcome.next u.settle) (if_neg (Bool.eq_false_iff.mp hx)))
  · refine ⟨(s.setPwr { s.pwr with present := s.pwr.present.filter (· ≠ n.val) }).endReverse n, ?_, not_mem_filter_ne _ _,
      fun m hm => mem_filter_ne hm _, rfl⟩
    exact (if_neg (not_not.mpr h)).trans (congrArg (fun u : State => Host.Outcome.next u.settle) (if_pos hx))
  · exact ⟨((s.setPwr { s.pwr with overV := n.val :: s.pwr.overV }).endReverse n).wr (R.PWR_BRK_STAT_CAUSE n) 5, if_neg h,
      List.mem_cons_self, State.rd_wr_same _ _ _ (by show 26 + 3 ≤ 32; decide), rfl⟩
  · exact ⟨s.setPwr { s.pwr with overV := s.pwr.overV.filter (· ≠ n.val) }, rfl, not_mem_filter_ne _ _, fun m hm => mem_filter_ne hm _, rfl⟩
  · exact ⟨s.setPwr { s.pwr with reversed := n.val :: s.pwr.reversed }, if_neg (not_not.mpr h), List.mem_cons_self,
      State.conducts_false (.inl List.mem_cons_self), rfl⟩

/-- Settles O7: a restart and the removal of the rails keep the vault but for what OFF loses. -/
theorem powerSequence : Obligations.PowerSequence := by
  unfold Obligations.PowerSequence
  refine ⟨fun s hp ha hf => ?_, fun s => ?_, fun n s hp h0 h1 hc => ?_, fun s hp => ?_, fun s h0 h1 => ?_, fun s h0 h1 => ?_⟩
  · exact ⟨_, if_pos ⟨hp, ha, hf⟩, rfl, rfl⟩
  · exact ⟨_, rfl, rfl, rfl, rfl⟩
  · have hx : [0, 1].any s.conducts = true := List.any_eq_true.mpr ⟨n.val, by fin_cases n <;> simp, hc⟩
    obtain ⟨ha, hb, hd, he, hf⟩ := s.restart.onRails_does
    exact ⟨s.restart.onRails, exec_railsGood hp h0 h1 hx, ha, hb, (congrArg BootSt.stage hd).trans s.restart_stage, he.trans s.restart_pending,
      (congrArg (·.vault.owner) hf).trans s.restart_owner⟩
  · obtain ⟨hq, ha, -, -, hv, hb⟩ := s.railless_does .seated .off
    exact ⟨s.railless .seated .off, (if_pos hp).trans (congrArg _ (s.railsOff_eq _ _)), ha, hb, hq, (congrArg Vault.fwCtr hv).trans s.restart_fwCtr⟩
  · obtain ⟨ha, hb, hc, hd, he⟩ := s.unfed_does true
    exact ⟨s.unfed true, exec_feedsLost true h0 h1, ha, hb, hc, hd, (congrArg Vault.latch he).trans s.restart_latch⟩
  · obtain ⟨ha, hb, hc, -, he⟩ := s.unfed_does false
    exact ⟨(s.unfed false).cleared, exec_feedsLost false h0 h1, ha, hb, hc, rfl, rfl, rfl, rfl,
      (congrArg Vault.owner he).trans s.restart_owner⟩

/-! ### Breakers -/

/-- The board is gone: no path seated, no latch, and every FP switch without its trip. -/
def State.unseated (s : State) : State :=
  let s := s.setPwr { s.pwr with seated := false, held := false, brkEvt := [] }
  let s := (List.range 4).foldl (fun (s : State) n => s.wr (R.PWR_BRK_STAT_TRIP n) 0) s
  let s := (List.range 64).foldl (fun (s : State) p =>
    ((s.wr (R.PORT_STAT_FP_TRIP p) 0).wr (R.PORT_DIAG_FP_SHORT p) 0).setFp p false) s
  let (v, s) := s.draw
  (s.setPwr { s.pwr with unseatCode := v % 2 ^ 32 }).showPower

theorem State.unseated_pwr (s : State) : s.unseated.pwr.seated = false ∧ s.unseated.pwr.held = false ∧ s.unseated.pwr.brkEvt = [] ∧
    s.unseated.pwr.brkHot = s.pwr.brkHot ∧ s.unseated.pwr.path = s.pwr.path := by
  unfold State.unseated
  extract_lets w s1 s2 s3
  have h2 : s2.pwr = s1.pwr := Quiet.foldl (g := State.pwr) _ (fun t n => t.wr_pwr _ _) _ _
  have h3 : s3.pwr = s2.pwr := Quiet.foldl (g := State.pwr) _ (fun t p => by simp) _ _
  simp [State.draw, h3, h2, s1, w]

theorem exec_boardUnseated {s : State} (h : s.pwr.seated = true) :
    exec .boardUnseated s =
      .next (if s.pwr.path = .good then s.unseated.raise 2 .U s.unseated.pwr.unseatCode else s.unseated).settle := by
  show execBoardUnseated s = _
  rw [execBoardUnseated, if_neg (not_not.mpr h)]
  rfl

/-- The path's latch is set: what a trip shows. -/
def State.tripped (s : State) (n cause : Nat) : State :=
  ((s.wr (R.PWR_BRK_STAT_TRIP n) 1).wr (R.PWR_BRK_STAT_CAUSE n) (cause + 1)).inc (R.PWR_BRK_STAT_TRIPS n)

theorem State.tripped_does (s : State) (n : Nat) (cause : Fin 4) :
    (s.tripped n cause).flag (R.PWR_BRK_STAT_TRIP n) = true ∧ (s.tripped n cause).rd (R.PWR_BRK_STAT_CAUSE n) = cause.val + 1 ∧
      (s.tripped n cause).rd (R.PWR_BRK_STAT_TRIPS n) = satAdd 16 (s.rd (R.PWR_BRK_STAT_TRIPS n)) 1 := by
  have hw : (R.PWR_BRK_STAT_TRIP n).lo + (R.PWR_BRK_STAT_TRIP n).width ≤ 32 := by show 31 + 1 ≤ 32; decide
  have hx : (R.PWR_BRK_STAT_CAUSE n).lo + (R.PWR_BRK_STAT_CAUSE n).width ≤ 32 := by show 26 + 3 ≤ 32; decide
  have hy : (R.PWR_BRK_STAT_TRIPS n).lo + (R.PWR_BRK_STAT_TRIPS n).width ≤ 32 := by show 0 + 16 ≤ 32; decide
  unfold State.tripped
  refine ⟨?_, ?_, ?_⟩
  · rw [State.flag_inc_ne _ _ hy (.inr (.inr (by show 0 + 16 ≤ 31; decide))),
      State.flag_wr_ne _ _ hx (.inr (.inr (by show 26 + 3 ≤ 31; decide))), State.flag_wr_same _ _ _ hw]
    rfl
  · rw [State.rd_inc_ne _ _ hy (.inr (.inr (by show 0 + 16 ≤ 26; decide))), State.rd_wr_same _ _ _ hx]
    exact Nat.mod_eq_of_lt (by show cause.val + 1 < 8; omega)
  · rw [State.rd_inc_same _ _ _ hy, State.rd_wr_ne _ _ hx (.inr (.inl (by show 0 + 16 ≤ 26; decide))),
      State.rd_wr_ne _ _ hw (.inr (.inl (by show 0 + 16 ≤ 31; decide)))]
    rfl

/-- A clearing event of a latched path that is armed clears its latch. -/
theorem State.pathClearEvent_cold {s : State} {n : Nat} (ht : s.flag (R.PWR_BRK_STAT_TRIP n) = true) (hh : n ∉ s.pwr.brkHot) :
    s.pathClearEvent n =
      ((s.setPwr { s.pwr with brkEvt := s.pwr.brkEvt.filter (· ≠ n) }).wr (R.PWR_BRK_STAT_TRIP n) 0).showPower :=
  (if_neg (not_not.mpr ht)).trans (if_neg hh)

theorem State.pathClearEvent_hot {s : State} {n : Nat} (ht : s.flag (R.PWR_BRK_STAT_TRIP n) = true) (hh : n ∈ s.pwr.brkHot) :
    s.pathClearEvent n = s.setPwr { s.pwr with brkEvt := n :: s.pwr.brkEvt.filter (· ≠ n) } :=
  (if_neg (not_not.mpr ht)).trans (if_pos hh)

theorem State.flag_pathTrip_cleared (s : State) (n : Nat) : (s.wr (R.PWR_BRK_STAT_TRIP n) 0).flag (R.PWR_BRK_STAT_TRIP n) = false := by
  rw [State.flag_wr_same _ _ _ (by show 31 + 1 ≤ 32; decide)]
  rfl

/-- Settles O9: a latch is set by a trip and cleared by a clearing event, at once or when the breaker is armed. -/
theorem breakers : Obligations.Breakers := by
  unfold Obligations.Breakers
  refine ⟨fun n cause s ht hc => ?_, fun b s hb => ?_, fun n s he ht => ?_, fun n s hr ht hh => ?_, fun n s ht hh => ?_, fun n s ht hh => ?_,
    fun s hs hp => ?_, fun s hs hp => ?_⟩
  · obtain ⟨ha, hb, hd⟩ := State.tripped_does
      ((s.setPwr { s.pwr with brkHot := n.val :: s.pwr.brkHot.filter (· ≠ n.val) }).endReverse n) n cause
    exact ⟨_, if_neg (not_or.mpr ⟨Bool.eq_false_iff.mp ht, not_not.mpr hc⟩), ha, hb, List.mem_cons_self, hd,
      State.conducts_false (.inr (.inl List.mem_cons_self))⟩
  · exact ⟨s.setPwr { s.pwr with brkHot := s.pwr.brkHot.filter (· ≠ b.val) },
      congrArg (fun u : State => Host.Outcome.next u.showPower.settle) (if_neg hb), not_mem_filter_ne _ _, fun m hm => mem_filter_ne hm _, rfl⟩
  · let u := s.setPwr { s.pwr with brkHot := s.pwr.brkHot.filter (· ≠ n.val) }
    refine ⟨(u.setPwr { u.pwr with brkEvt := u.pwr.brkEvt.filter (· ≠ n.val) }).wr (R.PWR_BRK_STAT_TRIP n) 0, ?_, not_mem_filter_ne _ _,
      not_mem_filter_ne _ _, State.flag_pathTrip_cleared _ _⟩
    refine congrArg (fun u : State => Host.Outcome.next u.showPower.settle) ((if_pos he).trans ((if_pos n.isLt).trans ?_))
    exact State.pathClearEvent_cold (s := u) ht (not_mem_filter_ne _ _)
  · refine ⟨(s.setPwr { s.pwr with brkEvt := s.pwr.brkEvt.filter (· ≠ n.val) }).wr (R.PWR_BRK_STAT_TRIP n) 0, ?_,
      State.flag_pathTrip_cleared _ _, not_mem_filter_ne _ _⟩
    have hx : (if n.val < 4 then s.rd (R.PWR_BRK_CFG_RETRY n) else s.rd (R.PORT_FP_RTY_RETRY (n - 4))) ≠ 0 := by
      rw [if_pos n.isLt]
      exact hr
    exact congrArg (fun u : State => Host.Outcome.next u.settle) ((if_neg hx).trans ((if_pos n.isLt).trans (State.pathClearEvent_cold ht hh)))
  · exact ⟨_, congrArg (fun u : State => Host.Outcome.next u.settle) (State.pathClearEvent_hot ht hh), List.mem_cons_self, rfl⟩
  · exact ⟨_, congrArg (fun u : State => Host.Outcome.next u.settle) (State.pathClearEvent_cold ht hh), State.flag_pathTrip_cleared _ _⟩
  · obtain ⟨ha, hb, hc, hd, -⟩ := s.unseated_pwr
    exact ⟨s.unseated, (exec_boardUnseated hs).trans (by rw [if_neg hp]), ha, hb, hc, hd⟩
  · obtain ⟨ha, hb, hc, -, he⟩ := s.unseated_pwr
    exact ⟨s.unseated.pwr.unseatCode, s.unseated, (exec_boardUnseated hs).trans (by rw [if_pos hp]), ha, hb, hc, he.trans hp⟩

end Sys2Proof.Machine
end

section
/-!
PROOFS. Digital inputs, output drivers, the values of pins, and field power with its switches and conditions.
-/

namespace Sys2Proof.Machine

/-! ### A bit of a field, and the points of a port -/

theorem bit_setBits_same (x i : Nat) (b : Bool) : bit (setBits x i 1 (bnat b)) i = b := by
  rw [bit_eq, testBit_setBits, if_neg (Nat.lt_irrefl i), if_pos (Nat.lt_succ_self i), Nat.sub_self]
  cases b <;> rfl

theorem bit_setBits_ne (x v : Nat) {i j : Nat} (h : j ≠ i) : bit (setBits x i 1 v) j = bit x j := by
  rw [bit_eq, bit_eq, testBit_setBits]
  split
  · rfl
  · rw [if_neg (by omega)]

theorem State.rd_wrBit_same (s : State) (f : Fld) (i : Nat) (b : Bool) (h : f.lo + f.width ≤ 32) (hi : i < f.width) :
    (s.wrBit f i b).rd f = setBits (s.rd f) i 1 (bnat b) := by
  rw [State.wrBit, State.rd_wr_same _ _ _ h]
  exact Nat.mod_eq_of_lt (setBits_lt _ _ _ _ _ (s.rd_lt f) hi)

theorem State.bit_wrBit_same (s : State) (f : Fld) (i : Nat) (b : Bool) (h : f.lo + f.width ≤ 32) (hi : i < f.width) :
    bit ((s.wrBit f i b).rd f) i = b := by
  rw [State.rd_wrBit_same s f i b h hi, bit_setBits_same]

theorem State.rd_wrBit_ne (s : State) {f g : Fld} (i : Nat) (b : Bool) (h : f.lo + f.width ≤ 32)
    (k : f.off ≠ g.off ∨ g.lo + g.width ≤ f.lo ∨ f.lo + f.width ≤ g.lo) : (s.wrBit f i b).rd g = s.rd g :=
  State.rd_wr_ne s _ h k

@[simp] theorem State.refreshPoint_regs (s : State) (n : Nat) : (s.refreshPoint n).regs = s.regs := by
  unfold State.refreshPoint
  extract_lets q cs
  split
  · rfl
  · split <;> rfl

@[simp] theorem State.refreshPoint_fld (s : State) (n : Nat) : (s.refreshPoint n).fld = s.fld := by
  unfold State.refreshPoint
  extract_lets q cs
  split
  · rfl
  · split <;> rfl

@[simp] theorem State.refreshPort_regs (s : State) (p : Nat) : (s.refreshPort p).regs = s.regs :=
  Quiet.foldl (g := State.regs) _ State.refreshPoint_regs _ _

@[simp] theorem State.refreshPort_fld (s : State) (p : Nat) : (s.refreshPort p).fld = s.fld :=
  Quiet.foldl (g := State.fld) _ State.refreshPoint_fld _ _

theorem State.pin_of_fld {s t : State} (h : t.fld = s.fld) (p x : Nat) : t.pin p x = s.pin p x := by
  unfold State.pin
  rw [h]

/-- The fields of PORT_STAT and PORT_DIAG that hold a bit for each pin. -/
theorem level_fits (p : Nat) : (R.PORT_STAT_LEVEL p).lo + (R.PORT_STAT_LEVEL p).width ≤ 32 := by show 0 + 4 ≤ 32; decide

theorem stuck_fits (p : Nat) : (R.PORT_DIAG_STUCK p).lo + (R.PORT_DIAG_STUCK p).width ≤ 32 := by show 12 + 4 ≤ 32; decide

theorem chat_fits (p : Nat) : (R.PORT_DIAG_CHAT p).lo + (R.PORT_DIAG_CHAT p).width ≤ 32 := by show 8 + 4 ≤ 32; decide

theorem short_fits (p : Nat) : (R.PORT_DIAG_SHORT p).lo + (R.PORT_DIAG_SHORT p).width ≤ 32 := by show 4 + 4 ≤ 32; decide

theorem open_fits (p : Nat) : (R.PORT_DIAG_OPEN p).lo + (R.PORT_DIAG_OPEN p).width ≤ 32 := by show 0 + 4 ≤ 32; decide

theorem otemp_fits (p : Nat) : (R.PORT_DIAG_OTEMP p).lo + (R.PORT_DIAG_OTEMP p).width ≤ 32 := by show 16 + 4 ≤ 32; decide

/-! ### Digital inputs -/

/-- What an accepted level that differs from the standing one leaves, before the points are refreshed. -/
def State.newLevel (s : State) (p x n : Nat) (level count : Bool) : State :=
  let v := s.pin p x
  let t := some (s.crossing p x n)
  let s := s.setPin p x (if level then { v with raw := 0, rise := t } else { v with raw := 0, fall := t })
  let s := s.wrBit (R.PORT_STAT_LEVEL p) x level
  let s := if count then s.countEdge p x level else s
  s.wrBit (R.PORT_DIAG_STUCK p) x false

theorem State.acceptLevel_same {s : State} {p x : Nat} {level : Bool} (n : Nat) (count : Bool)
    (h : bit (s.rd (R.PORT_STAT_LEVEL p)) x = level) : s.acceptLevel p x n level count = s.setPin p x { s.pin p x with raw := 0 } :=
  if_pos h

theorem State.acceptLevel_new {s : State} {p x : Nat} {level : Bool} (n : Nat) (count : Bool)
    (h : bit (s.rd (R.PORT_STAT_LEVEL p)) x ≠ level) : s.acceptLevel p x n level count = (s.newLevel p x n level count).refreshPort p :=
  if_neg h

@[simp] theorem State.wrBit_pin (s : State) (f : Fld) (i : Nat) (b : Bool) (p x : Nat) : (s.wrBit f i b).pin p x = s.pin p x := (rfl)

/-- Counting an edge changes nothing of a pin but its count, and no other field of the port. -/
theorem State.countEdge_does (s : State) (p : Nat) (x : Fin 4) (rising : Bool) :
    (∃ n, (s.countEdge p x rising).pin p x = { s.pin p x with edges := n }) ∧ (s.countEdge p x rising).pts = s.pts ∧
      ∀ f : Fld, f.off = 0xc0060 + 0x400 * p → (s.countEdge p x rising).rd f = s.rd f := by
  unfold State.countEdge
  split
  · refine ⟨⟨((s.pin p x).edges + 1) % 2 ^ 64, (State.wr_pin _ _ _ _ _).trans (State.setPin_pin _ _ _ _)⟩, rfl, fun f h => ?_⟩
    refine State.rd_wr_ne _ _ (by show 0 + 32 ≤ 32; decide) (.inl ?_)
    show 0xc0070 + 0x400 * p + 0x4 * x.val ≠ f.off
    omega
  · exact ⟨⟨_, rfl⟩, rfl, fun _ _ => rfl⟩

theorem State.newLevel_does (s : State) (p n : Nat) (x : Fin 4) (level count : Bool) :
    bit ((s.newLevel p x n level count).rd (R.PORT_STAT_LEVEL p)) x = level ∧
      bit ((s.newLevel p x n level count).rd (R.PORT_DIAG_STUCK p)) x = false ∧
      ((s.newLevel p x n level count).pin p x).raw = 0 ∧
      ((s.newLevel p x n level count).pin p x).rise = (if level then some (s.crossing p x n) else (s.pin p x).rise) ∧
      ((s.newLevel p x n level count).pin p x).fall = (if level then (s.pin p x).fall else some (s.crossing p x n)) ∧
      (s.newLevel p x n level count).pts = s.pts := by
  unfold State.newLevel
  extract_lets v t s1 s2 s3
  have h1 : s1.pin p x = if level then { v with raw := 0, rise := t } else { v with raw := 0, fall := t } := State.setPin_pin _ _ _ _
  have h2 : bit (s2.rd (R.PORT_STAT_LEVEL p)) x = level := State.bit_wrBit_same _ _ _ _ (level_fits p) x.isLt
  have h3 : (∃ k, s3.pin p x = { s2.pin p x with edges := k }) ∧ s3.pts = s2.pts ∧
      ∀ f : Fld, f.off = 0xc0060 + 0x400 * p → s3.rd f = s2.rd f := by
    simp only [s3]
    split
    · exact s2.countEdge_does p x level
    · exact ⟨⟨_, rfl⟩, rfl, fun _ _ => rfl⟩
  obtain ⟨⟨k, hk⟩, hp, hr⟩ := h3
  refine ⟨?_, State.bit_wrBit_same _ _ _ _ (stuck_fits p) x.isLt, ?_⟩
  · rw [State.rd_wrBit_ne _ _ _ (stuck_fits p) (.inl ?_), hr _ rfl, h2]
    show 0xc0064 + 0x400 * p ≠ 0xc0060 + 0x400 * p
    omega
  · rw [State.wrBit_pin, hk, show s2.pin p x = s1.pin p x from State.wrBit_pin _ _ _ _ _ _, h1]
    refine ⟨?_, ?_, ?_, hp⟩ <;> cases level <;> rfl

theorem State.rawEdge_chatters {s : State} {p x : Nat} (rising : Bool) (hc : bit (s.rd (R.PORT_DIAG_CHAT p)) x = false)
    (hn : s.rd (R.PORT_DIT_CHAT_N p x) ≠ 0) (hr : s.rd (R.PORT_DIT_CHAT_N p x) ≤ (s.pin p x).raw + 1) :
    s.rawEdge p x rising =
      ((s.setPin p x { s.pin p x with raw := (s.pin p x).raw + 1 }).wrBit (R.PORT_DIAG_CHAT p) x true).refreshPort p :=
  (if_neg (Bool.eq_false_iff.mp hc)).trans (if_pos ⟨hn, hr⟩)

theorem exec_accepted {s : State} {p : Fin 64} {x : Fin 4} (level : Bool) (hd : s.digital p x = true)
    (hc : bit (s.rd (R.PORT_DIAG_CHAT p)) x = false) :
    exec (.pinEdge p x (.accepted level)) s = .next (s.acceptLevel p x 1 (s.invert p x level) true) :=
  (if_neg (not_not.mpr hd)).trans (if_neg (Bool.eq_false_iff.mp hc))

/-- Settles O41: a level that differs from the standing one is stamped and shown, one that does not only restarts the raw count. -/
theorem digitalInputs : Obligations.DigitalInputs := by
  unfold Obligations.DigitalInputs
  refine ⟨fun p x level s hd hc hi hl => ?_, fun p x level s hd hc hi hl => ?_, fun p x level s hd hc hl => ?_,
    fun p x rising s hd hc hn hr => ?_, fun p x level s hc => ?_, fun p x e s hd => ?_, fun p x level s hc => ?_, fun p x level s hc => ?_,
    fun p x s hd hl hn => ?_, fun p x s hl => ?_⟩
  · obtain ⟨ha, hb, hr, hu, hf, hp⟩ := s.newLevel_does p 1 x true true
    refine ⟨s.newLevel p x 1 true true, (exec_accepted level hd hc).trans ?_, ha, hu, hf, hr, hb, hp⟩
    rw [hi, State.acceptLevel_new _ _ (by rw [hl]; decide)]
  · obtain ⟨ha, -, -, hu, hf, hp⟩ := s.newLevel_does p 1 x false true
    refine ⟨s.newLevel p x 1 false true, (exec_accepted level hd hc).trans ?_, ha, hf, hu, hp⟩
    rw [hi, State.acceptLevel_new _ _ (by rw [hl]; decide)]
  · refine ⟨s.setPin p x { s.pin p x with raw := 0 }, (exec_accepted level hd hc).trans (congrArg _ (State.acceptLevel_same _ _ hl)), ?_⟩
    beta_reduce
    rw [State.setPin_pin]
    exact ⟨rfl, rfl, rfl, rfl⟩
  · refine ⟨(s.setPin p x { s.pin p x with raw := (s.pin p x).raw + 1 }).wrBit (R.PORT_DIAG_CHAT p) x true,
      (if_neg (not_not.mpr hd)).trans (congrArg _ (State.rawEdge_chatters _ hc hn hr)), State.bit_wrBit_same _ _ _ _ (chat_fits p) x.isLt, ?_, rfl⟩
    rw [State.wrBit_pin, State.setPin_pin]
  · by_cases hd : s.digital p x = true
    · exact (if_neg (not_not.mpr hd)).trans (if_pos hc)
    · exact if_pos hd
  · exact if_pos (Bool.eq_false_iff.mp hd)
  · refine ⟨(s.acceptLevel p x 8 (s.invert p x level) false).wrBit (R.PORT_DIAG_CHAT p) x false, if_pos hc,
      State.bit_wrBit_same _ _ _ _ (chat_fits p) x.isLt, ?_⟩
    have hne : (R.PORT_DIAG_CHAT p).off ≠ (R.PORT_STAT_LEVEL p).off := by
      show 0xc0064 + 0x400 * p.val ≠ 0xc0060 + 0x400 * p.val
      omega
    rw [State.wrBit_pin, State.rd_wrBit_ne _ _ _ (chat_fits p) (.inl hne)]
    by_cases hl : bit (s.rd (R.PORT_STAT_LEVEL p)) x = s.invert p x level
    · rw [State.acceptLevel_same _ _ hl, State.setPin_pin, State.setPin_rd]
      exact ⟨hl, rfl⟩
    · obtain ⟨ha, -, hr, -⟩ := s.newLevel_does p 8 x (s.invert p x level) false
      rw [State.acceptLevel_new _ _ hl, State.rd_of_regs (State.refreshPort_regs _ _), State.pin_of_fld (State.refreshPort_fld _ _)]
      exact ⟨ha, hr⟩
  · exact if_neg (Bool.eq_false_iff.mp hc)
  · exact ⟨_, if_pos ⟨hd, hl, hn⟩, State.bit_wrBit_same _ _ _ _ (stuck_fits p) x.isLt, rfl, rfl⟩
  · exact if_neg (fun h => Bool.eq_false_iff.mp hl h.2.1)

/-! ### Output drivers -/

theorem State.unlatch_latched {s : State} {p x : Nat} (h : (s.pin p x).latched = true) :
    s.unlatch p x = ((s.setPin p x { s.pin p x with latched := false }).wrBit (R.PORT_DIAG_SHORT p) x false).refreshPort p :=
  if_pos h

theorem State.unlatch_does {s : State} {p : Nat} {x : Nat} (hx : x < 4) (h : (s.pin p x).latched = true) :
    (s.unlatch p x).pin p x = { s.pin p x with latched := false } ∧ bit ((s.unlatch p x).rd (R.PORT_DIAG_SHORT p)) x = false := by
  rw [State.unlatch_latched h, State.pin_of_fld (State.refreshPort_fld _ _), State.wrBit_pin, State.setPin_pin,
    State.rd_of_regs (State.refreshPort_regs _ _)]
  exact ⟨rfl, State.bit_wrBit_same _ _ _ _ (short_fits p) hx⟩

theorem State.resumePin_held {s : State} {p x : Nat} (hh : (s.pin p x).held = true) (hs : s.stageOn p x = true) :
    s.resumePin p x = s.setPin p x { s.pin p x with driving := true, held := false } :=
  if_pos ⟨hh, hs⟩

/-- Settles O42: a latch, an overheat and a retry change the pin's own record and its bit of PORT_DIAG. -/
theorem outputDrivers : Obligations.OutputDrivers := by
  unfold Obligations.OutputDrivers
  refine ⟨fun p x s hf hd => ?_, fun p x s hf hd => ?_, fun p x hot s hd => ?_, fun p x s hr hx hl => ?_, fun p x s hr => ?_,
    fun p s hf hr hd => ?_, fun p s hf hl => ?_, fun p on s hf hr => ?_, fun p s hf => ?_, fun p d s hs => ?_, fun p s hf hs => ?_,
    fun p i d s hd hp hs => ?_, fun p d s hd => ?_, fun p x s hh hs => ?_, fun p x s hh => ?_, fun p s hh hl hx hs hp => ?_⟩
  · refine ⟨(s.setPin p x { s.pin p x with latched := true, driving := false, held := false }).wrBit (R.PORT_DIAG_SHORT p) x true,
      (if_neg (not_or.mpr ⟨not_not.mpr hf, not_not.mpr hd⟩)).trans (congrArg Host.Outcome.next (if_neg Bool.false_ne_true)), ?_⟩
    beta_reduce
    rw [State.wrBit_pin, State.setPin_pin]
    exact ⟨rfl, rfl, rfl, rfl, State.bit_wrBit_same _ _ _ _ (short_fits p) x.isLt⟩
  · refine ⟨(((s.setPin p x { s.pin p x with latched := true, driving := false, held := false }).wrBit (R.PORT_DIAG_SHORT p) x true).refreshPort
        p).wrBit (R.PORT_DIAG_OTEMP p) x true,
      (if_neg (not_or.mpr ⟨not_not.mpr hf, not_not.mpr hd⟩)).trans (congrArg Host.Outcome.next (if_pos rfl)), ?_⟩
    beta_reduce
    rw [State.wrBit_pin, State.pin_of_fld (State.refreshPort_fld _ _), State.wrBit_pin, State.setPin_pin,
      State.rd_wrBit_ne _ _ _ (otemp_fits p) (.inr (.inl (by show 4 + 4 ≤ 16; decide))), State.rd_of_regs (State.refreshPort_regs _ _)]
    exact ⟨rfl, rfl, State.bit_wrBit_same _ _ _ _ (short_fits p) x.isLt, State.bit_wrBit_same _ _ _ _ (otemp_fits p) x.isLt⟩
  · exact if_pos (.inr (Bool.eq_false_iff.mp hd))
  · refine ⟨(s.setPin p x { s.pin p x with latched := false }).wrBit (R.PORT_DIAG_SHORT p) x false,
      (if_pos ⟨hr, fun h => hx.elim (· h.1) (· h.2)⟩).trans (congrArg _ (State.unlatch_latched hl)), ?_⟩
    beta_reduce
    rw [State.wrBit_pin, State.setPin_pin]
    exact ⟨rfl, rfl, State.bit_wrBit_same _ _ _ _ (short_fits p) x.isLt⟩
  · exact if_neg (fun h => h.1 hr)
  · refine ⟨(s.setPin p 2 { s.pin p 2 with latched := true, driving := false }).wrBit (R.PORT_DIAG_SHORT p) 2 true,
      if_neg (not_or.mpr ⟨not_not.mpr hf, not_or.mpr ⟨hr, not_not.mpr hd⟩⟩), ?_⟩
    beta_reduce
    rw [State.wrBit_pin, State.setPin_pin]
    exact ⟨rfl, rfl, State.bit_wrBit_same _ _ _ _ (short_fits p) (by show 2 < 4; decide)⟩
  · obtain ⟨ha, hb⟩ := State.unlatch_does (x := 2) (by decide) hl
    refine ⟨s.unlatch p 2, if_neg (not_or.mpr ⟨not_not.mpr hf, not_not.mpr hl⟩), ?_⟩
    beta_reduce
    rw [ha]
    exact ⟨rfl, rfl, hb⟩
  · exact ⟨_, if_neg (not_or.mpr ⟨not_not.mpr hf, fun h => h.2 hr⟩), State.bit_wrBit_same _ _ _ _ (open_fits p) (by show 2 < 4; decide), rfl, rfl⟩
  · exact ⟨_, if_neg (not_or.mpr ⟨not_not.mpr hf, fun h => Bool.false_ne_true h.1⟩),
      State.bit_wrBit_same _ _ _ _ (open_fits p) (by show 2 < 4; decide), rfl, rfl⟩
  · exact if_pos hs
  · refine ⟨(s.setPin p 2 { s.pin p 2 with hot := true, driving := false }).wrBit (R.PORT_DIAG_OTEMP p) 2 true,
      (if_neg (Bool.eq_false_iff.mp hs)).trans ((if_pos rfl).trans (if_neg (not_not.mpr hf))), ?_⟩
    beta_reduce
    rw [State.wrBit_pin, State.setPin_pin]
    exact ⟨rfl, rfl, State.bit_wrBit_same _ _ _ _ (otemp_fits p) (by show 2 < 4; decide)⟩
  · let k := 2 * p.val + d.val
    let u : State := { s with fld := { s.fld with pairHot := if k ∈ s.fld.pairHot then s.fld.pairHot else k :: s.fld.pairHot } }
    have hk : k ∈ u.fld.pairHot := by
      show k ∈ (if k ∈ s.fld.pairHot then s.fld.pairHot else k :: s.fld.pairHot)
      split
      · assumption
      · exact List.mem_cons_self
    refine ⟨(u.suspendPin p (2 * d.val)).wrBit (R.PORT_DIAG_PAIR_OTEMP p) d true,
      (if_neg (Bool.eq_false_iff.mp hs)).trans ((if_neg (by omega)).trans (if_neg (not_not.mpr hp))), ?_⟩
    beta_reduce
    rw [← hd, State.wrBit_pin, State.suspendPin, State.setPin_pin]
    refine ⟨hk, State.bit_wrBit_same _ _ _ _ (by show 22 + 2 ≤ 32; decide) (by show d.val < 2; omega), rfl, rfl, fun hv => ?_⟩
    exact (congrArg _ hv).trans (Bool.or_true _)
  · exact ⟨{ s with fld := { s.fld with pairHot := s.fld.pairHot.filter (· ≠ 2 * p.val + d.val) } }, if_neg hd, not_mem_filter_ne _ _,
      fun m hm => mem_filter_ne hm _, rfl, rfl⟩
  · rw [State.resumePin_held hh hs, State.setPin_pin]
    exact ⟨rfl, rfl⟩
  · exact if_neg (fun h => hh.elim (Bool.eq_false_iff.mp · h.1) (Bool.eq_false_iff.mp · h.2))
  · let u := s.setPin p 2 { s.pin p 2 with hot := false }
    have hu : u.pin p 2 = { s.pin p 2 with hot := false } := State.setPin_pin _ _ _ _
    have hm : u.mayDrive p 2 = true := by
      have hsh : u.shed p 2 = false := hx
      have hst : u.standby = false := hs
      have hpo : u.powered = true := hp
      unfold State.mayDrive State.stageSound
      simp [hsh, hst, hpo, hu, hl]
    have hc : exec (.driverCooled p 2) s = .next (u.setPin p 2 { u.pin p 2 with driving := u.mayDrive p 2 }) := by
      show execDriverCooled p 2 s = _
      rw [execDriverCooled, if_pos (show (2 : Fin 3).val = 2 from rfl), if_pos hh]
    refine ⟨u.setPin p 2 { u.pin p 2 with driving := u.mayDrive p 2 }, hc, ?_⟩
    beta_reduce
    rw [State.setPin_pin, hm, hu]
    exact ⟨rfl, rfl, rfl⟩

/-! ### The value of a pin -/

theorem State.setLevel_pin (s : State) (p x : Nat) (b : Bool) : (s.setLevel p x b).pin p x =
    { s.pin p x with applied := bnat b, driving := s.mayDrive p x, held := !s.mayDrive p x && !(s.pin p x).latched } :=
  State.setPin_pin _ _ _ _

theorem State.applyDo_level {s : State} {p x : Nat} {b : Bool} (h : s.takesLevel p x = true) (hb : b = true ∨ s.inSafe = true) :
    s.applyDo p x b = s.setLevel p x b :=
  (if_neg (not_not.mpr (.inl h))).trans (if_pos hb)

theorem State.mayDrive_latched {s : State} {p x : Nat} (h : (s.pin p x).latched = true) : s.mayDrive p x = false := by
  simp [State.mayDrive, State.stageSound, h]

/-- Settles O43: a level and a code are what the pin then holds, and it drives where it may. -/
theorem pinValues : Obligations.PinValues := by
  unfold Obligations.PinValues
  refine ⟨fun p x s ht hm => ?_, fun p x s ht hl hs => ?_, fun p x b s ht hl hs => ?_, fun p x b s ht hf => ?_, fun p ty v s hf hm => ?_,
    fun p v s hr hv => ?_, fun p v s hr hv => ?_⟩
  · rw [State.applyDo_level ht (.inl rfl), State.setLevel_pin, hm]
    exact ⟨rfl, rfl, rfl⟩
  · have hz : s.applyDo p x false = (s.unlatch p x).setLevel p x false :=
      (if_neg (not_not.mpr (.inl ht))).trans (if_neg (by rw [hs]; decide))
    have hu : (s.unlatch p x).pin p x = { s.pin p x with latched := false } := by
      rw [State.unlatch_latched hl, State.pin_of_fld (State.refreshPort_fld _ _), State.wrBit_pin, State.setPin_pin]
    rw [State.applyDo_level ht (.inl rfl), State.setLevel_pin, State.mayDrive_latched hl, hz, State.setLevel_pin, hu]
    exact ⟨rfl, hl, rfl⟩
  · rw [State.applyDo_level ht (.inr hs), State.setLevel_pin, State.mayDrive_latched hl]
    exact ⟨rfl, hl⟩
  · refine if_pos (not_or.mpr ⟨Bool.eq_false_iff.mp ht, hf⟩)
  · rw [show s.applyAo p ty v = s.setPin p 2 { s.pin p 2 with applied := s.aoCode p ty v, driving := s.mayDrive p 2 } from
      if_neg (not_not.mpr hf), State.setPin_pin]
    exact ⟨rfl, hm, rfl⟩
  · unfold State.aoCode
    simp only [hr, if_true, or_true]
    rw [max_eq_right (by omega), min_eq_left (by omega)]
    decide
  · unfold State.aoCode
    simp only [hr, if_true, or_true, Nat.zero_ne_one, if_false]
    rw [max_eq_left (by omega), min_eq_right (by omega)]
    decide

/-! ### Field power -/

/-- The fields that say what function a pin of port `p` has: those of PORT_FN and PORT_PAIR of this port and of those whose pairs may name the same
controller, READY, and the refusals. -/
def ofPins (p : Nat) (f : Fld) : Prop := (∃ q k, (q < 64 ∨ q = p) ∧ k < 8 ∧ f.off = 0xC0000 + k + 0x400 * q) ∨ f.lo + f.width ≤ 20

theorem ofPins_base {p q k lo w : Nat} (hq : q < 64 ∨ q = p) (h : k < 8) : ofPins p ⟨0xC0000 + k + 0x400 * q, lo, w⟩ := .inl ⟨q, k, hq, h, rfl⟩

section
variable {s t : State} {p : Nat} (hr : ∀ f : Fld, ofPins p f → t.rd f = s.rd f)
include hr

section
variable {q : Nat} (hq : q < 64 ∨ q = p)
include hq

theorem State.fnRaw_of (x : Nat) : t.fnRaw q x = s.fnRaw q x := hr _ (ofPins_base (k := 0) hq (by decide))

theorem State.rd_pairFld (i lo w : Nat) : t.rd (pairFld q i lo w) = s.rd (pairFld q i lo w) := hr _ (ofPins_base (k := 4) hq (by decide))

theorem State.bothPair_of (i : Nat) : t.bothPair q i = s.bothPair q i := by
  rw [Bool.eq_iff_iff]
  simp only [decide_eq_true_eq, State.bothPair, State.fnRaw_of hr hq]

theorem State.pairMode_of (i : Nat) : t.pairMode q i = s.pairMode q i := by
  simp only [State.pairMode, State.rd_pairFld hr hq]

theorem State.rs422_of : t.rs422 q = s.rs422 q := by
  rw [Bool.eq_iff_iff]
  simp only [decide_eq_true_eq, State.rs422, State.bothPair_of hr hq, State.pairMode_of hr hq]

theorem State.pairBase_of (i : Nat) : t.pairBase q i = s.pairBase q i := by
  rw [Bool.eq_iff_iff]
  simp only [decide_eq_true_eq, State.pairBase, State.bothPair_of hr hq, State.rs422_of hr hq, State.pairMode_of hr hq, State.pairKind,
    State.pairIdx, State.rd_pairFld hr hq]
  exact decide_eq_true_iff.symm

end

theorem State.pairOf_of (k x : Nat) : t.pairOf k x = s.pairOf k x := by
  refine List.find?_congr fun q hq => ?_
  have hq : q / 2 < 64 ∨ q / 2 = p := .inl (by have := List.mem_range.mp hq; omega)
  rw [Bool.eq_iff_iff]
  simp only [decide_eq_true_eq, State.pairBase_of hr hq, State.pairKind, State.pairIdx, State.rd_pairFld hr hq]
  exact decide_eq_true_iff.symm

theorem State.pairRouted_of (i : Nat) : t.pairRouted p i = s.pairRouted p i := by
  rw [Bool.eq_iff_iff]
  simp only [decide_eq_true_eq, State.pairRouted, State.pairOf_of hr, State.pairBase_of hr (.inr rfl), State.pairKind, State.pairIdx,
    State.rd_pairFld hr (.inr rfl)]
  exact decide_eq_true_iff.symm

theorem State.fnBase_of (x : Nat) : t.fnBase p x = s.fnBase p x := by
  simp only [State.fnBase, State.bothPair_of hr (.inr rfl), State.rs422_of hr (.inr rfl), State.pairMode_of hr (.inr rfl),
    State.fnRaw_of hr (.inr rfl), State.pairRouted_of hr]

theorem State.iolPair_of : t.iolPair p = s.iolPair p := by
  rw [Bool.eq_iff_iff]
  simp only [decide_eq_true_eq, State.iolPair, State.fnBase_of hr, hr (R.PORT_FN_FP_MODE p) (ofPins_base (k := 0) (.inr rfl) (by decide))]

theorem State.fnLoad_of (x : Nat) : t.fnLoad p x = s.fnLoad p x := by
  simp only [State.fnLoad, State.iolPair_of hr, State.fnBase_of hr]

theorem State.fn_of (hw : t.pwr = s.pwr) (x : Nat) : t.fn p x = s.fn p x := by
  have hready : t.flag R.ID_STATE_READY = s.flag R.ID_STATE_READY := by
    unfold State.flag
    rw [hr R.ID_STATE_READY (.inr (by decide))]
  simp only [State.fn, State.ready, State.fnLoad_of hr, hready, hw, hr (R.PORT_STAT_REFUSED p) (.inr (by show 4 + 4 ≤ 20; decide)),
    hr (R.PORT_STAT_REFUSED_PAIR p) (.inr (by show 8 + 2 ≤ 20; decide))]
  exact if_congr Iff.rfl rfl rfl

end

/-- A fold whose step at `k` alone changes what `g` sees, and changes it to `h` of it, does so once. -/
theorem foldl_at {β : Type} {f : State → Nat → State} {g : State → β} {h : β → β} {k : Nat} (hne : ∀ s j, j ≠ k → g (f s j) = g s)
    (hk : ∀ s, g (f s k) = h (g s)) {l : List Nat} (hl : l.Nodup) (hm : k ∈ l) (s : State) : g (l.foldl f s) = h (g s) := by
  induction l generalizing s with
  | nil => cases hm
  | cons a l ih =>
    obtain ⟨ha, hl⟩ := List.nodup_cons.mp hl
    rw [List.foldl_cons]
    by_cases hak : a = k
    · subst hak
      have hq : ∀ (l : List Nat), a ∉ l → ∀ t, g (l.foldl f t) = g t := by
        intro l
        induction l with
        | nil => exact fun _ _ => rfl
        | cons b l ih =>
          intro hb t
          rw [List.foldl_cons, ih (fun hx => hb (List.mem_cons_of_mem _ hx)), hne t b (fun hx => hb (hx ▸ List.mem_cons_self))]
      rw [hq l ha, hk]
    · rw [ih hl ((List.mem_cons.mp hm).resolve_left (fun hx => hak hx.symm)), hne s a hak]

/-- The pin, as the loss of field power leaves it. -/
def Pin.suspended (v : Pin) : Pin := { v with driving := false, held := v.held || v.driving }

theorem State.setPin_fn (s : State) (p x : Nat) (v : Pin) (q y : Nat) : (s.setPin p x v).fn q y = s.fn q y :=
  State.fn_of (fun _ _ => rfl) rfl y

theorem State.setPin_pin_ne (s : State) (v : Pin) {p q x y : Nat} (h : 4 * q + y ≠ 4 * p + x) : (s.setPin p x v).pin q y = s.pin q y :=
  NMap.get_set_ne _ _ _ h

/-- A pin that draws on field power is suspended. -/
def State.fieldOff (p : Nat) (s : State) (x : Nat) : State := if onField (s.fn p x) then s.suspendPin p x else s

theorem State.fieldOff_fn (p : Nat) (s : State) (x q y : Nat) : (s.fieldOff p x).fn q y = s.fn q y := by
  unfold State.fieldOff
  split
  · exact State.setPin_fn _ _ _ _ _ _
  · rfl

theorem State.fieldOff_ne (s : State) {p x q y : Nat} (h : 4 * q + y ≠ 4 * p + x) : (s.fieldOff p x).pin q y = s.pin q y := by
  unfold State.fieldOff
  split
  · exact State.setPin_pin_ne _ _ h
  · rfl

theorem State.fieldOff_same (p : Nat) (s : State) (x : Nat) :
    (s.fieldOff p x).pin p x = if onField (s.fn p x) then (s.pin p x).suspended else s.pin p x := by
  unfold State.fieldOff
  split
  · exact State.setPin_pin _ _ _ _
  · rfl

theorem State.fieldOff_regs (p : Nat) (s : State) (x : Nat) : (s.fieldOff p x).regs = s.regs := by
  unfold State.fieldOff
  split <;> rfl

/-- A pin and its function: the part of a state that the loss of field power turns on. -/
def State.pinAt (p x : Nat) (s : State) : Pin × Nat := (s.pin p x, s.fn p x)

/-- A pin that draws on field power is suspended. -/
def suspendOne (v : Pin × Nat) : Pin × Nat := (if onField v.2 then v.1.suspended else v.1, v.2)

theorem State.fieldOff_fold (s : State) (p : Nat) {x : Nat} (hx : x < 4) :
    ((List.range 4).foldl (State.fieldOff p) s).pinAt p x = suspendOne (s.pinAt p x) :=
  foldl_at (f := State.fieldOff p) (g := State.pinAt p x) (h := suspendOne) (k := x)
    (fun t j hj => Prod.ext (State.fieldOff_ne t (by omega)) (State.fieldOff_fn _ _ _ _ _))
    (fun t => Prod.ext (State.fieldOff_same _ _ _) (State.fieldOff_fn _ _ _ _ _)) (List.nodup_range) (List.mem_range.mpr hx) s

theorem State.fieldOff_fold_ne (s : State) {p q : Nat} {y : Nat} (hy : y < 4) (h : q ≠ p) :
    ((List.range 4).foldl (State.fieldOff p) s).pinAt q y = s.pinAt q y := by
  refine Eq.trans (b := _) ?_ rfl
  have key : ∀ (l : List Nat) (t : State), (∀ j ∈ l, j < 4) → (l.foldl (State.fieldOff p) t).pinAt q y = t.pinAt q y := by
    intro l
    induction l with
    | nil => exact fun _ _ => rfl
    | cons a l ih =>
      intro t hl
      have ha : a < 4 := hl a List.mem_cons_self
      rw [List.foldl_cons, ih _ (fun j hj => hl j (List.mem_cons_of_mem _ hj))]
      exact Prod.ext (State.fieldOff_ne t (by omega)) (State.fieldOff_fn _ _ _ _ _)
  exact key _ s (fun j hj => List.mem_range.mp hj)

theorem State.fieldOff_fold_regs (s : State) (p : Nat) : ((List.range 4).foldl (State.fieldOff p) s).regs = s.regs :=
  Quiet.foldl (g := State.regs) _ (State.fieldOff_regs p) _ _

/-- What the loss of field power does to one port. -/
def State.portDark (s : State) (p : Nat) : State :=
  (((List.range 4).foldl (State.fieldOff p) s).wr (R.PORT_STAT_FP_ON p) 0).refreshPort p

/-- Field power is gone. -/
def State.noPower (s : State) : State := { s with fld := { s.fld with power := false, powerBack := false } }

theorem State.portDark_eq : (fun (s : State) (p : Nat) =>
    (((List.range 4).foldl (fun s x => if onField (s.fn p x) then s.suspendPin p x else s) s).wr (R.PORT_STAT_FP_ON p) 0).refreshPort p) =
      State.portDark := rfl

theorem State.fieldPowerLoss_eq (s : State) : s.fieldPowerLoss = (List.range 64).foldl State.portDark s.noPower := by
  rw [← State.portDark_eq]
  rfl

theorem fpOn_fits (p : Nat) : (R.PORT_STAT_FP_ON p).lo + (R.PORT_STAT_FP_ON p).width ≤ 32 := by show 22 + 1 ≤ 32; decide

theorem State.wr_fpOn_fn (s : State) (p v q y : Nat) : (s.wr (R.PORT_STAT_FP_ON p) v).fn q y = s.fn q y := by
  refine State.fn_of (fun f hf => State.rd_wr_ne _ _ (fpOn_fits p) ?_) (State.wr_pwr _ _ _) y
  show 0xc0060 + 0x400 * p ≠ f.off ∨ f.lo + f.width ≤ 22 ∨ 22 + 1 ≤ f.lo
  rcases hf with ⟨_, k, _, hk, ho⟩ | h
  · exact .inl (by omega)
  · exact .inr (.inl (by omega))

theorem State.refreshPort_fn (s : State) (p q y : Nat) : (s.refreshPort p).fn q y = s.fn q y :=
  State.fn_of (fun _ _ => State.rd_of_regs (State.refreshPort_regs _ _) _) (State.refreshPort_pwr _ _) y

theorem State.portDark_pinAt (s : State) (p q y : Nat) :
    (s.portDark p).pinAt q y = ((List.range 4).foldl (State.fieldOff p) s).pinAt q y :=
  Prod.ext ((State.pin_of_fld (State.refreshPort_fld _ _) _ _).trans (State.wr_pin _ _ _ _ _))
    ((State.refreshPort_fn _ _ _ _).trans (State.wr_fpOn_fn _ _ _ _ _))

theorem State.portDark_flag (s : State) (p q : Nat) :
    (s.portDark p).flag (R.PORT_STAT_FP_ON q) = if q = p then false else s.flag (R.PORT_STAT_FP_ON q) := by
  unfold State.portDark
  rw [State.flag_of_regs (State.refreshPort_regs _ _)]
  split
  · next h =>
    subst h
    rw [State.flag_wr_same _ _ _ (fpOn_fits q)]
    rfl
  · next h =>
    rw [State.flag_wr_ne _ _ (fpOn_fits p) (.inl ?_), State.flag_of_regs (State.fieldOff_fold_regs _ _)]
    show 0xc0060 + 0x400 * p ≠ 0xc0060 + 0x400 * q
    omega

/-- The loss of field power suspends each pin that draws on it. -/
theorem State.fieldPowerLoss_pinAt (s : State) {p x : Nat} (hp : p < 64) (hx : x < 4) :
    s.fieldPowerLoss.pinAt p x = suspendOne (s.pinAt p x) := by
  rw [State.fieldPowerLoss_eq]
  refine (foldl_at (f := State.portDark) (g := State.pinAt p x) (h := suspendOne) (k := p) (fun t j hj => ?_) (fun t => ?_) List.nodup_range
      (List.mem_range.mpr hp) _).trans ?_
  · rw [State.portDark_pinAt, State.fieldOff_fold_ne t hx (Ne.symm hj)]
  · rw [State.portDark_pinAt, State.fieldOff_fold t p hx]
  · exact congrArg suspendOne (Prod.ext rfl (State.fn_of (fun _ _ => rfl) rfl x))

theorem State.fieldPowerLoss_fp (s : State) {p : Nat} (hp : p < 64) : s.fieldPowerLoss.flag (R.PORT_STAT_FP_ON p) = false := by
  rw [State.fieldPowerLoss_eq]
  exact foldl_at (g := fun t : State => t.flag (R.PORT_STAT_FP_ON p)) (h := fun _ => false) (k := p)
    (fun t j hj => (t.portDark_flag j p).trans (if_neg (Ne.symm hj))) (fun t => (t.portDark_flag p p).trans (if_pos rfl)) List.nodup_range
    (List.mem_range.mpr hp) _

theorem State.fieldPowerLoss_power (s : State) : s.fieldPowerLoss.fld.power = false := by
  rw [State.fieldPowerLoss_eq]
  refine (Quiet.foldl (g := fun t : State => t.fld.power) State.portDark (fun t p => ?_) _ _).trans (show s.noPower.fld.power = false from rfl)
  refine (congrArg FieldSt.power ((State.refreshPort_fld _ _).trans (State.wr_fld _ _ _))).trans ?_
  refine Quiet.foldl (g := fun t : State => t.fld.power) (State.fieldOff p) (fun t x => ?_) _ _
  unfold State.fieldOff
  split <;> rfl

/-! ### FP switches and field conditions -/

theorem fpTrip_fits (p : Nat) : (R.PORT_STAT_FP_TRIP p).lo + (R.PORT_STAT_FP_TRIP p).width ≤ 32 := by show 23 + 1 ≤ 32; decide

theorem fpShort_fits (p : Nat) : (R.PORT_DIAG_FP_SHORT p).lo + (R.PORT_DIAG_FP_SHORT p).width ≤ 32 := by show 21 + 1 ≤ 32; decide

theorem fpOpen_fits (p : Nat) : (R.PORT_DIAG_FP_OPEN p).lo + (R.PORT_DIAG_FP_OPEN p).width ≤ 32 := by show 20 + 1 ≤ 32; decide

/-- Both flags of a switch's trip, at one value. -/
def State.fpShown (s : State) (p v : Nat) : State := (s.wr (R.PORT_STAT_FP_TRIP p) v).wr (R.PORT_DIAG_FP_SHORT p) v

theorem State.fpShown_does (s : State) (p v : Nat) :
    (s.fpShown p v).flag (R.PORT_STAT_FP_TRIP p) = decide (v % 2 ^ 1 ≠ 0) ∧ (s.fpShown p v).flag (R.PORT_DIAG_FP_SHORT p) = decide (v % 2 ^ 1 ≠ 0) :=
        by
  unfold State.fpShown
  rw [State.flag_wr_ne _ _ (fpShort_fits p) (.inl ?_), State.flag_wr_same _ _ _ (fpTrip_fits p), State.flag_wr_same _ _ _ (fpShort_fits p)]
  · exact ⟨rfl, rfl⟩
  · show 0xc0064 + 0x400 * p ≠ 0xc0060 + 0x400 * p
    omega

theorem State.fpShown_fld (s : State) (p v : Nat) : (s.fpShown p v).fld = s.fld := (State.wr_fld _ _ _).trans (State.wr_fld _ _ _)

theorem State.fpShown_pwr (s : State) (p v : Nat) : (s.fpShown p v).pwr = s.pwr := (State.wr_pwr _ _ _).trans (State.wr_pwr _ _ _)

/-- Field power is back. -/
def State.powerBack (s : State) : State := { s with fld := { s.fld with power := true, powerBack := !s.fld.power || s.fld.powerBack } }

/-- What a suspended pin holds. -/
theorem suspended_of_pinAt {s t : State} {p x : Nat} (h : t.pinAt p x = suspendOne (s.pinAt p x)) (hf : onField (s.fn p x) = true) :
    (t.pin p x).driving = false ∧ (t.pin p x).applied = (s.pin p x).applied ∧ ((s.pin p x).driving = true → (t.pin p x).held = true) := by
  have hp : t.pin p x = (s.pin p x).suspended := (congrArg Prod.fst h).trans (if_pos hf)
  rw [hp]
  exact ⟨rfl, rfl, fun hd => (congrArg _ hd).trans (Bool.or_true _)⟩

theorem exec_fieldPowerLoss (s : State) : exec .fieldPowerLoss s = .next s.fieldPowerLoss := by
  show execFieldPowerLoss s = _
  rw [execFieldPowerLoss]

theorem exec_fieldPowerReturn (s : State) :
    exec .fieldPowerReturn s = .next ((List.range 64).foldl (fun t p => t.refreshPort p) s.powerBack) := by
  show execFieldPowerReturn s = _
  unfold execFieldPowerReturn
  rfl

theorem State.powerBack_does (s : State) :
    s.powerBack.fld.power = true ∧ s.powerBack.fld.pins = s.fld.pins ∧ s.powerBack.regs = s.regs ∧
      (s.fld.power = false → s.powerBack.powered = false) := by
  refine ⟨rfl, rfl, rfl, fun h => ?_⟩
  show decide ((true = true) ∧ ¬ (!s.fld.power || s.fld.powerBack) = true) = false
  rw [h]
  rfl

/-- A breaker becomes hot. -/
def State.heated (s : State) (b : Nat) : State := { s with pwr := { s.pwr with brkHot := b :: s.pwr.brkHot.filter (· ≠ b) } }

/-- No clearing event of a breaker is remembered. -/
def State.forgotten (s : State) (b : Nat) : State := { s with pwr := { s.pwr with brkEvt := s.pwr.brkEvt.filter (· ≠ b) } }

theorem exec_detect {s : State} {p : Fin 64} {x : Fin 5} {short on : Bool} (h : (if on then s.detects p x short else s.ends p x) = true)
    (hs : ¬ (short = true ∧ ((s.pin p x).latched = true ∨ x.val = 4))) :
    exec (.fieldConditionDetect p x short on) s = .next ((if x.val = 4 then s.wr (R.PORT_DIAG_FP_OPEN p) (bnat on)
      else if short then s.wrBit (R.PORT_DIAG_SHORT p) x on else s.wrBit (R.PORT_DIAG_OPEN p) x on).refreshPort p) :=
  if_neg (not_or.mpr ⟨not_not.mpr h, hs⟩)

theorem exec_detectFp {s : State} {p : Fin 64} {on : Bool} (h : (if on then s.detects p (4 : Fin 5) false else s.ends p (4 : Fin 5)) = true) :
    exec (.fieldConditionDetect p 4 false on) s = .next ((s.wr (R.PORT_DIAG_FP_OPEN p) (bnat on)).refreshPort p) := by
  rw [exec_detect h (fun h => Bool.false_ne_true h.1), if_pos (show (4 : Fin 5).val = 4 from rfl)]

/-- Settles O44: a switch's trip and its clearing, the loss and the return of field power, and the conditions of pins and of FP. -/
theorem fieldPower : Obligations.FieldPower := by
  unfold Obligations.FieldPower
  refine ⟨fun p s h => ?_, fun p s ht hh => ?_, fun p s ht hh => ?_, fun p s ht => ?_, fun s => ?_, fun s => ?_, fun p x on s hf he hl => ?_,
    fun p on s he hm => ?_, fun p x s hf => ?_, fun p x short on s hx => ?_⟩
  · obtain ⟨ha, hb⟩ := (s.heated (4 + p.val)).fpShown_does p 1
    refine ⟨((s.heated (4 + p.val)).fpShown p 1).wr (R.PORT_STAT_FP_ON p) (bnat false), if_neg (not_not.mpr h), ?_, ?_, ?_, ?_,
      (State.wr_fld _ _ _).trans (State.fpShown_fld _ _ _)⟩
    · rw [State.flag_wr_same _ _ _ (fpOn_fits p)]
      rfl
    · rw [State.flag_wr_ne _ _ (fpOn_fits p) (.inr (.inr (by show 22 + 1 ≤ 23; decide))), ha]
      rfl
    · rw [State.flag_wr_ne _ _ (fpOn_fits p) (.inl (by show 0xc0060 + 0x400 * p.val ≠ 0xc0064 + 0x400 * p.val; omega)), hb]
      rfl
    · rw [State.wr_pwr, State.fpShown_pwr]
      exact List.mem_cons_self
  · obtain ⟨ha, hb⟩ := (s.forgotten (4 + p.val)).fpShown_does p 0
    refine ⟨(s.forgotten (4 + p.val)).fpShown p 0, congrArg Host.Outcome.next ((if_neg (not_not.mpr ht)).trans (if_neg hh)), ha, hb, ?_,
      State.fpShown_fld _ _ _⟩
    rw [State.fpShown_pwr]
    exact not_mem_filter_ne _ _
  · refine ⟨_, congrArg Host.Outcome.next ((if_neg (not_not.mpr ht)).trans (if_pos hh)), ?_, rfl, rfl⟩
    show 4 + p.val ∈ (if (4 + p.val) ∈ s.pwr.brkEvt then s.pwr.brkEvt else (4 + p.val) :: s.pwr.brkEvt)
    split
    · assumption
    · exact List.mem_cons_self
  · exact congrArg Host.Outcome.next (if_pos (Bool.eq_false_iff.mp ht))
  · refine ⟨s.fieldPowerLoss, ?_, ?_⟩
    · rw [exec_fieldPowerLoss, id]
    exact ⟨s.fieldPowerLoss_power, fun p x =>
      ⟨s.fieldPowerLoss_fp p.isLt, suspended_of_pinAt (s.fieldPowerLoss_pinAt p.isLt x.isLt)⟩⟩
  · exact ⟨s.powerBack, exec_fieldPowerReturn s, s.powerBack_does⟩
  · have hd : s.detects p x true = true := by
      have hx : x.val ≠ 4 := by omega
      simp [State.detects, hx, hf, he]
    have hx : (if on then s.detects p x true else s.ends p x) = true := by
      cases on
      · simp [State.ends, hf]
      · exact hd
    refine ⟨s.wrBit (R.PORT_DIAG_SHORT p) x on, (exec_detect hx ?_).trans ?_, State.bit_wrBit_same _ _ _ _ (short_fits p) x.isLt, rfl, rfl⟩
    · rintro ⟨-, h | h⟩
      · exact Bool.eq_false_iff.mp hl h
      · exact absurd h (show x.val ≠ 4 by omega)
    · rw [if_neg (show x.castSucc.val ≠ 4 from Nat.ne_of_lt x.isLt), if_pos rfl]
      rfl
  · have hx : (if on then s.detects p (4 : Fin 5) false else s.ends p (4 : Fin 5)) = true := by
      cases on
      · simp [State.ends]
      · simp [State.detects, he, hm]
    refine ⟨s.wr (R.PORT_DIAG_FP_OPEN p) (bnat on), exec_detectFp hx, ?_, State.wr_fld _ _ _, State.wr_pts _ _ _⟩
    rw [State.flag_wr_same _ _ _ (fpOpen_fits p)]
    cases on <;> rfl
  · have hx : (if false = true then s.detects p x false else s.ends p x) = true := by
      simp [State.ends, hf]
    refine ⟨s.wrBit (R.PORT_DIAG_OPEN p) x false, (exec_detect (x := x.castSucc) hx (fun h => Bool.false_ne_true h.1)).trans ?_,
      State.bit_wrBit_same _ _ _ _ (open_fits p) x.isLt, rfl, rfl⟩
    rw [if_neg (show x.castSucc.val ≠ 4 from Nat.ne_of_lt x.isLt), if_neg Bool.false_ne_true]
    rfl
  · refine if_pos (.inl ?_)
    obtain ⟨rfl, h⟩ | ⟨rfl, h⟩ := hx
    · exact Bool.eq_false_iff.mp h
    · exact Bool.eq_false_iff.mp h

end Sys2Proof.Machine
end

section
/-!
PROOFS. The thermal budget.
-/

namespace Sys2Proof.Machine

/-- The function `k` is derated: its pin drives nothing. -/
def State.derated (s : State) (k : Nat) : State :=
  { s with fld := { s.fld with derated := k :: s.fld.derated, restored := s.fld.restored.filter (· ≠ k) } }.suspendPin (k / 8)
    (if k % 8 < 4 then k % 8 else 2 * (k % 8 - 4))

theorem exec_derateStep (s : State) : exec .derateStep s = .next (s.draw.2.derate.dieHot (decide (s.draw.1 % 2 = 1))) := rfl

theorem State.derate_some {s : State} {k : Nat} (h : s.nextDerate = some k) :
    s.derate = ((s.derated k).setDerated k true).inc R.PWR_TBM_CNT_DERATE := by
  unfold State.derate
  rw [h]
  rfl

theorem State.derate_none {s : State} (h : s.nextDerate = none) : s.derate = s := by
  unfold State.derate
  rw [h]

theorem State.derated_pin (s : State) (k : Nat) :
    (s.derated k).pin (k / 8) (if k % 8 < 4 then k % 8 else 2 * (k % 8 - 4)) =
      (s.pin (k / 8) (if k % 8 < 4 then k % 8 else 2 * (k % 8 - 4))).suspended :=
  State.setPin_pin _ _ _ _

/-- The next function to be derated is one that is admitted, not derated yet, and not of the class that is never shed. -/
theorem State.nextDerate_mem {s : State} {k : Nat} (h : s.nextDerate = some k) :
    k ∈ s.fld.admitted.keys.filter fun k => k ∉ s.fld.derated ∧ s.rd (R.PORT_FN_SHED (k / 8)) ≠ 3 := by
  unfold State.nextDerate at h
  extract_lets cand rank at h
  have key : ∀ (l : List Nat) (b : Option Nat), (∀ j, b = some j → j ∈ cand) → (∀ j ∈ l, j ∈ cand) →
      ∀ j, l.foldl (fun b k => match b with
        | none => some k
        | some q => if rank k < rank q then some k else some q) b = some j → j ∈ cand := by
    intro l
    induction l with
    | nil => exact fun b hb _ j hj => hb j hj
    | cons a l ih =>
      intro b hb hl
      refine ih _ ?_ (fun j hj => hl j (List.mem_cons_of_mem _ hj))
      have ha : a ∈ cand := hl a List.mem_cons_self
      intro j hj
      cases b with
      | none => exact (Option.some.inj hj) ▸ ha
      | some q =>
        dsimp only at hj
        split at hj
        · exact (Option.some.inj hj) ▸ ha
        · exact (Option.some.inj hj) ▸ hb q rfl
  exact key cand none (fun _ hj => nomatch hj) (fun _ hj => hj) k h

theorem State.dieHot_false (s : State) : s.dieHot false = s.persists 4 .U false := by
  unfold State.dieHot
  extract_lets was t
  exact if_neg (fun h => Bool.false_ne_true h.1)

/-- The function `k` is restored, with `r` left derated. -/
def State.restoring (s : State) (k : Nat) (r : List Nat) : State :=
  { s with fld := { s.fld with derated := r, restored := k :: s.fld.restored } }

theorem exec_restoreStep_some {s : State} {k : Nat} {r : List Nat} (h : s.fld.derated = k :: r) :
    exec .restoreStep s = .next (((s.dieHot false).restoring k r).setDerated k false) := by
  have hf : (s.dieHot false).fld.derated = k :: r := by
    rw [State.dieHot_false]
    exact h
  show execRestoreStep s = _
  simp only [execRestoreStep, hf]
  rfl

theorem exec_restoreStep_none {s : State} (h : s.fld.derated = []) : exec .restoreStep s = .next (s.dieHot false) := by
  have hf : (s.dieHot false).fld.derated = [] := by
    rw [State.dieHot_false]
    exact h
  show execRestoreStep s = _
  simp only [execRestoreStep, hf]

/-- Settles O45: a step derates the next function or restores the last one, and says whether the die's heat may have caused it. -/
theorem thermalBudget : Obligations.ThermalBudget := by
  unfold Obligations.ThermalBudget
  refine ⟨fun k s h hk => ⟨decide (s.draw.1 % 2 = 1), s.draw.2.derated k, ?_, rfl, ?_⟩, fun k s h hk => ⟨decide (s.draw.1 % 2 = 1),
      s.draw.2.derated k, ?_, rfl, ?_⟩,
    fun k r s h => ?_, fun s h => ⟨decide (s.draw.1 % 2 = 1), s.draw.2, ?_, rfl, rfl, rfl⟩, fun s h => ?_, fun s => ?_, fun k s h => ?_, fun s => rfl⟩
  · rw [exec_derateStep, State.derate_some (s := s.draw.2) h]
  · have hp := s.draw.2.derated_pin k
    rw [if_pos hk] at hp
    rw [hp]
    exact ⟨rfl, rfl, rfl⟩
  · rw [exec_derateStep, State.derate_some (s := s.draw.2) h]
  · have hp := s.draw.2.derated_pin k
    rw [if_neg (by omega)] at hp
    rw [hp]
    exact ⟨rfl, rfl⟩
  · refine ⟨(s.dieHot false).restoring k r, exec_restoreStep_some h, ?_⟩
    rw [State.dieHot_false]
    exact ⟨rfl, rfl, rfl, rfl, rfl⟩
  · rw [exec_derateStep, State.derate_none (s := s.draw.2) h]
  · exact exec_restoreStep_none h
  · rw [State.dieHot_false]
    exact ⟨rfl, rfl, by simp [State.persists]⟩
  · have hm := (List.mem_filter.mp (State.nextDerate_mem h)).2
    simpa using hm

end Sys2Proof.Machine
end

section
/-!
PROOFS. Set-up accesses, and the delays of links.
-/

namespace Sys2Proof.Machine

/-! ### Set-up accesses -/

/-- An access that DOZE holds back. -/
def State.holdAccess (s : State) (a : Access) : State := { s with setup := { s.setup with held := s.setup.held ++ [a] } }

theorem State.pcieAccess_asleep {s : State} (h : s.pwr.asleep = true) (a : Access) : s.pcieAccess a = (s.holdAccess a).wake 1 := if_pos h

theorem State.pcieAccess_awake {s : State} (h : s.pwr.asleep = false) (a : Access) :
    s.pcieAccess a = if a.v.isSome then (s.doAccess a).2 else (s.doAccess a).2.emit (.reply "set-up read" (s.doAccess a).1) :=
  if_neg (Bool.eq_false_iff.mp h)

theorem exec_registerWrite {q : Requester} {off : BitVec 22} {wide : Bool} (v : BitVec 64) (s : State) (h : okAccess off.toNat wide = true) :
    exec (.registerWrite q off wide v) s =
      .next (s.pcieAccess ⟨q, off.toNat, if wide then 8 else 4, some (if wide then v.toNat else v.toNat % 2 ^ 32)⟩).settle :=
  if_pos h

theorem exec_registerRead {q : Requester} {off : BitVec 22} {wide : Bool} (s : State) (h : okAccess off.toNat wide = true) :
    exec (.latchedRegisterRead q off wide) s = .next (s.pcieAccess ⟨q, off.toNat, if wide then 8 else 4, none⟩) :=
  if_pos h

theorem State.pf0Write_open {s : State} {off n v : Nat} (hr : s.responds off = true) (hw : s.vfWindow off = false) :
    s.pf0Write off n v = s.setupWrite off n v := by
  unfold State.pf0Write
  simp [hr, hw]

/-- Settles O12: in DOZE an access is held, and at any other time PF0's is carried out where the set-up space responds. -/
theorem setupAccess : Obligations.SetupAccess := by
  unfold Obligations.SetupAccess
  refine ⟨fun q off wide v s ho ha => ?_, fun q off wide s ho ha => ?_, fun off wide v s ho ha hr hw => ?_, fun off wide s ho ha hr => ?_,
    fun q off wide v s ho => ⟨if_neg (Bool.eq_false_iff.mp ho), if_neg (Bool.eq_false_iff.mp ho)⟩⟩
  · refine ⟨s.holdAccess ⟨q, off.toNat, if wide then 8 else 4, some (if wide then v.toNat else v.toNat % 2 ^ 32)⟩, ?_, rfl, rfl⟩
    rw [exec_registerWrite v s ho, State.pcieAccess_asleep ha]
  · refine ⟨s.holdAccess ⟨q, off.toNat, if wide then 8 else 4, none⟩, ?_, rfl, rfl, rfl⟩
    rw [exec_registerRead s ho, State.pcieAccess_asleep ha]
  · rw [exec_registerWrite v s ho, State.pcieAccess_awake ha, ← State.pf0Write_open hr hw]
    rfl
  · have hd : s.doAccess ⟨.pf0, off.toNat, if wide then 8 else 4, none⟩ = s.setupRead off.toNat (if wide then 8 else 4) := if_pos hr
    refine ⟨(s.setupRead off.toNat (if wide then 8 else 4)).2.emit (.reply "set-up read" (s.setupRead off.toNat (if wide then 8 else 4)).1), ?_, rfl⟩
    rw [exec_registerRead s ho, State.pcieAccess_awake ha, hd, id]
    rfl

/-! ### The delays of links -/

theorem State.heard_valid {s : State} {i : Nat} {f : Frame} (hm : f.mark = .valid) (he : f.epoch = (s.port i).rxEpoch) :
    (s.countMark i f.mark).noteEpoch i f = s := by
  rw [hm]
  exact if_neg (fun h => h.2 he)

/-- The request is out: its number and the time of asking are kept. -/
def State.asked (s : State) (i : Nat) : State :=
  { s with td := { s.td with pdelaySeq := (s.td.pdelaySeq + 1) % 65536
                             pdelay := NMap.set (fun _ => (0, 0)) s.td.pdelay i (s.td.pdelaySeq + 1, s.now) } }

theorem State.asked_pdelay (s : State) (i : Nat) : NMap.get (fun _ => (0, 0)) (s.asked i).td.pdelay i = (s.td.pdelaySeq + 1, s.now) := by
  unfold State.asked
  dsimp only
  rw [NMap.get_set_same]

/-- The answer has been taken: no request of port `i` is open. -/
def State.answered (s : State) (i : Nat) : State :=
  { s with td := { s.td with pdelay := NMap.set (fun _ => (0, 0)) s.td.pdelay i (0, 0) } }

theorem State.answered_pdelay (s : State) (i : Nat) : NMap.get (fun _ => (0, 0)) (s.answered i).td.pdelay i = (0, 0) := by
  unfold State.answered
  dsimp only
  rw [NMap.get_set_same]

/-- The measured delay of an answer. -/
def State.measured (s : State) (i t1 : Nat) (f : Frame) : Int :=
  (((s.rxStamp i : Int) - t1) - ((timeDec (leAt f.payload 12 12) : Int) - timeDec (leAt f.payload 0 12))) / 2

theorem State.pdelayResp_other {s : State} {i : Nat} {f : Frame} {q t1 : Nat} (hq : NMap.get (fun _ => (0, 0)) s.td.pdelay i = (q, t1))
    (h : q = 0 ∨ f.arg ≠ q - 1) : s.pdelayResp i f = s := by
  unfold State.pdelayResp
  rw [hq]
  exact if_pos h

theorem State.pdelayResp_taken {s : State} {i : Nat} {f : Frame} {t1 : Nat} (hq : NMap.get (fun _ => (0, 0)) s.td.pdelay i = (f.arg + 1, t1))
    (hd : (s.measured i t1 f - ((s.port i).rtt * 32768 : Nat)).natAbs ≤ 20 * 65536) (hh : i ∈ s.td.pdelayHave) :
    s.pdelayResp i f = (s.answered i).wr (R.TD_LINK_DLY_DELAY i)
      (((s.rd (R.TD_LINK_DLY_DELAY i) : Int) * 15 + s.measured i t1 f) / 16).toNat := by
  unfold State.pdelayResp
  rw [hq]
  refine (if_neg (by omega)).trans ?_
  extract_lets w a d avg u
  have hd' : ¬ 20 * 65536 < (d - ((s.port i).rtt * 32768 : Nat)).natAbs := Nat.not_lt.mpr hd
  have hu : u = (s.answered i).wr (R.TD_LINK_DLY_DELAY i) (((s.rd (R.TD_LINK_DLY_DELAY i) : Int) * 15 + s.measured i t1 f) / 16).toNat :=
    congrArg (fun v : Int => (s.answered i).wr (R.TD_LINK_DLY_DELAY i) v.toNat) (if_pos hh)
  refine (if_neg hd').trans ?_
  rw [if_pos (show i ∈ u.td.pdelayHave from hu ▸ hh), ← hu]

theorem exec_pdelayResp {s : State} {i : Fin 5} {g f : Frame} (ht : s.readTag i g = f) (hu : s.isUp i = true) (hv : f.ver = 1) (hty : f.typ = fTime)
    (ho : f.op = 3) (hm : f.mark = .valid) (he : f.epoch = (s.port i).rxEpoch) (ha : badTime (leAt f.payload 0 12) = false)
    (hb : badTime (leAt f.payload 12 12) = false) : exec (.pdelayRespReceive i g) s = .next (s.pdelayResp i f) := by
  show execPdelayRespReceive i g s = _
  simp only [execPdelayRespReceive, ht]
  rw [if_pos ⟨hu, hv, hty, ho⟩, State.heard_valid hm he, if_pos ⟨hm, Bool.eq_false_iff.mp ha, Bool.eq_false_iff.mp hb⟩]

/-- Settles O38: a request is kept with its number, answered with its times, and its answer enters the average. -/
theorem linkDelays : Obligations.LinkDelays := by
  unfold Obligations.LinkDelays
  refine ⟨fun i s hu => ?_, fun i g f s ht hu hv hty ho hm he => ?_, fun i f s hty ho hh => ?_,
    fun i g f t1 d s ht hu hv hty ho hm he ha hb hq hd hn hp h0 h1 => ?_, fun i g f q t1 s ht hu hv hty ho hm he ha hb hq hx => ?_⟩
  · exact ⟨s.asked i, if_pos hu, rfl, s.asked_pdelay i, rfl⟩
  · show execPdelayReqReceive i g s = _
    simp only [execPdelayReqReceive, ht]
    rw [if_pos ⟨hu, hv, hty, ho⟩, State.heard_valid hm he, if_pos hm]
    rfl
  · unfold State.stampFrame
    rw [if_neg (by simp [hty, hh]), if_neg (by omega), if_pos ho]
  · subst hd
    refine ⟨(s.answered i).wr (R.TD_LINK_DLY_DELAY i) (((s.rd (R.TD_LINK_DLY_DELAY i) : Int) * 15 + s.measured i t1 f) / 16).toNat,
        (exec_pdelayResp ht hu hv hty ho hm he ha hb).trans (congrArg _ (State.pdelayResp_taken hq hn hp)), ?_, s.answered_pdelay i⟩
    rw [State.rd_wr_same _ _ _ (by show 0 + 32 ≤ 32; decide)]
    have hlt : s.rd (R.TD_LINK_DLY_DELAY i) < 2 ^ 32 := s.rd_lt (R.TD_LINK_DLY_DELAY i)
    have hw : (R.TD_LINK_DLY_DELAY i).width = 32 := rfl
    rw [hw]
    unfold State.measured
    omega
  · rw [exec_pdelayResp ht hu hv hty ho hm he ha hb, State.pdelayResp_other hq hx]

end Sys2Proof.Machine
end

section
/-!
PROOFS. The instructions of a Briar channel.
-/

namespace Sys2Proof.Machine

/-! ### SIDE writes PINS and nothing else -/

theorem State.sided_eq (s : State) (e c w : Nat) : ∃ p, s.sided e c w = { s.chan e c with pins := p } := by
  unfold State.sided State.side
  split
  · exact ⟨_, rfl⟩
  · exact ⟨_, rfl⟩

@[simp] theorem State.sided_x (s : State) (e c w : Nat) : (s.sided e c w).x = (s.chan e c).x := by
  obtain ⟨p, hp⟩ := s.sided_eq e c w
  rw [hp]

@[simp] theorem State.sided_y (s : State) (e c w : Nat) : (s.sided e c w).y = (s.chan e c).y := by
  obtain ⟨p, hp⟩ := s.sided_eq e c w
  rw [hp]

@[simp] theorem State.sided_isr (s : State) (e c w : Nat) : (s.sided e c w).isr = (s.chan e c).isr := by
  obtain ⟨p, hp⟩ := s.sided_eq e c w
  rw [hp]

@[simp] theorem State.sided_isrCnt (s : State) (e c w : Nat) : (s.sided e c w).isrCnt = (s.chan e c).isrCnt := by
  obtain ⟨p, hp⟩ := s.sided_eq e c w
  rw [hp]

@[simp] theorem State.sided_osr (s : State) (e c w : Nat) : (s.sided e c w).osr = (s.chan e c).osr := by
  obtain ⟨p, hp⟩ := s.sided_eq e c w
  rw [hp]

@[simp] theorem State.sided_osrCnt (s : State) (e c w : Nat) : (s.sided e c w).osrCnt = (s.chan e c).osrCnt := by
  obtain ⟨p, hp⟩ := s.sided_eq e c w
  rw [hp]

@[simp] theorem State.sided_flags (s : State) (e c w : Nat) : (s.sided e c w).flags = (s.chan e c).flags := by
  obtain ⟨p, hp⟩ := s.sided_eq e c w
  rw [hp]

@[simp] theorem State.sided_tx (s : State) (e c w : Nat) : (s.sided e c w).tx = (s.chan e c).tx := by
  obtain ⟨p, hp⟩ := s.sided_eq e c w
  rw [hp]

@[simp] theorem State.sided_rx (s : State) (e c w : Nat) : (s.sided e c w).rx = (s.chan e c).rx := by
  obtain ⟨p, hp⟩ := s.sided_eq e c w
  rw [hp]

/-! ### A channel's cycle -/

section
variable {s : State} {e c op w : Nat} {f : State → Nat → Chan → BRes}

theorem State.slotStart_unasked (h : (16 * e + c) ∉ s.eng.asked) : s.slotStart e c = s := if_neg h

/-- The channel of a granted slot runs, on a clock. -/
theorem State.granted (hst : (s.chan e c).st = chRun) (hs : s.slots e c ≠ 0)
    (ho : s.flag R.PWR_STAT_ON_OSC = false ∨ s.rd (R.CLK_ISL_CUR (13 + e)) ≠ 0) :
    ¬ ((s.chan e c).st ≠ chRun ∨ s.slots e c = 0 ∨ (s.flag R.PWR_STAT_ON_OSC ∧ s.rd (R.CLK_ISL_CUR (13 + e)) = 0)) := by
  rintro (h | h | ⟨h, k⟩)
  · exact h hst
  · exact hs h
  · rcases ho with ho | ho
    · exact Bool.false_ne_true (ho.symm.trans h)
    · exact ho k

theorem State.chanCycle_fetches (h : s.fetches e c op w) : s.chanCycle e c op f =
    if (f s w (s.sided e c w)).stall then
      (f s w (s.sided e c w)).s.putChan e c { s.side e c w (f s w (s.sided e c w)).x with st := chStalled, insn := w }
    else s.finishInsn e c w (s.chan e c).pc { f s w (s.sided e c w) with x := s.side e c w (f s w (s.sided e c w)).x } := by
  obtain ⟨ha, hst, hs, ho, hd, hw, hb, hop⟩ := h
  unfold State.chanCycle
  rw [State.slotStart_unasked ha]
  refine (if_neg (State.granted hst hs ho)).trans ((if_neg (not_not.mpr hd)).trans ?_)
  rw [hw]
  exact (if_neg (Bool.eq_false_iff.mp hb)).trans (if_neg (not_not.mpr hop))

/-- An instruction that completes. -/
theorem State.chanCycle_done {s' : State} {x : Chan} {j : Bool} (h : s.fetches e c op w) (hf : f s w (s.sided e c w) = ⟨s', x, j, false⟩) :
    s.chanCycle e c op f = s.insnDone s' e c w x j := by
  rw [State.chanCycle_fetches h, hf]
  rfl

/-- An instruction that cannot complete. -/
theorem State.chanCycle_stalls {x : Chan} (h : s.fetches e c op w) (hf : f s w (s.sided e c w) = ⟨s, x, false, true⟩) :
    s.chanCycle e c op f = s.insnStalls e c w x := by
  rw [State.chanCycle_fetches h, hf]
  rfl

end

/-! ### What each instruction does -/

section
variable {s : State} {e c lv w : Nat} {x : Chan}

theorem State.bJmp_always (h : bits w 14 4 = 0) : s.bJmp e c lv w x = ⟨s, { x with pc := bits w 0 10 }, true, false⟩ := by
  simp [State.bJmp, h]

theorem State.bJmp_zero (h : bits w 14 4 = 1) (hy : bit w 13 = false) (hx : x.x = 0) :
    s.bJmp e c lv w x = ⟨s, { x with pc := bits w 0 10 }, true, false⟩ := by
  simp [State.bJmp, h, hy, hx]

theorem State.bJmp_notZero (h : bits w 14 4 = 1) (hy : bit w 13 = false) (hx : x.x ≠ 0) : s.bJmp e c lv w x = ⟨s, x, false, false⟩ := by
  simp [State.bJmp, h, hy, hx]

theorem State.bJmp_counts (h : bits w 14 4 = 3) (hy : bit w 13 = false) (h1 : 1 < x.x) (h2 : x.x < 2 ^ 32) :
    s.bJmp e c lv w x = ⟨s, { x with x := x.x - 1, pc := bits w 0 10 }, true, false⟩ := by
  have hd : (x.x + 2 ^ 32 - 1) % 2 ^ 32 = x.x - 1 := by omega
  have hn : x.x - 1 ≠ 0 := by omega
  simp only [State.bJmp, h, hy, hd, if_true, Bool.false_eq_true, if_false, bne_iff_ne, ne_eq, hn, not_false_eq_true]

theorem State.bJmp_pin (h : bits w 14 4 = 6) : s.bJmp e c lv w x =
    if s.pinRead (s.chanPort e c) lv (bits w 11 2) then ⟨s, { x with pc := bits w 0 10 }, true, false⟩ else ⟨s, x, false, false⟩ := by
  simp [State.bJmp, h]

theorem State.bWait_pin (h : bits w 15 2 = 0) :
    s.bWait e c lv w false x = ⟨s, x, false, s.pinRead (s.chanPort e c) lv (bits w 12 3) != bit w 17⟩ := by
  simp [State.bWait, h]

theorem State.bWait_flag (h : bits w 15 2 = 1) (hp : bit w 17 = true) (hf : bit x.flags (bits w 12 3) = true) (hc : bit w 11 = true) :
    s.bWait e c lv w false x = ⟨s, { x with flags := setBits x.flags (bits w 12 3) 1 0 }, false, false⟩ := by
  simp [State.bWait, h, hp, hf, hc]

theorem State.bWait_irq (h : bits w 15 2 = 2) : s.bWait e c lv w false x = ⟨s, { x with irq := false }, false, true⟩ := by
  simp [State.bWait, h]

theorem State.bIn_left (h : bits w 15 3 = 1) (hd : s.flag (R.ENG_CH_CFG_IN_DIR e c) = false) (ha : s.flag (R.ENG_CH_CFG_AUTOPUSH e c) = false) :
    s.bIn e c lv w x = ⟨s, { x with isr := (x.isr * 2 ^ countOf (bits w 0 5) + x.x % 2 ^ countOf (bits w 0 5)) % 2 ^ 32
                                    isrCnt := min 32 (x.isrCnt + countOf (bits w 0 5)) }, false, false⟩ := by
  simp only [State.bIn, h, hd, ha, Bool.false_eq_true, if_false, false_and]

theorem State.bIn_right (h : bits w 15 3 = 6) (hd : s.flag (R.ENG_CH_CFG_IN_DIR e c) = true) (ha : s.flag (R.ENG_CH_CFG_AUTOPUSH e c) = false) :
    s.bIn e c lv w x = ⟨s, { x with isr := x.isr / 2 ^ countOf (bits w 0 5) + nsCount (s.tdNow (bits w 12 3)) % 2 ^ 32 % 2 ^ countOf (bits w 0 5)
                                             * 2 ^ (32 - countOf (bits w 0 5))
                                    isrCnt := min 32 (x.isrCnt + countOf (bits w 0 5)) }, false, false⟩ := by
  simp only [State.bIn, h, hd, ha, if_true, Bool.false_eq_true, if_false, false_and]

theorem State.bOut_x (h : bits w 15 3 = 1) (hd : s.flag (R.ENG_CH_CFG_OUT_DIR e c) = true) (ha : s.flag (R.ENG_CH_CFG_AUTOPULL e c) = false) :
    s.bOut e c w x = ⟨s, { x with x := x.osr % 2 ^ countOf (bits w 0 5), osr := x.osr / 2 ^ countOf (bits w 0 5)
                                  osrCnt := min 32 (x.osrCnt + countOf (bits w 0 5)) }, false, false⟩ := by
  simp only [State.bOut, h, hd, ha, if_true, Bool.false_eq_true, if_false, false_and]
  rfl

theorem State.bOut_pc (h : bits w 15 3 = 5) (hd : s.flag (R.ENG_CH_CFG_OUT_DIR e c) = false) (ha : s.flag (R.ENG_CH_CFG_AUTOPULL e c) = false) :
    s.bOut e c w x = ⟨s, { x with pc := x.osr / 2 ^ (32 - countOf (bits w 0 5)) % 1024, osr := x.osr * 2 ^ countOf (bits w 0 5) % 2 ^ 32
                                  osrCnt := min 32 (x.osrCnt + countOf (bits w 0 5)) }, true, false⟩ := by
  simp only [State.bOut, h, hd, ha, Bool.false_eq_true, if_false, false_and]
  rfl

theorem State.bPush_room (hr : x.rx.length < 32) (b : Bool) :
    s.bPush e c x b = ⟨s, { x with rx := x.rx ++ [(x.isr, s.now)], isr := 0, isrCnt := 0 }, false, false⟩ := if_neg (Nat.not_le.mpr hr)

theorem State.bPushInsn_always (h : bit w 17 = false) : s.bPushInsn e c w x = s.bPush e c x (bit w 16) :=
  if_neg (fun k => Bool.eq_false_iff.mp h k.1)

theorem State.bPushInsn_below (h : bit w 17 = true) (hc : x.isrCnt < s.pushThr e c) : s.bPushInsn e c w x = ⟨s, x, false, false⟩ :=
  if_pos ⟨h, hc⟩

theorem State.bPush_full (hr : 32 ≤ x.rx.length) (b : Bool) : s.bPush e c x b =
    if b then ⟨s, x, false, true⟩ else ⟨s.wr (R.ENG_CH_ERR_RX_OVERRUN e c) 1, { x with isr := 0, isrCnt := 0 }, false, false⟩ := if_pos hr

theorem State.bPullInsn_always (h : bit w 17 = false) : s.bPullInsn e c w x = s.bPull e c x (bit w 16) :=
  if_neg (fun k => Bool.eq_false_iff.mp h k.1)

theorem State.bPull_word {v : Nat} {r : List Nat} (h : x.tx = v :: r) (b : Bool) :
    s.bPull e c x b = ⟨s, { x with osr := v, osrCnt := 0, tx := r }, false, false⟩ := by
  simp only [State.bPull, h]

theorem State.bPull_empty (h : x.tx = []) (b : Bool) : s.bPull e c x b =
    if b then ⟨s, x, false, true⟩
    else ⟨s.wr (R.ENG_CH_ERR_TX_UNDERRUN e c) 1, { x with osr := s.rd (R.ENG_CH_IDLE_IDLE e c), osrCnt := 0 }, false, false⟩ := by
  simp only [State.bPull, h]

theorem State.bMov_invert (h : bits w 15 3 = 1) (hv : bits w 13 2 = 1) (hs : bits w 10 3 = 2) :
    s.bMov e c lv w x = ⟨s, { x with x := 2 ^ 32 - 1 - x.y }, false, false⟩ := by
  simp only [State.bMov, h, hv, hs]

theorem State.bMov_isr (h : bits w 15 3 = 5) (hv : bits w 13 2 = 0) (hs : bits w 10 3 = 6) :
    s.bMov e c lv w x = ⟨s, { x with isr := x.osr, isrCnt := 0 }, false, false⟩ := by
  simp only [State.bMov, h, hv, hs]

theorem State.bSet_x (h : bits w 15 3 = 1) : s.bSet e c w x = ⟨s, { x with x := bits w 0 15 }, false, false⟩ := by
  simp only [State.bSet, h]

theorem State.bSet_pins (h : bits w 15 3 = 0) :
    s.bSet e c w x = ⟨s, { x with pins := rotWrite x.pins (s.rd (R.ENG_CH_CFG_PIN_BASE e c)) 4 (bits w 0 15) }, false, false⟩ := by
  simp only [State.bSet, h]

theorem State.bIrq_clear (h : bits w 16 2 = 1) :
    s.bIrq e c w x = ⟨s, { x with flags := setBits x.flags (bits w 12 3) 1 0 }, false, false⟩ := by
  simp only [State.bIrq, h]

theorem State.bIrq_post (h : bits w 16 2 = 2) (hv : (s.wrBit (R.ENG_EVT_POSTED e) c true).flag (R.ENG_EVT_VEC_EN e) = false) :
    s.bIrq e c w x = ⟨s.wrBit (R.ENG_EVT_POSTED e) c true, { x with flags := setBits x.flags (bits w 12 3) 1 1 }, false, false⟩ := by
  simp only [State.bIrq, h, hv, Bool.false_eq_true, if_false]

theorem State.bTimewait_disabled (h : s.flag (R.TD_CFG_EN (bits w 13 3)) = false) :
    s.bTimewait e c w x = ⟨s.wr (R.ENG_CH_ERR_TW_LATE e c) 1, x, false, false⟩ := by
  simp [State.bTimewait, h]

theorem State.bTimewait_grid (h : s.flag (R.TD_CFG_EN (bits w 13 3)) = true) (hm : bits w 16 2 = 2) : s.bTimewait e c w x =
    ⟨s, { x with target := gridAfter (nsCount (s.tdNow (bits w 13 3))) (s.rd (R.ENG_CH_GRID_PHASE e c)) (s.rd (R.ENG_CH_GRID_PERIOD e c)) },
      false, true⟩ := by
  simp [State.bTimewait, h, hm]

theorem State.bCnt_add (h : bits w 15 2 = 1) (hy : bit w 17 = false) : s.bCnt e c w x = ⟨s, { x with x := (x.x + x.y) % 2 ^ 32 }, false, false⟩ := by
  simp only [State.bCnt, h, hy, Bool.false_eq_true, if_false]

theorem State.bCnt_imm (h : bits w 15 2 = 0) (hy : bit w 17 = true) :
    s.bCnt e c w x = ⟨s, { x with y := (x.y + toBits 32 (sext 15 (bits w 0 15))) % 2 ^ 32 }, false, false⟩ := by
  simp only [State.bCnt, h, hy, if_true]

end

/-! ### Storing a channel -/

/-- What pins, points and registers do not reach, a channel's pins leave too. -/
theorem Quiet.chanDrive {β : Type} {g : State → β} (q : Quiet g) (s : State) (p x : Nat) (level on : Bool) : g (s.chanDrive p x level on) = g s :=
  q.setPin s _ _ _

theorem Quiet.applyDo {β : Type} {g : State → β} (q : Quiet g) (s : State) (p x : Nat) (b : Bool) : g (s.applyDo p x b) = g s := by
  unfold State.applyDo
  split
  · rfl
  · split
    · exact q.setPin s _ _ _
    · exact (q.setPin _ _ _ _).trans (q.unlatch s p x)

theorem Quiet.applyChan {β : Type} {g : State → β} (q : Quiet g) (s : State) (p : Nat) : g (s.applyChan p) = g s := by
  unfold State.applyChan
  extract_lets y live lv t
  have ht : g t = g s := by
    refine Quiet.foldl (g := g) _ (fun u x => ?_) _ _
    split
    · exact q.chanDrive _ _ _ _ _
    · split
      · exact q.applyDo _ _ _ _
      · rfl
  refine (Quiet.foldl (g := g) _ (fun u i => ?_) _ _).trans ht
  split
  · split
    · split
      · exact q.chanDrive _ _ _ _ _
      · rfl
    · exact q.chanDrive _ _ _ _ _
  · rfl

theorem Quiet.putChan {β : Type} {g : State → β} (q : Quiet g) (s : State) (e c : Nat) (x : Chan) : g (s.putChan e c x) = g (s.setChan e c x) := by
  unfold State.putChan
  extract_lets t
  split
  · exact q.applyChan _ _
  · rfl

theorem State.putChan_eng (s : State) (e c : Nat) (x : Chan) : (s.putChan e c x).eng = (s.setChan e c x).eng := quiet_eng.putChan s e c x

theorem State.chan_of_eng {s t : State} (h : t.eng = s.eng) (e c : Nat) : t.chan e c = s.chan e c := by
  unfold State.chan
  rw [h]

@[simp] theorem State.putChan_chan (s : State) (e c : Nat) (x : Chan) : (s.putChan e c x).chan e c = x :=
  (State.chan_of_eng (s.putChan_eng e c x) e c).trans (State.setChan_chan s e c x)

theorem State.putChan_chan_ne (s : State) (x : Chan) {e c d : Nat} (h : d ≠ c) : (s.putChan e c x).chan e d = s.chan e d :=
  (State.chan_of_eng (s.putChan_eng e c x) e d).trans (NMap.get_set_ne _ _ _ (by omega))

theorem State.swapDone_eng (s : State) (e : Nat) : (s.swapDone e).eng = s.eng := by
  unfold State.swapDone
  split
  · exact (State.wr_eng _ _ _).trans (State.wr_eng _ _ _)
  · rfl

/-- A channel's pins follow it through the fields of the ports' pages only. -/
theorem State.applyDo_word (s : State) (p x : Nat) (b : Bool) {o : Nat} (h : o < 0xC0000) : (s.applyDo p x b).word o = s.word o := by
  have hu : (s.unlatch p x).word o = s.word o := by
    unfold State.unlatch
    split
    · refine (State.word_of_regs (State.refreshPort_regs _ _) _).trans (State.word_setWord_ne _ _ ?_)
      show o ≠ 0xc0064 + 0x400 * p
      omega
    · rfl
  unfold State.applyDo
  split
  · rfl
  · split
    · rfl
    · exact hu

theorem State.applyChan_word (s : State) (p : Nat) {o : Nat} (h : o < 0xC0000) : (s.applyChan p).word o = s.word o := by
  unfold State.applyChan
  extract_lets y live lv t
  have ht : t.word o = s.word o := by
    refine Quiet.foldl (g := fun u : State => u.word o) _ (fun u x => ?_) _ _
    split
    · rfl
    · split
      · exact State.applyDo_word _ _ _ _ h
      · rfl
  refine (Quiet.foldl (g := fun u : State => u.word o) _ (fun u i => ?_) _ _).trans ht
  split
  · split
    · split <;> rfl
    · rfl
  · rfl

theorem State.putChan_rd (s : State) (e c : Nat) (x : Chan) {f : Fld} (h : f.off < 0xC0000) : (s.putChan e c x).rd f = s.rd f := by
  have hw : (s.putChan e c x).word f.off = s.word f.off := by
    unfold State.putChan
    extract_lets t
    split
    · exact State.applyChan_word t _ h
    · rfl
  unfold State.rd
  rw [hw]

theorem State.putChan_flag (s : State) (e c : Nat) (x : Chan) {f : Fld} (h : f.off < 0xC0000) : (s.putChan e c x).flag f = s.flag f := by
  unfold State.flag
  rw [State.putChan_rd s e c x h]

theorem State.finishInsn_next {s : State} {e c w pc : Nat} {r : BRes} (hj : r.jumped = false) (hw : pc ≠ s.rd (R.ENG_CH_PROG_WRAP_TOP e c r.x.bank)) :
    (s.finishInsn e c w pc r).chan e c = { r.x with st := chRun, delay := delayOf w, pc := (pc + 1) % 1024 } := by
  unfold State.finishInsn
  extract_lets w0 x y
  have hy : y = { x with pc := (pc + 1) % 1024 } := (if_neg (Bool.eq_false_iff.mp hj)).trans (if_neg hw)
  rw [State.chan_of_eng (State.swapDone_eng _ _), State.putChan_chan, hy]

theorem State.finishInsn_wraps {s : State} {e c w pc : Nat} {r : BRes} (hj : r.jumped = false) (hw : pc = s.rd (R.ENG_CH_PROG_WRAP_TOP e c r.x.bank))
    (hp : r.x.pend = false) : (s.finishInsn e c w pc r).chan e c =
      { r.x with st := chRun, delay := delayOf w, pc := s.rd (R.ENG_CH_PROG_WRAP_BOT e c r.x.bank) } := by
  unfold State.finishInsn
  extract_lets w0 x y
  have hy : y = { x with pc := s.rd (R.ENG_CH_PROG_WRAP_BOT e c x.bank) } :=
    (if_neg (Bool.eq_false_iff.mp hj)).trans ((if_pos hw).trans (if_neg (Bool.eq_false_iff.mp hp)))
  rw [State.chan_of_eng (State.swapDone_eng _ _), State.putChan_chan, hy]

/-! ### A slot without an instruction -/

section
variable {s : State} {e c op : Nat} {f : State → Nat → Chan → BRes}

theorem State.chanCycle_idle (ha : (16 * e + c) ∉ s.eng.asked) (hst : (s.chan e c).st ≠ chRun) : s.chanCycle e c op f = s := by
  unfold State.chanCycle
  rw [State.slotStart_unasked ha]
  exact if_pos (.inl hst)

theorem State.chanCycle_delay (ha : (16 * e + c) ∉ s.eng.asked) (hst : (s.chan e c).st = chRun) (hs : s.slots e c ≠ 0)
    (ho : s.flag R.PWR_STAT_ON_OSC = false) (hd : (s.chan e c).delay ≠ 0) :
    s.chanCycle e c op f = s.putChan e c { s.chan e c with delay := (s.chan e c).delay - 1 } := by
  unfold State.chanCycle
  rw [State.slotStart_unasked ha]
  exact (if_neg (State.granted hst hs (.inl ho))).trans (if_pos hd)

theorem State.chanCycle_bad (ha : (16 * e + c) ∉ s.eng.asked) (hst : (s.chan e c).st = chRun) (hs : s.slots e c ≠ 0)
    (ho : s.flag R.PWR_STAT_ON_OSC = false) (hd : (s.chan e c).delay = 0) (hb : badInsn (s.progWord e (s.chan e c).bank (s.chan e c).pc) = true) :
    s.chanCycle e c op f =
      (((s.wr (R.ENG_CH_ERR_BAD_INSN e c) 1).wr (R.ENG_CH_ERR_BAD_PC e c) (s.chan e c).pc).haltChan e c).raise (21 + e) .U := by
  unfold State.chanCycle
  rw [State.slotStart_unasked ha]
  exact (if_neg (State.granted hst hs (.inl ho))).trans ((if_neg (not_not.mpr hd)).trans (if_pos hb))

theorem State.chanCycle_other {w op' : Nat} (h : s.fetches e c op' w) (hop : op' ≠ op) : s.chanCycle e c op f = s := by
  obtain ⟨ha, hst, hs, ho, hd, hw, hb, hop'⟩ := h
  unfold State.chanCycle
  rw [State.slotStart_unasked ha]
  refine (if_neg (State.granted hst hs ho)).trans ((if_neg (not_not.mpr hd)).trans ?_)
  rw [hw]
  exact (if_neg (Bool.eq_false_iff.mp hb)).trans (if_pos (by rw [hop']; exact hop))

/-- A start that waited takes place with the slot, and waits no longer. -/
theorem State.startChan_unasked (he : s.flag (R.ENG_CH_CFG_EN e c) = true) (hs : s.slots e c ≠ 0) :
    (16 * e + c) ∉ (s.startChan e c).eng.asked := by
  have h : s.startChan e c = _ := (if_neg (not_not.mpr he)).trans (if_neg hs)
  rw [h, State.putChan_eng]
  exact not_mem_filter_ne _ _

theorem State.chanCycle_asked (ha : (16 * e + c) ∈ s.eng.asked) (he : s.flag (R.ENG_CH_CFG_EN e c) = true) (hs : s.slots e c ≠ 0) :
    s.chanCycle e c op f = (s.startChan e c).chanCycle e c op f := by
  unfold State.chanCycle
  rw [State.slotStart_unasked (State.startChan_unasked he hs), show s.slotStart e c = s.startChan e c from if_pos ha]

end

theorem State.wrBit_flag_ne (s : State) {f g : Fld} (i : Nat) (b : Bool) (h : f.lo + f.width ≤ 32)
    (k : f.off ≠ g.off ∨ g.lo + g.width ≤ f.lo ∨ f.lo + f.width ≤ g.lo) : (s.wrBit f i b).flag g = s.flag g :=
  State.flag_wr_ne s _ h k

theorem chErr_off (e c : Fin 16) : 0xb0124 + 0x1000 * e.val + 0x40 * c.val < 0xC0000 := by omega

/-- Settles O53: each opcode's outcome is what a slot of its channel gives, or its stall. -/
theorem briarInstructions : Obligations.BriarInstructions := by
  unfold Obligations.BriarInstructions
  refine ⟨?_, ?_, ?_, ?_, ?_, ?_, ?_, ?_, ?_, ?_, ?_, ?_, ?_, ?_, ?_, ?_, ?_, ?_, ?_, ?_, ?_, ?_, ?_, ?_, ?_, ?_, ?_, ?_, ?_, ?_, ?_, ?_, ?_, ?_, ?_,
    ?_, ?_, ?_, ?_⟩
  · exact fun e c lv w s hf h => congrArg Host.Outcome.next (State.chanCycle_done hf (State.bJmp_always h))
  · exact fun e c lv w s hf h hy hx => congrArg Host.Outcome.next (State.chanCycle_done hf (State.bJmp_zero h hy ((s.sided_x e c w).trans hx)))
  · exact fun e c lv w s hf h hy hx =>
      congrArg Host.Outcome.next (State.chanCycle_done hf (State.bJmp_notZero h hy (by rw [s.sided_x]; exact hx)))
  · intro e c lv w s hf h hy h1 h2
    rw [← s.sided_x e c w] at h1 h2 ⊢
    exact congrArg Host.Outcome.next (State.chanCycle_done hf (State.bJmp_counts h hy h1 h2))
  · exact fun e c lv w s hf h hp => congrArg Host.Outcome.next (State.chanCycle_done hf ((State.bJmp_pin h).trans (if_pos hp)))
  · exact fun e c lv w s hf h hp =>
      congrArg Host.Outcome.next (State.chanCycle_done hf ((State.bJmp_pin h).trans (if_neg (Bool.eq_false_iff.mp hp))))
  · exact fun e c lv w s hf h hp =>
      congrArg Host.Outcome.next (State.chanCycle_stalls hf ((State.bWait_pin h).trans (by rw [bne_iff_ne.mpr hp])))
  · exact fun e c lv w s hf h hp => congrArg Host.Outcome.next (State.chanCycle_done hf ((State.bWait_pin h).trans (by rw [hp, bne_self_eq_false])))
  · intro e c lv w s hf h hp hl hc
    rw [← s.sided_flags e c w] at hl ⊢
    exact congrArg Host.Outcome.next (State.chanCycle_done hf (State.bWait_flag h hp hl hc))
  · exact fun e c lv w s hf h => congrArg Host.Outcome.next (State.chanCycle_stalls hf (State.bWait_irq h))
  · intro e c lv w s hf h hd ha
    rw [← s.sided_isr e c w, ← s.sided_x e c w, ← s.sided_isrCnt e c w]
    exact congrArg Host.Outcome.next (State.chanCycle_done hf (State.bIn_left h hd ha))
  · intro e c lv w s hf h hd ha
    rw [← s.sided_isr e c w, ← s.sided_isrCnt e c w]
    exact congrArg Host.Outcome.next (State.chanCycle_done hf (State.bIn_right h hd ha))
  · intro e c w s hf h hd ha
    rw [← s.sided_osr e c w, ← s.sided_osrCnt e c w]
    exact congrArg Host.Outcome.next (State.chanCycle_done hf (State.bOut_x h hd ha))
  · intro e c w s hf h hd ha
    rw [← s.sided_osr e c w, ← s.sided_osrCnt e c w]
    exact congrArg Host.Outcome.next (State.chanCycle_done hf (State.bOut_pc h hd ha))
  · intro e c w s hf h hr
    rw [← s.sided_rx e c w] at hr ⊢
    rw [← s.sided_isr e c w]
    exact congrArg Host.Outcome.next (State.chanCycle_done hf ((State.bPushInsn_always h).trans (State.bPush_room hr _)))
  · intro e c w s hf h hi
    rw [← s.sided_isrCnt e c w] at hi
    exact congrArg Host.Outcome.next (State.chanCycle_done hf (State.bPushInsn_below h hi))
  · intro e c w s hf h hb hr
    rw [← s.sided_rx e c w] at hr
    exact congrArg Host.Outcome.next (State.chanCycle_stalls hf ((State.bPushInsn_always h).trans ((State.bPush_full hr _).trans (if_pos hb))))
  · intro e c w s hf h hb hr
    rw [← s.sided_rx e c w] at hr
    exact congrArg Host.Outcome.next
      (State.chanCycle_done hf ((State.bPushInsn_always h).trans ((State.bPush_full hr _).trans (if_neg (Bool.eq_false_iff.mp hb)))))
  · intro e c w v r s hf h ht
    rw [← s.sided_tx e c w] at ht
    exact congrArg Host.Outcome.next (State.chanCycle_done hf ((State.bPullInsn_always h).trans (State.bPull_word ht _)))
  · intro e c w s hf h hb ht
    rw [← s.sided_tx e c w] at ht
    exact congrArg Host.Outcome.next (State.chanCycle_stalls hf ((State.bPullInsn_always h).trans ((State.bPull_empty ht _).trans (if_pos hb))))
  · intro e c w s hf h hb ht
    rw [← s.sided_tx e c w] at ht
    exact congrArg Host.Outcome.next
      (State.chanCycle_done hf ((State.bPullInsn_always h).trans ((State.bPull_empty ht _).trans (if_neg (Bool.eq_false_iff.mp hb)))))
  · intro e c lv w s hf h hv hs
    rw [← s.sided_y e c w]
    exact congrArg Host.Outcome.next (State.chanCycle_done hf (State.bMov_invert h hv hs))
  · intro e c lv w s hf h hv hs
    rw [← s.sided_osr e c w]
    exact congrArg Host.Outcome.next (State.chanCycle_done hf (State.bMov_isr h hv hs))
  · exact fun e c w s hf h => congrArg Host.Outcome.next (State.chanCycle_done hf (State.bSet_x h))
  · exact fun e c w s hf h => congrArg Host.Outcome.next (State.chanCycle_done hf (State.bSet_pins h))
  · intro e c w s hf h
    rw [← s.sided_flags e c w]
    exact congrArg Host.Outcome.next (State.chanCycle_done hf (State.bIrq_clear h))
  · intro e c w s hf h hv
    have hp : (s.wrBit (R.ENG_EVT_POSTED e) c true).flag (R.ENG_EVT_VEC_EN e) = false :=
      (State.wrBit_flag_ne _ _ _ (by show 0 + 16 ≤ 32; decide) (.inr (.inr (by show 0 + 16 ≤ 31; decide)))).trans hv
    rw [← s.sided_flags e c w]
    exact congrArg Host.Outcome.next (State.chanCycle_done hf (State.bIrq_post h hp))
  · exact fun e c w s hf h => congrArg Host.Outcome.next (State.chanCycle_done hf (State.bTimewait_disabled h))
  · exact fun e c w s hf h hm => congrArg Host.Outcome.next (State.chanCycle_stalls hf (State.bTimewait_grid h hm))
  · intro e c w s hf h hy
    rw [← s.sided_x e c w, ← s.sided_y e c w]
    exact congrArg Host.Outcome.next (State.chanCycle_done hf (State.bCnt_add h hy))
  · intro e c w s hf h hy
    rw [← s.sided_y e c w]
    exact congrArg Host.Outcome.next (State.chanCycle_done hf (State.bCnt_imm h hy))
  · exact fun e c w s hf => congrArg Host.Outcome.next (State.chanCycle_done hf rfl)
  · exact fun e c lv s hst hs ho hd ha => ⟨congrArg Host.Outcome.next (State.chanCycle_delay ha hst hs ho hd),
      congrArg Host.Outcome.next (State.chanCycle_delay ha hst hs ho hd)⟩
  · exact fun e c lv op w s hf => ⟨fun h => congrArg Host.Outcome.next (State.chanCycle_other hf h),
      fun h => congrArg Host.Outcome.next (State.chanCycle_other hf h), fun h => congrArg Host.Outcome.next (State.chanCycle_other hf h)⟩
  · exact fun e c w pc r s _ hj hw => State.finishInsn_next hj hw
  · exact fun e c w pc r s _ hj hw hp => State.finishInsn_wraps hj hw hp
  · intro e c s hst hs ho hd ha hb
    refine ⟨((s.wr (R.ENG_CH_ERR_BAD_INSN e c) 1).wr (R.ENG_CH_ERR_BAD_PC e c) (s.chan e c).pc).haltChan e c,
      congrArg Host.Outcome.next (State.chanCycle_bad ha hst hs ho hd hb), ?_, ?_⟩
    · rw [State.haltChan, State.putChan_chan]
    · rw [State.haltChan, State.putChan_flag _ _ _ _ (chErr_off e c),
        State.flag_wr_ne _ _ (by show 0 + 10 ≤ 32; decide) (.inr (.inr (by show 0 + 10 ≤ 28; decide))),
        State.flag_wr_same _ _ _ (by show 28 + 1 ≤ 32; decide)]
      rfl
  · exact fun e c lv s hst ha => ⟨congrArg Host.Outcome.next (State.chanCycle_idle ha hst), congrArg Host.Outcome.next (State.chanCycle_idle ha hst),
      congrArg Host.Outcome.next (State.chanCycle_idle ha hst)⟩
  · exact fun e c s ha he hs => congrArg Host.Outcome.next (State.chanCycle_asked ha he hs)

end Sys2Proof.Machine
end

section
/-!
PROOFS. Stalls, starts, halts and swaps of Briar channels.
-/

namespace Sys2Proof.Machine

/-! ### Stalled instructions -/

section
variable {s : State} {e c lv : Nat}

/-- What a stalled instruction gives when it is tried again. -/
def State.retried (s : State) (e c lv : Nat) : BRes :=
  match opcodeOf (s.chan e c).insn with
  | 1 => s.bWait e c lv (s.chan e c).insn true (s.chan e c)
  | 4 => s.bPushInsn e c (s.chan e c).insn (s.chan e c)
  | 5 => s.bPullInsn e c (s.chan e c).insn (s.chan e c)
  | 9 => s.bTimeAgain e c (s.chan e c).insn (s.chan e c)
  | _ => ⟨s, s.chan e c, false, false⟩

theorem State.resumeChan_stalled (hst : (s.chan e c).st = chStalled) (hs : s.slots e c ≠ 0) : s.resumeChan e c lv =
    if (s.retried e c lv).stall then s.putChan e c (s.chan e c)
    else s.finishInsn e c (s.chan e c).insn (s.chan e c).pc { s.retried e c lv with x := { (s.retried e c lv).x with insn := 0 } } := by
  unfold State.resumeChan
  exact if_neg (not_or.mpr ⟨not_not.mpr hst, hs⟩)

theorem State.resumeChan_goes {s' : State} {x : Chan} (hst : (s.chan e c).st = chStalled) (hs : s.slots e c ≠ 0)
    (hr : s.retried e c lv = ⟨s', x, false, false⟩) :
    s.resumeChan e c lv = s.finishInsn e c (s.chan e c).insn (s.chan e c).pc ⟨s', { x with insn := 0 }, false, false⟩ := by
  rw [State.resumeChan_stalled hst hs, hr]
  rfl

theorem State.resumeChan_stays {x : Chan} {s' : State} (hst : (s.chan e c).st = chStalled) (hs : s.slots e c ≠ 0)
    (hr : s.retried e c lv = ⟨s', x, false, true⟩) : s.resumeChan e c lv = s.putChan e c (s.chan e c) := by
  rw [State.resumeChan_stalled hst hs, hr]
  rfl

theorem State.retried_push (ho : opcodeOf (s.chan e c).insn = 4) (hb : bit (s.chan e c).insn 17 = false) :
    s.retried e c lv = s.bPush e c (s.chan e c) (bit (s.chan e c).insn 16) := by
  unfold State.retried
  rw [ho]
  exact State.bPushInsn_always hb

theorem State.retried_time (ho : opcodeOf (s.chan e c).insn = 9) : s.retried e c lv = s.bTimeAgain e c (s.chan e c).insn (s.chan e c) := by
  unfold State.retried
  rw [ho]
  rfl

end

theorem exec_stallResume (s : State) (e c lv : Fin 16) : exec (.channelStallResume e c lv) s = .next (s.resumeChan e c lv) := rfl

/-! ### Starts and halts of the channels of a mask -/

theorem maskChans_one : ∀ c : Fin 16, maskChans (BitVec.ofNat 16 (2 ^ c.val)).toNat = [c.val] := by decide

theorem State.engStop_one (s : State) (e c : Fin 16) (h : (s.chan e c).st ≠ chHalted) :
    exec (.engStop e (BitVec.ofNat 16 (2 ^ c.val))) s = .next ((s.askStart e c false).haltChan e c) := by
  show Host.Outcome.next (s.engStop e (BitVec.ofNat 16 (2 ^ c.val)).toNat) = _
  unfold State.engStop
  rw [maskChans_one]
  exact congrArg Host.Outcome.next (if_neg h)

theorem State.engRestart_one (s : State) (e c : Fin 16) : exec (.engRestart e (BitVec.ofNat 16 (2 ^ c.val))) s = .next (s.startChan e c) := by
  show Host.Outcome.next (s.engRestart e (BitVec.ofNat 16 (2 ^ c.val)).toNat) = _
  unfold State.engRestart
  rw [maskChans_one]
  rfl

/-- The channel as it starts, from Table 11-1. -/
def State.fresh (s : State) (e c : Nat) : Chan :=
  { st := chRun, pc := s.entry e c (s.startBank e c), bank := s.startBank e c, osrCnt := 32, pins := s.rd (R.ENG_CH_PINS_PINS_INIT e c)
    dirs := s.rd (R.ENG_CH_PINS_DIRS_INIT e c), pend := (s.chan e c).pend }

theorem State.startChan_starts {s : State} {e c : Nat} (he : s.flag (R.ENG_CH_CFG_EN e c) = true) (hs : s.slots e c ≠ 0) :
    s.startChan e c = (s.askStart e c false).putChan e c (s.fresh e c) :=
  (if_neg (not_not.mpr he)).trans (if_neg hs)

theorem State.startChan_waits {s : State} {e c : Nat} (he : s.flag (R.ENG_CH_CFG_EN e c) = true) (hs : s.slots e c = 0) :
    s.startChan e c = s.askStart e c true :=
  (if_neg (not_not.mpr he)).trans (if_pos hs)

theorem State.startChan_off {s : State} {e c : Nat} (he : s.flag (R.ENG_CH_CFG_EN e c) = false) : s.startChan e c = s :=
  if_pos (Bool.eq_false_iff.mp he)

/-- A fold over distinct keys of which one alone acts. -/
theorem foldl_once {f : State → Nat → State} {c : Nat} {l : List Nat} {s t : State} (hl : l.Nodup) (hc : c ∈ l)
    (h0 : ∀ d ∈ l, d ≠ c → f s d = s) (hst : f s c = t) (h1 : ∀ d ∈ l, d ≠ c → f t d = t) : l.foldl f s = t := by
  have rest : ∀ l : List Nat, (∀ d ∈ l, f t d = t) → l.foldl f t = t := by
    intro l
    induction l with
    | nil => exact fun _ => rfl
    | cons a l ih =>
      intro h
      rw [List.foldl_cons, h a List.mem_cons_self]
      exact ih fun d hd => h d (List.mem_cons_of_mem _ hd)
  induction l with
  | nil => cases hc
  | cons a l ih =>
    obtain ⟨ha, hl⟩ := List.nodup_cons.mp hl
    rw [List.foldl_cons]
    by_cases hac : a = c
    · subst hac
      rw [hst]
      exact rest l fun d hd => h1 d (List.mem_cons_of_mem _ hd) (fun k => ha (k ▸ hd))
    · rw [h0 a List.mem_cons_self hac]
      exact ih hl ((List.mem_cons.mp hc).resolve_left (Ne.symm hac)) (fun d hd => h0 d (List.mem_cons_of_mem _ hd))
        (fun d hd => h1 d (List.mem_cons_of_mem _ hd))

theorem filter_eq_one : ∀ c : Fin 16, (List.range 16).filter (· = c.val) = [c.val] := by decide

/-- The one channel of sixteen that meets a condition. -/
theorem filter_one {p : Nat → Bool} (c : Fin 16) (hc : p c = true) (hn : ∀ d : Fin 16, d ≠ c → p d = false) : (List.range 16).filter p = [c.val] := by
  have h : (List.range 16).filter p = (List.range 16).filter (· = c.val) := by
    refine List.filter_congr fun d hd => ?_
    have hd' : d < 16 := List.mem_range.mp hd
    by_cases hdc : d = c.val
    · subst hdc
      simpa using hc
    · have hpd : p d = false := hn ⟨d, hd'⟩ (fun k => hdc (congrArg Fin.val k))
      rw [hpd]
      simp [hdc]
  rw [h]
  exact filter_eq_one c

/-- T is written for one channel of an engine. -/
def State.armed (s : State) (e t c : Nat) : State :=
  s.setChan e c { s.chan e c with st := chWaitStart, startT := t, startTd := s.rd (R.ENG_START_CFG_TD e) }

theorem State.setChan_chan_ne (s : State) (x : Chan) {e c d : Nat} (h : d ≠ c) : (s.setChan e c x).chan e d = s.chan e d :=
  NMap.get_set_ne _ _ _ (by omega)

theorem bit_two_pow {c d : Nat} (h : d ≠ c) : bit (2 ^ c) d = false := by
  rw [bit_eq, Nat.testBit_two_pow_of_ne (Ne.symm h)]

theorem State.engStartT_one {s : State} {e t : Nat} {c : Fin 16} (hm : s.rd (R.ENG_START_CFG_MASK e) = 2 ^ c.val) (hst : (s.chan e c).st = chHalted)
    (he : s.flag (R.ENG_CH_CFG_EN e c) = true) (hw : ∀ d : Fin 16, (s.chan e d).st ≠ chWaitStart)
    (ht : nsCount (s.tdNow (s.rd (R.ENG_START_CFG_TD e))) ≤ t) : s.engStartT e t = s.armed e t c := by
  have hc : bit (s.rd (R.ENG_START_CFG_MASK e)) c = true := by
    rw [hm, bit_eq]
    exact Nat.testBit_two_pow_self
  have hne : ∀ d : Nat, d ∈ List.range 16 → d ≠ c.val →
      ¬ ((s.chan e d).st = chWaitStart ∨ (bit (s.rd (R.ENG_START_CFG_MASK e)) d ∧ (s.chan e d).st = chHalted ∧ s.flag (R.ENG_CH_CFG_EN e d))) := by
    rintro d hd hdc (h | ⟨h, -⟩)
    · exact hw ⟨d, List.mem_range.mp hd⟩ h
    · rw [hm, bit_two_pow hdc] at h
      exact Bool.false_ne_true h
  have hfc : (if (s.chan e c).st = chWaitStart ∨ (bit (s.rd (R.ENG_START_CFG_MASK e)) c ∧ (s.chan e c).st = chHalted ∧ s.flag
      (R.ENG_CH_CFG_EN e c)) then
      if t < nsCount (s.tdNow (s.rd (R.ENG_START_CFG_TD e))) then (s.wr (R.ENG_CH_ERR_TW_LATE e c) 1).startChan e c else s.armed e t c
      else s) = s.armed e t c :=
    (if_pos (.inr ⟨hc, hst, he⟩)).trans (if_neg (Nat.not_lt.mpr ht))
  unfold State.engStartT
  extract_lets td
  refine foldl_once (c := c) List.nodup_range (List.mem_range.mpr c.isLt) (fun d hd hdc => if_neg (hne d hd hdc)) hfc (fun d hd hdc => if_neg ?_)
  rw [show (s.armed e t c).chan e d = s.chan e d from State.setChan_chan_ne _ _ hdc]
  exact hne d hd hdc

/-- The time of a channel that waits has come. -/
def State.timeCome (s : State) (e c : Nat) : Bool := (s.chan e c).st = chWaitStart ∧ (s.chan e c).startT ≤ nsCount (s.tdNow (s.chan e c).startTd)

theorem exec_channelTimedStart (s : State) (e : Fin 16) :
    exec (.channelTimedStart e) s = .next (((List.range 16).filter (s.timeCome e)).foldl (fun s c => s.startChan e c) s) := rfl

/-- A channel moves to the other bank at the deadline. -/
def chanSwapped (x : Chan) (pc : Nat) : Chan :=
  { x with st := if chanLive x then chRun else x.st, delay := 0, insn := 0, isr := 0, isrCnt := 0, osr := 0, osrCnt := 32, bank := 1 - x.bank, pc :=
      pc
           pend := false }

theorem exec_swapDeadline {s : State} {e c : Fin 16} (h : (s.chan e c).pend = true) : exec (.swapDeadline e c) s =
    .next (((s.wr (R.ENG_CH_ERR_ABORTED_SHIFT e c) 1).putChan e c (chanSwapped (s.chan e c) (s.entry e c (1 - (s.chan e c).bank)))).swapDone e) :=
  if_neg (not_not.mpr h)

/-- What an ECC error leaves of the channel that it hits. -/
def State.eccHalted (s : State) (e c : Nat) : State :=
  ((s.wr (R.ENG_CH_ERR_ECC e c) 1).wr (R.ENG_CH_ERR_BAD_PC e c) (s.chan e c).pc).haltChan e c

theorem exec_eccHalts {s : State} {e c : Fin 16} {x : BriarError} (h : x = .fifo ∨ (x = .program ∧ chanLive (s.chan e c) = true)) :
    exec (.fifoEccError e c x) s = .next ((s.eccHalted e c).raise (21 + e) .U) := by
  obtain rfl | ⟨rfl, h⟩ := h
  · rfl
  · exact if_neg (not_not.mpr h)

theorem State.eccHalted_does (s : State) (e c : Fin 16) : (s.eccHalted e c).flag (R.ENG_CH_ERR_ECC e c) = true ∧
    (s.eccHalted e c).rd (R.ENG_CH_ERR_BAD_PC e c) = (s.chan e c).pc % 1024 := by
  have hw : (R.ENG_CH_ERR_BAD_PC e c).lo + (R.ENG_CH_ERR_BAD_PC e c).width ≤ 32 := by show 0 + 10 ≤ 32; decide
  unfold State.eccHalted State.haltChan
  rw [State.putChan_flag _ _ _ _ (chErr_off e c), State.putChan_rd _ _ _ _ (chErr_off e c),
    State.flag_wr_ne _ _ hw (.inr (.inr (by show 0 + 10 ≤ 27; decide))), State.flag_wr_same _ _ _ (by show 27 + 1 ≤ 32; decide),
    State.rd_wr_same _ _ _ hw]
  exact ⟨rfl, rfl⟩

theorem quiet_sw : Quiet State.sw := ⟨fun _ _ _ => rfl, fun _ _ _ => rfl, fun _ _ => rfl, fun _ _ => rfl⟩

theorem Fin.val_ne_val {n : Nat} {c d : Fin n} (h : d ≠ c) : d.val ≠ c.val := fun k => h (Fin.ext k)

/-- Settles O54: a stall goes on or stays, and a start, a halt and a swap change their own channel. -/
theorem briarChannels : Obligations.BriarChannels := by
  unfold Obligations.BriarChannels
  refine ⟨fun e c lv s hst hs ho hb hr => ?_, fun e c lv s hst hs ho hb hc hr => ?_, fun e c lv s hst hs ho => ⟨fun hd ht => ?_, fun hd ht => ?_,
      fun hd => ?_⟩,
    fun e c lv s h => ?_, fun e c s h => ?_, fun e c s he hs hp => ?_, fun e c s he hs => ?_, fun e c s he => ?_, fun e c v s hm hst he hw ht => ?_,
    fun e c s hst ht hw => ?_, fun e s h => ?_, fun e c s hp hst => ?_, fun e c s hp => ?_, fun e c s => rfl, fun e c x s hx => ?_, fun e c s h => ?_⟩
  · have hx := (State.retried_push (lv := lv) ho hb).trans (State.bPush_room hr _)
    rw [exec_stallResume, State.resumeChan_goes hst hs hx]
  · have hx := (State.retried_push (lv := lv) ho hb).trans ((State.bPush_full hr _).trans (if_pos hc))
    exact (exec_stallResume s e c lv).trans (congrArg Host.Outcome.next (State.resumeChan_stays hst hs hx))
  · have hx : s.retried e c lv = ⟨s, s.chan e c, false, false⟩ :=
      (State.retried_time ho).trans ((if_neg (not_not.mpr hd)).trans (by rw [decide_eq_false (Nat.not_lt.mpr ht)]))
    exact (exec_stallResume s e c lv).trans (congrArg Host.Outcome.next (State.resumeChan_goes hst hs hx))
  · have hx : s.retried e c lv = ⟨s, s.chan e c, false, true⟩ :=
      (State.retried_time ho).trans ((if_neg (not_not.mpr hd)).trans (by rw [decide_eq_true ht]))
    exact (exec_stallResume s e c lv).trans (congrArg Host.Outcome.next (State.resumeChan_stays hst hs hx))
  · have hx : s.retried e c lv = ⟨s.wr (R.ENG_CH_ERR_TW_LATE e c) 1, s.chan e c, false, false⟩ :=
      (State.retried_time ho).trans (if_pos (Bool.eq_false_iff.mp hd))
    refine ⟨s.wr (R.ENG_CH_ERR_TW_LATE e c) 1, (exec_stallResume s e c lv).trans (congrArg Host.Outcome.next (State.resumeChan_goes hst hs hx)), ?_,
      State.wr_eng _ _ _⟩
    rw [State.flag_wr_same _ _ _ (by show 26 + 1 ≤ 32; decide)]
    rfl
  · exact congrArg Host.Outcome.next (if_pos h)
  · refine ⟨(s.askStart e c false).haltChan e c, State.engStop_one s e c h, ?_⟩
    unfold State.haltChan
    beta_reduce
    rw [State.putChan_chan, quiet_hif.putChan, quiet_sw.putChan]
    exact ⟨rfl, rfl, rfl, rfl, fun d hd => State.putChan_chan_ne _ _ (Fin.val_ne_val hd), rfl, rfl⟩
  · refine ⟨(s.askStart e c false).putChan e c (s.fresh e c), (State.engRestart_one s e c).trans (congrArg _ (State.startChan_starts he hs)), ?_⟩
    have hb : s.startBank e c = s.rd (R.ENG_STAT_ACTIVE_BANK e) := if_neg (fun k => Bool.eq_false_iff.mp hp k.1)
    beta_reduce
    rw [State.putChan_chan, ← hb]
    exact ⟨rfl, rfl, rfl, rfl, rfl, rfl, fun d hd => State.putChan_chan_ne _ _ (Fin.val_ne_val hd)⟩
  · exact (State.engRestart_one s e c).trans (congrArg _ (State.startChan_waits he hs))
  · exact (State.engRestart_one s e c).trans (congrArg _ (State.startChan_off he))
  · exact congrArg Host.Outcome.next (State.engStartT_one hm hst he hw ht)
  · rw [exec_channelTimedStart, filter_one c (decide_eq_true ⟨hst, ht⟩) fun d hd => decide_eq_false fun k => hw d hd k.1]
    rfl
  · have hf : (List.range 16).filter (s.timeCome e) = [] := by
      refine List.filter_eq_nil_iff.mpr fun d hd => ?_
      intro k
      obtain ⟨k1, k2⟩ := of_decide_eq_true k
      exact Nat.not_lt.mpr k2 (h ⟨d, List.mem_range.mp hd⟩ k1)
    rw [exec_channelTimedStart, hf]
    rfl
  · refine ⟨(s.wr (R.ENG_CH_ERR_ABORTED_SHIFT e c) 1).putChan e c (chanSwapped (s.chan e c) (s.entry e c (1 - (s.chan e c).bank))),
      exec_swapDeadline hp, ?_⟩
    beta_reduce
    rw [State.putChan_chan, State.putChan_flag _ _ _ _ (chErr_off e c), State.flag_wr_same _ _ _ (by show 29 + 1 ≤ 32; decide)]
    exact ⟨rfl, rfl, rfl, rfl, rfl, rfl⟩
  · exact if_pos (Bool.eq_false_iff.mp hp)
  · obtain ⟨ha, hb⟩ := s.eccHalted_does e c
    refine ⟨s.eccHalted e c, exec_eccHalts hx, ?_, ?_, ha, hb, fun d hd => ?_⟩
    · rw [State.eccHalted, State.haltChan, State.putChan_chan]
    · rw [State.eccHalted, State.haltChan, State.putChan_chan]
    · rw [State.eccHalted, State.haltChan, State.putChan_chan_ne _ _ (Fin.val_ne_val hd), State.wr_chan, State.wr_chan]
  · exact if_pos (Bool.eq_false_iff.mp h)

end Sys2Proof.Machine
end

section
/-!
PROOFS. Commands on a time domain (O40): a step keeps the value that it gives the domain, whatever it passes; a snapshot writes each domain
into words of its own.
-/
namespace Sys2Proof.Machine

/-! ### A jump leaves the domain where it puts it -/

theorem State.domain_of_td {s t : State} (h : t.td = s.td) (d : Nat) : t.domain d = s.domain d := by
  unfold State.domain
  rw [h]

theorem State.stepWaits_td (s : State) (d old t : Nat) : (s.stepWaits d old t).td = s.td := by
  unfold State.stepWaits
  refine List.foldlRecOn (motive := fun (u : State) => u.td = s.td) s.eng.chans _ rfl fun (u : State) hu kx _ => ?_
  obtain ⟨k, x⟩ := kx
  dsimp only
  split
  · exact hu
  · split
    · split
      · exact (State.setChan_td _ _ _ _).trans hu
      · exact hu
    · split
      · exact (State.wr_td _ _ _).trans hu
      · exact hu

theorem State.passCycles_td (s : State) (d old t : Nat) : (s.passCycles d old t).td = s.td := by
  unfold State.passCycles
  refine List.foldlRecOn (motive := fun (u : State) => u.td = s.td) [0, 1] _ rfl fun (u : State) hu n _ => ?_
  dsimp only
  split <;> exact hu

theorem State.fireEdge_td (s : State) (c : Nat) (e : Edge) : (s.fireEdge c e).td = s.td := quiet_td.applyDo s _ _ _

/-- The state with the scheduled edges of a pin replaced. -/
def State.setEdges (s : State) (c : Nat) (r : List Edge) : State :=
  { s with td := { s.td with edges := NMap.set (fun _ => []) s.td.edges c r } }

theorem State.lateEdges_td (s : State) (c : Nat) (es : List Edge) :
    (es.foldl (fun s e => (s.fireEdge c e).inc R.TD_EDGE_CNT_LATE) s).td = s.td :=
  List.foldlRecOn (motive := fun (u : State) => u.td = s.td) es _ rfl fun _ hu _ _ => (State.fireEdge_td _ _ _).trans hu

theorem State.passEdges_domain (s : State) (d t e : Nat) : (s.passEdges d t).domain e = s.domain e := by
  unfold State.passEdges
  refine List.foldlRecOn (motive := fun (u : State) => u.domain e = s.domain e) s.td.edges _ rfl fun (u : State) hu cx _ => ?_
  obtain ⟨c, es⟩ := cx
  exact (State.domain_of_td (State.lateEdges_td (u.setEdges c _) c _) e).trans hu

theorem State.jumpTo_domain (s : State) (d t : Nat) : (s.jumpTo d t).domain d = { s.domain d with base := t, at_ := s.now } := by
  unfold State.jumpTo
  extract_lets old src s1 src2 s2 s3 s4
  have h1 : s1.domain d = { s.domain d with base := t, at_ := s.now } := State.setDomain_domain s d _
  have h2 : s2.domain d = s1.domain d := by
    show (if d = 0 then _ else s1).domain d = _
    split <;> rfl
  have h3 : s3.domain d = s2.domain d := by
    show (if d < 8 then _ else s2).domain d = _
    split
    · exact State.domain_of_td (State.stepWaits_td _ _ _ _) d
    · rfl
  have h4 : s4.domain d = s3.domain d := by
    show (if old < t then _ else s3).domain d = _
    split
    · exact State.domain_of_td (State.passCycles_td _ _ _ _) d
    · rfl
  have h5 : (if d < 8 ∧ old < t then (s4.passEdges d (nsCount t)).passTimed d t else s4).domain d = s4.domain d := by
    split
    · exact State.passEdges_domain s4 d _ d
    · rfl
  rw [h5, h4, h3, h2, h1]

/-! ### A snapshot -/

theorem State.words_of_word {s t : State} {off : Nat} (n : Nat) (h : ∀ o, off ≤ o → o < off + 4 * n → t.word o = s.word o) :
    t.words off n = s.words off n := by
  induction n generalizing off with
  | zero => rfl
  | succ n ih =>
    show t.word off + 2 ^ 32 * t.words (off + 4) n = s.word off + 2 ^ 32 * s.words (off + 4) n
    rw [h off (Nat.le_refl _) (by omega), ih fun o h1 h2 => h o (by omega) (by omega)]

theorem State.words_setWords_same (s : State) (off n : Nat) {v : Nat} (hv : v < 2 ^ (32 * n)) : (s.setWords off n v).words off n = v := by
  induction n generalizing s off v with
  | zero => exact (Nat.lt_one_iff.1 hv).symm
  | succ n ih =>
    have hq : v / 2 ^ 32 < 2 ^ (32 * n) := Nat.div_lt_of_lt_mul (by rwa [← Nat.pow_add, Nat.add_comm])
    show ((s.setWord off (v % 2 ^ 32)).setWords (off + 4) n (v / 2 ^ 32)).word off +
      2 ^ 32 * ((s.setWord off (v % 2 ^ 32)).setWords (off + 4) n (v / 2 ^ 32)).words (off + 4) n = v
    rw [ih _ _ hq, State.word_setWords_ne _ _ (.inl (by omega)), State.word_setWord_same, Nat.mod_mod, Nat.mod_add_div]

theorem timeEnc_lt (u : Nat) : timeEnc u < 2 ^ (32 * 3) := by
  unfold timeEnc
  have h1 : u % 65536 < 65536 := Nat.mod_lt _ (by decide)
  have h2 : u / 65536 % 1000000000 < 1000000000 := Nat.mod_lt _ (by decide)
  have h3 : u / 65536 / 1000000000 % 2 ^ 48 < 2 ^ 48 := Nat.mod_lt _ (by decide)
  omega

/-- What the snapshot writes for one domain: its time, and its state behind it. -/
def State.snapOne (t : State) (d time st : Nat) : State := (t.setWords (0x40010 + 0x10 * d) 3 time).wr (R.TD_NOW_STATE d) st

theorem State.snapOne_same (t : State) (d st : Nat) {time : Nat} (h : time < 2 ^ (32 * 3)) :
    (t.snapOne d time st).words (0x40010 + 0x10 * d) 3 = time :=
  (State.words_of_word 3 fun o _ ho => State.word_wr_ne _ _ _ (by show o ≠ 0x4001c + 0x10 * d; omega)).trans (State.words_setWords_same t _ 3 h)

theorem State.snapOne_ne (t : State) {d e : Nat} (time st : Nat) (h : e ≠ d) :
    (t.snapOne e time st).words (0x40010 + 0x10 * d) 3 = t.words (0x40010 + 0x10 * d) 3 :=
  State.words_of_word 3 fun o h1 h2 => (State.word_wr_ne _ _ _ (by show o ≠ 0x4001c + 0x10 * e; omega)).trans
    (State.word_setWords_ne _ _ (by omega))

theorem State.snap_words (s : State) {d : Nat} (h : d < 8) : s.snap.words (0x40010 + 0x10 * d) 3 = s.tdEnc d :=
  foldl_at (g := fun t => t.words (0x40010 + 0x10 * d) 3) (h := fun _ => s.tdEnc d)
    (fun t e he => State.snapOne_ne t (s.tdEnc e) (s.domainSt e) he)
    (fun t => State.snapOne_same t d (s.domainSt d) (timeEnc_lt _)) List.nodup_range (List.mem_range.2 h) s

theorem edgeDue_answers (p : Fin 64) (x : Fin 4) (e : Edge) (r : List Edge) (s : State)
    (h : NMap.get (fun _ => []) s.td.edges (4 * p + x) = e :: r) :
    Machine.exec (.scheduledEdgeDue p x) s = .next ((s.setEdges (4 * p + x) r).fireEdge (4 * p + x) e) := by
  show Host.Outcome.next (s.edgeDue _) = _
  unfold State.edgeDue
  rw [h]
  rfl

theorem holdoverExpiry_answers (d : Fin 9) (s : State) (h : (s.domain d).st = dHoldover) :
    ∃ u : State, Machine.exec (.holdoverExpiry d) s = .next (u.raise 20 .U) ∧
      u.regs = s.regs ∧ (u.domain d).st = dFree ∧ ∀ e, e ≠ d.val → u.domain e = s.domain e := by
  have hx : Machine.exec (.holdoverExpiry d) s = .next ((if ¬ (s.setDomain d { s.domain d with st := dFree }).followsRing d ∧
      (s.setDomain d { s.domain d with st := dFree }).source d false = 1 then (s.setDomain d { s.domain d with st := dFree }).freeRun d
      else s.setDomain d { s.domain d with st := dFree }).raise 20 .U) := if_pos h
  rw [hx]
  refine ⟨_, rfl, ?_⟩
  have hd : ((s.setDomain d { s.domain d with st := dFree }).domain d).st = dFree := by rw [State.setDomain_domain]
  have he : ∀ e, e ≠ d.val → (s.setDomain d { s.domain d with st := dFree }).domain e = s.domain e := fun e h => State.setDomain_domain_ne s _ _ h
  split
  · refine ⟨rfl, ?_, fun e h => ?_⟩
    · unfold State.freeRun State.rebase
      rw [State.setDomain_domain]
      exact hd
    · unfold State.freeRun
      rw [State.setDomain_domain_ne _ _ _ h, he e h]
  · exact ⟨rfl, hd, he⟩

theorem slewRate_neg {o : Int} (h : o < 0) : slewRate o = -163840000 := if_pos h

theorem slewRate_pos {o : Int} (h : 0 < o) : slewRate o = 163840000 := by
  unfold slewRate
  rw [if_neg (by omega), if_pos h]

/-- Domain `d` under a SLEW of offset `o`. -/
def State.slewing (s : State) (d : Nat) (o : Int) : Domain :=
  { s.rebase d with rate := (s.domain d).rate - slewRate (s.domain d).slew + slewRate o, slew := o }

/-- Domain `d` at the end of its SLEW. -/
def State.slewEnded (s : State) (d : Nat) : Domain := { s.rebase d with rate := (s.domain d).rate - slewRate (s.domain d).slew, slew := 0 }

theorem slew_answers (d : Fin 8) (s : State) (h : s.tdAccepts d = true) :
    Machine.exec (.tdCmdSlew d) s = .next (s.setDomain d (s.slewing d (s.tdSetOfs d))) := by
  show Host.Outcome.next (s.tdSlew d) = _
  unfold State.tdSlew
  rw [if_neg (not_not_intro h)]
  rfl

theorem tdSet_domain (d : Fin 8) (s : State) (h : s.tdAccepts d = true) (hg : badTime (s.words (0x40120 + 0x40 * d) 3) = false) :
    ((s.tdSet d).domain d).base = timeDec (s.words (0x40120 + 0x40 * d) 3) ∧ ((s.tdSet d).domain d).at_ = s.now := by
  have hj := State.jumpTo_domain s d (timeDec (s.words (0x40120 + 0x40 * d) 3))
  unfold State.tdSet
  rw [if_neg (not_not_intro h)]
  extract_lets v s1 s2 src
  have h1 : s1 = s := if_neg (Bool.eq_false_iff.mp hg)
  have h2 : s2.domain d = { s.domain d with base := timeDec (s.words (0x40120 + 0x40 * d) 3), at_ := s.now } := by
    show ((s1.jumpTo d _).inc _).domain d = _
    rw [h1]
    exact hj
  split
  · rw [State.setDomain_domain, show src = _ from h2]
    exact ⟨rfl, rfl⟩
  · rw [h2]
    exact ⟨rfl, rfl⟩

/-- What DOMAIN_SAMPLE does for one source of a domain that follows domain `f`. -/
def State.sampleOne (s : State) (d f : Nat) (second : Bool) : State :=
  if s.source d second ≠ 7 ∨ s.followsRing d then s
  else if s.flag (R.TD_CFG_EN f) then s.sourceUpdate d second ((s.tdNow f : Int) - s.tdNow d)
  else s.setAvail d second false

theorem exec_domainSample (d : Fin 8) (s : State) : Machine.exec (.domainSample d) s =
    .next ((s.sampleOne d (s.rd (R.TD_CFG_FOLLOW d)) false).sampleOne d (s.rd (R.TD_CFG_FOLLOW d)) true) := (rfl)

theorem sampleOne_skip {s : State} {d f : Nat} {second : Bool} (h : s.source d second ≠ 7 ∨ s.followsRing d = true) :
    s.sampleOne d f second = s := if_pos h

theorem sampleOne_updates {s : State} {d f : Nat} {second : Bool} (h : ¬ (s.source d second ≠ 7 ∨ s.followsRing d = true))
    (hf : s.flag (R.TD_CFG_EN f) = true) : s.sampleOne d f second = s.sourceUpdate d second ((s.tdNow f : Int) - s.tdNow d) :=
  (if_neg h).trans (if_pos hf)

/-- Settles O40: SET, STEP and SLEW move the domain that accepts them, and a snapshot copies every domain. -/
theorem domainCommands : Obligations.DomainCommands := by
  unfold Obligations.DomainCommands
  refine ⟨fun d s h hg => ⟨_, rfl, tdSet_domain d s h hg⟩, fun d s h => ?_, fun d s h ho => ?_, fun d s h ho => ?_, fun d s h => ?_,
    fun d s h => ?_, fun d s h1 h2 h3 h4 => ?_, fun d s h1 h2 => ?_,
    fun s => ⟨_, rfl, fun d => State.snap_words s d.isLt⟩, fun p x e r s h => ⟨_, edgeDue_answers p x e r s h, NMap.get_set_same _ _ _ _, rfl, rfl⟩,
    fun d s h => ?_, fun d s h => if_neg h⟩
  · refine ⟨s.jumpTo d ((s.tdNow d : Int) + s.tdSetOfs d).toNat, ?_, ?_⟩
    · show Host.Outcome.next (s.tdStep d) = _
      unfold State.tdStep State.stepDomain
      simp only [if_pos h, if_pos d.isLt]
    · beta_reduce
      rw [State.jumpTo_domain]
      exact ⟨rfl, rfl⟩
  · refine ⟨s.setDomain d (s.slewing d (s.tdSetOfs d)), slew_answers d s h, ?_⟩
    beta_reduce
    rw [State.setDomain_domain]
    exact ⟨rfl, by unfold State.slewing; rw [slewRate_neg ho]; rfl, rfl, fun e he => State.setDomain_domain_ne s _ _ he, rfl⟩
  · refine ⟨s.setDomain d (s.slewing d (s.tdSetOfs d)), slew_answers d s h, ?_⟩
    beta_reduce
    rw [State.setDomain_domain]
    exact ⟨rfl, by unfold State.slewing; rw [slewRate_pos ho], rfl⟩
  · have hn : ¬ s.tdAccepts d = true := by rw [h]; decide
    exact ⟨congrArg Host.Outcome.next (if_pos hn), congrArg Host.Outcome.next (if_neg hn), congrArg Host.Outcome.next (if_pos hn)⟩
  · refine ⟨s.setDomain d (s.slewEnded d), if_neg h, ?_⟩
    beta_reduce
    rw [State.setDomain_domain]
    exact ⟨rfl, rfl, rfl, rfl, rfl⟩
  · rw [exec_domainSample, sampleOne_skip (.inl h1), sampleOne_updates (by rw [h3]; exact not_or.2 ⟨not_not_intro h2, Bool.false_ne_true⟩) h4]
  · rw [exec_domainSample, sampleOne_skip (.inl h1), sampleOne_skip (.inl h2)]
  · obtain ⟨u, hu, hr, hs, he⟩ := holdoverExpiry_answers d s h
    exact ⟨u, hu, hs, he, hr⟩

end Sys2Proof.Machine
end

section
/-!
PROOFS. Measurement channels (O46): their conditions, a visit of the background calibration, and a system calibration from its start to its end.
-/
namespace Sys2Proof.Machine

/-! ### Conditions -/

theorem measShort_fits (c : Nat) : (R.MEAS_STAT_SHORT c).lo + (R.MEAS_STAT_SHORT c).width ≤ 32 := by show 28 + 1 ≤ 32; decide

theorem measOpen_fits (c : Nat) : (R.MEAS_STAT_OPEN c).lo + (R.MEAS_STAT_OPEN c).width ≤ 32 := by show 29 + 1 ≤ 32; decide

theorem syscal_fits (c : Nat) : (R.MEAS_STAT_SYSCAL c).lo + (R.MEAS_STAT_SYSCAL c).width ≤ 32 := by show 27 + 1 ≤ 32; decide

theorem scalState_fits : R.MEAS_SCAL_STAT_STATE.lo + R.MEAS_SCAL_STAT_STATE.width ≤ 32 := by show 0 + 2 ≤ 32; decide

theorem bnat_flag (b : Bool) : decide (bnat b % 2 ^ 1 ≠ 0) = b := by cases b <;> rfl

/-- OPEN of channel `c` shows at the channel and at its port. -/
def State.showOpen (s : State) (c : Nat) (on : Bool) : State := (s.wr (R.MEAS_STAT_OPEN c) (bnat on)).wrBit (R.PORT_DIAG_OPEN (c / 4)) (c % 4) on

/-- SHORT of channel `c` shows at the channel and at its port. -/
def State.showShort (s : State) (c : Nat) (on : Bool) : State := (s.wr (R.MEAS_STAT_SHORT c) (bnat on)).wrBit (R.PORT_DIAG_SHORT (c / 4)) (c % 4) on

theorem State.showOpen_meas (s : State) (c : Nat) (on : Bool) : (s.showOpen c on).meas = s.meas := (quiet_meas.wrBit _ _ _ _).trans
  (quiet_meas.wr _ _ _)

theorem State.showOpen_does (s : State) {c : Nat} (hc : c < 256) (on : Bool) : (s.showOpen c on).flag (R.MEAS_STAT_OPEN c) = on ∧
    bit ((s.showOpen c on).rd (R.PORT_DIAG_OPEN (c / 4))) (c % 4) = on ∧ (s.showOpen c on).meas = s.meas := by
  refine ⟨?_, State.bit_wrBit_same _ _ _ _ (open_fits _) (Nat.mod_lt _ (by decide)), State.showOpen_meas s c on⟩
  unfold State.showOpen
  rw [State.wrBit_flag_ne _ _ _ (open_fits _) (.inl (by show 0xc0064 + 0x400 * (c / 4) ≠ 0xd0004 + 0x20 * c; omega)),
    State.flag_wr_same _ _ _ (measOpen_fits c)]
  exact bnat_flag on

theorem State.showShort_does (s : State) {c : Nat} (hc : c < 256) (on : Bool) : (s.showShort c on).flag (R.MEAS_STAT_SHORT c) = on ∧
    bit ((s.showShort c on).rd (R.PORT_DIAG_SHORT (c / 4))) (c % 4) = on := by
  refine ⟨?_, State.bit_wrBit_same _ _ _ _ (short_fits _) (Nat.mod_lt _ (by decide))⟩
  unfold State.showShort
  rw [State.wrBit_flag_ne _ _ _ (short_fits _) (.inl (by show 0xc0064 + 0x400 * (c / 4) ≠ 0xd0004 + 0x20 * c; omega)),
    State.flag_wr_same _ _ _ (measShort_fits c)]
  exact bnat_flag on

theorem exec_aiCondition_open (c : Fin 256) (on : Bool) (s : State) (hf : s.fn (c / 4) (c % 4) = fnAi) (hs : (on && s.standby) = false)
    (h : (s.isSense c = false ∧ (s.range c = 2 ∨ s.range c = 4)) ∨ (on = false ∧ s.flag (R.MEAS_STAT_OPEN c) = true)) :
    Machine.exec (.aiConditionDetect c false on) s = .next ((s.showOpen c on).refreshPort (c / 4)) := by
  show execAiConditionDetect c false on s = _
  unfold execAiConditionDetect
  extract_lets p x r has shown s1 s2
  have h1 : has = true ∨ shown := by
    rcases h with ⟨hi, hr⟩ | ⟨ho, hw⟩
    · exact .inl (decide_eq_true ⟨hf, Bool.eq_false_iff.mp hi, by omega⟩)
    · exact .inr ⟨hf, Bool.eq_false_iff.mp ho, hw⟩
  have h2 : ¬ (on = true ∧ s.standby = true) := fun h => by rw [h.1, h.2] at hs; exact absurd hs (by decide)
  rw [if_neg (not_or.mpr ⟨not_not_intro h1, not_or.mpr ⟨h2, fun h => Bool.false_ne_true h.1⟩⟩)]
  rfl

/-- The shunt of channel `c` opens, or closes. -/
def State.setShunt (s : State) (c : Nat) (on : Bool) : State := s.setMeasCh c { s.measCh c with shuntOpen := on }

theorem State.setShunt_rd (s : State) (c : Nat) (on : Bool) (f : Fld) : (s.setShunt c on).rd f = s.rd f := rfl

theorem State.setShunt_flag (s : State) (c : Nat) (on : Bool) (f : Fld) : (s.setShunt c on).flag f = s.flag f := rfl

theorem State.setShunt_shuntOpen (s : State) (c : Nat) (on : Bool) : ((s.setShunt c on).measCh c).shuntOpen = on :=
  congrArg MeasCh.shuntOpen (State.setMeasCh_measCh s c _)

theorem exec_aiCondition_i20Short (c : Fin 256) (s : State) (hf : s.fn (c / 4) (c % 4) = fnAi) (hi : s.isSense c = false) (hs : s.standby = false)
    (hr : s.range c = 2) :
    Machine.exec (.aiConditionDetect c true true) s = .next (((s.showShort c true).setShunt c true).refreshPort (c / 4)) := by
  show execAiConditionDetect c true true s = _
  unfold execAiConditionDetect
  extract_lets p x r has shown s1 src s2
  have h1 : has = true := decide_eq_true ⟨hf, Bool.eq_false_iff.mp hi, .inl hr⟩
  have h2 : s2 = (s.showShort c true).setShunt c true := if_pos ⟨rfl, rfl, hr⟩
  rw [if_neg (not_or.mpr ⟨not_not_intro (.inl h1), not_or.mpr ⟨fun h => Bool.eq_false_iff.mp hs h.2, fun h => h.2.1 rfl⟩⟩), h2]

theorem exec_aiCondition_none (c : Fin 256) (short on : Bool) (s : State)
    (hm : s.fn (c / 4) (c % 4) ≠ fnAi ∨ s.isSense c = true ∨ s.range c = 0 ∨ s.range c = 1 ∨ (on = true ∧ s.standby = true))
    (hw : s.fn (c / 4) (c % 4) ≠ fnAi ∨ on = true ∨ s.flag (if short then R.MEAS_STAT_SHORT c else R.MEAS_STAT_OPEN c) = false) :
    Machine.exec (.aiConditionDetect c short on) s = .next s := by
  show execAiConditionDetect c short on s = _
  unfold execAiConditionDetect
  extract_lets p x r has shown s1 s2
  have h2 : ¬ shown := fun ⟨h1, h2, h3⟩ => hw.elim (· h1) fun h => h.elim h2 fun h => Bool.eq_false_iff.mp h h3
  refine if_pos ?_
  by_cases hs : on = true ∧ s.standby = true
  · exact .inr (.inl hs)
  · refine .inl (not_or.mpr ⟨fun h => ?_, h2⟩)
    obtain ⟨hf, hi, hr⟩ := of_decide_eq_true h
    rcases hm with h | h | h | h | h
    · exact h hf
    · exact hi h
    · omega
    · omega
    · exact hs h

theorem exec_i20ShuntReclose (c : Fin 256) (s : State) (h : (s.measCh c).shuntOpen = true) :
    Machine.exec (.i20ShuntReclose c) s = .next (((s.setShunt c false).showShort c false).refreshPort (c / 4)) := if_neg (not_not_intro h)

theorem State.showShort_measCh (s : State) (c : Nat) (on : Bool) (d : Nat) : (s.showShort c on).measCh d = s.measCh d := by
  have hm : (s.showShort c on).meas = s.meas := (quiet_meas.wrBit _ _ _ _).trans (quiet_meas.wr _ _ _)
  unfold State.measCh
  rw [hm]

/-! ### Calibration -/

/-- The next coefficients of channel `c` stand ready. -/
def State.visited (s : State) (c : Nat) (x : Nat × Nat) : State := s.setMeasCh c { s.measCh c with next := some x }

theorem State.visited_measCh (s : State) (c : Nat) (x : Nat × Nat) : (s.visited c x).measCh c = { s.measCh c with next := some x } :=
  State.setMeasCh_measCh s c _

theorem exec_bgCalVisit_near (c : Fin 256) (g o : BitVec 64) (s : State) (he : s.flag (R.MEAS_CFG_BG_EN (s.cfgOf c)) = true)
    (hf : s.fn (c / 4) (c % 4) = fnAi) (hg : f64Far g.toNat (s.measCh c).gain (f64rat 5 1000) = false)
    (ho : f64Far o.toNat (s.measCh c).ofs (f64.mul (s.fullScale c) (f64rat 5 1000)) = false) :
    ∃ x, Machine.exec (.bgCalVisit c g o) s = .next (((s.visited c x).wr (R.MEAS_STAT_CAL_FAULT c) 0).refreshPort (c / 4)) := by
  refine ⟨(moveBy (s.measCh c).gain g.toNat (f64rat 20 1000000), moveBy (s.measCh c).ofs o.toNat (f64.mul (s.fullScale c) (f64rat 20 1000000))), ?_⟩
  show execBgCalVisit c g o s = _
  unfold execBgCalVisit
  extract_lets f m fs far next
  have h1 : far = false := by
    show (f64Far g.toNat (s.measCh c).gain _ || f64Far o.toNat (s.measCh c).ofs _) = false
    rw [hg, ho]
    rfl
  rw [if_neg (not_or.mpr ⟨not_not_intro he, not_not_intro (.inl hf)⟩), h1]
  rfl

/-- The command in progress. -/
def State.setScal (s : State) (x : Option (Nat × Nat)) : State := { s with meas := { s.meas with scal := x } }

theorem State.setScal_rd (s : State) (x : Option (Nat × Nat)) (f : Fld) : (s.setScal x).rd f = s.rd f := rfl

/-- A system calibration of channel `c` begins. -/
def State.scalBusy (s : State) (c op : Nat) : State := ((s.wr R.MEAS_SCAL_STAT_STATE 1).wr (R.MEAS_STAT_SYSCAL c) 1).setScal (some (c, op))

theorem State.scalBusy_does (s : State) {c : Nat} (hc : c < 256) (op : Nat) : (s.scalBusy c op).meas.scal = some (c, op) ∧
    (s.scalBusy c op).rd R.MEAS_SCAL_STAT_STATE = 1 ∧ (s.scalBusy c op).flag (R.MEAS_STAT_SYSCAL c) = true := by
  refine ⟨rfl, ?_, ?_⟩
  · rw [State.scalBusy, State.setScal_rd, State.rd_wr_ne _ _ (syscal_fits c) (.inl (by show 0xd0004 + 0x20 * c ≠ 0xd220c; omega)),
      State.rd_wr_same _ _ _ scalState_fits]
    decide
  · rw [State.scalBusy, State.flag, State.setScal_rd, State.rd_wr_same _ _ _ (syscal_fits c)]
    rfl

/-- A point that a calibration takes from its channel. -/
def State.unready (s : State) (n : Nat) : State := s.setPoint n { s.point n with notReady := true, fresh := none }

theorem scalStart_does (s : State) {c : Nat} (hc : c < 256) (op : Nat) (h : s.rd R.MEAS_SCAL_STAT_STATE ≠ 1) :
    (s.scalStart c op).meas.scal = some (c, op) ∧ (s.scalStart c op).rd R.MEAS_SCAL_STAT_STATE = 1 ∧
      (s.scalStart c op).flag (R.MEAS_STAT_SYSCAL c) = true := by
  obtain ⟨l, hl⟩ : ∃ l : List Nat, s.scalStart c op =
      l.foldl State.unready (s.scalBusy c op) := ⟨_, if_neg h⟩
  have hr : (s.scalStart c op).regs = (s.scalBusy c op).regs := by
    rw [hl]
    exact Quiet.foldl (g := State.regs) State.unready (fun _ _ => rfl) _ _
  have hm : (s.scalStart c op).meas = (s.scalBusy c op).meas := by
    rw [hl]
    exact Quiet.foldl (g := State.meas) State.unready (fun _ _ => rfl) _ _
  obtain ⟨h1, h2, h3⟩ := State.scalBusy_does s hc op
  exact ⟨(congrArg MeasSt.scal hm).trans h1, (State.rd_of_regs hr _).trans h2, (State.flag_of_regs hr _).trans h3⟩

/-- The system calibration of channel `c` ends. -/
def State.scalFree (s : State) (c : Nat) : State := (s.setScal none).wr (R.MEAS_STAT_SYSCAL c) 0

theorem State.scalFree_rd (s : State) (c : Nat) {f : Fld} (h : 0xd0004 + 0x20 * c ≠ f.off ∨ f.lo + f.width ≤ 27) :
    (s.scalFree c).rd f = s.rd f :=
  (State.rd_wr_ne _ _ (syscal_fits c) (h.imp id .inl)).trans (State.setScal_rd s none f)

theorem State.scalFree_pwr (s : State) (c : Nat) : (s.scalFree c).pwr = s.pwr := State.wr_pwr _ _ _

/-- What says which function the pin of channel `c` has lies beside MEAS_STAT of the channel. -/
theorem State.scalFree_pins (s : State) (c : Nat) (f : Fld) (h : ofPins (c / 4) f) : (s.scalFree c).rd f = s.rd f :=
  State.scalFree_rd s c (h.imp (fun ⟨q, k, hq, hk, ho⟩ => by omega) (fun h => by omega))

theorem State.scalFree_fn (s : State) (c x : Nat) : (s.scalFree c).fn (c / 4) x = s.fn (c / 4) x :=
  State.fn_of (State.scalFree_pins s c) (State.scalFree_pwr s c) x

theorem State.scalFree_fnLoad (s : State) (c x : Nat) : (s.scalFree c).fnLoad (c / 4) x = s.fnLoad (c / 4) x :=
  State.fnLoad_of (State.scalFree_pins s c) x

section
variable (s : State) {c : Nat}

theorem State.scalFree_fourWire : (s.scalFree c).fourWire (c / 4) = s.fourWire (c / 4) := by
  simp only [State.fourWire, State.scalFree_fnLoad s,
    State.scalFree_rd s c (f := R.MEAS_CFG_RANGE (4 * (c / 4))) (.inr (by show 12 + 3 ≤ 27; decide)),
    State.scalFree_rd s c (f := R.MEAS_CFG_WIRE (4 * (c / 4))) (.inr (by show 24 + 2 ≤ 27; decide))]

theorem State.scalFree_threeWire (x : Nat) : (s.scalFree c).threeWire (c / 4) x = s.threeWire (c / 4) x := by
  simp only [State.threeWire, State.scalFree_fnLoad s,
    State.scalFree_rd s c (f := R.MEAS_CFG_RANGE (4 * (c / 4) + x)) (.inr (by show 12 + 3 ≤ 27; decide)),
    State.scalFree_rd s c (f := R.MEAS_CFG_WIRE (4 * (c / 4) + x)) (.inr (by show 24 + 2 ≤ 27; decide))]

theorem State.scalFree_wire (d : Nat) : (s.scalFree c).wire d = s.wire d := by
  simp only [State.wire, State.scalFree_rd s c (f := R.MEAS_CFG_WIRE d) (.inr (by show 24 + 2 ≤ 27; decide))]

section
variable {d : Nat} (hd : d / 4 = c / 4)
include hd

theorem State.scalFree_sensed : (s.scalFree c).sensed d = s.sensed d := by
  simp only [State.sensed, hd, State.scalFree_fourWire s, State.scalFree_threeWire s]

theorem State.scalFree_rtdOk : (s.scalFree c).rtdOk d = s.rtdOk d := by
  simp only [State.rtdOk, State.scalFree_sensed s hd, hd, State.scalFree_fnLoad s,
    State.scalFree_rd s c (f := R.MEAS_CFG_WIRE d) (.inr (by show 24 + 2 ≤ 27; decide))]

theorem State.scalFree_rangeSet : (s.scalFree c).rangeSet d = s.rangeSet d := by
  simp only [State.rangeSet, State.scalFree_rtdOk s hd, State.scalFree_rd s c (f := R.MEAS_CFG_RANGE d) (.inr (by show 12 + 3 ≤ 27; decide))]

theorem State.scalFree_senses : (s.scalFree c).senses d = s.senses d := by
  simp only [State.senses, State.scalFree_sensed s hd, hd, State.scalFree_fn s, State.scalFree_rangeSet s hd, State.scalFree_wire s]

end

theorem State.scalFree_cfgOf : (s.scalFree c).cfgOf c = s.cfgOf c := by
  unfold State.cfgOf
  refine congrArg (fun o : Option Nat => o.getD c) (List.find?_congr fun d hd => ?_)
  obtain ⟨x, hx, rfl⟩ := List.mem_map.mp hd
  have hx : x < 4 := List.mem_range.mp hx
  rw [State.scalFree_senses s (by omega : (4 * (c / 4) + x) / 4 = c / 4)]

theorem State.cfgOf_port : s.cfgOf c / 4 = c / 4 := by
  unfold State.cfgOf
  cases hf : ((List.range 4).map (4 * (c / 4) + ·)).find? fun d => c ∈ s.senses d with
  | none => rfl
  | some d =>
    obtain ⟨x, hx, rfl⟩ := List.mem_map.mp (List.mem_of_find?_eq_some hf)
    have hx : x < 4 := List.mem_range.mp hx
    show (4 * (c / 4) + x) / 4 = c / 4
    omega

theorem State.scalFree_range : (s.scalFree c).range c = s.range c := by
  simp only [State.range, State.scalFree_cfgOf s, State.scalFree_rangeSet s (State.cfgOf_port s), State.scalFree_fn s,
    State.scalFree_rd s c (f := R.MEAS_AO_RANGE (c / 4)) (.inr (by show 0 + 2 ≤ 27; decide))]

theorem State.scalFree_combine (v y z : Int) : (s.scalFree c).combineCodes c v y z = s.combineCodes c v y z := by
  simp only [State.combineCodes, State.scalFree_range s, State.scalFree_wire s]

theorem State.scalFree_xOf (v : Nat) : (s.scalFree c).xOf c v = s.xOf c v := by
  have hm : (s.scalFree c).measCh c = s.measCh c := State.wr_measCh _ _ _ _
  simp only [State.xOf, State.fullScale, hm, State.scalFree_range s, State.scalFree_wire s, State.scalFree_cfgOf s,
    State.scalFree_rd s c (f := R.MEAS_CFG_EXC (s.cfgOf c)) (.inr (by show 22 + 2 ≤ 27; decide)),
    State.scalFree_rd s c (f := R.MEAS_LEAD_LEAD c) (.inr (by show 0 + 16 ≤ 27; decide))]

theorem State.scalFree_ofsClamp (v : Nat) : (s.scalFree c).ofsClamp c v = s.ofsClamp c v := by
  simp only [State.ofsClamp, State.scalFree_rd s c (f := R.MEAS_CFG_EXC c) (.inr (by show 22 + 2 ≤ 27; decide)),
    State.scalFree_rd s c (f := R.MEAS_CFG_RANGE c) (.inr (by show 12 + 3 ≤ 27; decide))]

end

/-- A system calibration that ends with code `st` in STATE. -/
def State.scalEnded (s : State) (c st : Nat) : State := (s.scalFree c).wr R.MEAS_SCAL_STAT_STATE st

theorem State.scalEnded_state (s : State) (c : Nat) {st : Nat} (h : st < 4) : (s.scalEnded c st).rd R.MEAS_SCAL_STAT_STATE = st :=
  (State.rd_wr_same _ _ _ scalState_fits).trans (Nat.mod_eq_of_lt h)

/-- The offset `x` is stored. -/
def State.storeOfs (s : State) (c x : Nat) (fits : Bool) : State :=
  if fits then s.wr (R.MEAS_SYS_OFS_OFS c) x else (s.wr (R.MEAS_SYS_OFS_OFS c) x).inc R.MEAS_CLAMP_CNT_COUNT

theorem State.storeOfs_same (s : State) (c x : Nat) (fits : Bool) (hc : c < 256) : (s.storeOfs c x fits).rd (R.MEAS_SYS_OFS_OFS c) = x % 2 ^ 32 := by
  have hw : (s.wr (R.MEAS_SYS_OFS_OFS c) x).rd (R.MEAS_SYS_OFS_OFS c) = x % 2 ^ 32 := State.rd_wr_same _ _ _ (by show 0 + 32 ≤ 32; decide)
  unfold State.storeOfs
  split
  · exact hw
  · exact (State.rd_inc_ne _ _ (by show 0 + 16 ≤ 32; decide) (.inl (by show 0xd2210 ≠ 0xd000c + 0x20 * c; omega))).trans hw

theorem State.storeOfs_ne (s : State) (c x : Nat) (fits : Bool) {f : Fld} (h1 : 0xd000c + 0x20 * c ≠ f.off) (h2 : 0xd2210 ≠ f.off) :
    (s.storeOfs c x fits).rd f = s.rd f := by
  have hw : (s.wr (R.MEAS_SYS_OFS_OFS c) x).rd f = s.rd f := State.rd_wr_ne _ _ (by show 0 + 32 ≤ 32; decide) (.inl h1)
  unfold State.storeOfs
  split
  · exact hw
  · exact (State.rd_inc_ne _ _ (by show 0 + 16 ≤ 32; decide) (.inl h2)).trans hw

theorem State.storeOfs_meas (s : State) (c x : Nat) (fits : Bool) : (s.storeOfs c x fits).meas = s.meas := by
  unfold State.storeOfs
  split
  · exact quiet_meas.wr _ _ _
  · exact (quiet_meas.inc _ _ _).trans (quiet_meas.wr _ _ _)

/-- The offset that ZERO stores: the mean of x over the samples, within its range. -/
def State.zeroOf (s : State) (c : Nat) (codes : List (Int × Int × Int)) : Nat :=
  f64.conv f32 (s.xOf c (meanOf (codes.map fun v => s.combineCodes c (satCode v.1) (satCode v.2.1) (satCode v.2.2))))

theorem scalDone_zero (s : State) {c : Nat} (codes : List (Int × Int × Int)) (hm : s.meas.scal = some (c, 1))
    (hf : s.fn (c / 4) (c % 4) = fnAi) (hl : codes.length = 16) :
    s.scalDone codes = (s.scalEnded c 2).storeOfs c (s.ofsClamp c (s.zeroOf c codes)) (s.ofsClamp c (s.zeroOf c codes) = s.zeroOf c codes) := by
  have hz : (s.scalFree c).zeroOf c codes = s.zeroOf c codes := by
    simp only [State.zeroOf, State.scalFree_combine s, State.scalFree_xOf s]
  unfold State.scalDone
  rw [hm]
  dsimp only
  rw [if_neg (not_not_intro hl), if_pos (rfl : 1 = 1)]
  change (if (s.scalFree c).fn (c / 4) (c % 4) ≠ fnAi then s.scalEnded c 3 else
    if (s.scalFree c).ofsClamp c ((s.scalFree c).zeroOf c codes) = (s.scalFree c).zeroOf c codes then
      (s.scalEnded c 2).wr (R.MEAS_SYS_OFS_OFS c) ((s.scalFree c).ofsClamp c ((s.scalFree c).zeroOf c codes))
    else ((s.scalEnded c 2).wr (R.MEAS_SYS_OFS_OFS c) ((s.scalFree c).ofsClamp c ((s.scalFree c).zeroOf c codes))).inc R.MEAS_CLAMP_CNT_COUNT) = _
  rw [State.scalFree_fn s, if_neg (not_not_intro hf), hz, State.scalFree_ofsClamp]
  unfold State.storeOfs
  exact if_congr decide_eq_true_iff.symm rfl rfl

theorem scalDone_failed (s : State) {c op : Nat} (codes : List (Int × Int × Int)) (hm : s.meas.scal = some (c, op))
    (hf : s.fn (c / 4) (c % 4) ≠ fnAi) (hl : codes.length = 16) : s.scalDone codes = s.scalEnded c 3 := by
  unfold State.scalDone
  rw [hm]
  exact (if_neg (not_not_intro hl)).trans (if_pos (by rwa [← State.scalFree_fn s] at hf))

theorem State.scalEnded_scal (s : State) (c st : Nat) : (s.scalEnded c st).meas.scal = none :=
  congrArg MeasSt.scal ((quiet_meas.wr _ _ _).trans (quiet_meas.wr _ _ _))

/-- Settles O46: conditions, the background visit, and a system calibration from BUSY to its end. -/
theorem measurement : Obligations.Measurement := by
  unfold Obligations.Measurement
  refine ⟨fun c s hf hi hs hr => ?_, fun c on s hf hi hs hr => ?_, fun c s hf ho => ?_,
      fun c short on s hm hw => exec_aiCondition_none c short on s hm hw,
    fun c s h => ?_, fun c g o s he hf hg ho => ?_, fun c s h => ?_, fun c s h => ?_, fun c codes s hm hf hl => ?_, fun c op codes s hm hl hf => ?_⟩
  · obtain ⟨h1, h2⟩ := State.showShort_does s c.isLt true
    refine ⟨(s.showShort c true).setShunt c true, exec_aiCondition_i20Short c s hf hi hs hr, ?_, ?_, State.setShunt_shuntOpen _ _ _⟩
    · rw [State.setShunt_flag, h1]
    · rw [State.setShunt_rd, h2]
  · exact ⟨_, exec_aiCondition_open c on s hf hs (.inl ⟨hi, hr⟩), State.showOpen_does s c.isLt on⟩
  · exact ⟨_, exec_aiCondition_open c false s hf rfl (.inr ⟨rfl, ho⟩), State.showOpen_does s c.isLt false⟩
  · refine ⟨_, exec_i20ShuntReclose c s h, ?_, State.showShort_does _ c.isLt false⟩
    rw [State.showShort_measCh, State.setShunt_shuntOpen]
  · obtain ⟨x, hx⟩ := exec_bgCalVisit_near c g o s he hf hg ho
    refine ⟨_, hx, ?_, ?_, ?_⟩
    · rw [State.flag_wr_same _ _ _ (by show 31 + 1 ≤ 32; decide)]
      rfl
    · rw [State.wr_measCh, State.visited_measCh]
    · rw [State.wr_measCh, State.visited_measCh]
      rfl
  · exact ⟨⟨_, rfl, scalStart_does s c.isLt 1 h⟩, ⟨_, rfl, scalStart_does s c.isLt 2 h⟩⟩
  · exact ⟨congrArg Host.Outcome.next (if_pos h), congrArg Host.Outcome.next (if_pos h)⟩
  · refine ⟨(s.scalEnded c 2).storeOfs c (s.ofsClamp c (s.zeroOf c codes)) (s.ofsClamp c (s.zeroOf c codes) = s.zeroOf c codes),
      congrArg Host.Outcome.next (scalDone_zero s codes hm hf hl), ?_, ?_, ?_, State.storeOfs_same _ _ _ _ c.isLt⟩
    · rw [State.storeOfs_meas, State.scalEnded_scal]
    · rw [State.storeOfs_ne _ _ _ _ (by show 0xd000c + 0x20 * c.val ≠ 0xd220c; omega) (by decide), State.scalEnded_state _ _ (by decide)]
    · rw [State.flag, State.storeOfs_ne _ _ _ _ (by show 0xd000c + 0x20 * c.val ≠ 0xd0004 + 0x20 * c.val; omega)
        (by show 0xd2210 ≠ 0xd0004 + 0x20 * c.val; omega), State.scalEnded,
        State.rd_wr_ne _ _ scalState_fits (.inl (by show 0xd220c ≠ 0xd0004 + 0x20 * c.val; omega)), State.scalFree,
        State.rd_wr_same _ _ _ (syscal_fits c)]
      rfl
  · exact ⟨s.scalEnded c 3, congrArg Host.Outcome.next (scalDone_failed s codes hm hf hl), State.scalEnded_scal _ _ _,
      State.scalEnded_state _ _ (by decide)⟩

end Sys2Proof.Machine
end

section
/-!
PROOFS. PTP and PPS (O39): what the messages and the pulses do to their ports.
-/
namespace Sys2Proof.Machine

/-! ### The state of a PTP port -/

theorem State.setPtpPort_ptpPort (s : State) (j : Nat) (x : PtpPort) : (s.setPtpPort j x).ptpPort j = x := by
  unfold State.ptpPort State.setPtpPort
  dsimp only
  rw [NMap.get_set_same]

theorem State.setPtpPort_txStamp (s : State) (j : Nat) (x : PtpPort) (i : Nat) : (s.setPtpPort j x).txStamp i = s.txStamp i := (rfl)

theorem State.emit_ptpPort (s : State) (x : Emit) (j : Nat) : (s.emit x).ptpPort j = s.ptpPort j := (rfl)

theorem State.emit_txStamp (s : State) (x : Emit) (i : Nat) : (s.emit x).txStamp i = s.txStamp i := (rfl)

theorem State.ptpSent_ptpPort (s : State) (j : Nat) : (s.ptpSent j).ptpPort j = { s.ptpPort j with txStamp := s.txStamp (2 + j) } :=
  State.setPtpPort_ptpPort _ _ _

/-! ### Messages that go out -/

/-- The next sequence number of port `j` as a grandmaster. -/
def State.nextSeq (s : State) (j : Nat) : State := s.setPtpPort j { s.ptpPort j with seq := ((s.ptpPort j).seq + 1) % 65536 }

/-- The next sequence number of port `j` for its requests. -/
def State.nextDelaySeq (s : State) (j : Nat) : State := s.setPtpPort j { s.ptpPort j with delaySeq := ((s.ptpPort j).delaySeq + 1) % 65536 }

/-- What a message of port `j` with sequence number `n` begins with. -/
def State.ptpHead (s : State) (j n : Nat) : List Byte := leBytes 1 (s.rd (R.TD_PTP_DOMNUM j)) ++ leBytes 2 n

/-- Sync leaves the port and is stamped. -/
def State.syncSent (s : State) (j : Nat) : State :=
  ((s.nextSeq j).emit (.ethernet j "Sync" (s.ethTag j 7) (s.ptpHead j (s.ptpPort j).seq))).ptpSent j

/-- Follow_Up gives the instant at which Sync left. -/
def State.followUp (s : State) (j : Nat) : State := (s.syncSent j).emit (.ethernet j "Follow_Up" (s.ethTag j 7)
  (s.ptpHead j (s.ptpPort j).seq ++ leBytes 12 (timeEnc (s.tdStamp (s.rd (R.TD_PTP_MTD j)) (s.txStamp (2 + j))))))

theorem exec_sendSync (j : Fin 2) (s : State) (h : s.ptpOn j true = true) :
    Machine.exec (.ptpGrandmasterSend j false) s = .next (s.followUp j) := if_pos h

theorem exec_sendAnnounce (j : Fin 2) (s : State) (h : s.ptpOn j true = true) :
    Machine.exec (.ptpGrandmasterSend j true) s = .next ((s.nextSeq j).emit (.ethernet j "Announce" (s.ethTag j 7)
      (s.ptpHead j (s.ptpPort j).seq ++ [128, 128] ++ leBytes 1 ((s.nextSeq j).clockClass (s.rd (R.TD_PTP_MTD j)))))) := if_pos h

theorem State.syncSent_ptpPort (s : State) (j : Nat) : (s.syncSent j).ptpPort j =
    { s.ptpPort j with seq := ((s.ptpPort j).seq + 1) % 65536, txStamp := s.txStamp (2 + j) } := by
  unfold State.syncSent
  rw [State.ptpSent_ptpPort, State.emit_ptpPort, State.emit_txStamp, State.nextSeq, State.setPtpPort_ptpPort, State.setPtpPort_txStamp]

/-- A request for the delay, named `name`, leaves the port and is stamped. -/
def State.asksDelay (s : State) (j : Nat) (name : String) : State :=
  ((s.nextDelaySeq j).emit (.ethernet j name (s.ethTag j 7) (s.ptpHead j (s.ptpPort j).delaySeq))).ptpSent j

theorem State.asksDelay_ptpPort (s : State) (j : Nat) (name : String) : (s.asksDelay j name).ptpPort j =
    { s.ptpPort j with delaySeq := ((s.ptpPort j).delaySeq + 1) % 65536, txStamp := s.txStamp (2 + j) } := by
  unfold State.asksDelay
  rw [State.ptpSent_ptpPort, State.emit_ptpPort, State.emit_txStamp, State.nextDelaySeq, State.setPtpPort_ptpPort, State.setPtpPort_txStamp]

theorem State.asksDelay_emitted (s : State) (j : Nat) (name : String) :
    (s.asksDelay j name).emitted = s.emitted ++ [.ethernet j name (s.ethTag j 7) (s.ptpHead j (s.ptpPort j).delaySeq)] := (rfl)

theorem exec_delayReq (j : Fin 2) (s : State) (h : s.ptpOn j false = true ∨ (s.ptpOn j true = true ∧ s.rd (R.TD_PTP_PROFILE j) ≠ 0)) :
    Machine.exec (.ptpDelayReqTimer j) s = .next (s.asksDelay j (if s.rd (R.TD_PTP_PROFILE j) = 0 then "Delay_Req" else "Pdelay_Req")) :=
  if_pos h

/-! ### Messages that come in -/

/-- A message arrives at port `j` and is stamped. -/
def State.ptpArrived (s : State) (j : Nat) : State := s.setPtpPort j { s.ptpPort j with rxStamp := s.rxStamp (2 + j) }

theorem ptpIn_announce (j : Nat) (b : List Byte) (s : State) (hd : leAt b 4 1 = s.rd (R.TD_PTP_DOMNUM j)) (hm : leAt b 0 1 % 16 = 0xB)
    (ho : s.ptpOn j false = true) (hb : (s.ptpPort j).best = none) :
    s.ptpIn j b = (s.ptpArrived j).setPtpPort j { s.ptpPort j with rxStamp := s.rxStamp (2 + j), best := some (announceRank b),
                                                                   annEnd := s.ns + announceNs b } := by
  unfold State.ptpIn
  extract_lets t src x u msg head r src2
  have hn : u.ptpMaster j = none := by
    have hu : (u.ptpPort j).best = none := by rw [show u.ptpPort j = x from State.setPtpPort_ptpPort _ _ _]; exact hb
    unfold State.ptpMaster
    rw [hu]
    rfl
  have hd' : leAt b 4 1 = u.rd (R.TD_PTP_DOMNUM j) := hd
  have ho' : u.ptpOn j false = true := ho
  rw [if_neg (not_not_intro hd'), if_pos ⟨hm, ho'⟩, hn]
  rfl

theorem ptpIn_delayReq (j : Nat) (b : List Byte) (s : State) (hd : leAt b 4 1 = s.rd (R.TD_PTP_DOMNUM j)) (hm : leAt b 0 1 % 16 = 1)
    (ho : s.ptpOn j true = true) (hp : s.rd (R.TD_PTP_PROFILE j) = 0) :
    s.ptpIn j b = (s.ptpArrived j).emit (.ethernet j "Delay_Resp" (s.ethTag j 7) (leBytes 1 (s.rd (R.TD_PTP_DOMNUM j)) ++ slice b 30 2 ++
        leBytes 12 (timeEnc (s.tdStamp (s.rd (R.TD_PTP_MTD j)) (s.rxStamp (2 + j)))) ++ slice b 20 10)) := by
  unfold State.ptpIn
  extract_lets t src x u msg head r src2
  have hd' : leAt b 4 1 = u.rd (R.TD_PTP_DOMNUM j) := hd
  have hr' : u.ptpOn j true = true ∧ u.rd (R.TD_PTP_PROFILE j) = 0 := ⟨ho, hp⟩
  have hm' : ¬ (msg = 0xB ∧ u.ptpOn j false = true) := fun h => absurd (hm.symm.trans h.1) (by decide)
  rw [if_neg (not_not_intro hd'), if_neg hm', if_pos ⟨hm, hr'⟩]
  rfl

/-- The first edge on PPS_IN. -/
def State.ppsSeen (s : State) : State := { s with td := { s.td with ppsAt := some s.now, ppsOk := true } }

theorem exec_ppsEdge (rising : Bool) (s : State) (h1 : s.flag R.TD_PPS_IN_EN = true) (h2 : s.flag R.TD_PPS_IN_EDGE = !rising)
    (h3 : s.td.ppsAt = none) : Machine.exec (.ppsEdge rising) s =
      .next (s.ppsSeen.updateFrom 4 fun t d => toSecond (t.tdNow d - 65536 * t.rd R.TD_PPS_IN_DELAY)) :=
  if_pos ⟨h1, h2, by rw [h3]; exact Bool.false_ne_true⟩

/-- Settles O39: each message and each pulse at its port, by the role that the port has. -/
theorem ptpAndPps : Obligations.PtpAndPps := by
  unfold Obligations.PtpAndPps
  refine ⟨fun j x s h1 h2 => ⟨s.setPtpPort j { s.ptpPort j with avail := true }, if_pos ⟨h1, h2⟩, ?_, rfl, rfl⟩,
    fun j s h => ⟨s.setPtpPort j { s.ptpPort j with avail := false, best := s.ptpMaster j }, if_pos h, ?_, ?_, rfl, rfl⟩,
    fun j s h => ⟨_, exec_sendAnnounce j s h, ?_, rfl, _, rfl⟩, fun j s h => ⟨_, exec_sendSync j s h, ?_, ?_, s.ptpHead j (s.ptpPort j).seq, ?_⟩,
    fun j s h hp => ⟨s.asksDelay j "Delay_Req", ?_, ?_, ?_, _, State.asksDelay_emitted _ _ _⟩,
    fun j s h hp => ⟨s.asksDelay j "Pdelay_Req", ?_, _, State.asksDelay_emitted _ _ _⟩,
    fun j b s hd hm ho hb => ?_, fun j b s hd hm ho hp => ?_, fun rising s h1 h2 h3 => ⟨_, exec_ppsEdge rising s h1 h2 h3, rfl, rfl, rfl⟩,
    fun rising x s hx hn => ?_, fun s h => ⟨{ s with td := { s.td with ppsOk := false } }, if_pos h, rfl, rfl⟩,
    fun s h1 h2 => ⟨_, if_pos ⟨h1, h2⟩, rfl, rfl⟩, fun s => ⟨_, rfl, rfl, rfl, rfl⟩⟩
  · rw [State.setPtpPort_ptpPort]
  · rw [State.setPtpPort_ptpPort]
  · rw [State.setPtpPort_ptpPort]
  · show (PtpPort.seq ((State.emit _ _).ptpPort j)) = _
    rw [State.emit_ptpPort, State.nextSeq, State.setPtpPort_ptpPort]
  · show PtpPort.seq ((s.followUp j).ptpPort j) = _
    rw [State.followUp, State.emit_ptpPort, State.syncSent_ptpPort]
  · show PtpPort.txStamp ((s.followUp j).ptpPort j) = _
    rw [State.followUp, State.emit_ptpPort, State.syncSent_ptpPort]
  · exact List.append_assoc _ _ _
  · rw [exec_delayReq j s (.inl h), if_pos hp]
    rfl
  · rw [State.asksDelay_ptpPort]
  · rw [State.asksDelay_ptpPort]
  · rw [exec_delayReq j s (.inr ⟨h, hp⟩), if_neg hp]
    rfl
  · rw [ptpIn_announce j b s hd hm ho hb, State.setPtpPort_ptpPort]
    exact ⟨rfl, rfl⟩
  · rw [ptpIn_delayReq j b s hd hm ho hp]
    rfl
  · show execPpsEdge rising s = _
    unfold execPpsEdge
    rw [hx, Option.any_some, decide_eq_true hn, if_neg fun h => h.2.2 rfl]

end Sys2Proof.Machine
end

section
/-!
PROOFS. SYNC frames (O37): the paths that their receipt leaves, what the master sends, and what a follower does with what arrives.
-/
namespace Sys2Proof.Machine

/-! ### The paths -/

/-- The paths as they are kept. -/
def State.pathsOf (s : State) : NMap SyncPath := s.td.paths

theorem State.pathsOf_of_td {s t : State} (h : t.td = s.td) : t.pathsOf = s.pathsOf := congrArg TimeSt.paths h

theorem State.raise_pathsOf (s : State) (n : Nat) (c : FClass) (d : Nat) : (s.raise n c d).pathsOf = s.pathsOf :=
  congrArg (fun x : Deep => x.clocks.paths) (State.raise_deep s n c d)

theorem State.inc_pathsOf (s : State) (f : Fld) (k : Nat) : (s.inc f k).pathsOf = s.pathsOf := (rfl)

theorem State.passEdges_pathsOf (s : State) (d t : Nat) : (s.passEdges d t).pathsOf = s.pathsOf := by
  unfold State.passEdges
  refine List.foldlRecOn (motive := fun (u : State) => u.pathsOf = s.pathsOf) s.td.edges _ rfl fun (u : State) hu cx _ => ?_
  obtain ⟨c, es⟩ := cx
  exact (State.pathsOf_of_td (State.lateEdges_td (u.setEdges c _) c _)).trans hu

theorem State.jumpTo_pathsOf (s : State) (d t : Nat) : (s.jumpTo d t).pathsOf = s.pathsOf := by
  unfold State.jumpTo
  extract_lets old src s1 src2 s2 s3 s4
  have h2 : s2.pathsOf = s.pathsOf := by
    show (if d = 0 then _ else s1).pathsOf = _
    split <;> rfl
  have h3 : s3.pathsOf = s2.pathsOf := by
    show (if d < 8 then _ else s2).pathsOf = _
    split
    · exact State.pathsOf_of_td (State.stepWaits_td _ _ _ _)
    · rfl
  have h4 : s4.pathsOf = s3.pathsOf := by
    show (if old < t then _ else s3).pathsOf = _
    split
    · exact State.pathsOf_of_td (State.passCycles_td _ _ _ _)
    · rfl
  have h5 : (if d < 8 ∧ old < t then (s4.passEdges d (nsCount t)).passTimed d t else s4).pathsOf = s4.pathsOf := by
    split
    · exact State.passEdges_pathsOf s4 d _
    · rfl
  rw [h5, h4, h3, h2]

theorem State.stepDomain_pathsOf (s : State) (d : Nat) (ofs : Int) : (s.stepDomain d ofs).pathsOf = s.pathsOf := by
  unfold State.stepDomain
  extract_lets u
  rw [State.raise_pathsOf]
  split
  · exact (State.inc_pathsOf _ _ _).trans (State.jumpTo_pathsOf _ _ _)
  · exact State.jumpTo_pathsOf _ _ _

theorem State.renumber_td (s : State) (d : Nat) : (s.renumber d).td = s.td := by
  unfold State.renumber
  refine List.foldlRecOn (motive := fun (u : State) => u.td = s.td) [0, 1] _ rfl fun (u : State) hu n _ => ?_
  split <;> exact hu

theorem State.correct_pathsOf (s : State) (d : Nat) (ofs : Int) (first : Bool) : (s.correct d ofs first).pathsOf = s.pathsOf := by
  unfold State.correct
  extract_lets a was held run src u v w
  have hu : u.pathsOf = s.pathsOf := rfl
  have hv : v.pathsOf = s.pathsOf := (State.jumpTo_pathsOf _ _ _).trans hu
  have hw : w.pathsOf = s.pathsOf := (State.stepDomain_pathsOf _ _ _).trans hu
  split
  · exact hu
  · split
    · split
      · exact (State.pathsOf_of_td (State.renumber_td _ _)).trans hv
      · exact hv
    · split
      · exact hw
      · exact hu

theorem State.settleDomain_pathsOf (s : State) (d : Nat) : (s.settleDomain d).pathsOf = s.pathsOf := by
  unfold State.settleDomain
  extract_lets m want u
  split
  · rfl
  · split <;> rfl

theorem State.sourceUpdate_pathsOf (s : State) (d : Nat) (second : Bool) (ofs : Int) : (s.sourceUpdate d second ofs).pathsOf = s.pathsOf := by
  unfold State.sourceUpdate
  split
  · rfl
  · extract_lets m first m1 m2 u
    have hu : u.pathsOf = s.pathsOf := State.settleDomain_pathsOf _ _
    split
    · exact (State.correct_pathsOf _ _ _ _).trans hu
    · exact hu

theorem State.chooseRef_pathsOf (s : State) : s.chooseRef.pathsOf = s.pathsOf := by
  unfold State.chooseRef
  dsimp only
  repeat' split
  all_goals rfl

theorem State.choosePrimary_pathsOf (s : State) (n : Nat) : (s.choosePrimary n).pathsOf = s.pathsOf := by
  unfold State.choosePrimary
  extract_lets a b d set now
  have hu : ∀ (t : State) (p : Nat), (set t p).pathsOf = t.pathsOf := fun t p => by
    show (TimeSt.paths (if n = 0 then _ else _)) = _
    split <;> rfl
  split
  · split
    · exact hu s _
    · exact hu s _
  · rfl

theorem State.path_of {s t : State} (h : t.pathsOf = s.pathsOf) (n dir : Nat) : t.path n dir = s.path n dir :=
  congrArg (fun x : NMap SyncPath => NMap.get (fun _ => {}) x (2 * n + dir)) h

theorem State.setPath_path (s : State) (n dir : Nat) (x : SyncPath) : (s.setPath n dir x).path n dir = x := by
  unfold State.path State.setPath
  dsimp only
  rw [NMap.get_set_same]

theorem State.followSync_path (s : State) (n dir hops : Nat) (x : Int) (h : s.pwr.asleep = false) :
    (s.followSync n dir hops x).path n dir = ⟨true, hops, x - (s.tdNow (ringDomain n) : Int)⟩ := by
  unfold State.followSync
  extract_lets d ofs u
  rw [if_neg (Bool.eq_false_iff.mp h), State.path_of (State.chooseRef_pathsOf _), State.path_of (State.sourceUpdate_pathsOf _ _ _ _),
    State.path_of (State.choosePrimary_pathsOf _ _), State.setPath_path]

theorem State.losePath_path (s : State) (n dir : Nat) (h : s.followsRing (ringDomain n) = false) :
    (s.losePath n dir).path n dir = { s.path n dir with avail := false, offset := 0 } ∧ (s.losePath n dir).regs = s.regs := by
  have hr : ∀ x, (s.setPath n dir x).chooseRef.followsRing (ringDomain n) = false := fun x => by
    have hk : (s.setPath n dir x).chooseRef.regs = s.regs := State.chooseRef_regs _
    rw [← h]
    unfold State.followsRing State.isRoot
    rw [State.rd_of_regs hk]
  unfold State.losePath
  extract_lets src u
  rw [if_neg (Bool.eq_false_iff.mp (hr _))]
  exact ⟨(State.path_of (State.chooseRef_pathsOf _) _ _).trans (State.setPath_path _ _ _ _), State.chooseRef_regs _⟩

/-! ### What the master sends -/

/-- The SYNC of cycle `k` that port `d` of ring `n` sends. -/
def State.syncOf (s : State) (n d k : Nat) : Frame :=
  { typ := fTime, tc := 7, dst := nodeId (s.ringId n) 255, src := s.node0, op := 1, sub := d, arg := k }

/-- A frame waits behind the sweep of port `i`. -/
def State.queueSync (s : State) (i : Nat) (f : Frame) : State := s.stepPort i fun p => { p with sync := p.sync ++ [f] }

theorem State.queueSync_port (s : State) (i : Nat) (f : Frame) : (s.queueSync i f).port i = { s.port i with sync := (s.port i).sync ++ [f] } := by
  rw [State.queueSync, State.stepPort_port, if_pos rfl]

theorem State.queueSync_isUp (s : State) (i j : Nat) (f : Frame) : (s.queueSync i f).isUp j = s.isUp j := by
  have hst : ((s.queueSync i f).port j).st = (s.port j).st := by
    rw [State.queueSync, State.stepPort_port]
    split
    · next h => rw [h]
    · rfl
  unfold State.isUp
  rw [hst]
  rfl

theorem State.startNext_busy {s : State} {i : Nat} (h : (s.port i).busy = true) : s.startNext i = s := if_pos (.inr h)

/-- The cycle whose SYNC has been sent. -/
def State.syncedCycle (s : State) (n k : Nat) : State := s.setCyc n { s.cycOf n with syncK := some k }

theorem State.syncedCycle_syncK (s : State) (n k : Nat) : ((s.syncedCycle n k).cycOf n).syncK = some k := by
  unfold State.syncedCycle State.setCyc State.cycOf
  by_cases h : n = 0 <;> simp [h]

/-- The notes of a step that ports of ring `n` that are not UP leave. -/
def State.forgetStep (s : State) (n : Nat) : State := { s with td := { s.td with stepped := s.td.stepped.filter fun i => i / 2 ≠ n ∨ s.isUp i } }

theorem State.port_of_ring {s t : State} (h : t.ring = s.ring) (i : Nat) : t.port i = s.port i := by
  unfold State.port
  rw [h]

theorem State.sendSync_second (s : State) (n k : Nat) (h0 : s.isUp (lane n 0) = false) (h1 : s.isUp (lane n 1) = true)
    (hb : (s.port (lane n 1)).busy = true) :
    s.sendSync n k = ((s.syncedCycle n k).queueSync (lane n 1) (s.syncOf n 1 k)).forgetStep n := by
  have h0' : (s.syncedCycle n k).isUp (lane n 0) = false := h0
  have h1' : (s.syncedCycle n k).isUp (lane n 1) = true := h1
  have hp : (s.syncedCycle n k).port (lane n 1) = s.port (lane n 1) := State.port_of_ring (State.setCyc_ring s n _) _
  have hb' : (((s.syncedCycle n k).queueSync (lane n 1) (s.syncOf n 1 k)).port (lane n 1)).busy = true := by
    rw [State.queueSync_port, hp]
    exact hb
  have hu : ((s.syncedCycle n k).queueSync (lane n 1) (s.syncOf n 1 k)).isUp (lane n 1) = true := (State.queueSync_isUp _ _ _ _).trans h1'
  have hn : ¬ (((s.syncedCycle n k).queueSync (lane n 1) (s.syncOf n 1 k)).isUp (lane n 0) = true) := by
    rw [State.queueSync_isUp, h0']
    exact Bool.false_ne_true
  have e0 : (if (s.syncedCycle n k).isUp (lane n 0) = true then ((s.syncedCycle n k).queueSync (lane n 0) (s.syncOf n 0 k)).startNext (lane n 0)
      else s.syncedCycle n k) = s.syncedCycle n k := if_neg (Bool.eq_false_iff.mp h0')
  have e1 : (if (s.syncedCycle n k).isUp (lane n 1) = true then ((s.syncedCycle n k).queueSync (lane n 1) (s.syncOf n 1 k)).startNext (lane n 1)
      else s.syncedCycle n k) = (s.syncedCycle n k).queueSync (lane n 1) (s.syncOf n 1 k) := (if_pos h1').trans (State.startNext_busy hb')
  unfold State.sendSync
  extract_lets f src u v
  have hv : v = (s.syncedCycle n k).queueSync (lane n 1) (s.syncOf n 1 k) := by
    rw [← e1]
    refine Eq.trans ?_ (congrArg (fun x : State => if x.isUp (lane n 1) = true then (x.queueSync (lane n 1) (s.syncOf n 1 k)).startNext (lane n 1)
      else x) e0)
    rfl
  refine Eq.trans (b := if v.isUp (lane n 0) = true ∨ v.isUp (lane n 1) = true then v.forgetStep n else v) rfl ?_
  rw [hv, if_pos (.inr hu)]

theorem State.sendSync_does (s : State) (n k : Nat) (h0 : s.isUp (lane n 0) = false) (h1 : s.isUp (lane n 1) = true)
    (hb : (s.port (lane n 1)).busy = true) : ((s.sendSync n k).cycOf n).syncK = some k ∧
      (s.sendSync n k).td.stepped = s.td.stepped.filter (fun i => i / 2 ≠ n ∨ s.isUp i) ∧
      ((s.sendSync n k).port (lane n 1)).sync = (s.port (lane n 1)).sync ++ [s.syncOf n 1 k] ∧ (s.sendSync n k).regs = s.regs := by
  have hp : (s.syncedCycle n k).port (lane n 1) = s.port (lane n 1) := State.port_of_ring (State.setCyc_ring s n _) _
  have hu : ∀ i, ((s.syncedCycle n k).queueSync (lane n 1) (s.syncOf n 1 k)).isUp i = s.isUp i := fun i => State.queueSync_isUp _ _ _ _
  rw [State.sendSync_second s n k h0 h1 hb]
  refine ⟨State.syncedCycle_syncK s n k, ?_, ?_, rfl⟩
  · unfold State.forgetStep
    dsimp only
    simp only [hu]
    rfl
  · show (((s.syncedCycle n k).queueSync (lane n 1) (s.syncOf n 1 k)).port (lane n 1)).sync = _
    rw [State.queueSync_port, hp]

/-! ### What arrives -/

section
variable {s : State} {i : Fin 4} {g f : Frame} (res : Nat) (hg : s.readTag i g = f) (hu : s.isUp i = true) (hv : f.ver = 1) (ht : f.typ = fTime)
  (ho : f.op = 1) (hm : f.mark = .valid) (he : f.epoch = (s.port i).rxEpoch)
include hg hu hv ht ho hm he

omit hm he in
theorem exec_syncReceive : Machine.exec (.syncReceive i g res) s = .next (s.syncIn i f res).settle := by
  show (if s.isUp i = true ∧ (s.readTag i g).ver = 1 ∧ (s.readTag i g).typ = fTime ∧ (s.readTag i g).op = 1 then
    Host.Outcome.next (s.syncIn i (s.readTag i g) res).settle else _) = _
  rw [hg, if_pos ⟨hu, hv, ht, ho⟩]

omit hg hu hv ht ho in
theorem syncIn_bad (hb : badTime (leAt f.payload 0 12) = true) : s.syncIn i f res = s.countDiscard i := by
  unfold State.syncIn
  rw [State.heard_valid hm he]
  exact if_pos ⟨hm, .inl hb⟩

omit hg hu hv ht ho in
theorem syncIn_good (hb : badTime (leAt f.payload 0 12) = false) (hz : leAt f.payload 0x17 1 % 8 = 0) :
    s.syncIn i f res = if s.isMine f.src = true ∧ ¬ s.standby = true then s else (s.syncActs i f).onward i (mate i) (s.corrected i f res) := by
  have hbad : ¬ (f.mark = .valid ∧ (badTime (leAt f.payload 0 12) = true ∨
      ((List.range (leAt f.payload 0x17 1 % 8)).any fun m => badTime (leAt f.payload (0x34 + 16 * m) 12)) = true)) := by
    rw [hb, hz]
    exact fun h => h.2.elim Bool.false_ne_true Bool.false_ne_true
  unfold State.syncIn
  rw [State.heard_valid hm he]
  extract_lets u bad t v
  have hv : v = s.syncActs i f := if_pos hm
  rw [if_neg hbad, if_pos hm, hv]

end

/-- Settles O37: the master's SYNC, the stamps that it takes, and what a follower does with one. -/
theorem syncFrames : Obligations.SyncFrames := by
  unfold Obligations.SyncFrames
  refine ⟨fun n s hm hr hs hk hc h0 h1 hb => ⟨s.sendSync n (s.cycleNow n), if_pos ⟨hm, hr, hs, hk, hc⟩, State.sendSync_does s n _ h0 h1 hb⟩,
    fun i f s ht ho hh => ?_, fun i f s ht ho hh => ?_, fun n s h => if_neg ?_,
    fun i g f res s hg hu hv ht ho hm he hb => ?_, fun i g f res s hg hu hv ht ho hm he hb hz hi hs => ?_,
    fun i g f res s hg hu hv ht ho hm he hb hz hi => ?_, fun n dir hops x s h => State.followSync_path s n dir hops x h,
    fun n dir s ha hf => ⟨s.losePath n dir, if_pos ha, ?_⟩, fun n dir s h => if_neg (Bool.eq_false_iff.mp h)⟩
  · exact (if_neg (not_or.mpr ⟨not_not_intro ht, not_not_intro hh⟩)).trans (if_pos ho)
  · exact congrArg State.td ((if_neg (not_or.mpr ⟨not_not_intro ht, not_not_intro hh⟩)).trans (if_pos ho))
  · rintro ⟨h1, h2, h3, h4, h5⟩
    rcases h with h | h | h
    · exact Bool.eq_false_iff.mp h h1
    · exact h4 h
    · exact Bool.eq_false_iff.mp h h5
  · rw [exec_syncReceive res hg hu hv ht ho, syncIn_bad res hm he hb]
  · rw [exec_syncReceive res hg hu hv ht ho, syncIn_good res hm he hb hz, if_pos ⟨hi, Bool.eq_false_iff.mp hs⟩]
  · rw [exec_syncReceive res hg hu hv ht ho, syncIn_good res hm he hb hz,
      if_neg fun h => hi.elim (fun hi => Bool.eq_false_iff.mp hi h.1) h.2]
    rfl
  · obtain ⟨hp, hr⟩ := State.losePath_path s n dir hf
    rw [hp]
    exact ⟨rfl, rfl, hr⟩

end Sys2Proof.Machine
end

section
/-!
PROOFS. Deliveries to points, what subscribers of a point are sent, skipped rows,
    and edges handed to pins leave the part of the state that a fault leaves.
-/
namespace Sys2Proof.Machine

@[simp] theorem State.deliver_deep (s : State) (n : Nat) (d : Delivered) :
    (State.deliver s n d).deep = s.deep := by
  simp [State.deliver]

@[simp] theorem State.deliverNow_deep (s : State) (n v : Nat) :
    (State.deliverNow s n v).deep = s.deep := by
  simp [State.deliverNow]

@[simp] theorem State.stopUnsent_deep (s : State) (p : Nat) :
    (State.stopUnsent s p).deep = s.deep := by
  simp [State.stopUnsent]

@[simp] theorem State.handOver_deep (s : State) (u : Sub) (d : Dlv) :
    (State.handOver s u d).deep = s.deep := by
  unfold State.handOver; repeat' split
  all_goals simp

@[simp] theorem State.serveSub_deep (s : State) (p : Point) (u : Sub) :
    (State.serveSub s p u).deep = s.deep := by
  simp [State.serveSub]

@[simp] theorem State.serveSubs_deep (s : State) (n : Nat) :
    (State.serveSubs s n).deep = s.deep := by
  unfold State.serveSubs; refine (deep_foldl _ ?_ _ _).trans ?_
  · intro s x; simp
  · simp

@[simp] theorem State.updatePoint_deep (s : State) (n : Nat) :
    (State.updatePoint s n).deep = s.deep := by
  simp [State.updatePoint]

@[simp] theorem State.updatePoints_deep (s : State) (ns : List Nat) :
    (State.updatePoints s ns).deep = s.deep := by
  unfold State.updatePoints; refine (deep_foldl _ ?_ _ _).trans ?_
  · intro s x; simp
  · simp

@[simp] theorem State.rowUpdate_deep (s : State) (n : Nat) :
    (State.rowUpdate s n).deep = s.deep := by
  simp [State.rowUpdate]

@[simp] theorem State.skipRow_deep (s : State) (r : Nat) :
    (State.skipRow s r).deep = s.deep := by
  simp [State.skipRow, deep_foldl]

@[simp] theorem State.fireEdge_deep (s : State) (c : Nat) (e : Edge) :
    (State.fireEdge s c e).deep = s.deep := by
  simp [State.fireEdge]

@[simp] theorem State.takeField_deep (s : State) (n k p : Nat) :
    (State.takeField s n k p).deep = s.deep := by
  unfold State.takeField; dsimp only; repeat' split
  all_goals simp

@[simp] theorem State.detachCheck_deep (s : State) (k : Nat) :
    (State.detachCheck s k).deep = s.deep := by
  simp [State.detachCheck]

@[simp] theorem State.freezePoint_deep (s : State) (n : Nat) :
    (State.freezePoint s n).deep = s.deep := by
  simp [State.freezePoint]

@[simp] theorem State.setPinEdges_deep (s : State) (c : Nat) (es : List Edge) :
    (State.setPinEdges s c es).deep = s.deep := by
  simp [State.setPinEdges]

@[simp] theorem State.handEdge_deep (s : State) (c : Nat) (e : Edge) (now : Bool) :
    (State.handEdge s c e now).deep = s.deep := by
  simp [State.handEdge]

@[simp] theorem State.handEdges_deep (s : State) (ns : List Nat) :
    (State.handEdges s ns).deep = s.deep := by
  simp [State.handEdges, deep_foldl]

end Sys2Proof.Machine
end

section
/-!
PROOFS. What the phases of a cycle do to points, rows, channels, engines, controllers and the twin leaves the record of the cycles.
-/
namespace Sys2Proof.Machine

theorem cyc_foldl {α : Type} (f : State → α → State) (h : ∀ s x, (f s x).cyc = s.cyc) (l : List α) (s : State) :
    (l.foldl f s).cyc = s.cyc := Quiet.foldl (g := State.cyc) f h l s

@[simp] theorem cyc_ite (c : Prop) [Decidable c] (s t : State) : (if c then s else t).cyc = if c then s.cyc else t.cyc := by
  split <;> rfl

@[simp] theorem State.draw_cyc (s : State) : (State.draw s).2.cyc = s.cyc :=
  congrArg Deep.cyc (State.draw_deep s)

@[simp] theorem State.submit_cyc (s : State) (i o : Nat) (f : Frame) : (State.submit s i o f).cyc = s.cyc :=
  congrArg Deep.cyc (State.submit_deep s i o f)

@[simp] theorem State.deliver_cyc (s : State) (n : Nat) (d : Delivered) : (State.deliver s n d).cyc = s.cyc :=
  congrArg Deep.cyc (State.deliver_deep s n d)

@[simp] theorem State.deliverNow_cyc (s : State) (n v : Nat) : (State.deliverNow s n v).cyc = s.cyc :=
  congrArg Deep.cyc (State.deliverNow_deep s n v)

@[simp] theorem State.updatePoints_cyc (s : State) (ns : List Nat) : (State.updatePoints s ns).cyc = s.cyc :=
  congrArg Deep.cyc (State.updatePoints_deep s ns)

@[simp] theorem State.refreshPoint_cyc (s : State) (n : Nat) : (State.refreshPoint s n).cyc = s.cyc :=
  congrArg Deep.cyc (State.refreshPoint_deep s n)

@[simp] theorem State.refreshAll_cyc (s : State) : (State.refreshAll s).cyc = s.cyc :=
  congrArg Deep.cyc (State.refreshAll_deep s)

@[simp] theorem State.applyDo_cyc (s : State) (p x : Nat) (b : Bool) : (State.applyDo s p x b).cyc = s.cyc :=
  congrArg Deep.cyc (State.applyDo_deep s p x b)

@[simp] theorem State.pinOff_cyc (s : State) (p x : Nat) : (State.pinOff s p x).cyc = s.cyc :=
  congrArg Deep.cyc (State.pinOff_deep s p x)

@[simp] theorem State.setFp_cyc (s : State) (p : Nat) (on : Bool) : (State.setFp s p on).cyc = s.cyc :=
  congrArg Deep.cyc (State.setFp_deep s p on)

@[simp] theorem State.applyFp_cyc (s : State) (p : Nat) (on : Bool) : (State.applyFp s p on).cyc = s.cyc :=
  congrArg Deep.cyc (State.applyFp_deep s p on)

@[simp] theorem State.rowUpdate_cyc (s : State) (n : Nat) : (State.rowUpdate s n).cyc = s.cyc :=
  congrArg Deep.cyc (State.rowUpdate_deep s n)

@[simp] theorem State.skipRow_cyc (s : State) (r : Nat) : (State.skipRow s r).cyc = s.cyc :=
  congrArg Deep.cyc (State.skipRow_deep s r)

@[simp] theorem State.setCond_cyc (s : State) (n reason : Nat) (on : Bool) :
    (State.setCond s n reason on).cyc = s.cyc := by
  simp [State.setCond]

@[simp] theorem State.markMissed_cyc (s : State) (ns : List Nat) (on : Bool) :
    (State.markMissed s ns on).cyc = s.cyc := by
  simp [State.markMissed, cyc_foldl]

@[simp] theorem State.resumePin_cyc (s : State) (p x : Nat) :
    (State.resumePin s p x).cyc = s.cyc := by
  simp [State.resumePin]

@[simp] theorem State.pickTag_cyc (s : State) :
    (State.pickTag s).2.cyc = s.cyc := by
  simp [State.pickTag]

@[simp] theorem State.setRow_cyc (s : State) (r : Nat) (x : RowSt) :
    (State.setRow s r x).cyc = s.cyc := by
  simp [State.setRow]

@[simp] theorem State.setRop_cyc (s : State) (j : Nat) (x : Rop) :
    (State.setRop s j x).cyc = s.cyc := by
  simp [State.setRop]

@[simp] theorem State.setSm_cyc (s : State) (m : Nat) (t : Option Nat) :
    (State.setSm s m t).cyc = s.cyc := by
  simp [State.setSm]

@[simp] theorem State.markRows_cyc (s : State) :
    (State.markRows s).cyc = s.cyc := by
  simp [State.markRows, cyc_foldl]

@[simp] theorem State.placeRows_cyc (s : State) (ok : List Nat) (old : Option (NMap Byte)) :
    (State.placeRows s ok old).cyc = s.cyc := by
  simp [State.placeRows, cyc_foldl]

@[simp] theorem State.showRows_cyc (s : State) (ok : List Nat) :
    (State.showRows s ok).cyc = s.cyc := by
  simp [State.showRows, cyc_foldl]

@[simp] theorem State.checkTables_cyc (s : State) :
    (State.checkTables s).2.cyc = s.cyc := by
  simp [State.checkTables]

@[simp] theorem State.endOld_cyc (s : State) :
    (State.endOld s).cyc = s.cyc := by
  unfold State.endOld; repeat' split
  all_goals simp

@[simp] theorem State.onOld_cyc (s : State) (f : State → State) (h : ∀ t, (f t).cyc = t.cyc) :
    (s.onOld f).cyc = s.cyc := by
  unfold State.onOld; split
  · exact h s
  · dsimp only; split <;> simp [h]

@[simp] theorem State.switchTables_cyc (s : State) :
    (State.switchTables s).cyc = s.cyc := by
  simp [State.switchTables, cyc_foldl]

@[simp] theorem State.giveResult_cyc (s : State) (x : RowSt) (n : Nat) :
    (State.giveResult s x n).cyc = s.cyc := by
  simp [State.giveResult]

@[simp] theorem State.runRow_cyc (s : State) (r : Nat) :
    (State.runRow s r).cyc = s.cyc := by
  unfold State.runRow; dsimp only; repeat' split
  all_goals simp [cyc_foldl]

@[simp] theorem State.fetchRop_cyc (s : State) (j : Nat) :
    (State.fetchRop s j).cyc = s.cyc := by
  unfold State.fetchRop; dsimp only; repeat' split
  all_goals simp

@[simp] theorem State.settleRop_cyc (s : State) (j : Nat) (late : Bool) :
    (State.settleRop s j late).cyc = s.cyc := by
  unfold State.settleRop; dsimp only; repeat' split
  all_goals simp

@[simp] theorem State.runRows_cyc (s : State) (n0 : Nat) :
    (State.runRows s n0).cyc = s.cyc := by
  induction n0 generalizing s with
  | zero => rfl
  | succ n ih =>
    unfold State.runRows; try dsimp only [State.draw]
    repeat' split
    all_goals simp [ih, cyc_foldl]

@[simp] theorem State.resumeRows_cyc (s : State) :
    (State.resumeRows s).cyc = s.cyc := by
  simp [State.resumeRows]

@[simp] theorem State.idleRowPoints_cyc (s : State) (due : List Nat) :
    (State.idleRowPoints s due).cyc = s.cyc := by
  simp [State.idleRowPoints, cyc_foldl]

@[simp] theorem State.startRows_cyc (s : State) (k : Nat) :
    (State.startRows s k).cyc = s.cyc := by
  simp [State.startRows, cyc_foldl]

@[simp] theorem State.giveMeas_cyc (s : State) (c : Nat) (raw x : Nat × Nat) (clip : Bool) (n : Nat) :
    (State.giveMeas s c raw x clip n).cyc = s.cyc := by
  unfold State.giveMeas; dsimp only; repeat' split
  all_goals simp

@[simp] theorem State.captureChannel_cyc (s : State) (m : Measured) (k c : Nat) (xs : List MeasSample) :
    (State.captureChannel s m k c xs).cyc = s.cyc := by
  simp [State.captureChannel, cyc_foldl]

@[simp] theorem State.captureCj_cyc (s : State) (k p : Nat) (t : Int) :
    (State.captureCj s k p t).cyc = s.cyc := by
  simp [State.captureCj, cyc_foldl]

@[simp] theorem State.captureMeas_cyc (s : State) (k : Nat) (m : Measured) (cj : List (Fin 64 × Int)) :
    (State.captureMeas s k m cj).cyc = s.cyc := by
  unfold State.captureMeas; extract_lets s1 s2 badCj m0 s3 mm
  have h1 : s1.cyc = s.cyc := cyc_foldl _ (fun s c => by dsimp only; split <;> simp) _ _
  have h2 : s2.cyc = s.cyc := (cyc_foldl _ (fun s x => by simp) _ _).trans h1
  have h3 : s3.cyc = s.cyc := by simp only [s3]; split <;> simp [h2]
  exact (cyc_foldl _ (fun s x => by simp) _ _).trans h3

@[simp] theorem State.setPdOut_cyc (s : State) (p : Nat) (x : List Byte × Bool) :
    (State.setPdOut s p x).cyc = s.cyc := by
  simp [State.setPdOut]

@[simp] theorem State.busOut_cyc (s : State) (k i : Nat) (what : String) (b : List Byte) :
    (State.busOut s k i what b).cyc = s.cyc := by
  unfold State.busOut; repeat' split
  all_goals simp

@[simp] theorem State.freezeObjects_cyc (s : State) (k : Nat) (changed : List Nat) :
    (State.freezeObjects s k changed).cyc = s.cyc := by
  simp [State.freezeObjects, cyc_foldl]

@[simp] theorem State.sendObjects_cyc (s : State) :
    (State.sendObjects s).cyc = s.cyc := by
  simp [State.sendObjects, cyc_foldl]

@[simp] theorem State.setPolls_cyc (s : State) (i : Nat) (q : List Nat) :
    (State.setPolls s i q).cyc = s.cyc := by
  simp [State.setPolls]

@[simp] theorem State.setPoll_cyc (s : State) (i : Nat) (m : Option Nat) :
    (State.setPoll s i m).cyc = s.cyc := by
  simp [State.setPoll]

@[simp] theorem State.startPoll_cyc (s : State) (i : Nat) :
    (State.startPoll s i).cyc = s.cyc := by
  unfold State.startPoll; repeat' split
  all_goals simp

@[simp] theorem State.pollsDue_cyc (s : State) (k : Nat) :
    (State.pollsDue s k).cyc = s.cyc := by
  simp [State.pollsDue, cyc_foldl]

@[simp] theorem State.iolPower_cyc (s : State) (p : Nat) :
    (State.iolPower s p).cyc = s.cyc := by
  simp [State.iolPower]

@[simp] theorem State.chanDrive_cyc (s : State) (p x : Nat) (level on : Bool) :
    (State.chanDrive s p x level on).cyc = s.cyc := by
  simp [State.chanDrive]

@[simp] theorem State.applyChan_cyc (s : State) (p : Nat) :
    (State.applyChan s p).cyc = s.cyc := by
  simp [State.applyChan, cyc_foldl]

@[simp] theorem State.putChan_cyc (s : State) (e c : Nat) (x : Chan) :
    (State.putChan s e c x).cyc = s.cyc := by
  unfold State.putChan; dsimp only; repeat' split
  all_goals simp

@[simp] theorem State.askStart_cyc (s : State) (e c : Nat) (on : Bool) :
    (State.askStart s e c on).cyc = s.cyc := by
  simp [State.askStart]

@[simp] theorem State.startChan_cyc (s : State) (e c : Nat) :
    (State.startChan s e c).cyc = s.cyc := by
  simp [State.startChan]

@[simp] theorem State.cycleIrq_cyc (s : State) (i : Nat) :
    (State.cycleIrq s i).cyc = s.cyc := by
  simp [State.cycleIrq, cyc_foldl]

@[simp] theorem State.autoStart_cyc (s : State) :
    (State.autoStart s).cyc = s.cyc := by
  simp [State.autoStart, cyc_foldl]

@[simp] theorem State.skipFrames_cyc (s : State) (e c n : Nat) (n0 : Nat) :
    (State.skipFrames s e c n n0).cyc = s.cyc := by
  induction n0 generalizing s with
  | zero => rfl
  | succ n ih =>
    unfold State.skipFrames; dsimp only; repeat' split
    all_goals simp [ih]

@[simp] theorem State.rxFrame_cyc (s : State) (e c : Nat) :
    (State.rxFrame s e c).cyc = s.cyc := by
  simp [State.rxFrame, cyc_foldl]

@[simp] theorem State.txFrame_cyc (s : State) (e c : Nat) (took : List Nat) (vals : List (Nat × Nat)) :
    (State.txFrame s e c took vals).cyc = s.cyc := by
  simp [State.txFrame]

@[simp] theorem State.noteDelta_cyc (s : State) (n : Nat) :
    (State.noteDelta s n).cyc = s.cyc := by
  simp [State.noteDelta]

@[simp] theorem State.startSend_cyc (s : State) (d : Delta) (late : Bool) :
    (State.startSend s d late).cyc = s.cyc := by
  simp [State.startSend]

@[simp] theorem State.deltaInTime_cyc (s : State) :
    (State.deltaInTime s).cyc = s.cyc := by
  simp [State.deltaInTime]

@[simp] theorem State.endSend_cyc (s : State) :
    (State.endSend s).cyc = s.cyc := by
  simp [State.endSend]

@[simp] theorem State.twinTurn_cyc (s : State) :
    (State.twinTurn s).cyc = s.cyc := by
  unfold State.twinTurn; dsimp only; repeat' split
  all_goals simp

@[simp] theorem State.sendDelta_cyc (s : State) (k : Nat) :
    (State.sendDelta s k).cyc = s.cyc := by
  simp [State.sendDelta]

@[simp] theorem State.noteShadow_cyc (s : State) (k : Nat) :
    (State.noteShadow s k).cyc = s.cyc := by
  simp [State.noteShadow]

@[simp] theorem State.capturePin_cyc (s : State) (n : Nat) :
    (State.capturePin s n).cyc = s.cyc := by
  unfold State.capturePin; dsimp only; repeat' split
  all_goals simp

@[simp] theorem State.applySupplies_cyc (s : State) :
    (State.applySupplies s).cyc = s.cyc := by
  simp [State.applySupplies, cyc_foldl]

@[simp] theorem State.resumePins_cyc (s : State) :
    (State.resumePins s).cyc = s.cyc := by
  simp [State.resumePins, cyc_foldl]

@[simp] theorem State.startPulse_cyc (s : State) :
    (State.startPulse s).cyc = s.cyc := by
  unfold State.startPulse; repeat' split
  all_goals simp

end Sys2Proof.Machine
end

section
/-!
PROOFS. The phases of a cycle (O36): capture, exchange close, the deadlines of the remote operands and of the rows, freeze and output.
-/
namespace Sys2Proof.Machine

/-! ### Capture and exchange close -/

theorem captureInstant_skips {s : State} {n k : Nat} (m : Measured) (cj : List (Fin 64 × Int))
    (h : s.ready = false ∨ s.captureIs n k = false ∨ (s.cycOf n).mayRun (s.cycOf n).captured k = false) : s.captureInstant n k m cj = s := by
  refine if_pos ?_
  rcases h with h | h | h
  · exact .inl (Bool.eq_false_iff.mp h)
  · exact .inr (.inr (.inl (Bool.eq_false_iff.mp h)))
  · exact .inr (.inr (.inr (Bool.eq_false_iff.mp h)))

theorem exchangeClose_skips {s : State} {n k : Nat}
    (h : s.ready = false ∨ s.closeIs n k = false ∨ (s.cycOf n).mayRun (s.cycOf n).closed k = false) : s.exchangeClose n k = s := by
  refine if_pos ?_
  rcases h with h | h | h
  · exact .inl (Bool.eq_false_iff.mp h)
  · exact .inr (.inr (.inl (Bool.eq_false_iff.mp h)))
  · exact .inr (.inr (.inr (Bool.eq_false_iff.mp h)))

theorem captureInstant_second {s : State} {k : Nat} (m : Measured) (cj : List (Fin 64 × Int)) (hr : s.ready = true) (hj : s.junction = true)
    (hi : s.captureIs 1 k = true) (hm : (s.cycOf 1).mayRun (s.cycOf 1).captured k = true) : s.captureInstant 1 k m cj = s.publish 1 k := by
  have hg : s.hasRing 1 = true := decide_eq_true (.inr hj)
  unfold State.captureInstant
  rw [if_neg, if_pos (by decide)]
  simp only [hr, hg, hi, hm, not_true, or_self, not_false_iff]

theorem captureInstant_first {s : State} {k : Nat} (m : Measured) (cj : List (Fin 64 × Int)) (hr : s.ready = true)
    (hi : s.captureIs 0 k = true) (hm : (s.cycOf 0).mayRun (s.cycOf 0).captured k = true) :
    ∃ u : State, s.captureInstant 0 k m cj = u.publish 0 k ∧ u.cyc = s.cyc := by
  have hg : s.hasRing 0 = true := decide_eq_true (.inl rfl)
  unfold State.captureInstant
  rw [if_neg, if_neg (by decide)]
  · refine ⟨_, rfl, ?_⟩
    simp [cyc_foldl]
  · simp only [hr, hg, hi, hm, not_true, or_self, not_false_iff]

/-- Cycle `k` of ring `n` is closed, and what was taken before it is dropped. -/
def State.closeCycle (s : State) (n k : Nat) : State := s.setCyc n { s.cycOf n with
  closed := k + 1, taken := (s.cycOf n).taken.filter fun x => k ≤ x.1, outs := (s.cycOf n).outs.filter fun x => k ≤ x.1 }

theorem le_of_mem_filter {α : Type} {k : Nat} {l : List (Nat × α)} {x : Nat × α} (h : x ∈ l.filter fun x => k ≤ x.1) : k ≤ x.1 :=
  of_decide_eq_true (List.mem_filter.mp h).2

theorem State.closeCycle_does (s : State) (n k : Nat) : ((s.closeCycle n k).cycOf n).closed = k + 1 ∧
    (∀ x ∈ ((s.closeCycle n k).cycOf n).taken, k ≤ x.1) ∧ (∀ x ∈ ((s.closeCycle n k).cycOf n).outs, k ≤ x.1) := by
  rw [State.closeCycle, State.setCyc_cycOf]
  exact ⟨rfl, fun _ => le_of_mem_filter, fun _ => le_of_mem_filter⟩

theorem exchangeClose_second {s : State} {k : Nat} (hr : s.ready = true) (hj : s.junction = true)
    (hi : s.closeIs 1 k = true) (hm : (s.cycOf 1).mayRun (s.cycOf 1).closed k = true) : ∃ u : State, s.exchangeClose 1 k = u.closeCycle 1 k := by
  have hg : s.hasRing 1 = true := decide_eq_true (.inr hj)
  unfold State.exchangeClose
  rw [if_neg]
  · exact ⟨_, rfl⟩
  · simp only [hr, hg, hi, hm, not_true, or_self, not_false_iff]

theorem exchangeClose_first {s : State} {k : Nat} (hr : s.ready = true)
    (hi : s.closeIs 0 k = true) (hm : (s.cycOf 0).mayRun (s.cycOf 0).closed k = true) :
    ∃ (u : State) (l : List Nat), s.exchangeClose 0 k = (((u.closeCycle 0 k).updatePoints l).cycleIrq 1).startRows k := by
  have hg : s.hasRing 0 = true := decide_eq_true (.inl rfl)
  unfold State.exchangeClose
  rw [if_neg]
  · exact ⟨_, _, rfl⟩
  · simp only [hr, hg, hi, hm, not_true, or_self, not_false_iff]

/-! ### Rows -/

theorem State.setRop_rop (s : State) (j : Nat) (x : Rop) : (s.setRop j x).rop j = x := by
  unfold State.rop State.setRop
  dsimp only
  rw [NMap.get_set_same]

theorem State.setRop_rop_ne (s : State) {j i : Nat} (x : Rop) (h : i ≠ j) : (s.setRop j x).rop i = s.rop i := by
  unfold State.rop State.setRop
  dsimp only
  rw [NMap.get_set_ne _ _ _ h]

/-- Remote operand `j` has had no answer by the deadline. -/
def State.missRop (s : State) (j : Nat) : State := (s.setRop j { s.rop j with settled := true, missed := true }).inc R.RFX_CNT_REM_MISS

theorem settleRop_misses {s : State} {j : Nat} (hs : (s.rop j).settled = false) (hr : (s.rop j).resp = none) : s.settleRop j true = s.missRop j := by
  unfold State.settleRop
  dsimp only
  rw [if_neg (Bool.eq_false_iff.mp hs)]
  split
  · next h => rw [hr] at h; cases h
  · next h => rw [hr] at h; cases h
  · rfl

theorem State.missRop_does (s : State) (j : Nat) : ((s.missRop j).rop j).settled = true ∧ ((s.missRop j).rop j).missed = true ∧
    (s.missRop j).rfx.todo = s.rfx.todo ∧ ∀ i, i ≠ j → (s.missRop j).rop i = s.rop i := by
  have hi : ∀ i, (s.missRop j).rop i = (s.setRop j { s.rop j with settled := true, missed := true }).rop i := fun i => by
    unfold State.missRop State.rop
    rw [State.inc_rfx]
  rw [hi j, State.setRop_rop]
  exact ⟨rfl, rfl, rfl, fun i h => (hi i).trans (State.setRop_rop_ne _ _ h)⟩

theorem onOld_none {s : State} (h : s.rfx.old = none) (f : State → State) : s.onOld f = f s := by
  unfold State.onOld
  rw [h]

theorem exec_remoteFetchDeadline {s : State} {r j : Nat} (ho : s.rfx.old = none) (ht : s.rfx.todo = [r]) (hm : (rowOf s.rfx.act r).remotes = [j])
    (hs : (s.rop j).settled = false) (hr : (s.rop j).resp = none) :
    Machine.exec .remoteFetchDeadline s = .next ((s.missRop j).runRows 2) := by
  show Host.Outcome.next _ = _
  rw [onOld_none ho, ht]
  dsimp only
  rw [show ([r].flatMap fun r => (rowOf s.rfx.act r).remotes) = [j] by simp [hm], show [j].dedup = [j] from rfl]
  show Host.Outcome.next ((s.settleRop j true).runRows 2) = _
  rw [settleRop_misses hs hr]

/-- The rows that wait are skipped. -/
def State.skipRows (s : State) (l : List Nat) : State := l.foldl (fun s r => s.skipRow r) { s with rfx := { s.rfx with todo := [], running :=
    false } }

/-- The rows that wait, and whether rows run. -/
def State.queueOf (s : State) : List Nat × Bool := (s.rfx.todo, s.rfx.running)

theorem State.queueOf_of_deep {s t : State} (h : t.deep = s.deep) : t.queueOf = s.queueOf :=
  congrArg (fun x : Deep => (x.tables.todo, x.tables.running)) h

theorem State.wr_queueOf (s : State) (f : Fld) (v : Nat) : (s.wr f v).queueOf = s.queueOf := by
  unfold State.queueOf
  rw [State.wr_rfx]

theorem State.inc_queueOf (s : State) (f : Fld) (k : Nat) : (s.inc f k).queueOf = s.queueOf := by
  unfold State.queueOf
  rw [State.inc_rfx]

theorem State.draw_queueOf (s : State) : s.draw.2.queueOf = s.queueOf := (rfl)

theorem State.markRows_queueOf (s : State) : s.markRows.queueOf = s.queueOf := by
  unfold State.markRows
  refine Quiet.foldl (g := State.queueOf) _ (fun w n => ?_) _ _
  rfl

theorem State.placeRows_queueOf (s : State) (ok : List Nat) (old : Option (NMap Byte)) : (s.placeRows ok old).queueOf = s.queueOf := by
  unfold State.placeRows
  dsimp only
  rw [State.markRows_queueOf]
  refine (Quiet.foldl (g := State.queueOf) _ (fun w n => ?_) _ _).trans rfl
  split <;> rfl

theorem State.endOld_queueOf (s : State) : s.endOld.queueOf = s.queueOf := by
  unfold State.endOld
  split
  · rfl
  · exact State.placeRows_queueOf _ _ _

theorem State.onOld_queueOf (s : State) (f : State → State) {q : List Nat × Bool} (hf : ∀ t : State, (f t).queueOf = q) : (s.onOld f).queueOf = q :=
  by
  unfold State.onOld
  split
  · exact hf s
  · dsimp only
    split
    · exact (State.endOld_queueOf _).trans (hf _)
    · exact hf _

theorem State.skipRows_queueOf (s : State) (l : List Nat) : (s.skipRows l).queueOf = ([], false) :=
  State.queueOf_of_deep (deep_foldl (fun s r => s.skipRow r) (fun s x => State.skipRow_deep s x) l
    { s with rfx := { s.rfx with todo := [], running := false } })

/-- What is shown of an overrun. -/
def State.showOverrun (s : State) (v : Nat) : State :=
  ((s.wr R.RFX_STAT_LAST_NS (v % 2 ^ 16)).inc R.RFX_CNT_OVERRUN).raise 19 .C

theorem State.showOverrun_queueOf (s : State) (v : Nat) : (s.showOverrun v).queueOf = s.queueOf := by
  unfold State.showOverrun
  refine (State.queueOf_of_deep (State.raise_deep _ _ _ _)).trans ?_
  rw [State.inc_queueOf, State.wr_queueOf]

theorem State.overrunRows_eq {s : State} (h : s.rfx.todo ≠ []) :
    s.overrunRows = (s.onOld fun s => s.skipRows s.rfx.todo).draw.2.showOverrun (s.onOld fun s => s.skipRows s.rfx.todo).draw.1 := if_neg h

theorem State.overrunRows_queueOf {s : State} (h : s.rfx.todo ≠ []) : s.overrunRows.queueOf = ([], false) := by
  rw [State.overrunRows_eq h, State.showOverrun_queueOf, State.draw_queueOf]
  exact State.onOld_queueOf _ _ fun t => State.skipRows_queueOf _ _

/-! ### Freeze and output -/

/-- A freeze waits for its deadline. -/
def State.pushFreeze (s : State) (f : Freeze) : State :=
  let s := { s with cyc := { s.cyc with freezes := s.cyc.freezes ++ [f], last := f.vals } }
  { s with pctl := { s.pctl with due := [] } }

theorem State.cycleIrq_pctl (s : State) (i : Nat) : (s.cycleIrq i).pctl = s.pctl := by
  unfold State.cycleIrq
  refine Quiet.foldl (g := State.pctl) _ (fun w x => ?_) _ _
  obtain ⟨k, x⟩ := x
  dsimp only
  split <;> rfl

theorem State.noteShadow_pctl (s : State) (k : Nat) : (s.noteShadow k).pctl = s.pctl := by
  unfold State.noteShadow
  split <;> rfl

theorem State.deltaInTime_pctl (s : State) : s.deltaInTime.pctl = s.pctl := by
  unfold State.deltaInTime
  extract_lets u
  have hu : u.pctl = s.pctl := State.wr_pctl _ _ _
  split
  · rw [State.wr_pctl, State.wr_pctl, hu]
  · exact hu

theorem State.endSend_pctl (s : State) : s.endSend.pctl = s.pctl := by
  unfold State.endSend
  dsimp only
  split
  · exact State.deltaInTime_pctl _
  · rfl

theorem State.startSend_pctl (s : State) (d : Delta) (late : Bool) : (s.startSend d late).pctl = s.pctl := (rfl)

theorem State.twinTurn_pctl (s : State) : s.twinTurn.pctl = s.pctl := by
  unfold State.twinTurn
  split
  · rfl
  · extract_lets u
    have hu : u.pctl = s.pctl := by
      show (if _ then _ else _ : State).pctl = _
      split
      · exact State.endSend_pctl s
      · rfl
    split
    · exact hu
    · split
      · exact (State.startSend_pctl _ _ _).trans hu
      · split
        · exact hu
        · exact (State.startSend_pctl _ _ _).trans hu

theorem State.sendDelta_pctl (s : State) (k : Nat) : (s.sendDelta k).pctl = s.pctl := by
  unfold State.sendDelta
  split
  · exact State.twinTurn_pctl _
  · rfl

theorem State.setPinEdges_cyc (s : State) (c : Nat) (es : List Edge) : (s.setPinEdges c es).cyc = s.cyc := (rfl)

theorem State.handEdges_cyc (s : State) (ns : List Nat) : (s.handEdges ns).cyc = s.cyc := congrArg Deep.cyc (State.handEdges_deep s ns)

theorem State.freeze_pushes (s : State) : ∃ (u : State) (f : Freeze), u.cyc = s.cyc ∧ f.k = s.rfx.cycK ∧
    s.freeze = (((u.pushFreeze f).noteShadow s.rfx.cycK).sendDelta s.rfx.cycK).cycleIrq 2 := by
  unfold State.freeze
  extract_lets k outs due took old s1 changed edges s2 s3 s4 vals f
  refine ⟨s4, f, ?_, rfl, ?_⟩
  · have h1 : s1.cyc = s.cyc :=
      (State.markMissed_cyc _ _ _).trans (cyc_foldl State.freezePoint (fun u n => congrArg Deep.cyc (State.freezePoint_deep u n)) due s)
    have h2 : s2.cyc = s1.cyc := cyc_foldl _ (fun u n => by
      split
      · exact State.setPinEdges_cyc u _ _
      · rfl) _ _
    have h3 : s3.cyc = s2.cyc := by
      show (if s2.standby = true then s2 else _).cyc = _
      split
      · rfl
      · exact State.handEdges_cyc s2 _
    rw [State.freezeObjects_cyc, h3, h2, h1]
  · rfl

theorem State.freeze_does (s : State) : s.freeze.pctl.due = [] ∧
    ∃ f : Freeze, s.freeze.cyc.freezes = s.cyc.freezes ++ [f] ∧ f.k = s.rfx.cycK ∧ s.freeze.cyc.last = f.vals := by
  obtain ⟨u, f, hu, hk, hf⟩ := s.freeze_pushes
  rw [hf, State.cycleIrq_pctl, State.sendDelta_pctl, State.noteShadow_pctl, State.cycleIrq_cyc, State.sendDelta_cyc, State.noteShadow_cyc, ← hu]
  exact ⟨rfl, f, rfl, hk, rfl⟩

theorem State.applyVals_cyc (s : State) (vals : List (Nat × Nat)) : (s.applyVals vals).cyc = s.cyc :=
  cyc_foldl _ (fun s _ => congrArg Deep.cyc (State.applyValue_deep s _ _)) vals s

theorem State.outputDeadline_freezes {s : State} {f : Freeze} {rest : List Freeze} (h : s.cyc.freezes = f :: rest) :
    s.outputDeadline.cyc.freezes = rest := by
  unfold State.outputDeadline
  rw [h]
  simp [cyc_foldl, State.applyVals_cyc, State.deadlineCome]

/-- Settles O36: each phase runs once in its cycle, and changes the cycle's record as it says. -/
theorem cyclePhases : Obligations.CyclePhases := by
  unfold Obligations.CyclePhases
  refine ⟨fun k m cj s hr hj hi hm => ⟨s.publish 1 k, ?_, ?_, rfl, rfl⟩, fun k m cj s hr hi hm => ?_, fun n k m cj s h => ?_, fun n k s h => ?_,
    fun n k m cj s h => ⟨?_, ?_, ?_, ?_⟩, fun k s hr hj hi hm => ?_, fun k s hr hi hm => ?_, fun r j s ho ht hm hs hp => ?_, fun s hr ht => ?_,
    fun s hr ht => ⟨s.freeze, if_pos ⟨hr, ht⟩, s.freeze_does⟩, fun f rest s h => ⟨s.twinTurn.outputDeadline, rfl, ?_⟩, fun s h => ?_⟩
  · exact congrArg (fun t : State => Host.Outcome.next t.settle) (captureInstant_second m cj hr hj hi hm)
  · rw [State.publish, State.setCyc_cycOf]
  · obtain ⟨u, hu, hc⟩ := captureInstant_first m cj hr hi hm
    refine ⟨u.publish 0 k, congrArg (fun t : State => Host.Outcome.next t.settle) hu, ?_⟩
    beta_reduce
    rw [State.publish, State.setCyc_cycOf, State.cycOf_of hc]
    refine ⟨_, _, rfl, fun x hx => ?_⟩
    obtain ⟨h1, h2⟩ := List.mem_filter.mp hx
    exact ⟨h1, (of_decide_eq_true h2).1⟩
  · exact congrArg (fun t : State => Host.Outcome.next t.settle) (captureInstant_skips m cj (.inr h))
  · exact congrArg (fun t : State => Host.Outcome.next t.settle) (exchangeClose_skips (.inr h))
  · exact congrArg (fun t : State => Host.Outcome.next t.settle) (captureInstant_skips m cj (.inl h))
  · exact congrArg (fun t : State => Host.Outcome.next t.settle) (exchangeClose_skips (.inl h))
  · exact if_neg fun hx => Bool.eq_false_iff.mp h hx.1
  · exact if_neg fun hx => Bool.eq_false_iff.mp h hx.1
  · obtain ⟨u, hu⟩ := exchangeClose_second hr hj hi hm
    exact ⟨u.closeCycle 1 k, congrArg (fun t : State => Host.Outcome.next t.settle) hu, State.closeCycle_does u 1 k⟩
  · obtain ⟨u, l, hu⟩ := exchangeClose_first hr hi hm
    refine ⟨s.exchangeClose 0 k, rfl, ?_⟩
    obtain ⟨h1, h2, -⟩ := State.closeCycle_does u 0 k
    rw [State.cycOf_of (s := u.closeCycle 0 k) (by rw [hu, State.startRows_cyc, State.cycleIrq_cyc, State.updatePoints_cyc])]
    exact ⟨h1, h2⟩
  · obtain ⟨h1, h2, h3, h4⟩ := State.missRop_does s j
    exact ⟨s.missRop j, exec_remoteFetchDeadline ho ht hm hs hp, h1, h2, h3.trans ht, h4⟩
  · have hq := State.overrunRows_queueOf ht
    exact ⟨s.overrunRows, if_pos ⟨hr, ht⟩, congrArg Prod.fst hq, congrArg Prod.snd hq⟩
  · exact State.outputDeadline_freezes ((congrArg CycSt.freezes (State.twinTurn_cyc s)).trans h)
  · have ht : s.twinTurn.outputDeadline = s.twinTurn := by
      unfold State.outputDeadline
      rw [State.twinTurn_cyc, h]
    exact congrArg (fun t : State => Host.Outcome.next t.settle) ht

end Sys2Proof.Machine
end

section
/-!
PROOFS. What the shared operations leave of the engines, the active tables, the hold of the queue manager and the scheduled edges.
-/
namespace Sys2Proof.Machine

/-- The part of the state that DOZE keeps or has set before the ring ports go down. -/
structure Rest where
  eng : EngSt
  act : NMap Byte
  fetchHold : Bool
  edges : NMap (List Edge)

def State.rest (s : State) : Rest := ⟨s.eng, s.rfx.act, s.hif.fetchHold, s.td.edges⟩

theorem State.rest_of {s t : State} (hd : t.deep = s.deep) (hc : t.calm = s.calm) : t.rest = s.rest := by
  have h1 : t.eng = s.eng := congrArg Deep.eng hd
  have h2 : t.rfx.act = s.rfx.act := congrArg (fun x : Deep => x.tables.act) hd
  have h3 : t.hif.fetchHold = s.hif.fetchHold := congrArg Deep.fetchHold hd
  have h4 : t.td.edges = s.td.edges := congrArg (fun x : Calm => x.td.edges) hc
  unfold State.rest
  rw [h1, h2, h3, h4]

theorem rest_foldl {α : Type} (f : State → α → State) (h : ∀ s x, (f s x).rest = s.rest) (l : List α) (s : State) :
    (l.foldl f s).rest = s.rest := Quiet.foldl (g := State.rest) f h l s

@[simp] theorem rest_ite (c : Prop) [Decidable c] (s t : State) : (if c then s else t).rest = if c then s.rest else t.rest := by
  split <;> rfl

@[simp] theorem rest_mk (pending' : List Instr) (regs' : NMap Word) (now' : Nat) (drawn' : Nat) (emitted' : List Emit) (hif' : Hif) (tgt' : Tgt)
    (pts' : Pts) (ring' : RingSt) (sw' : Switch) (flt' : Flt) (td' : TimeSt) (brg' : Brg) (cyc' : CycSt) (fld' : FieldSt) (pctl' : PctlSt)
        (rfx' : Rfx) (meas' : MeasSt) (pwr' : PwrSt) (eng' : EngSt) (twin' : TwinSt) (sec' : SecSt) (boot' : BootSt) (setup' : SetSt) :
    (State.mk pending' regs' now' drawn' emitted' hif' tgt' pts' ring' sw' flt' td' brg' cyc' fld' pctl' rfx' meas' pwr' eng' twin' sec' boot' setup').rest = ⟨eng', rfx'.act, hif'.fetchHold, td'.edges⟩ := (rfl)

@[simp] theorem rest_eta (s : State) : (⟨s.eng, s.rfx.act, s.hif.fetchHold, s.td.edges⟩ : Rest) = s.rest := (rfl)

@[simp] theorem State.wr_rest (s : State) (f : Fld) (v : Nat) : (State.wr s f v).rest = s.rest :=
  State.rest_of (State.wr_deep s f v) (State.wr_calm s f v)

@[simp] theorem State.inc_rest (s : State) (f : Fld) (k : Nat) : (State.inc s f k).rest = s.rest :=
  State.rest_of (State.inc_deep s f k) (State.inc_calm s f k)

@[simp] theorem State.emit_rest (s : State) (e : Emit) : (State.emit s e).rest = s.rest :=
  State.rest_of (State.emit_deep s e) (State.emit_calm s e)

@[simp] theorem State.draw_rest (s : State) : (State.draw s).2.rest = s.rest :=
  State.rest_of (State.draw_deep s) (State.draw_calm s)

@[simp] theorem State.setPort_rest (s : State) (i : Nat) (x : Port) : (s.setPort i x).rest = s.rest := (rfl)

@[simp] theorem State.submit_rest (s : State) (i o : Nat) (f : Frame) : (State.submit s i o f).rest = s.rest :=
  State.rest_of (State.submit_deep s i o f) (State.submit_calm s i o f)

@[simp] theorem State.sendTo_rest (s : State) (inp node : Nat) (f : Frame) : (State.sendTo s inp node f).rest = s.rest :=
  State.rest_of (State.sendTo_deep s inp node f) (State.sendTo_calm s inp node f)

@[simp] theorem State.mapLocks_rest (s : State) (f : List LockSeq → List LockSeq) : (State.mapLocks s f).rest = s.rest :=
  State.rest_of (State.mapLocks_deep s f) (State.mapLocks_calm s f)

@[simp] theorem State.lockEnds_rest (s : State) (t : Tx) (o : Outc) : (State.lockEnds s t o).rest = s.rest :=
  State.rest_of (State.lockEnds_deep s t o) (State.lockEnds_calm s t o)

@[simp] theorem State.complete_rest (s : State) (k : Nat) (t : Tx) (o : Outc) : (State.complete s k t o).rest = s.rest :=
  State.rest_of (State.complete_deep s k t o) (State.complete_calm s k t o)

@[simp] theorem State.pathLost_rest (s : State) (k : Nat) : (State.pathLost s k).rest = s.rest :=
  State.rest_of (State.pathLost_deep s k) (State.pathLost_calm s k)

@[simp] theorem State.checkPaths_rest (s : State) : (State.checkPaths s).rest = s.rest :=
  State.rest_of (State.checkPaths_deep s) (State.checkPaths_calm s)

@[simp] theorem State.setDomain_rest (s : State) (d : Nat) (m : Domain) :
    (State.setDomain s d m).rest = s.rest := by
  simp [State.setDomain]

@[simp] theorem State.setPoint_rest (s : State) (n : Nat) (x : Point) :
    (State.setPoint s n x).rest = s.rest := by
  simp [State.setPoint]

@[simp] theorem State.setTopo_rest (s : State) (ring st : Nat) (x : Topo) :
    (State.setTopo s ring st x).rest = s.rest := by
  simp [State.setTopo]

@[simp] theorem State.logFault_rest (s : State) (type bit cls rep detail : Nat) :
    (State.logFault s type bit cls rep detail).rest = s.rest := by
  simp [State.logFault]

@[simp] theorem State.noteEnd_rest (s : State) (t : Tx) (o : Outc) :
    (State.noteEnd s t o).rest = s.rest := by
  simp [State.noteEnd]

@[simp] theorem State.finish_rest (s : State) (k g : Nat) (o : Outc) :
    (State.finish s k g o).rest = s.rest := by
  unfold State.finish; repeat' split
  all_goals simp

@[simp] theorem State.respond_rest (s : State) (r : Req) (o : Outc) :
    (State.respond s r o).rest = s.rest := by
  unfold State.respond; repeat' split
  all_goals simp

@[simp] theorem State.refuse_rest (s : State) (r : Req) (status : Nat) :
    (State.refuse s r status).rest = s.rest := by
  simp [State.refuse]

@[simp] theorem State.setPin_rest (s : State) (p x : Nat) (v : Pin) :
    (State.setPin s p x v).rest = s.rest := by
  simp [State.setPin]

@[simp] theorem State.wrBit_rest (s : State) (f : Fld) (i : Nat) (b : Bool) :
    (State.wrBit s f i b).rest = s.rest := by
  simp [State.wrBit]

@[simp] theorem State.refreshPoint_rest (s : State) (n : Nat) :
    (State.refreshPoint s n).rest = s.rest := by
  simp [State.refreshPoint]

@[simp] theorem State.refreshPort_rest (s : State) (p : Nat) :
    (State.refreshPort s p).rest = s.rest := by
  unfold State.refreshPort; refine (rest_foldl _ ?_ _ _).trans ?_
  · intro s x; simp
  · simp

@[simp] theorem State.setLevel_rest (s : State) (p x : Nat) (b : Bool) :
    (State.setLevel s p x b).rest = s.rest := by
  simp [State.setLevel]

@[simp] theorem State.unlatch_rest (s : State) (p x : Nat) :
    (State.unlatch s p x).rest = s.rest := by
  simp [State.unlatch]

@[simp] theorem State.applyDo_rest (s : State) (p x : Nat) (b : Bool) :
    (State.applyDo s p x b).rest = s.rest := by
  simp [State.applyDo]

@[simp] theorem State.pinOff_rest (s : State) (p x : Nat) :
    (State.pinOff s p x).rest = s.rest := by
  simp [State.pinOff]

@[simp] theorem State.setFp_rest (s : State) (p : Nat) (on : Bool) :
    (State.setFp s p on).rest = s.rest := by
  simp [State.setFp]

@[simp] theorem State.fpClearEvent_rest (s : State) (p : Nat) :
    (State.fpClearEvent s p).rest = s.rest := by
  simp [State.fpClearEvent]

@[simp] theorem State.driveFp_rest (s : State) (p : Nat) (on : Bool) :
    (State.driveFp s p on).rest = s.rest := by
  simp [State.driveFp]

@[simp] theorem State.applyFp_rest (s : State) (p : Nat) (on : Bool) :
    (State.applyFp s p on).rest = s.rest := by
  simp [State.applyFp]

@[simp] theorem State.applyAo_rest (s : State) (p type v : Nat) :
    (State.applyAo s p type v).rest = s.rest := by
  simp [State.applyAo]

@[simp] theorem State.applyValue_rest (s : State) (q : Point) (v : Nat) :
    (State.applyValue s q v).rest = s.rest := by
  simp [State.applyValue]

@[simp] theorem State.applySafe_rest (s : State) (q : Point) :
    (State.applySafe s q).rest = s.rest := by
  simp [State.applySafe]

@[simp] theorem State.safeOutputs_rest (s : State) :
    (State.safeOutputs s).rest = s.rest := by
  simp [State.safeOutputs, rest_foldl]

@[simp] theorem State.setBusLock_rest (s : State) (p : Nat) (x : BusLock) :
    (State.setBusLock s p x).rest = s.rest := by
  simp [State.setBusLock]

@[simp] theorem State.freeBus_rest (s : State) (p : Nat) :
    (State.freeBus s p).rest = s.rest := by
  simp [State.freeBus]

@[simp] theorem State.postFail_rest (s : State) (r : Req) :
    (State.postFail s r).rest = s.rest := by
  simp [State.postFail]

@[simp] theorem State.dropOp_rest (s : State) (o : BusOp) (status : Nat) :
    (State.dropOp s o status).rest = s.rest := by
  simp [State.dropOp]

@[simp] theorem State.releaseBus_rest (s : State) (p src tn id : Nat) :
    (State.releaseBus s p src tn id).rest = s.rest := by
  simp [State.releaseBus, rest_foldl]

@[simp] theorem State.safeTwin_rest (s : State) :
    (State.safeTwin s).rest = s.rest := by
  simp [State.safeTwin]

@[simp] theorem State.safeLocks_rest (s : State) :
    (State.safeLocks s).rest = s.rest := by
  unfold State.safeLocks; refine rest_foldl _ ?_ _ _
  intro s x; dsimp only; rw [rest_foldl _ (fun s x => by simp)]
  split <;> simp

@[simp] theorem State.safeBridgeOp_rest (s : State) (o : BusOp) :
    (State.safeBridgeOp s o).rest = s.rest := by
  simp [State.safeBridgeOp]

@[simp] theorem State.dropTunnelled_rest (s : State) :
    (State.dropTunnelled s).rest = s.rest := by
  simp [State.dropTunnelled, rest_foldl]

@[simp] theorem State.safeQueued_rest (s : State) :
    (State.safeQueued s).rest = s.rest := by
  unfold State.safeQueued; dsimp only
  rw [State.dropTunnelled_rest]
  simp only [rest_mk, rest_eta]
  refine (rest_foldl _ ?_ _ _).trans ((rest_foldl _ ?_ _ _).trans ((rest_foldl _ ?_ _ _).trans ?_))
  · rintro s ⟨t, q⟩; dsimp only; rw [rest_foldl]
    · simp
    · intro s x; cases x.req <;> simp
  · rintro s ⟨t, q⟩; dsimp only; rw [rest_foldl _ (fun s x => by simp)]; simp
  · intro s x; simp
  · simp

@[simp] theorem State.firstOccurrence_rest (s : State) (b : Nat) (c : FClass) (detail : Nat) :
    (State.firstOccurrence s b c detail).rest = s.rest := by
  simp [State.firstOccurrence]

@[simp] theorem State.repeatOccurrence_rest (s : State) (b : Nat) (c : FClass) :
    (State.repeatOccurrence s b c).rest = s.rest := by
  simp [State.repeatOccurrence]

@[simp] theorem State.settleDomain_rest (s : State) (d : Nat) :
    (State.settleDomain s d).rest = s.rest := by
  simp [State.settleDomain]

@[simp] theorem State.setAvail_rest (s : State) (d : Nat) (second on : Bool) :
    (State.setAvail s d second on).rest = s.rest := by
  simp [State.setAvail]

@[simp] theorem State.setPath_rest (s : State) (n dir : Nat) (x : SyncPath) :
    (State.setPath s n dir x).rest = s.rest := by
  simp [State.setPath]

@[simp] theorem State.chooseRef_rest (s : State) :
    (State.chooseRef s).rest = s.rest := by
  unfold State.chooseRef; dsimp only; repeat' split
  all_goals simp

@[simp] theorem State.showRec_rest (s : State) :
    (State.showRec s).rest = s.rest := by
  simp [State.showRec]

@[simp] theorem State.losePath_rest (s : State) (n dir : Nat) :
    (State.losePath s n dir).rest = s.rest := by
  simp [State.losePath]

@[simp] theorem State.pathNotice_rest (s : State) (k g : Nat) :
    (State.pathNotice s k g).rest = s.rest := by
  simp [State.pathNotice]

@[simp] theorem State.dropPaths_rest (s : State) :
    (State.dropPaths s).rest = s.rest := by
  unfold State.dropPaths; refine rest_foldl _ ?_ _ _
  intro s x; dsimp only; repeat' split
  all_goals simp

@[simp] theorem State.afterTopo_rest (s : State) (old : NMap Topo) :
    (State.afterTopo s old).rest = s.rest := by
  simp [State.afterTopo]

@[simp] theorem State.cutHops_rest (s : State) (n d : Nat) (p : Topo → Bool) :
    (State.cutHops s n d p).rest = s.rest := by
  simp [State.cutHops, rest_foldl]

@[simp] theorem State.stepPort_rest (s : State) (i : Nat) (f : Port → Port) :
    (State.stepPort s i f).rest = s.rest := by
  simp [State.stepPort]

@[simp] theorem State.reportLoss_rest (s : State) (f : Frame) :
    (State.reportLoss s f).rest = s.rest := by
  simp [State.reportLoss]

@[simp] theorem State.loseFrame_rest (s : State) (i : Nat) :
    (State.loseFrame s i).rest = s.rest := by
  simp [State.loseFrame]

@[simp] theorem State.countWrap_rest (s : State) (i : Nat) :
    (State.countWrap s i).rest = s.rest := by
  simp [State.countWrap]

@[simp] theorem State.wrapFrame_rest (s : State) (i inp : Nat) (f : Frame) :
    (State.wrapFrame s i inp f).rest = s.rest := by
  simp [State.wrapFrame]

@[simp] theorem State.failFrame_rest (s : State) (i inp : Nat) (f : Frame) (sent : Bool) :
    (State.failFrame s i inp f sent).rest = s.rest := by
  simp [State.failFrame]

@[simp] theorem State.failQueued_rest (s : State) (i : Nat) :
    (State.failQueued s i).rest = s.rest := by
  simp [State.failQueued, rest_foldl]

@[simp] theorem State.sendLinkState_rest (s : State) (i : Nat) :
    (State.sendLinkState s i).rest = s.rest := by
  simp [State.sendLinkState]

@[simp] theorem State.dropKeys_rest (s : State) (i : Nat) :
    (State.dropKeys s i).rest = s.rest := by
  simp [State.dropKeys]

@[simp] theorem State.releasePins_rest (s : State) :
    (State.releasePins s).rest = s.rest := by
  simp [State.releasePins, rest_foldl]

theorem State.safeEdges_rest {s : State} (h : s.rest.edges = []) : s.safeEdges.rest = s.rest := by
  unfold State.safeEdges State.rest at *
  rw [show s.td.edges = [] from h]

/-- With no scheduled edge left, the safe state leaves this part too. -/
theorem State.enterSafe_rest {s : State} (cause cls rep : Nat) (h : s.rest.edges = []) : (s.enterSafe cause cls rep).rest = s.rest := by
  unfold State.enterSafe
  split
  · rfl
  · extract_lets u v w
    have hw : w.rest = s.rest := (State.safeTwin_rest _).trans ((State.logFault_rest _ _ _ _ _ _).trans ((State.wr_rest _ _ _).trans
        (State.wr_rest _ _ _)))
    split
    · exact hw
    · unfold State.safeRest
      rw [State.safeQueued_rest, State.safeOutputs_rest, State.safeLocks_rest, State.safeEdges_rest (hw ▸ h), hw]

theorem State.raise_rest {s : State} (b : Nat) (c : FClass) (d : Nat) (h : s.rest.edges = []) : (s.raise b c d).rest = s.rest := by
  unfold State.raise
  split
  · rfl
  · extract_lets u
    have hu : u.rest = s.rest := by
      show (if _ then _ else _ : State).rest = _
      split
      · exact State.repeatOccurrence_rest _ _ _
      · exact State.firstOccurrence_rest _ _ _ _
    split
    · exact (State.enterSafe_rest _ _ _ (hu ▸ h)).trans hu
    · exact hu

theorem State.linkDown_rest {s : State} {i : Nat} (cause : Nat) (hi : i ≠ 4) (h : s.rest.edges = []) : (s.linkDown i cause).rest = s.rest := by
  unfold State.linkDown
  extract_lets p u v w x y z
  have hu : u.rest = s.rest := by
    show (State.dropKeys (if i = 4 then _ else s) i).rest = _
    rw [if_neg hi, State.dropKeys_rest]
  have hv : v.rest = s.rest := (State.setPort_rest _ _ _).trans hu
  have hw : w.rest = s.rest := by
    show (if i < 2 then _ else v : State).rest = _
    split
    · exact (State.wr_rest _ _ _).trans ((State.chooseRef_rest _).trans hv)
    · exact hv
  have hx : x.rest = s.rest := by
    show (if i < 4 then _ else w : State).rest = _
    split
    · exact (State.sendLinkState_rest _ _).trans ((State.cutHops_rest _ _ _ _).trans hw)
    · exact hw
  have hy : y.rest = s.rest := (rest_foldl _ (fun u f => State.failFrame_rest u i i f true) _ _).trans hx
  have hz : z.rest = s.rest := (rest_foldl _ (fun u f => State.failFrame_rest u i i f false) _ _).trans hy
  have hq : (z.failQueued i).rest = s.rest := (State.failQueued_rest _ _).trans hz
  exact (State.raise_rest _ _ _ (hq ▸ h)).trans hq

theorem State.disablePort_rest {s : State} {i : Nat} (hi : i ≠ 4) (h : s.rest.edges = []) : (s.disablePort i).rest = s.rest := by
  unfold State.disablePort
  split
  · rfl
  · exact State.linkDown_rest 1 hi h
  · exact State.stepPort_rest _ _ _
  · exact (State.stepPort_rest _ _ _).trans (State.dropKeys_rest _ _)

end Sys2Proof.Machine
end

section
/-!
PROOFS. The power states (O59): the end of a change of the operating point, entry into DOZE and DORMANT, wakes, and the end of DOZE.
-/
namespace Sys2Proof.Machine

/-! ### DVFS -/

/-- The new operating point of the request is in force. -/
def State.opReached (s : State) (op : Nat) : State :=
  (({ s with pwr := { s.pwr with opReq := none } }).wr R.PWR_STAT_DVFS_BUSY 0).setOp op

theorem bnat_ne_zero (op : Nat) : bnat (decide (op ≠ 0)) % 2 ^ 2 = if op = 0 then 0 else 1 := by
  by_cases h : op = 0 <;> simp [h, bnat]

theorem opFits : R.PWR_STAT_OP.lo + R.PWR_STAT_OP.width ≤ 32 := by decide

theorem powerStateFits : R.PWR_STAT_STATE.lo + R.PWR_STAT_STATE.width ≤ 32 := by decide

theorem dvfsBusyFits : R.PWR_STAT_DVFS_BUSY.lo + R.PWR_STAT_DVFS_BUSY.width ≤ 32 := by decide

theorem State.setOp_rd (s : State) (op : Nat) {f : Fld} (h1 : f.off ≠ 0x20000 ∨ f.lo + f.width ≤ 28) : (s.setOp op).rd f = s.rd f := by
  unfold State.setOp
  rw [State.rd_wr_ne _ _ powerStateFits, State.rd_wr_ne _ _ opFits]
  · rcases h1 with h | h
    · exact .inl fun e => h e.symm
    · exact .inr (.inl h)
  · rcases h1 with h | h
    · exact .inl fun e => h e.symm
    · exact .inr (.inl (by show f.lo + f.width ≤ 30; omega))

theorem State.setOp_op (s : State) {op : Nat} (h : op < 4) : (s.setOp op).rd R.PWR_STAT_OP = op := by
  unfold State.setOp
  rw [State.rd_wr_ne _ _ powerStateFits (.inr (.inl (by decide))), State.rd_wr_same _ _ _ opFits]
  exact Nat.mod_eq_of_lt h

theorem State.setOp_state (s : State) (op : Nat) : (s.setOp op).rd R.PWR_STAT_STATE = if op = 0 then 0 else 1 := by
  unfold State.setOp
  rw [State.rd_wr_same _ _ _ powerStateFits]
  exact bnat_ne_zero op

theorem State.opReached_busy (s : State) (op : Nat) : (s.opReached op).flag R.PWR_STAT_DVFS_BUSY = false := by
  unfold State.opReached State.flag
  rw [State.setOp_rd _ _ (.inr (by decide)), State.rd_wr_same _ _ _ dvfsBusyFits]
  rfl

/-- No POWER waits. -/
def State.noWait (s : State) : State := { s with pwr := { s.pwr with opWait := [] } }

theorem State.opWait_of_deep {s t : State} (h : t.deep = s.deep) : t.pwr.opWait = s.pwr.opWait := congrArg (fun x : Deep => x.power.opWait) h

/-- The request has been carried out. -/
def State.opTaken (s : State) : State := { s with pwr := { s.pwr with opReq := none } }

theorem State.opReached_eq (s : State) (op : Nat) : s.opReached op = (s.opTaken.wr R.PWR_STAT_DVFS_BUSY 0).setOp op := (rfl)

theorem State.opReached_pwr (s : State) (op : Nat) : (s.opReached op).pwr = { s.pwr with opReq := none } := by
  rw [State.opReached_eq, State.setOp, State.wr_pwr, State.wr_pwr, State.wr_pwr]
  rfl

theorem State.opReached_hif (s : State) (op : Nat) : (s.opReached op).hif = s.hif := by
  rw [State.opReached_eq, State.setOp, State.wr_hif, State.wr_hif, State.wr_hif]
  rfl

theorem State.opReached_ring (s : State) (op : Nat) : (s.opReached op).ring = s.ring := by
  rw [State.opReached_eq, State.setOp, State.wr_ring, State.wr_ring, State.wr_ring]
  rfl

theorem State.opReached_opWait (s : State) (op : Nat) : (s.opReached op).pwr.opWait = s.pwr.opWait := by
  rw [State.opReached_pwr]

theorem dvfsDone_ends {s : State} {r : Req} {op : Nat} (h : s.pwr.opReq = some (r, op)) (hw : s.pwr.opWait = []) :
    s.dvfsDone = ((s.opReached op).ok r 0 0).noWait := by
  have hp : ((s.opReached op).ok r 0 0).pwr.opWait = [] := by
    rw [State.opWait_of_deep (State.ok_deep (s.opReached op) r 0 0 []), State.opReached_opWait, hw]
  have hd : s.dvfsDone = ((s.opReached op).ok r 0 0).noWait.powerNext ((s.opReached op).ok r 0 0).pwr.opWait := by
    unfold State.dvfsDone
    rw [h]
    rfl
  rw [hd, hp]
  rfl

/-! ### Wakes -/

theorem wake_disabled {s : State} {n : Nat} (h : bit (s.word 0x20040) n = false ∨ (s.pwr.entry = none ∧ s.pwr.asleep = false)) : s.wake n = s := by
  unfold State.wake
  by_cases hb : bit (s.word 0x20040) n = true
  · obtain h | ⟨he, ha⟩ := h
    · rw [hb] at h; cases h
    · dsimp only
      rw [if_neg (not_not_intro hb), he, ha]
      rfl
  · exact if_pos hb

/-- Wake `n` is noted. -/
def State.noted (s : State) (n : Nat) : State := { s with pwr := { s.pwr with early := setBits s.pwr.early n 1 1 } }

theorem wake_entering {s : State} {n : Nat} (hb : bit (s.word 0x20040) n = true) (he : s.pwr.entry.isSome = true) : s.wake n = s.noted n :=
  (if_neg (not_not_intro hb)).trans (if_pos he)

theorem wake_asleep {s : State} {n : Nat} (hb : bit (s.word 0x20040) n = true) (he : s.pwr.entry = none) (ha : s.pwr.asleep = true) :
    s.wake n = (s.noted n).wr R.PWR_WAKE_SRC_SRC (setBits s.pwr.early n 1 1) := by
  refine (if_neg (not_not_intro hb)).trans ((if_neg ?_).trans (if_pos ha))
  rw [he]
  exact Bool.false_ne_true

theorem bit_setBits_one (x n : Nat) : bit (setBits x n 1 1) n = true := by
  rw [bit_eq, testBit_setBits, if_neg (Nat.lt_irrefl n), if_pos (by omega), Nat.sub_self]
  rfl

theorem bit_wakeSrc (s : State) {n : Nat} (h : n < 5) (x : Nat) : bit ((s.wr R.PWR_WAKE_SRC_SRC x).rd R.PWR_WAKE_SRC_SRC) n = bit x n := by
  rw [State.rd_wr_same _ _ _ (by decide), bit_eq, bit_eq, Nat.testBit_mod_two_pow]
  simp [show n < R.PWR_WAKE_SRC_SRC.width from h]

/-! ### Entry into DOZE -/

/-- The time unit as DOZE keeps it. -/
def State.timeLost (s : State) : State := { s with td := { s.td with edges := [], paths := [], ptp := [], ppsAt := none, ppsOk := false, ref :=
    .own } }

/-- The queue manager holds back what it would fetch. -/
def State.fetchHeld (s : State) : State := { s with hif := { s.hif with fetchHold := true } }

/-- The sources of domain `d` are gone. -/
def State.sourcesLost (s : State) (d : Nat) : State :=
  if (s.domain d).pOk ∨ (s.domain d).sOk then
    (s.setDomain d { s.domain d with pOk := false, sOk := false, primRun := 0 }).settleDomain d else s

theorem State.sourcesLost_rest (s : State) (d : Nat) : (s.sourcesLost d).rest = s.rest := by
  unfold State.sourcesLost
  split
  · exact (State.settleDomain_rest _ _).trans (State.setDomain_rest _ _ _)
  · rfl

theorem State.timeLost_rest (s : State) : s.timeLost.rest = ⟨s.eng, s.rfx.act, s.hif.fetchHold, []⟩ := (rfl)

theorem State.rest_fields {s t : State} (h : t.rest = s.rest) : t.eng = s.eng ∧ t.rfx.act = s.rfx.act ∧ t.hif.fetchHold = s.hif.fetchHold ∧
    t.td.edges = s.td.edges := ⟨congrArg Rest.eng h, congrArg Rest.act h, congrArg Rest.fetchHold h, congrArg Rest.edges h⟩

theorem State.dozeTime_rest (s : State) : s.dozeTime.rest = ⟨s.eng, s.rfx.act, s.hif.fetchHold, []⟩ := by
  unfold State.dozeTime
  extract_lets u
  have hu : u.rest = s.rest := by
    refine Quiet.foldl (g := State.rest) _ (fun w d => ?_) _ _
    exact State.sourcesLost_rest w d
  clear_value u
  obtain ⟨h1, h2, h3, -⟩ := State.rest_fields hu
  rw [← h1, ← h2, ← h3]
  exact State.timeLost_rest u

/-- The state in which CORE, KAOLIN and MARL are about to lose what they hold. -/
def State.quieted (s : State) : State := ((s.fetchHeld.dozeTime.releasePins).disablePort 2).disablePort 3

theorem State.quieted_rest (s : State) : s.quieted.rest = ⟨s.eng, s.rfx.act, true, []⟩ := by
  have h1 : s.fetchHeld.dozeTime.releasePins.rest = ⟨s.eng, s.rfx.act, true, []⟩ := (State.releasePins_rest _).trans (State.dozeTime_rest _)
  have h2 := (State.disablePort_rest (i := 2) (by decide) (show s.fetchHeld.dozeTime.releasePins.rest.edges = [] by rw [h1])).trans h1
  exact (State.disablePort_rest (i := 3) (by decide) (by rw [h2])).trans h2

/-- What is left of the blocks that lose power, of the queue manager and of the time unit. -/
def State.left (s : State) : Switch × Tgt × PctlSt × NMap Word × NMap Byte × Hif × TimeSt :=
  (s.sw, s.tgt, s.pctl, s.eng.prog, s.rfx.act, s.hif, s.td)

theorem State.dozeLoss_left (s : State) : s.dozeLoss.left = ({}, {}, {}, s.eng.prog, s.rfx.act, s.hif, s.td) := by
  unfold State.dozeLoss
  extract_lets cyc _ rows u v
  have hu : u.left = ({}, {}, {}, s.eng.prog, s.rfx.act, s.hif, s.td) := rfl
  have hv : v.left = u.left := by
    refine Quiet.foldl (g := State.left) _ (fun w i => ?_) _ _
    rfl
  clear_value v
  refine (Quiet.foldl (g := State.left) _ (fun w i => ?_) _ _).trans (hv.trans hu)
  rfl

/-- The hub sleeps. -/
def State.dozing (s : State) : State := { s with pwr := { s.pwr with entry := none, asleep := true, state := .doze } }

/-- A wake that came during entry is served at once. -/
def State.wakeEarly (s : State) (early : Nat) : State :=
  if early = 0 then s else (s.wr R.PWR_WAKE_SRC_SRC early).wr R.PWR_WAKE_SRC_DURING_ENTRY 1

theorem State.dozing_left (s : State) : s.dozing.left = s.left := rfl

theorem State.dozing_pwr (s : State) : s.dozing.pwr.asleep = true ∧ s.dozing.pwr.state = .doze ∧ s.dozing.pwr.entry = none := ⟨rfl, rfl, rfl⟩

theorem State.wakeEarly_left (s : State) (early : Nat) : (s.wakeEarly early).left = s.left := by
  unfold State.wakeEarly
  split <;> rfl

theorem State.wakeEarly_pwr (s : State) (early : Nat) : (s.wakeEarly early).pwr = s.pwr := by
  unfold State.wakeEarly
  split
  · rfl
  · exact (State.wr_pwr _ _ _).trans (State.wr_pwr _ _ _)

theorem State.dozeEnter_eq (s : State) : s.dozeEnter = s.quieted.dozeLoss.dozing.wakeEarly s.quieted.dozeLoss.pwr.early := by
  unfold State.dozeEnter State.quieted State.fetchHeld State.dozing State.wakeEarly
  rfl

theorem State.dozeEnter_does (s : State) : s.dozeEnter.pwr.asleep = true ∧ s.dozeEnter.pwr.state = .doze ∧ s.dozeEnter.pwr.entry = none ∧
    s.dozeEnter.sw = {} ∧ s.dozeEnter.tgt = {} ∧ s.dozeEnter.pctl = {} ∧ s.dozeEnter.eng.prog = s.eng.prog ∧ s.dozeEnter.rfx.act = s.rfx.act ∧
    s.dozeEnter.hif.fetchHold = true ∧ s.dozeEnter.td.edges = [] := by
  obtain ⟨h1, h2, h3, h4⟩ : s.quieted.eng = s.eng ∧ s.quieted.rfx.act = s.rfx.act ∧ s.quieted.hif.fetchHold = true ∧ s.quieted.td.edges = [] :=
    have h := s.quieted_rest
    ⟨congrArg Rest.eng h, congrArg Rest.act h, congrArg Rest.fetchHold h, congrArg Rest.edges h⟩
  have hl : s.dozeEnter.left = ({}, {}, {}, s.quieted.eng.prog, s.quieted.rfx.act, s.quieted.hif, s.quieted.td) := by
    rw [State.dozeEnter_eq, State.wakeEarly_left, State.dozing_left, State.dozeLoss_left]
  simp only [State.left, Prod.mk.injEq] at hl
  obtain ⟨l1, l2, l3, l4, l5, l6, l7⟩ := hl
  rw [l1, l2, l3, l4, l5, l6, l7, h1, h2, h3, h4, State.dozeEnter_eq, State.wakeEarly_pwr]
  obtain ⟨d1, d2, d3⟩ := State.dozing_pwr s.quieted.dozeLoss
  rw [d1, d2, d3]
  simp only [and_self]

/-! ### The end of DOZE -/

/-- The word of PWR_STAT, that of PWR_RET_STAT, or that of SW_STAT. -/
def powerWord (o : Nat) : Prop := o = 0x20000 ∨ o = 0x20048 ∨ o = 0x80000

theorem State.word_wr_power (s : State) (f : Fld) (v : Nat) {o : Nat} (ho : powerWord o) (hf : ¬ powerWord f.off) : (s.wr f v).word o = s.word o :=
  State.word_wr_ne s f v fun h => hf (h ▸ ho)

/-- Island `i` runs from IOSC. -/
def State.islandOnOsc (s : State) (i : Nat) : State := ((s.wr (R.CLK_ISL_CUR i) 0).wr (R.CLK_ISL_SEL i) 0).wr (R.CLK_ISL_PENDING i) 0

theorem State.islandOnOsc_word (s : State) {i : Nat} (hi : i ≤ 39) {o : Nat} (ho : powerWord o) : (s.islandOnOsc i).word o = s.word o := by
  have hn : ¬ powerWord (0x10100 + 0x4 * i) := by
    unfold powerWord
    omega
  unfold State.islandOnOsc
  rw [State.word_wr_power _ _ _ ho hn, State.word_wr_power _ _ _ ho hn, State.word_wr_power _ _ _ ho hn]

/-- The PLLs are unlocked, and the state shows it. -/
def State.oscShown (s : State) : State := (({ s with pwr := { s.pwr with autoOsc :=
    true } } : State).lockPlls false false false).wr R.PWR_STAT_ON_OSC 1

theorem switchable_le {i : Nat} (h : isSwitchable i = true) : i ≤ 39 := by
  have := of_decide_eq_true h
  omega

theorem State.onOsc_word (s : State) {o : Nat} (ho : powerWord o) : s.onOsc.word o = s.oscShown.word o := by
  unfold State.onOsc
  refine Quiet.foldl (g := fun t => t.word o) _ (fun w i => ?_) _ _
  split
  · next h => exact State.islandOnOsc_word w (switchable_le h) ho
  · rfl

/-- What a hub that wakes shows beside its registers. -/
def State.awakeAs (s : State) : Bool × PState × Nat × Bool := (s.pwr.asleep, s.pwr.state, s.pwr.early, s.hif.fetchHold)

theorem State.wr_awakeAs (s : State) (f : Fld) (v : Nat) : (s.wr f v).awakeAs = s.awakeAs := by
  unfold State.awakeAs
  rw [State.wr_pwr, State.wr_hif]

theorem State.lockPlls_awakeAs (s : State) (a b : Bool) : (s.lockPlls a b false).awakeAs = s.awakeAs := by
  unfold State.lockPlls
  dsimp only
  rw [if_pos Bool.false_ne_true, State.wr_awakeAs, State.wr_awakeAs]

theorem State.awake_fields {s : State} {a d : Bool} {b : PState} {c : Nat} (h : s.awakeAs = (a, b, c, d)) :
    s.pwr.asleep = a ∧ s.pwr.state = b ∧ s.pwr.early = c ∧ s.hif.fetchHold = d := by
  simpa only [State.awakeAs, Prod.mk.injEq] using h

theorem State.oscShown_awakeAs (s : State) : s.oscShown.awakeAs = s.awakeAs := by
  unfold State.oscShown
  rw [State.wr_awakeAs, State.lockPlls_awakeAs]
  rfl

theorem State.onOsc_awakeAs (s : State) : s.onOsc.awakeAs = s.awakeAs := by
  unfold State.onOsc
  refine (Quiet.foldl (g := State.awakeAs) _ (fun w i => ?_) _ _).trans (State.oscShown_awakeAs s)
  split
  · rw [State.wr_awakeAs, State.wr_awakeAs, State.wr_awakeAs]
  · rfl

theorem State.onOsc_flag (s : State) : s.onOsc.flag R.PWR_STAT_ON_OSC = true := by
  unfold State.flag State.rd
  rw [State.onOsc_word s (o := R.PWR_STAT_ON_OSC.off) (.inl rfl)]
  have h : s.oscShown.rd R.PWR_STAT_ON_OSC = 1 := State.rd_wr_same _ _ _ (by decide)
  unfold State.rd at h
  rw [h]
  rfl

theorem State.markRows_word (s : State) (o : Nat) : s.markRows.word o = s.word o := by
  unfold State.markRows
  refine Quiet.foldl (g := fun t => t.word o) _ (fun w n => ?_) _ _
  rfl

theorem State.placeRows_word (s : State) (ok : List Nat) (old : Option (NMap Byte)) {o : Nat} (ho : powerWord o) :
    (s.placeRows ok old).word o = s.word o := by
  unfold State.placeRows
  dsimp only
  rw [State.markRows_word]
  refine (Quiet.foldl (g := fun t => t.word o) _ (fun w n => ?_) _ _).trans rfl
  split
  · rfl
  · exact (State.word_wr_power _ _ _ ho (by unfold powerWord; show ¬ (0xa0400 + 0x4 * n = _ ∨ 0xa0400 + 0x4 * n = _ ∨ 0xa0400 + 0x4 * n = _); omega))

theorem State.markRows_awakeAs (s : State) : s.markRows.awakeAs = s.awakeAs := by
  unfold State.markRows
  refine Quiet.foldl (g := State.awakeAs) _ (fun w n => ?_) _ _
  rfl

theorem State.placeRows_awakeAs (s : State) (ok : List Nat) (old : Option (NMap Byte)) : (s.placeRows ok old).awakeAs = s.awakeAs := by
  unfold State.placeRows
  dsimp only
  rw [State.markRows_awakeAs]
  refine (Quiet.foldl (g := State.awakeAs) _ (fun w n => ?_) _ _).trans rfl
  split <;> rfl

theorem State.showRows_word (s : State) (ok : List Nat) {o : Nat} (ho : powerWord o) : (s.showRows ok).word o = s.word o := by
  unfold State.showRows
  refine (Quiet.foldl (g := fun t => t.word o) _ (fun w n => ?_) _ _).trans (State.word_wr_power _ _ _ ho (by unfold powerWord; decide))
  exact State.word_wr_power _ _ _ ho (by unfold powerWord; show ¬ (0xa0400 + 0x4 * n = _ ∨ 0xa0400 + 0x4 * n = _ ∨ 0xa0400 + 0x4 * n = _); omega)

theorem State.showRows_awakeAs (s : State) (ok : List Nat) : (s.showRows ok).awakeAs = s.awakeAs := by
  unfold State.showRows
  refine (Quiet.foldl (g := State.awakeAs) _ (fun w n => ?_) _ _).trans rfl
  rfl

theorem State.rowsBack_word (s : State) {o : Nat} (ho : powerWord o) : s.rowsBack.word o = s.word o :=
  (State.placeRows_word _ _ _ ho).trans (State.showRows_word _ _ ho)

theorem State.rowsBack_awakeAs (s : State) : s.rowsBack.awakeAs = s.awakeAs := (State.placeRows_awakeAs _ _ _).trans (State.showRows_awakeAs _ _)

theorem State.refreshAll_regs (s : State) : s.refreshAll.regs = s.regs := Quiet.foldl (g := State.regs) State.refreshPoint State.refreshPoint_regs _ _

theorem State.refreshAll_awakeAs (s : State) : s.refreshAll.awakeAs = s.awakeAs :=
  Quiet.foldl (g := State.awakeAs) State.refreshPoint (fun w n => by
    unfold State.awakeAs
    rw [quiet_pwr.refreshPoint, quiet_hif.refreshPoint]) _ _

/-- The hub runs again, with no wake noted. -/
def State.awoken (s : State) : State :=
  { s with hif := { s.hif with fetchHold := false }, pwr := { s.pwr with asleep := false, state := .run, early := 0 } }

/-- The operating point is shown again, and no bank has failed. -/
def State.backOn (s : State) : State := (s.awoken.onOsc.setOp (s.awoken.rd R.PWR_STAT_OP)).wr R.PWR_RET_STAT_FAILED 0

theorem State.backOn_awakeAs (s : State) : s.backOn.awakeAs = (false, .run, 0, false) := by
  unfold State.backOn State.setOp
  rw [State.wr_awakeAs, State.wr_awakeAs, State.wr_awakeAs, State.onOsc_awakeAs]
  rfl

/-- Every table region synchronises. -/
def State.syncAll (s : State) : State := (List.range 4).foldl (fun s r => s.wr (syncingFld r) 1) s

theorem State.syncAll_word (s : State) {o : Nat} (ho : powerWord o) : s.syncAll.word o = s.word o := by
  unfold State.syncAll
  refine Quiet.foldl (g := fun t => t.word o) _ (fun w n => ?_) _ _
  exact State.word_wr_power _ _ _ ho (by unfold powerWord; show ¬ (0xA0010 = _ ∨ 0xA0010 = _ ∨ 0xA0010 = _); decide)

theorem State.syncAll_awakeAs (s : State) : s.syncAll.awakeAs = s.awakeAs := by
  unfold State.syncAll
  refine Quiet.foldl (g := State.awakeAs) _ (fun w n => ?_) _ _
  rfl

theorem State.dozeLeave_none (s : State) : s.dozeLeave [] [] = (s.backOn.syncAll.rowsBack.wr R.SW_STAT_MODE mShared).refreshAll := by
  unfold State.dozeLeave State.backOn State.awoken State.syncAll
  rfl

theorem State.rd_of_word {s t : State} {f : Fld} (h : t.word f.off = s.word f.off) : t.rd f = s.rd f := by
  unfold State.rd
  rw [h]

theorem State.dozeLeave_does (s : State) : (s.dozeLeave [] []).awakeAs = (false, .run, 0, false) ∧
    (s.dozeLeave [] []).flag R.PWR_STAT_ON_OSC = true ∧ (s.dozeLeave [] []).rd R.PWR_RET_STAT_FAILED = 0 ∧
    (s.dozeLeave [] []).rd R.SW_STAT_MODE = mShared := by
  have hr : ∀ f, (s.dozeLeave [] []).rd f = (s.backOn.syncAll.rowsBack.wr R.SW_STAT_MODE mShared).rd f := fun f => by
    rw [State.dozeLeave_none, State.rd_of_regs (State.refreshAll_regs _)]
  have hw : ∀ f : Fld, f.off = 0x20000 ∨ f.off = 0x20048 → (s.dozeLeave [] []).rd f = s.backOn.rd f := fun f hf => by
    have hp : powerWord f.off := hf.elim .inl fun h => .inr (.inl h)
    rw [hr, State.rd_wr_ne _ _ (by decide) (.inl (by show 0x80000 ≠ f.off; omega)),
      State.rd_of_word ((State.rowsBack_word _ hp).trans (State.syncAll_word _ hp))]
  refine ⟨?_, ?_, ?_, ?_⟩
  · rw [State.dozeLeave_none, State.refreshAll_awakeAs, State.wr_awakeAs, State.rowsBack_awakeAs, State.syncAll_awakeAs, State.backOn_awakeAs]
  · unfold State.flag
    rw [hw _ (.inl rfl), State.backOn, State.rd_wr_ne _ _ (by decide) (.inl (by decide)), State.setOp_rd _ _ (.inr (by decide))]
    exact State.onOsc_flag _
  · rw [hw _ (.inr rfl), State.backOn, State.rd_wr_same _ _ _ (by decide)]
    rfl
  · rw [hr, State.rd_wr_same _ _ _ (by decide)]
    rfl

/-! ### Reload -/

theorem bit_of_rd (s : State) (f : Fld) {b : Nat} (h : b < f.width) : bit (s.rd f) b = (s.word f.off).testBit (f.lo + b) := by
  rw [State.rd, bit_eq, testBit_bits]
  simp [h]

/-- Bank `b` no longer asks to be reloaded. -/
def State.askedNoMore (s : State) (b : Nat) : State := s.wr ⟨0x20048, 8 + b, 1⟩ 0

theorem State.askedNoMore_bit (s : State) {b : Nat} (h : b < 8) : bit ((s.askedNoMore b).rd R.PWR_RET_STAT_RELOAD) b = false := by
  have hz : (s.askedNoMore b).rd ⟨0x20048, 8 + b, 1⟩ = 0 := State.rd_wr_same _ _ _ (by show 8 + b + 1 ≤ 32; omega)
  have h1 : bit ((s.askedNoMore b).rd ⟨0x20048, 8 + b, 1⟩) 0 = false := by
    rw [hz]
    rfl
  rw [bit_of_rd _ _ (by show 0 < 1; decide)] at h1
  rw [bit_of_rd _ _ (by show b < 8; exact h)]
  exact h1

theorem State.askedNoMore_failed (s : State) (b : Nat) (h : b < 8) : (s.askedNoMore b).rd R.PWR_RET_STAT_FAILED = s.rd R.PWR_RET_STAT_FAILED := by
  unfold State.askedNoMore
  exact State.rd_wr_ne s _ (by show 8 + b + 1 ≤ 32; omega) (.inr (.inl (by show 0 + 8 ≤ 8 + b; omega)))

/-- The power path starts again after DORMANT. -/
def State.feedBack (s : State) : State := s.setPwr { s.pwr with path := if s.pwr.held then .seated else .feed }

theorem dormantWake_fed {s : State} (hs : s.pwr.state = .dormant) (hp : s.pwr.path = .none) (hf : 0 ∈ s.pwr.present ∨ 1 ∈ s.pwr.present) :
    s.dormantWake = s.feedBack.showPower := if_pos ⟨hs, hp, hf⟩

theorem dormantWake_unfed {s : State} (h0 : 0 ∉ s.pwr.present) (h1 : 1 ∉ s.pwr.present) : s.dormantWake = s :=
  if_neg fun h => h.2.2.elim h0 h1

/-- Settles O59: what each power state keeps and loses, and how it ends. -/
theorem powerStates : Obligations.PowerStates := by
  unfold Obligations.PowerStates
  refine ⟨fun r op s h hw ho => ⟨s.opReached op, ?_, ?_⟩, fun s h => ?_, fun s he hd => ⟨s.dozeEnter, if_pos ⟨he, hd⟩, s.dozeEnter_does⟩,
    fun s h => if_neg ?_, fun n s hb he => ⟨s.noted n, ?_, bit_setBits_one _ _, rfl, rfl⟩, fun n s hb he ha => ⟨(s.noted n).wr R.PWR_WAKE_SRC_SRC
        (setBits s.pwr.early n 1 1), ?_, ?_⟩,
    fun n s h => congrArg Host.Outcome.next (wake_disabled h), fun s ha he => ⟨s.dozeLeave [] [], ?_, ?_⟩, fun f b s h => if_neg ?_,
    fun b s h => ⟨s.askedNoMore b, if_pos h, State.askedNoMore_bit s b.isLt, State.askedNoMore_failed s b b.isLt, State.wr_pts _ _ _,
      State.wr_rfx _ _ _⟩, fun b s h => if_neg (Bool.eq_false_iff.mp h),
    fun s he hd hz => ?_, fun s h => if_neg ?_, fun s hs hp hf => ⟨⟨s.feedBack, ?_, rfl, rfl, rfl⟩, rfl, rfl⟩, fun s h0 h1 => ?_,
    fun s h => if_pos h, fun s h hs => (if_neg h).trans (if_neg hs), fun s h hs => (if_neg h).trans (if_pos hs)⟩
  · exact congrArg (fun t : State => Host.Outcome.next t.settle) (dvfsDone_ends h hw)
  · have hb := s.opReached_busy op
    refine ⟨State.setOp_op _ ho, hb, ?_, State.setOp_state _ op, s.opReached_hif op, s.opReached_ring op⟩
    rw [State.opReached_pwr]
  · refine congrArg (fun t : State => Host.Outcome.next t.settle) ?_
    unfold State.dvfsDone
    rw [h]
  · rintro ⟨he, hd⟩
    exact h.elim (· he) fun h => Bool.eq_false_iff.mp h hd
  · exact congrArg Host.Outcome.next (wake_entering hb he)
  · exact congrArg Host.Outcome.next (wake_asleep hb he ha)
  · beta_reduce
    rw [State.wr_pwr, bit_wakeSrc _ n.isLt, bit_setBits_one]
    exact ⟨bit_setBits_one _ _, rfl, ha⟩
  · exact if_pos ⟨ha, he⟩
  · obtain ⟨h1, h2, h3, h4⟩ := s.dozeLeave_does
    obtain ⟨ha, hs, he, hf⟩ := State.awake_fields h1
    exact ⟨ha, hs, he, hf, h2, h3, h4⟩
  · rintro ⟨ha, he⟩
    exact h.elim (fun h => Bool.eq_false_iff.mp h ha) he
  · refine (if_pos ⟨he, hd⟩).trans ?_
    exact congrArg Host.Outcome.next (if_pos hz)
  · rintro ⟨he, hd⟩
    exact h.elim (· he) fun h => Bool.eq_false_iff.mp h hd
  · exact congrArg Host.Outcome.next (dormantWake_fed hs hp hf)
  · exact congrArg Host.Outcome.next (dormantWake_unfed h0 h1)

end Sys2Proof.Machine
end

section
/-!
PROOFS. Clocks, die-to-die links, cores and module supplies (chapters 20 and 22): the PLLs that lock, a source that fails, the islands that are
forced or switched, the gates, the frequency counter and the module supplies.
-/

namespace Sys2Proof.Machine

/-! ### The fields of an island and those of the sources -/

theorem islandSelFits (i : Nat) : (R.CLK_ISL_SEL i).lo + (R.CLK_ISL_SEL i).width ≤ 32 := by show 30 + 1 ≤ 32; decide
theorem islandPendingFits (i : Nat) : (R.CLK_ISL_PENDING i).lo + (R.CLK_ISL_PENDING i).width ≤ 32 := by show 29 + 1 ≤ 32; decide
theorem islandForcedFits (i : Nat) : (R.CLK_ISL_FORCED i).lo + (R.CLK_ISL_FORCED i).width ≤ 32 := by show 28 + 1 ≤ 32; decide
theorem islandCurFits (i : Nat) : (R.CLK_ISL_CUR i).lo + (R.CLK_ISL_CUR i).width ≤ 32 := by show 0 + 3 ≤ 32; decide
theorem islandEnFits (i : Nat) : (R.CLK_ISL_EN i).lo + (R.CLK_ISL_EN i).width ≤ 32 := by show 31 + 1 ≤ 32; decide
theorem clkLockFits : R.CLK_STATUS_LOCK.lo + R.CLK_STATUS_LOCK.width ≤ 32 := by decide
theorem clkRunFits : R.CLK_STATUS_RUN.lo + R.CLK_STATUS_RUN.width ≤ 32 := by decide

theorem pllOf_lt (i : Nat) : pllOf i % 2 ^ 3 = pllOf i := by
  unfold pllOf
  split <;> rfl

theorem bnat_flag_bit (b : Bool) : decide (bnat b % 2 ^ 1 ≠ 0) = b := by cases b <;> rfl

/-- The sources run as the state of the words shows it. -/
theorem State.srcRuns_of {s t : State} (h : t.rd R.CLK_STATUS_RUN = s.rd R.CLK_STATUS_RUN) (n : Nat) : t.srcRuns n = s.srcRuns n := by
  unfold State.srcRuns
  rw [h]

theorem bit_low (x w : Nat) {n : Nat} (h : n < w) : bit (x % 2 ^ w) n = bit x n := by
  rw [bit_eq, bit_eq, Nat.testBit_mod_two_pow, decide_eq_true h, Bool.true_and]

theorem State.srcRuns_wr (s : State) (v : Nat) {n : Nat} (h : n < 7) : (s.wr R.CLK_STATUS_RUN v).srcRuns n = bit v n := by
  unfold State.srcRuns
  rw [State.rd_wr_same _ _ _ clkRunFits]
  exact bit_low v 7 h

/-! ### The PLLs lock -/

/-- The PLLs are locked as `a` and `b` say, and no island has moved. -/
def State.pllsShown (s : State) (a b : Bool) : State :=
  (s.wr R.CLK_STATUS_LOCK (bnat a + 2 * bnat b)).wr R.CLK_STATUS_RUN (setBits (setBits (s.rd R.CLK_STATUS_RUN) 5 1 (bnat a)) 6 1 (bnat b))

theorem State.pllsShown_lock (s : State) (a b : Bool) : (s.pllsShown a b).rd R.CLK_STATUS_LOCK = bnat a + 2 * bnat b := by
  unfold State.pllsShown
  rw [State.rd_wr_ne _ _ clkRunFits (.inr (.inr (by decide))), State.rd_wr_same _ _ _ clkLockFits]
  cases a <;> cases b <;> rfl

theorem State.pllsShown_runs (s : State) (a b : Bool) : (s.pllsShown a b).srcRuns 5 = a ∧ (s.pllsShown a b).srcRuns 6 = b := by
  unfold State.pllsShown
  rw [State.srcRuns_wr _ _ (by decide), State.srcRuns_wr _ _ (by decide), bit_setBits_same, bit_setBits_ne _ _ (by decide), bit_setBits_same]
  exact ⟨rfl, rfl⟩

theorem State.pllsShown_island (s : State) (a b : Bool) {i : Nat} : (s.pllsShown a b).rd (R.CLK_ISL_CUR i) = s.rd (R.CLK_ISL_CUR i) := by
  unfold State.pllsShown
  rw [State.rd_wr_ne _ _ clkRunFits (.inl (by show 0x10004 ≠ 0x10100 + 0x4 * i; omega)),
    State.rd_wr_ne _ _ clkLockFits (.inl (by show 0x10004 ≠ 0x10100 + 0x4 * i; omega))]

/-- Island `i` moves to its PLL. -/
def State.toPll (s : State) (i : Nat) : State :=
  ((s.wr (R.CLK_ISL_SEL i) 1).wr (R.CLK_ISL_CUR i) (pllOf i)).wr (R.CLK_ISL_FORCED i) 0

def State.moveIsland (s : State) (i : Nat) : State := if isSwitchable i ∧ s.srcRuns (pllOf i) then s.toPll i else s

theorem State.lockPlls_move (s : State) (a b : Bool) : s.lockPlls a b true = (List.range 41).foldl State.moveIsland (s.pllsShown a b) := (rfl)

theorem State.toPll_rd (s : State) (i : Nat) {f : Fld} (h : f.off ≠ 0x10100 + 0x4 * i) : (s.toPll i).rd f = s.rd f := by
  unfold State.toPll
  rw [State.rd_wr_ne _ _ (islandForcedFits i) (.inl h.symm), State.rd_wr_ne _ _ (islandCurFits i) (.inl h.symm),
    State.rd_wr_ne _ _ (islandSelFits i) (.inl h.symm)]

theorem State.toPll_cur (s : State) (i : Nat) : (s.toPll i).rd (R.CLK_ISL_CUR i) = pllOf i := by
  unfold State.toPll
  rw [State.rd_wr_ne _ _ (islandForcedFits i) (.inr (.inl (by show 0 + 3 ≤ 28; decide))), State.rd_wr_same _ _ _ (islandCurFits i)]
  exact pllOf_lt i

theorem State.toPll_sel (s : State) (i : Nat) : (s.toPll i).flag (R.CLK_ISL_SEL i) = true := by
  unfold State.toPll
  rw [State.flag_wr_ne _ _ (islandForcedFits i) (.inr (.inr (by show 28 + 1 ≤ 30; decide))),
    State.flag_wr_ne _ _ (islandCurFits i) (.inr (.inr (by show 0 + 3 ≤ 30; decide))), State.flag_wr_same _ _ _ (islandSelFits i)]
  exact decide_eq_true (by show 1 % 2 ^ 1 ≠ 0; decide)

theorem State.moveIsland_rd (s : State) (i : Nat) {f : Fld} (h : f.off ≠ 0x10100 + 0x4 * i) : (s.moveIsland i).rd f = s.rd f := by
  unfold State.moveIsland
  split
  · exact State.toPll_rd s i h
  · rfl

theorem State.moved_status (s : State) (l : List Nat) {f : Fld} (h : f.off = 0x10004) : (l.foldl State.moveIsland s).rd f = s.rd f :=
  Quiet.foldl (g := fun t => t.rd f) State.moveIsland (fun t i => State.moveIsland_rd t i (by rw [h]; omega)) _ _

/-- An island of a PLL that runs moves to it, once. -/
theorem State.moved_island (s : State) {k : Nat} (hk : k < 41) (hsw : isSwitchable k = true) (hr : s.srcRuns (pllOf k) = true) :
    ((List.range 41).foldl State.moveIsland s).rd (R.CLK_ISL_CUR k) = pllOf k ∧
    ((List.range 41).foldl State.moveIsland s).flag (R.CLK_ISL_SEL k) = true := by
  have h := foldl_at (f := State.moveIsland) (g := fun t => (t.rd R.CLK_STATUS_RUN, t.rd (R.CLK_ISL_CUR k), t.flag (R.CLK_ISL_SEL k)))
    (h := fun x => if bit x.1 (pllOf k) then (x.1, pllOf k, true) else x) (k := k)
    (fun t j hj => by
      have hne : ∀ f : Fld, f.off = 0x10100 + 0x4 * k → f.off ≠ 0x10100 + 0x4 * j := fun f hf => by omega
      simp only [State.flag, State.moveIsland_rd t j (f := R.CLK_STATUS_RUN) (by show 0x10004 ≠ _; omega),
        State.moveIsland_rd t j (hne (R.CLK_ISL_CUR k) rfl), State.moveIsland_rd t j (hne (R.CLK_ISL_SEL k) rfl)])
    (fun t => by
      unfold State.moveIsland
      by_cases hb : t.srcRuns (pllOf k) = true
      · rw [if_pos ⟨hsw, hb⟩, State.toPll_cur, State.toPll_sel, State.toPll_rd t k (f := R.CLK_STATUS_RUN) (by show 0x10004 ≠ _; omega)]
        exact (if_pos hb).symm
      · rw [if_neg fun h => hb h.2]
        exact (if_neg hb).symm)
    List.nodup_range (List.mem_range.mpr hk) s
  rw [if_pos (show bit (s.rd R.CLK_STATUS_RUN) (pllOf k) = true from hr)] at h
  exact ⟨congrArg (fun x => x.2.1) h, congrArg (fun x => x.2.2) h⟩

/-- With both PLLs locked, what the sources and two of the islands show after the move. -/
theorem State.lockPlls_moved (s : State) : (s.lockPlls true true true).rd R.CLK_STATUS_LOCK = 3 ∧ (s.lockPlls true true true).srcRuns 5 = true ∧
    (s.lockPlls true true true).srcRuns 6 = true ∧ (s.lockPlls true true true).rd (R.CLK_ISL_CUR 9) = 5 ∧
    (s.lockPlls true true true).rd (R.CLK_ISL_CUR 10) = 6 ∧ (s.lockPlls true true true).flag (R.CLK_ISL_SEL 10) = true := by
  rw [State.lockPlls_move]
  obtain ⟨ha, hb⟩ := s.pllsShown_runs true true
  obtain ⟨h9, -⟩ := (s.pllsShown true true).moved_island (k := 9) (by decide) (by decide) ha
  obtain ⟨h10, hs10⟩ := (s.pllsShown true true).moved_island (k := 10) (by decide) (by decide) hb
  have hr := (s.pllsShown true true).moved_status (List.range 41) (f := R.CLK_STATUS_RUN) rfl
  have hl := (s.pllsShown true true).moved_status (List.range 41) (f := R.CLK_STATUS_LOCK) rfl
  refine ⟨?_, ?_, ?_, h9, h10, hs10⟩
  · rw [hl]
    exact s.pllsShown_lock true true
  · rw [State.srcRuns_of hr, ha]
  · rw [State.srcRuns_of hr, hb]

/-- AUTO_PLL acts no more. -/
def State.autoEnded (s : State) : State := { s with pwr := { s.pwr with autoOsc := false } }

theorem State.autoEnded_rd (s : State) (f : Fld) : s.autoEnded.rd f = s.rd f := (rfl)

theorem State.autoEnded_flag (s : State) (f : Fld) : s.autoEnded.flag f = s.flag f := (rfl)

theorem pllLock_auto {s : State} (h1 : s.flag R.PWR_CFG_AUTO_PLL = true) (h2 : s.pwr.autoOsc = true) :
    exec (.pllLock true true) s = .next ((s.lockPlls true true true).autoEnded.wr R.PWR_STAT_ON_OSC 0) := by
  show execPllLock true true s = _
  unfold execPllLock
  rw [h1, h2]
  rfl

theorem pllLock_stays {s : State} (a b : Bool) (h : (s.flag R.PWR_CFG_AUTO_PLL && s.pwr.autoOsc) = false) :
    exec (.pllLock a b) s = .next (if a ∧ b then (s.pllsShown a b).autoEnded else s.pllsShown a b) := by
  show execPllLock a b s = _
  unfold execPllLock
  rw [h]
  exact congrArg Host.Outcome.next (if_neg fun k => Bool.false_ne_true k.1)

theorem State.autoEnded_if_rd (c : Prop) [Decidable c] (s : State) (f : Fld) : (if c then s.autoEnded else s).rd f = s.rd f := by
  split <;> rfl

/-! ### A source that fails -/

theorem State.clockFail_rec {s : State} (h : s.recFails.srcRuns 1 = true) : s.clockFail 4 = s.recFails := by
  unfold State.clockFail
  extract_lets act a b c d e
  have ha : a = s.recFails := if_pos rfl
  have hb : b = a := if_neg (by decide)
  have hc : c = b := (if_neg (by simp)).trans (if_neg (by decide))
  have hd : d = c := if_pos rfl
  have he : e = d := (if_neg (by decide)).trans (if_pos (.inl rfl))
  have hr : e.srcRuns 1 = true := by rw [he, hd, hc, hb, ha, h]
  rw [if_neg fun k => k.2.1 hr, he, hd, hc, hb, ha]

/-- An island that its failed source leaves runs from IOSC, forced. -/
def State.toOsc (s : State) (i : Nat) : State :=
  (((s.wr (R.CLK_ISL_CUR i) 0).wr (R.CLK_ISL_SEL i) 0).wr (R.CLK_ISL_PENDING i) 0).wr (R.CLK_ISL_FORCED i) 1

theorem State.forceIslands_eq (s : State) (n : Nat) : s.forceIslands n =
    (((List.range 41).filter (s.hitBy n)).foldl State.toOsc s).inc R.CLK_CNT_FORCED ((List.range 41).filter (s.hitBy n)).length := (rfl)

theorem State.toOsc_rd (s : State) (i : Nat) {f : Fld} (h : f.off ≠ 0x10100 + 0x4 * i) : (s.toOsc i).rd f = s.rd f := by
  unfold State.toOsc
  rw [State.rd_wr_ne _ _ (islandForcedFits i) (.inl h.symm), State.rd_wr_ne _ _ (islandPendingFits i) (.inl h.symm),
    State.rd_wr_ne _ _ (islandSelFits i) (.inl h.symm), State.rd_wr_ne _ _ (islandCurFits i) (.inl h.symm)]

theorem State.toOsc_same (s : State) (i : Nat) : ((s.toOsc i).rd (R.CLK_ISL_CUR i), (s.toOsc i).flag (R.CLK_ISL_SEL i),
    (s.toOsc i).flag (R.CLK_ISL_FORCED i)) = (0, false, true) := by
  unfold State.toOsc
  rw [State.rd_wr_ne _ _ (islandForcedFits i) (.inr (.inl (by show 0 + 3 ≤ 28; decide))),
    State.rd_wr_ne _ _ (islandPendingFits i) (.inr (.inl (by show 0 + 3 ≤ 29; decide))),
    State.rd_wr_ne _ _ (islandSelFits i) (.inr (.inl (by show 0 + 3 ≤ 30; decide))), State.rd_wr_same _ _ _ (islandCurFits i),
    State.flag_wr_ne _ _ (islandForcedFits i) (.inr (.inr (by show 28 + 1 ≤ 30; decide))),
    State.flag_wr_ne _ _ (islandPendingFits i) (.inr (.inr (by show 29 + 1 ≤ 30; decide))), State.flag_wr_same _ _ _ (islandSelFits i),
    State.flag_wr_same _ _ _ (islandForcedFits i)]
  rfl

theorem State.forced_hit {s : State} {n i : Nat} (hi : i < 41) (h : s.hitBy n i = true) :
    ((s.forceIslands n).rd (R.CLK_ISL_CUR i), (s.forceIslands n).flag (R.CLK_ISL_SEL i), (s.forceIslands n).flag (R.CLK_ISL_FORCED i)) =
      (0, false, true) := by
  have hf : R.CLK_CNT_FORCED.lo + R.CLK_CNT_FORCED.width ≤ 32 := by decide
  have ho : R.CLK_CNT_FORCED.off ≠ 0x10100 + 0x4 * i := by
    show 0x10034 ≠ _
    omega
  rw [State.forceIslands_eq, State.rd_inc_ne (g := R.CLK_ISL_CUR i) _ _ hf (.inl ho), State.flag_inc_ne (g := R.CLK_ISL_SEL i) _ _ hf (.inl ho),
    State.flag_inc_ne (g := R.CLK_ISL_FORCED i) _ _ hf (.inl ho)]
  refine foldl_at (f := State.toOsc) (g := fun t => (t.rd (R.CLK_ISL_CUR i), t.flag (R.CLK_ISL_SEL i), t.flag (R.CLK_ISL_FORCED i)))
    (h := fun _ => (0, false, true)) (k := i) (fun t j hj => ?_) (fun t => State.toOsc_same t i) (List.nodup_range.filter _)
    (List.mem_filter.mpr ⟨List.mem_range.mpr hi, h⟩) s
  have hne : (0x10100 + 0x4 * i : Nat) ≠ 0x10100 + 0x4 * j := by omega
  simp only [State.flag, State.toOsc_rd t j (f := R.CLK_ISL_CUR i) hne, State.toOsc_rd t j (f := R.CLK_ISL_SEL i) hne,
    State.toOsc_rd t j (f := R.CLK_ISL_FORCED i) hne]

theorem State.forced_other {s : State} {n i : Nat} (h : s.hitBy n i = false) : (s.forceIslands n).rd (R.CLK_ISL_CUR i) = s.rd (R.CLK_ISL_CUR i) := by
  rw [State.forceIslands_eq, State.rd_inc_ne _ _ (by decide) (.inl (by show 0x10034 ≠ 0x10100 + 0x4 * i; omega))]
  refine List.foldlRecOn (motive := fun t : State => t.rd (R.CLK_ISL_CUR i) = s.rd (R.CLK_ISL_CUR i)) _ State.toOsc rfl
    (fun (t : State) ht j hj => ?_)
  have hji : j ≠ i := by
    rintro rfl
    have := (List.mem_filter.mp hj).2
    rw [h] at this
    cases this
  exact (State.toOsc_rd t j (by show 0x10100 + 0x4 * i ≠ _; omega)).trans ht

/-! ### Switches, gates and the frequency counter -/

theorem State.islandSwitch_starts {s : State} {i : Nat} {sel : Bool} (hsw : isSwitchable i = true) (hp : s.flag (R.CLK_ISL_PENDING i) = false)
    (hs : s.flag (R.CLK_ISL_SEL i) ≠ sel) (hd : s.flag R.PWR_STAT_DVFS_BUSY = false) (hr : s.srcRuns (if sel then pllOf i else 0) = true) :
    s.islandSwitch i sel = (s.wr (R.CLK_ISL_SEL i) (bnat sel)).wr (R.CLK_ISL_PENDING i) 1 := by
  unfold State.islandSwitch
  simp only [hsw, hp, hd, hr, hs, not_true, not_false_eq_true, false_and, Bool.false_eq_true, or_false, if_false]

theorem State.islandSwitch_refused {s : State} {i : Nat} {sel : Bool} (hsw : isSwitchable i = true) (hp : s.flag (R.CLK_ISL_PENDING i) = true) :
    s.islandSwitch i sel = s.inc R.CLK_CNT_REFUSED := by
  unfold State.islandSwitch
  simp only [hsw, hp, not_true, and_false, true_or, or_true, if_true, if_false]

theorem State.islandSwitch_fixed {s : State} {i : Nat} {sel : Bool} (hsw : isSwitchable i = false) : s.islandSwitch i sel = s :=
  if_pos (Bool.eq_false_iff.mp hsw)

theorem State.endOsc_rd (s : State) {f : Fld} (h : f.off ≠ 0x20000) : s.endOsc.rd f = s.rd f := by
  unfold State.endOsc
  split
  · exact State.rd_wr_ne _ _ (by decide) (.inl h.symm)
  · rfl

/-- Island `i` runs from `cur`, and no switch of it is pending. -/
def State.switched (s : State) (i cur : Nat) : State := (s.wr (R.CLK_ISL_PENDING i) 0).wr (R.CLK_ISL_CUR i) cur

/-- What the end of a switch does beside. -/
def State.switchEnds (s : State) (i cur : Nat) : State := if cur = 0 then s else (s.wr (R.CLK_ISL_FORCED i) 0).endOsc

theorem State.switched_pending (s : State) (i cur : Nat) : (s.switched i cur).flag (R.CLK_ISL_PENDING i) = false := by
  unfold State.switched
  rw [State.flag_wr_ne _ _ (islandCurFits i) (.inr (.inr (by show 0 + 3 ≤ 29; decide))), State.flag_wr_same _ _ _ (islandPendingFits i)]
  rfl

theorem State.switched_cur (s : State) (i : Nat) {cur : Nat} (h : cur % 2 ^ 3 = cur) : (s.switched i cur).rd (R.CLK_ISL_CUR i) = cur := by
  unfold State.switched
  rw [State.rd_wr_same _ _ _ (islandCurFits i)]
  exact h

theorem State.switchEnds_rd (s : State) {i : Nat} (hi : i < 41) (cur : Nat) {f : Fld} (h1 : f.off = 0x10100 + 0x4 * i)
  (h2 : f.lo + f.width ≤ 28 ∨ 28 + 1 ≤ f.lo) :
    (s.switchEnds i cur).rd f = s.rd f := by
  unfold State.switchEnds
  split
  · rfl
  · rw [State.endOsc_rd _ (by rw [h1]; omega)]
    exact State.rd_wr_ne _ _ (islandForcedFits i) (.inr h2)

theorem State.switchEnds_pending (s : State) {i : Nat} (hi : i < 41) (cur : Nat) :
    (s.switchEnds i cur).flag (R.CLK_ISL_PENDING i) = s.flag (R.CLK_ISL_PENDING i) := by
  unfold State.flag
  rw [State.switchEnds_rd _ hi _ rfl (.inr (by show 28 + 1 ≤ 29; decide))]

theorem islandSwitchDone_ends {s : State} {i : Fin 41} {cur : Nat} (hp : s.flag (R.CLK_ISL_PENDING i) = true)
    (h1 : s.srcRuns (s.rd (R.CLK_ISL_CUR i)) = true) (hc : cur = if s.flag (R.CLK_ISL_SEL i) then pllOf i else 0) (h2 : s.srcRuns cur = true) :
    exec (.islandSwitchDone i) s = .next ((s.switched i cur).switchEnds i cur) := by
  subst hc
  show execIslandSwitchDone i s = _
  unfold execIslandSwitchDone
  exact if_neg (not_or.mpr ⟨not_not.mpr hp, not_or.mpr ⟨not_not.mpr h1, not_not.mpr h2⟩⟩)

theorem State.gateWrite_never {s : State} {i : Fin 41} (on words : Bool) (h : (!isSwitchable i || i.val == 1 || i.val == 12) = true) :
    s.gateWrite (.island i) on words = s := if_pos h

theorem gate_free {i : Fin 41} (h : isSwitchable i = true) (h1 : i.val ≠ 1) (h2 : i.val ≠ 12) :
    ¬ (!isSwitchable i || i.val == 1 || i.val == 12) = true := by
  simp [h, h1, h2]

theorem State.gateWrite_on {s : State} {i : Fin 41} {words : Bool} (h : ¬ (!isSwitchable i || i.val == 1 || i.val == 12) = true) :
    s.gateWrite (.island i) true words = s.wr (R.CLK_ISL_EN i) 1 := (if_neg h).trans (if_pos rfl)

theorem State.gateWrite_off {s : State} {i : Fin 41} (h : ¬ (!isSwitchable i || i.val == 1 || i.val == 12) = true) :
    s.gateWrite (.island i) false false =
      if s.flag (R.CLK_ISL_EN i) ∧ s.islandEnabled i then s.inc R.CLK_CNT_REFUSED else s.wr (R.CLK_ISL_EN i) 0 :=
  ((if_neg h).trans (if_neg Bool.false_ne_true)).trans rfl

theorem State.refEdges_own {s : State} {k : Nat} (h : s.rd R.CLK_FCNT_CFG_REF = 1) : s.refEdges k = 50 * s.rd R.CLK_FCNT_WIN_WINDOW := by
  have hn : s.nominalHz (s.rd R.CLK_FCNT_CFG_REF) = some 50000000 := by
    rw [h]
    rfl
  unfold State.refEdges
  rw [hn]
  show (s.rd R.CLK_FCNT_WIN_WINDOW * 50000000 + 999999) / 1000000 = _
  omega

/-! ### Cores, links and module supplies -/

/-- The failures of Marl and Grit are as `m` counts them. -/
def State.setFails (s : State) (m : NMap Nat) : State := { s with pwr := { s.pwr with d2dFails := m } }

theorem State.d2dRetrain_ok (s : State) : s.d2dRetrain 1 true [] =
    (s.raise 44 .U 1).setFails (NMap.set (fun _ => 0) (s.raise 44 .U 1).pwr.d2dFails 1 0) := by
  unfold State.d2dRetrain
  extract_lets a b n _ c
  have hb : b = a := if_pos (by decide)
  have hc : c = a.setFails (NMap.set (fun _ => 0) a.pwr.d2dFails 1 0) := by
    show b.setFails (NMap.set (fun _ => 0) b.pwr.d2dFails 1 0) = _
    rw [hb]
  rw [← hc]
  exact if_pos (by show 0 < 3; decide)

/-- The module supplies of `l` are off. -/
def State.setVmodOff (s : State) (l : List Nat) : State := { s with pwr := { s.pwr with vmodOff := l } }

theorem State.setVmodOff_off {s : State} {l : List Nat} {i : Nat} (h : i ∈ l) : (s.setVmodOff l).vmodOn i = false := by
  unfold State.vmodOn
  rw [show (s.setVmodOff l).pwr.vmodOff = l from rfl, decide_eq_false (not_not.mpr h), Bool.and_false, Bool.false_and]

/-- Settles O60: each clause is the branch of its command; the folds over the islands act at each island once, and the frames of the fields of the
words between them give what is left. -/
theorem clocksAndModules : Obligations.ClocksAndModules := by
  unfold Obligations.ClocksAndModules
  refine ⟨?_, ?_, ?_, ?_, ?_, ?_, ?_, ?_, ?_, ?_, ?_, ?_, ?_, ?_, ?_, ?_, ?_, ?_, ?_, ?_, ?_, ?_, ?_, ?_, ?_, ?_, ?_, ?_, ?_, ?_⟩
  · intro s h1 h2
    refine ⟨(s.lockPlls true true true).autoEnded, pllLock_auto h1 h2, ?_⟩
    beta_reduce
    obtain ⟨hl, h5, h6, h9, h10, hs10⟩ := s.lockPlls_moved
    exact ⟨(State.autoEnded_rd _ _).trans hl, (State.srcRuns_of (State.autoEnded_rd _ _) 5).trans h5,
      (State.srcRuns_of (State.autoEnded_rd _ _) 6).trans h6, (State.autoEnded_rd _ _).trans h9, (State.autoEnded_rd _ _).trans h10,
      (State.autoEnded_flag _ _).trans hs10⟩
  · intro a b s h
    have hb : (s.flag R.PWR_CFG_AUTO_PLL && s.pwr.autoOsc) = false := by
      rcases h with h | h <;> simp [h]
    refine ⟨_, pllLock_stays a b hb, ?_⟩
    obtain ⟨h5, h6⟩ := s.pllsShown_runs a b
    refine ⟨(State.autoEnded_if_rd _ _ _).trans (s.pllsShown_lock a b), (State.srcRuns_of (State.autoEnded_if_rd _ _ _) 5).trans h5,
      (State.srcRuns_of (State.autoEnded_if_rd _ _ _) 6).trans h6, fun i _ => (State.autoEnded_if_rd _ _ _).trans (s.pllsShown_island a b)⟩
  · intro n s h
    exact if_neg (Bool.eq_false_iff.mp h)
  · intro n s h
    exact if_pos h
  · intro s h4 h1 hr
    have he : s.recFails = s.wr R.CLK_STATUS_RUN (setBits (s.rd R.CLK_STATUS_RUN) 4 1 0) := by
      unfold State.recFails
      rw [hr]
    have h1' : s.recFails.srcRuns 1 = true := by
      rw [he, State.srcRuns_wr _ _ (by decide), bit_setBits_ne _ _ (by decide)]
      exact h1
    refine ⟨s.wr R.CLK_STATUS_RUN (setBits (s.rd R.CLK_STATUS_RUN) 4 1 0), (if_pos h4).trans ?_, ?_, State.wr_td _ _ _, State.wr_flt _ _ _,
        State.wr_hif _ _ _, ?_⟩
    · rw [show s.clockFail (4 : Fin 7).val = s.recFails from State.clockFail_rec h1', he]
    · rw [State.srcRuns_wr _ _ (by decide)]
      exact bit_setBits_same _ 4 false
    · exact State.rd_wr_ne _ _ clkRunFits (.inr (.inr (by decide)))
  · intro j s h4 h1 hr hc
    have he : s.recFails = { s with td := { s.td with ref := .port (1 - j) } } := by
      unfold State.recFails
      rw [hr]
      exact if_pos hc
    have h1' : s.recFails.srcRuns 1 = true := by
      rw [he]
      exact h1
    refine ⟨s.recFails, (if_pos h4).trans (congrArg (fun t : State => Host.Outcome.next t.settle) (State.clockFail_rec h1')), ?_⟩
    rw [he]
    exact ⟨rfl, h4, rfl, rfl⟩
  · intro s hroot hasl
    have he : s.chooseRef.td.ref = if ¬ s.ownFailed then .own else if s.clockOf 0 then .port 0 else if s.clockOf 1 then .port 1 else .own := by
      unfold State.chooseRef
      dsimp only
      rw [if_neg (Bool.eq_false_iff.mp hasl), if_pos hroot]
    rw [he]
    exact ⟨fun h => if_pos (Bool.eq_false_iff.mp h), fun h h0 => (if_neg (not_not.mpr h)).trans (if_pos h0)⟩
  · intro n i s hi h
    have hf := State.forced_hit hi h
    simpa only [Prod.mk.injEq] using hf
  · intro n i s _ h
    exact State.forced_other h
  · intro i sel s hsw hp hs hd hr
    refine ⟨_, congrArg Host.Outcome.next (State.islandSwitch_starts hsw hp hs hd hr), ?_, ?_, ?_⟩
    · exact (State.flag_wr_same _ _ _ (islandPendingFits i)).trans (decide_eq_true (by show 1 % 2 ^ 1 ≠ 0; decide))
    · exact ((State.flag_wr_ne _ _ (islandPendingFits i) (.inr (.inr (by show 29 + 1 ≤ 30; decide)))).trans
        (State.flag_wr_same _ _ _ (islandSelFits i))).trans (bnat_flag_bit sel)
    · exact (State.rd_wr_ne _ _ (islandPendingFits i) (.inr (.inl (by show 0 + 3 ≤ 29; decide)))).trans
        (State.rd_wr_ne _ _ (islandSelFits i) (.inr (.inl (by show 0 + 3 ≤ 30; decide))))
  · intro i sel s hsw hp
    exact congrArg Host.Outcome.next (State.islandSwitch_refused hsw hp)
  · intro i sel s hsw
    exact congrArg Host.Outcome.next (State.islandSwitch_fixed hsw)
  · intro i s hp h1 h2
    refine ⟨_, islandSwitchDone_ends hp h1 rfl h2, ?_, ?_⟩
    · exact (State.switchEnds_pending _ i.isLt _).trans (State.switched_pending s i _)
    · refine (State.switchEnds_rd _ i.isLt _ (f := R.CLK_ISL_CUR i) rfl (.inl (by show 0 + 3 ≤ 28; decide))).trans (State.switched_cur s i ?_)
      split
      · exact pllOf_lt i
      · rfl
  · intro i s h
    refine if_pos (h.imp (fun h => Bool.eq_false_iff.mp h) (Or.imp (fun h => Bool.eq_false_iff.mp h) (fun h => Bool.eq_false_iff.mp h)))
  · intro i s hsw h1 h12 hen hb
    exact congrArg Host.Outcome.next ((State.gateWrite_off (gate_free hsw h1 h12)).trans (if_pos ⟨hen, hb⟩))
  · intro i s hsw h1 h12
    refine ⟨⟨_, congrArg Host.Outcome.next (State.gateWrite_on (gate_free hsw h1 h12)), ?_, State.wr_hif _ _ _⟩, fun hb =>
      ⟨_, congrArg Host.Outcome.next ((State.gateWrite_off (gate_free hsw h1 h12)).trans (if_neg fun k => Bool.eq_false_iff.mp hb k.2)), ?_⟩⟩
    · exact (State.flag_wr_same _ _ _ (islandEnFits i)).trans (decide_eq_true (by show 1 % 2 ^ 1 ≠ 0; decide))
    · exact (State.flag_wr_same _ _ _ (islandEnFits i)).trans rfl
  · intro on words s
    exact congrArg Host.Outcome.next (State.gateWrite_never on words (by decide))
  · intro s h
    refine ⟨_, congrArg Host.Outcome.next (if_neg h), ?_, ?_⟩
    · exact (State.rd_wr_same _ _ _ (by decide)).trans rfl
    · exact State.rd_wr_ne _ _ (by decide) (.inl (by decide))
  · intro s h
    exact congrArg Host.Outcome.next (if_pos h)
  · intro a b s h hg
    refine ⟨_, (if_neg (not_not.mpr h)).trans (if_neg (not_or.mpr ⟨not_not.mpr rfl, Bool.eq_false_iff.mp hg⟩)), ?_, ?_, ?_⟩
    · exact (State.rd_wr_ne _ _ (by decide) (.inl (by decide))).trans ((State.rd_wr_ne _ _ (by decide) (.inl (by decide))).trans
        ((State.rd_wr_same _ _ _ (by decide)).trans (Nat.mod_eq_of_lt a.isLt)))
    · exact (State.rd_wr_ne _ _ (by decide) (.inl (by decide))).trans (State.rd_wr_same _ _ _ (by decide))
    · exact (State.rd_wr_same _ _ _ (by decide)).trans rfl
  · intro k s h
    exact State.refEdges_own h
  · intro a b s h
    refine ⟨_, (if_neg (not_not.mpr h)).trans (if_pos (.inl Bool.false_ne_true)), ?_, ?_⟩
    · exact (State.rd_wr_same _ _ _ (by decide)).trans rfl
    · exact State.rd_wr_ne _ _ (by decide) (.inl (by decide))
  · intro a b e s h
    exact if_pos h
  · intro s
    show execCoreError false s = _
    unfold execCoreError
    exact if_pos Bool.false_ne_true
  · intro s
    refine ⟨(s.raise 47 .U).dropStagings, ?_, rfl, rfl⟩
    show execCoreError true s = _
    unfold execCoreError
    exact if_neg (not_not.mpr rfl)
  · intro d s
    rfl
  · intro s
    refine ⟨_, congrArg (fun t : State => Host.Outcome.next t.settle) s.d2dRetrain_ok, ?_⟩
    unfold State.setFails
    dsimp only
    exact NMap.get_set_same _ _ _ _
  · intro i s h
    exact ⟨s.setVmodOff (i.val :: s.pwr.vmodOff), if_pos h, State.setVmodOff_off List.mem_cons_self, rfl, rfl⟩
  · intro i s h
    exact if_neg (Bool.eq_false_iff.mp h)
  · intro i s
    refine ⟨s.setVmodOff (s.pwr.vmodOff.filter (· ≠ i.val)), rfl, ?_, rfl, rfl⟩
    show i.val ∉ s.pwr.vmodOff.filter (· ≠ i.val)
    intro h
    exact of_decide_eq_true (List.mem_filter.mp h).2 rfl

end Sys2Proof.Machine
end

section
/-!
PROOFS. The reflex engine (O52): what a row gives, what its result does to a point, a machine without a transition, a synchronised region, and the
errors of the engine's memories.
-/

namespace Sys2Proof.Machine

/-! ### What a row gives -/

theorem Row.reads_two {w : Row} (hop : w.op = 6) (ha : w.a.src ≠ 0) (hb : w.b.src ≠ 0) (hc : w.c.src = 0) : w.reads = [w.a, w.b] := by
  unfold Row.reads Operand.none
  rw [hop]
  simp [ha, hb, hc]

theorem State.evalRow_and (s : State) {w : Row} (x : RowSt) (t v : Nat) (h : w.op = 6) : s.evalRow w x t v = { x with
    ran := true, lastS := t, raw := false, reason := worst (w.reads.map fun o => (s.operand o).reason)
    res := f64Bool ((w.a.none || (s.operand w.a).log) && (w.b.none || (s.operand w.b).log) && (w.c.none || (s.operand w.c).log)) } := by
  unfold State.evalRow
  rw [h]
  rfl

theorem State.evalRow_or (s : State) {w : Row} (x : RowSt) (t v : Nat) (h : w.op = 7) : (s.evalRow w x t v).res =
    f64Bool ((!w.a.none && (s.operand w.a).log) || (!w.b.none && (s.operand w.b).log) || (!w.c.none && (s.operand w.c).log)) := by
  unfold State.evalRow
  rw [h]
  rfl

theorem State.evalRow_inRange (s : State) {w : Row} (x : RowSt) (t v : Nat) (h : w.op = 2) :
    (s.evalRow w x t v).res = f64Bool (f64le w.p0 (s.operand w.a).num && f64le (s.operand w.a).num w.p1) := by
  unfold State.evalRow
  rw [h]
  rfl

theorem State.evalRow_latchHeld (s : State) {w : Row} (x : RowSt) (t v : Nat) (h : w.op = 8) (ha : (s.operand w.a).log = false)
    (hb : (s.operand w.b).log = false) : (s.evalRow w x t v).res = f64Bool x.out ∧ (s.evalRow w x t v).out = x.out := by
  unfold State.evalRow
  rw [h]
  simp only [ha, hb, Bool.false_eq_true, if_false, and_self]

/-- A PI row with an operand in doubt keeps its result and its integral. -/
theorem State.evalRow_pi (s : State) {w : Row} {x : RowSt} (t v : Nat) (h : w.op = 10) (hx : x.ran = true) (hr : (s.evalRow w x t v).reason ≠ qNone) :
    (s.evalRow w x t v).res = x.res ∧ (s.evalRow w x t v).integ = x.integ := by
  unfold State.evalRow at hr ⊢
  rw [h] at hr ⊢
  simp only [hx, Bool.not_true, Bool.false_eq_true, if_false] at hr ⊢
  split at hr
  · next hq =>
    rw [if_pos hq]
    exact ⟨rfl, rfl⟩
  · next hq => exact absurd hr hq

theorem State.evalRow_noCurve (s : State) {w : Row} (x : RowSt) (t v : Nat) (h : w.op = 11) (hc : s.curveAt (w.p0 % 1024)
  (s.operand w.a).num = none) :
    (s.evalRow w x t v).res = v ∧ (s.evalRow w x t v).reason = qFault := by
  unfold State.evalRow
  rw [h]
  simp only [hc, and_self]

/-! ### The result of a row and a machine that stays -/

/-- A FAULT reaches no point: the record of an output takes the reason, and nothing is delivered. -/
theorem State.giveResult_fault {s : State} {x : RowSt} {n : Nat} (hx : x.reason = qFault) (ho : (s.point n).isOutput = true) :
    s.giveResult x n = s.setPoint n { s.point n with rowReason := qFault } := by
  unfold State.giveResult
  dsimp only
  rw [if_pos hx, hx]
  unfold State.rowUpdate
  exact if_pos (.inl (by rw [State.setPoint_point]; exact ho))

theorem State.smStep_stays {s : State} {m t : Nat} (h : (s.smState m (s.rd (R.RFX_SM_STATE_STATE m))).trans = []) :
    s.smStep m t = (if (s.smState m (s.rd (R.RFX_SM_STATE_STATE m))).tmo ≠ 0 ∧
        (s.smState m (s.rd (R.RFX_SM_STATE_STATE m))).tmo * 1000 ≤ t - (s.smBegan m).getD t
      then some (s.smState m (s.rd (R.RFX_SM_STATE_STATE m))).tmoNext else none, qNone) := by
  unfold State.smStep
  dsimp only
  rw [h]
  rfl

/-! ### Synchronised regions and memory errors -/

theorem syncingFits (r : Fin 4) : (syncingFld r).lo + (syncingFld r).width ≤ 32 := by
  have := r.isLt
  show 8 * r.val + 6 + 1 ≤ 32
  omega

/-- The staging copy of the tables is `m`. -/
def State.setStagedTables (s : State) (m : NMap Byte) : State := { s with rfx := { s.rfx with stg := m } }

theorem State.setRow_row (s : State) (r : Nat) (x : RowSt) : (s.setRow r x).row r = x := by
  unfold State.row State.setRow
  exact NMap.get_set_same _ _ _ _

theorem State.setRow_row_ne (s : State) {r q : Nat} (x : RowSt) (h : q ≠ r) : (s.setRow r x).row q = s.row q := by
  unfold State.row State.setRow
  exact NMap.get_set_ne _ _ _ h

theorem State.markRows_regs (s : State) : s.markRows.regs = s.regs := by
  unfold State.markRows
  refine Quiet.foldl (g := State.regs) _ (fun w n => ?_) _ _
  rfl

theorem State.markRows_rfx (s : State) : s.markRows.rfx = s.rfx := by
  unfold State.markRows
  refine Quiet.foldl (g := State.rfx) _ (fun w n => ?_) _ _
  rfl

theorem State.markRows_row (s : State) (q : Nat) : s.markRows.row q = s.row q := by
  unfold State.row
  rw [State.markRows_rfx]

theorem State.restartRow_row (s : State) (r : Nat) : (s.restartRow r).row r = { ({} : RowSt) with en := (s.row r).en } := by
  unfold State.restartRow
  rw [State.markRows_row, State.setRow_row]

theorem State.restartRow_row_ne (s : State) {r q : Nat} (h : q ≠ r) : (s.restartRow r).row q = s.row q := by
  unfold State.restartRow
  rw [State.markRows_row, State.setRow_row_ne _ _ h]

/-- The table entry `x` is bad. -/
def State.markBad (s : State) (x : Nat × Nat) : State := { s with rfx := { s.rfx with bad := x :: s.rfx.bad } }

/-- Row `r` is out of use. -/
def State.rowOut (s : State) (r : Nat) : State :=
  let s := s.markBad (0, r)
  (s.setRow r { s.row r with en := false }).markRows

theorem State.rowOut_row (s : State) (r : Nat) : (s.rowOut r).row r = { s.row r with en := false } := by
  unfold State.rowOut
  dsimp only
  rw [State.markRows_row, State.setRow_row]
  rfl

theorem State.rowOut_row_ne (s : State) {r q : Nat} (h : q ≠ r) : (s.rowOut r).row q = s.row q := by
  unfold State.rowOut
  dsimp only
  rw [State.markRows_row, State.setRow_row_ne _ _ h]
  rfl

theorem State.rowOut_bad (s : State) (r : Nat) : (0, r) ∈ (s.rowOut r).rfx.bad := by
  unfold State.rowOut
  dsimp only
  rw [State.markRows_rfx]
  exact List.mem_cons_self

theorem State.smStateFits (m : Nat) : (R.RFX_SM_STATE_STATE m).lo + (R.RFX_SM_STATE_STATE m).width ≤ 32 := by show 0 + 6 ≤ 32; decide
theorem State.smValidFits (m : Nat) : (R.RFX_SM_STATE_VALID m).lo + (R.RFX_SM_STATE_VALID m).width ≤ 32 := by show 6 + 1 ≤ 32; decide

/-- Settles O52: each operation of a row by its branch of the evaluation, and each memory error by the state that it leaves before it is raised. -/
theorem reflexEngine : Obligations.ReflexEngine := by
  unfold Obligations.ReflexEngine
  refine ⟨?_, ?_, ?_, ?_, ?_, ?_, ?_, ?_, ?_, ?_, ?_, ?_, ?_, ?_, ?_⟩
  · intro w x t v s h ha hb hc
    rw [State.evalRow_and s x t v h, Row.reads_two h ha hb hc]
    refine ⟨?_, rfl, rfl, rfl⟩
    simp [Operand.none, ha, hb, hc]
  · intro w x t v s h ha hb hc
    rw [State.evalRow_or s x t v h]
    simp [Operand.none, ha, hb, hc]
  · intro w x t v s h
    exact State.evalRow_inRange s x t v h
  · intro w x t v s h ha hb
    exact State.evalRow_latchHeld s x t v h ha hb
  · intro w x t v s h hx hr
    exact State.evalRow_pi s t v h hx hr
  · intro w x t v s h hc
    exact State.evalRow_noCurve s x t v h hc
  · intro x n s hx ho
    exact State.giveResult_fault hx ho
  · intro m t s h
    exact State.smStep_stays h
  · intro r s h
    refine ⟨(s.setStagedTables (copyRegion s.rfx.act s.rfx.stg r)).wr (syncingFld r) 0, if_pos h, ?_, ?_, ?_, ?_⟩
    · rw [State.wr_rfx]
      rfl
    · rw [State.flag_wr_same _ _ _ (syncingFits r)]
      exact decide_eq_false (not_not.mpr (Nat.zero_mod _))
    · rw [State.wr_rfx]
      rfl
    · rw [State.wr_rfx]
      rfl
  · intro r s h
    exact if_neg (Bool.eq_false_iff.mp h)
  · intro s
    rfl
  · intro r s
    refine ⟨s.restartRow r, rfl, State.restartRow_row s r, fun q hq => State.restartRow_row_ne s hq, State.markRows_regs _, ?_⟩
    unfold State.restartRow
    rw [State.markRows_rfx]
    rfl
  · intro m s
    refine ⟨(s.setSm m none).wr (R.RFX_SM_STATE_STATE m) 0, rfl, ?_, ?_, ?_⟩
    · exact (State.rd_wr_same _ _ _ (State.smStateFits m)).trans rfl
    · unfold State.smBegan
      rw [State.wr_rfx]
      unfold State.setSm
      dsimp only
      exact NMap.get_set_same _ _ _ _
    · rw [State.wr_rfx]
      rfl
  · intro m s
    refine ⟨(s.markBad (1, m)).wr (R.RFX_SM_STATE_VALID m) 0, rfl, ?_, ?_, ?_⟩
    · exact (State.rd_wr_same _ _ _ (State.smValidFits m)).trans rfl
    · rw [State.wr_rfx]
      exact List.mem_cons_self
    · rw [State.wr_rfx]
      rfl
  · intro r s
    refine ⟨s.rowOut r, rfl, State.rowOut_bad s r, ?_, State.markRows_regs _, fun q hq => State.rowOut_row_ne s hq⟩
    rw [State.rowOut_row]

end Sys2Proof.Machine
end

section
/-!
PROOFS. The bridge's queues and its cache (O49): which request a free bus takes, what starts on the bus, how a request ends, and the errors of the
queues.
-/

namespace Sys2Proof.Machine

/-! ### Which request a free bus takes -/

theorem State.serve_busy {s : State} {p : Nat} (h : s.busIdle p = false) : s.serve p = s := if_pos (.inl (Bool.eq_false_iff.mp h))

theorem State.serve_waits {s : State} {p : Nat} (h : (s.busLock p).winner.isSome = true) : s.serve p = s := if_pos (.inr h)

section
variable {s : State} {p : Nat} {o : BusOp} {r : List BusOp}

theorem State.serve_free (hi : s.busIdle p = true) (hw : (s.busLock p).winner = none) : s.serve p = match s.lockq p with
    | o :: r => (s.setLockq p r).startOp p o
    | [] =>
      if (s.busLock p).holder.isSome then s
      else match s.brgq p with
        | o :: r => (s.setBrgq p r).startOp p o
        | [] => s := by
  unfold State.serve
  refine (if_neg (not_or.mpr ⟨not_not.mpr hi, ?_⟩)).trans rfl
  rw [hw]
  exact Bool.false_ne_true

theorem State.serve_holder (hi : s.busIdle p = true) (hw : (s.busLock p).winner = none) (hq : s.lockq p = o :: r) :
    s.serve p = (s.setLockq p r).startOp p o := by
  rw [State.serve_free hi hw, hq]

theorem State.serve_held (hq : s.lockq p = []) (hh : (s.busLock p).holder.isSome = true) : s.serve p = s := by
  unfold State.serve
  rw [hq]
  dsimp only
  rw [if_pos hh, ite_self]

theorem State.serve_oldest (hi : s.busIdle p = true) (hq : s.lockq p = []) (hh : (s.busLock p).holder = none) (hw : (s.busLock p).winner = none)
    (hb : s.brgq p = o :: r) : s.serve p = (s.setBrgq p r).startOp p o := by
  rw [State.serve_free hi hw, hq, hh, hb]
  rfl

end

/-! ### What starts on the bus -/

theorem State.startOp_uartWrite {s : State} {p i : Nat} {o : BusOp} (hd : s.devTarget p = some (cUart, i)) (ho : o.req.op = opWrite) :
    s.startOp p o = (s.setBusOp p (some o)).busOut cUart i "modbus"
      (modbusPdu (mbStation o.req.off) 0x10 (mbReg o.req.off) (o.req.len / 2) o.req.data) := by
  unfold State.startOp
  dsimp only
  rw [hd]
  dsimp only
  rw [if_neg (by decide), if_pos ho]
  rfl

theorem State.startOp_iolWrite {s : State} {p i : Nat} {o : BusOp} (hd : s.devTarget p = some (cIol, i)) (ho : o.req.op = opWrite) :
    s.startOp p o = (s.setBusOp p (some o)).busOut cIol i "ISDU write" (leBytes 4 o.req.off ++ o.req.data) := by
  unfold State.startOp
  dsimp only
  rw [hd]
  dsimp only
  rw [if_neg (by decide), if_pos ho]
  rfl

theorem State.readData_all (s : State) {d : List Byte} {n : Nat} (h : n ≤ d.length) : s.readData d n = (d.take n, s) := by
  unfold State.readData
  rw [Nat.sub_eq_zero_of_le h]
  exact congrArg (fun b => (b, s)) (List.append_nil _)

/-- The free bytes: as many as asked for, drawn one by one. -/
theorem State.freeBytes_eq (s : State) (n : Nat) : (s.freeBytes n).1.length = n ∧ ∃ k, (s.freeBytes n).2 = { s with drawn := k } := by
  induction n generalizing s with
  | zero => exact ⟨rfl, s.drawn, rfl⟩
  | succ n ih =>
    obtain ⟨hl, k, hk⟩ := ih s.draw.2
    exact ⟨congrArg (· + 1) hl, k, hk⟩

theorem State.readData_short (s : State) {d : List Byte} {n : Nat} (h : d.length < n) :
    ∃ (free : List Byte) (k : Nat), d.length + free.length = n ∧ s.readData d n = (d ++ free, { s with drawn := k }) := by
  obtain ⟨hl, k, hk⟩ := s.freeBytes_eq (n - d.length)
  refine ⟨(s.freeBytes (n - d.length)).1, k, by omega, ?_⟩
  unfold State.readData
  dsimp only
  rw [hk, List.take_of_length_le (Nat.le_of_lt h)]

theorem State.startOp_objectRead {s : State} {p i : Nat} {o : BusOp} (hd : s.devTarget p = some (cCan, i)) (ho : o.req.op = opRead)
    (hl : o.req.len ≤ (NMap.get (fun _ => []) s.pctl.last o.req.off).length) : s.startOp p o = s.endOp p o
      { status := stOk, xfer := o.req.len, exec := s.tdEnc o.req.td, data := (NMap.get (fun _ => []) s.pctl.last o.req.off).take o.req.len } := by
  unfold State.startOp
  dsimp only
  rw [hd]
  dsimp only
  rw [if_pos (.inl rfl), if_pos ho, State.readData_all s hl]

/-! ### How a request ends -/

section
variable {s : State} {p i : Nat} {o : BusOp} {b : List Byte}

theorem State.opData_isduRead (ho : o.req.op = opRead) (hr : o.range = none) :
    s.opData p cIol i o b = (s.readData b o.req.len).2.endOp p o
      { status := stOk, xfer := o.req.len, exec := s.tdEnc o.req.td, data := (s.readData b o.req.len).1 } := by
  unfold State.opData
  dsimp only
  rw [ho, hr]
  rfl

theorem State.opData_verified (ho : o.req.op = opWrite) (hp : o.phase = 2) :
    s.opData p cUart i o b = if b = o.req.data then s.endOp p o { status := stOk, xfer := o.req.len, exec := s.tdEnc o.req.td }
      else s.endOp p o { status := stBusError, result := 2 ^ 63 } := by
  unfold State.opData
  dsimp only
  rw [ho, hp]
  rfl

theorem State.opData_rmw {x : Nat} (ho : o.req.op = opRmw) (hp : o.phase = 0) (hl : o.req.len ≤ b.length)
    (hv : rmwValue o.req.opx o.req.len (beNat (b.take o.req.len)) (leAt o.req.operand 0 8 % 2 ^ (8 * o.req.len))
      (leAt o.req.operand 8 8 % 2 ^ (8 * o.req.len)) = some x) :
    s.opData p cUart i o b =
      s.sendOp p cUart i { o with phase := 1, value := beNat (b.take o.req.len) } true o.req.off (o.req.len / 2) (beBytes o.req.len x) := by
  unfold State.opData
  dsimp only
  rw [ho, hp, State.readData_all s hl]
  dsimp only
  rw [hv]
  rfl

end

/-! ### The cache and the queues -/

/-- What the bridge holds beside the lines that leave, with the controllers and the targets. -/
def State.besideLines (s : State) : List CacheLine × NMap (List BusOp) × NMap BusLock × PctlSt × Tgt :=
  (s.brg.cache, s.brg.queue, s.brg.locks, s.pctl, s.tgt)

theorem Quiet.besideLines : Quiet State.besideLines where
  word _ _ _ := rfl
  point _ _ _ := rfl
  flt _ _ := rfl
  fld _ _ := rfl

/-- A record of the audit log changes nothing that does not depend on the registers and the logs. -/
theorem Quiet.logAuditAt {β : Type} {g : State → β} (q : Quiet g) (s : State) (t a b c d e f : Nat) : g (s.logAuditAt t a b c d e f) = g s := by
  unfold State.logAuditAt
  dsimp only
  split
  · rw [q.inc, q.flt]
  · exact q.flt s _

theorem State.lineLeaves_beside (s : State) (x : CacheLine) : (s.lineLeaves x).besideLines = s.besideLines := by
  unfold State.lineLeaves
  split
  · rfl
  · extract_lets u
    have hu : u.besideLines = s.besideLines := by
      show State.besideLines (ite _ _ _) = _
      split
      · rfl
      · exact Quiet.besideLines.inc _ _ _
    split
    · exact hu
    · extract_lets y rest w
      have hw : w.besideLines = s.besideLines := hu
      split
      · exact (Quiet.besideLines.logAuditAt _ _ _ _ _ _ _ _).trans hw
      · exact hw

theorem State.dropLines_beside (s : State) (p : CacheLine → Bool) : (s.dropLines p).besideLines =
    (s.brg.cache.filter fun x => !p x, s.brg.queue, s.brg.locks, s.pctl, s.tgt) := by
  unfold State.dropLines
  exact Quiet.foldl (g := State.besideLines) State.lineLeaves State.lineLeaves_beside _ _

theorem State.dropOp_asked {s : State} {o : BusOp} (h : o.posted = false) (st : Nat) : s.dropOp o st = s.refuse o.req st :=
  if_neg (Bool.eq_false_iff.mp h)

theorem State.bridgeError_queued {s : State} {p : Fin 64} {n : Nat} {o : BusOp} (hq : s.lockq p = []) (ho : (s.brgq p)[n]? = some o)
  (hp : o.posted = false) :
    s.bridgeError (.request p n) = ((s.setBrgq p ((s.brgq p).eraseIdx n)).refuse o.req stBusError).raise 48 .U := by
  unfold State.bridgeError
  dsimp only
  rw [hq, List.nil_append, ho]
  dsimp only
  rw [if_neg (show ¬ n < [].length from Nat.not_lt_zero n), State.dropOp_asked hp]
  rfl

theorem State.bridgeError_locked {s : State} {p : Fin 64} {n : Nat} {o : BusOp} (ho : (s.lockq p)[n]? = some o) (hp : o.posted = false) :
    s.bridgeError (.request p n) = ((s.setLockq p ((s.lockq p).eraseIdx n)).refuse o.req stBusError).raise 48 .U := by
  have hn : n < (s.lockq p).length := (List.getElem?_eq_some_iff.mp ho).1
  unfold State.bridgeError
  dsimp only
  rw [List.getElem?_append_left hn, ho]
  dsimp only
  rw [if_pos hn, State.dropOp_asked hp]

theorem State.setTunq_tunq (s : State) (t : Nat) (q : List TunFrame) : (s.setTunq t q).tunq t = q := by
  unfold State.tunq State.setTunq
  exact NMap.get_set_same _ _ _ _

theorem State.inc_tunq (s : State) (f : Fld) (k t : Nat) : (s.inc f k).tunq t = s.tunq t := by
  unfold State.tunq
  rw [State.inc_brg]

theorem tunDropFits (t : Nat) : (R.BRG_TUN_CNT_DROP t).lo + (R.BRG_TUN_CNT_DROP t).width ≤ 32 := by show 0 + 16 ≤ 32; decide

/-- Settles O49: the branches of `serve`, `startOp`, `opData` and `bridgeError`, and what the lines that leave the cache do not change. -/
theorem bridgeQueues : Obligations.BridgeQueues := by
  unfold Obligations.BridgeQueues
  refine ⟨?_, ?_, ?_, ?_, ?_, ?_, ?_, ?_, ?_, ?_, ?_, ?_, ?_, ?_, ?_, ?_, ?_, ?_, ?_⟩
  · intro p s h
    exact congrArg (fun t : State => Host.Outcome.next t.settle) (State.serve_busy h)
  · intro p o r s hi hw hq
    exact congrArg (fun t : State => Host.Outcome.next t.settle) (State.serve_holder hi hw hq)
  · intro p s h
    exact congrArg (fun t : State => Host.Outcome.next t.settle) (State.serve_waits h)
  · intro p s hq hh
    exact congrArg (fun t : State => Host.Outcome.next t.settle) (State.serve_held hq hh)
  · intro p o r s hi hq hh hw hb
    exact congrArg (fun t : State => Host.Outcome.next t.settle) (State.serve_oldest hi hq hh hw hb)
  · intro p i o s hd ho
    exact State.startOp_uartWrite hd ho
  · intro p i o s hd ho
    exact State.startOp_iolWrite hd ho
  · intro p i o s hd ho hl
    exact State.startOp_objectRead hd ho hl
  · intro p i o b s ho hr hl
    rw [State.opData_isduRead ho hr, State.readData_all s hl]
  · intro p i o b s ho hr hl
    obtain ⟨free, n, hn, he⟩ := s.readData_short hl
    refine ⟨free, n, hn, ?_⟩
    rw [State.opData_isduRead ho hr, he]
  · intro p i o b s ho hp
    exact State.opData_verified ho hp
  · intro p i x o b s ho hp hl hv
    exact State.opData_rmw ho hp hl hv
  · intro p o s h
    exact if_pos h
  · intro s
    have h := s.dropLines_beside fun _ => true
    simp only [State.besideLines, Bool.not_true, List.filter_false, Prod.mk.injEq] at h
    exact ⟨s.dropLines fun _ => true, rfl, h⟩
  · intro s
    rfl
  · intro p n o s hq ho hp
    exact congrArg (fun t : State => Host.Outcome.next t.settle) (State.bridgeError_queued hq ho hp)
  · intro p n o s ho hp
    exact congrArg (fun t : State => Host.Outcome.next t.settle) (State.bridgeError_locked ho hp)
  · intro t n s hn
    refine ⟨(s.setTunq t ((s.tunq t).eraseIdx n)).inc (R.BRG_TUN_CNT_DROP t),
      congrArg (fun t : State => Host.Outcome.next t.settle) (if_pos hn), ?_, ?_⟩
    · rw [State.inc_tunq, State.setTunq_tunq]
    · rw [State.rd_inc_same _ _ _ (tunDropFits t)]
      rfl
  · intro n x s hx
    have h := s.dropLines_beside fun y => decide (y.port = x.port ∧ y.base = x.base)
    simp only [State.besideLines, Prod.mk.injEq] at h
    obtain ⟨hc, -, -, hp, -⟩ := h
    refine ⟨s.dropLines fun y => decide (y.port = x.port ∧ y.base = x.base), ?_, ?_, hp⟩
    · show Host.Outcome.next (s.bridgeError (.line n)).settle = _
      unfold State.bridgeError
      dsimp only
      rw [hx]
    · rw [hc]
      exact List.filter_congr fun y _ => (decide_not).symm

end Sys2Proof.Machine
end

section
/-!
PROOFS. Bus locks and tunnels (O50): the end of a window, the grant, a conflict, expiry and release, and the tunnel frames that are sent, held,
dropped or numbered.
-/

namespace Sys2Proof.Machine

/-! ### Bus locks -/

theorem State.closeWindow_one {s : State} {p : Nat} {r : Req} (h : (s.busLock p).contenders = [r]) : s.closeWindow p =
    (let t := s.setBusLock p { s.busLock p with windowOpen := false, contenders := [], winner := some r }
     if t.busIdle p then t.grant p r else t) := by
  unfold State.closeWindow
  dsimp only
  rw [h]
  simp only [List.foldl_nil, List.erase_cons_head]

/-- Port `p` is held by `x` for `us` µs from now. -/
def State.heldBy (s : State) (p : Nat) (x : Nat × Nat × Nat) (us : Nat) : State :=
  (s.setBusLock p { holder := some x, until_ := s.ns + us * 1000 }).invalidatePort p

theorem State.heldBy_beside (s : State) (p : Nat) (x : Nat × Nat × Nat) (us : Nat) : (s.heldBy p x us).besideLines =
    (s.brg.cache.filter fun y => !decide (y.port = p), s.brg.queue, (s.setBusLock p { holder := some x, until_ := s.ns + us * 1000 }).brg.locks,
        s.pctl,
      s.tgt) :=
  State.dropLines_beside _ _

theorem State.heldBy_busLock (s : State) (p : Nat) (x : Nat × Nat × Nat) (us q : Nat) : (s.heldBy p x us).busLock q =
    (s.setBusLock p { holder := some x, until_ := s.ns + us * 1000 }).busLock q := by
  unfold State.busLock
  rw [show (s.heldBy p x us).brg.locks = _ from congrArg (fun y => y.2.2.1) (State.heldBy_beside s p x us)]

theorem State.grant_locked {s : State} {p : Nat} {r : Req} (h : r.locked = true) :
    s.grant p r = (s.heldBy p (r.src, r.tn, r.lockId) (leAt r.operand 0 4)).ok r r.lockId 0 := by
  unfold State.grant
  simp only [h, if_true]
  rfl

theorem State.lockIn_conflict {s : State} {p node : Nat} {x : Nat × Nat} {k i : Nat} {r : Req} (hd : s.devTarget p = some (k, i))
    (hl : s.lockOk p = true) (hc : k ≠ cCan) (hs : k ≠ cSpe) (hr : s.ctlRaw k i = false) (hh : (s.busLock p).holder = some (node, x)) :
    s.lockIn p r = s.conflict r node := by
  unfold State.lockIn
  rw [hd]
  dsimp only
  rw [if_neg (not_not.mpr hl), if_neg (by simp [hc, hs, hr]), hh]

theorem lockBeats_rank {a b : Req} (h : a.src < b.src) : lockBeats a b = true ∧ lockBeats b a = false :=
  ⟨(if_pos (Nat.ne_of_lt h)).trans (decide_eq_true h), (if_pos (Nat.ne_of_gt h)).trans (decide_eq_false (Nat.lt_asymm h))⟩

section
variable {s : State} {p src tn id : Nat}

theorem State.lateExpiry_expired (hh : (s.busLock p).holder = some (src, tn, id)) (he : (s.busLock p).expired = true) :
    s.lateExpiry p = (s.releaseBus p src tn id).inc R.BRG_LOCK_CNT_EXPIRED := by
  unfold State.lateExpiry
  rw [hh]
  exact if_pos he

theorem State.expireLock_other (hh : (s.busLock p).holder = some (src, tn, id)) (hm : s.isMine src = false) : s.expireLock p =
    if (s.busOp p).isSome then s.setBusLock p { s.busLock p with expired := true }
    else (s.releaseBus p src tn id).inc R.BRG_LOCK_CNT_EXPIRED := by
  unfold State.expireLock
  rw [hh]
  dsimp only
  rw [if_neg (Bool.eq_false_iff.mp hm)]

theorem State.expireLock_free (hh : (s.busLock p).holder = none) : s.expireLock p = s := by
  unfold State.expireLock
  rw [hh]

/-- Port `p` is free, and no operation of its holder waits. -/
def State.portFreed (s : State) (p : Nat) : State :=
  { s.freeBus p with brg := { (s.freeBus p).brg with lockedOps := NMap.set (fun _ => []) s.brg.lockedOps p [] } }

theorem State.releaseBus_holder (hh : (s.busLock p).holder = some (src, tn, id)) :
    s.releaseBus p src tn id = (s.lockq p).foldl (fun t o => t.dropOp o stAborted) (s.portFreed p) := if_pos hh

theorem State.portFreed_busLock (s : State) (p : Nat) : (s.portFreed p).busLock p = { s.busLock p with holder := none, until_ := 0, expired :=
  false } :=
  State.setBusLock_busLock _ _ _

theorem State.portFreed_lockq (s : State) (p : Nat) : (s.portFreed p).lockq p = [] := by
  unfold State.lockq State.portFreed
  dsimp only
  exact NMap.get_set_same _ _ _ _

end

/-! ### Tunnels -/

theorem tunReceive_entry {i : Fin 4} {f : Frame} {s : State} (ht : f.typ = fTun) (hm : f.mark = .valid) (hd : s.isMine f.dst = true) :
    exec (.tunReceive i f) s =
      match (List.range 64).find? fun t => s.tunOk t ∧ s.flag (R.BRG_TUN_CFG_DIR t) ∧ s.rd (R.BRG_TUN_NODE_NODE t) = f.src ∧
          s.rd (R.BRG_TUN_CFG_TID t) = f.arg % 256 ∧ f.op = 1 with
      | none => .next (s.countDiscard i)
      | some t => .next (s.tunEgress t f).settle := by
  refine (if_neg ?_).trans rfl
  simp [ht, hm, hd]

theorem tunSeqFits (t : Nat) : (R.BRG_TUN_SEQ_NEXT t).lo + (R.BRG_TUN_SEQ_NEXT t).width ≤ 32 := by show 0 + 16 ≤ 32; decide

/-- Entry `t` has seen a frame, and expects number `n` next. -/
def State.seqTaken (s : State) (t n : Nat) : State :=
  ({ s with brg := { s.brg with seqSeen := if t ∈ s.brg.seqSeen then s.brg.seqSeen else t :: s.brg.seqSeen } }).wr (R.BRG_TUN_SEQ_NEXT t) n

theorem State.seqTaken_rd (s : State) (t n : Nat) {f : Fld} (h : (R.BRG_TUN_SEQ_NEXT t).off ≠ f.off) : (s.seqTaken t n).rd f = s.rd f :=
  State.rd_wr_ne _ _ (tunSeqFits t) (.inl h)

theorem State.seqTaken_next (s : State) (t : Nat) {n : Nat} (h : n < 65536) : (s.seqTaken t n).rd (R.BRG_TUN_SEQ_NEXT t) = n :=
  (State.rd_wr_same _ _ _ (tunSeqFits t)).trans (Nat.mod_eq_of_lt h)

theorem State.seqTaken_tunq (s : State) (t n q : Nat) : (s.seqTaken t n).tunq q = s.tunq q := by
  unfold State.tunq State.seqTaken
  rw [State.wr_brg]

theorem State.tunUplink_of {s u : State} {t : Nat} (h : u.rd (R.BRG_TUN_CFG_KIND t) = s.rd (R.BRG_TUN_CFG_KIND t)) : u.tunUplink t = s.tunUplink t :=
  by
  unfold State.tunUplink
  rw [h]

/-- In the safe state a frame for a field bus is dropped. -/
theorem State.tunEgress_safe {s : State} {t : Nat} {f : Frame} (hs : t ∉ s.brg.seqSeen) (hu : s.tunUplink t = false) (hi : s.inSafe = true) :
    s.tunEgress t f = (s.seqTaken t ((bits f.arg 8 16 + 1) % 65536)).inc (R.BRG_TUN_CNT_DROP t) := by
  unfold State.tunEgress
  extract_lets seq item u _ v drop a b c
  have hun : u = s := if_neg fun h => hs h.1
  have hv : v = s.seqTaken t ((bits f.arg 8 16 + 1) % 65536) := by
    show u.seqTaken t ((bits f.arg 8 16 + 1) % 65536) = _
    rw [hun]
  have hvu : v.tunUplink t = false := by
    rw [hv, State.tunUplink_of (State.seqTaken_rd _ _ _ (by show 0x93018 + 0x20 * t ≠ 0x93000 + 0x20 * t; omega)), hu]
  have hvi : v.inSafe = true := by
    rw [hv]
    unfold State.inSafe State.flag
    rw [State.seqTaken_rd _ _ _ (by show 0x93018 + 0x20 * t ≠ 0x30018; omega)]
    exact hi
  rw [if_pos ⟨Bool.eq_false_iff.mp hvu, .inl hvi⟩]
  show v.inc (R.BRG_TUN_CNT_DROP t) = _
  rw [hv]

theorem State.pumpTun_head {s : State} {t : Nat} {x : TunFrame} {r : List TunFrame} (hq : s.tunq t = x :: r) (hx : x.due = 0)
    (hu : s.tunUplink t = true) (n : Nat) : s.pumpTun t (n + 1) = ((s.setTunq t r).tunSend t x.tc x.bytes).pumpTun t n := by
  rw [State.pumpTun, hq]
  dsimp only
  refine if_neg (not_or.mpr ⟨not_not.mpr hx, ?_⟩)
  rw [hu]
  split <;> exact Bool.false_ne_true

theorem State.tunSend_up {s : State} {t tc : Nat} {item : List Byte} (hu : s.tunUplink t = true)
    (hp : (s.port (2 + (s.rd (R.BRG_TUN_CFG_KIND t) - 4))).st = .uplinkUp) : s.tunSend t tc item =
    s.emit (.ethernet (s.rd (R.BRG_TUN_CFG_KIND t) - 4) "tunnel" (s.ethTag (s.rd (R.BRG_TUN_CFG_KIND t) - 4) tc) (untagged (item.drop 16))) :=
  (if_pos hu).trans (if_neg (not_not.mpr hp))

theorem State.tunSend_down {s : State} {t tc : Nat} {item : List Byte} (hu : s.tunUplink t = true)
    (hp : (s.port (2 + (s.rd (R.BRG_TUN_CFG_KIND t) - 4))).st ≠ .uplinkUp) : s.tunSend t tc item = s.inc (R.BRG_TUN_CNT_DROP t) :=
  (if_pos hu).trans (if_pos hp)

/-- The next copy of entry `t` is numbered, and its gap is told. -/
def State.copyNumbered (s : State) (t : Nat) : State :=
  ({ s with brg := { s.brg with gap := s.brg.gap.filter (· ≠ t) } }).wr (R.BRG_TUN_SEQ_NEXT t) ((s.rd (R.BRG_TUN_SEQ_NEXT t) + 1) % 65536)

theorem State.copyNumbered_next (s : State) (t : Nat) : (s.copyNumbered t).rd (R.BRG_TUN_SEQ_NEXT t) = (s.rd (R.BRG_TUN_SEQ_NEXT t) + 1) % 65536 :=
  (State.rd_wr_same _ _ _ (tunSeqFits t)).trans (Nat.mod_eq_of_lt (Nat.mod_lt _ (by decide)))

theorem State.copyNumbered_gap (s : State) (t : Nat) : t ∉ (s.copyNumbered t).brg.gap := by
  unfold State.copyNumbered
  rw [State.wr_brg]
  exact fun h => of_decide_eq_true (List.mem_filter.mp h).2 rfl

/-- Settles O50: the branches of the window, of the grant and of the release, and what the registers of an entry show after a frame. -/
theorem locksAndTunnels : Obligations.LocksAndTunnels := by
  unfold Obligations.LocksAndTunnels
  refine ⟨?_, ?_, ?_, ?_, ?_, ?_, ?_, ?_, ?_, ?_, ?_, ?_, ?_, ?_, ?_, ?_, ?_, ?_, ?_, ?_, ?_⟩
  · intro p r s hw hc
    refine ⟨s.setBusLock p { s.busLock p with windowOpen := false, contenders := [], winner := some r },
      (if_pos hw).trans (congrArg (fun t : State => Host.Outcome.next t.settle) (State.closeWindow_one hc)), ?_⟩
    beta_reduce
    rw [State.setBusLock_busLock]
    exact ⟨rfl, rfl, rfl, rfl, rfl⟩
  · intro p s h
    exact if_neg (Bool.eq_false_iff.mp h)
  · intro p w s hw
    have he : exec (.lockGrant p) s = if s.busIdle p then .next (s.grant p w).settle else .next s := by
      show execLockGrant p s = _
      unfold execLockGrant
      rw [hw]
    exact ⟨fun h => he.trans (if_pos h), fun h => he.trans (if_neg (Bool.eq_false_iff.mp h))⟩
  · intro p r s hl
    have h := s.heldBy_beside p (r.src, r.tn, r.lockId) (leAt r.operand 0 4)
    simp only [State.besideLines, Prod.mk.injEq] at h
    obtain ⟨hc, -, -, hp, -⟩ := h
    refine ⟨s.heldBy p (r.src, r.tn, r.lockId) (leAt r.operand 0 4), State.grant_locked hl, ?_, ?_, ?_, ?_, hp, ?_⟩
    · rw [State.heldBy_busLock, State.setBusLock_busLock]
    · rw [State.heldBy_busLock, State.setBusLock_busLock]
    · rw [State.heldBy_busLock, State.setBusLock_busLock]
    · intro x hx
      rw [hc] at hx
      simpa using (List.mem_filter.mp hx).2
    · intro q hq
      rw [State.heldBy_busLock, State.setBusLock_busLock_ne _ _ _ hq]
  · intro p node x k i r s hd hl hc hs hr hh
    exact State.lockIn_conflict hd hl hc hs hr hh
  · intro a b h
    exact lockBeats_rank h
  · intro p src tn id s hh hm ho
    refine ⟨s.setBusLock p { s.busLock p with expired := true },
      congrArg (fun t : State => Host.Outcome.next t.settle) ((State.expireLock_other hh hm).trans (if_pos ho)), ?_, ?_, rfl⟩
    · rw [State.setBusLock_busLock]
    · rw [State.setBusLock_busLock]
      exact hh
  · intro p src tn id s hh he
    exact State.lateExpiry_expired hh he
  · intro p src tn id s hh hm ho
    refine congrArg (fun t : State => Host.Outcome.next t.settle) ((State.expireLock_other hh hm).trans (if_neg ?_))
    rw [ho]
    exact Bool.false_ne_true
  · intro p s hh
    exact congrArg (fun t : State => Host.Outcome.next t.settle) (State.expireLock_free hh)
  · intro p src tn id s hh
    refine ⟨s.portFreed p, congrArg (fun t : State => Host.Outcome.next t.settle) (State.releaseBus_holder hh), ?_, s.portFreed_lockq p, rfl, rfl,
        rfl, rfl⟩
    rw [State.portFreed_busLock]
  · intro p src tn id s hh
    exact congrArg (fun t : State => Host.Outcome.next t.settle) (if_neg hh)
  · intro i f s ht hm hd hn
    rw [tunReceive_entry ht hm hd, List.find?_eq_none.mpr]
    intro t ht hk
    obtain ⟨hok, -, hnode, -⟩ := of_decide_eq_true hk
    exact hn t (List.mem_range.mp ht) hok hnode
  · intro i t f s ht hm hd hf
    rw [tunReceive_entry ht hm hd, hf]
  · intro t f s hs hu hi
    rw [State.tunEgress_safe hs hu hi]
    refine ⟨?_, ?_, ?_⟩
    · rw [State.rd_inc_ne (g := R.BRG_TUN_SEQ_NEXT t) _ _ (tunDropFits t) (.inl (by show 0x93014 + 0x20 * t ≠ 0x93018 + 0x20 * t; omega)),
        State.seqTaken_next _ _ (Nat.mod_lt _ (by decide))]
    · rw [State.rd_inc_same _ _ _ (tunDropFits t), State.seqTaken_rd _ _ _ (by show 0x93018 + 0x20 * t ≠ 0x93014 + 0x20 * t; omega)]
      rfl
    · rw [State.inc_tunq, State.seqTaken_tunq]
  · intro t x r s hq hd hu hp
    show execTunReplayDue t s = _
    unfold execTunReplayDue
    rw [hq]
    dsimp only
    rw [if_pos hd, State.pumpTun_head (State.setTunq_tunq _ _ _) rfl hu 63]
    exact congrArg (fun u : State => Host.Outcome.next (u.pumpTun t 63)) (State.tunSend_up hu hp)
  · intro t x r s hq hd
    show execTunReplayDue t s = _
    unfold execTunReplayDue
    rw [hq]
    exact if_neg (Nat.not_le_of_lt hd)
  · intro t tc item s hu hp
    exact State.tunSend_down hu hp
  · intro t s hq
    show execTunReplayDue t s = _
    unfold execTunReplayDue
    rw [hq]
  · intro t at_ item s h
    exact if_pos h
  · intro t at_ item s h
    refine ⟨s.copyNumbered t, if_neg (Nat.not_lt_of_le h), s.copyNumbered_next t, s.copyNumbered_gap t, ?_, ?_⟩
    · exact State.wr_pctl _ _ _
    · rfl

end Sys2Proof.Machine
end

section
/-!
PROOFS. The switch core (O51): the matches of a cell time and the pointers after it, the cell that moves, the frame that is admitted, a bank that
retires, and the errors and the audit of the buffer.
-/

namespace Sys2Proof.Machine

/-! ### What is chosen -/

theorem choose_from (key : Rq → Nat) (p : Nat) (rs : List Rq) (b : Option Rq) (r : Rq)
    (h : rs.foldl (fun b r => match b with
      | none => some r
      | some q => if q.c < r.c ∨ (q.c = r.c ∧ (key r + 32 - p) % 32 < (key q + 32 - p) % 32) then some r else some q) b = some r) :
    (r ∈ rs ∨ b = some r) ∧ (∀ q ∈ rs, q.c ≤ r.c) ∧ ∀ q, b = some q → q.c ≤ r.c := by
  induction rs generalizing b with
  | nil =>
    refine ⟨.inr h, by simp, fun q hq => ?_⟩
    have : q = r := Option.some.inj (hq.symm.trans h)
    rw [this]
  | cons a rs ih =>
    rw [List.foldl_cons] at h
    obtain ⟨hm, hall, hb⟩ := ih _ h
    cases b with
    | none =>
      have ha : a.c ≤ r.c := hb a rfl
      refine ⟨.inl ?_, List.forall_mem_cons.mpr ⟨ha, hall⟩, fun q hq => by cases hq⟩
      rcases hm with hm | hm
      · exact List.mem_cons_of_mem _ hm
      · rw [← Option.some.inj hm]
        exact List.mem_cons_self
    | some q =>
      dsimp only at hm hb
      split at hm
      · next hc =>
        rw [if_pos hc] at hb
        have ha : a.c ≤ r.c := hb a rfl
        refine ⟨.inl ?_, List.forall_mem_cons.mpr ⟨ha, hall⟩, fun q' hq' => ?_⟩
        · rcases hm with hm | hm
          · exact List.mem_cons_of_mem _ hm
          · rw [← Option.some.inj hm]
            exact List.mem_cons_self
        · rw [← Option.some.inj hq']
          omega
      · next hc =>
        rw [if_neg hc] at hb
        have hq : q.c ≤ r.c := hb q rfl
        refine ⟨hm.imp_left (List.mem_cons_of_mem _), List.forall_mem_cons.mpr ⟨by omega, hall⟩, fun q' hq' => ?_⟩
        rw [← Option.some.inj hq']
        exact hq

/-- The request chosen is one of them, and of the highest class. -/
theorem choose_best {rs : List Rq} {key : Rq → Nat} {p : Nat} {r : Rq} (h : choose rs key p = some r) : r ∈ rs ∧ ∀ q ∈ rs, q.c ≤ r.c := by
  obtain ⟨hm, hall, -⟩ := choose_from key p rs none r h
  exact ⟨hm.resolve_right (by simp), hall⟩

/-- What an iteration matches is a request of it. -/
theorem State.iteration_request {s : State} {done : List Rq} {r : Rq} (h : r ∈ s.iteration done) : r ∈ s.requests done := by
  unfold State.iteration at h
  obtain ⟨i, -, hi⟩ := List.mem_filterMap.mp h
  obtain ⟨o, -, ho⟩ := List.mem_filterMap.mp (List.mem_filter.mp (choose_best hi).1).1
  exact (List.mem_filter.mp (choose_best ho).1).1

theorem State.requests_free {s : State} {done : List Rq} {r : Rq} (h : r ∈ s.requests done) : (∀ d ∈ done, d.i ≠ r.i ∧ d.o ≠ r.o) ∧
    ∃ x ∈ s.sw.queue, x.inp = r.i ∧ x.out = r.o ∧ x.cls = r.c ∧ x.moved < x.cells ∧ s.canTake x = true := by
  unfold State.requests at h
  obtain ⟨hall, hfree⟩ := List.mem_filter.mp h
  obtain ⟨-, hdone⟩ := of_decide_eq_true hfree
  obtain ⟨x, hx, hr⟩ := List.mem_map.mp (List.mem_dedup.mp hall)
  obtain ⟨hq, hc⟩ := List.mem_filter.mp hx
  obtain ⟨hmoved, htake⟩ := of_decide_eq_true hc
  refine ⟨fun d hd => not_or.mp fun hor => hdone (List.any_eq_true.mpr ⟨d, hd, decide_eq_true hor⟩), x, hq, ?_⟩
  subst hr
  exact ⟨rfl, rfl, rfl, hmoved, htake⟩

theorem State.iteration_none {s : State} (h : s.sw.queue = []) (done : List Rq) : s.iteration done = [] := by
  refine List.eq_nil_iff_forall_not_mem.mpr fun r hr => ?_
  obtain ⟨-, x, hx, -⟩ := State.requests_free (State.iteration_request hr)
  rw [h] at hx
  cases hx

/-! ### The pointers -/

/-- The pointers of the input and the output of match `r` move on. -/
def State.pointNext (s : State) (r : Rq) : State := { s with sw := { s.sw with
  gptr := NMap.set (fun _ => 0) s.sw.gptr r.o ((r.i + 1) % 32), aptr := NMap.set (fun _ => 0) s.sw.aptr r.i ((r.o + 1) % 32) } }

theorem State.pointNext_gptr (s : State) (r : Rq) (o : Nat) : (s.pointNext r).gptr o = if r.o = o then (r.i + 1) % 32 else s.gptr o := by
  unfold State.gptr State.pointNext
  dsimp only
  split
  · next h => rw [← h, NMap.get_set_same]
  · next h => exact NMap.get_set_ne _ _ _ (Ne.symm h)

theorem State.pointNext_aptr (s : State) (r : Rq) (i : Nat) : (s.pointNext r).aptr i = if r.i = i then (r.o + 1) % 32 else s.aptr i := by
  unfold State.aptr State.pointNext
  dsimp only
  split
  · next h => rw [← h, NMap.get_set_same]
  · next h => exact NMap.get_set_ne _ _ _ (Ne.symm h)

/-- A fold that sets a cell at the key of each item leaves the cell of `k` to the last item of that key, or as it was. -/
theorem foldl_last {g : State → Nat} {f : State → Rq → State} {key val : Rq → Nat} {k : Nat} (hf : ∀ s r, g
  (f s r) = if key r = k then val r else g s)
    (m : List Rq) (s : State) : (∃ r ∈ m, key r = k ∧ g (m.foldl f s) = val r) ∨ ((∀ r ∈ m, key r ≠ k) ∧ g (m.foldl f s) = g s) := by
  induction m generalizing s with
  | nil => exact .inr ⟨by simp, rfl⟩
  | cons a m ih =>
    rw [List.foldl_cons]
    rcases ih (f s a) with ⟨r, hr, hk, hv⟩ | ⟨hne, hv⟩
    · exact .inl ⟨r, List.mem_cons_of_mem _ hr, hk, hv⟩
    · rw [hf] at hv
      by_cases hk : key a = k
      · exact .inl ⟨a, List.mem_cons_self, hk, hv.trans (if_pos hk)⟩
      · exact .inr ⟨List.forall_mem_cons.mpr ⟨hk, hne⟩, hv.trans (if_neg hk)⟩

theorem State.cellTime_eq (s : State) : s.cellTime =
    ((s.iteration [] ++ s.iteration (s.iteration []) ++ s.iteration (s.iteration [] ++ s.iteration (s.iteration []))).foldl
      (fun t r => t.moveCell r) ((s.iteration []).foldl State.pointNext s)).serveOutputs := (rfl)

theorem switchCellTime_awake {s : State} (h : s.pwr.asleep = false) : exec .switchCellTime s = .next s.cellTime.settle :=
  if_neg (Bool.eq_false_iff.mp h)

/-- What the pointers leave as it was. -/
def State.besidePointers (s : State) : List QFrame × NMap Word × RingSt := (s.sw.queue, s.regs, s.ring)

theorem State.pointed_beside (m : List Rq) (s : State) : (m.foldl State.pointNext s).besidePointers = s.besidePointers :=
  Quiet.foldl (g := State.besidePointers) State.pointNext (fun _ _ => rfl) _ _

/-! ### The cell that moves -/

section
variable {s : State} {r : Rq} {x : QFrame} {a b : List QFrame}

theorem find_split {α : Type} {p : α → Bool} {a b : List α} {x : α} (ha : ∀ y ∈ a, p y = false) (hx : p x = true) : (a ++ x :: b).find? p = some x :=
  by
  rw [List.find?_append, List.find?_eq_none.mpr fun y hy => Bool.eq_false_iff.mp (ha y hy), Option.none_or, List.find?_cons_of_pos hx]

/-- A frame that starts: its first cell joins the tail. -/
theorem State.moveCell_starts (hq : s.sw.queue = a ++ x :: b) (hi : x.inp = r.i) (ho : x.out = r.o) (hc : x.cls = r.c) (hm : x.moved = 0)
    (hl : 0 < x.cells) (ha : ∀ y ∈ a, ¬ (y.inp = r.i ∧ y.out = r.o ∧ y.cls = r.c ∧ y.moved < y.cells)) (hxa : x ∉ a)
    (hb : ∀ y ∈ b, ¬ (y.inp = r.i ∧ y.out = r.o ∧ y.cls = r.c ∧ y.moved ≠ 0 ∧ y.moved < y.cells)) :
    (s.moveCell r).sw.queue = a ++ b ++ [{ x with moved := 1 }] := by
  have h1 : (s.sw.queue.find? fun x => decide ((x.inp = r.i ∧ x.out = r.o ∧ x.cls = r.c ∧ x.moved < x.cells) ∧ x.moved ≠ 0)) = none := by
    rw [hq, List.find?_eq_none]
    intro y hy hk
    obtain ⟨⟨k1, k2, k3, k4⟩, k5⟩ := of_decide_eq_true hk
    rcases List.mem_append.mp hy with h | h
    · exact ha y h ⟨k1, k2, k3, k4⟩
    · rcases List.mem_cons.mp h with rfl | h
      · exact k5 hm
      · exact hb y h ⟨k1, k2, k3, k5, k4⟩
  have h2 : (s.sw.queue.find? fun x => decide (x.inp = r.i ∧ x.out = r.o ∧ x.cls = r.c ∧ x.moved < x.cells)) = some x := by
    rw [hq]
    exact find_split (fun y hy => decide_eq_false (ha y hy)) (decide_eq_true ⟨hi, ho, hc, by omega⟩)
  unfold State.moveCell
  dsimp only
  rw [h1, h2, Option.none_or]
  dsimp only
  rw [if_pos hm, hq, List.erase_append_right _ hxa, List.erase_cons_head, hm]

theorem swapFirst_split {α : Type} [DecidableEq α] {x y : α} {a b : List α} (h : x ∉ a) : swapFirst x y (a ++ x :: b) = a ++ y :: b := by
  induction a with
  | nil => exact if_pos rfl
  | cons c a ih =>
    obtain ⟨hc, ha⟩ := not_or.mp (fun k => h (List.mem_cons.mpr k))
    exact (if_neg (Ne.symm hc)).trans (congrArg (c :: ·) (ih ha))

/-- A frame in motion goes on in its place. -/
theorem State.moveCell_goes_on (hq : s.sw.queue = a ++ x :: b) (hi : x.inp = r.i) (ho : x.out = r.o) (hc : x.cls = r.c) (hm : x.moved ≠ 0)
    (hl : x.moved < x.cells) (ha : ∀ y ∈ a, ¬ (y.inp = r.i ∧ y.out = r.o ∧ y.cls = r.c ∧ y.moved ≠ 0 ∧ y.moved < y.cells)) (hxa : x ∉ a) :
    (s.moveCell r).sw.queue = a ++ { x with moved := x.moved + 1 } :: b := by
  have h1 : (s.sw.queue.find? fun x => decide ((x.inp = r.i ∧ x.out = r.o ∧ x.cls = r.c ∧ x.moved < x.cells) ∧ x.moved ≠ 0)) = some x := by
    rw [hq]
    refine find_split (fun y hy => decide_eq_false ?_) (decide_eq_true ⟨⟨hi, ho, hc, hl⟩, hm⟩)
    rintro ⟨⟨k1, k2, k3, k4⟩, k5⟩
    exact ha y hy ⟨k1, k2, k3, k5, k4⟩
  unfold State.moveCell
  dsimp only
  rw [h1, Option.some_or]
  dsimp only
  rw [if_neg hm, hq, swapFirst_split hxa]

end

/-! ### Held frames -/

/-- Frame `x` is no longer held. -/
def State.unheld (s : State) (x : QFrame) : State := { s with sw := { s.sw with held := s.sw.held.erase x } }

theorem State.admitHeld_room {s : State} {i o c : Nat} {x : QFrame} (hf : (s.sw.held.find? fun x => x.inp = i ∧ x.out = o ∧ x.cls = c) = some x)
    (ha : s.admits i o c x.cells = true) : s.admitHeld i o c = (s.unheld x).admitFrame i o c x.frame := by
  unfold State.admitHeld
  rw [hf]
  exact if_pos ha

theorem State.admitHeld_none {s : State} {i o c : Nat} (hf : (s.sw.held.find? fun x => x.inp = i ∧ x.out = o ∧ x.cls = c) = none) :
    s.admitHeld i o c = s := by
  unfold State.admitHeld
  rw [hf]

theorem State.takeHeldDelta_ready {s : State} {d : Delta} {l : List Delta} (hi : s.twin.inbox = d :: l)
    (ha : s.admits 4 bPoints 6 (deltaFrame d).cells = true) (hs : s.isStandby = true) (hp : s.pairIs pReady = true) :
    s.takeHeldDelta =
      ({ s with twin := { s.twin with inbox := l }, sw := { s.sw with held := s.sw.held.erase (deltaFrame d) } } : State).deltaIn d := by
  unfold State.takeHeldDelta
  rw [hi]
  exact (if_pos ha).trans (if_pos ⟨hs, .inr hp⟩)

/-! ### Banks, errors and the audit -/

theorem swModeFits : R.SW_STAT_MODE.lo + R.SW_STAT_MODE.width ≤ 32 := by decide

/-- The bit that shows bank `b` as retired. -/
def bankFld (b : Nat) : Fld := ⟨0x80000, 16 + b, 1⟩

theorem bankFits (b : Fin 16) : (bankFld b).lo + (bankFld b).width ≤ 32 := by
  have := b.isLt
  show 16 + b.val + 1 ≤ 32
  omega

theorem State.retired_bit (s : State) (b : Fin 16) : bit (s.rd R.SW_STAT_RETIRED) b = bit (s.rd (bankFld b)) 0 := by
  rw [bit_of_rd s R.SW_STAT_RETIRED b.isLt, bit_of_rd s (bankFld b) (by show 0 < 1; decide)]
  rfl

/-- Bank `b` is shown as retired, and the drain has started. -/
def State.bankShown (s : State) (b : Nat) : State :=
  let s := s.wr (bankFld b) 1
  if s.rd R.SW_STAT_MODE = mShared then s.wr R.SW_STAT_MODE mDrain else s

theorem State.wrBank_mode (s : State) (b : Fin 16) : (s.wr (bankFld b) 1).rd R.SW_STAT_MODE = s.rd R.SW_STAT_MODE :=
  State.rd_wr_ne _ _ (bankFits b) (.inr (.inl (by show 0 + 2 ≤ 16 + b.val; omega)))

theorem State.bankShown_bit (s : State) (b : Fin 16) : bit ((s.bankShown b).rd R.SW_STAT_RETIRED) b = true := by
  have h : bit ((s.wr (bankFld b) 1).rd (bankFld b)) 0 = true := by
    rw [State.rd_wr_same _ _ _ (bankFits b)]
    exact (by decide : bit (1 % 2 ^ 1) 0 = true)
  rw [State.retired_bit]
  unfold State.bankShown
  dsimp only
  split
  · rw [State.rd_wr_ne (g := bankFld b) _ _ swModeFits (.inr (.inr (by show 0 + 2 ≤ 16 + b.val; omega)))]
    exact h
  · exact h

theorem State.bankShown_mode (s : State) (b : Fin 16) : (s.bankShown b).rd R.SW_STAT_MODE =
    if s.rd R.SW_STAT_MODE = mShared then mDrain else s.rd R.SW_STAT_MODE := by
  unfold State.bankShown
  dsimp only
  rw [State.wrBank_mode]
  split
  · exact State.rd_wr_same _ _ _ swModeFits
  · exact State.wrBank_mode s b

theorem State.bankShown_held (s : State) (b : Nat) : (s.bankShown b).sw = s.sw ∧ (s.bankShown b).ring = s.ring := by
  unfold State.bankShown
  dsimp only
  split
  · exact ⟨rfl, rfl⟩
  · exact ⟨rfl, rfl⟩

theorem State.retireBank_none (s : State) (b : Nat) : s.retireBank b [] = ((s.bankShown b).raise 15 .U).trimSweeps := (rfl)

theorem drained_iff (l : List QFrame) : (¬ l.any fun x => ¬ x.voq) ↔ ∀ x ∈ l, x.voq = true := by simp

/-- Frame `x` is no longer queued. -/
def State.unqueued (s : State) (x : QFrame) : State := { s with sw := { s.sw with queue := s.sw.queue.erase x } }

theorem State.dropQueued_waiting {s : State} {x : QFrame} (h : x.started = false) (count : Bool) : s.dropQueued x count =
    if count then (s.unqueued x).inc (R.SW_OQ_CNT_REFUSED (8 * x.out + x.cls)) else s.unqueued x := by
  unfold State.dropQueued
  dsimp only
  exact if_neg fun k => Bool.eq_false_iff.mp h k.1

theorem refusedFits (q : Nat) : (R.SW_OQ_CNT_REFUSED q).lo + (R.SW_OQ_CNT_REFUSED q).width ≤ 32 := by show 0 + 16 ≤ 32; decide

theorem State.queuedAt_one {s : State} {k : Nat} {x : QFrame} (hk : s.sw.queue[k]? = some x) (hv : x.voq = true) : s.queuedAt [k] true = [x] := by
  unfold State.queuedAt
  rw [show [k].dedup = [k] from List.dedup_eq_self.mpr (List.nodup_singleton k)]
  simp [hk, hv]

/-- The cells of `l` are suspected. -/
def State.setOrphans (s : State) (l : List (Nat × Nat)) : State := { s with sw := { s.sw with orphans := l } }

theorem State.audit_lost (s : State) (lost : List (Nat × Nat)) : s.audit lost [] =
    (let t := s.setOrphans (lost.dedup.filter fun x => x ∉ s.sw.orphans)
     if (lost.dedup.filter fun x => x ∈ s.sw.orphans) = [] then t
     else (t.inc R.SW_AUDIT_RECLAIMED (lost.dedup.filter fun x => x ∈ s.sw.orphans).length).raise 17 .C) := by
  unfold State.audit
  dsimp only
  rw [if_pos rfl]
  rfl

/-- Settles O51: the folds over matches and frames by induction, and the branches of each error. -/
theorem switchCore : Obligations.SwitchCore := by
  unfold Obligations.SwitchCore
  refine ⟨?_, ?_, ?_, ?_, ?_, ?_, ?_, ?_, ?_, ?_, ?_, ?_, ?_, ?_, ?_, ?_, ?_, ?_⟩
  · intro s ha hq
    refine ⟨s, (switchCellTime_awake ha).trans ?_, rfl⟩
    rw [State.cellTime_eq]
    simp only [State.iteration_none hq, List.append_nil, List.foldl_nil]
  · intro m1 m2 m3 s ha h1 h2 h3
    subst h1 h2 h3
    have hb := State.pointed_beside (s.iteration []) s
    simp only [State.besidePointers, Prod.mk.injEq] at hb
    obtain ⟨hq, hr, hring⟩ := hb
    exact ⟨(s.iteration []).foldl State.pointNext s, switchCellTime_awake ha, hq, hr, hring,
      fun o => foldl_last (g := fun t => t.gptr o) (key := (·.o)) (val := fun r => (r.i + 1) % 32) (fun t r => t.pointNext_gptr r o) _ s,
      fun i => foldl_last (g := fun t => t.aptr i) (key := (·.i)) (val := fun r => (r.o + 1) % 32) (fun t r => t.pointNext_aptr r i) _ s⟩
  · intro s h
    exact if_pos h
  · intro r x a b s hq hi ho hc hm hl ha hxa hb
    exact State.moveCell_starts hq hi ho hc hm hl ha hxa hb
  · intro r x a b s hq hi ho hc hm hl ha hxa
    exact State.moveCell_goes_on hq hi ho hc hm hl ha hxa
  · intro rs key p r h
    exact choose_best h
  · intro done r s h
    exact State.requests_free (State.iteration_request h)
  · intro i o c x s hi hf ha
    exact ⟨s.unheld x, (if_neg hi).trans (congrArg Host.Outcome.next (State.admitHeld_room hf ha)), rfl, rfl, rfl⟩
  · intro d l i o c s hi ho hc hin ha hs hp
    rw [hi, ho, hc] at ha
    exact ⟨{ s with twin := { s.twin with inbox := l }, sw := { s.sw with held := s.sw.held.erase (deltaFrame d) } },
      (if_pos hi).trans (congrArg Host.Outcome.next ((if_pos ⟨ho, hc⟩).trans (State.takeHeldDelta_ready hin ha hs hp))), rfl, rfl, rfl⟩
  · intro i o c s hi hf
    exact (if_neg hi).trans (congrArg Host.Outcome.next (State.admitHeld_none hf))
  · intro b s
    obtain ⟨hsw, hring⟩ := s.bankShown_held b
    exact ⟨s.bankShown b, congrArg Host.Outcome.next (s.retireBank_none b), s.bankShown_bit b, s.bankShown_mode b, hsw, hring⟩
  · intro s hm hq
    refine ⟨s.wr R.SW_STAT_MODE mVoq, if_pos ⟨hm, (drained_iff _).mpr hq⟩, State.rd_wr_same _ _ _ swModeFits, rfl, rfl⟩
  · intro s h
    refine if_neg fun ⟨hm, hq⟩ => ?_
    rcases h with h | ⟨x, hx, hv⟩
    · exact h hm
    · exact Bool.eq_false_iff.mp hv ((drained_iff _).mp hq x hx)
  · intro s
    exact ⟨{ s with sw := { s.sw with gptr := [], aptr := [] } }, rfl, fun _ => ⟨rfl, rfl⟩, rfl, rfl⟩
  · intro k x s hk hv
    show execSchedulerError (some k) s = _
    unfold execSchedulerError
    dsimp only
    rw [State.queuedAt_one hk hv]
    rfl
  · intro x s h
    have ht : s.dropQueued x true = (s.unqueued x).inc (R.SW_OQ_CNT_REFUSED (8 * x.out + x.cls)) := (State.dropQueued_waiting h true).trans
        (if_pos rfl)
    have hf : s.dropQueued x false = s.unqueued x := (State.dropQueued_waiting h false).trans (if_neg Bool.false_ne_true)
    rw [ht, hf]
    exact ⟨rfl, rfl, rfl, State.rd_inc_same _ _ _ (refusedFits _)⟩
  · intro lost s h
    have hn : (lost.dedup.filter fun x => decide (x ∈ s.sw.orphans)) = [] :=
      List.filter_eq_nil_iff.mpr fun x hx => by simpa using h x (List.mem_dedup.mp hx)
    have ha : (lost.dedup.filter fun x => decide (x ∉ s.sw.orphans)) = lost.dedup :=
      List.filter_eq_self.mpr fun x hx => decide_eq_true (h x (List.mem_dedup.mp hx))
    refine ⟨s.setOrphans (lost.dedup.filter fun x => x ∉ s.sw.orphans),
      congrArg Host.Outcome.next ((s.audit_lost lost).trans (if_pos hn)), ha, rfl, rfl⟩
  · rintro lost s ⟨x, hx, ho⟩
    have hn : (lost.dedup.filter fun x => decide (x ∈ s.sw.orphans)) ≠ [] :=
      List.ne_nil_of_mem (List.mem_filter.mpr ⟨List.mem_dedup.mpr hx, decide_eq_true ho⟩)
    refine ⟨(s.setOrphans (lost.dedup.filter fun x => x ∉ s.sw.orphans)).inc R.SW_AUDIT_RECLAIMED
        (lost.dedup.filter fun x => x ∈ s.sw.orphans).length,
      congrArg Host.Outcome.next ((s.audit_lost lost).trans (if_neg hn)), rfl, rfl, State.rd_inc_same _ _ _ (by decide)⟩

end Sys2Proof.Machine
end

section
/-!
PROOFS. The fault collector, the safe state and the logs (O58): what an occurrence and a clear show, entry into the safe state and its end, and the
two logs.
-/

namespace Sys2Proof.Machine

/-! ### The fields of a source -/

theorem fltBitFits (b : Nat) : (fltBit b).lo + (fltBit b).width ≤ 32 := by
  show b % 32 + 1 ≤ 32
  omega

theorem srcClassFits (b : Nat) : (R.FLT_SRC_CLASS b).lo + (R.FLT_SRC_CLASS b).width ≤ 32 := by show 24 + 2 ≤ 32; decide
theorem srcRepeatFits (b : Nat) : (R.FLT_SRC_REPEAT b).lo + (R.FLT_SRC_REPEAT b).width ≤ 32 := by show 0 + 8 ≤ 32; decide
theorem srcDetailFits (b : Nat) : (R.FLT_SRC_DETAIL b).lo + (R.FLT_SRC_DETAIL b).width ≤ 32 := by show 0 + 32 ≤ 32; decide
theorem srcFirst0Fits (b : Nat) : (R.FLT_SRC_FIRST_W0 b).lo + (R.FLT_SRC_FIRST_W0 b).width ≤ 32 := by show 0 + 32 ≤ 32; decide
theorem srcFirst1Fits (b : Nat) : (R.FLT_SRC_FIRST_W1 b).lo + (R.FLT_SRC_FIRST_W1 b).width ≤ 32 := by show 0 + 32 ≤ 32; decide
theorem statusRepeatFits : R.FLT_STATUS_REPEAT.lo + R.FLT_STATUS_REPEAT.width ≤ 32 := by decide
theorem safeFits : R.FLT_SAFE_SAFE.lo + R.FLT_SAFE_SAFE.width ≤ 32 := by decide
theorem safeCauseFits : R.FLT_SAFE_CAUSE.lo + R.FLT_SAFE_CAUSE.width ≤ 32 := by decide
theorem rdStateFits : R.FLT_LOG_RDSTAT_STATE.lo + R.FLT_LOG_RDSTAT_STATE.width ≤ 32 := by decide

theorem fltBit_off {b : Nat} (h : b < 49) : (fltBit b).off = 0x30000 ∨ (fltBit b).off = 0x30004 := by
  show 0x30000 + 4 * (b / 32) = _ ∨ 0x30000 + 4 * (b / 32) = _
  omega

theorem State.logFault_rd (s : State) (a b c d e : Nat) {f : Fld} (h : f.off ≠ 0x30040) : (s.logFault a b c d e).rd f = s.rd f := by
  unfold State.logFault
  dsimp only
  split
  · exact (State.rd_inc_ne _ _ (by decide) (.inl h.symm)).trans rfl
  · rfl

theorem State.logFault_flag (s : State) (a b c d e : Nat) {f : Fld} (h : f.off ≠ 0x30040) : (s.logFault a b c d e).flag f = s.flag f := by
  unfold State.flag
  rw [State.logFault_rd _ _ _ _ _ _ h]

/-- What a record of the fault log leaves of the collector. -/
theorem State.logFault_persist (s : State) (a b c d e : Nat) : (s.logFault a b c d e).flt.persist = s.flt.persist := by
  unfold State.logFault
  dsimp only
  split
  · rw [State.inc_flt]
  · rfl

theorem FClass.code_lt (c : FClass) : FClass.code c % 2 ^ 2 = FClass.code c := by cases c <;> rfl

/-! ### A first occurrence -/

/-- Source `b` shows class `c`, no repeat, DETAIL `d` and the time `t`. -/
def State.srcShown (s : State) (b : Nat) (c : FClass) (d t : Nat) : State :=
  (((((s.wr (fltBit b) 1).wr (R.FLT_SRC_CLASS b) (FClass.code c)).wr (R.FLT_SRC_REPEAT b) 0).wr (R.FLT_SRC_DETAIL b) d).wr
    (R.FLT_SRC_FIRST_W0 b) (t % 1000000000)).wr (R.FLT_SRC_FIRST_W1 b) (t / 1000000000)

theorem State.firstOccurrence_eq (s : State) (b : Nat) (c : FClass) (d : Nat) :
    s.firstOccurrence b c d = (s.srcShown b c d (s.tdNow 0 / 65536)).logFault 0x01 b (FClass.code c) 0 d := (rfl)

section
variable (s : State) (b : Nat) (c : FClass) (d t : Nat)

theorem State.srcShown_below {f : Fld} (h : f.off < 0x30100) : (s.srcShown b c d t).rd f = (s.wr (fltBit b) 1).rd f := by
  unfold State.srcShown
  rw [State.rd_wr_ne _ _ (srcFirst1Fits b) (.inl (by show 0x30104 + 0x10 * b ≠ _; omega)),
    State.rd_wr_ne _ _ (srcFirst0Fits b) (.inl (by show 0x30100 + 0x10 * b ≠ _; omega)),
    State.rd_wr_ne _ _ (srcDetailFits b) (.inl (by show 0x3010c + 0x10 * b ≠ _; omega)),
    State.rd_wr_ne _ _ (srcRepeatFits b) (.inl (by show 0x30108 + 0x10 * b ≠ _; omega)),
    State.rd_wr_ne _ _ (srcClassFits b) (.inl (by show 0x30108 + 0x10 * b ≠ _; omega))]

theorem State.srcShown_bit (hb : b < 49) : (s.srcShown b c d t).flag (fltBit b) = true := by
  unfold State.flag
  rw [State.srcShown_below _ _ _ _ _ (by rcases fltBit_off hb with h | h <;> rw [h] <;> decide), State.rd_wr_same _ _ _ (fltBitFits b)]
  exact decide_eq_true (by show 1 % 2 ^ 1 ≠ 0; decide)

theorem State.srcShown_detail : (s.srcShown b c d t).rd (R.FLT_SRC_DETAIL b) = d % 2 ^ 32 := by
  unfold State.srcShown
  rw [State.rd_wr_ne _ _ (srcFirst1Fits b) (.inl (by show 0x30104 + 0x10 * b ≠ 0x3010c + 0x10 * b; omega)),
    State.rd_wr_ne _ _ (srcFirst0Fits b) (.inl (by show 0x30100 + 0x10 * b ≠ 0x3010c + 0x10 * b; omega)),
    State.rd_wr_same _ _ _ (srcDetailFits b)]
  rfl

theorem State.srcShown_word {f : Fld} (h : f.off = 0x30108 + 0x10 * b) : (s.srcShown b c d t).rd f =
    (((s.wr (fltBit b) 1).wr (R.FLT_SRC_CLASS b) (FClass.code c)).wr (R.FLT_SRC_REPEAT b) 0).rd f := by
  unfold State.srcShown
  rw [State.rd_wr_ne _ _ (srcFirst1Fits b) (.inl (by rw [h]; show 0x30104 + 0x10 * b ≠ _; omega)),
    State.rd_wr_ne _ _ (srcFirst0Fits b) (.inl (by rw [h]; show 0x30100 + 0x10 * b ≠ _; omega)),
    State.rd_wr_ne _ _ (srcDetailFits b) (.inl (by rw [h]; show 0x3010c + 0x10 * b ≠ _; omega))]

theorem State.srcShown_class : (s.srcShown b c d t).rd (R.FLT_SRC_CLASS b) = FClass.code c := by
  rw [State.srcShown_word _ _ _ _ _ rfl, State.rd_wr_ne _ _ (srcRepeatFits b) (.inr (.inr (by show 0 + 8 ≤ 24; decide))),
    State.rd_wr_same _ _ _ (srcClassFits b)]
  exact FClass.code_lt c

theorem State.srcShown_repeat : (s.srcShown b c d t).rd (R.FLT_SRC_REPEAT b) = 0 := by
  rw [State.srcShown_word _ _ _ _ _ rfl, State.rd_wr_same _ _ _ (srcRepeatFits b)]
  rfl

theorem State.srcShown_safe (hb : b < 49) : (s.srcShown b c d t).inSafe = s.inSafe := by
  unfold State.inSafe State.flag
  rw [State.srcShown_below _ _ _ _ _ (by decide),
    State.rd_wr_ne _ _ (fltBitFits b) (.inl (by rcases fltBit_off hb with h | h <;> rw [h] <;> decide))]

end

/-- A fault whose source is not shown: what the first occurrence shows. -/
theorem State.firstOccurrence_shows (s : State) {b : Nat} (c : FClass) (d : Nat) (hb : b < 49) : (s.firstOccurrence b c d).flag (fltBit b) = true ∧
    (s.firstOccurrence b c d).rd (R.FLT_SRC_CLASS b) = FClass.code c ∧ (s.firstOccurrence b c d).rd (R.FLT_SRC_REPEAT b) = 0 ∧
    (s.firstOccurrence b c d).rd (R.FLT_SRC_DETAIL b) = d % 2 ^ 32 ∧ (s.firstOccurrence b c d).inSafe = s.inSafe := by
  rw [State.firstOccurrence_eq]
  refine ⟨?_, ?_, ?_, ?_, ?_⟩
  · rw [State.logFault_flag _ _ _ _ _ _ (by rcases fltBit_off hb with h | h <;> rw [h] <;> decide), State.srcShown_bit _ _ _ _ _ hb]
  · rw [State.logFault_rd _ _ _ _ _ _ (by show 0x30108 + 0x10 * b ≠ _; omega), State.srcShown_class]
  · rw [State.logFault_rd _ _ _ _ _ _ (by show 0x30108 + 0x10 * b ≠ _; omega), State.srcShown_repeat]
  · rw [State.logFault_rd _ _ _ _ _ _ (by show 0x3010c + 0x10 * b ≠ _; omega), State.srcShown_detail]
  · exact (State.logFault_flag _ _ _ _ _ _ (by decide)).trans (State.srcShown_safe _ _ _ _ _ hb)

theorem State.raise_corrected {s : State} {b d : Nat} (hf : s.flt.selfFault = false) (h : s.flag (fltBit b) = false) :
    s.raise b .C d = s.firstOccurrence b .C d := by
  unfold State.raise
  rw [if_neg (Bool.eq_false_iff.mp hf), if_neg (Bool.eq_false_iff.mp h)]
  exact if_neg (by simp)

theorem State.raise_again {s : State} {b : Nat} (c : FClass) (d : Nat) (hf : s.flt.selfFault = false) (h : s.flag (fltBit b) = true)
    (hc : c = .C ∨ (c = .U ∧ (s.repeatOccurrence b c).flag (escBit b) = false)) : s.raise b c d = s.repeatOccurrence b c := by
  unfold State.raise
  rw [if_neg (Bool.eq_false_iff.mp hf), if_pos h]
  dsimp only
  refine if_neg ?_
  rcases hc with rfl | ⟨rfl, he⟩
  · simp
  · rw [he]
    simp

/-! ### A repeated occurrence -/

/-- Source `b` shows one repeat more, up to 255. -/
def State.repeatShown (s : State) (b : Nat) : State :=
  if s.rd (R.FLT_SRC_REPEAT b) < 255 then (s.wr (R.FLT_SRC_REPEAT b) (s.rd (R.FLT_SRC_REPEAT b) + 1)).wr R.FLT_STATUS_REPEAT 1 else s

theorem State.repeatShown_rd (s : State) (b : Nat) {f : Fld} (h1 : f.off ≠ 0x30004) (h2 : f.off ≠ 0x30108 + 0x10 * b ∨ 8 ≤ f.lo) :
    (s.repeatShown b).rd f = s.rd f := by
  unfold State.repeatShown
  split
  · rw [State.rd_wr_ne _ _ statusRepeatFits (.inl h1.symm)]
    exact State.rd_wr_ne _ _ (srcRepeatFits b) (h2.imp Ne.symm fun h => .inr (by show 0 + 8 ≤ f.lo; omega))
  · rfl

theorem State.repeatShown_repeat (s : State) (b : Nat) : (s.repeatShown b).rd (R.FLT_SRC_REPEAT b) = min 255 (s.rd (R.FLT_SRC_REPEAT b) + 1) := by
  have hlt : s.rd (R.FLT_SRC_REPEAT b) < 2 ^ 8 := s.rd_lt (R.FLT_SRC_REPEAT b)
  unfold State.repeatShown
  split
  · next h =>
    rw [State.rd_wr_ne _ _ statusRepeatFits (.inl (by show 0x30004 ≠ 0x30108 + 0x10 * b; omega)), State.rd_wr_same _ _ _ (srcRepeatFits b)]
    show (s.rd (R.FLT_SRC_REPEAT b) + 1) % 2 ^ 8 = _
    omega
  · next h => omega

/-- The record of the 255th repeat, where there is one. -/
def State.repeatLogged (s : State) (b : Nat) (c : FClass) : State :=
  let u := s.repeatShown b
  if s.rd (R.FLT_SRC_REPEAT b) = 254 then u.logFault 0x03 b (max (u.rd (R.FLT_SRC_CLASS b)) (FClass.code c)) 255 (s.rd (R.FLT_SRC_DETAIL b)) else u

theorem State.repeatLogged_rd (s : State) (b : Nat) (c : FClass) {f : Fld} (h : f.off ≠ 0x30040) :
    (s.repeatLogged b c).rd f = (s.repeatShown b).rd f := by
  unfold State.repeatLogged
  dsimp only
  split
  · exact State.logFault_rd _ _ _ _ _ _ h
  · rfl

theorem State.repeatOccurrence_eq (s : State) (b : Nat) (c : FClass) : s.repeatOccurrence b c =
    (let u := s.repeatLogged b c
     if u.rd (R.FLT_SRC_CLASS b) < FClass.code c then
       (u.wr (R.FLT_SRC_CLASS b) (FClass.code c)).logFault 0x02 b (FClass.code c) (u.rd (R.FLT_SRC_REPEAT b)) (s.rd (R.FLT_SRC_DETAIL b))
     else u) := (rfl)

theorem State.repeatLogged_class (s : State) (b : Nat) (c : FClass) : (s.repeatLogged b c).rd (R.FLT_SRC_CLASS b) = s.rd (R.FLT_SRC_CLASS b) := by
  rw [State.repeatLogged_rd _ _ _ (by show 0x30108 + 0x10 * b ≠ _; omega),
    State.repeatShown_rd _ _ (by show 0x30108 + 0x10 * b ≠ _; omega) (.inr (by show 8 ≤ 24; decide))]

/-- A repeat that does not raise the class only counts. -/
theorem State.repeatOccurrence_counts {s : State} {b : Nat} {c : FClass} (h : FClass.code c ≤ s.rd (R.FLT_SRC_CLASS b)) :
    s.repeatOccurrence b c = s.repeatLogged b c := by
  rw [State.repeatOccurrence_eq]
  dsimp only
  rw [State.repeatLogged_class]
  exact if_neg (Nat.not_lt_of_le h)

theorem State.repeatOccurrence_rises {s : State} {b : Nat} {c : FClass} (h : s.rd (R.FLT_SRC_CLASS b) < FClass.code c) :
    (s.repeatOccurrence b c).rd (R.FLT_SRC_CLASS b) = FClass.code c := by
  rw [State.repeatOccurrence_eq]
  dsimp only
  rw [State.repeatLogged_class, if_pos h, State.logFault_rd _ _ _ _ _ _ (by show 0x30108 + 0x10 * b ≠ _; omega),
    State.rd_wr_same _ _ _ (srcClassFits b)]
  exact FClass.code_lt c

theorem State.repeatOccurrence_esc (s : State) (c : FClass) {b : Nat} (hb : b < 49) : (s.repeatOccurrence b c).flag (escBit b) = s.flag (escBit b) :=
  by
  have ho : (escBit b).off = 0x30010 ∨ (escBit b).off = 0x30014 := by
    show 0x30010 + 4 * (b / 32) = _ ∨ 0x30010 + 4 * (b / 32) = _
    omega
  have h1 : (escBit b).off ≠ 0x30040 := by omega
  have hl : (s.repeatLogged b c).rd (escBit b) = s.rd (escBit b) := by
    rw [State.repeatLogged_rd _ _ _ h1, State.repeatShown_rd _ _ (by omega) (.inl (by omega))]
  unfold State.flag
  rw [State.repeatOccurrence_eq]
  dsimp only
  split
  · rw [State.logFault_rd _ _ _ _ _ _ h1,
      State.rd_wr_ne (g := escBit b) _ _ (srcClassFits b) (.inl (by show 0x30108 + 0x10 * b ≠ (escBit b).off; omega)), hl]
  · rw [hl]

/-! ### The safe state -/

/-- The safe state is shown with its cause, and its record is written. -/
def State.safeShown (s : State) (cause cls rep : Nat) : State :=
  let s := (s.wr R.FLT_SAFE_SAFE 1).wr R.FLT_SAFE_CAUSE cause
  s.logFault 0x10 (if cause = 0xFD then 0xFF else cause) cls rep (if cause < 49 then s.rd (R.FLT_SRC_DETAIL cause) else 0)

theorem State.enterSafe_enters {s : State} (cause cls rep : Nat) (h : s.inSafe = false) : s.enterSafe cause cls rep =
    if (s.safeShown cause cls rep).safeTwin.twin.relinquish then (s.safeShown cause cls rep).safeTwin
    else (s.safeShown cause cls rep).safeTwin.safeRest :=
  if_neg (Bool.eq_false_iff.mp h)

theorem State.safeTwin_leaves (s : State) : s.safeTwin.regs = s.regs ∧ s.safeTwin.brg = s.brg := by
  unfold State.safeTwin
  split
  · exact ⟨rfl, rfl⟩
  · split
    · exact ⟨rfl, rfl⟩
    · exact ⟨rfl, rfl⟩

theorem State.safeShown_shows (s : State) {cause : Nat} (cls rep : Nat) (h : cause < 256) : (s.safeShown cause cls rep).inSafe = true ∧
    (s.safeShown cause cls rep).rd R.FLT_SAFE_CAUSE = cause ∧ (s.safeShown cause cls rep).brg = s.brg := by
  unfold State.safeShown
  refine ⟨?_, ?_, (quiet_brg.logFault _ _ _ _ _ _).trans ((State.wr_brg _ _ _).trans (State.wr_brg _ _ _))⟩
  · refine (State.logFault_flag _ _ _ _ _ _ (by decide)).trans ((State.flag_wr_ne _ _ safeCauseFits (.inr (.inr (by decide)))).trans ?_)
    exact (State.flag_wr_same _ _ _ safeFits).trans (decide_eq_true (by show 1 % 2 ^ 1 ≠ 0; decide))
  · rw [State.logFault_rd _ _ _ _ _ _ (by decide), State.rd_wr_same _ _ _ safeCauseFits]
    exact Nat.mod_eq_of_lt h

/-- The end of the safe state is shown, and its record is written. -/
def State.safeOver (s : State) : State :=
  let s := (s.wr R.FLT_SAFE_SAFE 0).logFault 0x11 0xFF 0 0 0
  { s with twin := { s.twin with relinquish := false } }

/-- A channel that does not run gives its port back its state of rest. -/
def State.portRest (s : State) (p : Nat) : State := if s.portLive p then s else s.applyChan p

theorem State.portRest_safe (s : State) (p : Nat) : (s.portRest p).inSafe = s.inSafe := by
  unfold State.portRest
  split
  · rfl
  · unfold State.inSafe State.flag
    rw [State.rd_of_word (State.applyChan_word s p (by show 0x30018 < 0xC0000; decide))]

theorem State.portRest_twin (s : State) (p : Nat) : (s.portRest p).twin = s.twin := by
  unfold State.portRest
  split
  · rfl
  · exact quiet_twin.applyChan s p

theorem State.leaveSafe_eq (s : State) : s.leaveSafe =
    (let u := (List.range 64).foldl State.portRest s.safeOver
     if decide (u.rd R.TWIN_STAT_ROLE = 2) then u.emit (.twin "safe notice ends" []) else u) := (rfl)

theorem State.leaveSafe_over (s : State) : s.leaveSafe.inSafe = false ∧ s.leaveSafe.twin.relinquish = false := by
  have hs : ((List.range 64).foldl State.portRest s.safeOver).inSafe = false := by
    rw [Quiet.foldl (g := State.inSafe) State.portRest State.portRest_safe]
    unfold State.safeOver
    refine (State.logFault_flag (s.wr R.FLT_SAFE_SAFE 0) _ _ _ _ _ (by decide)).trans ?_
    exact (State.flag_wr_same _ _ _ safeFits).trans rfl
  have ht : ((List.range 64).foldl State.portRest s.safeOver).twin.relinquish = false := by
    rw [Quiet.foldl (g := State.twin) State.portRest State.portRest_twin]
    rfl
  rw [State.leaveSafe_eq]
  dsimp only
  split
  · exact ⟨hs, ht⟩
  · exact ⟨hs, ht⟩

theorem State.mayExit_held {s : State} (h : s.sec.vault.latch = true ∨ ∃ b < 49, s.flag (fltBit b) = true ∧ s.rd (R.FLT_SRC_CLASS b) = 3) :
    s.mayExit = false := by
  unfold State.mayExit
  rcases h with h | ⟨b, hb, hf, hc⟩
  · rw [h, Bool.not_true, Bool.and_false, Bool.false_and]
  · rw [Bool.and_eq_false_iff]
    refine .inr (List.all_eq_false.mpr ⟨b, List.mem_range.mpr hb, ?_⟩)
    rw [hf, hc]
    simp

/-! ### A clear -/

/-- The record of source `b` is gone. -/
def State.faultCleared (s : State) (b : Nat) : State :=
  let s := s.logFault 0x04 b 0 (s.rd (R.FLT_SRC_REPEAT b)) (s.rd (R.FLT_SRC_DETAIL b))
  let s := (s.wr (fltBit b) 0).setWords (0x30100 + 0x10 * b) 4 0
  s.wr R.FLT_STATUS_REPEAT (bnat ((List.range 49).any fun x => s.rd (R.FLT_SRC_REPEAT x) ≠ 0))

theorem State.clearFault_shown {s : State} {b : Nat} (h : s.flag (fltBit b) = true) : s.clearFault b =
    match (s.faultCleared b).flt.persist.find? fun x => x.1 = b with
    | some (_, c, d) => (s.faultCleared b).raise b c d
    | none => s.faultCleared b :=
  if_neg (not_not.mpr h)

theorem State.word_of_words_zero {s : State} {off n j : Nat} (h : s.words off n = 0) (hj : j < n) : s.word (off + 4 * j) = 0 := by
  induction n generalizing off j with
  | zero => exact absurd hj (Nat.not_lt_zero j)
  | succ n ih =>
    rw [State.words] at h
    cases j with
    | zero =>
      show s.word off = 0
      omega
    | succ j =>
      rw [show off + 4 * (j + 1) = off + 4 + 4 * j by omega]
      exact ih (by omega) (by omega)

theorem State.rd_of_zero {s : State} {f : Fld} (h : s.word f.off = 0) : s.rd f = 0 := by
  unfold State.rd bits
  rw [h, Nat.zero_div, Nat.zero_mod]

section
variable (s : State) (b : Nat)

theorem State.faultCleared_src {f : Fld} {j : Nat} (hf : f.off = 0x30100 + 0x10 * b + 4 * j) (hj : j < 4) : (s.faultCleared b).rd f = 0 := by
  unfold State.faultCleared
  extract_lets u v
  rw [State.rd_wr_ne _ _ statusRepeatFits (.inl (by rw [hf]; show 0x30004 ≠ _; omega))]
  refine State.rd_of_zero ?_
  rw [hf]
  exact State.word_of_words_zero (State.words_setWords_same _ _ 4 (by decide)) hj

theorem State.faultCleared_bit (hb : b < 49) : (s.faultCleared b).flag (fltBit b) = false := by
  unfold State.faultCleared
  extract_lets u v
  have hne : R.FLT_STATUS_REPEAT.off ≠ (fltBit b).off ∨ (fltBit b).lo + (fltBit b).width ≤ R.FLT_STATUS_REPEAT.lo ∨
      R.FLT_STATUS_REPEAT.lo + R.FLT_STATUS_REPEAT.width ≤ (fltBit b).lo := by
    show 0x30004 ≠ 0x30000 + 4 * (b / 32) ∨ b % 32 + 1 ≤ 31 ∨ 31 + 1 ≤ b % 32
    omega
  rw [State.flag_wr_ne _ _ statusRepeatFits hne]
  refine (State.flag_setWords_ne _ _ (.inl (by rcases fltBit_off hb with h | h <;> rw [h] <;> omega))).trans ?_
  rw [State.flag_wr_same _ _ _ (fltBitFits b)]
  rfl

theorem State.faultCleared_safe (hb : b < 49) : (s.faultCleared b).inSafe = s.inSafe := by
  unfold State.faultCleared State.inSafe
  extract_lets u v
  rw [State.flag_wr_ne _ _ statusRepeatFits (.inl (by decide))]
  refine (State.flag_setWords_ne _ _ (.inl (by show 0x30018 < 0x30100 + 0x10 * b; omega))).trans ?_
  rw [State.flag_wr_ne _ _ (fltBitFits b) (.inl (by rcases fltBit_off hb with h | h <;> rw [h] <;> decide))]
  exact State.logFault_flag _ _ _ _ _ _ (by decide)

theorem Quiet.faultCleared {β : Type} {g : State → β} (q : Quiet g) : g (s.faultCleared b) = g s := by
  unfold State.faultCleared
  dsimp only
  rw [q.wr, q.setWords, q.wr, q.logFault]

theorem State.setWords_flt (off n v : Nat) : (s.setWords off n v).flt = s.flt := by
  induction n generalizing s off v with
  | zero => rfl
  | succ n ih => exact (ih _ _ _).trans rfl

theorem State.faultCleared_persist : (s.faultCleared b).flt.persist = s.flt.persist := by
  unfold State.faultCleared
  dsimp only
  rw [State.wr_flt, State.setWords_flt, State.wr_flt, State.logFault_persist]

end

/-! ### The logs -/

/-- The logs are in `x`. -/
def State.setFlt (s : State) (x : Flt) : State := { s with flt := x }

/-- The fault log is `l`; the audit log is `l`. -/
def State.setFaultLog (s : State) (l : Log) : State := s.setFlt { s.flt with fault := l }
def State.setAuditLog (s : State) (l : Log) : State := s.setFlt { s.flt with audit := l }

theorem State.setFaultLog_leaves (s : State) (l : Log) : (s.setFaultLog l).flt.audit = s.flt.audit ∧ (s.setFaultLog l).regs = s.regs := ⟨rfl, rfl⟩
theorem State.setAuditLog_leaves (s : State) (l : Log) : (s.setAuditLog l).flt.fault = s.flt.fault ∧ (s.setAuditLog l).regs = s.regs := ⟨rfl, rfl⟩

theorem Log.flush_length (l : Log) : l.flush.stored.length = min 2097152 (l.stored.length + l.buffer.length) := by
  unfold Log.flush
  dsimp only
  rw [List.length_drop, List.length_append]
  omega

theorem Log.flush_buffer (l : Log) : l.flush.buffer = [] := by
  unfold Log.flush
  rfl

theorem Log.copy_length (l : Log) (q : Nat) : (l.copy q).length ≤ 128 := by
  unfold Log.copy
  dsimp only
  split
  · exact Nat.zero_le _
  · split
    · rw [List.length_take]
      exact Nat.min_le_left _ _
    · split
      · rw [List.length_take]
        exact Nat.min_le_left _ _
      · exact Nat.zero_le _

theorem logFlush_writes {s : State} (l : Fin 2) (hw : s.flt.writeError = false) (hk : s.pwr.kaolinLost = false) : exec (.logFlush l true) s =
    if l = 0 then .next (s.setFaultLog s.flt.fault.flush) else .next (s.setAuditLog s.flt.audit.flush) :=
  (if_neg (Bool.eq_false_iff.mp hw)).trans (if_neg (by simp [hk]))

/-- No copy is asked for. -/
def State.noCopy (s : State) : State := s.setFlt { s.flt with copy := none }

theorem State.logCopied_fails {s : State} {l q : Nat} (h : s.flt.copy = some (l, q)) : s.logCopied false = s.noCopy.wr R.FLT_LOG_RDSTAT_STATE 3 := by
  unfold State.logCopied
  rw [h]
  exact if_pos Bool.false_ne_true

theorem State.logCopied_lost {s : State} {l q : Nat} {x : LogRec} (h : s.flt.copy = some (l, q)) (hk : s.pwr.kaolinLost = true)
    (hx : x ∈ (s.log l).copy q) (hs : x ∈ (s.log l).stored) : s.logCopied true = (s.noCopy.wr R.FLT_LOG_RDSTAT_STATE 3).raise 45 .U := by
  unfold State.logCopied
  rw [h]
  dsimp only
  rw [if_neg (not_not.mpr rfl)]
  refine (if_pos ⟨hk, List.any_eq_true.mpr ⟨x, ?_, ?_⟩⟩).trans rfl
  · exact hx
  · exact List.contains_iff_mem.mpr hs

/-- The records `rs`, from number `v` on, are in the buffer of the reader. -/
def State.copyShown (s : State) (rs : List LogRec) (v : Nat) : State :=
  (((s.setFlt { s.flt with logBuf := memWrite s.flt.logBuf 0 (rs.flatMap fun (x : LogRec) => x.bytes) }).wr R.FLT_LOG_RDSTAT_STATE 2).wr
    R.FLT_LOG_RDSTAT_COUNT rs.length).wr R.FLT_LOG_RDSTAT_FIRST (v % 2 ^ 32)

theorem State.logCopied_done {s : State} {l q : Nat} {x : LogRec} {r : List LogRec} (h : s.flt.copy = some (l, q))
    (hc : (s.log l).copy q = x :: r) (hk : s.pwr.kaolinLost = false) : s.logCopied true = s.noCopy.copyShown (x :: r) x.seq := by
  unfold State.logCopied
  rw [h]
  dsimp only
  have hc' : (State.log { s with flt := { s.flt with copy := none } } l).copy q = x :: r := hc
  rw [if_neg (not_not.mpr rfl), hc']
  exact if_neg fun k => Bool.eq_false_iff.mp hk k.1

theorem State.copyShown_shows (s : State) (rs : List LogRec) (v : Nat) : (s.copyShown rs v).rd R.FLT_LOG_RDSTAT_STATE = 2 ∧
    (s.copyShown rs v).rd R.FLT_LOG_RDSTAT_COUNT = rs.length % 256 ∧ (s.copyShown rs v).rd R.FLT_LOG_RDSTAT_FIRST = v % 2 ^ 32 := by
  have hc : R.FLT_LOG_RDSTAT_COUNT.lo + R.FLT_LOG_RDSTAT_COUNT.width ≤ 32 := by decide
  have hf : R.FLT_LOG_RDSTAT_FIRST.lo + R.FLT_LOG_RDSTAT_FIRST.width ≤ 32 := by decide
  unfold State.copyShown
  refine ⟨?_, ?_, ?_⟩
  · rw [State.rd_wr_ne _ _ hf (.inl (by decide)), State.rd_wr_ne _ _ hc (.inr (.inr (by decide))), State.rd_wr_same _ _ _ rdStateFits]
    rfl
  · rw [State.rd_wr_ne _ _ hf (.inl (by decide)), State.rd_wr_same _ _ _ hc]
    rfl
  · rw [State.rd_wr_same _ _ _ hf]
    exact Nat.mod_mod _ _

/-- Settles O58: what the fields of a source show after an occurrence, a repeat and a clear; the branches of the safe state; and the two logs. -/
theorem faultsAndLogs : Obligations.FaultsAndLogs := by
  unfold Obligations.FaultsAndLogs
  refine ⟨?_, ?_, ?_, ?_, ?_, ?_, ?_, ?_, ?_, ?_, ?_, ?_, ?_, ?_, ?_, ?_, ?_, ?_, ?_, ?_, ?_, ?_, ?_, ?_, ?_, ?_, ?_, ?_, ?_, ?_⟩
  · intro b d s hb hf h
    rw [State.raise_corrected hf h]
    exact s.firstOccurrence_shows .C d hb
  · intro b d s hb hf h hc
    rw [State.raise_again .C d hf h (.inl rfl), State.repeatOccurrence_counts (show FClass.code .C ≤ _ from hc), State.repeatLogged_class,
      State.repeatLogged_rd _ _ _ (by show 0x30108 + 0x10 * b ≠ _; omega), State.repeatLogged_rd _ _ _ (by show 0x3010c + 0x10 * b ≠ _; omega)]
    exact ⟨s.repeatShown_repeat b, s.repeatShown_rd b (by show 0x3010c + 0x10 * b ≠ _; omega)
      (.inl (by show 0x3010c + 0x10 * b ≠ 0x30108 + 0x10 * b; omega)), rfl⟩
  · intro b d s hb hf h hc he
    rw [State.raise_again .U d hf h (.inr ⟨rfl, (s.repeatOccurrence_esc .U hb).trans he⟩)]
    exact State.repeatOccurrence_rises hc
  · intro b d c s h
    exact if_pos h
  · intro b d s hb hf h
    obtain ⟨h1, h2, h3, -, -⟩ := s.firstOccurrence_shows .F d hb
    refine ⟨s.firstOccurrence b .F d, ?_, h1, h2, quiet_hif.firstOccurrence s b .F d, quiet_brg.firstOccurrence s b .F d⟩
    unfold State.raise
    rw [if_neg (Bool.eq_false_iff.mp hf), if_neg (Bool.eq_false_iff.mp h)]
    dsimp only
    rw [if_pos (.inl rfl), h3]
    rfl
  · intro cause k r s hc h
    obtain ⟨h1, h2, h3⟩ := s.safeShown_shows k r hc
    obtain ⟨hr, hb⟩ := (s.safeShown cause k r).safeTwin_leaves
    exact ⟨(s.safeShown cause k r).safeTwin, State.enterSafe_enters cause k r h, (State.flag_of_regs hr _).trans h1,
      (State.rd_of_regs hr _).trans h2, hb.trans h3⟩
  · intro cause k r s h
    exact if_pos h
  · intro b c d s h
    exact if_neg (Bool.eq_false_iff.mp h)
  · intro b c d s h hb hc
    refine (if_pos h).trans (congrArg (fun t : State => Host.Outcome.next t.settle) ?_)
    unfold State.occurrence
    dsimp only
    exact (if_neg fun k => hc k.1).trans (if_neg fun k => hb k.1)
  · intro b s h hp
    have hf : (s.faultCleared b).flt.persist.find? (fun x => x.1 = b.val) = none := by
      rw [State.faultCleared_persist]
      exact List.find?_eq_none.mpr fun x hx k => hp x hx (of_decide_eq_true k)
    refine ⟨s.faultCleared b, congrArg (fun t : State => Host.Outcome.next t.settle) ?_, s.faultCleared_bit b b.isLt, s.faultCleared_src b (j := 2)
        (by show 0x30108 + 0x10 * b.val = _; omega) (by decide),
      s.faultCleared_src b (j := 2) (by show 0x30108 + 0x10 * b.val = _; omega) (by decide), s.faultCleared_src b (j := 3)
          (by show 0x3010c + 0x10 * b.val = _; omega) (by decide), s.faultCleared_safe b b.isLt, Quiet.faultCleared s b quiet_hif⟩
    rw [State.clearFault_shown h, hf]
  · intro b k d c s h hp
    have hf : (s.faultCleared b).flt.persist.find? (fun x => x.1 = b.val) = some (k, c, d) := by
      rw [State.faultCleared_persist]
      exact hp
    refine ⟨s.faultCleared b, congrArg (fun t : State => Host.Outcome.next t.settle) ?_, s.faultCleared_bit b b.isLt, s.faultCleared_src b (j := 2)
        (by show 0x30108 + 0x10 * b.val = _; omega) (by decide),
      s.faultCleared_src b (j := 3) (by show 0x3010c + 0x10 * b.val = _; omega) (by decide), s.faultCleared_persist b, s.faultCleared_safe b b.isLt,
          Quiet.faultCleared s b quiet_hif⟩
    rw [State.clearFault_shown h, hf]
  · intro b s h
    exact congrArg (fun t : State => Host.Outcome.next t.settle) (if_pos (Bool.eq_false_iff.mp h))
  · intro s h
    exact ⟨(s.enterSafe 0xFD 3 0).setFlt { (s.enterSafe 0xFD 3 0).flt with selfFault := true }, if_neg (Bool.eq_false_iff.mp h), rfl, rfl⟩
  · intro s h
    exact if_pos h
  · intro s
    rfl
  · intro s h hm
    refine ⟨s.leaveSafe, congrArg (fun t : State => Host.Outcome.next t.settle) ?_, rfl⟩
    unfold State.safeExitCmd
    rw [h, hm]
    rfl
  · intro s
    exact s.leaveSafe_over
  · intro s h hm
    refine ⟨s.wr R.FLT_SAFE_EXIT_REFUSED 1, congrArg (fun t : State => Host.Outcome.next t.settle) ?_, ?_, ?_, State.wr_fld _ _ _⟩
    · unfold State.safeExitCmd
      rw [h, hm]
      rfl
    · exact (State.flag_wr_ne _ _ (by decide) (.inr (.inr (by decide)))).trans h
    · exact (State.flag_wr_same _ _ _ (by decide)).trans (decide_eq_true (by show 1 % 2 ^ 1 ≠ 0; decide))
  · intro s h
    refine congrArg (fun t : State => Host.Outcome.next t.settle) ?_
    unfold State.safeExitCmd
    rw [h]
    rfl
  · intro s h
    exact State.mayExit_held h
  · intro s hw hk
    exact ⟨s.setFaultLog s.flt.fault.flush, (logFlush_writes 0 hw hk).trans (if_pos rfl), s.flt.fault.flush_buffer, s.flt.fault.flush_length,
      State.setFaultLog_leaves _ _⟩
  · intro s hw hk
    exact ⟨s.setAuditLog s.flt.audit.flush, (logFlush_writes 1 hw hk).trans (if_neg (by decide)), s.flt.audit.flush_buffer,
      State.setAuditLog_leaves _ _⟩
  · intro l s hw
    exact ⟨s.setFlt { s.flt with writeError := true }, (if_neg (Bool.eq_false_iff.mp hw)).trans (if_pos (.inl Bool.false_ne_true)), rfl, rfl, rfl⟩
  · intro l ok s hw
    exact if_pos hw
  · intro s hw hk
    exact ⟨(s.setFlt { s.flt with writeError := false }).flushLogs,
      (if_neg (not_not.mpr hw)).trans (if_pos ⟨rfl, Bool.eq_false_iff.mp hk⟩), rfl, rfl, rfl⟩
  · intro l q s h
    refine ⟨(s.setFlt { s.flt with heldSeq := q.toNat, copy := some (l.val, q.toNat) }).wr R.FLT_LOG_RDSTAT_STATE 1,
      congrArg Host.Outcome.next (if_neg h), ?_, ?_, ?_, ?_⟩
    · rw [State.wr_flt]
      rfl
    · rw [State.wr_flt]
      rfl
    · exact (State.rd_wr_same _ _ _ rdStateFits).trans rfl
    · rw [State.wr_flt]
      rfl
  · intro l q x r s h hc hk
    obtain ⟨h1, h2, h3⟩ := s.noCopy.copyShown_shows (x :: r) x.seq
    exact ⟨s.noCopy.copyShown (x :: r) x.seq, congrArg Host.Outcome.next (State.logCopied_done h hc hk), rfl, h1, h2, h3⟩
  · intro l q x s h hk hx hs
    exact ⟨s.noCopy.wr R.FLT_LOG_RDSTAT_STATE 3, congrArg Host.Outcome.next (State.logCopied_lost h hk hx hs), rfl,
      (State.rd_wr_same _ _ _ rdStateFits).trans rfl, rfl⟩
  · intro l q s h
    exact ⟨s.noCopy.wr R.FLT_LOG_RDSTAT_STATE 3, congrArg Host.Outcome.next (State.logCopied_fails h), rfl,
      (State.rd_wr_same _ _ _ rdStateFits).trans rfl, rfl⟩
  · intro l q
    exact l.copy_length q

end Sys2Proof.Machine
end

section
/-!
PROOFS. The security unit (O57): SPDM and its IDE streams, the mailbox and its tokens, the debug commands, tamper and the DRBG.
-/

namespace Sys2Proof.Machine

/-! ### The IDE streams, and what resumed writes leave of them -/

/-- The IDE streams that are secure, and those that are lost. -/
def State.ide (s : State) : List Nat × List Nat := (s.hif.ideSecure, s.hif.ideLost)

theorem ide_foldl {α : Type} (f : State → α → State) (h : ∀ s x, (f s x).ide = s.ide) (l : List α) (s : State) :
    (l.foldl f s).ide = s.ide := Quiet.foldl (g := State.ide) f h l s

@[simp] theorem ide_ite (c : Prop) [Decidable c] (s t : State) : (if c then s else t).ide = if c then s.ide else t.ide := by
  split <;> rfl

@[simp] theorem ide_mk (pending' : List Instr) (regs' : NMap Word) (now' : Nat) (drawn' : Nat) (emitted' : List Emit) (hif' : Hif) (tgt' : Tgt)
    (pts' : Pts) (ring' : RingSt) (sw' : Switch) (flt' : Flt) (td' : TimeSt) (brg' : Brg) (cyc' : CycSt) (fld' : FieldSt) (pctl' : PctlSt)
        (rfx' : Rfx) (meas' : MeasSt) (pwr' : PwrSt) (eng' : EngSt) (twin' : TwinSt) (sec' : SecSt) (boot' : BootSt) (setup' : SetSt) :
    (State.mk pending' regs' now' drawn' emitted' hif' tgt' pts' ring' sw' flt' td' brg' cyc' fld' pctl' rfx' meas' pwr' eng' twin' sec' boot' setup').ide = (hif'.ideSecure, hif'.ideLost) := (rfl)

@[simp] theorem ide_eta (s : State) : (s.hif.ideSecure, s.hif.ideLost) = s.ide := (rfl)

@[simp] theorem State.setWord_ide (s : State) (off v : Nat) :
    (State.setWord s off v).ide = s.ide := by
  simp [State.setWord]

@[simp] theorem State.wr_ide (s : State) (f : Fld) (v : Nat) :
    (State.wr s f v).ide = s.ide := by
  simp [State.wr]

@[simp] theorem State.inc_ide (s : State) (f : Fld) (k : Nat) :
    (State.inc s f k).ide = s.ide := by
  simp [State.inc]

@[simp] theorem State.emit_ide (s : State) (e : Emit) :
    (State.emit s e).ide = s.ide := by
  simp [State.emit]

@[simp] theorem State.draw_ide (s : State) :
    (State.draw s).2.ide = s.ide := by
  simp [State.draw]

@[simp] theorem State.setPair_ide (s : State) (p : Nat) (x : Pair) :
    (State.setPair s p x).ide = s.ide := by
  simp [State.setPair]

@[simp] theorem State.setSlot_ide (s : State) (t : Nat) (x : Slot) :
    (State.setSlot s t x).ide = s.ide := by
  simp [State.setSlot]

@[simp] theorem State.setTag_ide (s : State) (k : Nat) (x : Tag) :
    (State.setTag s k x).ide = s.ide := by
  simp [State.setTag]

@[simp] theorem State.setPort_ide (s : State) (i : Nat) (x : Port) :
    (State.setPort s i x).ide = s.ide := by
  simp [State.setPort]

@[simp] theorem State.admitFrame_ide (s : State) (i o c : Nat) (f : Frame) :
    (State.admitFrame s i o c f).ide = s.ide := by
  simp [State.admitFrame]

@[simp] theorem State.toTransit_ide (s : State) (i o : Nat) (f : Frame) :
    (State.toTransit s i o f).ide = s.ide := by
  simp [State.toTransit]

@[simp] theorem State.submit_ide (s : State) (i o : Nat) (f : Frame) :
    (State.submit s i o f).ide = s.ide := by
  simp [State.submit]

@[simp] theorem State.sendTo_ide (s : State) (inp node : Nat) (f : Frame) :
    (State.sendTo s inp node f).ide = s.ide := by
  unfold State.sendTo; repeat' split
  all_goals simp

@[simp] theorem State.hostReq_ide (s : State) (t op addr len : Nat) (data : List Byte) :
    (State.hostReq s t op addr len data).ide = s.ide := by
  simp [State.hostReq]

@[simp] theorem State.hostWrite_ide (s : State) (t addr : Nat) (b : List Byte) :
    (State.hostWrite s t addr b).ide = s.ide := by
  simp [State.hostWrite]

@[simp] theorem State.raiseVector_ide (s : State) (t vec : Nat) :
    (State.raiseVector s t vec).ide = s.ide := by
  simp [State.raiseVector]

@[simp] theorem State.signal_ide (s : State) (t vec : Nat) (err : Bool) :
    (State.signal s t vec err).ide = s.ide := by
  simp [State.signal]

@[simp] theorem State.signalErr_ide (s : State) (t : Nat) :
    (State.signalErr s t).ide = s.ide := by
  simp [State.signalErr]

@[simp] theorem State.retire_ide (s : State) (k : Nat) (abnormal : Bool) :
    (State.retire s k abnormal).ide = s.ide := by
  unfold State.retire; repeat' split
  all_goals simp

@[simp] theorem State.interrupt_ide (s : State) (p : Nat) :
    (State.interrupt s p).ide = s.ide := by
  simp [State.interrupt]

@[simp] theorem State.coalesce_ide (s : State) (p : Nat) (status : Nat) :
    (State.coalesce s p status).ide = s.ide := by
  simp [State.coalesce]

@[simp] theorem State.putEntry_ide (s : State) (p : Nat) (e : CqEntry) :
    (State.putEntry s p e).ide = s.ide := by
  simp only [State.putEntry]; repeat' split
  all_goals simp_all

@[simp] theorem State.stopFor_ide (s : State) (p reason : Nat) (entry : Bool) :
    (State.stopFor s p reason entry).ide = s.ide := by
  simp [State.stopFor]

@[simp] theorem State.stop_ide (s : State) (p reason : Nat) :
    (State.stop s p reason).ide = s.ide := by
  simp [State.stop]

@[simp] theorem State.drainCq_ide (s : State) (p : Nat) (n0 : Nat) :
    (State.drainCq s p n0).ide = s.ide := by
  induction n0 generalizing s with
  | zero => rfl
  | succ n ih =>
    unfold State.drainCq; dsimp only; repeat' split
    all_goals simp [ih]

@[simp] theorem State.setSub_ide (s : State) (u : Sub) :
    (State.setSub s u).ide = s.ide := by
  simp [State.setSub]

@[simp] theorem State.setRemSub_ide (s : State) (u : RemSub) (v : Option RemSub) :
    (State.setRemSub s u v).ide = s.ide := by
  simp [State.setRemSub]

@[simp] theorem State.endSub_ide (s : State) (num : Nat) :
    (State.endSub s num).ide = s.ide := by
  simp [State.endSub]

@[simp] theorem State.drainSubs_ide (s : State) (p : Nat) (n0 : Nat) :
    (State.drainSubs s p n0).ide = s.ide := by
  induction n0 generalizing s with
  | zero => rfl
  | succ n ih =>
    unfold State.drainSubs; dsimp only; repeat' split
    all_goals simp [ih]

@[simp] theorem State.drain_ide (s : State) (p : Nat) :
    (State.drain s p).ide = s.ide := by
  simp [State.drain]

@[simp] theorem State.resumeWrites_ide (s : State) :
    (State.resumeWrites s).ide = s.ide := by
  simp [State.resumeWrites, ide_foldl]

/-! ### SPDM -/

theorem spdmRequest_answers {t : Fin 16} {b : List Byte} {e : SpdmEffect} {s : State} (h : s.answers t = true) : exec (.spdmRequest t b e) s =
    .next (((s.random 0).2.emit (.reply "SPDM" (Config.spdmAnswer s.sec.drbg b))).spdmEffect t e).settle :=
  if_neg (not_not.mpr h)

/-- Stream `u` is secure, or is not. -/
def State.ideSet (s : State) (u : Nat) (secure : Bool) : State :=
  let drop := fun (l : List Nat) => l.filter (· ≠ u)
  { s with hif := { s.hif with
    ideSecure := if secure then u :: drop s.hif.ideSecure else drop s.hif.ideSecure
    ideLost := if ¬ secure ∧ u ∈ s.hif.ideSecure then u :: s.hif.ideLost else if secure then drop s.hif.ideLost else s.hif.ideLost } }

theorem State.spdmEffect_ide {s : State} (u : Fin 17) (secure : Bool) (h : ∃ x ∈ s.sec.sessions, x.slot = 0) :
    s.spdmEffect 0 (.ide u secure) = (s.ideSet u secure).resumeWrites := by
  obtain ⟨x, hx, h0⟩ := h
  refine if_neg (not_or.mpr ⟨not_not.mpr rfl, not_not.mpr ?_⟩)
  exact List.any_eq_true.mpr ⟨x, hx, decide_eq_true h0⟩

/-- What the streams are after one of them is set. -/
theorem State.ideSet_streams (s : State) (u : Nat) (secure : Bool) : (u ∈ (s.ideSet u secure).hif.ideSecure ↔ secure = true) ∧
    (secure = true → u ∉ (s.ideSet u secure).hif.ideLost) ∧
    (secure = false → u ∈ s.hif.ideSecure → u ∈ (s.ideSet u secure).hif.ideLost) ∧
    ∀ k, k ≠ u → (k ∈ (s.ideSet u secure).hif.ideSecure ↔ k ∈ s.hif.ideSecure) ∧ (k ∈ (s.ideSet u secure).hif.ideLost ↔ k ∈ s.hif.ideLost) := by
  cases secure with
  | true => simp +contextual [State.ideSet]
  | false =>
    by_cases hu : u ∈ s.hif.ideSecure
    · simp +contextual [State.ideSet, hu]
    · simp +contextual [State.ideSet, hu]

theorem provenFits (t : Nat) : (R.SEC_TEN_PROVEN t).lo + (R.SEC_TEN_PROVEN t).width ≤ 32 := by show 30 + 1 ≤ 32; decide

/-- The sessions of slot `t` are over. -/
def State.sessionsOver (s : State) (t : Nat) : State :=
  { s with sec := { s.sec with sessions := s.sec.sessions.filter fun (x : Session) => x.slot ≠ t } }

/-- Without TKEY_REQ the end of the sessions of a slot only shows that nothing is proven. -/
theorem State.endSessions_free {s : State} {t : Nat} (h : s.flag (R.SEC_TEN_TKEY_REQ t) = false) :
    s.endSessions t = (s.sessionsOver t).wr (R.SEC_TEN_PROVEN t) 0 := by
  have hn : ¬ ((s.sessionsOver t).kind t ≠ kRing ∧ ((s.sessionsOver t).sec.sessions.any fun x =>
      decide (x.slot = t ∧ x.mutual_ ∧ x.leaf = (s.sessionsOver t).words (0xF0100 + 0x40 * t) 12)) = true) := by
    rintro ⟨-, ha⟩
    obtain ⟨x, hx, hs⟩ := List.any_eq_true.mp ha
    exact of_decide_eq_true (List.mem_filter.mp hx).2 (of_decide_eq_true hs).1
  unfold State.endSessions
  show (s.sessionsOver t).reprove t = _
  unfold State.reprove
  dsimp only
  rw [decide_eq_false hn]
  refine if_neg fun k => ?_
  have hk := k.2.2
  rw [State.flag_wr_ne (g := R.SEC_TEN_TKEY_REQ t) _ _ (provenFits t) (.inr (.inr (by show 30 + 1 ≤ 31; decide)))] at hk
  exact Bool.eq_false_iff.mp h hk

/-! ### The mailbox -/

theorem mbxStateFits : R.SEC_MBX_STAT_STATE.lo + R.SEC_MBX_STAT_STATE.width ≤ 32 := by decide
theorem mbxResultFits : R.SEC_MBX_STAT_RESULT.lo + R.SEC_MBX_STAT_RESULT.width ≤ 32 := by decide
theorem mbxLenFits : R.SEC_MBX_STAT_LEN.lo + R.SEC_MBX_STAT_LEN.width ≤ 32 := by decide

/-- The mailbox holds `m`. -/
def State.setMbx (s : State) (m : NMap Byte) : State := { s with sec := { s.sec with mbx := m } }

theorem State.mbxDone_eq (s : State) (r : Nat) (b : List Byte) : s.mbxDone r b =
    (((s.setMbx (memWrite s.sec.mbx 0 b)).wr R.SEC_MBX_STAT_STATE (if r = 0 then 2 else 3)).wr R.SEC_MBX_STAT_RESULT r).wr
      R.SEC_MBX_STAT_LEN b.length := (rfl)

theorem State.mbxDone_sec (s : State) (r : Nat) (b : List Byte) : (s.mbxDone r b).sec = { s.sec with mbx := memWrite s.sec.mbx 0 b } := by
  rw [State.mbxDone_eq, State.wr_sec, State.wr_sec, State.wr_sec]
  rfl

theorem State.mbxDone_hif (s : State) (r : Nat) (b : List Byte) : (s.mbxDone r b).hif = s.hif := by
  rw [State.mbxDone_eq, State.wr_hif, State.wr_hif, State.wr_hif]
  rfl

/-- What MBX_STAT shows after a command. -/
theorem State.mbxDone_shows (s : State) {r : Nat} {b : List Byte} (hr : r < 256) (hb : b.length < 2 ^ 15) :
    (s.mbxDone r b).rd R.SEC_MBX_STAT_STATE = (if r = 0 then 2 else 3) ∧ (s.mbxDone r b).rd R.SEC_MBX_STAT_RESULT = r ∧
    (s.mbxDone r b).rd R.SEC_MBX_STAT_LEN = b.length := by
  rw [State.mbxDone_eq]
  refine ⟨?_, ?_, ?_⟩
  · rw [State.rd_wr_ne _ _ mbxLenFits (.inr (.inr (by decide))), State.rd_wr_ne _ _ mbxResultFits (.inr (.inr (by decide))),
      State.rd_wr_same _ _ _ mbxStateFits]
    split <;> rfl
  · rw [State.rd_wr_ne _ _ mbxLenFits (.inr (.inr (by decide))), State.rd_wr_same _ _ _ mbxResultFits]
    exact Nat.mod_eq_of_lt hr
  · rw [State.rd_wr_same _ _ _ mbxLenFits]
    exact Nat.mod_eq_of_lt hb

theorem State.mbxFail_shows (s : State) {r : Nat} (h0 : r ≠ 0) (hr : r < 256) : (s.mbxFail r).rd R.SEC_MBX_STAT_STATE = 3 ∧
    (s.mbxFail r).rd R.SEC_MBX_STAT_RESULT = r ∧ (s.mbxFail r).rd R.SEC_MBX_STAT_LEN = 0 := by
  obtain ⟨h1, h2, h3⟩ := s.mbxDone_shows (b := []) hr (by decide)
  exact ⟨h1.trans (if_neg h0), h2, h3⟩

theorem State.mbxFail_sec (s : State) (r : Nat) : (s.mbxFail r).sec = { s.sec with mbx := memWrite s.sec.mbx 0 [] } := s.mbxDone_sec r []

theorem State.random_length (s : State) (n : Nat) : (s.random n).1.length = n := by
  show ((List.range n).map _).length = n
  rw [List.length_map, List.length_range]

/-- The challenge is `c`. -/
def State.setChallenge (s : State) (c : Option (List Byte)) : State := { s with sec := { s.sec with challenge := c } }

theorem State.getChallenge_ready {s : State} (hm : s.mbxOpen = true) (hd : s.drbgOk = true) :
    s.getChallenge = ((s.random 48).2.setChallenge (some (s.random 48).1)).mbxDone 0 (s.random 48).1 :=
  (if_neg (not_not.mpr hm)).trans (if_neg (not_not.mpr hd))

theorem State.getChallenge_dry {s : State} (hm : s.mbxOpen = true) (hd : s.drbgOk = false) : s.getChallenge = s.mbxFail 0x06 :=
  (if_neg (not_not.mpr hm)).trans (if_pos (Bool.eq_false_iff.mp hd))

theorem State.attest_sends {s : State} {n : Nat} (hm : s.mbxOpen = true) (hn : n = 32) :
    ∃ msg sigs : List Byte, s.attest n = (s.signBoth msg).2.mbxDone 0 (msg ++ sigs) :=
  ⟨_, _, (if_neg (not_not.mpr hm)).trans (if_neg (not_not.mpr hn))⟩

theorem State.mbxDone_ok (s : State) (b : List Byte) : (s.mbxDone 0 b).rd R.SEC_MBX_STAT_STATE = 2 ∧ (s.mbxDone 0 b).rd R.SEC_MBX_STAT_RESULT = 0 :=
  by
  rw [State.mbxDone_eq]
  refine ⟨?_, ?_⟩
  · rw [State.rd_wr_ne _ _ mbxLenFits (.inr (.inr (by decide))), State.rd_wr_ne _ _ mbxResultFits (.inr (.inr (by decide))),
      State.rd_wr_same _ _ _ mbxStateFits]
    rfl
  · rw [State.rd_wr_ne _ _ mbxLenFits (.inr (.inr (by decide))), State.rd_wr_same _ _ _ mbxResultFits]
    rfl

/-! ### Tokens -/

theorem firstReason_cons_lt {l : List Nat} {a k : Nat} (ha : a < k) (h : firstReason l < k) : firstReason (a :: l) < k := by
  rw [firstReason]
  split
  · exact ha
  · exact h

theorem firstReason_ne {l : List Nat} {r : Nat} (hr : r ∈ l) (h0 : r ≠ 0) : firstReason l ≠ 0 := by
  induction l with
  | nil => cases hr
  | cons a l ih =>
    rw [firstReason]
    split
    · next h => exact h
    · next h => exact ih ((List.mem_cons.mp hr).resolve_left fun k => h (k ▸ h0))

theorem State.tokenResult_lt (s : State) (n : Nat) : s.tokenResult n < 256 := by
  unfold State.tokenResult
  have small : ∀ (c : Prop) [Decidable c] (r : Nat), r < 256 → (if c then r else 0) < 256 := fun c _ r hr => by
    split
    · exact hr
    · decide
  exact firstReason_cons_lt (small _ 4 (by decide)) (firstReason_cons_lt (small _ 3 (by decide)) (firstReason_cons_lt (small _ 2 (by decide))
    (firstReason_cons_lt (small _ 1 (by decide)) (firstReason_cons_lt (small _ 5 (by decide)) (show firstReason [] < 256 by decide)))))

theorem State.tokenResult_refuses {s : State} (n : Nat)
    (h : s.sec.challenge ≠ some (s.mbxIn 0x18 48) ∨ leNat (s.mbxIn 8 16) ≠ Config.partSerial.toNat) : s.tokenResult n ≠ 0 := by
  unfold State.tokenResult
  rcases h with h | h
  · exact firstReason_ne (r := 0x02) (List.mem_cons_of_mem _ (List.mem_cons_of_mem _ (List.mem_cons.mpr (.inl (if_pos h).symm)))) (by decide)
  · exact firstReason_ne (r := 0x03) (List.mem_cons_of_mem _ (List.mem_cons.mpr (.inl (if_pos h).symm))) (by decide)

/-- The token is noted, its challenge spent, and its result shown. -/
def State.tokenShown (s : State) (n : Nat) : State :=
  ((s.logAudit 0x20 (leNat (s.mbxIn 0 1)) (s.tokenResult n) (leNat (s.mbxIn 0x18 8)) s.node0 0).setChallenge none).mbxFail (s.tokenResult n)

theorem State.submitToken_refused {s : State} {n : Nat} (hm : s.mbxOpen = true) (hr : s.tokenResult n ≠ 0) : s.submitToken n = s.tokenShown n :=
  (if_neg (not_not.mpr hm)).trans (if_neg hr)

theorem State.submitToken_acts {s : State} {n k : Nat} (hm : s.mbxOpen = true) (hr : s.tokenResult n = 0) (hk : leNat (s.mbxIn 0 1) = k) :
    s.submitToken n = (s.tokenShown n).tokenActs k :=
  (if_neg (not_not.mpr hm)).trans ((if_pos hr).trans (congrArg (s.tokenShown n).tokenActs hk))

theorem State.setVault_sec (s : State) (v : Vault) : (s.setVault v).sec = { s.sec with vault := v } := (rfl)

theorem State.setVault_rd (s : State) (v : Vault) (f : Fld) : (s.setVault v).rd f = s.rd f := (rfl)

theorem State.tokenActs_lock (s : State) : s.tokenActs 1 = (s.setVault { s.sec.vault with lock := true }).showVault := by
  unfold State.tokenActs
  exact if_pos rfl

theorem State.tokenActs_clear (s : State) :
    s.tokenActs 5 = (s.setVault { s.sec.vault with latch := false, tamperSrc := 0, tamperTime := 0 }).vaultShown := by
  unfold State.tokenActs
  rw [if_neg (by decide), if_neg (by decide), if_neg (by decide), if_neg (by decide), if_pos rfl]

theorem State.tokenShown_sec (s : State) (n : Nat) : (s.tokenShown n).sec =
    { s.sec with challenge := none, mbx := memWrite s.sec.mbx 0 [] } := by
  have h : (s.logAudit 0x20 (leNat (s.mbxIn 0 1)) (s.tokenResult n) (leNat (s.mbxIn 0x18 8)) s.node0 0).sec = s.sec :=
      quiet_sec.logAudit _ _ _ _ _ _ _
  unfold State.tokenShown
  rw [State.mbxFail_sec]
  unfold State.setChallenge
  dsimp only
  rw [h]

theorem State.tokenShown_ok {s : State} {n : Nat} (hr : s.tokenResult n = 0) : (s.tokenShown n).rd R.SEC_MBX_STAT_STATE = 2 := by
  unfold State.tokenShown State.mbxFail
  rw [hr]
  exact (State.mbxDone_ok _ _).1

theorem secStatFits : R.SEC_STAT_OWNER_LOCK.lo + R.SEC_STAT_OWNER_LOCK.width ≤ 32 := by decide
theorem secNextFits : R.SEC_STAT_DEBUG_NEXT.lo + R.SEC_STAT_DEBUG_NEXT.width ≤ 32 := by decide
theorem secTamperFits : R.SEC_STAT_TAMPER.lo + R.SEC_STAT_TAMPER.width ≤ 32 := by decide

/-- The vault shown, but for the last bits of SEC_STAT. -/
def State.vaultCounters (s : State) : State :=
  let v := s.sec.vault
  let s := (s.wr R.VLT_TAMPER_STAT_SOURCE v.tamperSrc).setWords 0x100008 2 v.tamperTime
  let s := (s.wr R.VLT_FW_CTR_CTR (max v.fwCtr s.boot.fwMirror)).wr R.VLT_BND_CTR_CTR (max v.bndCtr s.boot.bndMirror)
  s.wr R.SEC_STAT_OWNED (bnat (v.owner ≠ 0))

theorem State.showVault_eq (s : State) : s.showVault = ((s.vaultCounters.wr R.SEC_STAT_OWNER_LOCK (bnat s.sec.vault.lock)).wr R.SEC_STAT_DEBUG_NEXT
    (bnat s.sec.vault.debugNext)).wr R.SEC_STAT_TAMPER (bnat s.sec.vault.latch) := (rfl)

theorem State.showVault_lock (s : State) : s.showVault.flag R.SEC_STAT_OWNER_LOCK = s.sec.vault.lock := by
  rw [State.showVault_eq, State.flag_wr_ne _ _ secTamperFits (.inr (.inr (by decide))), State.flag_wr_ne _ _ secNextFits (.inr (.inr (by decide))),
    State.flag_wr_same _ _ _ secStatFits]
  exact bnat_flag_bit _

theorem State.showVault_tamper (s : State) : s.showVault.flag R.SEC_STAT_TAMPER = s.sec.vault.latch := by
  rw [State.showVault_eq, State.flag_wr_same _ _ _ secTamperFits]
  exact bnat_flag_bit _

theorem State.persists_regs (s : State) (b : Nat) (c : FClass) (on : Bool) (d : Nat) : (s.persists b c on d).regs = s.regs := (rfl)

theorem State.vaultShown_tamper (s : State) : s.vaultShown.flag R.SEC_STAT_TAMPER = s.sec.vault.latch := by
  unfold State.vaultShown
  rw [State.flag_of_regs (State.persists_regs _ _ _ _ _), State.showVault_tamper]

theorem State.vaultCounters_mbx (s : State) : s.vaultCounters.rd R.SEC_MBX_STAT_STATE = s.rd R.SEC_MBX_STAT_STATE := by
  unfold State.vaultCounters
  dsimp only
  rw [State.rd_wr_ne _ _ (by decide) (.inl (by decide)), State.rd_wr_ne _ _ (by decide) (.inl (by decide)),
    State.rd_wr_ne _ _ (by decide) (.inl (by decide)), State.rd_setWords_ne _ _ (.inl (by decide)), State.rd_wr_ne _ _ (by decide) (.inl (by decide))]

theorem State.showVault_mbx (s : State) : s.showVault.rd R.SEC_MBX_STAT_STATE = s.rd R.SEC_MBX_STAT_STATE := by
  rw [State.showVault_eq, State.rd_wr_ne _ _ secTamperFits (.inl (by decide)), State.rd_wr_ne _ _ secNextFits (.inl (by decide)),
    State.rd_wr_ne _ _ secStatFits (.inl (by decide)), State.vaultCounters_mbx]

/-! ### The debug commands -/

theorem State.dbgBytes_eq (s : State) (a n : Nat) : (s.dbgBytes a n).1.length = n ∧ (s.dbgBytes a n).2.sec = s.sec := by
  induction n generalizing s a with
  | zero => exact ⟨rfl, rfl⟩
  | succ n ih =>
    rw [State.dbgBytes]
    split
    · obtain ⟨hl, hs⟩ := ih s (a + 1)
      exact ⟨congrArg (· + 1) hl, hs⟩
    · obtain ⟨hl, hs⟩ := ih s.draw.2 (a + 1)
      exact ⟨congrArg (· + 1) hl, hs⟩

/-- Loam memory holds `m`. -/
def State.setDbg (s : State) (m : NMap (Option Byte)) : State := { s with sec := { s.sec with dbg := m } }

/-! ### Tamper -/

theorem State.endSessions_sec (s : State) (t : Nat) : (s.endSessions t).sec = (s.sessionsOver t).sec := by
  unfold State.endSessions State.reprove
  dsimp only
  split
  · rw [State.resetSlot_sec, State.wr_sec]
    rfl
  · rw [State.wr_sec]
    rfl

theorem State.allSessionsOver_vault (s : State) : ((List.range 16).foldl (fun s t => s.endSessions t) s).sec.vault = s.sec.vault :=
  Quiet.foldl (g := fun s => s.sec.vault) _ (fun t n => by
    rw [State.endSessions_sec]
    rfl) _ _

theorem State.vaultShown_sec (s : State) : s.vaultShown.sec = s.sec := by
  unfold State.vaultShown
  exact (quiet_sec.persists _ _ _ _ _).trans (quiet_sec.showVault s)

/-- The vault as a tamper of source `src` leaves it. -/
def Vault.tampered (v : Vault) (src time : Nat) : Vault :=
  { v with keys := [], latch := true, tamperSrc := if bit v.tamperSrc src then v.tamperSrc else v.tamperSrc + 2 ^ src, tamperTime := time }

theorem Vault.tampered_src (v : Vault) (src time : Nat) : bit (v.tampered src time).tamperSrc src = true := by
  unfold Vault.tampered
  dsimp only
  split
  · next h => exact h
  · next h =>
    rw [bit_eq] at h ⊢
    rw [Nat.add_comm, Nat.testBit_two_pow_add_eq, Bool.eq_false_iff.mpr h]
    rfl

theorem State.tamperVault_sec (s : State) (src : Nat) : ∃ (time : Nat) (x : SecSt), (s.tamperVault src).sec =
    { x with vault := s.sec.vault.tampered src time, lanes := [], requests := 0 } := by
  unfold State.tamperVault
  extract_lets v u w
  refine ⟨if v.latch then v.tamperTime else s.vaultTicks, w.sec, ?_⟩
  rw [State.vaultShown_sec]
  have hw : w.sec.vault = s.sec.vault.tampered src (if v.latch then v.tamperTime else s.vaultTicks) := State.allSessionsOver_vault u
  rw [← hw]

theorem drbgOkFits : R.SEC_STAT_DRBG_OK.lo + R.SEC_STAT_DRBG_OK.width ≤ 32 := by decide

/-- Settles O57: each command of the mailbox by what `mbxDone` shows, and the frames of the vault. -/
theorem securityUnit : Obligations.SecurityUnit := by
  unfold Obligations.SecurityUnit
  refine ⟨?_, ?_, ?_, ?_, ?_, ?_, ?_, ?_, ?_, ?_, ?_, ?_, ?_, ?_, ?_, ?_, ?_, ?_, ?_, ?_, ?_, ?_, ?_, ?_, ?_, ?_⟩
  · intro t b s h
    exact ⟨(s.random 0).2.emit (.reply "SPDM" (Config.spdmAnswer s.sec.drbg b)), spdmRequest_answers h, rfl, rfl, rfl, rfl⟩
  · intro t b e s h
    exact if_pos (Bool.eq_false_iff.mp h)
  · intro u b secure s h hs
    refine ⟨_, (spdmRequest_answers h).trans (congrArg (fun t : State => Host.Outcome.next t.settle) (State.spdmEffect_ide u secure hs)), ?_⟩
    obtain ⟨h1, h2⟩ := Prod.mk.inj (State.resumeWrites_ide (((s.random 0).2.emit (.reply "SPDM" (Config.spdmAnswer s.sec.drbg b))).ideSet u secure))
    rw [h1, h2]
    exact State.ideSet_streams _ u secure
  · intro t s h
    refine ⟨(s.sessionsOver t).wr (R.SEC_TEN_PROVEN t) 0, congrArg (fun t : State => Host.Outcome.next t.settle) (State.endSessions_free h), ?_, ?_,
      State.wr_hif _ _ _⟩
    · intro x hx
      rw [State.wr_sec] at hx
      exact of_decide_eq_true (List.mem_filter.mp hx).2
    · exact (State.flag_wr_same _ _ _ (provenFits t)).trans rfl
  · intro s hm hd
    obtain ⟨h1, h2, h3⟩ := ((s.random 48).2.setChallenge (some (s.random 48).1)).mbxDone_shows (r := 0) (by decide)
      (by rw [State.random_length]; decide : (s.random 48).1.length < 2 ^ 15)
    refine ⟨((s.random 48).2.setChallenge (some (s.random 48).1)).mbxDone 0 (s.random 48).1, congrArg Host.Outcome.next
        (State.getChallenge_ready hm hd), ?_, h1, h2, h3.trans (State.random_length s 48), ?_⟩
    · rw [State.mbxDone_sec]
      rfl
    · rw [State.mbxDone_sec]
      rfl
  · intro s hm hd
    obtain ⟨h1, h2, h3⟩ := s.mbxFail_shows (r := 0x06) (by decide) (by decide)
    refine ⟨s.mbxFail 0x06, congrArg Host.Outcome.next (State.getChallenge_dry hm hd), ?_, h1, h2, h3⟩
    rw [State.mbxFail_sec]
  · intro s
    exact ⟨s.setChallenge none, rfl, rfl, rfl, rfl, rfl⟩
  · intro n s h
    have hn := Bool.eq_false_iff.mp h
    exact ⟨congrArg Host.Outcome.next (if_pos hn), congrArg Host.Outcome.next (if_pos hn), congrArg Host.Outcome.next (if_pos hn),
      congrArg Host.Outcome.next (if_pos hn), congrArg Host.Outcome.next (if_pos hn), congrArg Host.Outcome.next (if_pos hn),
      congrArg (fun t : State => Host.Outcome.next t.settle) (if_pos hn)⟩
  · intro n s hm hr
    obtain ⟨h1, h2, -⟩ := ((s.logAudit 0x20 (leNat (s.mbxIn 0 1)) (s.tokenResult n) (leNat
        (s.mbxIn 0x18 8)) s.node0 0).setChallenge none).mbxFail_shows
      hr (s.tokenResult_lt n)
    refine ⟨s.tokenShown n, congrArg (fun t : State => Host.Outcome.next t.settle) (State.submitToken_refused hm hr), ?_, h1, h2, ?_⟩
    · rw [State.tokenShown_sec]
    · rw [State.tokenShown_sec]
  · intro n s hm hr ht
    refine ⟨((s.tokenShown n).setVault { (s.tokenShown n).sec.vault with lock := true }).showVault,
      congrArg (fun t : State => Host.Outcome.next t.settle) ((State.submitToken_acts hm hr ht).trans (State.tokenActs_lock _)), ?_, ?_, ?_, ?_⟩
    · rw [State.showVault_sec, State.setVault_sec, State.tokenShown_sec]
    · rw [State.showVault_mbx, State.setVault_rd, State.tokenShown_ok hr]
    · rw [State.showVault_sec, State.setVault_sec, State.tokenShown_sec]
    · rw [State.showVault_lock, State.setVault_sec]
  · intro n s hm hr ht
    refine ⟨((s.tokenShown n).setVault { (s.tokenShown n).sec.vault with latch := false, tamperSrc := 0, tamperTime := 0 }).vaultShown,
      congrArg (fun t : State => Host.Outcome.next t.settle) ((State.submitToken_acts hm hr ht).trans (State.tokenActs_clear _)), ?_, ?_, ?_⟩
    · rw [State.vaultShown_sec, State.setVault_sec, State.tokenShown_sec]
    · rw [State.vaultShown_sec, State.setVault_sec, State.tokenShown_sec]
    · rw [State.vaultShown_tamper, State.setVault_sec]
  · intro n s h
    exact State.tokenResult_refuses n h
  · intro n s hm hn hc hl
    obtain ⟨h1, -, h3⟩ := s.mbxDone_shows (r := 0) (by decide) hl
    refine ⟨s.mbxDone 0 (s.chain (leNat (s.mbxIn 0 1))), congrArg Host.Outcome.next ((if_neg (not_not.mpr hm)).trans (if_neg ?_)), h1, h3,
      s.mbxDone_hif _ _⟩
    omega
  · intro n s hm hn
    obtain ⟨h1, h2, -⟩ := s.mbxFail_shows (r := 0x04) (by decide) (by decide)
    refine ⟨s.mbxFail 0x04, congrArg Host.Outcome.next ((if_neg (not_not.mpr hm)).trans (if_pos hn)), h1, h2, ?_⟩
    rw [State.mbxFail_sec]
  · intro n s hm hn
    obtain ⟨msg, sigs, he⟩ := State.attest_sends hm hn
    obtain ⟨h1, h2⟩ := (s.signBoth msg).2.mbxDone_ok (msg ++ sigs)
    refine ⟨(s.signBoth msg).2.mbxDone 0 (msg ++ sigs), congrArg Host.Outcome.next he, h1, h2, ?_, ?_⟩
    · rw [State.mbxDone_sec]
      rfl
    · rw [State.mbxDone_sec]
      rfl
  · intro n s hm hn h0 h256 hd
    obtain ⟨h1, -, h3⟩ := (s.random (leNat (s.mbxIn 0 2))).2.mbxDone_shows (r := 0) (by decide)
      (by rw [State.random_length]; omega : (s.random (leNat (s.mbxIn 0 2))).1.length < 2 ^ 15)
    refine ⟨(s.random (leNat (s.mbxIn 0 2))).2.mbxDone 0 (s.random (leNat (s.mbxIn 0 2))).1,
      congrArg Host.Outcome.next ((if_neg (not_not.mpr hm)).trans ((if_neg ?_).trans (if_neg (not_not.mpr hd)))), h1,
      h3.trans (State.random_length s _), ?_, ?_⟩
    · omega
    · rw [State.mbxDone_sec]
      rfl
    · rw [State.mbxDone_sec]
      rfl
  · intro n s hm hd
    obtain ⟨-, h2, h3⟩ := s.mbxFail_shows (r := 0x05) (by decide) (by decide)
    refine ⟨⟨s.mbxFail 0x05, congrArg Host.Outcome.next ((if_neg (not_not.mpr hm)).trans (if_pos (Bool.eq_false_iff.mp hd))), h2, h3, ?_⟩,
      ⟨s.mbxFail 0x05, congrArg Host.Outcome.next ((if_neg (not_not.mpr hm)).trans (if_pos (Bool.eq_false_iff.mp hd))), h2, ?_⟩⟩
    · rw [State.mbxFail_sec]
    · rw [State.mbxFail_sec]
  · intro n s hm hd hn h0 h4096
    obtain ⟨hl, hs⟩ := s.dbgBytes_eq (leNat (s.mbxIn 0 8)) (leNat (s.mbxIn 8 2))
    obtain ⟨h1, -, h3⟩ := (s.dbgBytes (leNat (s.mbxIn 0 8)) (leNat (s.mbxIn 8 2))).2.mbxDone_shows (r := 0) (by decide)
      (by rw [hl]; omega : (s.dbgBytes (leNat (s.mbxIn 0 8)) (leNat (s.mbxIn 8 2))).1.length < 2 ^ 15)
    refine ⟨(s.dbgBytes (leNat (s.mbxIn 0 8)) (leNat (s.mbxIn 8 2))).2.mbxDone 0 (s.dbgBytes (leNat (s.mbxIn 0 8)) (leNat (s.mbxIn 8 2))).1,
      congrArg Host.Outcome.next ((if_neg (not_not.mpr hm)).trans ((if_neg (not_not.mpr hd)).trans (if_neg ?_))), h1, h3.trans hl, ?_⟩
    · omega
    · rw [State.mbxDone_sec, hs]
  · intro n s hm hd hn
    refine ⟨(s.setDbg (dbgPut s.sec.dbg (leNat (s.mbxIn 0 8)) (s.mbxIn 8 (n - 8)))).mbxDone 0 [],
      congrArg Host.Outcome.next ((if_neg (not_not.mpr hm)).trans ((if_neg (not_not.mpr hd)).trans (if_neg (Nat.not_lt_of_le hn)))),
      (State.mbxDone_ok _ _).1, ?_, State.mbxDone_hif _ _ _⟩
    rw [State.mbxDone_sec]
    rfl
  · intro x s h
    exact if_pos h
  · intro x s h
    exact if_neg (Bool.eq_false_iff.mp h)
  · intro x s
    obtain ⟨time, y, h⟩ := s.tamperVault_sec x
    rw [h]
    exact ⟨rfl, rfl, Vault.tampered_src _ x time, rfl, rfl⟩
  · intro s h
    exact ⟨s.wr R.SEC_STAT_DRBG_OK 0, if_pos h, (State.flag_wr_same _ _ _ drbgOkFits).trans rfl, State.wr_sec _ _ _, State.wr_ring _ _ _⟩
  · intro s h
    exact ⟨s.wr R.SEC_STAT_DRBG_OK 1, if_pos ⟨Bool.eq_false_iff.mp h, rfl⟩,
      (State.flag_wr_same _ _ _ drbgOkFits).trans (decide_eq_true (by show 1 % 2 ^ 1 ≠ 0; decide)), State.wr_sec _ _ _⟩
  · intro s
    exact if_neg fun k => Bool.false_ne_true k.2
  · intro s h
    exact ⟨{ s with sec := { s.sec with requests := 0 } }, if_pos h, rfl, rfl, rfl⟩

end Sys2Proof.Machine
end

section
/-!
PROOFS. A twin pair: how it forms, copies its state, takes over and hands over (chapter 15).
-/
namespace Sys2Proof.Machine

/-! ### The role and the state of the pair -/

theorem State.setRole_regs_word (s : State) (r p : Nat) {o : Nat} (h : o ≠ 0x60020) : (s.setRole r p).word o = s.word o :=
  (State.word_wr_ne _ _ _ h).trans (State.word_wr_ne _ _ _ h)

theorem State.setRole_role (s : State) (r p : Nat) : (s.setRole r p).rd R.TWIN_STAT_ROLE = r % 4 :=
  (State.rd_wr_ne _ _ (by decide) (.inr (.inr (by decide)))).trans (State.rd_wr_same _ _ _ (by decide))

theorem State.setRole_pair (s : State) (r p : Nat) : (s.setRole r p).rd R.TWIN_STAT_PAIR = p % 8 :=
  State.rd_wr_same _ _ _ (by decide)

theorem State.setRole_fld (s : State) (r p : Nat) : (s.setRole r p).fld = s.fld := by
  simp only [State.setRole, State.wr_fld]

theorem State.setRole_brg (s : State) (r p : Nat) : (s.setRole r p).brg = s.brg := by
  simp only [State.setRole, State.wr_brg]

theorem State.setRole_twin (s : State) (r p : Nat) : (s.setRole r p).twin = s.twin := by
  simp only [State.setRole, State.wr_twin]

/-- The role and the pair's state as the registers of `s` show them. -/
theorem State.active_of {s : State} (h : s.rd R.TWIN_STAT_ROLE = 1) : s.active = true := decide_eq_true h

theorem State.pairIs_of {s : State} {p : Nat} (h : s.rd R.TWIN_STAT_PAIR = p) : s.pairIs p = true := decide_eq_true h

/-! ### What a standby shows, and what it holds: the view that a change of masters leaves -/

/-- What the registers show of the role and of a test pulse, and what a standby gives up. -/
def State.bench (s : State) : Nat × Nat × Pts × Brg × NMap (List Edge) × PctlSt × TwinSt :=
  (s.word 0x60020, s.word 0x60044, s.pts, s.brg, s.td.edges, s.pctl, s.twin)

theorem bench_of {s t : State} (hr : t.word 0x60020 = s.word 0x60020) (hp : t.word 0x60044 = s.word 0x60044) (hc : t.pts = s.pts)
    (hb : t.brg = s.brg) (he : t.td.edges = s.td.edges) (hx : t.pctl = s.pctl) (ht : t.twin = s.twin) : t.bench = s.bench := by
  unfold State.bench
  rw [hr, hp, hc, hb, he, hx, ht]

theorem bench_of_calm {s t : State} (h : t.calm = s.calm) (hr : t.word 0x60020 = s.word 0x60020) (hp : t.word 0x60044 = s.word 0x60044) :
    t.bench = s.bench :=
  bench_of hr hp (congrArg Calm.pts h) (congrArg Calm.brg h) (congrArg (fun x : Calm => x.td.edges) h) (congrArg Calm.pctl h) (congrArg Calm.twin h)

/-- A write elsewhere in the registers. -/
theorem State.wr_bench (s : State) {f : Fld} (v : Nat) (hr : 0x60020 ≠ f.off) (hp : 0x60044 ≠ f.off) : (s.wr f v).bench = s.bench :=
  bench_of_calm (State.wr_calm _ _ _) (State.word_wr_ne _ _ _ hr) (State.word_wr_ne _ _ _ hp)

theorem State.submit_bench (s : State) (i o : Nat) (f : Frame) : (s.submit i o f).bench = s.bench :=
  bench_of_calm (State.submit_calm ..) (State.submit_word (by decide) ..) (State.submit_word (by decide) ..)

theorem State.checkPaths_bench (s : State) : s.checkPaths.bench = s.bench :=
  bench_of_calm (State.checkPaths_calm s) (State.checkPaths_word (by decide) (by decide) s) (State.checkPaths_word (by decide) (by decide) s)

theorem State.setDomain_bench (s : State) (d : Nat) (m : Domain) : (s.setDomain d m).bench = s.bench := (rfl)

theorem State.setCyc_bench (s : State) (n : Nat) (c : Cyc) : (s.setCyc n c).bench = s.bench := by
  unfold State.setCyc
  split <;> rfl

theorem State.setTopo_bench (s : State) (n st : Nat) (x : Topo) : (s.setTopo n st x).bench = s.bench := (rfl)

theorem State.chooseRef_bench (s : State) : s.chooseRef.bench = s.bench := by
  have hr (o : Nat) : s.chooseRef.word o = s.word o := State.word_of_regs (State.chooseRef_regs s) o
  have h := SameButTime.chooseRef s
  exact bench_of (hr _) (hr _) (by rw [h]) (by rw [h]) (congrArg Rest.edges (State.chooseRef_rest s)) (by rw [h]) (by rw [h])

theorem State.dropPaths_bench (s : State) : s.dropPaths.bench = s.bench := by
  have h := SameButTime.dropPaths s
  exact bench_of (State.dropPaths_word s (by decide)) (State.dropPaths_word s (by decide)) (by rw [h]) (by rw [h])
    (congrArg Rest.edges (State.dropPaths_rest s)) (by rw [h]) (by rw [h])

theorem State.settleDomain_bench (s : State) : (s.settleDomain 0).bench = s.bench := by
  have h := SameButTime.settleDomain s 0
  exact bench_of (State.settleDomain_word _ (.inl rfl) (by decide)) (State.settleDomain_word _ (.inl rfl) (by decide)) (by rw [h]) (by rw [h])
    (congrArg Rest.edges (State.settleDomain_rest s 0)) (by rw [h]) (by rw [h])

theorem State.afterTopo_bench (s : State) (old : NMap Topo) : (s.afterTopo old).bench = s.bench := by
  unfold State.afterTopo
  dsimp only
  split
  · rfl
  · rw [State.checkPaths_bench, State.dropPaths_bench, State.wr_bench _ _ (by show 0x60020 ≠ 0x50054 + _; decide)
      (by show 0x60044 ≠ 0x50054 + _; decide),
      State.wr_bench _ _ (by show 0x60020 ≠ 0x50054 + _; decide) (by show 0x60044 ≠ 0x50054 + _; decide), State.wr_bench _ _ (by decide) (by decide)]

theorem State.showSelf_bench (s : State) (n : Nat) : (s.showSelf n).bench = s.bench := by
  unfold State.showSelf
  dsimp only
  rw [State.afterTopo_bench, State.setTopo_bench]

theorem State.announce_bench (s : State) (n : Nat) : (s.announce n).bench = s.bench := by
  have hs : (if s.station n = 0 then s else s.showSelf n).bench = s.bench := by
    split
    · rfl
    · exact State.showSelf_bench ..
  refine Eq.trans (Quiet.foldl (g := State.bench) _ (fun u d => ?_) [0, 1] _) hs
  split
  · exact State.submit_bench ..
  · rfl

theorem State.roleChanged_bench (s : State) : s.roleChanged.bench = s.bench := by
  refine Quiet.foldl (g := State.bench) _ (fun u n => ?_) [0, 1] s
  split
  · rfl
  split
  · exact State.announce_bench ..
  · exact State.showSelf_bench ..

theorem State.rootChanged_bench (s : State) (on : Bool) : (s.rootChanged on).bench = s.bench := by
  unfold State.rootChanged
  dsimp only
  rw [State.chooseRef_bench, State.settleDomain_bench, State.setDomain_bench]

/-- A change of a ring's master role. -/
theorem State.setMaster_bench (s : State) {n : Nat} (on : Bool) (h : n < 2) : (s.setMaster n on).bench = s.bench := by
  have hw (u : State) (f : Fld) (v : Nat) (hf : f.off < 0x60000) : (u.wr f v).bench = u.bench := State.wr_bench u v (by omega) (by omega)
  have ho (u : State) : (if on then u else (u.wr (R.RING_CYC_TCIRC_TIME n) 0).wr (R.RING_CYC_TSWEEP_TIME n) 0).bench = u.bench := by
    split
    · rfl
    · rw [hw _ (R.RING_CYC_TSWEEP_TIME n) _ (by show 0x5005c + 0x20 * n < _; omega), hw _ (R.RING_CYC_TCIRC_TIME n) _
        (by show 0x50058 + 0x20 * n < _; omega)]
  have hc (u : State) (b : Bool) : (if n = 0 then u.rootChanged b else u).bench = u.bench := by
    split
    · exact State.rootChanged_bench ..
    · rfl
  unfold State.setMaster
  dsimp only
  rw [State.roleChanged_bench, hc, State.setCyc_bench, ho, hw _ (R.RING_CYC_STAT_ROLE n) _ (by show 0x50054 + 0x20 * n < _; omega)]

/-! ### The hub becomes the standby (R397, R410) -/

/-- What a release of the pins leaves: the words of the pair and of the tunnels' kinds, the tunnels' frames, and the unit of the pair. -/
def State.unpinned (s : State) : Nat × Nat × (Nat → Nat) × NMap (List TunFrame) × TwinSt :=
  (s.word 0x60020, s.word 0x60044, fun t => s.rd (R.BRG_TUN_CFG_KIND t), s.brg.tun, s.twin)

theorem unpinned_of {s t : State} (hr : t.word 0x60020 = s.word 0x60020) (hp : t.word 0x60044 = s.word 0x60044)
    (hk : ∀ x, t.rd (R.BRG_TUN_CFG_KIND x) = s.rd (R.BRG_TUN_CFG_KIND x)) (hb : t.brg = s.brg) (ht : t.twin = s.twin) : t.unpinned = s.unpinned := by
  unfold State.unpinned
  rw [hr, hp, hb, ht]
  simp only [hk]

/-- The pins' words are those of the ports; FP_ON stands beside any tunnel's kind. -/
theorem State.setFp_unpinned (s : State) (p : Nat) (on : Bool) : (s.setFp p on).unpinned = s.unpinned := by
  have hr (u : State) : (u.refreshPort p).regs = u.regs := State.refreshPort_regs u p
  have hw {o : Nat} (ho : o < 0x60100) : (s.setFp p on).word o = s.word o :=
    (State.word_of_regs (hr _) _).trans (State.word_wr_ne _ _ _ (by show o ≠ 0xc0060 + 0x400 * p; omega))
  refine unpinned_of (hw (by decide)) (hw (by decide)) (fun x => ?_) (State.setFp_brg s p on) (State.setFp_twin s p on)
  exact (State.rd_of_regs (hr _) _).trans (State.rd_wr_ne _ _ (by show 22 + 1 ≤ 32; decide) (.inr (.inr (by show 22 + 1 ≤ 23; decide))))

theorem State.releasePins_unpinned (s : State) : s.releasePins.unpinned = s.unpinned := by
  unfold State.releasePins
  refine (Quiet.foldl (g := State.unpinned) _ (fun u p => ?_) _ _).trans (Quiet.foldl (g := State.unpinned) _ (fun u c => ?_) _ _)
  · split
    · exact State.setFp_unpinned ..
    · rfl
  · split <;> rfl

/-! Tunnel entries that name a field port discard their frames (R354). -/

/-- Entry `t` of the tunnels discards its frames `q`. -/
def State.dropEntry (s : State) (x : Nat × List TunFrame) : State :=
  if 4 ≤ s.rd (R.BRG_TUN_CFG_KIND x.1) then s
  else ({ s with brg := { s.brg with tun := NMap.set (fun _ => []) s.brg.tun x.1 [] } }).inc (R.BRG_TUN_CNT_DROP x.1) x.2.length

theorem State.inc_drop_kind (s : State) (t n x : Nat) : (s.inc (R.BRG_TUN_CNT_DROP t) n).rd (R.BRG_TUN_CFG_KIND x) = s.rd (R.BRG_TUN_CFG_KIND x) :=
  State.rd_inc_ne _ _ (by show 0 + 16 ≤ 32; decide) (.inl (by show 0x93014 + 0x20 * t ≠ 0x93000 + 0x20 * x; omega))

theorem State.dropEntry_kind (s : State) (x : Nat × List TunFrame) (t : Nat) : (s.dropEntry x).rd (R.BRG_TUN_CFG_KIND t) = s.rd
  (R.BRG_TUN_CFG_KIND t) := by
  unfold State.dropEntry
  split
  · rfl
  · rw [State.inc_drop_kind]
    rfl

theorem State.dropEntry_tun (s : State) {x : Nat × List TunFrame} (h : ¬ 4 ≤ s.rd (R.BRG_TUN_CFG_KIND x.1)) :
    (s.dropEntry x).brg.tun = NMap.set (fun _ => []) s.brg.tun x.1 [] := by
  unfold State.dropEntry
  rw [if_neg h, State.inc_brg]

theorem State.dropEntry_same (s : State) {x : Nat × List TunFrame} (h : s.rd (R.BRG_TUN_CFG_KIND x.1) < 4) : (s.dropEntry x).tunq x.1 = [] := by
  unfold State.tunq
  rw [State.dropEntry_tun s (Nat.not_le.mpr h)]
  exact NMap.get_set_same _ _ _ _

theorem State.dropEntry_keeps {s : State} (x : Nat × List TunFrame) {t : Nat} (h : s.tunq t = []) : (s.dropEntry x).tunq t = [] := by
  by_cases hk : 4 ≤ s.rd (R.BRG_TUN_CFG_KIND x.1)
  · unfold State.dropEntry
    rwa [if_pos hk]
  by_cases e : t = x.1
  · rw [e]
    exact State.dropEntry_same s (Nat.not_le.mp hk)
  · unfold State.tunq at h ⊢
    rw [State.dropEntry_tun s hk, NMap.get_set_ne _ _ _ e]
    exact h

/-- Once every entry of `l` has been gone through, an entry of a field port is empty if it was, or if it is in `l`. -/
theorem dropEntries_empty (l : List (Nat × List TunFrame)) (s : State) {t : Nat} (hk : s.rd (R.BRG_TUN_CFG_KIND t) < 4)
    (h : s.tunq t = [] ∨ ∃ q, (t, q) ∈ l) : (l.foldl State.dropEntry s).tunq t = [] := by
  induction l generalizing s with
  | nil => exact h.resolve_right fun ⟨_, hq⟩ => nomatch hq
  | cons x l ih =>
    refine ih (s.dropEntry x) (by rwa [State.dropEntry_kind]) ?_
    rcases h with h | ⟨q, hq⟩
    · exact .inl (State.dropEntry_keeps x h)
    rcases List.mem_cons.mp hq with e | hq
    · exact .inl (by subst e; exact State.dropEntry_same s hk)
    · exact .inr ⟨q, hq⟩

theorem NMap.get_eq_or_mem {α : Type} (d : Nat → α) (m : NMap α) (k : Nat) : NMap.get d m k = d k ∨ ∃ v, (k, v) ∈ m := by
  induction m with
  | nil => exact .inl rfl
  | cons x r ih =>
    obtain ⟨a, v⟩ := x
    by_cases e : a = k
    · exact .inr ⟨v, by rw [e]; exact List.mem_cons_self⟩
    · refine ih.imp (fun h => (if_neg e).trans h) fun ⟨w, hw⟩ => ⟨w, List.mem_cons_of_mem _ hw⟩

/-- Queue `x` of a controller loses the frames of tunnels, which their entries count. -/
def State.dropSends (s : State) (x : Nat × List TxItem) : State :=
  (x.2.filterMap (·.tun)).foldl (fun s t => s.inc (R.BRG_TUN_CNT_DROP t))
    { s with pctl := { s.pctl with tx := NMap.set (fun _ => []) s.pctl.tx x.1 (x.2.filter fun x => x.tun.isNone) } }

theorem State.dropTunnelled_eq (s : State) :
    s.dropTunnelled = (s.brg.tun.foldl State.dropEntry s).pctl.tx.foldl State.dropSends (s.brg.tun.foldl State.dropEntry s) := (rfl)

theorem State.dropSends_brg (s : State) (x : Nat × List TxItem) : (s.dropSends x).brg = s.brg :=
  Quiet.foldl (g := State.brg) _ (fun u _ => State.inc_brg u _ _) _ _

theorem State.dropSends_word (s : State) (x : Nat × List TxItem) {o : Nat} (h : o < 0x90000) : (s.dropSends x).word o = s.word o :=
  Quiet.foldl (g := fun u : State => u.word o) _ (fun _ t => State.word_inc_ne _ _ _ (by show o ≠ 0x93014 + 0x20 * t; omega)) _ _

theorem State.dropEntry_word (s : State) (x : Nat × List TunFrame) {o : Nat} (h : o < 0x90000) : (s.dropEntry x).word o = s.word o := by
  unfold State.dropEntry
  split
  · rfl
  · exact State.word_inc_ne _ _ _ (by show o ≠ 0x93014 + 0x20 * x.1; omega)

theorem State.dropTunnelled_word (s : State) {o : Nat} (h : o < 0x90000) : s.dropTunnelled.word o = s.word o := by
  rw [State.dropTunnelled_eq]
  exact (Quiet.foldl (g := fun u : State => u.word o) _ (fun u x => State.dropSends_word u x h) _ _).trans
    (Quiet.foldl (g := fun u : State => u.word o) _ (fun u x => State.dropEntry_word u x h) _ _)

theorem State.dropTunnelled_tunq (s : State) {t : Nat} (h : s.rd (R.BRG_TUN_CFG_KIND t) < 4) : s.dropTunnelled.tunq t = [] := by
  have hb : s.dropTunnelled.brg = (s.brg.tun.foldl State.dropEntry s).brg := by
    rw [State.dropTunnelled_eq]
    exact Quiet.foldl (g := State.brg) _ State.dropSends_brg _ _
  unfold State.tunq
  rw [hb]
  exact dropEntries_empty _ s h (NMap.get_eq_or_mem _ _ _)

/-! What only the active holds. -/

theorem State.dropActive_word (s : State) {o : Nat} (h : o < 0x90000) : s.dropActive.word o = s.word o := by
  unfold State.dropActive
  refine (State.dropTunnelled_word _ h).trans (State.word_wr_ne _ _ _ (by show o ≠ 0xa0044; omega))

/-- The state whose tunnels are dropped. -/
def State.unsubscribed (s : State) : State := ({ s with pts := { s.pts with subs := [] } }).wr R.RFX_SUB_USED_COUNT 0

/-- What is left of the lists of the active. -/
def State.clearActive (s : State) : State :=
  let s := { s with brg := { s.brg with locks := [], queue := [], lockedOps := [], active := [] } }
  let s := { s with pctl := { s.pctl with rx := [], tx := [], due := [], polls := [], poll := [] } }
  { s with td := { s.td with edges := [] } }

theorem State.dropActive_eq (s : State) : s.dropActive = s.unsubscribed.dropTunnelled.clearActive := (rfl)

theorem State.clearActive_holds (s : State) : s.clearActive.brg.locks = [] ∧ s.clearActive.td.edges = [] ∧ s.clearActive.pctl.rx = [] ∧
    s.clearActive.pts = s.pts ∧ s.clearActive.twin = s.twin ∧ s.clearActive.regs = s.regs ∧ s.clearActive.brg.tun = s.brg.tun :=
  ⟨rfl, rfl, rfl, rfl, rfl, rfl, rfl⟩

theorem State.dropTunnelled_pts (s : State) : s.dropTunnelled.pts = s.pts := by
  have hq (u : State) (x : Nat × List TxItem) : (u.dropSends x).pts = u.pts := Quiet.foldl (g := State.pts) _ (fun u _ => State.inc_pts u _ _) _ _
  have he (u : State) (x : Nat × List TunFrame) : (u.dropEntry x).pts = u.pts := by
    unfold State.dropEntry
    split
    · rfl
    · exact State.inc_pts _ _ _
  rw [State.dropTunnelled_eq]
  exact (Quiet.foldl (g := State.pts) _ hq _ _).trans (Quiet.foldl (g := State.pts) _ he _ _)

/-- The standby holds nothing of the active's. -/
theorem State.dropActive_holds (s : State) : s.dropActive.pts.subs = [] ∧ s.dropActive.brg.locks = [] ∧
    (∀ t, s.rd (R.BRG_TUN_CFG_KIND t) < 4 → s.dropActive.tunq t = []) ∧ s.dropActive.td.edges = [] ∧ s.dropActive.pctl.rx = [] ∧
    s.dropActive.twin.pulse = s.twin.pulse := by
  obtain ⟨hl, he, hr, hp, ht, -, hu⟩ := State.clearActive_holds s.unsubscribed.dropTunnelled
  have hk (t : Nat) : s.unsubscribed.rd (R.BRG_TUN_CFG_KIND t) = s.rd (R.BRG_TUN_CFG_KIND t) :=
    State.rd_wr_ne _ _ (by decide) (.inl (by show 0xa0044 ≠ 0x93000 + 0x20 * t; omega))
  rw [State.dropActive_eq]
  refine ⟨?_, hl, fun t h => ?_, he, hr, ?_⟩
  · rw [hp, State.dropTunnelled_pts, State.unsubscribed, State.wr_pts]
  · unfold State.tunq
    rw [hu]
    exact State.dropTunnelled_tunq _ (by rwa [hk])
  · rw [ht]
    refine (congrArg (fun d : Deep => d.twin.pulse) (State.dropTunnelled_deep _)).trans ?_
    show s.unsubscribed.twin.pulse = _
    rw [State.unsubscribed, State.wr_twin]

/-- A test pulse of the hub's own ends without a result. -/
def State.endPulse (s : State) : State :=
  { s.wr R.TWIN_PULSE_STAT_BUSY 0 with twin := { s.twin with pulse := none, pulseAsked := none } }

theorem State.becomeStandby_eq (s : State) (p : Nat) : s.becomeStandby p =
    [0, 1].foldl (fun s n => if s.isMaster n then s.setMaster n false else s) (s.endPulse.setRole 2 p).releasePins.dropActive := (rfl)

theorem State.becomeStandby_bench (s : State) (p : Nat) :
    (s.becomeStandby p).bench = (s.endPulse.setRole 2 p).releasePins.dropActive.bench := by
  rw [State.becomeStandby_eq]
  simp only [List.foldl_cons, List.foldl_nil]
  have h (u : State) {n : Nat} (hn : n < 2) : (if u.isMaster n then u.setMaster n false else u).bench = u.bench := by
    split
    · exact State.setMaster_bench u false hn
    · rfl
  rw [h _ (by decide), h _ (by decide)]

theorem State.endPulse_regs (s : State) : s.endPulse.regs = (s.wr R.TWIN_PULSE_STAT_BUSY 0).regs := (rfl)

theorem State.endPulse_word (s : State) {o : Nat} (h : o ≠ 0x60044) : s.endPulse.word o = s.word o :=
  (State.word_of_regs s.endPulse_regs o).trans (State.word_wr_ne _ _ _ h)

theorem State.endPulse_busy (s : State) : s.endPulse.rd R.TWIN_PULSE_STAT_BUSY = 0 :=
  (State.rd_of_regs s.endPulse_regs _).trans (State.rd_wr_same _ _ _ (by decide))

/-- What the bench of a state says. -/
theorem of_bench {s t : State} (h : t.bench = s.bench) : t.word 0x60020 = s.word 0x60020 ∧ t.word 0x60044 = s.word 0x60044 ∧ t.pts = s.pts ∧
    t.brg = s.brg ∧ t.td.edges = s.td.edges ∧ t.pctl = s.pctl ∧ t.twin = s.twin := by
  simpa only [State.bench, Prod.mk.injEq] using h

theorem of_unpinned {s t : State} (h : t.unpinned = s.unpinned) : t.word 0x60020 = s.word 0x60020 ∧ t.word 0x60044 = s.word 0x60044 ∧
    (∀ x, t.rd (R.BRG_TUN_CFG_KIND x) = s.rd (R.BRG_TUN_CFG_KIND x)) ∧ t.twin = s.twin := by
  simp only [State.unpinned, Prod.mk.injEq] at h
  obtain ⟨hr, hp, hk, -, ht⟩ := h
  exact ⟨hr, hp, fun x => congrFun hk x, ht⟩

/-- The words of the pair as a new standby shows them. -/
theorem State.becomeStandby_words (s : State) (p : Nat) : (s.becomeStandby p).word 0x60020 = (s.endPulse.setRole 2 p).word 0x60020 ∧
    (s.becomeStandby p).word 0x60044 = s.endPulse.word 0x60044 := by
  obtain ⟨hr, hp, -⟩ := of_bench (State.becomeStandby_bench s p)
  obtain ⟨ur, up, -⟩ := of_unpinned (State.releasePins_unpinned (s.endPulse.setRole 2 p))
  exact ⟨hr.trans ((State.dropActive_word _ (by decide)).trans ur),
    hp.trans ((State.dropActive_word _ (by decide)).trans (up.trans (State.setRole_regs_word _ _ _ (by decide))))⟩

/-- A new standby drives and holds nothing of the active's (R397, R410). -/
theorem State.becomeStandby_does (s : State) {p : Nat} (hp : p < 8) : (s.becomeStandby p).isStandby = true ∧ (s.becomeStandby p).pairIs p = true ∧
    (s.becomeStandby p).pts.subs = [] ∧ (s.becomeStandby p).brg.locks = [] ∧ (∀ t, s.rd (R.BRG_TUN_CFG_KIND t) < 4 →
        (s.becomeStandby p).tunq t = []) ∧
    (s.becomeStandby p).td.edges = [] ∧ (s.becomeStandby p).pctl.rx = [] ∧ (s.becomeStandby p).twin.pulse = none ∧
    (s.becomeStandby p).flag R.TWIN_PULSE_STAT_BUSY = false := by
  obtain ⟨wr, wp⟩ := State.becomeStandby_words s p
  obtain ⟨-, -, hs, hb, he, hx, ht⟩ := of_bench (State.becomeStandby_bench s p)
  obtain ⟨-, -, hk, hw⟩ := of_unpinned (State.releasePins_unpinned (s.endPulse.setRole 2 p))
  obtain ⟨d1, d2, d3, d4, d5, d6⟩ := State.dropActive_holds (s.endPulse.setRole 2 p).releasePins
  refine ⟨decide_eq_true ?_, State.pairIs_of ?_, (congrArg Pts.subs hs).trans d1, (congrArg Brg.locks hb).trans d2, fun t h => ?_, he.trans d4,
    (congrArg PctlSt.rx hx).trans d5, ?_, decide_eq_false ?_⟩
  · exact (State.rd_of_word wr).trans (State.setRole_role _ _ _)
  · exact (State.rd_of_word wr).trans ((State.setRole_pair _ _ _).trans (Nat.mod_eq_of_lt hp))
  · unfold State.tunq
    rw [hb]
    refine d3 t ?_
    rw [hk]
    have h1 : (s.endPulse.setRole 2 p).rd (R.BRG_TUN_CFG_KIND t) = s.endPulse.rd (R.BRG_TUN_CFG_KIND t) :=
      State.rd_of_word (State.setRole_regs_word _ _ _ (by show 0x93000 + 0x20 * t ≠ 0x60020; omega))
    have h2 : s.endPulse.rd (R.BRG_TUN_CFG_KIND t) = s.rd (R.BRG_TUN_CFG_KIND t) :=
      State.rd_of_word (State.endPulse_word s (by show 0x93000 + 0x20 * t ≠ 0x60044; omega))
    rwa [h1, h2]
  · rw [ht, d6, hw, State.setRole_twin]
    rfl
  · exact not_not.mpr ((State.rd_of_word wp).trans (State.endPulse_busy s))

/-! ### Forming (R397, R398) -/

/-- The hub waits for its peer no longer. -/
def State.unwaiting (s : State) : State := { s with twin := { s.twin with waitPeer := false } }

/-- A resynchronisation is due, and the lane is free. -/
def State.resyncs (s : State) : State := { s with twin := { s.twin with resync := true, out := 0, lateNow := false, due := none } }

theorem State.resyncs_does (s : State) : s.resyncs.regs = s.regs ∧ s.resyncs.emitted = s.emitted ∧ s.resyncs.twin.resync = true
  ∧ s.resyncs.twin.out = 0 ∧
    s.resyncs.twin.waitPeer = s.twin.waitPeer ∧ s.resyncs.fld = s.fld := ⟨rfl, rfl, rfl, rfl, rfl, rfl⟩

/-- The hub is the active of a pair that resynchronises. -/
def State.leads (s : State) : State := (s.unwaiting.setRole 1 pSyncing).resyncs

theorem State.leads_does (s : State) : s.leads.emitted = s.emitted ∧ s.leads.active = true ∧ s.leads.pairIs pSyncing = true ∧
    s.leads.twin.resync = true ∧ s.leads.twin.out = 0 ∧ s.leads.twin.waitPeer = false ∧ s.leads.fld = s.fld := by
  obtain ⟨hr, he, hy, ho, hw, hf⟩ := State.resyncs_does (s.unwaiting.setRole 1 pSyncing)
  refine ⟨he.trans ?_, State.active_of ((State.rd_of_regs hr _).trans (State.setRole_role _ _ _)),
    State.pairIs_of ((State.rd_of_regs hr _).trans (State.setRole_pair _ _ _)), hy, ho, hw.trans ?_, hf.trans (State.setRole_fld _ _ _)⟩
  · rw [State.setRole, State.wr_emitted, State.wr_emitted]
    rfl
  · rw [State.setRole_twin]
    rfl

/-- The hub takes the active's part where the pair forms. -/
def State.actsIn (s : State) (pa : Bool) : Bool := s.active || (!pa && s.firstHub)

theorem State.twinForm_leads {s : State} {pa : Bool} (h : s.actsIn pa = true) : s.twinForm true pa = s.leads.joinRings := by
  unfold State.twinForm
  dsimp only
  rw [if_neg (not_not.mpr rfl)]
  exact if_pos h

theorem State.twinForm_follows {s : State} {pa : Bool} (h : s.actsIn pa = false) : s.twinForm true pa = (s.unwaiting.becomeStandby pSyncing).joinRings := by
  unfold State.twinForm
  dsimp only
  rw [if_neg (not_not.mpr rfl)]
  exact if_neg (Bool.eq_false_iff.mp h)

theorem State.twinForm_differs {s : State} {pa : Bool} (h : s.actsIn pa = true) :
    s.twinForm false pa = ((s.unwaiting.setRole 0 pMismatch).raise 12 .U).joinRings := by
  unfold State.twinForm
  dsimp only
  rw [if_pos Bool.false_ne_true]
  exact congrArg (fun u : State => (u.raise 12 .U).joinRings) (if_pos h)

/-- The digest that the hub sends first. -/
def State.sendsDigest (s : State) : State := s.emit (.twin "digest" (leBytes 48 s.ownDigest))

theorem exec_twinForm {s : State} {d : BitVec 384} {pa : Bool} (he : s.flag R.TWIN_CFG_EN = true) (hr : s.ready = true) (hu : s.isUp 4 = true) :
    exec (.twinForm d pa) s = .next (s.sendsDigest.twinForm (decide (d.toNat = s.ownDigest)) pa) :=
  if_pos ⟨he, hr, hu⟩

theorem State.sendsDigest_actsIn (s : State) (pa : Bool) : s.sendsDigest.actsIn pa = s.actsIn pa := (rfl)

theorem State.actsIn_of {s : State} {pa : Bool} (h : s.active = true ∨ (pa = false ∧ s.firstHub = true)) : s.actsIn pa = true := by
  unfold State.actsIn
  rcases h with h | ⟨hp, h⟩
  · rw [h, Bool.true_or]
  · rw [hp, h, Bool.not_false, Bool.true_and, Bool.or_true]

theorem State.actsIn_not {s : State} {pa : Bool} (ha : s.active = false) (h : pa = true ∨ s.firstHub = false) : s.actsIn pa = false := by
  unfold State.actsIn
  rcases h with h | h
  · rw [ha, h, Bool.false_or, Bool.not_true, Bool.false_and]
  · rw [ha, h, Bool.false_or, Bool.and_false]

theorem exec_twinForm_leads {s : State} {d : BitVec 384} {pa : Bool} (he : s.flag R.TWIN_CFG_EN = true) (hr : s.ready = true) (hu : s.isUp 4 = true)
    (hd : d.toNat = s.ownDigest) (h : s.active = true ∨ (pa = false ∧ s.firstHub = true)) :
    exec (.twinForm d pa) s = .next s.sendsDigest.leads.joinRings := by
  rw [exec_twinForm he hr hu, decide_eq_true hd, State.twinForm_leads ((s.sendsDigest_actsIn pa).trans (State.actsIn_of h))]

theorem exec_twinForm_follows {s : State} {d : BitVec 384} {pa : Bool} (he : s.flag R.TWIN_CFG_EN = true) (hr : s.ready = true) (hu : s.isUp 4 = true)
    (hd : d.toNat = s.ownDigest) (ha : s.active = false) (h : pa = true ∨ s.firstHub = false) :
    exec (.twinForm d pa) s = .next (s.sendsDigest.unwaiting.becomeStandby pSyncing).joinRings := by
  rw [exec_twinForm he hr hu, decide_eq_true hd, State.twinForm_follows ((s.sendsDigest_actsIn pa).trans (State.actsIn_not ha h))]

theorem exec_twinForm_differs {s : State} {d : BitVec 384} {pa : Bool} (he : s.flag R.TWIN_CFG_EN = true) (hr : s.ready = true) (hu : s.isUp 4 = true)
    (hd : d.toNat ≠ s.ownDigest) (ha : s.active = true) :
    exec (.twinForm d pa) s = .next ((s.sendsDigest.unwaiting.setRole 0 pMismatch).raise 12 .U).joinRings := by
  rw [exec_twinForm he hr hu, decide_eq_false hd, State.twinForm_differs ((s.sendsDigest_actsIn pa).trans (State.actsIn_of (.inl ha)))]

theorem exec_formTimeout {s : State} (he : s.flag R.TWIN_CFG_EN = true) (hr : s.ready = true) (hu : s.isUp 4 = false)
    (h0 : s.rd R.TWIN_STAT_ROLE = 0) (hp : s.pairIs pForming = true) : exec .formTimeout s =
      if s.firstHub then .next (s.setRole 1 pForming).joinRings
      else .next ({ s.becomeStandby pDetached with twin := { (s.becomeStandby pDetached).twin with waitPeer := true } }).joinRings :=
  if_pos ⟨he, hr, Bool.eq_false_iff.mp hu, h0, hp⟩

/-! ### Deltas on the active (R400 to R402) -/

/-- A delta is late: nothing but the lane's times and the count of free values changes. -/
theorem State.missWindow_does {s : State} (h : s.twin.lateNow = false) :
    s.missWindow.twin.lateNow = true ∧ s.missWindow.regs = s.regs ∧ s.missWindow.pts = s.pts := by
  unfold State.missWindow
  rw [if_neg (Bool.eq_false_iff.mp h)]
  by_cases ht : s.twin.endAt ≤ s.ns
  · rw [if_pos ht]
    exact ⟨rfl, rfl, rfl⟩
  · rw [if_neg ht]
    exact ⟨rfl, rfl, rfl⟩

/-- What the registers show of a late delta. -/
def State.showLate (s : State) : State := (s.wr R.TWIN_STAT_LAGGING 1).inc R.TWIN_CNT_LAGGED

theorem State.showLate_does (s : State) : s.showLate.twin = s.twin ∧ s.showLate.flag R.TWIN_STAT_LAGGING = true ∧
    s.showLate.rd R.TWIN_CNT_LAGGED = satAdd 16 (s.rd R.TWIN_CNT_LAGGED) 1 ∧ s.showLate.pts = s.pts := by
  unfold State.showLate
  refine ⟨?_, ?_, ?_, ?_⟩
  · rw [State.inc_twin, State.wr_twin]
  · rw [State.flag_inc_ne _ _ (by decide) (.inl (by decide)), State.flag_wr_same _ _ _ (by decide)]
    rfl
  · rw [State.rd_inc_same _ _ _ (by decide), State.rd_wr_ne _ _ (by decide) (.inl (by decide))]
    rfl
  · rw [State.inc_pts, State.wr_pts]

theorem exec_deltaWindowExpiry {s : State} (ha : s.active = true) (ho : s.twin.out = 2) (hl : s.twin.lateNow = false) :
    exec .deltaWindowExpiry s = .next s.missWindow.showLate := by
  have hm : decide (s.active = true ∧ s.twin.out = 2 ∧ (¬ s.twin.lateNow = true ∨ (s.twin.due.any fun x => !x.2) = true)) = true :=
    decide_eq_true ⟨ha, ho, .inl (Bool.eq_false_iff.mp hl)⟩
  show execDeltaWindowExpiry s = _
  unfold execDeltaWindowExpiry
  dsimp only
  rw [if_pos (.inl hm), if_pos hm]
  rfl

theorem exec_deltaWindowExpiry_idle {s : State} (ha : s.active = false) (hb : s.isStandby = false) : exec .deltaWindowExpiry s = .next s := by
  refine if_neg ?_
  rintro (h | h)
  · exact Bool.eq_false_iff.mp ha (of_decide_eq_true h).1
  · exact Bool.eq_false_iff.mp hb h.1

/-- The window of a delta that is in time. -/
theorem State.deltaInTime_of (s : State) : s.deltaInTime =
    if s.pairIs pSyncing then ((s.wr R.TWIN_STAT_LAGGING 0).wr R.TWIN_STAT_PAIR pReady).wr R.TWIN_STAT_DEGRADED 0 else s.wr R.TWIN_STAT_LAGGING 0 :=
        by
  have hp : (s.wr R.TWIN_STAT_LAGGING 0).pairIs pSyncing = s.pairIs pSyncing := by
    unfold State.pairIs
    rw [State.rd_wr_ne _ _ (by decide) (.inr (.inr (by decide)))]
  unfold State.deltaInTime
  dsimp only
  rw [hp]

theorem State.deltaInTime_does (s : State) : s.deltaInTime.flag R.TWIN_STAT_LAGGING = false ∧ (s.pairIs pSyncing = true
  → s.deltaInTime.pairIs pReady = true ∧
    s.deltaInTime.flag R.TWIN_STAT_DEGRADED = false) ∧ (s.pairIs pSyncing = false → s.deltaInTime.rd R.TWIN_STAT_PAIR = s.rd R.TWIN_STAT_PAIR) := by
  rw [State.deltaInTime_of]
  refine ⟨?_, fun h => ?_, fun h => ?_⟩
  · have h0 : (s.wr R.TWIN_STAT_LAGGING 0).flag R.TWIN_STAT_LAGGING = false := (State.flag_wr_same _ _ _ (by decide)).trans rfl
    split
    · rw [State.flag_wr_ne _ _ (by decide) (.inr (.inr (by decide))), State.flag_wr_ne _ _ (by decide) (.inr (.inl (by decide))), h0]
    · exact h0
  · rw [if_pos h]
    refine ⟨State.pairIs_of ?_, (State.flag_wr_same _ _ _ (by decide)).trans rfl⟩
    rw [State.rd_wr_ne _ _ (by decide) (.inr (.inr (by decide))), State.rd_wr_same _ _ _ (by decide)]
    rfl
  · rw [if_neg (Bool.eq_false_iff.mp h)]
    exact State.rd_wr_ne _ _ (by decide) (.inr (.inr (by decide)))

/-- A full resynchronisation is due. -/
def State.resyncDue (s : State) : State := { s with twin := { s.twin with resync := true } }

theorem State.startResync_ready {s : State} (ha : s.active = true) (hp : s.pairIs pReady = true) :
    s.startResync = s.resyncDue.wr R.TWIN_STAT_PAIR pSyncing := if_pos ⟨ha, .inr hp⟩

theorem State.wr_pair_pairIs (s : State) {p : Nat} (h : p < 8) : (s.wr R.TWIN_STAT_PAIR p).pairIs p = true :=
  State.pairIs_of ((State.rd_wr_same _ _ _ (by decide)).trans (Nat.mod_eq_of_lt h))

theorem State.wr_pair_active (s : State) (p : Nat) : (s.wr R.TWIN_STAT_PAIR p).active = s.active := by
  unfold State.active
  rw [State.rd_wr_ne _ _ (by decide) (.inr (.inr (by decide)))]

/-- The delta of cycle `k` is due. -/
def State.deltaDue (s : State) (k : Nat) : State := { s with twin := { s.twin with due := some (k, false) } }

theorem State.deltaDue_deltaOf (s : State) (k j : Nat) : (s.deltaDue k).deltaOf j = s.deltaOf j := (rfl)

theorem State.sendDelta_active {s : State} (k : Nat) (h : s.active = true) : s.sendDelta k = (s.deltaDue k).twinTurn := if_pos h

/-- The lane is free: the delta that is due starts. -/
theorem State.sendDelta_starts {s : State} (k : Nat) (ha : s.active = true) (hu : s.isUp 4 = true) (hp : s.pairIs pReady = true) (ho : s.twin.out = 0)
    (hr : s.twin.resync = false) : s.sendDelta k = (s.deltaDue k).startSend (s.deltaOf k) false := by
  rw [State.sendDelta_active k ha]
  unfold State.twinTurn
  have hc : ¬ (¬ (s.deltaDue k).active = true ∨ ¬ (s.deltaDue k).isUp 4 = true ∨
      ¬ ((s.deltaDue k).pairIs pSyncing = true ∨ (s.deltaDue k).pairIs pReady = true)) := by
    rintro (h | h | h)
    · exact h ha
    · exact h hu
    · exact h (.inr hp)
  have h0 : ¬ ((s.deltaDue k).twin.out ≠ 0 ∧ (s.deltaDue k).twin.endAt ≤ (s.deltaDue k).ns) := fun h => h.1 ho
  have h1 : ¬ (s.deltaDue k).twin.out ≠ 0 := fun h => h ho
  rw [if_neg hc]
  dsimp only
  rw [if_neg h0, if_neg h1, if_neg (show ¬ (s.deltaDue k).twin.resync = true from Bool.eq_false_iff.mp hr)]
  show (s.deltaDue k).startSend ((s.deltaDue k).deltaOf k) false = _
  rw [State.deltaDue_deltaOf]

theorem State.sendDelta_waits {s : State} (k : Nat) (ha : s.active = true) (ho : s.twin.out ≠ 0) (ht : s.ns < s.twin.endAt) :
    s.sendDelta k = s.deltaDue k := by
  have h0 : ¬ ((s.deltaDue k).twin.out ≠ 0 ∧ (s.deltaDue k).twin.endAt ≤ (s.deltaDue k).ns) := fun h => Nat.not_le.mpr ht h.2
  have h1 : (s.deltaDue k).twin.out ≠ 0 := ho
  rw [State.sendDelta_active k ha]
  unfold State.twinTurn
  dsimp only
  rw [if_neg h0, if_pos h1, ite_self]

theorem State.noteDelta_emitted (s : State) (n : Nat) : (s.noteDelta n).emitted = s.emitted := by
  rw [State.noteDelta, State.wr_emitted, State.wr_emitted]

theorem State.noteDelta_twin (s : State) (n : Nat) : (s.noteDelta n).twin = s.twin := by
  rw [State.noteDelta, State.wr_twin, State.wr_twin]

theorem State.noteDelta_pts (s : State) (n : Nat) : (s.noteDelta n).pts = s.pts := by
  rw [State.noteDelta, State.wr_pts, State.wr_pts]

theorem State.startSend_does (s : State) {d : Delta} (hd : d.resync = false) : (s.startSend d false).emitted = s.emitted ++ [.delta d] ∧
    (s.startSend d false).twin.out = 2 ∧ (s.startSend d false).twin.lateNow = false ∧ (s.startSend d false).pts = s.pts := by
  unfold State.startSend
  dsimp only
  refine ⟨?_, ?_, ?_, ?_⟩
  · rw [State.emit_emitted, State.noteDelta_emitted]
  · rw [State.emit_twin, State.noteDelta_twin]
    exact if_neg (Bool.eq_false_iff.mp hd)
  · rw [State.emit_twin, State.noteDelta_twin]
  · rw [State.emit_pts, State.noteDelta_pts]

/-! ### Takeover (R406 to R408, R412) -/

/-- What ends with the failing hub. -/
def State.roleTaken (s : State) : State :=
  let s := { s with brg := { s.brg with locks := [], seqSeen := List.range 64 } }
  { s with twin := { s.twin with out := 0, due := none, resync := false, noticed := false, waitPeer := false, pulse := none } }

theorem State.roleTaken_does (s : State) : s.roleTaken.regs = s.regs ∧ s.roleTaken.fld = s.fld ∧ s.roleTaken.brg.locks = [] := ⟨rfl, rfl, rfl⟩

theorem State.takeRole_eq (s : State) : s.takeRole = ((s.setRole 1 pForming).inc R.TWIN_CNT_TAKEOVERS).roleTaken := (rfl)

/-- The role that a takeover writes, and its count. -/
theorem State.takeRole_does (s : State) : s.takeRole.active = true ∧ s.takeRole.pairIs pForming = true ∧
    s.takeRole.rd R.TWIN_CNT_TAKEOVERS = satAdd 16 (s.rd R.TWIN_CNT_TAKEOVERS) 1 ∧ s.takeRole.brg.locks = [] ∧ s.takeRole.fld = s.fld := by
  obtain ⟨hr, hf, hl⟩ := State.roleTaken_does ((s.setRole 1 pForming).inc R.TWIN_CNT_TAKEOVERS)
  rw [State.takeRole_eq]
  refine ⟨State.active_of ?_, State.pairIs_of ?_, ?_, hl, ?_⟩
  · rw [State.rd_of_regs hr, State.rd_inc_ne _ _ (by decide) (.inl (by decide)), State.setRole_role]
  · rw [State.rd_of_regs hr, State.rd_inc_ne _ _ (by decide) (.inl (by decide)), State.setRole_pair]
    rfl
  · rw [State.rd_of_regs hr, State.rd_inc_same _ _ _ (by decide), State.rd_of_word (State.setRole_regs_word _ _ _ (by decide))]
    rfl
  · rw [hf, State.inc_fld, State.setRole_fld]

/-- What the registers show of the state that a takeover continues from. -/
def State.showTaken (s : State) (ready : Bool) : State :=
  (s.wr R.TWIN_STAT_DEGRADED (bnat (!ready || s.flag R.TWIN_STAT_LAGGING))).wr R.TWIN_STAT_LAGGING 0

/-- A READY pair goes on from the most recent freeze. -/
def State.lastFreeze (s : State) : State := { s with cyc := { s.cyc with freezes := s.cyc.freezes.reverse.take 1, last := s.cyc.last } }

theorem State.lastFreeze_does (s : State) : s.lastFreeze.regs = s.regs ∧ s.lastFreeze.pts = s.pts ∧ s.lastFreeze.rfx = s.rfx
  ∧ s.lastFreeze.eng = s.eng ∧
    s.lastFreeze.cyc.last = s.cyc.last := ⟨rfl, rfl, rfl, rfl, rfl⟩

theorem State.takeState_ready {s : State} (h : s.pairIs pReady = true) : s.takeState = (s.showTaken true).lastFreeze := by
  unfold State.takeState
  rw [h]
  rfl

theorem State.takeState_does {s : State} (h : s.pairIs pReady = true) : s.takeState.flag R.TWIN_STAT_DEGRADED = s.flag R.TWIN_STAT_LAGGING ∧
    s.takeState.flag R.TWIN_STAT_LAGGING = false ∧ s.takeState.pts = s.pts ∧ s.takeState.rfx = s.rfx ∧ s.takeState.eng = s.eng ∧
    s.takeState.cyc.last = s.cyc.last := by
  obtain ⟨hr, hp, hx, he, hc⟩ := State.lastFreeze_does (s.showTaken true)
  rw [State.takeState_ready h]
  refine ⟨?_, ?_, hp.trans ?_, hx.trans ?_, he.trans ?_, hc.trans ?_⟩
  · rw [State.flag_of_regs hr, State.showTaken, State.flag_wr_ne _ _ (by decide) (.inr (.inl (by decide))), State.flag_wr_same _ _ _ (by decide)]
    exact bnat_flag_bit _
  · rw [State.flag_of_regs hr, State.showTaken, State.flag_wr_same _ _ _ (by decide)]
    rfl
  · rw [State.showTaken, State.wr_pts, State.wr_pts]
  · rw [State.showTaken, State.wr_rfx, State.wr_rfx]
  · rw [State.showTaken, State.wr_eng, State.wr_eng]
  · rw [State.showTaken, State.wr_cyc, State.wr_cyc]

theorem State.mayTake_never {s : State} (c : TakeCause) (h : s.inSafe = true ∨ s.isStandby = false ∨ s.pairIs pMismatch = true) : s.mayTake c = false := by
  unfold State.mayTake
  rcases h with h | h | h <;> simp only [h, Bool.not_true, Bool.and_false, Bool.false_and]

theorem State.mayTake_switchover {s : State} (h : s.pairIs pReady = false ∨ s.flag R.TWIN_STAT_LAGGING = true) : s.mayTake .switchover = false := by
  unfold State.mayTake
  rcases h with h | h <;> simp only [h, Bool.not_true, Bool.and_false, Bool.false_and]

theorem State.mayTake_laneUp {s : State} (h : s.isUp 4 = true) : s.mayTake .lanesDown = false ∧ s.mayTake .slotMissing = false := by
  unfold State.mayTake
  simp only [h, Bool.not_true, Bool.and_false, Bool.false_and, and_self]

theorem State.mayTake_lanesDown {s : State} {i : Nat} (hs : s.isStandby = true) (hi : s.inSafe = false) (hm : s.pairIs pMismatch = false)
    (hu : s.isUp 4 = false) (hn : s.twin.near = [i]) : s.mayTake .lanesDown = !s.isUp i := by
  unfold State.mayTake
  simp only [hs, hi, hm, hu, hn, Bool.not_false, Bool.and_true, Bool.true_and, List.any_cons, List.any_nil, Bool.or_false,
    reduceCtorEq, if_false]

/-! ### Handing over and test pulses (R405, R409, R410) -/

/-- The active hands over at its next output deadline. -/
def State.offersSwitch (s : State) : State := ({ s with twin := { s.twin with handover := true } }).emit (.twin "switchover" [])

theorem State.startSwitch_ready {s : State} (ha : s.active = true) (hp : s.pairIs pReady = true) (hl : s.flag R.TWIN_STAT_LAGGING = false)
    (hr : s.twin.relinquish = false) : s.startSwitch = s.offersSwitch := if_pos ⟨ha, hp, Bool.eq_false_iff.mp hl, Bool.eq_false_iff.mp hr⟩

/-- The active's part of a handover is over. -/
def State.handed (s : State) : State :=
  { s with twin := { s.twin with relinquish := false, handover := false, out := 0, due := none, resync := false } }

theorem exec_relinquishConfirm {s : State} (h : s.active = true) : exec .relinquishConfirm s =
    .next (if s.twin.relinquish then (s.handed.becomeStandby pForming).safeRest else s.handed.becomeStandby pForming).settle := if_pos h

/-- The standby of the pair is in the safe state, or has left it. -/
def State.peerSafe (s : State) : State :=
  ({ s with twin := { s.twin with noticed := true, out := 0, due := none, resync := false } }).wr R.TWIN_STAT_PAIR pDetached

def State.peerBack (s : State) : State := ({ s with twin := { s.twin with noticed := false, resync := true } }).wr R.TWIN_STAT_PAIR pSyncing

theorem exec_twinSafeNotice_on {s : State} (ha : s.active = true) (hp : s.pairIs pReady = true) : exec (.twinSafeNotice true) s = .next s.peerSafe :=
  (if_neg (not_not.mpr ha)).trans (if_pos ⟨rfl, .inr hp⟩)

theorem exec_twinSafeNotice_off {s : State} (ha : s.active = true) (hn : s.twin.noticed = true) : exec (.twinSafeNotice false) s = .next s.peerBack :=
  (if_neg (not_not.mpr ha)).trans ((if_neg fun h => Bool.false_ne_true h.1).trans (if_pos ⟨Bool.false_ne_true, hn⟩))

/-- A test pulse is asked for. -/
def State.pulseAsk (s : State) : State := { s with twin := { s.twin with pulseAsked := some (s.rd R.TWIN_PULSE_POINT) } }

theorem State.askPulse_free {s : State} (ha : s.active = true) (hb : s.flag R.TWIN_PULSE_STAT_BUSY = false) :
    s.askPulse = s.pulseAsk.wr R.TWIN_PULSE_STAT_BUSY 1 := by
  refine if_neg ?_
  rintro (h | h)
  · exact Bool.eq_false_iff.mp hb h
  · exact h ha

/-- The standby's pulse of point `n`: the driver of its pin turns on. -/
def State.pulseAt (s : State) (n p x : Nat) : State :=
  ({ s with twin := { s.twin with pulse := some n } }).setPin p x { s.pin p x with applied := 1, driving := s.stageSound p x }

theorem exec_testPulse_peer {s : State} {n : Fin 65536} (hs : s.isStandby = true) (hp : s.pairIs pReady = true) (hk : (s.point n).bindKind = 3)
    (hx : (s.point n).bindByte 2 < 4) :
    exec (.testPulse (some n)) s = .next (s.pulseAt n ((s.point n).bindByte 1) ((s.point n).bindByte 2)) := if_pos ⟨hs, hp, hk, hx⟩

/-- No pulse is in progress. -/
def State.unpulsed (s : State) : State := { s with twin := { s.twin with pulse := none } }

/-- The active drives pin `x` of port `p` again. -/
def State.redrive (s : State) (p x : Nat) : State :=
  if s.takesLevel p x then s.setPin p x { s.pin p x with driving := s.mayDrive p x } else s

/-- What the registers show of a pulse of point `n` that has ended. -/
def State.showPulse (s : State) (n : Nat) (pass : Bool) : State :=
  ((s.wr R.TWIN_PULSE_STAT_RESULT (if pass then 1 else 2)).wr R.TWIN_PULSE_STAT_POINT n).wr R.TWIN_PULSE_STAT_BUSY 0

theorem State.redrive_twin (s : State) (p x : Nat) : (s.redrive p x).twin = s.twin := by
  unfold State.redrive
  split <;> rfl

theorem State.showPulse_does (s : State) (n : Nat) (pass : Bool) : (s.showPulse n pass).twin = s.twin ∧
    (s.showPulse n pass).flag R.TWIN_PULSE_STAT_BUSY = false ∧ (s.showPulse n pass).rd R.TWIN_PULSE_STAT_POINT = n % 2 ^ 16 ∧
    (s.showPulse n pass).rd R.TWIN_PULSE_STAT_RESULT = if pass then 1 else 2 := by
  unfold State.showPulse
  refine ⟨?_, (State.flag_wr_same _ _ _ (by decide)).trans rfl, ?_, ?_⟩
  · rw [State.wr_twin, State.wr_twin, State.wr_twin]
  · rw [State.rd_wr_ne _ _ (by decide) (.inr (.inl (by decide))), State.rd_wr_same _ _ _ (by decide)]
    rfl
  · rw [State.rd_wr_ne _ _ (by decide) (.inr (.inr (by decide))), State.rd_wr_ne _ _ (by decide) (.inr (.inr (by decide))), State.rd_wr_same _ _ _
      (by decide)]
    cases pass <;> rfl

theorem exec_testPulseEnd_active {s : State} {n : Nat} (pass : Bool) (hn : s.twin.pulse = some n) (ha : s.active = true) :
    exec (.testPulseEnd pass) s = .next ((s.unpulsed.redrive ((s.point n).bindByte 1) ((s.point n).bindByte 2)).showPulse n pass) := by
  show execTestPulseEnd pass s = _
  unfold execTestPulseEnd
  rw [hn]
  exact if_pos ha

theorem exec_testPulseEnd_standby {s : State} {n : Nat} (hn : s.twin.pulse = some n) (ha : s.active = false) :
    exec (.testPulseEnd false) s = .next ((s.unpulsed.pinOff ((s.point n).bindByte 1) ((s.point n).bindByte 2)).raise 43 .U) := by
  show execTestPulseEnd false s = _
  unfold execTestPulseEnd
  rw [hn]
  exact if_neg (Bool.eq_false_iff.mp ha)

/-! ### The obligation -/

/-- Settles O55: a twin pair forms, copies its state, takes over and hands over. -/
theorem twinPair : Obligations.TwinPair := by
  unfold Obligations.TwinPair
  refine ⟨?_, ?_, ?_, fun p s hp => s.becomeStandby_does hp, ?_, ?_, ?_, ?_, ?_, State.deltaInTime_does, ?_, ?_, ?_, ?_, ?_, ?_, ?_, ?_, ?_, ?_, ?_,
      ?_,
    State.takeRole_does, fun s h => State.takeState_does h, ?_, ?_, ?_, ?_, ?_, ?_, ?_, ?_, ?_, ?_, ?_⟩
  · intro d pa s he hr hu hd h
    obtain ⟨h1, h2⟩ := s.sendsDigest.leads_does
    exact ⟨s.sendsDigest.leads, exec_twinForm_leads he hr hu hd h, h1.trans rfl, h2⟩
  · intro d pa s he hr hu hd ha h
    exact ⟨s.sendsDigest.unwaiting, exec_twinForm_follows he hr hu hd ha h, rfl⟩
  · intro d pa s he hr hu hd ha
    exact ⟨s.sendsDigest.unwaiting.setRole 0 pMismatch, exec_twinForm_differs he hr hu hd ha, State.setRole_role _ _ _,
      State.pairIs_of (State.setRole_pair _ _ _), State.setRole_fld _ _ _⟩
  · intro s he hr hu h0 hp
    refine ⟨fun hf => (exec_formTimeout he hr hu h0 hp).trans (if_pos hf), fun hf => ⟨s.becomeStandby pDetached, ?_, rfl⟩⟩
    exact (exec_formTimeout he hr hu h0 hp).trans (if_neg (Bool.eq_false_iff.mp hf))
  · intro s hw hs hu hi
    exact ⟨s.unwaiting.setRole 1 pForming, if_pos ⟨hw, hs, Bool.eq_false_iff.mp hu, Bool.eq_false_iff.mp hi⟩, State.active_of
        (State.setRole_role _ _ _),
      State.pairIs_of (State.setRole_pair _ _ _), congrArg TwinSt.waitPeer (State.setRole_twin _ _ _), State.setRole_fld _ _ _,
          State.setRole_brg _ _ _⟩
  · intro s h
    refine if_neg ?_
    rintro ⟨hw, -, hu, hi⟩
    rcases h with h | h | h
    · exact hi h
    · exact hu h
    · exact Bool.eq_false_iff.mp h hw
  · intro s ha ho hl
    obtain ⟨m1, m2, m3⟩ := State.missWindow_does hl
    obtain ⟨h1, h2, h3, h4⟩ := s.missWindow.showLate_does
    exact ⟨s.missWindow.showLate, exec_deltaWindowExpiry ha ho hl, (congrArg TwinSt.lateNow h1).trans m1, h2, h3.trans (by rw [State.rd_of_regs m2]),
      h4.trans m3⟩
  · exact fun s ha hb => exec_deltaWindowExpiry_idle ha hb
  · intro s ha hp
    refine ⟨s.resyncDue.wr R.TWIN_STAT_PAIR pSyncing, congrArg Host.Outcome.next (State.startResync_ready ha hp), ?_, State.wr_pair_pairIs _
        (by decide), ?_, ?_⟩
    · rw [State.wr_twin]
      rfl
    · rw [State.wr_pts]
      rfl
    · rw [State.wr_fld]
      rfl
  · intro s ha
    have hn : ¬ s.active = true := Bool.eq_false_iff.mp ha
    exact ⟨congrArg Host.Outcome.next (if_neg fun h => hn h.1), congrArg Host.Outcome.next (if_neg fun h => hn h.1), if_neg hn⟩
  · intro d s hs hu hp ha hi
    exact (if_pos ⟨hs, hu, hp.symm⟩).trans (congrArg Host.Outcome.next (if_pos ⟨ha, hi⟩))
  · intro d s hs hu hp ha
    exact ⟨{ s with twin := { s.twin with inbox := s.twin.inbox ++ [d] }, sw := { s.sw with held := s.sw.held ++ [deltaFrame d] } },
      (if_pos ⟨hs, hu, hp.symm⟩).trans (congrArg Host.Outcome.next (if_neg fun h => Bool.eq_false_iff.mp ha h.1)), rfl, rfl, rfl, rfl⟩
  · intro k s ha hu hp ho hr
    rw [State.sendDelta_starts k ha hu hp ho hr]
    exact (s.deltaDue k).startSend_does rfl
  · exact fun k s ha ho ht => State.sendDelta_waits k ha ho ht
  · intro x s
    exact ⟨congrArg Point.value (State.setPoint_point _ _ _), congrArg Point.ts (State.setPoint_point _ _ _),
      congrArg Point.quality (State.setPoint_point _ _ _), fun m hm => State.setPoint_point_ne _ _ _ hm, State.setPoint_regs _ _ _⟩
  · intro d s h
    refine if_neg ?_
    rintro ⟨hs, hu, -⟩
    rcases h with h | h
    · exact Bool.eq_false_iff.mp h hs
    · exact Bool.eq_false_iff.mp h hu
  · exact fun c s h => if_pos h
  · exact fun c s h => if_neg (Bool.eq_false_iff.mp (State.mayTake_never c h))
  · exact fun s => ⟨State.mayTake_switchover, State.mayTake_laneUp⟩
  · exact fun i s hs hi hm hu hn => State.mayTake_lanesDown hs hi hm hu hn
  · intro s ha hp hl hr
    exact ⟨s.offersSwitch, congrArg Host.Outcome.next (State.startSwitch_ready ha hp hl hr), rfl, rfl, rfl⟩
  · exact fun s ha => ⟨s.handed, exec_relinquishConfirm ha, rfl, rfl, rfl, rfl, rfl⟩
  · exact fun s h => ⟨{ s with twin := { s.twin with relinquish := false } }, if_pos h, rfl, rfl, rfl⟩
  · exact fun s h => if_neg (Bool.eq_false_iff.mp h)
  · intro s ha hp
    refine ⟨s.peerSafe, exec_twinSafeNotice_on ha hp, State.wr_pair_pairIs _ (by decide), ?_, (State.wr_pair_active _ _).trans ha, State.wr_pts _ _ _⟩
    exact congrArg TwinSt.noticed (State.wr_twin _ _ _)
  · intro s ha hn
    have ht : s.peerBack.twin = _ := State.wr_twin _ _ _
    exact ⟨s.peerBack, exec_twinSafeNotice_off ha hn, State.wr_pair_pairIs _ (by decide), congrArg TwinSt.noticed ht, congrArg TwinSt.resync ht⟩
  · intro s ha hb
    exact ⟨s.pulseAsk.wr R.TWIN_PULSE_STAT_BUSY 1, congrArg Host.Outcome.next (State.askPulse_free ha hb),
      congrArg TwinSt.pulseAsked (State.wr_twin _ _ _), (State.flag_wr_same _ _ _ (by decide)).trans rfl,
      State.rd_wr_ne _ _ (by decide) (.inr (.inl (by decide)))⟩
  · intro n s hs hp hk hx
    exact ⟨s.pulseAt n _ _, exec_testPulse_peer hs hp hk hx, rfl, State.setPin_pin _ _ _ _, State.setPin_regs _ _ _ _⟩
  · intro n pass s hn ha
    obtain ⟨h1, h2, h3, h4⟩ := (s.unpulsed.redrive ((s.point n).bindByte 1) ((s.point n).bindByte 2)).showPulse_does n pass
    exact ⟨_, exec_testPulseEnd_active pass hn ha, (congrArg TwinSt.pulse (h1.trans (State.redrive_twin _ _ _))).trans rfl, h2, h3, h4⟩
  · intro n s hn ha
    exact ⟨s.unpulsed.pinOff ((s.point n).bindByte 1) ((s.point n).bindByte 2), exec_testPulseEnd_standby hn ha, rfl,
      congrArg Pin.driving (State.setPin_pin _ _ _ _), State.setPin_regs _ _ _ _⟩
  · intro pass s hn
    show execTestPulseEnd pass s = _
    unfold execTestPulseEnd
    rw [hn]

end Sys2Proof.Machine
end

section
/-!
PROOFS. What the field buses receive, and how their controllers recover (chapter 10).
-/
namespace Sys2Proof.Machine

/-! ### What the wiring of the pairs depends on -/

/-- `t` has the set-up of `s`: the words of the field ports, of the controllers' settings and of the message objects are those of `s`. What the
controllers show may differ. -/
def Wired (s t : State) : Prop :=
  (∀ o, o < 0xe0200 ∨ (0xe0400 ≤ o ∧ o < 0xe0500) ∨ (0xe0800 ≤ o ∧ o < 0xe0c00) ∨ 0xe1900 ≤ o → t.word o = s.word o) ∧ t.pwr = s.pwr

theorem Wired.rd {s t : State} (h : Wired s t) {f : Fld}
    (k : f.off < 0xe0200 ∨ (0xe0400 ≤ f.off ∧ f.off < 0xe0500) ∨ (0xe0800 ≤ f.off ∧ f.off < 0xe0c00) ∨ 0xe1900 ≤ f.off) : t.rd f = s.rd f :=
  State.rd_of_word (h.1 _ k)

theorem Wired.flag {s t : State} (h : Wired s t) {f : Fld}
    (k : f.off < 0xe0200 ∨ (0xe0400 ≤ f.off ∧ f.off < 0xe0500) ∨ (0xe0800 ≤ f.off ∧ f.off < 0xe0c00) ∨ 0xe1900 ≤ f.off) : t.flag f = s.flag f := by
  unfold State.flag
  rw [h.rd k]

theorem Wired.standby {s t : State} (h : Wired s t) : t.standby = s.standby := by
  unfold State.standby
  rw [h.rd (f := R.TWIN_STAT_ROLE) (by decide), h.rd (f := R.TWIN_STAT_PAIR) (by decide)]

theorem Wired.ready {s t : State} (h : Wired s t) : t.ready = s.ready := by
  unfold State.ready
  rw [h.flag (f := R.ID_STATE_READY) (by decide), h.2]

section
variable {s t : State} (h : Wired s t) {p : Nat} (hp : p < 64)
include h hp

theorem Wired.fnRaw (x : Nat) : t.fnRaw p x = s.fnRaw p x :=
  h.rd (.inl (by show 0xC0000 + 0x400 * p < 0xe0200; omega))

theorem Wired.pairFld (i lo w : Nat) : t.rd (pairFld p i lo w) = s.rd (pairFld p i lo w) :=
  h.rd (.inl (by show 0xC0004 + 0x400 * p < 0xe0200; omega))

theorem Wired.pairKind (i : Nat) : t.pairKind p i = s.pairKind p i := h.pairFld hp ..

theorem Wired.pairIdx (i : Nat) : t.pairIdx p i = s.pairIdx p i := h.pairFld hp ..

theorem Wired.pairMode (i : Nat) : t.pairMode p i = s.pairMode p i := by
  unfold State.pairMode
  rw [h.pairFld hp]

theorem Wired.bothPair (i : Nat) : t.bothPair p i = s.bothPair p i := by
  unfold State.bothPair
  rw [h.fnRaw hp, h.fnRaw hp]

theorem Wired.rs422 : t.rs422 p = s.rs422 p := by
  unfold State.rs422
  rw [h.bothPair hp, h.bothPair hp, h.pairMode hp]

theorem Wired.pairBase (i : Nat) : t.pairBase p i = s.pairBase p i := by
  unfold State.pairBase
  rw [h.pairMode hp, h.pairKind hp, h.pairIdx hp, h.bothPair hp, h.rs422 hp, h.bothPair hp]

omit hp in
theorem Wired.pairOf (k x : Nat) : t.pairOf k x = s.pairOf k x := by
  unfold State.pairOf
  refine List.find?_congr fun q hq => ?_
  have hq : q / 2 < 64 := by
    have := List.mem_range.mp hq
    omega
  rw [h.pairKind hq, h.pairIdx hq, h.pairBase hq]

theorem Wired.pairRouted (i : Nat) : t.pairRouted p i = s.pairRouted p i := by
  unfold State.pairRouted
  rw [h.pairBase hp, h.pairKind hp, h.pairIdx hp, h.pairOf]

theorem Wired.pairOn (i : Nat) : t.pairOn p i = s.pairOn p i := by
  unfold State.pairOn
  rw [h.pairRouted hp, h.rd (f := R.PORT_STAT_REFUSED_PAIR p) (.inl (by show 0xc0060 + 0x400 * p < 0xe0200; omega))]

theorem Wired.fnBase (x : Nat) : t.fnBase p x = s.fnBase p x := by
  unfold State.fnBase
  simp only [h.fnRaw hp, h.bothPair hp, h.pairMode hp, h.pairRouted hp, h.rs422 hp]

theorem Wired.fnLoad (x : Nat) : t.fnLoad p x = s.fnLoad p x := by
  unfold State.fnLoad State.iolPair
  rw [h.fnBase hp, h.fnBase hp, h.rd (f := R.PORT_FN_FP_MODE p) (.inl (by show 0xc0000 + 0x400 * p < 0xe0200; omega))]

theorem Wired.fn (x : Nat) : t.fn p x = s.fn p x := by
  unfold State.fn
  rw [h.fnLoad hp, h.ready, h.rd (f := R.PORT_STAT_REFUSED p) (.inl (by show 0xc0060 + 0x400 * p < 0xe0200; omega)),
    h.rd (f := R.PORT_STAT_REFUSED_PAIR p) (.inl (by show 0xc0060 + 0x400 * p < 0xe0200; omega))]

theorem Wired.pairCtl (i : Nat) : t.pairCtl p i = s.pairCtl p i := by
  unfold State.pairCtl
  rw [h.pairKind hp, h.fn hp, h.pairOn hp, h.pairIdx hp]

end

theorem State.pairOf_lt {s : State} {k x q : Nat} (h : s.pairOf k x = some q) : q < 128 :=
  List.mem_range.mp (List.mem_of_find?_eq_some h)

theorem Wired.ctlPlace {s t : State} (h : Wired s t) {k : Nat} (hk : k ≠ cIol) (i : Nat) : t.ctlPlace k i = s.ctlPlace k i := by
  unfold State.ctlPlace
  rw [if_neg hk, if_neg hk, h.pairOf]
  cases hq : s.pairOf k i with
  | none => rfl
  | some q =>
    have := State.pairOf_lt hq
    show (if t.pairCtl (q / 2) (q % 2) = _ then _ else _) = _
    rw [h.pairCtl (by omega)]

/-- A routed controller runs at a pair of a field port. -/
theorem State.ctlPlace_lt {s : State} {k i p x : Nat} (hk : k ≠ cIol) (h : s.ctlPlace k i = some (p, x)) : p < 64 ∧ x < 2 := by
  unfold State.ctlPlace at h
  rw [if_neg hk] at h
  cases hq : s.pairOf k i with
  | none =>
    rw [hq] at h
    cases h
  | some q =>
    rw [hq] at h
    have := State.pairOf_lt hq
    dsimp only at h
    split at h
    · obtain ⟨rfl, rfl⟩ : q / 2 = p ∧ q % 2 = x := by simpa using h
      omega
    · cases h

/-! ### The settings of a controller and its message objects -/

theorem Wired.ctlOn {s t : State} (h : Wired s t) {k i : Nat} (hk : k ≠ cIol) (he : t.ctlEn k i = s.ctlEn k i) : t.ctlOn k i = s.ctlOn k i := by
  unfold State.ctlOn
  rw [he, h.ctlPlace hk]
  simp only [hk, false_implies]

section
variable {s t : State} (h : Wired s t) {i : Nat}
include h

theorem Wired.canCfg {lo w : Nat} (hi : i < 32) : t.rd ⟨0xe0000 + 0x10 * i, lo, w⟩ = s.rd ⟨0xe0000 + 0x10 * i, lo, w⟩ :=
  h.rd (.inl (by show 0xe0000 + 0x10 * i < 0xe0200; omega))

theorem Wired.speCfg {lo w : Nat} (hi : i < 16) : t.rd ⟨0xe0400 + 0x10 * i, lo, w⟩ = s.rd ⟨0xe0400 + 0x10 * i, lo, w⟩ :=
  h.rd (.inr (.inl ⟨by show 0xe0400 ≤ 0xe0400 + 0x10 * i; omega, by show 0xe0400 + 0x10 * i < 0xe0500; omega⟩))

theorem Wired.canFlag {lo w : Nat} (hi : i < 32) : t.flag ⟨0xe0000 + 0x10 * i, lo, w⟩ = s.flag ⟨0xe0000 + 0x10 * i, lo, w⟩ := by
  unfold State.flag
  rw [h.canCfg hi]

theorem Wired.speFlag {lo w : Nat} (hi : i < 16) : t.flag ⟨0xe0400 + 0x10 * i, lo, w⟩ = s.flag ⟨0xe0400 + 0x10 * i, lo, w⟩ := by
  unfold State.flag
  rw [h.speCfg hi]

theorem Wired.objWord (m j : Nat) (lo w : Nat) : t.rd ⟨0xe8000 + j + 0x10 * m, lo, w⟩ = s.rd ⟨0xe8000 + j + 0x10 * m, lo, w⟩ :=
  h.rd (.inr (.inr (.inr (by show 0xe1900 ≤ 0xe8000 + j + 0x10 * m; omega))))

theorem Wired.objFlag (m j : Nat) (lo w : Nat) : t.flag ⟨0xe8000 + j + 0x10 * m, lo, w⟩ = s.flag ⟨0xe8000 + j + 0x10 * m, lo, w⟩ := by
  unfold State.flag
  rw [h.objWord]

/-- The objects of a controller whose settings are as before. -/
theorem Wired.mobjs {k : Nat} (hk : k ≠ cIol) (he : t.ctlEn k i = s.ctlEn k i) (hr : t.ctlRaw k i = s.ctlRaw k i) (dir : Bool) :
    t.mobjs k i dir = s.mobjs k i dir := by
  have hv (m : Nat) : t.flag (R.PCTL_MOBJ_VALID m) = s.flag (R.PCTL_MOBJ_VALID m) := h.objFlag m 0 _ _
  have hd (m : Nat) : t.flag (R.PCTL_MOBJ_DIR m) = s.flag (R.PCTL_MOBJ_DIR m) := h.objFlag m 0 _ _
  have hn (m : Nat) : t.rd (R.PCTL_MOBJ_KIND m) = s.rd (R.PCTL_MOBJ_KIND m) := h.objWord m 0 _ _
  have hx (m : Nat) : t.rd (R.PCTL_MOBJ_IDX m) = s.rd (R.PCTL_MOBJ_IDX m) := h.objWord m 0 _ _
  unfold State.mobjs State.mobjOn
  simp only [hv, hd, hn, hx, h.ctlOn hk he, hr]

theorem Wired.objMatch (m : Nat) : t.rd (R.PCTL_MOBJ_MATCH m) = s.rd (R.PCTL_MOBJ_MATCH m) := h.objWord m 4 _ _

theorem Wired.canRaw (hi : i < 32) : t.ctlRaw cCan i = s.ctlRaw cCan i := h.canFlag hi

theorem Wired.speRaw (hi : i < 16) : t.ctlRaw cSpe i = s.ctlRaw cSpe i := h.speFlag hi

theorem Wired.canEn (hi : i < 32) : t.ctlEn cCan i = s.ctlEn cCan i := h.canFlag hi

theorem Wired.speEn (hi : i < 16) : t.ctlEn cSpe i = s.ctlEn cSpe i := h.speFlag hi

theorem Wired.canMatch (hi : i < 32) (item : List Byte) : t.canMatch i item = s.canMatch i item := by
  have hf : t.canFlags i = s.canFlags i := by
    unfold State.canFlags
    rw [show t.rd (R.PCTL_CAN_CFG_FRAMES i) = s.rd (R.PCTL_CAN_CFG_FRAMES i) from h.canCfg hi]
  have ho : t.mobjs cCan i false = s.mobjs cCan i false := h.mobjs (by decide) (h.canEn hi) (h.canRaw hi) false
  unfold State.canMatch
  simp only [h.objMatch, hf, ho]

theorem Wired.speMatch (hi : i < 16) (b : List Byte) : t.speMatch i b = s.speMatch i b := by
  have ho : t.mobjs cSpe i false = s.mobjs cSpe i false := h.mobjs (by decide) (h.speEn hi) (h.speRaw hi) false
  unfold State.speMatch
  simp only [h.objMatch, ho]

end

/-! ### The time that a frame's end leaves -/

theorem State.setCond_now (s : State) (n reason : Nat) (on : Bool) : (s.setCond n reason on).now = s.now := (rfl)

theorem State.condTable_now (s : State) (t reason : Nat) (on : Bool) : (s.condTable t reason on).now = s.now := by
  unfold State.condTable
  exact (Quiet.foldl (g := State.now) _ (fun u n => State.setCond_now u n reason on) _ _).trans rfl

theorem State.decodeFrame_now (s : State) (t : Nat) (b : List Byte) : (s.decodeFrame t b).now = s.now := by
  unfold State.decodeFrame
  refine (Quiet.foldl (g := State.now) _ (fun u n => ?_) _ _).trans (State.condTable_now _ _ _ _)
  split
  · rfl
  split
  · rfl
  dsimp only
  split
  · rfl
  · exact State.setPoint_now _ _ _

theorem State.objectTakes_now (s : State) (m : Nat) (b : List Byte) : (s.objectTakes m b).now = s.now :=
  (State.decodeFrame_now _ _ _).trans rfl

theorem State.rawIn_now (s : State) (p : Nat) (item : List Byte) : (s.rawIn p item).now = s.now := by
  unfold State.rawIn
  split
  · rfl
  split
  · exact State.inc_now _ _ _
  split
  · exact congrArg Deep.now (State.finish_deep _ _ _ _)
  split
  · exact State.inc_now _ _ _
  · rfl

/-! ### What a good frame shows -/

theorem State.recognise_word (s : State) (p i v : Nat) {o : Nat} (h : o ≠ 0xe1800 + 0x4 * p) : (s.recognise p i v).word o = s.word o := by
  unfold State.recognise
  split <;> exact State.word_wr_ne _ _ _ h

theorem State.recognise_shows (s : State) (p i : Nat) {v : Nat} (h : v < 16) :
    (s.recognise p i v).rd (if i = 0 then R.PCTL_PORT_BUS0 p else R.PCTL_PORT_BUS1 p) = v := by
  unfold State.recognise
  split
  · exact (State.rd_wr_same _ _ _ (by show 8 + 4 ≤ 32; decide)).trans (Nat.mod_eq_of_lt h)
  · exact (State.rd_wr_same _ _ _ (by show 12 + 4 ≤ 32; decide)).trans (Nat.mod_eq_of_lt h)

theorem State.recognise_beside (s : State) (p i v : Nat) : (s.recognise p i v).pctl = s.pctl ∧ (s.recognise p i v).brg = s.brg ∧
    (s.recognise p i v).sw = s.sw ∧ (s.recognise p i v).pwr = s.pwr := by
  unfold State.recognise
  exact ⟨State.wr_pctl _ _ _, State.wr_brg _ _ _, State.wr_sw _ _ _, State.wr_pwr _ _ _⟩

theorem Wired.recognise (s : State) {p : Nat} (hp : p < 64) (i v : Nat) : Wired s (s.recognise p i v) :=
  ⟨fun _ ho => State.recognise_word s p i v (by omega), (State.recognise_beside s p i v).2.2.2⟩

theorem Wired.trans {s t u : State} (h : Wired s t) (k : Wired t u) : Wired s u := ⟨fun o ho => (k.1 o ho).trans (h.1 o ho), k.2.trans h.2⟩

theorem Wired.of_regs {s t : State} (h : t.regs = s.regs) (k : t.pwr = s.pwr) : Wired s t := ⟨fun _ _ => State.word_of_regs h _, k⟩

/-- A CAN controller searches for its rate as its own registers show it. -/
theorem State.searching_can {s t : State} {i : Nat} (hc : t.rd (R.PCTL_CAN_CFG_AUTO i) = s.rd (R.PCTL_CAN_CFG_AUTO i))
    (hd : t.rd (R.PCTL_CAN_STAT_NBR_DET i) = s.rd (R.PCTL_CAN_STAT_NBR_DET i)) : t.searching cCan i = s.searching cCan i := by
  unfold State.searching State.flag
  rw [if_pos rfl, if_pos rfl, hc, hd]

theorem State.autoHit_idle {s : State} {k i : Nat} (n need : Nat) (h : s.searching k i = false) : s.autoHit k i n need = s := if_pos
  (Bool.eq_false_iff.mp h)

theorem State.autoData_does (s : State) (i : Nat) (item : List Byte) : (s.autoData i item).regs = s.regs ∧ (s.autoData i item).brg = s.brg ∧
    (s.autoData i item).pwr = s.pwr ∧ (s.autoData i item).pctl = { s.pctl with dbr := (s.autoData i item).pctl.dbr } := by
  unfold State.autoData
  split
  · exact ⟨rfl, rfl, rfl, rfl⟩
  · exact ⟨rfl, rfl, rfl, rfl⟩

theorem State.autoData_fixed {s : State} {i : Nat} (item : List Byte) (h : s.flag (R.PCTL_CAN_CFG_AUTO i) = false) : s.autoData i item = s :=
  if_pos (.inl (Bool.eq_false_iff.mp h))

theorem State.canState_of {s t : State} {i : Nat} (hw : Wired s t) (hi : i < 32)
    (hd : t.rd (R.PCTL_CAN_STAT_NBR_DET i) = s.rd (R.PCTL_CAN_STAT_NBR_DET i)) (tec rec : Nat) : t.canState i tec rec = s.canState i tec rec := by
  unfold State.canState
  rw [State.searching_can (hw.canCfg hi) hd, show t.flag (R.PCTL_CAN_CFG_LISTEN i) = s.flag (R.PCTL_CAN_CFG_LISTEN i) from hw.canFlag hi, hw.standby]

/-! ### The counters of a CAN controller -/

section
variable (s : State) (i tec rec : Nat)

theorem State.canCounters_word {o : Nat} (h : o ≠ 0xe0200 + 0x8 * i) : (s.canCounters i tec rec).word o = s.word o :=
  (State.word_wr_ne _ _ _ h).trans ((State.word_wr_ne _ _ _ h).trans (State.word_wr_ne _ _ _ h))

theorem State.canCounters_err : (s.canCounters i tec rec).rd (R.PCTL_CAN_STAT_ERR i) = s.rd (R.PCTL_CAN_STAT_ERR i) := by
  unfold State.canCounters
  rw [State.rd_wr_ne _ _ (by show 14 + 2 ≤ 32; decide) (.inr (.inl (by show 0 + 14 ≤ 14; decide))),
    State.rd_wr_ne _ _ (by show 16 + 8 ≤ 32; decide) (.inr (.inl (by show 0 + 14 ≤ 16; decide))),
    State.rd_wr_ne _ _ (by show 24 + 8 ≤ 32; decide) (.inr (.inl (by show 0 + 14 ≤ 24; decide)))]

theorem State.canCounters_tec : (s.canCounters i tec rec).rd (R.PCTL_CAN_STAT_TEC i) = min 255 tec := by
  unfold State.canCounters
  rw [State.rd_wr_ne _ _ (by show 14 + 2 ≤ 32; decide) (.inr (.inr (by show 14 + 2 ≤ 24; decide))),
    State.rd_wr_ne _ _ (by show 16 + 8 ≤ 32; decide) (.inr (.inr (by show 16 + 8 ≤ 24; decide))),
    State.rd_wr_same _ _ _ (by show 24 + 8 ≤ 32; decide)]
  exact Nat.mod_eq_of_lt (by show _ < 256; omega)

theorem State.canCounters_rec : (s.canCounters i tec rec).rd (R.PCTL_CAN_STAT_REC i) = min 255 rec := by
  unfold State.canCounters
  rw [State.rd_wr_ne _ _ (by show 14 + 2 ≤ 32; decide) (.inr (.inr (by show 14 + 2 ≤ 16; decide))),
    State.rd_wr_same _ _ _ (by show 16 + 8 ≤ 32; decide)]
  exact Nat.mod_eq_of_lt (by show _ < 256; omega)

theorem State.canState_lt : s.canState i tec rec < 4 := by
  unfold State.canState
  split
  · decide
  split <;> decide

theorem State.canCounters_state : (s.canCounters i tec rec).rd (R.PCTL_CAN_STAT_STATE i) = s.canState i tec rec := by
  unfold State.canCounters
  rw [State.rd_wr_same _ _ _ (by show 14 + 2 ≤ 32; decide)]
  exact Nat.mod_eq_of_lt (State.canState_lt s i tec rec)

theorem State.canCounters_beside : (s.canCounters i tec rec).pctl = s.pctl ∧ (s.canCounters i tec rec).brg = s.brg ∧
    (s.canCounters i tec rec).pts = s.pts ∧ (s.canCounters i tec rec).sw = s.sw ∧ (s.canCounters i tec rec).pwr = s.pwr := by
  unfold State.canCounters
  refine ⟨?_, ?_, ?_, ?_, ?_⟩
  · simp only [State.wr_pctl]
  · simp only [State.wr_brg]
  · simp only [State.wr_pts]
  · simp only [State.wr_sw]
  · simp only [State.wr_pwr]

variable {s i} in
theorem Wired.canCounters (hi : i < 32) : Wired s (s.canCounters i tec rec) :=
  ⟨fun _ ho => State.canCounters_word s i tec rec (by omega), (State.canCounters_beside s i tec rec).2.2.2.2⟩

end

theorem State.searching_recognise {s : State} {i p : Nat} (hi : i < 32) (hp : p < 64) (x v : Nat) :
    (s.recognise p x v).searching cCan i = s.searching cCan i :=
  State.searching_can ((Wired.recognise s hp x v).canCfg hi)
    (State.rd_of_word (State.recognise_word s p x v (by show 0xe0204 + 0x8 * i ≠ 0xe1800 + 0x4 * p; omega)))

/-- What a good frame shows at the controller and at its pair, before it is taken. -/
def State.canHears (s : State) (i p x tec rec : Nat) (item : List Byte) : State := ((s.recognise p x 2).autoData i item).canCounters i tec rec

theorem State.canHears_does {s : State} {i p : Nat} (hi : i < 32) (hp : p < 64) (x tec rec : Nat) (item : List Byte) :
    (s.canHears i p x tec rec item).rd (R.PCTL_CAN_STAT_TEC i) = min 255 tec ∧ (s.canHears i p x tec rec item).rd
        (R.PCTL_CAN_STAT_REC i) = min 255 rec ∧
    (s.canHears i p x tec rec item).rd (R.PCTL_CAN_STAT_STATE i) = s.canState i tec rec ∧
    (s.canHears i p x tec rec item).pctl = { s.pctl with dbr := (s.canHears i p x tec rec item).pctl.dbr } ∧
    (s.flag (R.PCTL_CAN_CFG_AUTO i) = false → (s.canHears i p x tec rec item).pctl = s.pctl) ∧ (s.canHears i p x tec rec item).brg = s.brg ∧
    Wired s (s.canHears i p x tec rec item) := by
  obtain ⟨pc, pb, -, -⟩ := s.recognise_beside p x 2
  obtain ⟨ar, ab, aw, ac⟩ := (s.recognise p x 2).autoData_does i item
  obtain ⟨cc, cb, -, -, -⟩ := ((s.recognise p x 2).autoData i item).canCounters_beside i tec rec
  have hw : Wired s ((s.recognise p x 2).autoData i item) := (Wired.recognise s hp x 2).trans (.of_regs ar aw)
  have hd : ((s.recognise p x 2).autoData i item).rd (R.PCTL_CAN_STAT_NBR_DET i) = s.rd (R.PCTL_CAN_STAT_NBR_DET i) :=
    (State.rd_of_regs ar _).trans (State.rd_of_word (State.recognise_word s p x 2 (by show 0xe0204 + 0x8 * i ≠ 0xe1800 + 0x4 * p; omega)))
  refine ⟨State.canCounters_tec .., State.canCounters_rec .., (State.canCounters_state ..).trans (State.canState_of hw hi hd tec rec), ?_,
      fun h => ?_,
    cb.trans (ab.trans pb), hw.trans (.canCounters tec rec hi)⟩
  · rw [State.canHears, cc, ac, pc]
  · have hf : (s.recognise p x 2).flag (R.PCTL_CAN_CFG_AUTO i) = false := ((Wired.recognise s hp x 2).canFlag hi).trans h
    rw [State.canHears, cc, State.autoData_fixed item hf, pc]

/-- A frame that its controller has taken, or not, is offered to the tunnels. -/
def State.offered (s : State) (kind p x ago : Nat) (item : List Byte) : State := (s.tunnelIn kind (some (p, x)) (s.now - ago) item).settle

section
variable {i : Fin 32} {p x tec rec : Nat} {f : BusFrame} {s : State} (hp : s.ctlPlace cCan i = some (p, x)) (ho : s.ctlOn cCan i = true)
  (hb : s.rd (R.PCTL_CAN_STAT_STATE i) ≠ 2) (hs : s.searching cCan i = false)
include hp ho hb hs

/-- A CAN controller in host-assisted mode hears a good frame. -/
theorem exec_canFrameReceive_raw (hr : s.ctlRaw cCan i = true) : exec (.canFrameReceive i f true tec rec) s =
    .next (((s.canHears i p x tec rec (withPair f.bytes x)).rawIn p (withPair f.bytes x)).offered 1 p x f.ago (withPair f.bytes x)) := by
  obtain ⟨hp64, -⟩ := State.ctlPlace_lt (by decide) hp
  obtain ⟨-, -, -, -, -, -, hw⟩ := State.canHears_does (s := s) i.isLt hp64 x tec rec (withPair f.bytes x)
  have hq : (s.recognise p x 2).searching cCan i = false := (State.searching_recognise i.isLt hp64 x 2).trans hs
  show execCanFrameReceive i f true tec rec s = _
  unfold execCanFrameReceive
  rw [hp]
  dsimp only
  rw [if_neg (fun h => h.elim (fun h => h ho) hb), if_neg (not_not.mpr rfl), State.autoHit_idle 1 2 hq, ← State.canHears,
    if_pos ((hw.canRaw i.isLt).trans hr)]
  unfold State.offered
  rfl

/-- One in hardware mode, with an object that matches it. -/
theorem exec_canFrameReceive_object {m : Nat} (hr : s.ctlRaw cCan i = false) (hm : s.canMatch i (withPair f.bytes x) = some m) :
    exec (.canFrameReceive i f true tec rec) s = .next (((s.canHears i p x tec rec (withPair f.bytes x)).objectTakes m
      ((withPair f.bytes x).drop 16)).offered 1 p x f.ago (withPair f.bytes x)) := by
  obtain ⟨hp64, -⟩ := State.ctlPlace_lt (by decide) hp
  obtain ⟨-, -, -, -, -, -, hw⟩ := State.canHears_does (s := s) i.isLt hp64 x tec rec (withPair f.bytes x)
  have hq : (s.recognise p x 2).searching cCan i = false := (State.searching_recognise i.isLt hp64 x 2).trans hs
  show execCanFrameReceive i f true tec rec s = _
  unfold execCanFrameReceive
  rw [hp]
  dsimp only
  rw [if_neg (fun h => h.elim (fun h => h ho) hb), if_neg (not_not.mpr rfl), State.autoHit_idle 1 2 hq, ← State.canHears,
    if_neg (Bool.eq_false_iff.mp ((hw.canRaw i.isLt).trans hr)), (hw.canMatch i.isLt _).trans hm]
  unfold State.offered
  rfl

end

section
variable {i : Fin 16} {p x : Nat} {f : BusFrame} {s : State} (hp : s.ctlPlace cSpe i = some (p, x)) (ho : s.ctlOn cSpe i = true)
  (ha : s.speAccepts i f.bytes = true)
include hp ho ha

/-- An SPE controller in host-assisted mode hears a good frame that is for it. -/
theorem exec_speFrameReceive_raw (hr : s.ctlRaw cSpe i = true) : exec (.speFrameReceive i f true) s =
    .next (((s.recognise p x 4).rawIn p (ethItem x f.bytes)).offered 2 p x f.ago (ethItem x f.bytes)) := by
  obtain ⟨hp64, -⟩ := State.ctlPlace_lt (by decide) hp
  have hw := Wired.recognise s hp64 x 4
  show execSpeFrameReceive i f true s = _
  unfold execSpeFrameReceive
  dsimp only
  rw [hp]
  dsimp only
  rw [if_neg (not_not.mpr ho), if_neg (not_not.mpr rfl), if_neg (not_not.mpr ha), if_pos ((hw.speRaw i.isLt).trans hr)]
  unfold State.offered
  rfl

/-- One in hardware mode, with an object that matches it. -/
theorem exec_speFrameReceive_object {m : Nat} (hr : s.ctlRaw cSpe i = false) (hm : s.speMatch i f.bytes = some m) : exec
  (.speFrameReceive i f true) s =
    .next (((s.recognise p x 4).objectTakes m (etherPayload f.bytes)).offered 2 p x f.ago (ethItem x f.bytes)) := by
  obtain ⟨hp64, -⟩ := State.ctlPlace_lt (by decide) hp
  have hw := Wired.recognise s hp64 x 4
  show execSpeFrameReceive i f true s = _
  unfold execSpeFrameReceive
  dsimp only
  rw [hp]
  dsimp only
  rw [if_neg (not_not.mpr ho), if_neg (not_not.mpr rfl), if_neg (not_not.mpr ha), if_neg (Bool.eq_false_iff.mp ((hw.speRaw i.isLt).trans hr)),
    (hw.speMatch i.isLt _).trans hm]
  unfold State.offered
  rfl

end

/-- The frame is offered at the instant of its start, which taking it leaves. -/
theorem State.offered_of {s t : State} (h : t.now = s.now) (kind p x ago : Nat) (item : List Byte) :
    t.offered kind p x ago item = (t.tunnelIn kind (some (p, x)) (s.now - ago) item).settle := by
  unfold State.offered
  rw [h]

/-! ### Bus-off and its end -/

/-- A CAN controller that hears an error. -/
def State.canHurt (s : State) (i tec rec : Nat) : State :=
  ((s.setAuto (ctlKey cCan i) ((s.autoOf (ctlKey cCan i)).1, 0)).canCounters i tec rec).inc (R.PCTL_CAN_STAT_ERR i)

theorem State.setAuto_autoOf (s : State) (c : Nat) (x : Nat × Nat) : (s.setAuto c x).autoOf c = x := NMap.get_set_same _ _ _ _

theorem State.canHurt_does (s : State) (i tec rec : Nat) : (s.canHurt i tec rec).rd (R.PCTL_CAN_STAT_ERR i) = satAdd 14 (s.rd
  (R.PCTL_CAN_STAT_ERR i)) 1 ∧
    (s.canHurt i tec rec).rd (R.PCTL_CAN_STAT_TEC i) = min 255 tec ∧
    (s.canHurt i tec rec).autoOf (ctlKey cCan i) = ((s.autoOf (ctlKey cCan i)).1, 0) ∧ (s.canHurt i tec rec).pts = s.pts ∧
    (s.canHurt i tec rec).brg = s.brg ∧ (s.canHurt i tec rec).sw = s.sw := by
  obtain ⟨cc, cb, cp, cs, -⟩ := (s.setAuto (ctlKey cCan i) ((s.autoOf (ctlKey cCan i)).1, 0)).canCounters_beside i tec rec
  refine ⟨?_, ?_, ?_, (State.inc_pts _ _ _).trans cp, (State.inc_brg _ _ _).trans cb, (State.inc_sw _ _ _).trans cs⟩
  · rw [State.canHurt, State.rd_inc_same _ _ _ (by show 0 + 14 ≤ 32; decide), State.canCounters_err]
    rfl
  · rw [State.canHurt, State.rd_inc_ne _ _ (by show 0 + 14 ≤ 32; decide) (.inr (.inr (by show 0 + 14 ≤ 24; decide))), State.canCounters_tec]
  · unfold State.autoOf
    rw [State.canHurt, State.inc_pctl, cc]
    exact State.setAuto_autoOf s _ _

/-- A CAN controller that leaves its bus. -/
def State.canLeaves (s : State) (i : Nat) : State :=
  ((s.wr (R.PCTL_CAN_STAT_STATE i) 2).wr (R.PCTL_CAN_STAT_TEC i) 255).inc (R.PCTL_CAN_STAT_BUSOFF i)

theorem State.canLeaves_does (s : State) (i : Nat) : (s.canLeaves i).rd (R.PCTL_CAN_STAT_STATE i) = 2 ∧ (s.canLeaves i).rd
  (R.PCTL_CAN_STAT_TEC i) = 255 ∧
    (s.canLeaves i).rd (R.PCTL_CAN_STAT_BUSOFF i) = satAdd 16 (s.rd (R.PCTL_CAN_STAT_BUSOFF i)) 1 ∧ (s.canLeaves i).pctl = s.pctl ∧
    (s.canLeaves i).pts = s.pts := by
  have hn : 0xe0204 + 0x8 * i ≠ 0xe0200 + 0x8 * i := by omega
  unfold State.canLeaves
  refine ⟨?_, ?_, ?_, ?_, ?_⟩
  · rw [State.rd_inc_ne _ _ (by show 16 + 16 ≤ 32; decide) (.inl hn), State.rd_wr_ne _ _ (by show 24 + 8 ≤ 32; decide) (.inr (.inl
      (by show 14 + 2 ≤ 24; decide))),
      State.rd_wr_same _ _ _ (by show 14 + 2 ≤ 32; decide)]
    rfl
  · rw [State.rd_inc_ne _ _ (by show 16 + 16 ≤ 32; decide) (.inl hn), State.rd_wr_same _ _ _ (by show 24 + 8 ≤ 32; decide)]
    rfl
  · rw [State.rd_inc_same _ _ _ (by show 16 + 16 ≤ 32; decide), State.rd_wr_ne _ _ (by show 24 + 8 ≤ 32; decide) (.inl hn.symm),
      State.rd_wr_ne _ _ (by show 14 + 2 ≤ 32; decide) (.inl hn.symm)]
    rfl
  · rw [State.inc_pctl, State.wr_pctl, State.wr_pctl]
  · rw [State.inc_pts, State.wr_pts, State.wr_pts]

theorem State.canRejoin_off {s : State} {i : Nat} (h : s.rd (R.PCTL_CAN_STAT_STATE i) = 2) :
    s.canRejoin i = (s.canCounters i 0 0).condCtl cCan i qFault false := if_pos h

/-- A controller that comes back has its counters at 0. -/
theorem State.canRejoins (s : State) (i : Nat) : (s.canCounters i 0 0).rd (R.PCTL_CAN_STAT_TEC i) = 0 ∧ (s.canCounters i 0 0).rd
  (R.PCTL_CAN_STAT_REC i) = 0 ∧
    (s.canCounters i 0 0).rd (R.PCTL_CAN_STAT_STATE i) = s.canState i 0 0 ∧ (s.canCounters i 0 0).pctl = s.pctl :=
  ⟨State.canCounters_tec .., State.canCounters_rec .., State.canCounters_state .., (State.canCounters_beside ..).1⟩

/-! ### The link of an SPE controller -/

theorem State.wr_link_shows (s : State) (i v : Nat) : (s.wr (R.PCTL_SPE_STAT_LINK i) v).flag (R.PCTL_SPE_STAT_LINK i) = decide (v % 2 ≠ 0) :=
  State.flag_wr_same _ _ _ (by show 0 + 1 ≤ 32; decide)

/-- The link goes down, and is counted. -/
def State.linkFalls (s : State) (i : Nat) : State := (s.wr (R.PCTL_SPE_STAT_LINK i) 0).inc (R.PCTL_SPE_STAT_LINK_DOWN i)

theorem State.linkFalls_does (s : State) (i : Nat) : (s.linkFalls i).flag (R.PCTL_SPE_STAT_LINK i) = false ∧
    (s.linkFalls i).rd (R.PCTL_SPE_STAT_LINK_DOWN i) = satAdd 16 (s.rd (R.PCTL_SPE_STAT_LINK_DOWN i)) 1 ∧ (s.linkFalls i).pctl = s.pctl := by
  have hn : 0xe0504 + 0x8 * i ≠ 0xe0500 + 0x8 * i := by omega
  unfold State.linkFalls
  refine ⟨?_, ?_, ?_⟩
  · rw [State.flag_inc_ne _ _ (by show 16 + 16 ≤ 32; decide) (.inl hn), State.wr_link_shows]
    rfl
  · rw [State.rd_inc_same _ _ _ (by show 16 + 16 ≤ 32; decide), State.rd_wr_ne _ _ (by show 0 + 1 ≤ 32; decide) (.inl hn.symm)]
    rfl
  · rw [State.inc_pctl, State.wr_pctl]

/-! ### Raw items (R285) -/

section
variable {s : State} {p : Nat} {item : List Byte} (hs : s.standby = false) (hl : item.length ≤ 2048) (hd : leAt item 0 1 ≠ 2 ∨ leAt item 2 2 ≤ 1518)
include hs hl hd

theorem State.rawIn_fits : s.rawIn p item = match s.recvFor (s.rd (R.PCTL_PORT_RAW_OWN p)) 1 p none with
    | some (k, t) => s.fillRecv k t item s.now p
    | none => if 64 ≤ (s.rxq p).length then s.inc (R.PCTL_PORT_DROP p) else s.setRxq p (s.rxq p ++ [⟨s.now, item⟩]) := by
  refine (if_neg (Bool.eq_false_iff.mp hs)).trans (if_neg ?_)
  rintro (h | ⟨h, k⟩)
  · exact Nat.not_le.mpr h hl
  · exact hd.elim (fun hd => hd h) fun hd => Nat.not_le.mpr k hd

theorem State.rawIn_waits (hr : s.recvFor (s.rd (R.PCTL_PORT_RAW_OWN p)) 1 p none = none) :
    s.rawIn p item = if (s.rxq p).length < 64 then s.setRxq p (s.rxq p ++ [⟨s.now, item⟩]) else s.inc (R.PCTL_PORT_DROP p) := by
  rw [State.rawIn_fits hs hl hd, hr]
  dsimp only
  by_cases h : 64 ≤ (s.rxq p).length
  · rw [if_pos h, if_neg (Nat.not_lt.mpr h)]
  · rw [if_neg h, if_pos (Nat.not_le.mp h)]

theorem State.rawIn_taken {k : Nat} {x : Tx} (hr : s.recvFor (s.rd (R.PCTL_PORT_RAW_OWN p)) 1 p none = some (k, x)) :
    s.rawIn p item = s.fillRecv k x item s.now p := by
  rw [State.rawIn_fits hs hl hd, hr]

end

/-! ### The search for a rate (R298) -/

section
variable {s : State} {i : Nat} (hs : s.searching cCan i = true)
include hs

theorem State.autoHit_first (h : (s.autoOf (ctlKey cCan i)).2 = 0) :
    s.autoHit cCan i 1 2 = s.setAuto (ctlKey cCan i) ((s.autoOf (ctlKey cCan i)).1, 1) := by
  unfold State.autoHit
  rw [if_neg (not_not.mpr hs)]
  dsimp only
  rw [h]
  exact if_pos (by decide)

theorem State.autoHit_second (h : (s.autoOf (ctlKey cCan i)).2 = 1) : s.autoHit cCan i 1 2 =
    (s.setAuto (ctlKey cCan i) (0, 0)).wr (R.PCTL_CAN_STAT_NBR_DET i) (canRates.getD (s.autoOf (ctlKey cCan i)).1 0) := by
  unfold State.autoHit
  rw [if_neg (not_not.mpr hs)]
  dsimp only
  rw [h, if_neg (by decide), if_pos rfl]

theorem State.nextRate_can (ho : s.ctlOn cCan i = true) :
    s.nextRate cCan i = s.setAuto (ctlKey cCan i) (((s.autoOf (ctlKey cCan i)).1 + 1) % 9, 0) := by
  have hc : ¬ (¬ s.searching cCan i = true ∨ ¬ s.ctlOn cCan i = true ∨ (cCan = cUart ∧ ¬ s.ctlRaw cCan i = true ∧ ¬ s.uartIdle i = true)) := by
    rintro (h | h | h)
    · exact h hs
    · exact h ho
    · exact absurd h.1 (by decide)
  have hu : ¬ cCan = cUart := by decide
  unfold State.nextRate
  rw [if_neg hc]
  simp only [hu, false_and, Bool.false_eq_true, not_false_eq_true, true_or, if_true, if_false]
  rfl

end

/-! ### The obligation -/

/-- Settles O47: the frames that the field buses receive, and how their controllers recover. -/
theorem busReception : Obligations.BusReception := by
  unfold Obligations.BusReception
  refine ⟨?_, ?_, ?_, ?_, ?_, ?_, ?_, fun i on s h => if_pos h, ?_, ?_, ?_, ?_, ?_, ?_, ?_, fun p item s hs hl hd hr => State.rawIn_waits hs hl hd hr,
    fun p k x item s hs hl hd hr => State.rawIn_taken hs hl hd hr, fun i s h => ⟨State.autoHit_first h, State.autoHit_second h⟩, ?_, ?_, ?_,
    fun q seen i s h => if_neg h, ?_⟩
  · intro i p x tec rec f s hp ho hb hs hr
    obtain ⟨hp64, -⟩ := State.ctlPlace_lt (by decide) hp
    obtain ⟨h1, h2, -, h4, h5, h6, -⟩ := State.canHears_does (s := s) i.isLt hp64 x tec rec (withPair f.bytes x)
    refine ⟨s.canHears i p x tec rec (withPair f.bytes x), (exec_canFrameReceive_raw hp ho hb hs hr).trans ?_, h1, h2, h4, h5, h6⟩
    rw [State.offered_of (State.rawIn_now _ _ _)]
  · intro i p x tec rec m f s hp ho hb hs hr hm
    obtain ⟨hp64, -⟩ := State.ctlPlace_lt (by decide) hp
    obtain ⟨h1, -, h3, h4, h5, h6, -⟩ := State.canHears_does (s := s) i.isLt hp64 x tec rec (withPair f.bytes x)
    refine ⟨s.canHears i p x tec rec (withPair f.bytes x), (exec_canFrameReceive_object hp ho hb hs hr hm).trans ?_, h1, h3, h4, h5, h6⟩
    rw [State.offered_of (State.objectTakes_now _ _ _)]
  · intro i p x tec rec f s hp ho hb
    refine ⟨s.canHurt i tec rec, ?_, s.canHurt_does i tec rec⟩
    show execCanFrameReceive i f false tec rec s = _
    unfold execCanFrameReceive
    rw [hp]
    exact (if_neg fun h => h.elim (fun h => h ho) hb).trans (if_pos Bool.false_ne_true)
  · intro i tec rec f ok s h
    have h : ¬ s.ctlOn cCan i = true ∨ s.rd (R.PCTL_CAN_STAT_STATE i) = 2 := h.imp_left Bool.eq_false_iff.mp
    refine ⟨?_, if_pos h⟩
    show execCanFrameReceive i f ok tec rec s = _
    unfold execCanFrameReceive
    cases s.ctlPlace cCan i with
    | none => rfl
    | some y =>
      obtain ⟨p, x⟩ := y
      exact if_pos h
  · exact fun i s ho hb => ⟨s.canLeaves i, if_neg fun h => h.elim (fun h => h ho) hb, s.canLeaves_does i⟩
  · intro i s h
    have hj : exec (.canRecover i) s = .next ((s.canCounters i 0 0).condCtl cCan i qFault false) := congrArg Host.Outcome.next (State.canRejoin_off h)
    exact ⟨⟨s.canCounters i 0 0, hj, s.canRejoins i⟩, fun ha => ⟨s.canCounters i 0 0, (if_pos ha).trans hj, s.canRejoins i⟩,
      fun ha => if_neg (Bool.eq_false_iff.mp ha)⟩
  · intro i s h
    have hj : s.canRejoin i = s := if_neg h
    refine ⟨congrArg Host.Outcome.next hj, ?_⟩
    show (if _ then Host.Outcome.next (s.canRejoin i) else _) = _
    rw [hj, ite_self]
  · intro i p x f s hp ho ha hr
    obtain ⟨pc, pb, ps, -⟩ := s.recognise_beside p x 4
    refine ⟨s.recognise p x 4, (exec_speFrameReceive_raw hp ho ha hr).trans ?_, s.recognise_shows p x (by decide), pc, pb, ps⟩
    rw [State.offered_of (State.rawIn_now _ _ _)]
  · intro i p x m f s hp ho ha hr hm
    obtain ⟨pc, pb, ps, -⟩ := s.recognise_beside p x 4
    refine ⟨s.recognise p x 4, (exec_speFrameReceive_object hp ho ha hr hm).trans ?_, s.recognise_shows p x (by decide), pc, pb, ps⟩
    rw [State.offered_of (State.objectTakes_now _ _ _)]
  · intro i p x f s hp ho
    refine ⟨?_, fun ha => ?_⟩
    all_goals
      show execSpeFrameReceive i f _ s = _
      unfold execSpeFrameReceive
      dsimp only
      rw [hp]
      dsimp only
      rw [if_neg (not_not.mpr ho)]
    · exact if_pos Bool.false_ne_true
    · exact (if_neg (not_not.mpr rfl)).trans (if_pos (Bool.eq_false_iff.mp ha))
  · exact fun i s ho => ⟨s.wr (R.PCTL_SPE_STAT_LINK i) 1, if_pos ho, (State.wr_link_shows _ _ _).trans rfl, State.wr_pctl _ _ _⟩
  · intro i s ho hl ht
    refine ⟨s.linkFalls i, ?_, s.linkFalls_does i⟩
    refine (if_neg (not_not.mpr ho)).trans ?_
    rw [if_pos ht, if_pos hl]
    rfl
  · intro i s ho hl ht
    refine (if_neg (not_not.mpr ho)).trans ?_
    rw [if_pos ht, if_neg (Bool.eq_false_iff.mp hl)]
  · exact fun i s ho => ⟨if_pos (Bool.eq_false_iff.mp ho), if_neg (Bool.eq_false_iff.mp ho)⟩
  · intro k i s hk hs ho
    have hn : s.nextRate k i = s.setAuto (ctlKey k i) (((s.autoOf (ctlKey k i)).1 + 1) % 9, 0) := by
      rw [hk] at hs ho ⊢
      exact State.nextRate_can hs ho
    exact congrArg Host.Outcome.next hn
  · intro k i s hs
    exact congrArg Host.Outcome.next (if_pos (.inl (Bool.eq_false_iff.mp hs)))
  · intro q seen i s h
    obtain ⟨pc, pb, -, -⟩ := s.recognise_beside i q seen
    exact ⟨s.recognise i q seen, if_pos h, s.recognise_shows i q (by omega), pc, pb⟩
  · exact fun k i s hk => ⟨(if_neg hk).trans (if_neg Bool.false_ne_true), (if_neg hk).trans (if_pos rfl)⟩

end Sys2Proof.Machine
end

section
/-!
PROOFS. UART, Modbus and IO-Link, and what goes out on the buses (chapter 10).
-/
namespace Sys2Proof.Machine

/-! ### Blocks of characters (R286) -/

section
variable {s t : State} (h : Wired s t) {i : Nat} (hi : i < 64)
include h hi

theorem Wired.uartCfg {lo w : Nat} : t.rd ⟨0xe0800 + 0x10 * i, lo, w⟩ = s.rd ⟨0xe0800 + 0x10 * i, lo, w⟩ :=
  h.rd (.inr (.inr (.inl ⟨by show 0xe0800 ≤ 0xe0800 + 0x10 * i; omega, by show 0xe0800 + 0x10 * i < 0xe0c00; omega⟩)))

theorem Wired.uartRaw : t.ctlRaw cUart i = s.ctlRaw cUart i := by
  show t.flag (R.PCTL_UART_CFG_RAW i) = s.flag (R.PCTL_UART_CFG_RAW i)
  unfold State.flag
  rw [show t.rd (R.PCTL_UART_CFG_RAW i) = s.rd (R.PCTL_UART_CFG_RAW i) from h.uartCfg hi]

end

/-- A UART searches for its rate as its own registers show it. -/
theorem State.searching_uart {s t : State} {i : Nat} (hc : t.rd (R.PCTL_UART_CFG_AUTO i) = s.rd (R.PCTL_UART_CFG_AUTO i))
    (hd : t.rd (R.PCTL_UART_STAT_BAUD_DET i) = s.rd (R.PCTL_UART_STAT_BAUD_DET i)) : t.searching cUart i = s.searching cUart i := by
  have hn : ¬ cUart = cCan := by decide
  unfold State.searching State.flag
  rw [if_neg hn, if_neg hn, hc, hd]

/-- A block with a framing error, before it is taken: it is counted, and a search starts its count again. -/
def State.badBlock (s : State) (i p x : Nat) : State :=
  ((s.recognise p x 3).inc (R.PCTL_UART_STAT_FRAMING i)).setAuto (ctlKey cUart i)
    ((((s.recognise p x 3).inc (R.PCTL_UART_STAT_FRAMING i)).autoOf (ctlKey cUart i)).1, 0)

theorem State.setAuto_beside (s : State) (c : Nat) (x : Nat × Nat) : (s.setAuto c x).regs = s.regs ∧ (s.setAuto c x).pctl.rx = s.pctl.rx ∧
    (s.setAuto c x).brg = s.brg ∧ (s.setAuto c x).sw = s.sw ∧ (s.setAuto c x).pwr = s.pwr := ⟨rfl, rfl, rfl, rfl, rfl⟩

theorem State.badBlock_does {s : State} {i p : Nat} (hi : i < 64) (hp : p < 64) (x : Nat) :
    (s.badBlock i p x).rd (R.PCTL_UART_STAT_FRAMING i) = satAdd 16 (s.rd (R.PCTL_UART_STAT_FRAMING i)) 1 ∧ (s.badBlock i p x).rxq p = s.rxq p ∧
    (s.badBlock i p x).brg = s.brg ∧ (s.badBlock i p x).sw = s.sw ∧ Wired s ((s.recognise p x 3).inc (R.PCTL_UART_STAT_FRAMING i)) ∧
    Wired s (s.badBlock i p x) := by
  obtain ⟨pc, pb, ps, -⟩ := s.recognise_beside p x 3
  obtain ⟨ar, ax, ab, as, aw⟩ := ((s.recognise p x 3).inc (R.PCTL_UART_STAT_FRAMING i)).setAuto_beside (ctlKey cUart i)
    ((((s.recognise p x 3).inc (R.PCTL_UART_STAT_FRAMING i)).autoOf (ctlKey cUart i)).1, 0)
  have hw : Wired s ((s.recognise p x 3).inc (R.PCTL_UART_STAT_FRAMING i)) := by
    refine (Wired.recognise s hp x 3).trans ⟨fun o ho => State.word_inc_ne _ _ _ ?_, State.inc_pwr _ _ _⟩
    show o ≠ 0xe0c04 + 0x8 * i
    omega
  refine ⟨(State.rd_of_regs ar _).trans ?_, ?_, ab.trans ((State.inc_brg _ _ _).trans pb), as.trans ((State.inc_sw _ _ _).trans ps), hw,
    hw.trans (.of_regs ar aw)⟩
  · rw [State.rd_inc_same _ _ _ (by show 16 + 16 ≤ 32; decide),
      State.rd_of_word (State.recognise_word s p x 3 (by show 0xe0c04 + 0x8 * i ≠ 0xe1800 + 0x4 * p; omega))]
    rfl
  · unfold State.rxq
    rw [show (s.badBlock i p x).pctl.rx = _ from ax, State.inc_pctl, pc]

section
variable {i : Fin 64} {p x : Nat} {f : BusFrame} {s : State} (hp : s.ctlPlace cUart i = some (p, x)) (ho : s.ctlOn cUart i = true)
  (hr : s.ctlRaw cUart i = true)
include hp ho hr

theorem exec_uartBlockEnd_bad (he : bit (leAt (withPair f.bytes x) 4 1) 1 = true) : exec (.uartBlockEnd i f) s =
    .next (((s.badBlock i p x).rawIn p (withPair f.bytes x)).offered 3 p x f.ago (withPair f.bytes x)) := by
  obtain ⟨hp64, -⟩ := State.ctlPlace_lt (by decide) hp
  obtain ⟨-, -, -, -, h1, h2⟩ := State.badBlock_does (s := s) i.isLt hp64 x
  show execUartBlockEnd i f s = _
  unfold execUartBlockEnd
  rw [hp]
  dsimp only
  rw [if_neg (not_not.mpr ho), if_pos he, if_pos he, if_neg (not_not.mpr ((h1.uartRaw i.isLt).trans hr)), ← State.badBlock,
    if_pos ((h2.uartRaw i.isLt).trans hr)]
  unfold State.offered
  rfl

theorem exec_uartBlockEnd_good (hs : s.searching cUart i = false) (he : bit (leAt (withPair f.bytes x) 4 1) 1 = false) : exec (.uartBlockEnd i f) s =
    .next (((s.recognise p x 3).rawIn p (withPair f.bytes x)).offered 3 p x f.ago (withPair f.bytes x)) := by
  obtain ⟨hp64, -⟩ := State.ctlPlace_lt (by decide) hp
  have hw := Wired.recognise s hp64 x 3
  have hq : (s.recognise p x 3).searching cUart i = false := (State.searching_uart (hw.uartCfg i.isLt)
    (State.rd_of_word (State.recognise_word s p x 3 (by show 0xe0c00 + 0x8 * i.val ≠ 0xe1800 + 0x4 * p; omega)))).trans hs
  have hn := Bool.eq_false_iff.mp he
  show execUartBlockEnd i f s = _
  unfold execUartBlockEnd
  rw [hp]
  dsimp only
  rw [if_neg (not_not.mpr ho), if_neg hn, if_neg hn, if_neg (not_not.mpr ((hw.uartRaw i.isLt).trans hr)), State.autoHit_idle _ 4 hq,
    if_pos ((hw.uartRaw i.isLt).trans hr)]
  unfold State.offered
  rfl

end

/-! ### Polls and the bridge's transactions (R292, R293) -/

theorem State.markMissed_regs (s : State) (ns : List Nat) (on : Bool) : (s.markMissed ns on).regs = s.regs :=
  (Quiet.foldl (g := State.regs) State.refreshPoint State.refreshPoint_regs _ _).trans rfl

section
variable {s : State} {i : Nat} (ho : s.ctlOn cUart i = true) (hr : s.ctlRaw cUart i = false)

theorem State.uart_listens (ho : s.ctlOn cUart i = true) (hr : s.ctlRaw cUart i = false) : ¬ (¬ s.ctlOn cUart i = true ∨ s.ctlRaw cUart i = true) :=
  fun h => h.elim (fun h => h ho) (Bool.eq_false_iff.mp hr)

theorem State.pollAnswer_data {m : Nat} (b : List Byte) (hc : s.pollCode m ≠ 0x10) (hs : s.searching cUart i = false) :
    s.pollAnswer i m (.data b) = ((s.markMissed (s.pollPoints m) false).objectTakes m b).pollEnd i := by
  have hm := State.markMissed_regs s (s.pollPoints m) false
  have hq : (s.markMissed (s.pollPoints m) false).searching cUart i = false :=
    (State.searching_uart (State.rd_of_regs hm _) (State.rd_of_regs hm _)).trans hs
  have hc : ¬ (s.markMissed (s.pollPoints m) false).pollCode m = 0x10 := by
    unfold State.pollCode at hc ⊢
    rwa [State.rd_of_regs hm]
  unfold State.pollAnswer
  dsimp only
  rw [State.autoHit_idle 1 1 hq, if_neg hc]

include ho hr

/-- A valid answer to the poll in progress. -/
theorem State.modbusIn_poll {m : Nat} {b : List Byte} (hm : s.poll i = some m) (hc : s.pollCode m ≠ 0x10) (hb : b.length = 2 * s.pollRegs m)
    (hs : s.searching cUart i = false) : s.modbusIn i (.data b) = ((s.markMissed (s.pollPoints m) false).objectTakes m b).pollEnd i := by
  unfold State.modbusIn
  rw [if_neg (State.uart_listens ho hr), hm]
  dsimp only
  rw [if_neg hc, if_pos hb, State.pollAnswer_data b hc hs]

section
variable {p : Nat} {o : BusOp} (hm : s.poll i = none) (hp : s.ctlOp cUart i = some (p, o)) (hb : o.broadcast = false)
include hm hp hb

theorem State.modbusIn_data {b : List Byte} (hl : b.length = o.expects) : s.modbusIn i (.data b) = s.opData p cUart i o b := by
  unfold State.modbusIn
  rw [if_neg (State.uart_listens ho hr), hm, hp]
  dsimp only
  rw [if_neg (Bool.eq_false_iff.mp hb), if_pos hl]

theorem State.modbusIn_exception (c : Nat) : s.modbusIn i (.exception c) = s.opFails p o stBusNak (c % 256) := by
  unfold State.modbusIn
  rw [if_neg (State.uart_listens ho hr), hm, hp]
  exact if_neg (Bool.eq_false_iff.mp hb)

theorem State.modbusIn_bad : s.modbusIn i .bad = (s.inc (R.PCTL_UART_STAT_FRAMING i)).opFails p o stBusError 0 := by
  unfold State.modbusIn
  rw [if_neg (State.uart_listens ho hr), hm, hp]
  exact if_neg (Bool.eq_false_iff.mp hb)

end

end

theorem State.modbusTimeout_poll {s : State} {i m : Nat} (hm : s.poll i = some m) :
    s.modbusTimeout i = ((s.markMissed (s.pollPoints m) true).inc (R.PCTL_UART_STAT_NORSP i)).pollEnd i := by
  unfold State.modbusTimeout
  rw [hm]
  rfl

theorem State.modbusTimeout_op {s : State} {i p : Nat} {o : BusOp} (hm : s.poll i = none) (hp : s.ctlOp cUart i = some (p, o)) : s.modbusTimeout i =
    if o.broadcast then s.endOp p o { status := stOk, xfer := o.req.len, exec := s.tdEnc o.req.td } else s.opFails p o stBusNak 0 := by
  unfold State.modbusTimeout
  rw [hm, hp]

theorem State.pollEnd_last {s : State} {i : Nat} (hq : s.uartQueued i = false) (hp : s.polls i = []) : s.pollEnd i = s.setPoll i none := by
  have hu : (s.setPoll i none).uartQueued i = s.uartQueued i := rfl
  have hl : (s.setPoll i none).polls i = s.polls i := rfl
  unfold State.pollEnd
  dsimp only
  rw [hu, if_neg (Bool.eq_false_iff.mp hq)]
  unfold State.startPoll
  rw [hl, hp]

theorem State.opData_written {s : State} {p k i : Nat} {o : BusOp} (b : List Byte) (ho : o.req.op = opRmw) (hp : o.phase = 1) :
    s.opData p k i o b = s.endOp p o { status := stOk, result := o.value, xfer := o.req.len, exec := s.tdEnc o.req.td } := by
  unfold State.opData
  dsimp only
  rw [ho, hp]
  rfl

section
variable {p : Fin 64} {q : Nat} {o : BusOp} {s : State} (h : s.ctlOp cIol p = some (q, o))
include h

theorem exec_isduResponse_data (b : List Byte) : exec (.isduResponse p (.data b)) s = .next (s.opData q cIol p o b).settle := by
  show execIsduResponse p (.data b) s = _
  unfold execIsduResponse
  rw [h]

theorem exec_isduResponse_error (c : Nat) : exec (.isduResponse p (.error c)) s = .next (s.opFails q o stBusNak (c % 65536)).settle := by
  show execIsduResponse p (.error c) s = _
  unfold execIsduResponse
  rw [h]

theorem exec_isduTimeout_op : exec (.isduTimeout p) s = .next (s.opFails q o stBusNak 0).settle := by
  show execIsduTimeout p s = _
  unfold execIsduTimeout
  rw [h]

end

/-! ### What goes out on the buses (R287, R291) -/

section
variable {k : Fin 5} {i : Fin 64} {x : TxItem} {s : State} (hx : s.nextTx k i = some x) (hm : s.maySendBus k i = true)
include hx hm

section
variable {r : Req} (ho : x.obj = none) (hr : x.req = some r)
include ho hr

theorem rawSend_goes (ok : Bool) (h : ok = true ∨ k.val = cCan) : ¬ (x.obj.isSome = true ∨ ¬ s.maySendBus k i = true ∨ (¬ ok = true
  ∧ k.val ≠ cCan)) := by
  rw [ho]
  rintro (h' | h' | ⟨h1, h2⟩)
  · cases h'
  · exact h' hm
  · exact h.elim h1 h2

/-- A raw SEND's frame has been sent. -/
theorem exec_rawSendDone_ok (hk : k.val ≠ cIol) : exec (.rawSendDone k i true) s =
    .next (((if k.val = cCan then (s.busOut k i "frame" (onWire x.item)).canSent i true else s.busOut k i "frame" (onWire x.item)).dropTx k i x).ok
      r 0 r.len).settle := by
  show execRawSendDone k i true s = _
  unfold execRawSendDone
  rw [hx]
  dsimp only
  rw [if_neg (rawSend_goes hx hm ho hr true (.inl rfl)), if_pos rfl, if_neg (show ¬ (true = true ∧ k.val = cIol) from fun h => hk h.2), hr]
  exact congrArg (fun t : State => Host.Outcome.next t.settle) (if_pos rfl)

/-- A CAN frame that has not been acknowledged. -/
theorem exec_rawSendDone_lost (hk : k.val = cCan) : exec (.rawSendDone k i false) s =
    .next (((s.canSent i false).dropTx k i x).refuse r stBusNak).settle := by
  show execRawSendDone k i false s = _
  unfold execRawSendDone
  rw [hx]
  dsimp only
  rw [if_neg (rawSend_goes hx hm ho hr false (.inr hk)), if_neg Bool.false_ne_true,
    if_neg (show ¬ (false = true ∧ k.val = cIol) from fun h => Bool.false_ne_true h.1), if_pos hk, hr]
  exact congrArg (fun t : State => Host.Outcome.next t.settle) (if_neg Bool.false_ne_true)

end

omit hm in
/-- Only CAN has frames that are not acknowledged. -/
theorem exec_rawSendDone_never (hk : k.val ≠ cCan) : exec (.rawSendDone k i false) s = .next s := by
  show execRawSendDone k i false s = _
  unfold execRawSendDone
  rw [hx]
  exact if_pos (.inr (.inr ⟨Bool.false_ne_true, hk⟩))

/-- A transmit object's frame has been sent. -/
theorem exec_objectFrameSent (ho : x.obj.isSome = true) (hr : x.req = none) : exec (.objectFrameSent k i) s =
    .next ((if k.val = cCan then (s.busOut k i "frame" (onWire x.item)).canSent i true else s.busOut k i "frame" (onWire x.item)).dropTx k i x) := by
  have hc : ¬ (x.obj.isNone = true ∨ ¬ s.maySendBus k i = true) := by
    rintro (h | h)
    · rw [Option.isNone_iff_eq_none.mp h] at ho
      cases ho
    · exact h hm
  show execObjectFrameSent k i s = _
  unfold execObjectFrameSent
  rw [hx]
  dsimp only
  rw [if_neg hc, hr]

end

theorem State.emitIf_beside (s : State) (c : Prop) [Decidable c] (e : Emit) : (if c then s.emit e else s).regs = s.regs ∧
    (if c then s.emit e else s).fld = s.fld ∧ (if c then s.emit e else s).brg = s.brg := by
  split <;> exact ⟨rfl, rfl, rfl⟩

/-- What goes out on a bus changes nothing but what is emitted. -/
theorem State.busOut_beside (s : State) (k i : Nat) (what : String) (b : List Byte) : (s.busOut k i what b).regs = s.regs ∧
    (s.busOut k i what b).fld = s.fld ∧ (s.busOut k i what b).brg = s.brg := by
  unfold State.busOut
  split
  · exact State.emitIf_beside s _ _
  · exact ⟨rfl, rfl, rfl⟩

/-- The raw item of an IO-Link master goes out as its process data. -/
def State.iolSends (s : State) (i : Nat) (x : TxItem) : State :=
  let t := s.busOut cIol i "frame" (onWire x.item)
  t.setPdOut i (x.item.drop 16, bit (leAt x.item 4 1) 0 && !t.inSafe)

theorem State.setPdOut_beside (s : State) (p : Nat) (x : List Byte × Bool) : (s.setPdOut p x).regs = s.regs ∧ (s.setPdOut p x).fld = s.fld ∧
    (s.setPdOut p x).brg = s.brg := ⟨rfl, rfl, rfl⟩

theorem State.iolSends_beside (s : State) (i : Nat) (x : TxItem) : (s.iolSends i x).regs = s.regs ∧ (s.iolSends i x).fld = s.fld ∧
    (s.iolSends i x).brg = s.brg := by
  obtain ⟨br, bf, bb⟩ := s.busOut_beside cIol i "frame" (onWire x.item)
  obtain ⟨pr, pf, pb⟩ := (s.busOut cIol i "frame" (onWire x.item)).setPdOut_beside i
    (x.item.drop 16, bit (leAt x.item 4 1) 0 && !(s.busOut cIol i "frame" (onWire x.item)).inSafe)
  exact ⟨pr.trans br, pf.trans bf, pb.trans bb⟩

theorem exec_rawSendDone_iol {i : Fin 64} {x : TxItem} {r : Req} {s : State} (hx : s.nextTx cIol i = some x) (ho : x.obj = none) (hr : x.req = some r)
    (hm : s.maySendBus cIol i = true) :
    exec (.rawSendDone 4 i true) s = .next (((s.iolSends i x).dropTx cIol i x).ok r 0 r.len).settle := by
  have hc := rawSend_goes (k := 4) hx hm ho hr true (.inl rfl)
  show execRawSendDone 4 i true s = _
  unfold execRawSendDone
  rw [show s.nextTx ((4 : Fin 5) : Nat) i = some x from hx]
  dsimp only
  rw [if_neg hc, if_pos rfl, if_pos (show true = true ∧ ((4 : Fin 5) : Nat) = cIol from ⟨rfl, rfl⟩), if_neg (show ¬
      ((4 : Fin 5) : Nat) = cCan by decide), hr]
  exact congrArg (fun t : State => Host.Outcome.next t.settle) (if_pos rfl)

/-! ### IO-Link (R299, R300) -/

theorem State.setTries_iolTries (s : State) (p n : Nat) : (s.setTries p n).iolTries p = n := NMap.get_set_same _ _ _ _

theorem State.iolTries_of {s t : State} (h : t.pctl = s.pctl) (p : Nat) : t.iolTries p = s.iolTries p := by
  unfold State.iolTries
  rw [h]

/-- What the registers show of port `p`'s master: COM mode and state. -/
def State.iolShows (s : State) (p c st : Nat) : State := (s.wr (R.PCTL_IOL_STAT_COM_DET p) c).wr (R.PCTL_IOL_STAT_STATE p) st

theorem State.iolShows_does (s : State) (p : Nat) {c st : Nat} (hc : c < 4) (hs : st < 8) : (s.iolShows p c st).rd (R.PCTL_IOL_STAT_COM_DET p) = c ∧
    (s.iolShows p c st).rd (R.PCTL_IOL_STAT_STATE p) = st ∧ (s.iolShows p c st).pctl = s.pctl := by
  unfold State.iolShows
  refine ⟨?_, ?_, ?_⟩
  · rw [State.rd_wr_ne _ _ (by show 29 + 3 ≤ 32; decide) (.inr (.inl (by show 27 + 2 ≤ 29; decide))), State.rd_wr_same _ _ _
      (by show 27 + 2 ≤ 32; decide)]
    exact Nat.mod_eq_of_lt hc
  · rw [State.rd_wr_same _ _ _ (by show 29 + 3 ≤ 32; decide)]
    exact Nat.mod_eq_of_lt hs
  · rw [State.wr_pctl, State.wr_pctl]

section
variable {s : State} {p : Nat} (hc : s.iolComm p = true) (hf : s.standby = true ∨ s.flag (R.PORT_STAT_FP_ON p) = true)
include hc hf

theorem iol_awaits : ¬ (¬ s.iolComm p = true ∨ ¬ (s.standby = true ∨ s.flag (R.PORT_STAT_FP_ON p) = true)) :=
  fun h => h.elim (fun h => h hc) fun h => h hf

/-- A device is found, and passes. -/
theorem State.iolWakeup_found {c v d : Nat} (hk : s.rd (R.PCTL_IOL_CFG_CHECK p) = 0) : s.iolWakeup p (some (c, v, d)) =
    ((((s.setTries p 0).iolShows p c iolOperate).condCtl cIol p qNoResponse false).condCtl cIol p qFault false) := by
  have hi : s.iolInspect p ⟨c, v, d⟩ = true := decide_eq_true (.inl hk)
  unfold State.iolWakeup
  rw [if_neg (iol_awaits hc hf)]
  dsimp only
  rw [hi]
  rfl

/-- The first wake-up that finds no device. -/
theorem State.iolWakeup_none (ht : s.iolTries p = 0) : s.iolWakeup p none =
    (((s.wr (R.PCTL_IOL_STAT_STATE p) iolStartup).wr (R.PCTL_IOL_STAT_COM_DET p) 0).condCtl cIol p qNoResponse true).setTries p 1 := by
  unfold State.iolWakeup
  rw [if_neg (iol_awaits hc hf)]
  dsimp only
  rw [ht]
  exact if_pos (.inl (by decide))

end

theorem State.startup_does (s : State) (p : Nat) :
    ((s.wr (R.PCTL_IOL_STAT_STATE p) iolStartup).wr (R.PCTL_IOL_STAT_COM_DET p) 0).rd (R.PCTL_IOL_STAT_STATE p) = iolStartup ∧
    ((s.wr (R.PCTL_IOL_STAT_STATE p) iolStartup).wr (R.PCTL_IOL_STAT_COM_DET p) 0).rd (R.PCTL_IOL_STAT_COM_DET p) = 0 ∧
    ((s.wr (R.PCTL_IOL_STAT_STATE p) iolStartup).wr (R.PCTL_IOL_STAT_COM_DET p) 0).pctl = s.pctl := by
  refine ⟨?_, ?_, ?_⟩
  · rw [State.rd_wr_ne _ _ (by show 27 + 2 ≤ 32; decide) (.inr (.inr (by show 27 + 2 ≤ 29; decide))), State.rd_wr_same _ _ _
      (by show 29 + 3 ≤ 32; decide)]
    rfl
  · rw [State.rd_wr_same _ _ _ (by show 27 + 2 ≤ 32; decide)]
    exact Nat.zero_mod _
  · rw [State.wr_pctl, State.wr_pctl]

/-- The master has lost its device. -/
def State.iolLoses (s : State) (p : Nat) : State := (s.iolShows p 0 iolStartup).inc (R.PCTL_IOL_STAT_DEV_LOST p)

theorem State.iolLoses_does (s : State) (p : Nat) : (s.iolLoses p).rd (R.PCTL_IOL_STAT_COM_DET p) = 0 ∧
    (s.iolLoses p).rd (R.PCTL_IOL_STAT_STATE p) = iolStartup ∧
    (s.iolLoses p).rd (R.PCTL_IOL_STAT_DEV_LOST p) = satAdd 16 (s.rd (R.PCTL_IOL_STAT_DEV_LOST p)) 1 ∧ (s.iolLoses p).pctl = s.pctl := by
  obtain ⟨hc, hs, hp⟩ := s.iolShows_does p (c := 0) (st := iolStartup) (by decide) (by decide)
  have hn : 0xe1404 + 0x8 * p ≠ 0xe1400 + 0x8 * p := by omega
  unfold State.iolLoses
  refine ⟨?_, ?_, ?_, ?_⟩
  · rw [State.rd_inc_ne _ _ (by show 16 + 16 ≤ 32; decide) (.inl hn), hc]
  · rw [State.rd_inc_ne _ _ (by show 16 + 16 ≤ 32; decide) (.inl hn), hs]
  · rw [State.rd_inc_same _ _ _ (by show 16 + 16 ≤ 32; decide), State.iolShows, State.rd_wr_ne _ _ (by show 29 + 3 ≤ 32; decide) (.inl hn.symm),
      State.rd_wr_ne _ _ (by show 27 + 2 ≤ 32; decide) (.inl hn.symm)]
    rfl
  · rw [State.inc_pctl, hp]

/-- The master is restarted. -/
theorem State.iolRestart_does (s : State) (p : Nat) : (s.iolRestart p).iolTries p = 0 ∧ (s.iolRestart p).rd (R.PCTL_IOL_STAT_COM_DET p) = 0 ∧
    (s.iolRestart p).rd (R.PCTL_IOL_STAT_STATE p) = if ¬ s.ctlOn cIol p then 0 else if s.iolComm p then iolStartup else iolSio := by
  obtain ⟨hc, hs, hp⟩ := (s.setTries p 0).iolShows_does p (c := 0) (st := if ¬ s.ctlOn cIol p then 0 else if s.iolComm p then iolStartup else iolSio)
    (by decide) (by repeat' split
                    all_goals decide)
  exact ⟨(State.iolTries_of hp p).trans (State.setTries_iolTries _ _ _), hc, hs⟩

/-- L+ has been off for 1 s. -/
def State.lplusBack (s : State) (p : Nat) : State := { s with pctl := { s.pctl with lplusOff := s.pctl.lplusOff.filter (· ≠ p) } }

theorem State.lplusBack_does (s : State) (p : Nat) : p ∉ (s.lplusBack p).pctl.lplusOff ∧ (s.lplusBack p).regs = s.regs ∧
  (s.lplusBack p).fld = s.fld :=
  ⟨fun h => of_decide_eq_true (List.mem_filter.mp h).2 rfl, rfl, rfl⟩

/-- Process data in of a master in hardware mode that operates its device. -/
theorem exec_iolPdReceive {p : Fin 64} {s : State} (valid : Bool) (d : List Byte) (hc : s.iolComm p = true) (ho : s.rd
  (R.PCTL_IOL_STAT_STATE p) = iolOperate)
    (hr : s.ctlRaw cIol p = false) (hf : s.flag (R.PCTL_IOL_FMT_IN_EN p) = true) : exec (.iolPdReceive p valid d) s =
      if valid then .next ((s.condCtl cIol p qFault false).decodeFrame (s.rd (R.PCTL_IOL_FMT_FMT_IN p)) d) else .next
          (s.condCtl cIol p qFault true) :=
  (if_neg fun h => h.elim (fun h => h hc) fun h => h ho).trans ((if_neg (Bool.eq_false_iff.mp hr)).trans (if_neg (not_not.mpr hf)))

/-- An event of a device, in hardware mode. -/
theorem exec_iolEventReceive {p : Fin 64} {s : State} (d : List Byte) (hc : s.iolComm p = true) (hd : s.rd (R.PCTL_IOL_STAT_COM_DET p) ≠ 0)
    (hr : s.ctlRaw cIol p = false) : exec (.iolEventReceive p d) s = .next (s.inc (R.PCTL_IOL_STAT_EVENTS p)).settle := by
  have hq : (s.inc (R.PCTL_IOL_STAT_EVENTS p)).ctlRaw cIol p = false :=
    (State.flag_inc_ne _ _ (by show 0 + 16 ≤ 32; decide) (.inl (by show 0xe1404 + 0x8 * p.val ≠ 0xe1000 + 0x10 * p.val; omega))).trans hr
  refine (if_neg fun h => h.elim (fun h => h hc) hd).trans ?_
  rw [if_neg (Bool.eq_false_iff.mp hq)]

/-! ### The obligation -/

/-- Settles O48: the serial buses, and what goes out on them. -/
theorem serialBuses : Obligations.SerialBuses := by
  unfold Obligations.SerialBuses
  refine ⟨?_, ?_, ?_, ?_, ?_, fun i s hq hp => State.pollEnd_last hq hp, ?_, ?_, ?_, ?_, fun p k i o b s ho hp => State.opData_written b ho hp, ?_,
      ?_, ?_,
    ?_, ?_, fun p d s hc hd hr => exec_iolEventReceive d hc hd hr, ?_, ?_, ?_, fun p s h => if_neg h, ?_, ?_, ?_⟩
  · intro i p x f s hp ho hr he
    obtain ⟨hp64, -⟩ := State.ctlPlace_lt (by decide) hp
    obtain ⟨h1, h2, h3, h4, -, -⟩ := State.badBlock_does (s := s) i.isLt hp64 x
    refine ⟨s.badBlock i p x, (exec_uartBlockEnd_bad hp ho hr he).trans ?_, h1, h2, h3, h4⟩
    rw [State.offered_of (State.rawIn_now _ _ _)]
  · intro i p x f s hp ho hs he hr
    obtain ⟨pc, pb, ps, -⟩ := s.recognise_beside p x 3
    refine ⟨s.recognise p x 3, (exec_uartBlockEnd_good hp ho hr hs he).trans ?_, s.recognise_shows p x (by decide), pc, pb, ps⟩
    rw [State.offered_of (State.rawIn_now _ _ _)]
  · intro i m b s hm hc hb hs ho hr
    exact congrArg (fun t : State => Host.Outcome.next t.settle) (State.modbusIn_poll ho hr hm hc hb hs)
  · intro i m s hm
    exact ⟨s.markMissed (s.pollPoints m) true, congrArg (fun t : State => Host.Outcome.next t.settle) (State.modbusTimeout_poll hm), rfl⟩
  · intro i x s h
    exact congrArg (fun t : State => Host.Outcome.next t.settle) (if_pos (h.imp_left Bool.eq_false_iff.mp))
  · intro i p o b s hm hp hb hl ho hr
    exact congrArg (fun t : State => Host.Outcome.next t.settle) (State.modbusIn_data ho hr hm hp hb hl)
  · intro i p c o s hm hp hb ho hr
    exact ⟨congrArg (fun t : State => Host.Outcome.next t.settle) (State.modbusIn_exception ho hr hm hp hb c),
      congrArg (fun t : State => Host.Outcome.next t.settle) (State.modbusIn_bad ho hr hm hp hb),
      congrArg (fun t : State => Host.Outcome.next t.settle) ((State.modbusTimeout_op hm hp).trans (if_neg (Bool.eq_false_iff.mp hb)))⟩
  · intro i p o s hm hp hb
    exact congrArg (fun t : State => Host.Outcome.next t.settle) ((State.modbusTimeout_op hm hp).trans (if_pos hb))
  · exact fun p q c b o s h => ⟨exec_isduResponse_data h b, exec_isduResponse_error h c, exec_isduTimeout_op h⟩
  · intro k i x r s hx ho hr hm hk
    refine ⟨fun hc => ?_, fun hc => ?_, fun hc => exec_rawSendDone_lost hx hm ho hr hc, fun hc => exec_rawSendDone_never hx hc⟩
    · rw [exec_rawSendDone_ok hx hm ho hr hk, if_neg hc]
    · rw [exec_rawSendDone_ok hx hm ho hr hk, if_pos hc]
  · exact fun i x r s hx ho hr hm => ⟨s.iolSends i x, exec_rawSendDone_iol hx ho hr hm, s.iolSends_beside i x⟩
  · intro k i ok s h
    refine ⟨?_, ?_⟩
    · show execRawSendDone k i ok s = _
      unfold execRawSendDone
      cases hx : s.nextTx k i with
      | none => rfl
      | some x => exact if_pos (.inr (.inl (Bool.eq_false_iff.mp (h.resolve_left fun h => nomatch hx.symm.trans h))))
    · show execObjectFrameSent k i s = _
      unfold execObjectFrameSent
      cases hx : s.nextTx k i with
      | none => rfl
      | some x => exact if_pos (.inr (Bool.eq_false_iff.mp (h.resolve_left fun h => nomatch hx.symm.trans h)))
  · intro k i x s hx ho hr hm
    refine ⟨fun hc => ?_, fun hc => ?_⟩
    · rw [exec_objectFrameSent hx hm ho hr, if_neg hc]
    · rw [exec_objectFrameSent hx hm ho hr, if_pos hc]
  · exact fun p d s hc ho hr hf => ⟨(exec_iolPdReceive true d hc ho hr hf).trans (if_pos rfl),
      (exec_iolPdReceive false d hc ho hr hf).trans (if_neg Bool.false_ne_true)⟩
  · intro p c v d s hc hf h4 hk
    obtain ⟨h1, h2, h3⟩ := (s.setTries p 0).iolShows_does p h4 (st := iolOperate) (by decide)
    exact ⟨(s.setTries p 0).iolShows p c iolOperate, congrArg Host.Outcome.next (State.iolWakeup_found hc hf hk), h1, h2,
      (State.iolTries_of h3 p).trans (State.setTries_iolTries _ _ _)⟩
  · intro p s hc hf ht
    exact ⟨_, congrArg Host.Outcome.next (State.iolWakeup_none hc hf ht), s.startup_does p⟩
  · exact fun p s h => ⟨s.lplusBack p, if_pos h, s.lplusBack_does p⟩
  · intro p s ho
    obtain ⟨h1, h2, h3⟩ := s.iolRestart_does p
    exact ⟨s.iolRestart p, rfl, h1, h2, h3.trans (if_neg (not_not.mpr ho))⟩
  · intro p s ho
    obtain ⟨-, h2, h3⟩ := s.iolRestart_does p
    exact ⟨s.iolRestart p, rfl, h3.trans (if_pos (Bool.eq_false_iff.mp ho)), h2⟩
  · exact fun p s hc hd => ⟨s.iolLoses p, if_pos ⟨hc, hd⟩, s.iolLoses_does p⟩

end Sys2Proof.Machine
end

section
/-!
PROOFS. Link authentication and rekey (R420 to R424).
-/
namespace Sys2Proof.Machine

/-! ### What a message on its way out leaves -/

/-- The registers, the ports and the switch core. -/
def State.link (s : State) : NMap Word × RingSt × Switch := (s.regs, s.ring, s.sw)

theorem of_link {s t : State} (h : t.link = s.link) : t.regs = s.regs ∧ t.ring = s.ring ∧ t.sw = s.sw := by
  simpa only [State.link, Prod.mk.injEq] using h

theorem State.isUp_of_link {s t : State} (h : t.link = s.link) (i : Nat) : t.isUp i = s.isUp i := by
  obtain ⟨hr, hg, -⟩ := of_link h
  exact State.isUp_of hr (by unfold State.port; rw [hg])

/-- A port that authenticates is not UP. -/
theorem State.authOpen_not_up {s : State} {i : Nat} (h : s.authOpen i = true) : s.isUp i = false := by
  have hp : (s.port i).st = .auth := of_decide_eq_true h
  refine decide_eq_false ?_
  rw [hp]
  exact fun h => nomatch h.2

theorem State.emitFrame_beside (s : State) (i : Nat) (f : Frame) (e : Emit) : ((s.emitFrame i f).emit e).link = s.link ∧
    ((s.emitFrame i f).emit e).sec = s.sec := ⟨rfl, rfl⟩

/-- A message on a lane that authenticates goes out at once. -/
theorem State.sendAuth_link {s : State} {i : Nat} (h : s.isUp i = false) (msg reason : Nat) (body : List Byte) :
    (s.sendAuth i msg reason body).link = s.link := by
  unfold State.sendAuth
  induction fragments msg reason body generalizing s with
  | nil => rfl
  | cons p l ih =>
    rw [List.foldl_cons]
    dsimp only
    rw [if_neg (Bool.eq_false_iff.mp h)]
    exact (ih ((State.isUp_of_link (State.emitFrame_beside s i _ _).1 i).trans h)).trans (State.emitFrame_beside s i _ _).1

/-- No message changes the keys. -/
theorem State.sendAuth_sec (s : State) (i msg reason : Nat) (body : List Byte) : (s.sendAuth i msg reason body).sec = s.sec := by
  refine Quiet.foldl (g := State.sec) _ (fun u p => ?_) _ s
  dsimp only
  split
  · exact congrArg Calm.sec (State.submit_calm _ _ _ _)
  · rfl

theorem State.setSec_beside (s : State) (i : Nat) (x : Lane) : (s.setSec i x).link = s.link ∧ (s.setSec i x).sec.drbg = s.sec.drbg := ⟨rfl, rfl⟩

theorem State.sec_of {s t : State} (h : t.sec = s.sec) (i : Nat) : t.sec_ i = s.sec_ i := by
  unfold State.sec_
  rw [h]

theorem State.setAuth_auth (s : State) (i : Nat) (h : Hand) : ((s.setAuth i h).sec_ i).auth = some h :=
  congrArg Lane.auth (State.setSec_sec_ _ _ _)

theorem State.setRekey_rekey (s : State) (i : Nat) (h : Hand) : ((s.setRekey i h).sec_ i).rekey = some h :=
  congrArg Lane.rekey (State.setSec_sec_ _ _ _)

theorem State.setAuth_beside (s : State) (i : Nat) (h : Hand) : (s.setAuth i h).link = s.link ∧ (s.setAuth i h).sec.drbg = s.sec.drbg :=
  State.setSec_beside _ _ _

/-! ### The shares and the signatures -/

theorem State.shares_beside (s : State) : s.shares.1 = s.sec.drbg ∧ s.shares.2.2.link = s.link ∧ s.shares.2.2.sec.drbg = s.sec.drbg + 1 ∧
    s.shares.2.2.sec.lanes = s.sec.lanes := ⟨rfl, rfl, rfl, rfl⟩

theorem State.answer_beside (s : State) (b : List Byte) : (s.answer b).2.2.link = s.link ∧ (s.answer b).2.2.sec.lanes = s.sec.lanes := ⟨rfl, rfl⟩

theorem State.signBoth_link (s : State) (m : List Byte) : (s.signBoth m).2.link = s.link := (rfl)

/-- The message that a PROOF signs. -/
def State.proofDigest (s : State) (i : Nat) (script cert : List Byte) : List Byte :=
  digest (script ++ cert ++ s.claims ++ label (if s.isInit i then "dvl proof i" else "dvl proof r"))

theorem State.sendProof_link {s : State} {i : Nat} (h : s.isUp i = false) (script : List Byte) : (s.sendProof i script).2.link = s.link := by
  have hc := State.sendAuth_link h 3 0 (s.chain 0 ++ s.chain 1)
  have hs := State.signBoth_link (s.sendAuth i 3 0 (s.chain 0 ++ s.chain 1))
    ((s.sendAuth i 3 0 (s.chain 0 ++ s.chain 1)).proofDigest i script (s.chain 0 ++ s.chain 1))
  have hu := (State.isUp_of_link (hs.trans hc) i).trans h
  exact (State.sendAuth_link hu 4 0 _).trans (hs.trans hc)

/-! ### What arrives (R149, R154) -/

/-- On a lane that authenticates the frames of a message change nothing. -/
theorem State.authIn_open {s : State} {i : Nat} (h : s.authOpen i = true) (msg : Nat) (fs : List Frame) :
    s.authIn i msg fs = ((s.authIn i msg fs).1, s) := by
  unfold State.authIn
  dsimp only
  rw [if_neg (Bool.eq_false_iff.mp (State.authOpen_not_up h))]

theorem State.expects_open {s : State} {i msg : Nat} {fs : List Frame} {x : Hand × List Byte}
  (h : s.expects i msg fs = some x) : s.authOpen i = true := by
  unfold State.expects at h
  split at h
  · split at h
    · exact (‹_ ∧ _›).1
    · cases h
  · cases h

/-! ### Authentication (R421, R422) -/

/-- The initiator's HELLO goes out. -/
def State.hellos (s : State) (i : Nat) : State :=
  (s.shares.2.2.sendAuth i 1 0 s.shares.2.1).setAuth i { want := 2, script := s.shares.2.1, eph := s.shares.1 }

theorem State.sayHello_drawn {s : State} {i : Nat} (h : s.drbgOk = true) : s.sayHello i = s.hellos i := if_neg (not_not.mpr h)

theorem State.hellos_does {s : State} {i : Nat} (h : s.authOpen i = true) :
    ((s.hellos i).sec_ i).auth = some { want := 2, script := s.shares.2.1, eph := s.sec.drbg } ∧ (s.hellos i).sec.drbg = s.sec.drbg + 1 ∧
    (s.hellos i).link = s.link := by
  obtain ⟨-, hl, hd, -⟩ := s.shares_beside
  have hu := (State.isUp_of_link hl i).trans (State.authOpen_not_up h)
  obtain ⟨al, ad⟩ := (s.shares.2.2.sendAuth i 1 0 s.shares.2.1).setAuth_beside i { want := 2, script := s.shares.2.1, eph := s.shares.1 }
  refine ⟨State.setAuth_auth _ _ _, ad.trans ?_, al.trans ((State.sendAuth_link hu 1 0 _).trans hl)⟩
  rw [State.sendAuth_sec, hd]

/-- The responder's REPLY, CERT and PROOF go out. -/
def State.replies (s : State) (i : Nat) (b : List Byte) : List Byte × State :=
  ((s.answer b).2.2.sendAuth i 2 0 (s.answer b).1).sendProof i (b ++ (s.answer b).1)

theorem State.replies_link {s : State} {i : Nat} (h : s.authOpen i = true) (b : List Byte) : (s.replies i b).2.link = s.link := by
  have hl := (s.answer_beside b).1
  have hu := (State.isUp_of_link hl i).trans (State.authOpen_not_up h)
  have hs := State.sendAuth_link hu 2 0 (s.answer b).1
  exact (State.sendProof_link ((State.isUp_of_link hs i).trans hu) _).trans (hs.trans hl)

/-- The responder's authentication once it has answered. -/
def State.replied (s : State) (i : Nat) (b : List Byte) : Hand :=
  { want := 3, script := (s.replies i b).1, prk := Config.hkdfExtract (digest (b ++ (s.answer b).1)) (s.answer b).2.1 }

theorem State.helloIn_drawn {s : State} {i : Nat} (b : List Byte) (h : s.drbgOk = true) :
    s.helloIn i b = (s.replies i b).2.setAuth i (s.replied i b) := if_neg (not_not.mpr h)

theorem authOpen_idle {s : State} {i : Nat} (ho : s.authOpen i = true) (ha : (s.sec_ i).auth = none) :
    ¬ (¬ s.authOpen i = true ∨ (s.sec_ i).auth.isSome = true) := by
  rw [ha]
  rintro (h | h)
  · exact h ho
  · cases h

theorem exec_hello_starts {i : Fin 5} {s : State} (ho : s.authOpen i = true) (ha : (s.sec_ i).auth = none) (hi : s.isInit i = true) :
    exec (.hello i []) s = .next (s.sayHello i) := (if_neg (authOpen_idle ho ha)).trans ((if_pos rfl).trans (if_pos hi))

theorem exec_hello_arrives {i : Fin 5} {fs : List Frame} {b : List Byte} {s : State} (ho : s.authOpen i = true) (ha : (s.sec_ i).auth = none)
    (hi : s.isInit i = false) (hf : fs ≠ []) (hb : (s.authIn i 1 fs).1 = some b) (hl : b.length = 1697) :
    exec (.hello i fs) s = .next (s.helloIn i b) := by
  refine (if_neg (authOpen_idle ho ha)).trans ((if_neg hf).trans ?_)
  rw [State.authIn_open ho, hb]
  exact if_neg fun h => h.elim (Bool.eq_false_iff.mp hi) fun h => h hl

section
variable {i : Fin 5} {fs : List Frame} {h : Hand} {b : List Byte} {s : State}

theorem exec_reply_expected (he : s.expects i 2 fs = some (h, b)) (hl : b.length = 1697) (hd : s.drbgOk = true) : exec (.reply i fs) s =
    .next (s.setAuth i { h with want := 3, script := h.script ++ b, prk := Config.hkdfExtract (digest (h.script ++ b)) (secretOf h.eph b) }) := by
  show execReply i fs s = _
  unfold execReply
  rw [he]
  exact (if_neg (not_not.mpr hl)).trans (if_neg (not_not.mpr hd))

theorem exec_cert_expected (he : s.expects i 3 fs = some (h, b)) : exec (.cert i fs) s =
    if Config.chainOk b then .next (s.setAuth i { h with want := 4, script := h.script ++ b, cert := b }) else .next (s.authFail i 0x01) := by
  show execCert i fs s = _
  unfold execCert
  rw [he]
  exact ite_not _ _ _

theorem exec_proof_expected (he : s.expects i 4 fs = some (h, b)) : exec (.proof i fs) s =
    if s.proofReason i h b ≠ 0 then .next (s.authFail i (s.proofReason i h b))
    else if s.isInit i then .next (((s.sendProof i (h.script ++ b)).2.sendAuth i 5 0 (Config.hmac (finishKey h.prk) (s.sendProof i
        (h.script ++ b)).1)).setAuth i
      { h with want := 5, script := (s.sendProof i (h.script ++ b)).1 })
    else .next (s.setAuth i { h with want := 5, script := h.script ++ b }) := by
  show execProof i fs s = _
  unfold execProof
  rw [he]

theorem State.proofReason_bad (h : Hand) (b : List Byte) {i : Nat} (hp : s.proofOk i h b = false) : s.proofReason i h b = 0x07 := by
  unfold State.proofReason
  dsimp only
  rw [hp]
  rfl

theorem exec_finish_init (he : s.expects i 5 fs = some (h, b)) (hi : s.isInit i = true) : exec (.finish i fs) s =
    if b = Config.hmac (finishKey h.prk) (h.script ++ Config.hmac (finishKey h.prk) h.script)
    then .next (s.enterUp i (trafficKeys h.prk h.script true)).settle else .next (s.authFail i 0x08) := by
  show execFinish i fs s = _
  unfold execFinish
  rw [he]
  dsimp only
  rw [hi]
  exact ite_not _ _ _

theorem exec_finish_responder (he : s.expects i 5 fs = some (h, b)) (hi : s.isInit i = false) (hb : b = Config.hmac (finishKey h.prk) h.script) :
    exec (.finish i fs) s = .next ((s.sendAuth i 5 0 (Config.hmac (finishKey h.prk) (h.script ++ b))).enterUp i
        (trafficKeys h.prk h.script false)).settle :=
  by
  show execFinish i fs s = _
  unfold execFinish
  rw [he]
  dsimp only
  rw [hi]
  exact if_neg (not_not.mpr hb)

end

/-- The port of a lane that enters UP. -/
def Port.entered (p : Port) : Port :=
  { p with st := .up, epoch := false, rxEpoch := false, prevKey := false, fcnt := 0, fifo := [], rewind := [], failed := 0, nakFor := none }

/-- The delay of a lane is measured anew. -/
def State.remeasure (s : State) (i : Nat) : State := { s with td := { s.td with pdelayHave := s.td.pdelayHave.filter (· ≠ i) } }

theorem State.remeasure_beside (s : State) (i : Nat) : (s.remeasure i).ring = s.ring ∧ (s.remeasure i).sec = s.sec := ⟨rfl, rfl⟩

theorem State.enterUp_twin {s : State} {i : Nat} (k : Lane) (hs : s.serves i = false) (hi : 4 ≤ i) :
    s.enterUp i k = ((s.setSec i k).stepPort i Port.entered).remeasure i := by
  have hs : ¬ (s.setSec i k).serves i = true := Bool.eq_false_iff.mp hs
  unfold State.enterUp
  dsimp only
  rw [if_neg hs, if_pos (.inl hi), if_neg (by omega)]
  rfl

theorem State.enterUp_does {s : State} {i : Nat} (k : Lane) (hs : s.serves i = false) (hi : 4 ≤ i) : ((s.enterUp i k).port i).st = .up ∧
    ((s.enterUp i k).port i).epoch = false ∧ ((s.enterUp i k).port i).fcnt = 0 ∧ (s.enterUp i k).sec_ i = k := by
  obtain ⟨hr, hc⟩ := ((s.setSec i k).stepPort i Port.entered).remeasure_beside i
  have hp : (((s.setSec i k).stepPort i Port.entered).remeasure i).port i = Port.entered ((s.setSec i k).port i) := by
    unfold State.port
    rw [hr]
    exact (State.stepPort_port _ _ _ _).trans (if_pos rfl)
  rw [State.enterUp_twin k hs hi, hp]
  exact ⟨rfl, rfl, rfl, (State.sec_of hc i).trans ((State.sec_of (State.setPort_sec _ _ _) i).trans (State.setSec_sec_ _ _ _))⟩

/-! ### A check that fails -/

theorem State.authFail_open {s : State} {i : Nat} (h : s.authOpen i = true) (r : Nat) : s.authFail i r = (s.sendAuth i 0x0F r []).bringupFail i 4 :=
  if_neg (Bool.eq_false_iff.mp (State.authOpen_not_up h))

theorem State.bringupFail_port (s : State) (i c : Nat) : (s.bringupFail i c).port i = (s.port i).failedBy c := by
  rw [State.bringupFail_eq]
  unfold State.port
  rw [State.raiseC_ring]
  exact State.setPort_port _ _ _

/-- The frame as it leaves, on a lane that ends with a REJECT. -/
def State.rejectFrame (s : State) (i : Nat) (f : Frame) (again : Bool) : Frame :=
  { f with epoch := (s.port i).epoch, fcnt := (s.port i).fcnt, lseq := if again then f.lseq else if f.replayed then (s.port i).lseq else 0
           ce := f.ce || s.overThr i f }

/-- The port once the frame has left. -/
def State.rejectPort (s : State) (i : Nat) (f : Frame) (again : Bool) : Port :=
  let p := s.port i
  let keep := (s.rejectFrame i f again).replayed ∧ (s.rejectFrame i f again).mark = .valid ∧ ¬ again
  { p with fcnt := p.fcnt + 1, busy := true, lseq := if keep then (p.lseq + 1) % 4096 else p.lseq
           fifo := if keep then p.fifo ++ [s.rejectFrame i f again] else p.fifo }

/-- The REJECT that was waiting has gone: the port goes DOWN. -/
theorem State.transmit_reject {s : State} {i : Nat} {f : Frame} (again : Bool) (hc : (s.port i).fcnt < 2 ^ 32) (ht : f.typ = fMgmt) (ho : f.op = 4)
    (hm : leAt f.payload 0 1 = 0x0F) (hr : (s.sec_ i).rekey.any (fun h => h.want = wReject) = true) :
    s.transmit i f again = ((s.emitFrame i (s.rejectFrame i f again)).setPort i (s.rejectPort i f again)).linkDown i 4 := by
  have hty : (s.rejectFrame i f again).typ = fMgmt := ht
  have hs : s.stampFrame i (s.rejectFrame i f again) = s.rejectFrame i f again := if_pos (.inl (by rw [hty]; decide))
  have hl : s.noteLeft i (s.rejectFrame i f again) = s := if_neg (fun h => absurd (hty.symm.trans h.1) (by decide))
  have hn : s.noteStamp i (s.rejectFrame i f again) = s := if_pos (.inl (by rw [hty]; decide))
  have ha (u : State) (hu : u.sec = s.sec) : u.afterSend i (s.rejectFrame i f again) = u := by
    obtain ⟨h, hh, hw⟩ := (Option.any_eq_true _ _).mp hr
    have hw : h.want = wReject := of_decide_eq_true hw
    have hk : (u.sec_ i).rekey = some h := by rw [State.sec_of hu, hh]
    unfold State.afterSend
    rw [hk]
    exact if_neg fun h' => absurd (hw.symm.trans h'.1) (by decide)
  have hg : (s.sec_ i).rekey.any (fun h => h.want = wReject) = true ∧ (s.rejectFrame i f again).typ = fMgmt ∧ (s.rejectFrame i f again).op = 4 ∧
      leAt (s.rejectFrame i f again).payload 0 1 = 0x0F := ⟨hr, ht, ho, hm⟩
  unfold State.transmit
  dsimp only
  rw [if_neg (Nat.not_le.mpr hc), ← State.rejectFrame, hs, if_pos hg, hl, hn, ha _ (by rw [State.setPort_sec]; rfl)]
  rfl

/-! ### REJECT and the step timeout -/

theorem exec_reject_open {i : Fin 5} {fs : List Frame} {s : State} (hb : (s.authIn i 0x0F fs).1.isSome = true) (ho : s.authOpen i = true) :
    exec (.reject i fs) s = .next (s.bringupFail i 4) := by
  have hn : ¬ (s.authIn i 0x0F fs).1.isNone = true := by
    rw [Option.isNone_eq_false_iff.mpr hb]
    exact Bool.false_ne_true
  show execReject i fs s = _
  unfold execReject
  rw [State.authIn_open ho]
  exact (if_neg hn).trans ((if_neg (Bool.eq_false_iff.mp (State.authOpen_not_up ho))).trans (if_pos ho))

theorem exec_reject_up {i : Fin 5} {fs : List Frame} {b : List Byte} {s t : State} (h : s.authIn i 0x0F fs = (some b, t)) (hu : t.isUp i = true) :
    exec (.reject i fs) s = .next (t.linkDown i 4).settle := by
  show execReject i fs s = _
  unfold execReject
  rw [h]
  exact (if_neg Bool.false_ne_true).trans (if_pos hu)

/-! ### Rekey (R424) -/

/-- The initiator's REKEY goes out. -/
def State.rekeys (s : State) (i : Nat) : State :=
  (s.shares.2.2.sendAuth i 6 0 s.shares.2.1).setRekey i { want := 7, script := s.shares.2.1, eph := s.shares.1 }

theorem State.startRekey_drawn {s : State} (i : Nat) (h : s.drbgOk = true) : s.startRekey i = s.rekeys i := if_neg (not_not.mpr h)

theorem State.rekeys_does (s : State) (i : Nat) : ((s.rekeys i).sec_ i).rekey = some { want := 7, script := s.shares.2.1, eph := s.sec.drbg } ∧
    (s.rekeys i).sec.drbg = s.sec.drbg + 1 := by
  refine ⟨State.setRekey_rekey _ _ _, (State.setSec_beside _ _ _).2.trans ?_⟩
  rw [State.sendAuth_sec]
  exact s.shares_beside.2.2.1

theorem rekey_idle {s : State} {i : Nat} (hu : s.isUp i = true) (hr : (s.sec_ i).rekey = none) :
    ¬ (¬ s.isUp i = true ∨ (s.sec_ i).rekey.isSome = true) := by
  rw [hr]
  rintro (h | h)
  · exact h hu
  · cases h

/-- The responder's answer to a REKEY. -/
def State.rekeyAnswer (s : State) (i : Nat) (b : List Byte) : State :=
  ((s.answer b).2.2.sendAuth i 7 0 (s.answer b).1).setRekey i
    { want := 8, script := b ++ (s.answer b).1, prk := Config.hkdfExtract ((s.answer b).2.2.sec_ i).next (s.answer b).2.1 }

theorem State.answer_sec_ (s : State) (b : List Byte) (i : Nat) : (s.answer b).2.2.sec_ i = s.sec_ i := by
  unfold State.sec_
  rw [(s.answer_beside b).2]

section
variable {i : Fin 5} {fs : List Frame} {h : Hand} {b : List Byte} {s t : State}

theorem exec_rekey_answers (ha : s.authIn i 6 fs = (some b, t)) (hu : t.isUp i = true) (hi : t.isInit i = false) (hl : b.length = 1697)
    (hd : t.drbgOk = true) (hr : (t.sec_ i).rekey.any (fun h => h.want = wReject) = false) : exec (.rekey i fs) s = .next (t.rekeyAnswer i b) := by
  show execRekey i fs s = _
  unfold execRekey
  rw [ha]
  refine if_neg ?_
  rintro (h | h | h | h | h)
  · exact h hu
  · exact Bool.eq_false_iff.mp hi h
  · exact h hl
  · exact h hd
  · exact Bool.eq_false_iff.mp hr h

/-- What the initiator's rekey keeps of a REKEY_REPLY `b`. -/
def Hand.replied (h : Hand) (next b : List Byte) : Hand :=
  { h with want := 8, script := h.script ++ b, prk := Config.hkdfExtract next (secretOf h.eph b) }

theorem exec_rekeyReply_expected (he : s.expectsRekey i 7 fs = some (h, b)) (ht : (s.authIn i 7 fs).2 = t) (hl : b.length = 1697)
  (hd : t.drbgOk = true) :
    exec (.rekeyReply i fs) s = .next ((t.sendAuth i 8 0 (Config.hmac (finishKey (h.replied (t.sec_ i).next b).prk) (h.script ++ b))).setRekey i
      (h.replied (t.sec_ i).next b)) := by
  show execRekeyReply i fs s = _
  unfold execRekeyReply
  rw [he]
  dsimp only
  rw [ht]
  exact if_neg fun h => h.elim (fun h => h hl) fun h => h hd

theorem exec_rekeyFinish_init (he : s.expectsRekey i 8 fs = some (h, b)) (ht : (s.authIn i 8 fs).2 = t) (hi : t.isInit i = true) :
    exec (.rekeyFinish i fs) s = if b = Config.hmac (finishKey h.prk) (h.script ++ Config.hmac (finishKey h.prk) h.script)
      then .next (t.switchKeys i (trafficKeys h.prk h.script true)) else .next (t.authFail i 0x08).settle := by
  show execRekeyFinish i fs s = _
  unfold execRekeyFinish
  rw [he]
  dsimp only
  rw [ht, hi]
  exact ite_not _ _ _

theorem exec_rekeyFinish_responder (he : s.expectsRekey i 8 fs = some (h, Config.hmac (finishKey h.prk) h.script)) (ht : (s.authIn i 8 fs).2 = t)
    (hi : t.isInit i = false) : exec (.rekeyFinish i fs) s = .next ((t.setRekey i { h with want := wSend }).sendAuth i 8 0
      (Config.hmac (finishKey h.prk) (h.script ++ Config.hmac (finishKey h.prk) h.script))) := by
  show execRekeyFinish i fs s = _
  unfold execRekeyFinish
  rw [he]
  dsimp only
  rw [ht, hi]
  exact if_neg (not_not.mpr rfl)

end

/-- A switch of the sending key. -/
theorem State.switchKeys_does (s : State) (i : Nat) (k : Lane) : ((s.switchKeys i k).port i).epoch = (!(s.port i).epoch) ∧
    ((s.switchKeys i k).port i).fcnt = 0 ∧ ((s.switchKeys i k).port i).prevKey = true ∧
    (s.switchKeys i k).sec_ i = { k with oldKey := (s.sec_ i).rxKey } ∧ ∀ j, j ≠ i → (s.switchKeys i k).port j = s.port j := by
  have hp : (s.switchKeys i k).port i = { s.port i with epoch := !(s.port i).epoch, fcnt := 0, prevKey := true } := State.setPort_port _ _ _
  rw [hp]
  exact ⟨rfl, rfl, rfl, (State.sec_of (State.setPort_sec _ _ _) i).trans (State.setSec_sec_ _ _ _), fun j hj => State.setPort_port_ne _ _ _ hj⟩

/-- A rekey that starts again. -/
def State.rekeyAgain (s : State) (i : Nat) : State := s.setSec i { s.sec_ i with rekey := none, restarts := (s.sec_ i).restarts + 1 }

theorem State.isInit_of_regs {s t : State} (h : t.regs = s.regs) (i : Nat) : t.isInit i = s.isInit i := by
  have hw : t.peerSerial = s.peerSerial := by
    unfold State.peerSerial
    exact State.words_of_word 4 fun o _ _ => State.word_of_regs h o
  unfold State.isInit State.firstHub
  rw [hw]
  rfl

theorem rekey_steps {s : State} {i : Nat} (hu : s.isUp i = true) (hr : (s.sec_ i).rekey.any (fun h => h.want = 7 ∨ h.want = 8) = true) :
    ¬ (¬ s.isUp i = true ∨ ¬ (s.sec_ i).rekey.any (fun h => h.want = 7 ∨ h.want = 8) = true) := fun h => h.elim (fun h => h hu) fun h => h hr

theorem exec_rekeyStepTimeout_again {i : Fin 5} {s : State} (hu : s.isUp i = true)
    (hr : (s.sec_ i).rekey.any (fun h => h.want = 7 ∨ h.want = 8) = true) (hn : (s.sec_ i).restarts ≠ 2) :
    exec (.rekeyStepTimeout i) s = .next (if s.isInit i then (s.rekeyAgain i).startRekey i else s.rekeyAgain i) := by
  have hi : (s.rekeyAgain i).isInit i = s.isInit i := State.isInit_of_regs rfl i
  refine (if_neg (rekey_steps hu hr)).trans ((if_neg hn).trans ?_)
  show (if (s.rekeyAgain i).isInit i then _ else _) = _
  rw [hi]
  exact (apply_ite Host.Outcome.next _ _ _).symm

/-! ### The obligation -/

/-- Settles O56: the authentication of a link, and its rekey. -/
theorem linkAuthentication : Obligations.LinkAuthentication := by
  unfold Obligations.LinkAuthentication
  refine ⟨?_, ?_, ?_, fun i fs s h => if_pos (h.imp_left Bool.eq_false_iff.mp), fun i fs h b s he hl hd => exec_reply_expected he hl hd,
    fun i fs h b s he => exec_cert_expected he, fun i fs h b s he hr => (exec_proof_expected he).trans (if_pos hr), ?_,
    fun i h b s hp => State.proofReason_bad h b hp, fun i fs h b s he hi => exec_finish_init he hi, ?_, fun i k s hs hi => State.enterUp_does k hs hi,
    ?_, fun i r s hu => if_pos hu, ?_, fun i fs s hb ho => exec_reject_open hb ho, fun i fs b t s h hu => exec_reject_up h hu,
    fun i s ho ha => if_pos ⟨ho, ha⟩, ?_, ?_, ?_, ?_, ?_, ?_, ?_, fun i fs h b t s he ht hi => exec_rekeyFinish_init he ht hi,
    fun i fs h t s he ht hi => exec_rekeyFinish_responder he ht hi, fun i k s => s.switchKeys_does i k, ?_, ?_⟩
  · intro i s ho ha hi hd
    obtain ⟨h1, h2, h3⟩ := State.hellos_does ho
    obtain ⟨hr, hg, hs⟩ := of_link h3
    exact ⟨s.hellos i, (exec_hello_starts ho ha hi).trans (congrArg Host.Outcome.next (State.sayHello_drawn hd)), h1, h2, hg, hs, hr⟩
  · exact fun i s ho ha hi hd => (exec_hello_starts ho ha hi).trans (congrArg Host.Outcome.next (if_pos (Bool.eq_false_iff.mp hd)))
  · intro i fs b s ho ha hi hf hb hl hd
    obtain ⟨hr, hg, hs⟩ := of_link (((s.replies i b).2.setAuth_beside i (s.replied i b)).1.trans (State.replies_link ho b))
    exact ⟨_, (exec_hello_arrives ho ha hi hf hb hl).trans (congrArg Host.Outcome.next (State.helloIn_drawn b hd)),
      congrArg (Option.map Hand.want) (State.setAuth_auth _ _ _), hg, hs, hr⟩
  · intro i fs h b s he hr
    have hx := (exec_proof_expected he).trans (if_neg (not_not.mpr hr))
    have hu := State.authOpen_not_up (State.expects_open he)
    refine ⟨fun hi => hx.trans (if_neg (Bool.eq_false_iff.mp hi)), fun hi => ⟨_, hx.trans (if_pos hi), congrArg (Option.map Hand.want)
        (State.setAuth_auth _ _ _), ?_⟩⟩
    have hp := State.sendProof_link hu (h.script ++ b)
    exact (of_link ((State.setAuth_beside _ _ _).1.trans ((State.sendAuth_link ((State.isUp_of_link hp i).trans hu) 5 0 _).trans hp))).2
  · intro i fs h b s he hi hb
    obtain ⟨hr, hg, hs⟩ := of_link (State.sendAuth_link (State.authOpen_not_up (State.expects_open he)) 5 0
      (Config.hmac (finishKey h.prk) (h.script ++ b)))
    exact ⟨_, exec_finish_responder he hi hb, hg, hs, hr⟩
  · intro i r s ho
    rw [State.authFail_open ho, State.bringupFail_port]
    exact ⟨rfl, rfl⟩
  · intro i f again s hc ht ho hm hr
    exact ⟨(s.emitFrame i (s.rejectFrame i f again)).setPort i (s.rejectPort i f again), State.transmit_reject again hc ht ho hm hr,
      congrArg Port.fcnt (State.setPort_port _ _ _)⟩
  · intro i s h
    refine if_neg ?_
    rintro ⟨ho, ha⟩
    rcases h with h | h
    · exact Bool.eq_false_iff.mp h ho
    · rw [h] at ha
      cases ha
  · exact fun i s hu hr hi => (if_neg (rekey_idle hu hr)).trans (if_pos hi)
  · exact fun i s hu hr hi => (if_neg (rekey_idle hu hr)).trans (if_neg (Bool.eq_false_iff.mp hi))
  · intro i s hd
    rw [State.startRekey_drawn i hd]
    exact s.rekeys_does i
  · intro i fs b t s h hu hi hr
    show execRekeyReq i fs s = _
    unfold execRekeyReq
    rw [h]
    exact if_pos ⟨rfl, hu, hi, Option.isNone_iff_eq_none.mpr hr⟩
  · intro i fs b t s h hu hi hl hd hr
    refine ⟨t.rekeyAnswer i b, exec_rekey_answers h hu hi hl hd hr, (State.setRekey_rekey _ _ _).trans ?_⟩
    rw [State.answer_sec_]
  · exact fun i fs h b t s he ht hl hd => ⟨_, exec_rekeyReply_expected he ht hl hd, State.setRekey_rekey _ _ _⟩
  · exact fun i s hu hr hn => (if_neg (rekey_steps hu hr)).trans (if_pos hn)
  · intro i s hu hr hn
    have hx := State.setSec_sec_ s i { s.sec_ i with rekey := none, restarts := (s.sec_ i).restarts + 1 }
    exact ⟨s.rekeyAgain i, exec_rekeyStepTimeout_again hu hr hn, congrArg Lane.rekey hx, congrArg Lane.restarts hx, rfl, rfl⟩

end Sys2Proof.Machine
end
